-- ==== Sys2Proof/Word.lean ====
section
/-! DEFINITION. The words of the model: a byte, and the key under which a value of the object dictionary is kept.
The hardware's registers have many widths (1 to 512 bytes), so a register's value is the natural number its bytes
spell, least significant byte first, cut to the width of its entry where it is written (Machine/Bits.lean). -/

namespace Sys2Proof

/-- One byte, as the bus, the die-link words, the frames and the main array carry it. -/
abbrev Byte := BitVec 8

/-- The key of an entry: its index times 256 plus its subindex, which is HA[24:1] of R10. -/
abbrev Key := Nat

/-- The key of the entry `index.sub` (R10). -/
abbrev key (index sub : Nat) : Key := index * 256 + sub

end Sys2Proof
end

