-- ==== Sys2Proof/Syntax.lean ====
section
/-! DEFINITION. The commands of the block: what comes to it from outside (a host write or read, a frame, a word on a
die link, an edge at a ball) and what happens in it on its own (a timer that runs out, an engine that finishes), one
constructor for each row of spec/opcode_table.json. -/

namespace Sys2Proof

/-- The interfaces that reach the object dictionary (R82 INTERFACE, DETAIL and the USDO flag). -/
inductive Iface where
  | parallel | spi | canSdo | canUsdo
  /-- an RPDO, with its number 0 to 7 -/
  | canPdo (p : Nat)
  | canLss
  /-- a remote request, with the requester's 12-bit address -/
  | fabric (addr : Nat)
deriving DecidableEq, Repr, Inhabited

/-- The bytes of a value as sent: how many, and the number they spell, least significant byte first. -/
structure Datum where
  len : Nat := 0
  val : Nat := 0
deriving DecidableEq, Repr, Inhabited

/-- A path that carries words under R28 to R34: one direction of die link `l`, or a hub internal path. -/
inductive Path where
  | link (l : Nat) (rev : Bool)
  | hub (p : Nat)
deriving DecidableEq, Repr, Inhabited

/-- An SDO or USDO download request: the whole value (expedited, or a USDO or SDO transfer whose bytes are all
present), or the start of a segmented or block transfer with the length announced. -/
inductive Xfer where
  | whole (d : Datum)
  | segmented (size : Nat)
  | block (size : Nat) (crc : Bool)
deriving DecidableEq, Repr, Inhabited

/-- What follows in a transfer: a download segment with its toggle bit, an upload segment request, a block
sub-frame with its sequence number, the end of a block, the confirmation of an upload block, the end of the
transfer with its CRC judged, a command specifier the server does not know, and the client's abort. -/
inductive Seg where
  | down (toggle : Bool) (d : Datum) (last : Bool)
  | up (toggle : Bool)
  | sub (seqno : Nat) (d : Datum) (last : Bool)
  | blockEnd (crcOk : Bool) (pad : Nat)
  | ackBlock (ackseq : Nat) (blksize : Nat)
  | bad
  | abort
deriving DecidableEq, Repr, Inhabited

/-- One phase sample that reaches a DPLL at an update: the candidate entry it belongs to and the phase of that
candidate against the DPLL, in 2^−16 ns. -/
structure PhaseSample where
  entry : Nat := 0
  phase : Int := 0
deriving DecidableEq, Repr, Inhabited


/-- An access to the context store (R404): requester, context, 64-byte line, and the line's new content for a write. -/
structure StoreReq where
  q : Nat := 0
  ctx : Nat := 0
  line : Nat := 0
  write : Option Nat := none
deriving DecidableEq, Repr, Inhabited

/-- A received PTP message as the port hardware hands it to a context (R263, R271): the sender's port identity, the
sequence number, the ingress instant in the context's counter before INGRESS_ADJ, the timestamp it carries, its
correction (all 2^−16 ns), whether more follows, and whether it is itself the follow-up. -/
structure PtpMsg where
  src : Nat := 0
  seq : Nat := 0
  time : Int := 0
  stamp : Int := 0
  corr : Int := 0
  twoStep : Bool := false
  followUp : Bool := false
deriving DecidableEq, Repr, Inhabited

/-- A received Announce: sender, grandmaster and its attributes, as the BMCA compares them (R262). -/
structure Announce where
  src : Nat := 0
  gm : Nat := 0
  prio1 : Nat := 128
  class_ : Nat := 248
  accuracy : Nat := 254
  variance : Nat := 65535
  prio2 : Nat := 128
  steps : Nat := 0
  utc : Int := 37
  flags : Nat := 0
  source : Nat := 160
deriving DecidableEq, Repr, Inhabited

/-- A received Signaling TLV (R270): 0 request, 1 grant, 2 cancel; the message type, its log interval, the duration in
seconds and the peer's address. -/
structure Signal where
  kind : Nat := 0
  type_ : Nat := 0
  interval : Int := 0
  duration : Nat := 0
  peer : Nat := 0
deriving DecidableEq, Repr, Inhabited

/-- A received fabric frame (R297): the fields of its header, and the payload bytes that came with it. -/
structure FabFrame where
  version : Nat := 1
  cls : Nat := 1
  type_ : Nat := 0
  dest : Nat := 0
  src : Nat := 0
  hops : Nat := 64
  /-- LENGTH as the header gives it -/
  length : Nat := 0
  payload : Datum := {}
deriving DecidableEq, Repr, Inhabited

/-- What the neighbour sends in INIT (R299), with what decides BOUNDARY (R309): whether its FAB_COUNTER has TIME_UNSET set
and whether its ROOT_SEQ is fresh. Classes give CAPACITY, ACCEPTED, FREED, OCCUPIED and ISSUED. -/
structure FabInit where
  id : Nat := 0
  root : Nat := 0
  grade : Nat := 0
  dist : Nat := 0
  asym : Int := 0
  boot : Nat := 0
  unset : Bool := false
  fresh : Bool := true
  classes : List (List Nat) := []
deriving DecidableEq, Repr, Inhabited

/-- The commands of the device: one constructor for each row of spec/opcode_table.json, in its order. -/
inductive Instr where
  /-- OBJECT_WRITE (R489): A host or remote write to an entry that has no row of its own is checked in the order of R489 and, if accepted, posted and journalled. -/
  | objectWrite (via : Iface) (index : Nat) (sub : Nat) (d : Datum)
  /-- WRITE_TAKES_EFFECT (R20): A posted write reaches its target island and takes effect, decrementing the interface's pending count. -/
  | writeTakesEffect (via : Iface) (isl : Nat)
  /-- HISTORY_W1C_WRITE (R89): A w1c write to a HISTORY entry clears the written bits unless an event sets them in the same cycle. -/
  | historyW1cWrite (via : Iface) (index : Nat) (sub : Nat) (d : Datum)
  /-- DIE_LINK_WORD_RECEIVED (R30): A die-link receiver takes a word, checks its parity and accepts it or refuses it and discards what follows. -/
  | dieLinkWordReceived (p : Path) (pos : Nat) (word : Nat) (parity : Bool)
  /-- LINK_REPLAY (R30): The sender replays a refused word and every word after it in original order. -/
  | linkReplay (p : Path)
  /-- LINK_ACK_RECEIVED (R29): A cumulative acknowledgement frees retained-buffer positions so the sender may send new words. -/
  | linkAckReceived (p : Path) (n : Nat)
  /-- LINK_TRAINING_ATTEMPT_END (R32): A training attempt ends; on success the link is UP and resumes from the oldest unacknowledged word. -/
  | linkTrainingAttemptEnd (l : Nat) (ok : Bool)
  /-- LINK_DOWN_RETRY_TIMER (R33): Every 100 ms a DOWN link makes a further training attempt. -/
  | linkDownRetryTimer (l : Nat) (ok : Bool)
  /-- LINK_RETRAIN (R37): COMMAND RETRAIN sends an UP die link into TRAINING. -/
  | linkRetrain (via : Iface) (l : Nat)
  /-- LINK_CLEAR_COUNTERS (R36): COMMAND CLEAR_COUNTERS zeroes the link counters while keeping both word balances. -/
  | linkClearCounters (via : Iface) (l : Nat)
  /-- ERROR_INJECT_SINGLE (R37): ERROR_INJECT SINGLE makes the forward receiver refuse the next word once. -/
  | errorInjectSingle (via : Iface) (l : Nat)
  /-- ERROR_INJECT_EXHAUST (R37): ERROR_INJECT EXHAUST makes the forward receiver refuse the next word and its three replays. -/
  | errorInjectExhaust (via : Iface) (l : Nat)
  /-- ERROR_INJECT_SINGLE_REVERSE (R37): ERROR_INJECT SINGLE_REVERSE makes the reverse receiver refuse the next word once. -/
  | errorInjectSingleReverse (via : Iface) (l : Nat)
  /-- ERROR_INJECT_EXHAUST_REVERSE (R37): ERROR_INJECT EXHAUST_REVERSE makes the reverse receiver refuse the next word and its replays. -/
  | errorInjectExhaustReverse (via : Iface) (l : Nat)
  /-- ERROR_INJECT_OFF (R37): A write of OFF to ERROR_INJECT cancels an injection that has not yet acted. -/
  | errorInjectOff (via : Iface) (l : Nat)
  /-- MIRROR_REFRESH (R24): A status or counter record from S or a C die arrives and refreshes its hub mirror as a whole. -/
  | mirrorRefresh (index : Nat)
  /-- CHANNEL_EDGE (R97): An input edge reaches the decimator, which keeps or drops it and the TDC captures kept edges. -/
  | channelEdge (n : Nat) (falling : Bool) (coarse : Nat) (bin : Nat) (frac : Nat)
  /-- STAMP_INGEST (R44): H takes a stamp from a die link, converts it to STAMP96 and writes it into the stamp buffer, offering it to every consumer. -/
  | stampIngest (n : Nat) (replays : Nat) (taken : Bool)
  /-- SNAP_CHANNEL_WRITE (R45): A write to SNAP_CHANNEL latches hub counters and sends a latch request to the channel's C die. -/
  | snapChannelWrite (via : Iface) (d : Datum)
  /-- SNAPSHOT_LATCH_ARRIVES (R45): The latch request reaches the slice, which latches its counters and places a marker in the stamp stream. -/
  | snapshotLatchArrives
  /-- SNAPSHOT_MARKER_ARRIVES (R45): The snapshot marker reaches H, which publishes the snapshot and increments SNAP_GEN. -/
  | snapshotMarkerArrives
  /-- WATERMARK_RECEIVED (R117): A die's watermark arrives at H and closing gates whose deadline it passes enter DONE. -/
  | watermarkReceived (c : Nat) (raw : Int) (lag : Nat)
  /-- PARALLEL_READ_HALF0 (R57): A parallel-bus read of half 0 of a 32-bit entry captures the value into the read latch. -/
  | parallelReadHalf0 (index : Nat) (sub : Nat)
  /-- PARALLEL_READ_HALF1 (R57): A parallel-bus read of half 1 returns latched bits or captures the value afresh. -/
  | parallelReadHalf1 (index : Nat) (sub : Nat)
  /-- PARALLEL_WRITE_HALF0 (R58): A parallel-bus write to half 0 of a 32-bit entry is held in the write latch. -/
  | parallelWriteHalf0 (index : Nat) (sub : Nat) (hd : Nat)
  /-- PARALLEL_WRITE_HALF1 (R58): A parallel-bus write to half 1 joins the latched half and posts one 32-bit write, or is refused. -/
  | parallelWriteHalf1 (index : Nat) (sub : Nat) (hd : Nat)
  /-- SPI_READ (R62): An SPI READ frame captures the value at byte 3 and returns it. -/
  | spiRead (index : Nat) (sub : Nat) (n : Nat)
  /-- SPI_WRITE (R62): An SPI WRITE frame posts its data at the rising edge of SPI_CS_N or is refused for length. -/
  | spiWrite (index : Nat) (sub : Nat) (d : Datum)
  /-- SPI_STATUS (R63): An SPI STATUS frame returns the status byte in every byte. -/
  | spiStatus (n : Nat)
  /-- SPI_INVALID_FRAME (R62): An unknown opcode or a frame ended mid-byte is discarded with 0504 0001h. -/
  | spiInvalidFrame (index : Nat) (sub : Nat)
  /-- OPEN_READ (R66): Stream COMMAND OPEN_READ captures the target's value and sets STATE READING. -/
  | openRead (spi : Bool)
  /-- OPEN_WRITE (R66): Stream COMMAND OPEN_WRITE checks LENGTH against the target and sets STATE WRITING. -/
  | openWrite (spi : Bool)
  /-- CLOSE (R67): Stream COMMAND CLOSE abandons the transfer and leaves STATE CLOSED. -/
  | close_ (spi : Bool)
  /-- STREAM_DATA_READ (R66): A read of stream DATA returns the next two bytes and ends in DONE past LENGTH. -/
  | streamDataRead (spi : Bool) (n : Nat)
  /-- STREAM_DATA_WRITE (R66): A write of stream DATA appends two bytes and posts the whole write when POSITION reaches LENGTH. -/
  | streamDataWrite (spi : Bool) (d : Datum)
  /-- DEVICE_RESET (R53): COMMAND DEVICE_RESET commits its journal record and resets the device with cause SOFTWARE. -/
  | deviceReset (via : Iface)
  /-- NMT_START_REMOTE_NODE (R69): NMT Start puts the node in OPERATIONAL without disturbing timing functions. -/
  | nmtStartRemoteNode (node : Nat)
  /-- NMT_STOP_REMOTE_NODE (R69): NMT Stop puts the node in STOPPED without disturbing timing functions. -/
  | nmtStopRemoteNode (node : Nat)
  /-- NMT_ENTER_PRE_OPERATIONAL (R69): NMT Enter Pre-operational puts the node in PRE_OPERATIONAL. -/
  | nmtEnterPreOperational (node : Nat)
  /-- NMT_RESET_COMMUNICATION (R71): NMT Reset Communication resets the CANopen node and applies pending CAN settings. -/
  | nmtResetCommunication (node : Nat)
  /-- NMT_RESET_NODE (R69): NMT Reset Node acts as Reset Communication or resets the device with cause NMT_FULL per NMT_RESET_ACTION. -/
  | nmtResetNode (node : Nat)
  /-- LSS_SWITCH_STATE_GLOBAL (R70): LSS switch state global. -/
  | lssSwitchStateGlobal (configuration : Bool)
  /-- LSS_SWITCH_STATE_SELECTIVE (R70): LSS switch state selective. -/
  | lssSwitchStateSelective (vendor : Nat) (product : Nat) (revision : Nat) (serial : Nat)
  /-- LSS_CONFIGURE_NODE_ID (R70): LSS configure node-ID. -/
  | lssConfigureNodeId (node : Nat)
  /-- LSS_CONFIGURE_BIT_TIMING (R70): LSS configure bit timing. -/
  | lssConfigureBitTiming (selector : Nat) (rate : Nat)
  /-- LSS_ACTIVATE_BIT_TIMING (R70): LSS activate bit timing. -/
  | lssActivateBitTiming (delay : Nat)
  /-- LSS_STORE_CONFIGURATION (R70): LSS store configuration keeps the node-ID and bit timing in the shadow region and requests a store. -/
  | lssStoreConfiguration
  /-- LSS_INQUIRE_IDENTITY (R70): LSS inquire identity and node-ID returns the requested value. -/
  | lssInquireIdentity (what : Nat)
  /-- LSS_IDENTIFY_REMOTE_SLAVE (R70): LSS identify remote slave. -/
  | lssIdentifyRemoteSlave (vendor : Nat) (product : Nat) (revLo : Nat) (revHi : Nat) (serLo : Nat) (serHi : Nat)
  /-- LSS_IDENTIFY_NON_CONFIGURED (R70): LSS identify non-configured slave. -/
  | lssIdentifyNonConfigured
  /-- SDO_DOWNLOAD (R74): An SDO or USDO download request writes an entry or aborts with a code of R74. -/
  | sdoDownload (usdo : Bool) (index : Nat) (sub : Nat) (x : Xfer)
  /-- SDO_UPLOAD (R74): An SDO or USDO upload request captures an entry's value and returns it. -/
  | sdoUpload (usdo : Bool) (index : Nat) (sub : Nat) (block : Option Nat)
  /-- SDO_SEGMENT (R74): A segmented or block transfer segment is taken or answered. -/
  | sdoSegment (usdo : Bool) (seg : Seg)
  /-- SDO_TIMEOUT (R74): 1000 ms without the next segment or block aborts the transfer with 0504 0000h. -/
  | sdoTimeout (usdo : Bool)
  /-- SYNC_RECEIVED (R77): A SYNC frame makes synchronous TPDOs sample their entries from one hub snapshot. -/
  | syncReceived (counter : Nat)
  /-- TPDO_TRANSMIT (R77): An event-driven TPDO is sent when a mapped value changes, subject to inhibit time. -/
  | tpdoTransmit (p : Nat)
  /-- TPDO_EVENT_TIMER (R77): A TPDO event timer expires and the TPDO is sent. -/
  | tpdoEventTimer (p : Nat)
  /-- RPDO_RECEIVED (R78): A received RPDO posts one journalled write per mapped entry or is discarded as short. -/
  | rpdoReceived (p : Nat) (d : Datum)
  /-- EMCY_TRANSMIT (R79): A queued EMCY frame is sent when the node is not STOPPED and the inhibit time allows. -/
  | emcyTransmit
  /-- HEARTBEAT_TIMER (R72): The producer heartbeat time expires and a heartbeat is sent. -/
  | heartbeatTimer
  /-- CLEAR_ERROR_LIST (R72): Writing 0 to 1003h.00 clears the pre-defined error field. -/
  | clearErrorList (via : Iface) (d : Datum)
  /-- STORE_PARAMETERS (R73): Writing save to 1010h captures the parameter images and requests a store. -/
  | storeParameters (via : Iface) (sub : Nat) (d : Datum)
  /-- RESTORE_DEFAULT_PARAMETERS (R73): Writing load to 1011h flags the images to be emptied at the next reset and requests a store. -/
  | restoreDefaultParameters (via : Iface) (sub : Nat) (d : Datum)
  /-- PROGRAM_DATA_WRITE (R385): Writing 1F50h program data passes chunks through the DOWNLOAD slots into the image not running. -/
  | programDataWrite (via : Iface) (d : Datum)
  /-- PROGRAM_START (R385): Program control START validates the downloaded image and marks it for the next reset. -/
  | programStart (via : Iface)
  /-- PROGRAM_STOP (R385): Program control STOP abandons the download and makes the image INVALID. -/
  | programStop (via : Iface)
  /-- PROGRAM_CLEAR (R385): Program control CLEAR erases the image header and makes it EMPTY. -/
  | programClear (via : Iface)
  /-- JOURNAL_COMMIT_TIMER (R387): 1 s after its first record a staged journal or event-log page is committed. -/
  | journalCommitTimer (log : Bool)
  /-- STAMP_POP (R107): A read of STAMP_W0 or STAMP pops the oldest unread stamp of the channel into the interface's latch. -/
  | stampPop (via : Iface) (n : Nat) (whole : Bool)
  /-- CHANNEL_ROLE_WRITE (R95): A write of ROLE changes a channel's use, restarting its decimator or putting cupping in UNUSED. -/
  | channelRoleWrite (via : Iface) (n : Nat) (d : Datum)
  /-- EXPORT_FLUSH_TIMER (R108): FLUSH_TIME after its first record an export frame is sent. -/
  | exportFlushTimer (fab : Bool)
  /-- RATE_SECOND (R109): At each whole second RATE publishes the stamps captured in the last second. -/
  | rateSecond
  /-- GATE_ARM (R113): Gate COMMAND ARM checks the configuration and puts the gate in ARMED. -/
  | gateArm (via : Iface) (g : Nat)
  /-- GATE_ABORT (R111): Gate COMMAND ABORT ends an active gate with END_CAUSE ABORT. -/
  | gateAbort (via : Iface) (g : Nat)
  /-- GATE_DEADLINE (R116): The time island's view passes t_start + WINDOW_CLOSE or GATE_TIME and the gate enters CLOSING with END_CAUSE WINDOW. -/
  | gateDeadline (g : Nat)
  /-- SOSC_ABSENT (R123): No SOSC edge for 1 us makes SOSC absent. -/
  | soscAbsent
  /-- TIMEBASE_FALLBACK (R123): The measurement time base changes to the MXO, sets FALLBACK and ends MEASUREMENT gates with TB_CHANGE. -/
  | timebaseFallback
  /-- TIMEBASE_SOSC_RETURN (R123): SOSC present without a break for 10 s returns the time base to SOSC. -/
  | timebaseSoscReturn
  /-- TIMEBASE_SOURCE_WRITE (R123): A write of 2601h.01 selects MXO or SOSC for the measurement time base. -/
  | timebaseSourceWrite (via : Iface) (d : Datum)
  /-- SOSC_HZ_WRITE (R125): A write of SOSC_HZ is refused while SOSC is the base, otherwise waits for the next SOSC adoption. -/
  | soscHzWrite (via : Iface) (d : Datum)
  /-- DATE_NOW (R126): Model COMMAND DATE_NOW writes the current TC0 seconds to ADJUST_SECONDS. -/
  | dateNow (via : Iface) (sosc : Bool)
  /-- TIMEBASE_MODEL_EVAL (R126): Every 1 s the time-base model is evaluated and EFFECTIVE published. -/
  | timebaseModelEval
  /-- CUPPING_ENABLE_WRITE (R128): A write of cupping ENABLE checks suitability and puts the channel in QUALIFYING or UNUSED. -/
  | cuppingEnableWrite (via : Iface) (n : Nat) (d : Datum)
  /-- REQUALIFY (R140): Cupping COMMAND REQUALIFY returns the channel to QUALIFYING with a statistics and decimator restart. -/
  | requalify (via : Iface) (n : Nat)
  /-- DISQUALIFY (R140): Cupping COMMAND DISQUALIFY puts the channel in DISQUALIFIED with cause MANUAL. -/
  | disqualify (via : Iface) (n : Nat)
  /-- RESTART_STATS (R147): Cupping COMMAND RESTART_STATS restarts the statistics without a decimator restart. -/
  | restartStats (via : Iface) (n : Nat)
  /-- SAMPLE_INTERVAL_END (R132): A sample interval passes with no delivered stamp and SAMPLES_MISSING increases. -/
  | sampleIntervalEnd (n : Nat)
  /-- LOS_DECLARED (R133): No edge within the LOS window declares LOS in the slice. -/
  | losDeclared (n : Nat)
  /-- LOS_SIGNAL_ARRIVES (R143): The slice's LOS signal reaches S and makes the channel unusable for the DPLLs. -/
  | losSignalArrives (n : Nat)
  /-- FREQ_WINDOW_END (R134): A frequency window ends and FREQ_OFFSET and FREQ_FLAG are published. -/
  | freqWindowEnd (n : Nat)
  /-- DRIFT_BIN_END (R135): A drift bin ends and the fitted slope is published in DRIFT. -/
  | driftBinEnd (n : Nat)
  /-- MTIE_STEP (R136): At a multiple of tau/10 MTIE(tau) is published. -/
  | mtieStep (n : Nat) (i : Nat)
  /-- TDEV_BLOCK_END (R136): A TDEV block ends and TDEV(tau) is published. -/
  | tdevBlockEnd (n : Nat) (i : Nat)
  /-- CUP_EVALUATION (R137): E12 evaluates the cup score and fires at most one state transition. -/
  | cupEvaluation (n : Nat)
  /-- QUALIFY_TIME_EXPIRY (R140): The score held above threshold for QUALIFY_TIME moves the channel to QUALIFIED. -/
  | qualifyTimeExpiry (n : Nat)
  /-- LOS_CLEAR_TIME_EXPIRY (R140): No LOS for LOS_CLEAR_TIME returns the channel to QUALIFYING. -/
  | losClearTimeExpiry (n : Nat)
  /-- CUP_STATE_ARRIVES (R143): A change of cupping state or score reaches the DPLLs on S over link 6. -/
  | cupStateArrives (n : Nat)
  /-- DPLL_UPDATE (R149): Every 1 us the DPLL handles events in the order of R166, selects, pours, samples and runs its loop filter. -/
  | dpllUpdate (k : Nat) (samples : List PhaseSample)
  /-- WTR_EXPIRY (R161): A candidate's wait-to-restore timer reaches 0 and it becomes selectable. -/
  | wtrExpiry (k : Nat) (e : Nat)
  /-- HOLD_OFF_EXPIRY (R165): The hold-off ends and selection may choose another candidate. -/
  | holdOffExpiry (k : Nat)
  /-- ACQ_TIMEOUT (R172): ACQ_TIMEOUT in ACQUIRING restarts the candidate's WTR and moves selection on. -/
  | acqTimeout (k : Nat)
  /-- DPLL_ENABLE_WRITE (R169): A write of DPLL ENABLE sends the DPLL to FREERUN or lets it acquire. -/
  | dpllEnableWrite (via : Iface) (k : Nat) (d : Datum)
  /-- SWITCH_MODE_WRITE (R164): A write of SWITCH_MODE ends the hold-off and applies AUTOMATIC, MANUAL or FORCED selection. -/
  | switchModeWrite (via : Iface) (k : Nat) (d : Datum)
  /-- CANDIDATE_WRITE (R158): A candidate word is checked and takes effect at the next update. -/
  | candidateWrite (via : Iface) (k : Nat) (e : Nat) (d : Datum)
  /-- OPEN_LOOP (R182): DPLL COMMAND OPEN_LOOP moves the DPLL into SOFTWARE with SW_FFO loaded from FREQ_CONTROL. -/
  | openLoop (via : Iface) (k : Nat)
  /-- CLOSE_LOOP (R183): DPLL COMMAND CLOSE_LOOP leaves SOFTWARE for POURING or HOLDOVER. -/
  | closeLoop (via : Iface) (k : Nat)
  /-- FORCE_FREERUN (R170): DPLL COMMAND FORCE_FREERUN sets a command hold in FREERUN. -/
  | forceFreerun (via : Iface) (k : Nat)
  /-- FORCE_HOLDOVER (R170): DPLL COMMAND FORCE_HOLDOVER sets a command hold in HOLDOVER. -/
  | forceHoldover (via : Iface) (k : Nat)
  /-- RELEASE (R170): DPLL COMMAND RELEASE removes the command hold. -/
  | release (via : Iface) (k : Nat)
  /-- CLEAR_WTR (R161): DPLL COMMAND CLEAR_WTR ends every WTR timer of the DPLL. -/
  | clearWtr (via : Iface) (k : Nat)
  /-- DPLL_TAMP (R180): A write of DPLL TAMP steps the output and OFFSET at the next update. -/
  | dpllTamp (via : Iface) (k : Nat) (d : Datum)
  /-- SW_FFO_WRITE (R182): A write of SW_FFO in SOFTWARE sets the frequency at the next update. -/
  | swFfoWrite (via : Iface) (k : Nat) (d : Datum)
  /-- FAULT_HOLD_ARRIVES (R170): A fault-collector forced-holdover request reaches S and holds the DPLL. -/
  | faultHoldArrives (k : Nat)
  /-- FAULT_HOLD_REMOVED (R170): Removal of the fault hold reaches S and the DPLL may leave HOLDOVER or FREERUN. -/
  | faultHoldRemoved (k : Nat)
  /-- CARAFE_SECOND (R190): At each carafe second S forms a sample of mean FREQ_CONTROL and temperature per DPLL. -/
  | carafeSecond
  /-- CARAFE_SAMPLE_ARRIVES (R191): A carafe sample reaches H and is recorded valid or invalid in tier 1 and tier 2. -/
  | carafeSampleArrives (k : Nat)
  /-- HOLDOVER_PREPARE (R196): At each carafe second E13 prepares a holdover value and sends it to the DPLL island. -/
  | holdoverPrepare (k : Nat)
  /-- PREPARED_VALUE_ARRIVES (R197): A prepared holdover value reaches the DPLL island and replaces the previous one. -/
  | preparedValueArrives (k : Nat)
  /-- HOLDOVER_CORRECTION (R198): Every carafe second in HOLDOVER E13 sends a corrected holdover value. -/
  | holdoverCorrection (k : Nat)
  /-- HOLDOVER_ALARM (R203): ELAPSED reaches HOLDOVER_ALARM and the alarm is set and sent once. -/
  | holdoverAlarm (k : Nat)
  /-- FIT (R200): Holdover COMMAND FIT queues a model fit for the DPLL. -/
  | fit (via : Iface) (k : Nat)
  /-- FIT_INTERVAL_TIMER (R200): Every FIT_INTERVAL seconds an automatic fit is queued. -/
  | fitIntervalTimer (k : Nat)
  /-- FIT_COMPLETE (R199): A model fit ends, publishing the model or setting FIT_FAILED. -/
  | fitComplete (k : Nat)
  /-- CLEAR_CARAFE (R207): Holdover COMMAND CLEAR_CARAFE empties both tiers and sets CARAFE_CLEARED. -/
  | clearCarafe (via : Iface) (k : Nat)
  /-- CLEAR_MODEL (R201): Holdover COMMAND CLEAR_MODEL zeroes the model and MODEL_VALID. -/
  | clearModel (via : Iface) (k : Nat)
  /-- CARAFE_WRITE (R194): A write of CARAFE restores tier 2 from a copy while the DPLL is disabled. -/
  | carafeWrite (via : Iface) (k : Nat) (d : Datum)
  /-- MODEL_VALID_WRITE (R201): A write of MODEL_VALID puts a restored model in force from the next entry. -/
  | modelValidWrite (via : Iface) (k : Nat) (d : Datum)
  /-- HOST_TEMP_WRITE (R192): A write of HOST_TEMP supplies the carafe temperature and clears staleness. -/
  | hostTempWrite (via : Iface) (k : Nat) (d : Datum)
  /-- TEMP_STALE_TIMER (R192): HOST_TEMP not written for 10 s sets TEMP_STALE. -/
  | tempStaleTimer (k : Nat)
  /-- BASE_CHANGE_TO_MXO (R218): SOSC absent moves the bypass clock and S system clock base to the MXO, clearing carafes and relocking the reference. -/
  | baseChangeToMxo
  /-- BASE_CHANGE_TO_SOSC (R218): SOSC present for 10 s moves the bypass clock and S base back to SOSC, clearing carafes and relocking the reference. -/
  | baseChangeToSosc
  /-- REF_RELOCK_COMPLETE (R210): The APLL reference multiplier relocks and every enabled APLL enters LOCKING. -/
  | refRelockComplete
  /-- APLL_ENABLE_WRITE (R217): A write of APLL ENABLE starts LOCKING after R211 checks or turns the APLL OFF after change-over. -/
  | apllEnableWrite (via : Iface) (j : Nat) (d : Datum)
  /-- APLL_RELOCK (R217): APLL COMMAND RELOCK returns the APLL to LOCKING with band selection. -/
  | apllRelock (via : Iface) (j : Nat)
  /-- APLL_CLEAR_COUNTERS (R237): APLL COMMAND CLEAR_COUNTERS zeroes LOCK_LOSSES and CHANGEOVERS. -/
  | apllClearCounters (via : Iface) (j : Nat)
  /-- BAND_SELECT_DONE (R217): VCO band selection ends and lock counting begins. -/
  | bandSelectDone (j : Nat) (band : Nat)
  /-- LOCK_WINDOW_END (R216): A lock-counter window ends, passing or failing, and may declare lock or loss of lock. -/
  | lockWindowEnd (j : Nat) (count : Nat)
  /-- LOCKING_TIMEOUT (R217): 10 ms in LOCKING without lock repeats band selection. -/
  | lockingTimeout (j : Nat)
  /-- RETURN_HOLD_EXPIRY (R219): RETURN_HOLD after LOCKED passes and outputs change back to the APLL source, set UNALIGNED. -/
  | returnHoldExpiry (j : Nat)
  /-- RAMP_START (R224): Ramp COMMAND START is checked and the ramp runs from the next update. -/
  | rampStart (via : Iface) (j : Nat)
  /-- RAMP_STOP (R225): Ramp COMMAND STOP ends a ONCE ramp or lets the cycle complete. -/
  | rampStop (via : Iface) (j : Nat)
  /-- RAMP_CLEAR (R225): Ramp COMMAND CLEAR sets N_RAMP to 0 at the next update. -/
  | rampClear (via : Iface) (j : Nat)
  /-- RAMP_SEGMENT_END (R223): A ramp segment's duration expires and the next segment, cycle or end follows. -/
  | rampSegmentEnd (j : Nat)
  /-- OUT_SOURCE_WRITE (R227): A write of OUT_SOURCE changes the output source glitch-free. -/
  | outSourceWrite (via : Iface) (n : Nat) (d : Datum)
  /-- OUT_DIVIDER_WRITE (R228): A write of OUT_DIVIDER takes effect at the next rising output edge. -/
  | outDividerWrite (via : Iface) (n : Nat) (d : Datum)
  /-- OUT_ENABLE_WRITE (R230): A write of OUT_ENABLE starts or stops the output glitch-free. -/
  | outEnableWrite (via : Iface) (n : Nat) (d : Datum)
  /-- ALIGN_OUTPUT (R234): A write of ALIGN_OUTPUT reloads one output's divider to the next aligned cycle. -/
  | alignOutput (via : Iface) (d : Datum)
  /-- ALIGN_GROUPS (R234): A write of ALIGN_GROUPS aligns every eligible output of the named groups. -/
  | alignGroups (via : Iface) (d : Datum)
  /-- ALIGNED_EDGE (R234): An output reaches its first aligned rising edge and UNALIGNED clears. -/
  | alignedEdge (n : Nat)
  /-- SET_TIME (R246): A write of SET_TIME steps the counter at the first tick after it takes effect. -/
  | setTime (via : Iface) (t : Nat) (d : Datum)
  /-- TC_TAMP (R255): A write of counter TAMP steps the counter at the first tick. -/
  | tcTamp (via : Iface) (t : Nat) (d : Datum)
  /-- POUR_AMOUNT_WRITE (R256): A write of POUR_AMOUNT adds to the counter pour delivered at POUR_RATE. -/
  | pourAmountWrite (via : Iface) (t : Nat) (d : Datum)
  /-- POUR_ABORT (R256): Counter COMMAND POUR_ABORT withdraws the pour remainder. -/
  | pourAbort (via : Iface) (t : Nat)
  /-- TC_POUR_DONE (R256): The counter's POUR_OUTSTANDING reaches 0 and POUR_DONE is set. -/
  | tcPourDone (t : Nat)
  /-- INCREMENT_WRITE (R248): A write of INCREMENT in SWI sets the rate from the next tick. -/
  | incrementWrite (via : Iface) (t : Nat) (d : Datum)
  /-- DISCIPLINE_SWI (R249): DISCIPLINE SWI keeps the last rate as INCREMENT. -/
  | disciplineSwi (via : Iface) (t : Nat)
  /-- DISCIPLINE_HWS (R252): DISCIPLINE HWS puts the counter in NO_MASTER under the hardware servo. -/
  | disciplineHws (via : Iface) (t : Nat)
  /-- DISCIPLINE_TIED (R249): DISCIPLINE TIED ties the counter to its DPLL with a tie step. -/
  | disciplineTied (via : Iface) (t : Nat)
  /-- TIE_INCREMENT_ARRIVES (R249): The DPLL's timeline increment arrives and the tied counter spreads it, catching up if late. -/
  | tieIncrementArrives (t : Nat)
  /-- HWS_OFFSET (R251): A valid offset reaches an HWS counter, which steps or runs its servo. -/
  | hwsOffset (t : Nat)
  /-- PULSE_INSTANT (R259): The counter reaches a pulse instant and the generator carries it to S and the C dies. -/
  | pulseInstant (t : Nat)
  /-- CONTEXT_STATE_CHANGE (R272): A session context's intrinsic state changes and offsets, counters and DPLLs react. -/
  | contextStateChange (c : Nat)
  /-- OFFSET_TIMEOUT (R272): No valid offset for OFFSET_TIMEOUT disqualifies the context and sends PTP_TIMEOUT. -/
  | offsetTimeout (c : Nat)
  /-- CONTEXT_QUALIFY_TIME (R272): Valid offsets for QUALIFY_TIME make the context QUALIFIED. -/
  | contextQualifyTime (c : Nat)
  /-- PTP_SYNC_RX (R271): A received Sync is stamped and used in offset formation. -/
  | ptpSyncRx (c : Nat) (m : PtpMsg)
  /-- PTP_FOLLOW_UP_RX (R271): A received Follow_Up supplies precise time for an offset. -/
  | ptpFollowUpRx (c : Nat) (m : PtpMsg)
  /-- PTP_DELAY_REQ_RX (R271): A received Delay_Req is answered by a master context. -/
  | ptpDelayReqRx (c : Nat) (m : PtpMsg)
  /-- PTP_DELAY_RESP_RX (R271): A received Delay_Resp completes a path-delay measurement and may form an offset. -/
  | ptpDelayRespRx (c : Nat) (m : PtpMsg)
  /-- PTP_PDELAY_REQ_RX (R264): A received Pdelay_Req is answered one-step or two-step. -/
  | ptpPdelayReqRx (c : Nat) (m : PtpMsg)
  /-- PTP_PDELAY_RESP_RX (R271): A received Pdelay_Resp or its follow-up completes a peer-delay measurement. -/
  | ptpPdelayRespRx (c : Nat) (m : PtpMsg)
  /-- PTP_ANNOUNCE_RX (R262): A received Announce feeds the BMCA of the port context. -/
  | ptpAnnounceRx (c : Nat) (a : Announce)
  /-- PTP_SIGNALING_RX (R270): A received Signaling message carries unicast negotiation requests, grants or cancels. -/
  | ptpSignalingRx (c : Nat) (g : Signal)
  /-- PTP_SYNC_INTERVAL (R267): The Sync interval of a master context expires and Sync is sent. -/
  | ptpSyncInterval (c : Nat)
  /-- PTP_DELAY_REQ_INTERVAL (R267): The delay-request interval expires and Delay_Req or Pdelay_Req is sent. -/
  | ptpDelayReqInterval (c : Nat)
  /-- PTP_ANNOUNCE_INTERVAL (R267): The Announce interval expires and Announce is sent. -/
  | ptpAnnounceInterval (c : Nat)
  /-- ANNOUNCE_RECEIPT_TIMEOUT (R278): Announce receipt timeout reruns BMCA and sends PTP_TIMEOUT. -/
  | announceReceiptTimeout (c : Nat)
  /-- GRANT_EXPIRY (R270): A unicast grant expires and its pool context returns to FREE. -/
  | grantExpiry (c : Nat)
  /-- GRANT_RENEWAL_TIMER (R270): A slave-side grant with a quarter left is renewed. -/
  | grantRenewalTimer (c : Nat)
  /-- ARP_NDP_RX (R263): A received ARP or IPv6 neighbour solicitation is answered. -/
  | arpNdpRx (p : Nat) (target : Nat) (d : Datum)
  /-- PEER_RESOLVE_TIMER (R263): Every 60 s unicast peers are resolved again. -/
  | peerResolveTimer
  /-- ETH_OTHER_FRAME_RX (R263): A non-PTP, non-ARP, non-NDP frame is counted in RX_OTHER and dropped. -/
  | ethOtherFrameRx (p : Nat) (bad : Bool)
  /-- PASSTHROUGH_FRAME (R266): A frame is forwarded between ETH0 and ETH1 with residence time corrected. -/
  | passthroughFrame (p : Nat) (bad : Bool) (residence : Int) (full : Bool) (d : Datum)
  /-- ETH_LINK_CHANGE (R278): An Ethernet port's LINK changes and ETH_LINK_DOWN is sent on loss. -/
  | ethLinkChange (p : Nat) (up : Bool)
  /-- RX_RECORD_WRITE (R265): Host writes a virtual-port RX record, which is refused or handed to the port context. -/
  | rxRecordWrite (via : Iface) (d : Datum)
  /-- TX_RECORD_POP (R265): A read of TX_RECORD pops the oldest virtual-port TX record. -/
  | txRecordPop (via : Iface)
  /-- TX_STAMP_WRITE (R265): Host writes a TX_STAMP for a virtual-port frame. -/
  | txStampWrite (via : Iface) (d : Datum)
  /-- TX_STAMP_MISSING (R265): 100 ms without TX_STAMP counts STAMP_MISSING. -/
  | txStampMissing (c : Nat)
  /-- CONTEXT_CONFIG_WRITE (R268): A write of context CONFIG sets its kind and parameters while disabled. -/
  | contextConfigWrite (via : Iface) (c : Nat) (d : Datum)
  /-- CONTEXT_ENABLE_WRITE (R398): A write of context ENABLE assigns an engine or makes the context UNUSED. -/
  | contextEnableWrite (via : Iface) (c : Nat) (d : Datum)
  /-- OFFSET_IN_WRITE (R271): A write of OFFSET_IN delivers one SERVO offset. -/
  | offsetInWrite (via : Iface) (c : Nat) (d : Datum)
  /-- CONTEXT_CLEAR_COUNTERS (R274): Context COMMAND CLEAR_COUNTERS zeroes the context counters. -/
  | contextClearCounters (via : Iface) (c : Nat)
  /-- CONTEXT_RESTART (R274): Context COMMAND RESTART returns the port state to INITIALIZING. -/
  | contextRestart (via : Iface) (c : Nat)
  /-- PASSTHROUGH_WRITE (R266): A write of PASSTHROUGH turns the transparent clock on or off. -/
  | passthroughWrite (via : Iface) (d : Datum)
  /-- ENTRY_WRITE (R279): A 40-byte ENTRY write defines a scheduled action while it is not ARMED. -/
  | entryWrite (via : Iface) (e : Nat) (d : Datum)
  /-- ARM (R282): A write of ARM arms the named entries or refuses them all. -/
  | arm (via : Iface) (b : Nat) (d : Datum)
  /-- DISARM (R282): A write of DISARM returns named ARMED entries to IDLE. -/
  | disarm (via : Iface) (b : Nat) (d : Datum)
  /-- ACTION_DUE (R283): An occurrence's counter reaches its instant and the target on H runs, or the occurrence is late, dropped or skipped. -/
  | actionDue (e : Nat)
  /-- ACTION_DISPATCH (R285): 1 us before their instant EDGE and ALIGN actions are dispatched on the pulse line. -/
  | actionDispatch (e : Nat)
  /-- EDGE_ACTION_FIRES (R289): An EDGE action reaches its channel and applies its overlay at the instant. -/
  | edgeActionFires (e : Nat)
  /-- SCHED_DPLL_ACTION_ARRIVES (R285): A DPLL_COMMAND or DPLL_TAMP action reaches S and acts at the next update. -/
  | schedDpllActionArrives (e : Nat)
  /-- FAB_MODE_WRITE (R293): A write of fabric port MODE starts training or ends UP without audit. -/
  | fabModeWrite (via : Iface) (p : Nat) (d : Datum)
  /-- TX_APLL_WRITE (R294): A write of TX_APLL changes the transmit reference and retrains the port. -/
  | txApllWrite (via : Iface) (p : Nat) (d : Datum)
  /-- FAB_TRAINING_ATTEMPT_END (R299): A fabric training attempt ends, the port reaching UP with a credit audit or retrying. -/
  | fabTrainingAttemptEnd (p : Nat) (ok : Bool) (x : FabInit)
  /-- FAB_TRAINING_RETRY_TIMER (R299): A failed fabric training attempt is repeated after 100 ms. -/
  | fabTrainingRetryTimer (p : Nat)
  /-- FAB_BER_FAIL (R299): 16 invalid sync headers in 125 us send the port from UP to TRAINING. -/
  | fabBerFail (p : Nat)
  /-- FAB_HELLO_TIMEOUT (R299): No HELLO for 30 ms sends the port to TRAINING. -/
  | fabHelloTimeout (p : Nat)
  /-- FAB_PORT_RETRAIN (R337): Port COMMAND RETRAIN sends an UP fabric port to TRAINING. -/
  | fabPortRetrain (via : Iface) (p : Nat)
  /-- FAB_PORT_CLEAR_COUNTERS (R337): Port COMMAND CLEAR_COUNTERS zeroes the port counters. -/
  | fabPortClearCounters (via : Iface) (p : Nat)
  /-- TX_REFERENCE_CHANGE (R294): The named APLL leaves or regains lock and the transmitter changes reference with a retrain. -/
  | txReferenceChange (p : Nat)
  /-- CREDIT_RX (R300): A CREDIT ordered set sets RETURNED for its class. -/
  | creditRx (p : Nat) (cls : Nat) (freed : Nat)
  /-- CREDIT_REPORT_TIMER (R300): Every 10 us the receiver sends CREDIT for each class. -/
  | creditReportTimer
  /-- FAB_FRAME_RX (R297): A whole fabric frame is received and consumed, forwarded or discarded. -/
  | fabFrameRx (p : Nat) (f : FabFrame) (bad : Bool)
  /-- HELLO_RX (R307): A received HELLO updates root election and port role. -/
  | helloRx (p : Nat) (d : Datum)
  /-- HELLO_TIMER (R307): Every 10 ms each UP port sends HELLO from its template. -/
  | helloTimer
  /-- ROOT_SEQ_TIMER (R307): Every 10 ms the root advances ROOT_SEQ. -/
  | rootSeqTimer
  /-- ROOT_TIMEOUT (R307): ROOT_SEQ not advancing for ROOT_TIMEOUT drops the root and reruns election. -/
  | rootTimeout
  /-- ROUTE_UPDATE_RX (R312): A received ROUTE_UPDATE changes the vector and starts a rebuild. -/
  | routeUpdateRx (p : Nat) (d : Datum)
  /-- ROUTE_UPDATE_TIMER (R312): Every 100 ms the device sends ROUTE_UPDATE. -/
  | routeUpdateTimer
  /-- ROUTE_EXPIRY (R312): A route not refreshed for 350 ms expires. -/
  | routeExpiry (p : Nat) (addr : Nat)
  /-- ROUTE_REBUILD_DONE (R313): A rebuild completes, the tables swap and pending frames are released. -/
  | routeRebuildDone
  /-- PENDING_FRAME_EXPIRY (R314): A pending frame without route for 256 us is dropped and counted in NOROUTE. -/
  | pendingFrameExpiry
  /-- ADDRESS_REQUEST_RX (R311): A received ADDRESS_REQUEST is relayed upward or granted by the root. -/
  | addressRequestRx (p : Nat) (d : Datum)
  /-- ADDRESS_GRANT_RX (R311): A received ADDRESS_GRANT is relayed down or assigns this device's address. -/
  | addressGrantRx (p : Nat) (d : Datum)
  /-- ADDRESS_RETRY_TIMER (R311): Without an address the device retries its request every 1 s. -/
  | addressRetryTimer
  /-- ADDRESS_HOLD_EXPIRY (R311): The root releases an assignment not heard for ADDRESS_HOLD. -/
  | addressHoldExpiry (ident : Nat)
  /-- DISCOVERY_DONE (R310): No route change for 100 ms after addressing ends discovery DONE. -/
  | discoveryDone
  /-- REDISCOVER (R334): Fabric COMMAND REDISCOVER releases the address and requests again. -/
  | rediscover (via : Iface)
  /-- FAB_CLEAR_COUNTERS (R334): Fabric COMMAND CLEAR_COUNTERS zeroes the routing and port counters. -/
  | fabClearCounters (via : Iface)
  /-- SLOT_FRAME_BOUNDARY (R305): At a slot-frame boundary a pending slot table becomes ACTIVE. -/
  | slotFrameBoundary
  /-- SLOT_TABLE_COMMIT (R305): Slot COMMIT copies SHADOW into the pending table. -/
  | slotTableCommit (via : Iface) (p : Nat)
  /-- LINK_TIMING_SLOT (R315): At the LINK_TIMING slot the port sends MARKER REQUEST and stamps t1. -/
  | linkTimingSlot (p : Nat)
  /-- TIME_DOWN_SLOT (R304): At the TIME_DOWN slot a CHILD port sends TIME_DOWN. -/
  | timeDownSlot (p : Nat)
  /-- MARKER_REQUEST_RX (R315): A received MARKER REQUEST is stamped and answered with MARKER RESPONSE. -/
  | markerRequestRx (p : Nat) (seq : Nat) (time : Int) (phi : Int)
  /-- MARKER_RESPONSE_RX (R315): A received MARKER RESPONSE is stamped t4. -/
  | markerResponseRx (p : Nat) (seq : Nat) (time : Int)
  /-- TIMING_FOLLOW_UP_RX (R316): A TIMING_FOLLOW_UP completes an exchange, updating MEAN_DELAY and the offset. -/
  | timingFollowUpRx (p : Nat) (d : Datum) (phi : Int)
  /-- EXCHANGE_FOLLOW_UP_TIMEOUT (R315): A follow-up not arriving within two slot frames discards the exchange. -/
  | exchangeFollowUpTimeout (p : Nat)
  /-- TIME_DOWN_RX (R307): A received TIME_DOWN refreshes root and ROOT_SEQ. -/
  | timeDownRx (p : Nat) (d : Datum)
  /-- OD_REQUEST_RX (R323): E15 serves a remote object request, from its store if repeated. -/
  | odRequestRx (p : Nat) (src : Nat) (d : Datum)
  /-- OD_RESPONSE_RX (R324): A remote response completes a request slot DONE or FAILED. -/
  | odResponseRx (p : Nat) (src : Nat) (d : Datum)
  /-- STAMP_BATCH_RX (R325): A received STAMP_BATCH frame is consumed at its destination. -/
  | stampBatchRx (p : Nat) (src : Nat) (d : Datum)
  /-- REQUEST_READ (R324): Request slot COMMAND READ sends a remote read. -/
  | requestRead (via : Iface) (r : Nat)
  /-- REQUEST_WRITE (R324): Request slot COMMAND WRITE sends a remote write. -/
  | requestWrite (via : Iface) (r : Nat)
  /-- REQUEST_CANCEL (R324): Request slot COMMAND CANCEL returns the slot to IDLE. -/
  | requestCancel (via : Iface) (r : Nat)
  /-- REQUEST_TIMEOUT (R324): A request attempt's TIMEOUT expires and it is resent or fails. -/
  | requestTimeout (r : Nat)
  /-- BLEND_MEASURE_DONE (R326): The winning end averages 64 exchanges and sends BLEND_PROPOSAL. -/
  | blendMeasureDone
  /-- BLEND_PROPOSAL_RX (R327): The winning root accepts a proposal and broadcasts BLEND_ANNOUNCE. -/
  | blendProposalRx (p : Nat) (d : Datum)
  /-- BLEND_ANNOUNCE_RX (R327): A losing device records the blend and enters ANNOUNCED, acting at once if late. -/
  | blendAnnounceRx (p : Nat) (dest : Nat) (d : Datum)
  /-- BLEND_INSTANT (R328): The losing counter reaches INSTANT_L and begins the pour or steps. -/
  | blendInstant
  /-- BLEND_POUR_DONE (R331): The blend pour ends and the device waits for the next slot-frame boundary. -/
  | blendPourDone
  /-- BLEND_END (R331): At the boundary after the pour or 1 s after the step the device adopts the winning root. -/
  | blendEnd
  /-- BLEND_ALIGN (R329): Every APLL concerned past RETURN_HOLD, BLEND_ALIGN_GROUPS is written to ALIGN_GROUPS. -/
  | blendAlign
  /-- CAL_STEP_START (R347): STEP_INTERVAL after the previous step the die starts a step on the next slice. -/
  | calStepStart (d : Nat) (rate : Nat)
  /-- CAL_HANDOVER_CUT (R346): At a cut tick the channel passes between its slice and the spare, a new set coming into force. -/
  | calHandoverCut (d : Nat) (mismatch : Option Int)
  /-- CAL_PASS_COMPLETE (R344): A histogram pass gathers its captures and is judged flat or not. -/
  | calPassComplete (d : Nat) (hist : List Nat)
  /-- CAL_PASS_TIMEOUT (R344): A pass on OWN times out after 500 ms. -/
  | calPassTimeout (d : Nat)
  /-- CAL_PROCESSING_DONE (R345): The sequencer finishes setting trims or forming the INL table and moves to the next phase. -/
  | calProcessingDone (d : Nat) (trims : Nat)
  /-- CAL_OFFSETS_DONE (R345): The offsets phase ends and the handover back or in-place set follows. -/
  | calOffsetsDone (d : Nat) (offsets : Nat) (table : Nat) (residual : Nat)
  /-- CAL_LINK_ABANDON_TIMER (R348): The die's link not UP for 100 ms during a step abandons it. -/
  | calLinkAbandonTimer (d : Nat)
  /-- SWEEP_NOW (R347): Calibration COMMAND SWEEP_NOW starts a sweep with steps back to back. -/
  | sweepNow (via : Iface)
  /-- SAVE_SHADOW (R358): Calibration COMMAND SAVE_SHADOW copies every record into the calibration area. -/
  | saveShadow (via : Iface)
  /-- RESTORE_SHADOW (R358): Calibration COMMAND RESTORE_SHADOW loads the calibration area after checks. -/
  | restoreShadow (via : Iface)
  /-- CAL_ENABLE_WRITE (R359): Clearing a die's ENABLE bit pauses it after the step in progress. -/
  | calEnableWrite (via : Iface) (d : Datum)
  /-- SLICE_RECORD_WRITE (R357): A written slice record is checked and comes into force. -/
  | sliceRecordWrite (via : Iface) (c : Nat) (i : Nat) (d : Datum)
  /-- OUTPUT_RECORD_WRITE (R357): A written output record is checked and comes into force. -/
  | outputRecordWrite (via : Iface) (c : Nat) (i : Nat) (d : Datum)
  /-- OUTPUT_TRACKING (R351): Every 100 ms an enabled output's edge is measured and corrected by at most 0.1 ps. -/
  | outputTracking (n : Nat) (err : Int)
  /-- BRANCH_TRIM_STEP (R352): Every 10 ms each distribution branch trim moves by at most one code. -/
  | branchTrimStep (c : Nat) (move : Int) (err : Int)
  /-- APLL_TRIM_STEP (R353): Every 10 ms a locked APLL's amplitude and loop-gain trims step by at most one code. -/
  | apllTrimStep (j : Nat) (amp : Int) (gain : Int) (margin : Nat)
  /-- LANE_ADAPT_STEP (R354): Every 1 ms each lane adapts its CTLE and DFE by at most one code. -/
  | laneAdaptStep (l : Nat) (ctle : Int) (dfe1 : Int) (dfe2 : Int)
  /-- EYE_MONITOR (R354): Every 100 ms the monitor sampler publishes EYE_WIDTH and may send EYE_NARROW. -/
  | eyeMonitor (l : Nat) (width : Nat)
  /-- STORE (R369): Store COMMAND STORE requests a store of the shadow region. -/
  | store (via : Iface)
  /-- SCRUB_NOW (R380): Store COMMAND SCRUB_NOW starts a scrub pass. -/
  | scrubNow (via : Iface)
  /-- SCRUB_READ (R380): The paced scrub reads a group and rewrites or flags it. -/
  | scrubRead (g : Nat) (decayed : List (Nat × Nat)) (last : Bool)
  /-- STORE_START (R371): A requested store reaches its turn, passes the energy check and starts. -/
  | storeStart
  /-- STORE_COMPLETE (R369): A store completes and STORE_COUNT increases. -/
  | storeComplete
  /-- COMMIT_START (R375): A commit reaches its turn and runs its energy check and sealed copy. -/
  | commitStart
  /-- COMMIT_COMPLETE (R375): A commit marks its seal CLEARED and the write counts move. -/
  | commitComplete
  /-- ENERGY_RECHECK_TIMER (R371): A device commit waiting on energy is checked again after 10 ms. -/
  | energyRecheckTimer
  /-- VHOLD_SAMPLE (R371): Every 10 us VHOLD is measured and E_avail updated. -/
  | vholdSample (mv : Nat)
  /-- WRITE_DATA (R373): A WRITE_DATA write places bytes into HOST slots after the checks of R373. -/
  | writeData (via : Iface) (d : Datum)
  /-- HOST_COMMIT (R374): Host window COMMAND COMMIT commits every HOST page in one commit. -/
  | hostCommit (via : Iface)
  /-- HOST_DISCARD (R374): Host window COMMAND DISCARD rolls the HOST pages back. -/
  | hostDiscard (via : Iface)
  /-- HOST_TIMEOUT (R374): HOST_TIMEOUT without write or commit rolls the HOST pages back. -/
  | hostTimeout
  /-- PFAIL_FALL (R377): PFAIL_N low for 2 us starts the power-fail sequence. -/
  | pfailFall
  /-- PFAIL_RISE (R377): PFAIL_N returning high with supplies in range lifts the power-fail refusals. -/
  | pfailRise
  /-- RECORD_DATA_WRITE (R383): A RECORD_DATA write commits the unserved copy with SEQ + 1. -/
  | recordDataWrite (via : Iface) (d : Datum)
  /-- RECORD_ERASE (R383): Record COMMAND ERASE writes both copies to 0xFF. -/
  | recordErase (via : Iface)
  /-- RECORD_REPAIR (R383): Record COMMAND REPAIR copies the served copy into the other with SEQ + 1. -/
  | recordRepair (via : Iface)
  /-- RECORD_SELECT_WRITE (R393): A write of RECORD_SELECT refreshes RECORD_STATE and RECORD_SEQ. -/
  | recordSelectWrite (via : Iface) (d : Datum)
  /-- RECORD_TIE (R382): Two valid copies with equal SEQ and different contents resolve to copy A and send NVM_RECORD_TIE. -/
  | recordTie (r : Nat)
  /-- ENGINE_WATCHDOG (R400): An engine misses its watchdog for WATCHDOG_TIME and is restarted alone. -/
  | engineWatchdog (e : Nat)
  /-- ENGINE_RESTART_DONE (R401): A restarted engine resumes its work. -/
  | engineRestartDone (e : Nat)
  /-- ENGINE_OVERLOAD (R399): LOAD above 95 % for 1 s sends ENGINE_OVERLOAD. -/
  | engineOverload (e : Nat) (load : Nat)
  /-- CONTEXT_STORE_REQUEST (R405): A requester asks for the context store and is granted by class and round robin. -/
  | contextStoreRequest (reqs : List StoreReq)
  /-- REQUESTER_AGED (R406): A requester waiting STARVE_LIMIT cycles enters AGED. -/
  | requesterAged (q : Nat)
  /-- LOCK_REQUEST (R413): A lock request is granted, queued or refused. -/
  | lockRequest (q : Nat) (id : Nat)
  /-- LOCK_RELEASE (R414): Release of an operation's locks writes its gathered lines and grants waiters. -/
  | lockRelease (q : Nat) (abort : Bool)
  /-- HOLD_LIMIT_EXPIRY (R415): A lock held for HOLD_LIMIT with a waiter triggers a lock break. -/
  | holdLimitExpiry
  /-- ARBITER_SNAPSHOT (R412): Arbiter COMMAND SNAPSHOT copies every requester counter. -/
  | arbiterSnapshot (via : Iface)
  /-- ARBITER_CLEAR_COUNTERS (R416): Arbiter COMMAND CLEAR_COUNTERS zeroes the requester and engine counters. -/
  | arbiterClearCounters (via : Iface)
  /-- ASSIGN_WRITE (R398): A write of ASSIGN fixes the engine choice for contexts. -/
  | assignWrite (via : Iface) (d : Datum)
  /-- CLASS_WRITE (R410): A write of a requester CLASS may clear HOST_GUARANTEE. -/
  | classWrite (via : Iface) (q : Nat) (d : Datum)
  /-- FAULT_MESSAGE (R425): The collector takes a fault message, classifies it, reacts and hands it to the listeners. -/
  | faultMessage
  /-- INJECT (R441): A write of INJECT passes the message through the collector as if from its source. -/
  | inject (via : Iface) (d : Datum)
  /-- UNACK_W1C_WRITE (R427): A write of 1 to an unacknowledged bit acknowledges that source at that level. -/
  | unackW1cWrite (via : Iface) (level : Nat) (w : Nat) (d : Datum)
  /-- ACK_ALL (R427): Collector COMMAND ACK_ALL acknowledges every source at every level. -/
  | ackAll (via : Iface)
  /-- RECOVER (R439): Collector COMMAND RECOVER ends the fault state at once. -/
  | recover (via : Iface)
  /-- CLEAR_STICKY (R442): Collector COMMAND CLEAR_STICKY zeroes the sticky bits. -/
  | clearSticky (via : Iface)
  /-- COLLECTOR_CLEAR_COUNTERS (R442): Collector COMMAND CLEAR_COUNTERS zeroes the collector and source counts. -/
  | collectorClearCounters (via : Iface)
  /-- QUIET_PERIOD_EXPIRY (R440): The quiet period runs out and the device leaves the fault state. -/
  | quietPeriodExpiry
  /-- SHADOW_EXPIRY (R432): A reaction shadow's 10 us ends. -/
  | shadowExpiry
  /-- SOURCE_CONFIG_WRITE (R426): A write of a source CONFIG sets its reaction and clears its count history. -/
  | sourceConfigWrite (via : Iface) (d : Datum)
  /-- SOURCE_SELECT_WRITE (R444): A write of SOURCE_SELECT refreshes COUNTS and STATE. -/
  | sourceSelectWrite (via : Iface) (d : Datum)
  /-- FABRIC_LISTENER_SEND (R436): The fabric listener writes a queued record to FABRIC_DEST with retries. -/
  | fabricListenerSend
  /-- INBOX_WRITE (R445): A write of INBOX_WRITE appends a fault record to the inbox. -/
  | inboxWrite (via : Iface) (d : Datum)
  /-- INBOX_READ (R445): A read of INBOX_READ pops the oldest inbox record. -/
  | inboxRead (via : Iface)
  /-- DIE_TEMP_REFRESH (R424): Every 1 ms die temperatures refresh and DIE_TEMP_HIGH may be sent. -/
  | dieTempRefresh (temps : List Int)
  /-- SUPPLY_VALID_CHANGE (R446): A supply becomes or stops being valid under its monitor. -/
  | supplyValidChange (rail : Nat) (valid : Bool) (coreLost : Bool) (isSealed : Bool)
  /-- RST_N_LOW (R448): RST_N low for at least 100 ns resets the device. -/
  | rstNLow (held : Bool)
  /-- JTAG_RESET_INSTRUCTION (R448): The TAP taking EXTEST, CLAMP or HIGHZ resets the device. -/
  | jtagResetInstruction (held : Bool)
  /-- RESET_ASSERT (R451): Internal reset asserts, balls go high-impedance and the store island runs its reset entry. -/
  | resetAssert
  /-- RESET_RELEASE (R448): 1 ms after the last reset condition ends the device leaves reset and boot starts. -/
  | resetRelease
  /-- BOOT_CLOCKS_DONE (R454): Boot step CLOCKS ends with straps sampled and SOSC judged. -/
  | bootClocksDone (mode : Nat) (nid : Nat) (sosc : Bool)
  /-- BOOT_RECOVERY_DONE (R378): Boot step RECOVERY ends, BOOT_COUNT rises and the reset journal record is written. -/
  | bootRecoveryDone
  /-- BOOT_FIRMWARE_DONE (R386): Boot step FIRMWARE ends with an image chosen and engines started, or stops with no image. -/
  | bootFirmwareDone
  /-- BOOT_RESTORE_DONE (R455): Boot step RESTORE ends with stored configuration applied and the dictionary open. -/
  | bootRestoreDone
  /-- BOOT_CALIBRATION_DONE (R350): Boot step CALIBRATION ends with the reference multiplier locked and the boot pass done. -/
  | bootCalibrationDone
  /-- BOOT_CHANNELS_DONE (R456): Boot step CHANNELS acts on every channel's ROLE, cupping ENABLE and OUT_ENABLE. -/
  | bootChannelsDone
  /-- BOOT_SYNTHESIS_DONE (R453): Boot step SYNTHESIS ends when every enabled APLL is LOCKED or at 3 ms. -/
  | bootSynthesisDone
  /-- BOOT_DONE (R462): Boot step TIMING ends, the CAN node sends boot-up and the fault state may end. -/
  | bootDone
  /-- CAN_ERROR_STATE_CHANGE (R68): The CAN FD controller enters or leaves error passive or bus off, updating CAN_ERROR_PASSIVE and CAN_BUS_OFF and setting BUS_OFF_ENTERED. -/
  | canErrorStateChange (passive : Bool) (busOff : Bool)
  /-- SOSC_PRESENT (R123): SOSC edges return after an absence, SOSC_PRESENT sets and the 10 s presence counts of R123, R159 and R218 start. -/
  | soscPresent
  /-- PRE_MASTER_QUALIFICATION_TIMEOUT (R262): A port context in PRE_MASTER reaches the end of its IEEE 1588 qualification timeout and enters MASTER. -/
  | preMasterQualificationTimeout (c : Nat)
  /-- OD_STORE_ENTRY_EXPIRY (R323): A remote-access store entry unused for 45 s expires, and a request waiting for a free entry is then applied. -/
  | odStoreEntryExpiry
deriving DecidableEq, Repr

end Sys2Proof
end

