-- ==== Sys2Proof/Config.lean ====
section
/-! DEFINITION. What one device fixes at manufacture, and the free values: values the spec leaves open. None has a body
that Lean can evaluate, so a statement about the model holds whatever they are. -/

namespace Sys2Proof.Config

/-- The n-th free value: what an operation yields where the spec states no value (log entry 4). The model cuts it to
the width it needs. State.free counts the free values used. -/
opaque freeValue : Nat → Nat

/-- 2000h.02 DIE_REVISIONS, fixed per device (R53). -/
opaque dieRevisions : Nat

/-- The number that the unique identity of the device carries. -/
opaque uniqueNumber : Nat

/-- The 64-bit unique identity of the device (2000h.03 and .04, R53); its bits [1:0] are 0 (R262). -/
def uniqueId : Nat := uniqueNumber % 2 ^ 62 * 4

/-- 1009h hardware version, per device (R72): the text's bytes as one number. -/
opaque hardwareVersion : Nat

/-- 1018h.04 serial number, per device (R72). -/
opaque serialNumber : Nat

/-- The header word of a transfer on a die link, which names the object and the length (R493), and the two words of a stamp's raw record
(R27): their layouts are not given. -/
opaque linkWord (kind a b : Nat) : Nat

/-- The factory-measured delay offsets of a slice, 2^−16 ns in two's complement of 32 bits: `slice` counts die by die,
17 to a die, and `which` is 0 rising, 1 falling, 2 prescaled (R356). -/
opaque factoryOffset (slice which : Nat) : Nat

/-- The MAC address that a port derives from UNIQUE_ID (R276), for ETH0 and ETH1. -/
opaque derivedMac (port : Nat) : Nat

/-- 100Ah software version: the text that names a firmware version (2000h.06), its bytes as one number (R72). -/
opaque versionText (version : Nat) : Nat

end Sys2Proof.Config
end

