-- ==== Sys2Proof/Machine/Bits.lean ====
section
/-! DEFINITION. Bit fields, widths, two's complement, saturation and byte order, used by every family. -/

namespace Sys2Proof.Machine

/-- A value cut to `w` bits: how a counter that wraps at 2^w counts. -/
def cut (w v : Nat) : Nat := v % 2 ^ w

/-- A value held at 2^w − 1 once it would pass it: how a saturating counter counts. -/
def sat (w v : Nat) : Nat := if v < 2 ^ w then v else 2 ^ w - 1

/-- Bit `i` of a word. -/
def bit (v i : Nat) : Bool := v.testBit i

/-- The field of `len` bits of `v` from bit `lo` upward. -/
def field (v lo len : Nat) : Nat := (v >>> lo) % 2 ^ len

/-- One bit as a number, for building layouts. -/
def b2n (b : Bool) : Nat := if b then 1 else 0

/-- A Bool put at bit `i`. -/
def at_ (b : Bool) (i : Nat) : Nat := if b then 2 ^ i else 0

/-- `v` with the bits of `m` set. -/
def setBits (v m : Nat) : Nat := v ||| m

/-- `v` with the bits of `m` cleared: the effect of a w1c write of `m` (R11). -/
def clearBits (v m : Nat) : Nat := v ^^^ (v &&& m)

/-- The signed number that the low `w` bits of `v` spell in two's complement. -/
def toI (w v : Nat) : Int :=
  if v % 2 ^ w < 2 ^ (w - 1) then (v % 2 ^ w : Nat) else ((v % 2 ^ w : Nat) : Int) - (2 ^ w : Nat)

/-- The two's complement of `x` in `w` bits. -/
def ofI (w : Nat) (x : Int) : Nat := (x % (2 ^ w : Nat)).toNat

/-- `x` held within the symmetric range of `w` bits, ±(2^(w−1) − 1). -/
def satSym (w : Nat) (x : Int) : Int :=
  if x > (2 ^ (w - 1) : Nat) - 1 then (2 ^ (w - 1) : Nat) - 1
  else if x < -((2 ^ (w - 1) : Nat) - 1 : Int) then -((2 ^ (w - 1) : Nat) - 1 : Int) else x

/-- `x` held within the full range of `w` bits, −2^(w−1) to 2^(w−1) − 1. -/
def satI (w : Nat) (x : Int) : Int :=
  if x > (2 ^ (w - 1) : Nat) - 1 then (2 ^ (w - 1) : Nat) - 1
  else if x < -((2 ^ (w - 1) : Nat) : Int) then -((2 ^ (w - 1) : Nat) : Int) else x

/-- `x` held within ±`lim`. -/
def clampI (lim x : Int) : Int := if x > lim then lim else if x < -lim then -lim else x

/-- The magnitude of a signed number. -/
def absI (x : Int) : Nat := x.natAbs

/-- Division rounding to the nearest, halves upward (in magnitude for a positive number). -/
def roundDiv (a : Int) (b : Nat) : Int := if b = 0 then 0 else (2 * a + b) / (2 * (b : Int))

/-- The `n` bytes of `v`, least significant first. -/
def toBytes : Nat → Nat → List Byte
  | 0, _ => []
  | n + 1, v => BitVec.ofNat 8 v :: toBytes n (v / 256)

/-- The number that the bytes spell, least significant first. -/
def ofBytes : List Byte → Nat
  | [] => 0
  | b :: r => b.toNat + 256 * ofBytes r

/-- Byte `i` of the number `v`. -/
def byteAt (v i : Nat) : Nat := (v >>> (8 * i)) % 256

/-- The number in the `len` bytes of `v` from byte `off` upward. -/
def bytesAt (v off len : Nat) : Nat := (v >>> (8 * off)) % 2 ^ (8 * len)

/-- `v` with the `len` bytes from byte `off` replaced by the bytes of `x`. -/
def putBytes (v off len x : Nat) : Nat :=
  v % 2 ^ (8 * off) + (x % 2 ^ (8 * len)) * 2 ^ (8 * off) + (v >>> (8 * (off + len))) * 2 ^ (8 * (off + len))

/-- The bits of `m` below `n`, in rising order. -/
def bitList (n m : Nat) : List Nat := (List.range n).filter (fun i => m.testBit i)

/-- The word with one bit set for each number of the list. -/
def maskOf (l : List Nat) : Nat := l.foldl (fun m i => m ||| 2 ^ i) 0

/-- The integer square root, by `fuel` bits from the top: the largest r found with r² ≤ v. -/
def isqrtFrom : Nat → Nat → Nat → Nat
  | 0, r, v => if (r + 1) * (r + 1) ≤ v then r + 1 else r
  | k + 1, r, v => isqrtFrom k (if (r + 2 ^ (k + 1)) * (r + 2 ^ (k + 1)) ≤ v then r + 2 ^ (k + 1) else r) v

/-- The integer square root of a number below 2^`2·bits`. -/
def isqrt (bits v : Nat) : Nat := isqrtFrom bits 0 v

/-- The least of two numbers modulo 2^32 in sequence order: is `a` at or after `b`? -/
def seqGe (w a b : Nat) : Bool := cut w (a + 2 ^ w - cut w b) < 2 ^ (w - 1)

/-- The number of bits of `v` below `n` that are 1. -/
def popCount (n v : Nat) : Nat := (bitList n v).length

/-- Change the element of a list at a place, if there is one. -/
def upd {α : Type} (l : List α) (i : Nat) (f : α → α) : List α := l.modify i f

/-- The largest of a list, 0 when empty. -/
def maxOf (l : List Nat) : Nat := l.foldl Nat.max 0

/-- Sum of signed numbers. -/
def sumI (l : List Int) : Int := l.foldl (· + ·) 0

end Sys2Proof.Machine
end

