-- ==== Sys2Proof/Machine/Store.lean ====
section
/-! DEFINITION. Sparse maps in one canonical form: keys strictly rising, no entry equal to what an unlisted key reads
as. The object dictionary's values, the registers on the dies and the bytes of the main array are kept so. -/

namespace Sys2Proof.Machine

variable {α : Type}

/-- The value listed under a key. -/
def storeGet : List (Nat × α) → Nat → Option α
  | [], _ => none
  | (a, v) :: r, k => if a = k then some v else storeGet r k

/-- The list without a key. -/
def storeDel : List (Nat × α) → Nat → List (Nat × α)
  | [], _ => []
  | (a, v) :: r, k => if a = k then storeDel r k else (a, v) :: storeDel r k

/-- The list with a key set, in rising order of keys. -/
def storeIns : List (Nat × α) → Nat → α → List (Nat × α)
  | [], k, v => [(k, v)]
  | (a, w) :: r, k, v =>
    if k < a then (k, v) :: (a, w) :: r else if a = k then (k, v) :: r else (a, w) :: storeIns r k v

/-- Writing a value: the value that an unlisted key reads as (`d`) removes the entry. -/
def storePut [DecidableEq α] (d : α) (m : List (Nat × α)) (k : Nat) (v : α) : List (Nat × α) :=
  if v = d then storeDel m k else storeIns m k v

/-- Reading a value. -/
def storeRd (d : α) (m : List (Nat × α)) (k : Nat) : α := (storeGet m k).getD d

/-- Keys strictly rising from a bound. -/
def risingFrom : Nat → List (Nat × α) → Bool
  | _, [] => true
  | b, (a, _) :: r => decide (b ≤ a) && risingFrom (a + 1) r

/-- The canonical form: keys strictly rising, and no entry that equals its default. -/
def storeWf [DecidableEq α] (d : Nat → α) (m : List (Nat × α)) : Bool :=
  risingFrom 0 m && m.all (fun e => decide (e.2 ≠ d e.1))

end Sys2Proof.Machine
end

