-- ==== Sys2Proof/Machine/DictTypes.lean ====
section
/-! DEFINITION. The form of a row of an object table (R11, R12, R50, R489). -/

namespace Sys2Proof.Machine

/-- The access codes of R11. -/
inductive Acc where
  | ro | wo | rw | const | rwh | w1c
deriving DecidableEq, Repr

/-- The length of an entry in bytes: fixed, or any length of a span. -/
inductive Len where
  | fix (n : Nat)
  | span (lo hi : Nat)
deriving DecidableEq, Repr

/-- The range of an entry (step 4 of R489): closed intervals, a mask of the bits that may be 1, a signed bound, a
multiple within bounds, the temperatures −55 °C to +150 °C, or every value. -/
inductive Rng where
  | any
  | ivs (l : List (Nat × Nat))
  | mask (m : Nat)
  | sgn (lim : Nat)
  | mult (lo hi step : Nat)
  | temp
deriving DecidableEq, Repr

/-- One row of an object table. -/
structure Row where
  /-- index of instance 0 -/
  base : Nat
  /-- number of instances -/
  count : Nat
  /-- first subindex -/
  lo : Nat
  /-- last subindex -/
  hi : Nat
  len : Len
  acc : Acc
  dflt : Nat
  rng : Rng
deriving DecidableEq, Repr

end Sys2Proof.Machine
end

