-- ==== Sys2Proof/Machine/DictRows.lean ====
section
/-! DEFINITION. The object tables of spec/, one row per table row: base index, number of instances, first and last
subindex, length in bytes, access code, default and range. `const` and `ro` rows carry no range. A default that is not one number (per device,
per instance) is given by `specialDefault` of Machine/Dict.lean. -/
namespace Sys2Proof.Machine
/-- Object-table rows of chapter 01 of spec/, part 1. -/
def dict01p1 : List Row := [
  ⟨0x2010, 1, 0x00, 0x00, .fix 1, .const, 8, .any⟩, /- highest subindex -/
  ⟨0x2010, 1, 0x01, 0x08, .fix 2, .ro, 0, .any⟩, /- DIE_STATUS -/
  ⟨0x2011, 1, 0x00, 0x00, .fix 1, .const, 4, .any⟩, /- highest subindex -/
  ⟨0x2011, 1, 0x01, 0x01, .fix 2, .ro, 0, .any⟩, /- PENDING_PARALLEL -/
  ⟨0x2011, 1, 0x02, 0x02, .fix 2, .ro, 0, .any⟩, /- PENDING_SPI -/
  ⟨0x2011, 1, 0x03, 0x03, .fix 2, .ro, 0, .any⟩, /- PENDING_CAN -/
  ⟨0x2011, 1, 0x04, 0x04, .fix 2, .ro, 0, .any⟩, /- PENDING_FABRIC -/
  ⟨0x2012, 1, 0x00, 0x00, .fix 1, .const, 8, .any⟩, /- highest subindex -/
  ⟨0x2012, 1, 0x01, 0x08, .fix 2, .ro, 0, .any⟩, /- DIE_TEMP -/
  ⟨0x2020, 13, 0x00, 0x00, .fix 1, .const, 19, .any⟩, /- highest subindex -/
  ⟨0x2020, 13, 0x01, 0x01, .fix 1, .const, 0, .any⟩, /- LINK_ID -/
  ⟨0x2020, 13, 0x02, 0x02, .fix 1, .const, 0, .any⟩, /- LANES -/
  ⟨0x2020, 13, 0x03, 0x03, .fix 1, .ro, 0, .any⟩, /- STATE -/
  ⟨0x2020, 13, 0x04, 0x04, .fix 4, .ro, 0, .any⟩, /- WORDS_SENT -/
  ⟨0x2020, 13, 0x05, 0x05, .fix 4, .ro, 0, .any⟩, /- WORDS_ACCEPTED -/
  ⟨0x2020, 13, 0x06, 0x06, .fix 1, .ro, 0, .any⟩, /- RETAINED -/
  ⟨0x2020, 13, 0x07, 0x07, .fix 4, .ro, 0, .any⟩, /- PARITY_REFUSED -/
  ⟨0x2020, 13, 0x08, 0x08, .fix 4, .ro, 0, .any⟩, /- REPLAYS -/
  ⟨0x2020, 13, 0x09, 0x09, .fix 2, .ro, 0, .any⟩, /- EXHAUSTED -/
  ⟨0x2020, 13, 0x0A, 0x0A, .fix 2, .ro, 0, .any⟩, /- RETRAINS -/
  ⟨0x2020, 13, 0x0B, 0x0B, .fix 4, .ro, 0, .any⟩, /- LAST_RETRAIN_NS -/
  ⟨0x2020, 13, 0x0C, 0x0C, .fix 1, .wo, 0, .ivs [(0, 2)]⟩, /- COMMAND -/
  ⟨0x2020, 13, 0x0D, 0x0D, .fix 1, .rw, 0, .ivs [(0, 4)]⟩, /- ERROR_INJECT -/
  ⟨0x2020, 13, 0x0E, 0x0E, .fix 4, .ro, 0, .any⟩, /- REV_WORDS_SENT -/
  ⟨0x2020, 13, 0x0F, 0x0F, .fix 4, .ro, 0, .any⟩, /- REV_WORDS_ACCEPTED -/
  ⟨0x2020, 13, 0x10, 0x10, .fix 1, .ro, 0, .any⟩, /- REV_RETAINED -/
  ⟨0x2020, 13, 0x11, 0x11, .fix 4, .ro, 0, .any⟩, /- REV_PARITY_REFUSED -/
  ⟨0x2020, 13, 0x12, 0x12, .fix 4, .ro, 0, .any⟩, /- REV_REPLAYS -/
  ⟨0x2020, 13, 0x13, 0x13, .fix 2, .ro, 0, .any⟩, /- REV_EXHAUSTED -/
  ⟨0x202F, 1, 0x00, 0x00, .fix 1, .const, 3, .any⟩, /- highest subindex -/
  ⟨0x202F, 1, 0x01, 0x01, .fix 4, .ro, 0, .any⟩, /- HUB_PARITY_REFUSED -/
  ⟨0x202F, 1, 0x02, 0x02, .fix 4, .ro, 0, .any⟩, /- HUB_REPLAYS -/
  ⟨0x202F, 1, 0x03, 0x03, .fix 2, .ro, 0, .any⟩, /- HUB_EXHAUSTED -/
  ⟨0x2030, 1, 0x00, 0x00, .fix 1, .const, 12, .any⟩, /- highest subindex -/
  ⟨0x2030, 1, 0x01, 0x01, .fix 1, .rw, 0, .ivs [(0, 95)]⟩, /- SNAP_CHANNEL -/
  ⟨0x2030, 1, 0x02, 0x02, .fix 2, .ro, 0, .any⟩, /- SNAP_GEN -/
  ⟨0x2030, 1, 0x03, 0x03, .fix 4, .ro, 0, .any⟩, /- CAPTURED_LO -/
  ⟨0x2030, 1, 0x04, 0x04, .fix 4, .ro, 0, .any⟩, /- CAPTURED_HI -/
  ⟨0x2030, 1, 0x05, 0x05, .fix 4, .ro, 0, .any⟩, /- DELIVERED_LO -/
  ⟨0x2030, 1, 0x06, 0x06, .fix 4, .ro, 0, .any⟩, /- DELIVERED_HI -/
  ⟨0x2030, 1, 0x07, 0x07, .fix 4, .ro, 0, .any⟩, /- DROP_SLICE_LO -/
  ⟨0x2030, 1, 0x08, 0x08, .fix 4, .ro, 0, .any⟩, /- DROP_SLICE_HI -/
  ⟨0x2030, 1, 0x09, 0x09, .fix 4, .ro, 0, .any⟩, /- DROP_HUB_LO -/
  ⟨0x2030, 1, 0x0A, 0x0A, .fix 4, .ro, 0, .any⟩, /- DROP_HUB_HI -/
  ⟨0x2030, 1, 0x0B, 0x0B, .fix 4, .ro, 0, .any⟩, /- HELD -/
  ⟨0x2030, 1, 0x0C, 0x0C, .fix 1, .ro, 0, .any⟩, /- SNAP_STATE -/
  ⟨0x2018, 1, 0x00, 0x00, .fix 1, .const, 4, .any⟩, /- highest subindex -/
  ⟨0x2018, 1, 0x01, 0x01, .fix 4, .ro, 0, .any⟩, /- STATUS -/
  ⟨0x2018, 1, 0x02, 0x02, .fix 4, .w1c, 0, .any⟩, /- HISTORY -/
  ⟨0x2018, 1, 0x03, 0x03, .fix 4, .rw, 0, .any⟩, /- MASK -/
  ⟨0x2018, 1, 0x04, 0x04, .fix 4, .rw, 0, .any⟩ /- ROUTE -/
]
/-- The object-table rows of chapter 01. -/
def dict01 : List Row := dict01p1
/-- Object-table rows of chapter 02 of spec/, part 1. -/
def dict02p1 : List Row := [
  ⟨0x2000, 1, 0x00, 0x00, .fix 1, .const, 8, .any⟩, /- highest subindex -/
  ⟨0x2000, 1, 0x01, 0x01, .fix 4, .const, 38408, .any⟩, /- PRODUCT -/
  ⟨0x2000, 1, 0x02, 0x02, .fix 4, .const, 0, .any⟩, /- DIE_REVISIONS -/
  ⟨0x2000, 1, 0x03, 0x03, .fix 4, .const, 0, .any⟩, /- UNIQUE_ID_LO -/
  ⟨0x2000, 1, 0x04, 0x04, .fix 4, .const, 0, .any⟩, /- UNIQUE_ID_HI -/
  ⟨0x2000, 1, 0x05, 0x05, .fix 1, .ro, 0, .any⟩, /- IMAGE_RUNNING -/
  ⟨0x2000, 1, 0x06, 0x06, .fix 4, .ro, 0, .any⟩, /- FIRMWARE_VERSION -/
  ⟨0x2000, 1, 0x07, 0x07, .fix 4, .ro, 0, .any⟩, /- BOOT_COUNT -/
  ⟨0x2000, 1, 0x08, 0x08, .fix 2, .ro, 0, .any⟩, /- LAST_RESET_CAUSE -/
  ⟨0x2001, 1, 0x00, 0x00, .fix 1, .const, 2, .any⟩, /- highest subindex -/
  ⟨0x2001, 1, 0x01, 0x01, .fix 1, .rw, 0, .mask 0x3⟩, /- IRQ_ENABLE -/
  ⟨0x2001, 1, 0x02, 0x02, .fix 1, .wo, 0, .ivs [(0, 0), (90, 90)]⟩, /- COMMAND -/
  ⟨0x2102, 1, 0x00, 0x00, .fix 1, .const, 6, .any⟩, /- highest subindex -/
  ⟨0x2103, 1, 0x00, 0x00, .fix 1, .const, 6, .any⟩, /- highest subindex (SPI) -/
  ⟨0x2102, 1, 0x01, 0x01, .fix 4, .rw, 0, .any⟩, /- TARGET -/
  ⟨0x2103, 1, 0x01, 0x01, .fix 4, .rw, 0, .any⟩, /- TARGET (SPI) -/
  ⟨0x2102, 1, 0x02, 0x02, .fix 4, .rwh, 0, .any⟩, /- LENGTH -/
  ⟨0x2103, 1, 0x02, 0x02, .fix 4, .rwh, 0, .any⟩, /- LENGTH (SPI) -/
  ⟨0x2102, 1, 0x03, 0x03, .fix 2, .rwh, 0, .any⟩, /- DATA -/
  ⟨0x2103, 1, 0x03, 0x03, .fix 2, .rwh, 0, .any⟩, /- DATA (SPI) -/
  ⟨0x2102, 1, 0x04, 0x04, .fix 4, .ro, 0, .any⟩, /- POSITION -/
  ⟨0x2103, 1, 0x04, 0x04, .fix 4, .ro, 0, .any⟩, /- POSITION (SPI) -/
  ⟨0x2102, 1, 0x05, 0x05, .fix 1, .wo, 0, .ivs [(0, 3)]⟩, /- COMMAND -/
  ⟨0x2103, 1, 0x05, 0x05, .fix 1, .wo, 0, .ivs [(0, 3)]⟩, /- COMMAND (SPI) -/
  ⟨0x2102, 1, 0x06, 0x06, .fix 1, .ro, 0, .any⟩, /- STATE -/
  ⟨0x2103, 1, 0x06, 0x06, .fix 1, .ro, 0, .any⟩, /- STATE (SPI) -/
  ⟨0x2100, 1, 0x00, 0x00, .fix 1, .const, 4, .any⟩, /- highest subindex -/
  ⟨0x2100, 1, 0x01, 0x01, .fix 4, .ro, 0, .any⟩, /- STATUS -/
  ⟨0x2100, 1, 0x02, 0x02, .fix 4, .w1c, 0, .any⟩, /- HISTORY -/
  ⟨0x2100, 1, 0x03, 0x03, .fix 4, .rw, 0, .any⟩, /- MASK -/
  ⟨0x2100, 1, 0x04, 0x04, .fix 4, .rw, 0, .any⟩, /- ROUTE -/
  ⟨0x2101, 1, 0x00, 0x00, .fix 1, .const, 9, .any⟩, /- highest subindex -/
  ⟨0x2101, 1, 0x01, 0x01, .fix 4, .ro, 0, .any⟩, /- LAST_ERROR -/
  ⟨0x2101, 1, 0x04, 0x04, .fix 4, .ro, 0, .any⟩, /- LAST_ERROR -/
  ⟨0x2101, 1, 0x07, 0x07, .fix 4, .ro, 0, .any⟩, /- LAST_ERROR -/
  ⟨0x2101, 1, 0x02, 0x02, .fix 4, .ro, 0, .any⟩, /- LAST_ENTRY -/
  ⟨0x2101, 1, 0x05, 0x05, .fix 4, .ro, 0, .any⟩, /- LAST_ENTRY -/
  ⟨0x2101, 1, 0x08, 0x08, .fix 4, .ro, 0, .any⟩, /- LAST_ENTRY -/
  ⟨0x2101, 1, 0x03, 0x03, .fix 4, .ro, 0, .any⟩, /- ERROR_COUNT -/
  ⟨0x2101, 1, 0x06, 0x06, .fix 4, .ro, 0, .any⟩, /- ERROR_COUNT -/
  ⟨0x2101, 1, 0x09, 0x09, .fix 4, .ro, 0, .any⟩, /- ERROR_COUNT -/
  ⟨0x2104, 1, 0x00, 0x00, .fix 1, .const, 6, .any⟩, /- highest subindex -/
  ⟨0x2104, 1, 0x01, 0x01, .fix 1, .ro, 0, .any⟩, /- NODE_ID -/
  ⟨0x2104, 1, 0x02, 0x02, .fix 1, .ro, 0, .any⟩, /- NODE_ID_SOURCE -/
  ⟨0x2104, 1, 0x03, 0x03, .fix 1, .rw, 2, .ivs [(0, 4)]⟩, /- NOMINAL_RATE -/
  ⟨0x2104, 1, 0x04, 0x04, .fix 1, .rw, 1, .ivs [(0, 4)]⟩, /- DATA_RATE -/
  ⟨0x2104, 1, 0x05, 0x05, .fix 1, .rw, 0, .ivs [(0, 1)]⟩, /- FORMAT -/
  ⟨0x2104, 1, 0x06, 0x06, .fix 1, .rw, 0, .ivs [(0, 1)]⟩, /- NMT_RESET_ACTION -/
  ⟨0x1000, 1, 0x00, 0x00, .fix 4, .const, 0, .any⟩, /- device type -/
  ⟨0x1001, 1, 0x00, 0x00, .fix 1, .ro, 0, .any⟩, /- error register -/
  ⟨0x1003, 1, 0x00, 0x00, .fix 1, .rw, 0, .ivs [(0, 0)]⟩, /- number of errors -/
  ⟨0x1003, 1, 0x01, 0x10, .fix 4, .ro, 0, .any⟩, /- pre-defined error field -/
  ⟨0x1005, 1, 0x00, 0x00, .fix 4, .rw, 128, .mask 0xBFFFFFFF⟩, /- COB-ID SYNC -/
  ⟨0x1008, 1, 0x00, 0x00, .fix 7, .const, 0, .any⟩, /- device name -/
  ⟨0x1009, 1, 0x00, 0x00, .span 1 16, .const, 0, .any⟩, /- hardware version -/
  ⟨0x100A, 1, 0x00, 0x00, .span 1 16, .ro, 0, .any⟩, /- software version -/
  ⟨0x1010, 1, 0x01, 0x03, .fix 4, .rw, 1, .any⟩, /- store parameters -/
  ⟨0x1011, 1, 0x01, 0x03, .fix 4, .rw, 1, .any⟩, /- restore default parameters -/
  ⟨0x1014, 1, 0x00, 0x00, .fix 4, .rw, 0x100000000, .any⟩, /- COB-ID EMCY: by default 0x80 + node-ID, which this default stands for -/
  ⟨0x1015, 1, 0x00, 0x00, .fix 2, .rw, 0, .any⟩ /- inhibit time EMCY -/
]
/-- Object-table rows of chapter 02 of spec/, part 2. -/
def dict02p2 : List Row := [
  ⟨0x1017, 1, 0x00, 0x00, .fix 2, .rw, 0, .any⟩, /- producer heartbeat time -/
  ⟨0x1018, 1, 0x01, 0x04, .fix 4, .const, 0, .any⟩, /- identity -/
  ⟨0x1019, 1, 0x00, 0x00, .fix 1, .rw, 0, .ivs [(0, 0), (2, 240)]⟩, /- synchronous counter overflow -/
  ⟨0x1200, 1, 0x01, 0x01, .fix 4, .ro, 0, .any⟩, /- SDO server COB-IDs -/
  ⟨0x1200, 1, 0x02, 0x02, .fix 4, .ro, 0, .any⟩, /- SDO server COB-IDs -/
  ⟨0x1F50, 1, 0x01, 0x01, .span 1 786432, .wo, 0, .any⟩, /- program data -/
  ⟨0x1F51, 1, 0x01, 0x01, .fix 1, .rw, 0, .ivs [(0, 1), (3, 3)]⟩, /- program control -/
  ⟨0x1F56, 1, 0x01, 0x01, .fix 4, .ro, 0, .any⟩, /- program software identification -/
  ⟨0x1F57, 1, 0x01, 0x01, .fix 4, .ro, 0, .any⟩, /- flash status -/
  ⟨0x2110, 1, 0x00, 0x00, .fix 1, .const, 6, .any⟩, /- highest subindex -/
  ⟨0x2110, 1, 0x01, 0x01, .fix 4, .ro, 0, .any⟩, /- HEAD_SEQ -/
  ⟨0x2110, 1, 0x02, 0x02, .fix 4, .ro, 0, .any⟩, /- TAIL_SEQ -/
  ⟨0x2110, 1, 0x03, 0x03, .fix 4, .rw, 0, .any⟩, /- READ_SEQ -/
  ⟨0x2110, 1, 0x04, 0x04, .fix 32, .ro, 0, .any⟩, /- RECORD -/
  ⟨0x2110, 1, 0x05, 0x05, .fix 4, .ro, 0, .any⟩, /- OVERWRITTEN -/
  ⟨0x2110, 1, 0x06, 0x06, .fix 1, .ro, 0, .any⟩, /- STAGED -/
  ⟨0x2040, 7, 0x00, 0x00, .fix 1, .const, 6, .any⟩, /- highest subindex -/
  ⟨0x2040, 7, 0x01, 0x01, .fix 1, .ro, 0, .any⟩, /- STATE -/
  ⟨0x2040, 7, 0x02, 0x02, .fix 2, .ro, 0, .any⟩, /- PERCENT -/
  ⟨0x2040, 7, 0x03, 0x03, .fix 4, .ro, 0, .any⟩, /- POSITION -/
  ⟨0x2040, 7, 0x04, 0x04, .fix 4, .ro, 0, .any⟩, /- TOTAL -/
  ⟨0x2040, 7, 0x05, 0x05, .fix 4, .ro, 0, .any⟩, /- RESULT -/
  ⟨0x2040, 7, 0x06, 0x06, .fix 1, .ro, 255, .any⟩, /- INSTANCE -/
  ⟨0x2008, 1, 0x00, 0x00, .fix 1, .const, 2, .any⟩, /- highest subindex -/
  ⟨0x2008, 1, 0x01, 0x02, .fix 4, .ro, 0, .any⟩, /- interrupt summary of IRQA_N, IRQB_N -/
  ⟨0x2620, 1, 0x00, 0x00, .fix 1, .const, 8, .any⟩, /- highest subindex -/
  ⟨0x2620, 1, 0x01, 0x08, .fix 4, .ro, 0, .any⟩, /- interrupt summary -/
  ⟨0x2621, 1, 0x00, 0x00, .fix 1, .const, 6, .any⟩, /- highest subindex -/
  ⟨0x2621, 1, 0x01, 0x06, .fix 4, .ro, 0, .any⟩, /- interrupt summary -/
  ⟨0x2622, 1, 0x00, 0x00, .fix 1, .const, 2, .any⟩, /- highest subindex -/
  ⟨0x2622, 1, 0x01, 0x02, .fix 4, .ro, 0, .any⟩, /- interrupt summary -/
  ⟨0x2623, 1, 0x00, 0x00, .fix 1, .const, 2, .any⟩, /- highest subindex -/
  ⟨0x2623, 1, 0x01, 0x02, .fix 4, .ro, 0, .any⟩, /- interrupt summary -/
  ⟨0x2624, 1, 0x00, 0x00, .fix 1, .const, 2, .any⟩, /- highest subindex -/
  ⟨0x2624, 1, 0x01, 0x02, .fix 4, .ro, 0, .any⟩, /- interrupt summary -/
  ⟨0x2625, 1, 0x00, 0x00, .fix 1, .const, 2, .any⟩, /- highest subindex -/
  ⟨0x2625, 1, 0x01, 0x02, .fix 4, .ro, 0, .any⟩, /- interrupt summary -/
  ⟨0x2626, 1, 0x00, 0x00, .fix 1, .const, 16, .any⟩, /- highest subindex -/
  ⟨0x2626, 1, 0x01, 0x10, .fix 4, .ro, 0, .any⟩, /- interrupt summary -/
  ⟨0x2627, 1, 0x00, 0x00, .fix 1, .const, 2, .any⟩, /- highest subindex -/
  ⟨0x2627, 1, 0x01, 0x02, .fix 4, .ro, 0, .any⟩, /- interrupt summary -/
  ⟨0x1010, 1, 0x00, 0x00, .fix 1, .const, 3, .any⟩, /- highest subindex -/
  ⟨0x1011, 1, 0x00, 0x00, .fix 1, .const, 3, .any⟩, /- highest subindex -/
  ⟨0x1018, 1, 0x00, 0x00, .fix 1, .const, 4, .any⟩, /- highest subindex -/
  ⟨0x1200, 1, 0x00, 0x00, .fix 1, .const, 2, .any⟩, /- highest subindex -/
  ⟨0x1F50, 1, 0x00, 0x00, .fix 1, .const, 1, .any⟩, /- highest subindex -/
  ⟨0x1F51, 1, 0x00, 0x00, .fix 1, .const, 1, .any⟩, /- highest subindex -/
  ⟨0x1F56, 1, 0x00, 0x00, .fix 1, .const, 1, .any⟩, /- highest subindex -/
  ⟨0x1F57, 1, 0x00, 0x00, .fix 1, .const, 1, .any⟩, /- highest subindex -/
  ⟨0x1400, 8, 0x00, 0x00, .fix 1, .const, 2, .any⟩, /- RPDO communication: highest subindex -/
  ⟨0x1400, 8, 0x01, 0x01, .fix 4, .rw, 2147483648, .any⟩, /- RPDO COB-ID, bit 31 invalid -/
  ⟨0x1400, 8, 0x02, 0x02, .fix 1, .rw, 254, .ivs [(0, 240), (254, 255)]⟩, /- RPDO transmission type -/
  ⟨0x1600, 8, 0x00, 0x00, .fix 1, .rw, 0, .ivs [(0, 16)]⟩, /- RPDO mapped entries -/
  ⟨0x1600, 8, 0x01, 0x10, .fix 4, .rw, 0, .any⟩, /- RPDO mapping -/
  ⟨0x1800, 8, 0x00, 0x00, .fix 1, .const, 5, .any⟩, /- TPDO communication: highest subindex -/
  ⟨0x1800, 8, 0x01, 0x01, .fix 4, .rw, 2147483648, .any⟩, /- TPDO COB-ID, bit 31 invalid -/
  ⟨0x1800, 8, 0x02, 0x02, .fix 1, .rw, 254, .ivs [(0, 240), (254, 255)]⟩, /- TPDO transmission type -/
  ⟨0x1800, 8, 0x03, 0x03, .fix 2, .rw, 0, .any⟩, /- TPDO inhibit time -/
  ⟨0x1800, 8, 0x05, 0x05, .fix 2, .rw, 0, .any⟩, /- TPDO event timer -/
  ⟨0x1A00, 8, 0x00, 0x00, .fix 1, .rw, 0, .ivs [(0, 16)]⟩ /- TPDO mapped entries -/
]
/-- Object-table rows of chapter 02 of spec/, part 3. -/
def dict02p3 : List Row := [
  ⟨0x1A00, 8, 0x01, 0x10, .fix 4, .rw, 0, .any⟩ /- TPDO mapping -/
]
/-- The object-table rows of chapter 02. -/
def dict02 : List Row := dict02p1 ++ dict02p2 ++ dict02p3
/-- Object-table rows of chapter 03 of spec/, part 1. -/
def dict03p1 : List Row := [
  ⟨0x3000, 96, 0x00, 0x00, .fix 1, .const, 17, .any⟩, /- highest subindex -/
  ⟨0x3000, 96, 0x01, 0x01, .fix 1, .rw, 0, .ivs [(0, 3)]⟩, /- ROLE -/
  ⟨0x3000, 96, 0x02, 0x02, .fix 1, .rw, 0, .ivs [(0, 3)]⟩, /- IN_LEVEL -/
  ⟨0x3000, 96, 0x03, 0x03, .fix 1, .rw, 1, .ivs [(0, 2)]⟩, /- TERMINATION -/
  ⟨0x3000, 96, 0x04, 0x04, .fix 1, .rw, 1, .ivs [(0, 2)]⟩, /- HYSTERESIS -/
  ⟨0x3000, 96, 0x05, 0x05, .fix 1, .rw, 0, .ivs [(0, 4)]⟩, /- PRESCALER -/
  ⟨0x3000, 96, 0x06, 0x06, .fix 1, .rw, 0, .ivs [(0, 2)]⟩, /- EDGE -/
  ⟨0x3000, 96, 0x07, 0x07, .fix 4, .rw, 1, .ivs [(0, 16777215)]⟩, /- DECIMATION -/
  ⟨0x3000, 96, 0x08, 0x08, .fix 1, .rw, 0, .ivs [(0, 3)]⟩, /- SOURCE_TC -/
  ⟨0x3000, 96, 0x09, 0x09, .fix 1, .rw, 0, .mask 0x7⟩, /- CONSUMERS -/
  ⟨0x3000, 96, 0x0A, 0x0A, .fix 1, .rw, 8, .ivs [(0, 8), (16, 19)]⟩, /- OUT_SOURCE -/
  ⟨0x3000, 96, 0x0B, 0x0B, .fix 4, .rw, 1, .ivs [(1, 4294967295)]⟩, /- OUT_DIVIDER -/
  ⟨0x3000, 96, 0x0C, 0x0C, .fix 2, .rw, 0, .ivs [(0, 65535)]⟩, /- COARSE_DELAY -/
  ⟨0x3000, 96, 0x0D, 0x0D, .fix 1, .rw, 0, .ivs [(0, 255)]⟩, /- FINE_DELAY -/
  ⟨0x3000, 96, 0x0E, 0x0E, .fix 1, .rw, 0, .ivs [(0, 1)]⟩, /- OUT_ENABLE -/
  ⟨0x3000, 96, 0x0F, 0x0F, .fix 1, .rw, 0, .ivs [(0, 4)]⟩, /- OUT_LEVEL -/
  ⟨0x3000, 96, 0x10, 0x10, .fix 1, .rw, 2, .ivs [(0, 3)]⟩, /- SAFE_STATE -/
  ⟨0x3000, 96, 0x11, 0x11, .fix 1, .rw, 0, .ivs [(0, 15)]⟩, /- OUT_GROUP -/
  ⟨0x2610, 1, 0x00, 0x00, .fix 1, .const, 5, .any⟩, /- highest subindex -/
  ⟨0x2610, 1, 0x01, 0x01, .fix 1, .rw, 0, .ivs [(0, 2)]⟩, /- PORT -/
  ⟨0x2610, 1, 0x02, 0x02, .fix 8, .rw, 0, .mask 0xFFFFFFFFFFFF⟩, /- DEST_MAC -/
  ⟨0x2610, 1, 0x03, 0x03, .fix 1, .rw, 120, .ivs [(1, 120)]⟩, /- RECORDS_PER_FRAME -/
  ⟨0x2610, 1, 0x04, 0x04, .fix 2, .rw, 100, .ivs [(1, 1000)]⟩, /- FLUSH_TIME -/
  ⟨0x2610, 1, 0x05, 0x05, .fix 4, .ro, 0, .any⟩, /- FRAMES_SENT -/
  ⟨0x3200, 96, 0x00, 0x00, .fix 1, .const, 14, .any⟩, /- highest subindex -/
  ⟨0x3200, 96, 0x01, 0x01, .fix 4, .ro, 0, .any⟩, /- STATUS -/
  ⟨0x3200, 96, 0x02, 0x02, .fix 4, .w1c, 0, .any⟩, /- HISTORY -/
  ⟨0x3200, 96, 0x03, 0x03, .fix 4, .rw, 0, .any⟩, /- MASK -/
  ⟨0x3200, 96, 0x04, 0x04, .fix 4, .rw, 0, .any⟩, /- ROUTE -/
  ⟨0x3200, 96, 0x05, 0x05, .fix 4, .ro, 0, .any⟩, /- QUEUE_COUNT -/
  ⟨0x3200, 96, 0x06, 0x06, .fix 4, .ro, 0, .any⟩, /- QUEUE_LOST -/
  ⟨0x3200, 96, 0x07, 0x07, .fix 4, .ro, 0, .any⟩, /- EXPORT_LOST -/
  ⟨0x3200, 96, 0x08, 0x08, .fix 4, .ro, 0, .any⟩, /- SKIPS -/
  ⟨0x3200, 96, 0x09, 0x09, .fix 4, .ro, 0, .any⟩, /- RATE -/
  ⟨0x3200, 96, 0x0A, 0x0A, .fix 12, .ro, 0, .any⟩, /- LAST_STAMP -/
  ⟨0x3200, 96, 0x0B, 0x0B, .fix 4, .ro, 0, .any⟩, /- STAMP_W0 -/
  ⟨0x3200, 96, 0x0C, 0x0C, .fix 4, .ro, 0, .any⟩, /- STAMP_W1 -/
  ⟨0x3200, 96, 0x0D, 0x0D, .fix 4, .ro, 0, .any⟩, /- STAMP_W2 -/
  ⟨0x3200, 96, 0x0E, 0x0E, .fix 12, .ro, 0, .any⟩, /- STAMP -/
  ⟨0x3300, 24, 0x00, 0x00, .fix 1, .const, 37, .any⟩, /- highest subindex -/
  ⟨0x3300, 24, 0x01, 0x01, .fix 4, .ro, 0, .any⟩, /- STATUS -/
  ⟨0x3300, 24, 0x02, 0x02, .fix 4, .w1c, 0, .any⟩, /- HISTORY -/
  ⟨0x3300, 24, 0x03, 0x03, .fix 4, .rw, 0, .any⟩, /- MASK -/
  ⟨0x3300, 24, 0x04, 0x04, .fix 4, .rw, 0, .any⟩, /- ROUTE -/
  ⟨0x3300, 24, 0x05, 0x05, .fix 1, .rw, 0, .ivs [(0, 1)]⟩, /- KIND -/
  ⟨0x3300, 24, 0x06, 0x06, .fix 1, .wo, 0, .ivs [(0, 2)]⟩, /- COMMAND -/
  ⟨0x3300, 24, 0x07, 0x07, .fix 1, .rw, 1, .ivs [(0, 1)]⟩, /- TIMEBASE -/
  ⟨0x3300, 24, 0x08, 0x08, .fix 1, .rw, 126, .ivs [(0, 95), (126, 127)]⟩, /- START_SOURCE -/
  ⟨0x3300, 24, 0x09, 0x18, .fix 1, .rw, 255, .ivs [(0, 95), (255, 255)]⟩, /- STOP_SOURCE_0 to STOP_SOURCE_15 -/
  ⟨0x3300, 24, 0x19, 0x19, .fix 4, .rw, 0, .ivs [(0, 4294967295)]⟩, /- WINDOW_OPEN -/
  ⟨0x3300, 24, 0x1A, 0x1A, .fix 4, .rw, 1000000000, .ivs [(0, 4294967295)]⟩, /- WINDOW_CLOSE -/
  ⟨0x3300, 24, 0x1B, 0x1B, .fix 2, .rw, 0, .ivs [(0, 256)]⟩, /- STOP_COUNT -/
  ⟨0x3300, 24, 0x1C, 0x1C, .fix 4, .rw, 1000, .ivs [(1, 1000000)]⟩, /- GATE_TIME -/
  ⟨0x3300, 24, 0x1D, 0x1D, .fix 2, .rw, 1, .ivs [(0, 65535)]⟩, /- GATE_DECIMATION -/
  ⟨0x3300, 24, 0x1E, 0x1E, .fix 4, .rw, 10000000, .ivs [(1, 3200000000)]⟩, /- NOMINAL_HZ -/
  ⟨0x3300, 24, 0x1F, 0x1F, .fix 1, .ro, 0, .any⟩, /- END_CAUSE -/
  ⟨0x3300, 24, 0x20, 0x20, .fix 12, .ro, 0, .any⟩, /- START_STAMP -/
  ⟨0x3300, 24, 0x21, 0x21, .fix 4, .ro, 0, .any⟩, /- RESULT_COUNT -/
  ⟨0x3300, 24, 0x22, 0x22, .fix 4, .ro, 0, .any⟩, /- EARLY_COUNT -/
  ⟨0x3300, 24, 0x23, 0x23, .span 0 4096, .ro, 0, .any⟩ /- RESULTS -/
]
/-- Object-table rows of chapter 03 of spec/, part 2. -/
def dict03p2 : List Row := [
  ⟨0x3300, 24, 0x24, 0x24, .fix 6, .ro, 0, .any⟩, /- FFO -/
  ⟨0x3300, 24, 0x25, 0x25, .fix 4, .ro, 0, .any⟩, /- RESIDUAL_RMS -/
  ⟨0x2600, 1, 0x00, 0x00, .fix 1, .const, 4, .any⟩, /- highest subindex -/
  ⟨0x2600, 1, 0x01, 0x01, .fix 4, .ro, 0, .any⟩, /- STATUS -/
  ⟨0x2600, 1, 0x02, 0x02, .fix 4, .w1c, 0, .any⟩, /- HISTORY -/
  ⟨0x2600, 1, 0x03, 0x03, .fix 4, .rw, 0, .any⟩, /- MASK -/
  ⟨0x2600, 1, 0x04, 0x04, .fix 4, .rw, 0, .any⟩, /- ROUTE -/
  ⟨0x2601, 1, 0x00, 0x00, .fix 1, .const, 2, .any⟩, /- highest subindex -/
  ⟨0x2601, 1, 0x01, 0x01, .fix 1, .rw, 0, .ivs [(0, 1)]⟩, /- SOURCE -/
  ⟨0x2601, 1, 0x02, 0x02, .fix 4, .rw, 10000000, .ivs [(10000000, 100000000)]⟩, /- SOSC_HZ -/
  ⟨0x2602, 1, 0x00, 0x00, .fix 1, .const, 5, .any⟩, /- highest subindex -/
  ⟨0x2603, 1, 0x00, 0x00, .fix 1, .const, 5, .any⟩, /- highest subindex -/
  ⟨0x2602, 1, 0x01, 0x01, .fix 6, .rw, 0, .any⟩, /- STATIC_OFFSET -/
  ⟨0x2603, 1, 0x01, 0x01, .fix 6, .rw, 0, .any⟩, /- STATIC_OFFSET -/
  ⟨0x2602, 1, 0x02, 0x02, .fix 4, .rw, 0, .any⟩, /- AGEING_RATE -/
  ⟨0x2603, 1, 0x02, 0x02, .fix 4, .rw, 0, .any⟩, /- AGEING_RATE -/
  ⟨0x2602, 1, 0x03, 0x03, .fix 8, .rw, 0, .mask 0xFFFFFFFFFFFF⟩, /- ADJUST_SECONDS -/
  ⟨0x2603, 1, 0x03, 0x03, .fix 8, .rw, 0, .mask 0xFFFFFFFFFFFF⟩, /- ADJUST_SECONDS -/
  ⟨0x2602, 1, 0x04, 0x04, .fix 6, .ro, 0, .any⟩, /- EFFECTIVE -/
  ⟨0x2603, 1, 0x04, 0x04, .fix 6, .ro, 0, .any⟩, /- EFFECTIVE -/
  ⟨0x2602, 1, 0x05, 0x05, .fix 1, .wo, 0, .ivs [(0, 1)]⟩, /- COMMAND -/
  ⟨0x2603, 1, 0x05, 0x05, .fix 1, .wo, 0, .ivs [(0, 1)]⟩ /- COMMAND -/
]
/-- The object-table rows of chapter 03. -/
def dict03 : List Row := dict03p1 ++ dict03p2
/-- Object-table rows of chapter 04 of spec/, part 1. -/
def dict04p1 : List Row := [
  ⟨0x3100, 96, 0x00, 0x00, .fix 1, .const, 52, .any⟩, /- highest subindex -/
  ⟨0x3100, 96, 0x01, 0x01, .fix 4, .ro, 0, .any⟩, /- STATUS -/
  ⟨0x3100, 96, 0x02, 0x02, .fix 4, .w1c, 0, .any⟩, /- HISTORY -/
  ⟨0x3100, 96, 0x03, 0x03, .fix 4, .rw, 0, .any⟩, /- MASK -/
  ⟨0x3100, 96, 0x04, 0x04, .fix 4, .rw, 0, .any⟩, /- ROUTE -/
  ⟨0x3100, 96, 0x05, 0x05, .fix 1, .rw, 0, .ivs [(0, 1)]⟩, /- ENABLE -/
  ⟨0x3100, 96, 0x06, 0x06, .fix 1, .rw, 4, .ivs [(0, 4)]⟩, /- INPUT_TYPE -/
  ⟨0x3100, 96, 0x07, 0x07, .fix 4, .rw, 10000000, .ivs [(1, 4294967295)]⟩, /- NOMINAL_HZ -/
  ⟨0x3100, 96, 0x08, 0x08, .fix 1, .wo, 0, .ivs [(0, 3)]⟩, /- COMMAND -/
  ⟨0x3100, 96, 0x09, 0x09, .fix 2, .rw, 4, .ivs [(2, 65535)]⟩, /- LOS_PERIODS -/
  ⟨0x3100, 96, 0x0A, 0x0A, .fix 1, .rw, 2, .ivs [(1, 60)]⟩, /- LOS_CLEAR_TIME -/
  ⟨0x3100, 96, 0x0B, 0x0B, .fix 1, .rw, 1, .ivs [(1, 64)]⟩, /- FREQ_WINDOW -/
  ⟨0x3100, 96, 0x0C, 0x0C, .fix 4, .rw, 10000000, .ivs [(1, 250000000)]⟩, /- FREQ_BAD -/
  ⟨0x3100, 96, 0x0D, 0x0D, .fix 4, .rw, 8000000, .ivs [(0, 249999999)]⟩, /- FREQ_GOOD -/
  ⟨0x3100, 96, 0x0E, 0x0E, .fix 1, .rw, 160, .ivs [(0, 255)]⟩, /- FREQ_WEIGHT -/
  ⟨0x3100, 96, 0x0F, 0x0F, .fix 2, .rw, 64, .mult 16 1024 16⟩, /- DRIFT_GATE -/
  ⟨0x3100, 96, 0x10, 0x10, .fix 4, .rw, 100000, .ivs [(1, 4294967295)]⟩, /- DRIFT_LIMIT -/
  ⟨0x3100, 96, 0x11, 0x11, .fix 1, .rw, 128, .ivs [(0, 255)]⟩, /- DRIFT_WEIGHT -/
  ⟨0x3100, 96, 0x12, 0x12, .fix 1, .rw, 128, .ivs [(0, 255)]⟩, /- WANDER_WEIGHT -/
  ⟨0x3100, 96, 0x13, 0x17, .fix 4, .rw, 4294967295, .ivs [(1, 4294967295)]⟩, /- MTIE_LIMIT_0 to _4 -/
  ⟨0x3100, 96, 0x18, 0x1C, .fix 4, .rw, 4294967295, .ivs [(1, 4294967295)]⟩, /- TDEV_LIMIT_0 to _4 -/
  ⟨0x3100, 96, 0x1D, 0x1D, .fix 1, .rw, 200, .ivs [(0, 255)]⟩, /- QUALIFY_ABOVE -/
  ⟨0x3100, 96, 0x1E, 0x1E, .fix 1, .rw, 176, .any⟩, /- RESTORE_ABOVE -/
  ⟨0x3100, 96, 0x1F, 0x1F, .fix 1, .rw, 160, .any⟩, /- DEGRADE_BELOW -/
  ⟨0x3100, 96, 0x20, 0x20, .fix 1, .rw, 64, .any⟩, /- DISQUALIFY_BELOW -/
  ⟨0x3100, 96, 0x21, 0x21, .fix 2, .rw, 10, .ivs [(1, 4095)]⟩, /- QUALIFY_TIME -/
  ⟨0x3100, 96, 0x22, 0x22, .fix 1, .ro, 0, .any⟩, /- STATE -/
  ⟨0x3100, 96, 0x23, 0x23, .fix 1, .ro, 0, .any⟩, /- DISQ_CAUSE -/
  ⟨0x3100, 96, 0x24, 0x24, .fix 1, .ro, 0, .any⟩, /- SCORE -/
  ⟨0x3100, 96, 0x25, 0x25, .fix 4, .ro, 0, .any⟩, /- FREQ_OFFSET -/
  ⟨0x3100, 96, 0x26, 0x26, .fix 4, .ro, 0, .any⟩, /- DRIFT -/
  ⟨0x3100, 96, 0x27, 0x2B, .fix 4, .ro, 4294967295, .any⟩, /- MTIE_0 to _4 -/
  ⟨0x3100, 96, 0x2C, 0x30, .fix 4, .ro, 4294967295, .any⟩, /- TDEV_0 to _4 -/
  ⟨0x3100, 96, 0x31, 0x31, .fix 4, .ro, 0, .any⟩, /- LOS_COUNT -/
  ⟨0x3100, 96, 0x32, 0x32, .fix 4, .ro, 0, .any⟩, /- TIME_IN_STATE -/
  ⟨0x3100, 96, 0x33, 0x33, .fix 4, .ro, 0, .any⟩, /- PENALTIES -/
  ⟨0x3100, 96, 0x34, 0x34, .fix 4, .ro, 0, .any⟩ /- SAMPLES_MISSING -/
]
/-- The object-table rows of chapter 04. -/
def dict04 : List Row := dict04p1
/-- Object-table rows of chapter 05 of spec/, part 1. -/
def dict05p1 : List Row := [
  ⟨0x3400, 16, 0x00, 0x00, .fix 1, .const, 24, .any⟩, /- highest subindex -/
  ⟨0x3400, 16, 0x01, 0x01, .fix 1, .rw, 0, .ivs [(0, 1)]⟩, /- ENABLE -/
  ⟨0x3400, 16, 0x02, 0x02, .fix 1, .rw, 0, .ivs [(0, 2)]⟩, /- SWITCH_MODE -/
  ⟨0x3400, 16, 0x03, 0x03, .fix 1, .rw, 0, .ivs [(0, 15)]⟩, /- SELECT_ENTRY -/
  ⟨0x3400, 16, 0x04, 0x04, .fix 1, .rw, 1, .ivs [(0, 1)]⟩, /- REVERTIVE -/
  ⟨0x3400, 16, 0x05, 0x05, .fix 2, .rw, 300, .ivs [(0, 4095)]⟩, /- WTR_TIME -/
  ⟨0x3400, 16, 0x06, 0x06, .fix 2, .rw, 500, .ivs [(0, 10000)]⟩, /- HOLD_OFF -/
  ⟨0x3400, 16, 0x07, 0x07, .fix 4, .rw, 100, .ivs [(1, 655350)]⟩, /- POUR_RATE -/
  ⟨0x3400, 16, 0x08, 0x08, .fix 4, .rw, 1000000, .ivs [(0, 4294967295)]⟩, /- POUR_STEP_LIMIT -/
  ⟨0x3400, 16, 0x09, 0x09, .fix 4, .rw, 1000, .ivs [(100, 100000)]⟩, /- BW_PPS -/
  ⟨0x3400, 16, 0x0A, 0x0A, .fix 4, .rw, 1000000, .ivs [(100000, 10000000)]⟩, /- BW_FRAME -/
  ⟨0x3400, 16, 0x0B, 0x0B, .fix 4, .rw, 1000000, .ivs [(100000, 10000000)]⟩, /- BW_LEGACY -/
  ⟨0x3400, 16, 0x0C, 0x0C, .fix 4, .rw, 1000000, .ivs [(100000, 10000000)]⟩, /- BW_SYNCE -/
  ⟨0x3400, 16, 0x0D, 0x0D, .fix 4, .rw, 100000, .ivs [(1000, 1000000)]⟩, /- BW_GNSS -/
  ⟨0x3400, 16, 0x0E, 0x0E, .fix 4, .rw, 1000, .ivs [(10, 10000)]⟩, /- BW_PACKET -/
  ⟨0x3400, 16, 0x0F, 0x0F, .fix 1, .rw, 50, .ivs [(5, 100)]⟩, /- DAMPING -/
  ⟨0x3400, 16, 0x10, 0x10, .fix 4, .rw, 0, .ivs [(0, 0), (100, 100000000)]⟩, /- BLOOM_BW -/
  ⟨0x3400, 16, 0x11, 0x11, .fix 4, .rw, 10000, .ivs [(1, 4294967295)]⟩, /- LOCK_PHASE -/
  ⟨0x3400, 16, 0x12, 0x12, .fix 4, .rw, 10000, .ivs [(1, 250000000)]⟩, /- LOCK_FREQ -/
  ⟨0x3400, 16, 0x13, 0x13, .fix 2, .rw, 5, .ivs [(1, 4095)]⟩, /- LOCK_TIME -/
  ⟨0x3400, 16, 0x14, 0x14, .fix 2, .rw, 0, .ivs [(0, 65535)]⟩, /- ACQ_TIMEOUT -/
  ⟨0x3400, 16, 0x15, 0x15, .fix 6, .rw, 0, .sgn 70368744177⟩, /- FREERUN_FFO -/
  ⟨0x3400, 16, 0x16, 0x16, .fix 6, .rwh, 0, .sgn 70368744177⟩, /- SW_FFO -/
  ⟨0x3400, 16, 0x17, 0x17, .fix 8, .wo, 0, .sgn 65536000000000⟩, /- TAMP -/
  ⟨0x3400, 16, 0x18, 0x18, .fix 1, .wo, 0, .ivs [(0, 6)]⟩, /- COMMAND -/
  ⟨0x3410, 16, 0x00, 0x00, .fix 1, .const, 32, .any⟩, /- highest subindex -/
  ⟨0x3410, 16, 0x01, 0x10, .fix 4, .rw, 65535, .any⟩, /- CANDIDATE_0 to _15 -/
  ⟨0x3410, 16, 0x11, 0x20, .fix 4, .ro, 0, .any⟩, /- CAND_STATUS_0 to _15 -/
  ⟨0x3420, 16, 0x00, 0x00, .fix 1, .const, 28, .any⟩, /- highest subindex -/
  ⟨0x3420, 16, 0x01, 0x01, .fix 4, .ro, 0, .any⟩, /- STATUS -/
  ⟨0x3420, 16, 0x02, 0x02, .fix 4, .w1c, 0, .any⟩, /- HISTORY -/
  ⟨0x3420, 16, 0x03, 0x03, .fix 4, .rw, 0, .any⟩, /- MASK -/
  ⟨0x3420, 16, 0x04, 0x04, .fix 4, .rw, 0, .any⟩, /- ROUTE -/
  ⟨0x3420, 16, 0x05, 0x05, .fix 1, .ro, 0, .any⟩, /- STATE -/
  ⟨0x3420, 16, 0x06, 0x06, .fix 1, .ro, 255, .any⟩, /- SELECTED -/
  ⟨0x3420, 16, 0x07, 0x07, .fix 1, .ro, 0, .any⟩, /- LAST_FROM -/
  ⟨0x3420, 16, 0x08, 0x08, .fix 1, .ro, 25, .any⟩, /- LAST_CAUSE -/
  ⟨0x3420, 16, 0x09, 0x09, .fix 10, .ro, 0, .any⟩, /- LAST_TIME -/
  ⟨0x3420, 16, 0x0A, 0x0A, .fix 4, .ro, 0, .any⟩, /- TRANSITIONS -/
  ⟨0x3420, 16, 0x0B, 0x0B, .fix 4, .ro, 0, .any⟩, /- PHASE_ERROR -/
  ⟨0x3420, 16, 0x0C, 0x0C, .fix 6, .ro, 0, .any⟩, /- FREQ_CONTROL -/
  ⟨0x3420, 16, 0x0D, 0x0D, .fix 4, .ro, 0, .any⟩, /- BANDWIDTH -/
  ⟨0x3420, 16, 0x0E, 0x0E, .fix 2, .ro, 0, .any⟩, /- HOLDOFF_LEFT -/
  ⟨0x3420, 16, 0x0F, 0x0F, .fix 8, .ro, 0, .any⟩, /- OFFSET -/
  ⟨0x3420, 16, 0x10, 0x10, .fix 8, .ro, 0, .any⟩, /- LEDGER -/
  ⟨0x3420, 16, 0x11, 0x11, .fix 8, .ro, 0, .any⟩, /- POUR_REQUESTED -/
  ⟨0x3420, 16, 0x12, 0x12, .fix 8, .ro, 0, .any⟩, /- POUR_DELIVERED -/
  ⟨0x3420, 16, 0x13, 0x13, .fix 8, .ro, 0, .any⟩, /- POUR_WITHDRAWN -/
  ⟨0x3420, 16, 0x14, 0x14, .fix 8, .ro, 0, .any⟩, /- POUR_OUTSTANDING -/
  ⟨0x3420, 16, 0x15, 0x15, .fix 8, .ro, 0, .any⟩, /- TAMP_TOTAL -/
  ⟨0x3420, 16, 0x16, 0x16, .fix 8, .ro, 0, .any⟩, /- BLEND_TOTAL -/
  ⟨0x3420, 16, 0x17, 0x17, .fix 8, .ro, 0, .any⟩, /- RAMP_TOTAL -/
  ⟨0x3420, 16, 0x18, 0x18, .fix 8, .ro, 0, .any⟩, /- APPLIED -/
  ⟨0x3420, 16, 0x19, 0x19, .fix 4, .ro, 0, .any⟩, /- POURS -/
  ⟨0x3420, 16, 0x1A, 0x1A, .fix 4, .ro, 0, .any⟩, /- REDIRECTS -/
  ⟨0x3420, 16, 0x1B, 0x1B, .fix 4, .ro, 0, .any⟩, /- SWITCH_STEPS -/
  ⟨0x3420, 16, 0x1C, 0x1C, .fix 4, .ro, 0, .any⟩ /- TAMPS -/
]
/-- The object-table rows of chapter 05. -/
def dict05 : List Row := dict05p1
/-- Object-table rows of chapter 06 of spec/, part 1. -/
def dict06p1 : List Row := [
  ⟨0x3430, 16, 0x00, 0x00, .fix 1, .const, 33, .any⟩, /- highest subindex -/
  ⟨0x3430, 16, 0x01, 0x01, .fix 4, .ro, 0, .any⟩, /- STATUS -/
  ⟨0x3430, 16, 0x02, 0x02, .fix 4, .w1c, 0, .any⟩, /- HISTORY -/
  ⟨0x3430, 16, 0x03, 0x03, .fix 4, .rw, 0, .any⟩, /- MASK -/
  ⟨0x3430, 16, 0x04, 0x04, .fix 4, .rw, 0, .any⟩, /- ROUTE -/
  ⟨0x3430, 16, 0x05, 0x05, .fix 4, .rw, 900, .ivs [(16, 86400)]⟩, /- WINDOW -/
  ⟨0x3430, 16, 0x06, 0x06, .fix 2, .rw, 64, .ivs [(0, 3600)]⟩, /- GUARD -/
  ⟨0x3430, 16, 0x07, 0x07, .fix 4, .rw, 300, .ivs [(1, 4294967295)]⟩, /- MIN_VALID -/
  ⟨0x3430, 16, 0x08, 0x08, .fix 1, .rw, 0, .mask 0x3⟩, /- MODEL_ENABLE -/
  ⟨0x3430, 16, 0x09, 0x09, .fix 1, .rw, 0, .ivs [(0, 1)]⟩, /- TEMP_SOURCE -/
  ⟨0x3430, 16, 0x0A, 0x0A, .fix 2, .rw, 0, .temp⟩, /- HOST_TEMP -/
  ⟨0x3430, 16, 0x0B, 0x0B, .fix 2, .rw, 3600, .ivs [(0, 0), (600, 65535)]⟩, /- FIT_INTERVAL -/
  ⟨0x3430, 16, 0x0C, 0x0C, .fix 2, .rw, 1350, .ivs [(64, 2700)]⟩, /- FIT_SPAN -/
  ⟨0x3430, 16, 0x0D, 0x0D, .fix 1, .rw, 32, .ivs [(1, 255)]⟩, /- MIN_TEMP_SPAN -/
  ⟨0x3430, 16, 0x0E, 0x0E, .fix 1, .wo, 0, .ivs [(0, 3)]⟩, /- COMMAND -/
  ⟨0x3430, 16, 0x0F, 0x0F, .fix 4, .rwh, 0, .any⟩, /- AGEING -/
  ⟨0x3430, 16, 0x10, 0x10, .fix 4, .rwh, 0, .any⟩, /- C1 -/
  ⟨0x3430, 16, 0x11, 0x11, .fix 4, .rwh, 0, .any⟩, /- C2 -/
  ⟨0x3430, 16, 0x12, 0x12, .fix 2, .rwh, 0, .any⟩, /- T0 -/
  ⟨0x3430, 16, 0x13, 0x13, .fix 10, .ro, 0, .any⟩, /- MODEL_TIME -/
  ⟨0x3430, 16, 0x14, 0x14, .fix 4, .ro, 0, .any⟩, /- FIT_RESIDUAL -/
  ⟨0x3430, 16, 0x15, 0x15, .fix 2, .ro, 0, .any⟩, /- FIT_SLOTS -/
  ⟨0x3430, 16, 0x16, 0x16, .fix 6, .ro, 0, .any⟩, /- HOLDOVER_FFO -/
  ⟨0x3430, 16, 0x17, 0x17, .fix 6, .ro, 0, .any⟩, /- ENTRY_MEAN -/
  ⟨0x3430, 16, 0x18, 0x18, .fix 2, .ro, 0, .any⟩, /- ENTRY_TEMP -/
  ⟨0x3430, 16, 0x19, 0x19, .fix 4, .ro, 0, .any⟩, /- ENTRY_WEIGHT -/
  ⟨0x3430, 16, 0x1A, 0x1A, .fix 10, .ro, 0, .any⟩, /- ENTRY_TIME -/
  ⟨0x3430, 16, 0x1B, 0x1B, .fix 4, .ro, 0, .any⟩, /- ELAPSED -/
  ⟨0x3430, 16, 0x1C, 0x1C, .fix 8, .ro, 0, .any⟩, /- LAST_EXIT_DELTA -/
  ⟨0x3430, 16, 0x1D, 0x1D, .fix 2, .ro, 0, .any⟩, /- TIER1_VALID -/
  ⟨0x3430, 16, 0x1E, 0x1E, .fix 2, .ro, 0, .any⟩, /- TIER2_VALID -/
  ⟨0x3430, 16, 0x1F, 0x1F, .fix 32768, .rw, 0, .any⟩, /- CARAFE -/
  ⟨0x3430, 16, 0x20, 0x20, .fix 1, .rwh, 0, .ivs [(0, 1)]⟩, /- MODEL_VALID -/
  ⟨0x3430, 16, 0x21, 0x21, .fix 4, .rw, 14400, .ivs [(0, 4294967295)]⟩ /- HOLDOVER_ALARM -/
]
/-- The object-table rows of chapter 06. -/
def dict06 : List Row := dict06p1
/-- Object-table rows of chapter 07 of spec/, part 1. -/
def dict07p1 : List Row := [
  ⟨0x3500, 8, 0x00, 0x00, .fix 1, .const, 25, .any⟩, /- highest subindex -/
  ⟨0x3500, 8, 0x01, 0x01, .fix 4, .ro, 0, .any⟩, /- STATUS -/
  ⟨0x3500, 8, 0x02, 0x02, .fix 4, .w1c, 0, .any⟩, /- HISTORY -/
  ⟨0x3500, 8, 0x03, 0x03, .fix 4, .rw, 0, .any⟩, /- MASK -/
  ⟨0x3500, 8, 0x04, 0x04, .fix 4, .rw, 0, .any⟩, /- ROUTE -/
  ⟨0x3500, 8, 0x05, 0x05, .fix 1, .rw, 0, .ivs [(0, 1)]⟩, /- ENABLE -/
  ⟨0x3500, 8, 0x06, 0x06, .fix 1, .rw, 255, .ivs [(0, 15), (255, 255)]⟩, /- STEER_DPLL -/
  ⟨0x3500, 8, 0x07, 0x07, .fix 1, .rw, 100, .ivs [(98, 120)]⟩, /- N_INT -/
  ⟨0x3500, 8, 0x08, 0x08, .fix 8, .rw, 0, .mask 0xFFFFFFFFFFFF⟩, /- N_FRAC -/
  ⟨0x3500, 8, 0x09, 0x09, .fix 2, .rw, 64, .ivs [(7, 4095)]⟩, /- ODIV -/
  ⟨0x3500, 8, 0x0A, 0x0A, .fix 1, .rw, 1, .ivs [(0, 1)]⟩, /- DITHER -/
  ⟨0x3500, 8, 0x0B, 0x0B, .fix 4, .rw, 0, .any⟩, /- SEED -/
  ⟨0x3500, 8, 0x0C, 0x0C, .fix 4, .rw, 4096, .ivs [(256, 65536)]⟩, /- LOCK_M -/
  ⟨0x3500, 8, 0x0D, 0x0D, .fix 2, .rw, 4, .ivs [(1, 1024)]⟩, /- LOCK_TOL -/
  ⟨0x3500, 8, 0x0E, 0x0E, .fix 1, .rw, 8, .ivs [(1, 255)]⟩, /- LOCK_K -/
  ⟨0x3500, 8, 0x0F, 0x0F, .fix 1, .rw, 2, .ivs [(1, 15)]⟩, /- UNLOCK_FAILS -/
  ⟨0x3500, 8, 0x10, 0x10, .fix 2, .rw, 100, .ivs [(0, 10000)]⟩, /- RETURN_HOLD -/
  ⟨0x3500, 8, 0x11, 0x11, .fix 2, .rw, 1000, .ivs [(1, 10000)]⟩, /- STEP_SLEW -/
  ⟨0x3500, 8, 0x12, 0x12, .fix 1, .wo, 0, .ivs [(0, 2)]⟩, /- COMMAND -/
  ⟨0x3500, 8, 0x13, 0x13, .fix 1, .ro, 0, .any⟩, /- STATE -/
  ⟨0x3500, 8, 0x14, 0x14, .fix 8, .ro, 0, .any⟩, /- F_SOURCE -/
  ⟨0x3500, 8, 0x15, 0x15, .fix 8, .ro, 0, .any⟩, /- N_EFFECTIVE -/
  ⟨0x3500, 8, 0x16, 0x16, .fix 8, .ro, 0, .any⟩, /- STEP_OUTSTANDING -/
  ⟨0x3500, 8, 0x17, 0x17, .fix 4, .ro, 0, .any⟩, /- LOCK_LOSSES -/
  ⟨0x3500, 8, 0x18, 0x18, .fix 4, .ro, 0, .any⟩, /- LAST_COUNT_ERROR -/
  ⟨0x3500, 8, 0x19, 0x19, .fix 4, .ro, 0, .any⟩, /- CHANGEOVERS -/
  ⟨0x3508, 8, 0x00, 0x00, .fix 1, .const, 40, .any⟩, /- highest subindex -/
  ⟨0x3508, 8, 0x01, 0x01, .fix 1, .rw, 0, .ivs [(0, 2)]⟩, /- MODE -/
  ⟨0x3508, 8, 0x02, 0x02, .fix 1, .rw, 1, .ivs [(1, 16)]⟩, /- SEG_COUNT -/
  ⟨0x3508, 8, 0x03, 0x03, .fix 1, .wo, 0, .ivs [(0, 3)]⟩, /- COMMAND -/
  ⟨0x3508, 8, 0x04, 0x04, .fix 1, .ro, 0, .any⟩, /- STATE -/
  ⟨0x3508, 8, 0x05, 0x05, .fix 1, .ro, 0, .any⟩, /- SEGMENT_NOW -/
  ⟨0x3508, 8, 0x06, 0x06, .fix 8, .ro, 0, .any⟩, /- N_RAMP -/
  ⟨0x3508, 8, 0x07, 0x07, .fix 8, .ro, 0, .any⟩, /- RAMP_PHASE -/
  ⟨0x3508, 8, 0x08, 0x08, .fix 4, .ro, 0, .any⟩, /- CYCLES -/
  ⟨0x3508, 8, 0x09, 0x18, .fix 8, .rw, 0, .sgn 281474976710656⟩, /- SLOPE_0 to _15 -/
  ⟨0x3508, 8, 0x19, 0x28, .fix 4, .rw, 1, .ivs [(1, 4294967295)]⟩, /- DURATION_0 to _15 -/
  ⟨0x2630, 1, 0x00, 0x00, .fix 1, .const, 7, .any⟩, /- highest subindex -/
  ⟨0x2630, 1, 0x01, 0x01, .fix 1, .rw, 1, .ivs [(1, 255)]⟩, /- BYPASS_DIV_SOSC -/
  ⟨0x2630, 1, 0x02, 0x02, .fix 1, .rw, 1, .ivs [(1, 255)]⟩, /- BYPASS_DIV_MXO -/
  ⟨0x2630, 1, 0x03, 0x03, .fix 1, .ro, 0, .any⟩, /- BASE -/
  ⟨0x2630, 1, 0x04, 0x04, .fix 1, .ro, 0, .any⟩, /- REF_STATE -/
  ⟨0x2630, 1, 0x05, 0x05, .fix 1, .wo, 0, .ivs [(0, 95)]⟩, /- ALIGN_OUTPUT -/
  ⟨0x2630, 1, 0x06, 0x06, .fix 2, .wo, 0, .any⟩, /- ALIGN_GROUPS -/
  ⟨0x2630, 1, 0x07, 0x07, .fix 2, .rw, 10, .ivs [(1, 1000)]⟩, /- ALIGN_LEAD -/
  ⟨0x2631, 1, 0x00, 0x00, .fix 1, .const, 9, .any⟩, /- highest subindex -/
  ⟨0x2631, 1, 0x01, 0x03, .fix 4, .ro, 4294967295, .any⟩, /- UNALIGNED -/
  ⟨0x2631, 1, 0x04, 0x06, .fix 4, .ro, 0, .any⟩, /- FORCED -/
  ⟨0x2631, 1, 0x07, 0x09, .fix 4, .ro, 0, .any⟩ /- ON_BYPASS -/
]
/-- The object-table rows of chapter 07. -/
def dict07 : List Row := dict07p1
/-- Object-table rows of chapter 08 of spec/, part 1. -/
def dict08p1 : List Row := [
  ⟨0x3600, 4, 0x00, 0x00, .fix 1, .const, 48, .any⟩, /- highest subindex -/
  ⟨0x3600, 4, 0x01, 0x01, .fix 4, .ro, 0, .any⟩, /- STATUS -/
  ⟨0x3600, 4, 0x02, 0x02, .fix 4, .w1c, 0, .any⟩, /- HISTORY -/
  ⟨0x3600, 4, 0x03, 0x03, .fix 4, .rw, 0, .any⟩, /- MASK -/
  ⟨0x3600, 4, 0x04, 0x04, .fix 4, .rw, 0, .any⟩, /- ROUTE -/
  ⟨0x3600, 4, 0x05, 0x05, .fix 16, .ro, 0, .any⟩, /- SNAPSHOT -/
  ⟨0x3600, 4, 0x06, 0x06, .fix 10, .wo, 0, .any⟩, /- SET_TIME -/
  ⟨0x3600, 4, 0x07, 0x07, .fix 1, .rw, 0, .ivs [(0, 2)]⟩, /- DISCIPLINE -/
  ⟨0x3600, 4, 0x08, 0x08, .fix 1, .rw, 0, .ivs [(0, 15)]⟩, /- TIE_DPLL -/
  ⟨0x3600, 4, 0x09, 0x09, .fix 8, .rwh, 1125899906842624, .any⟩, /- INCREMENT -/
  ⟨0x3600, 4, 0x0A, 0x0A, .fix 2, .rw, 256, .ivs [(0, 256)]⟩, /- OFFSET_SOURCE -/
  ⟨0x3600, 4, 0x0B, 0x0B, .fix 4, .rw, 100, .ivs [(1, 10000)]⟩, /- HWS_BW -/
  ⟨0x3600, 4, 0x0C, 0x0C, .fix 1, .rw, 7, .ivs [(5, 100)]⟩, /- HWS_DAMPING -/
  ⟨0x3600, 4, 0x0D, 0x0D, .fix 4, .rw, 100000, .ivs [(1, 4294967295)]⟩, /- STEP_THRESHOLD -/
  ⟨0x3600, 4, 0x0E, 0x0E, .fix 1, .rw, 4, .ivs [(1, 255)]⟩, /- SETTLE_COUNT -/
  ⟨0x3600, 4, 0x0F, 0x0F, .fix 8, .wo, 0, .any⟩, /- TAMP -/
  ⟨0x3600, 4, 0x10, 0x10, .fix 8, .wo, 0, .sgn 65536000000000⟩, /- POUR_AMOUNT -/
  ⟨0x3600, 4, 0x11, 0x11, .fix 4, .rw, 100, .ivs [(1, 655350)]⟩, /- POUR_RATE -/
  ⟨0x3600, 4, 0x12, 0x12, .fix 1, .wo, 0, .ivs [(0, 1)]⟩, /- COMMAND -/
  ⟨0x3600, 4, 0x13, 0x13, .fix 4, .rw, 0, .ivs [(0, 0), (8, 4000000000)]⟩, /- PULSE_PERIOD -/
  ⟨0x3600, 4, 0x14, 0x14, .fix 4, .rw, 0, .ivs [(0, 3999999999)]⟩, /- PULSE_PHASE -/
  ⟨0x3600, 4, 0x15, 0x15, .fix 4, .rw, 100, .ivs [(4, 3999999996)]⟩, /- PULSE_WIDTH -/
  ⟨0x3600, 4, 0x16, 0x16, .fix 1, .ro, 3, .any⟩, /- HWS_STATE -/
  ⟨0x3600, 4, 0x17, 0x17, .fix 8, .ro, 0, .any⟩, /- OFFSET -/
  ⟨0x3600, 4, 0x18, 0x18, .fix 8, .ro, 0, .any⟩, /- TIE_SECONDS -/
  ⟨0x3600, 4, 0x19, 0x19, .fix 8, .ro, 0, .any⟩, /- LEDGER -/
  ⟨0x3600, 4, 0x1A, 0x1A, .fix 8, .ro, 0, .any⟩, /- POUR_REQUESTED -/
  ⟨0x3600, 4, 0x1B, 0x1B, .fix 8, .ro, 0, .any⟩, /- POUR_DELIVERED -/
  ⟨0x3600, 4, 0x1C, 0x1C, .fix 8, .ro, 0, .any⟩, /- POUR_WITHDRAWN -/
  ⟨0x3600, 4, 0x1D, 0x1D, .fix 8, .ro, 0, .any⟩, /- POUR_OUTSTANDING -/
  ⟨0x3600, 4, 0x1E, 0x1E, .fix 8, .ro, 0, .any⟩, /- TAMP_TOTAL -/
  ⟨0x3600, 4, 0x1F, 0x1F, .fix 8, .ro, 0, .any⟩, /- BLEND_TOTAL -/
  ⟨0x3600, 4, 0x20, 0x20, .fix 8, .ro, 0, .any⟩, /- APPLIED -/
  ⟨0x3600, 4, 0x21, 0x21, .fix 8, .ro, 0, .any⟩, /- LAST_ERROR -/
  ⟨0x3600, 4, 0x22, 0x22, .fix 1, .rw, 0, .ivs [(0, 1)]⟩, /- PTP_ENABLE -/
  ⟨0x3600, 4, 0x23, 0x23, .fix 1, .rw, 0, .ivs [(0, 127)]⟩, /- DOMAIN -/
  ⟨0x3600, 4, 0x24, 0x24, .fix 1, .rw, 128, .ivs [(0, 255)]⟩, /- PRIORITY1 -/
  ⟨0x3600, 4, 0x25, 0x25, .fix 1, .rw, 128, .ivs [(0, 255)]⟩, /- PRIORITY2 -/
  ⟨0x3600, 4, 0x26, 0x26, .fix 1, .rwh, 248, .ivs [(0, 255)]⟩, /- CLOCK_CLASS -/
  ⟨0x3600, 4, 0x27, 0x27, .fix 1, .rw, 0, .ivs [(0, 1)]⟩, /- CLASS_MODE -/
  ⟨0x3600, 4, 0x28, 0x28, .fix 1, .rw, 254, .ivs [(0, 255)]⟩, /- CLOCK_ACCURACY -/
  ⟨0x3600, 4, 0x29, 0x29, .fix 2, .rw, 65535, .any⟩, /- LOG_VARIANCE -/
  ⟨0x3600, 4, 0x2A, 0x2A, .fix 2, .rw, 37, .any⟩, /- UTC_OFFSET -/
  ⟨0x3600, 4, 0x2B, 0x2B, .fix 1, .rw, 0, .mask 0x3F⟩, /- TIME_FLAGS -/
  ⟨0x3600, 4, 0x2C, 0x2C, .fix 1, .rw, 160, .any⟩, /- TIME_SOURCE -/
  ⟨0x3600, 4, 0x2D, 0x2D, .fix 8, .ro, 0, .any⟩, /- CLOCK_IDENTITY -/
  ⟨0x3600, 4, 0x2E, 0x2E, .fix 1, .rw, 0, .ivs [(0, 1)]⟩, /- SLAVE_ONLY -/
  ⟨0x3600, 4, 0x2F, 0x2F, .fix 4, .ro, 0, .any⟩, /- STEPS -/
  ⟨0x3600, 4, 0x30, 0x30, .fix 4, .ro, 0, .any⟩, /- LAST_RATE_ENTRIES -/
  ⟨0x3700, 256, 0x00, 0x00, .fix 1, .const, 9, .any⟩, /- highest subindex -/
  ⟨0x3700, 256, 0x01, 0x01, .fix 4, .ro, 0, .any⟩, /- STATUS -/
  ⟨0x3700, 256, 0x02, 0x02, .fix 4, .w1c, 0, .any⟩, /- HISTORY -/
  ⟨0x3700, 256, 0x03, 0x03, .fix 4, .rw, 0, .any⟩, /- MASK -/
  ⟨0x3700, 256, 0x04, 0x04, .fix 4, .rw, 0, .any⟩, /- ROUTE -/
  ⟨0x3700, 256, 0x05, 0x05, .fix 64, .rw, 0, .any⟩, /- CONFIG -/
  ⟨0x3700, 256, 0x06, 0x06, .fix 1, .rw, 0, .ivs [(0, 1)]⟩, /- ENABLE -/
  ⟨0x3700, 256, 0x07, 0x07, .fix 512, .ro, 0, .any⟩, /- RECORD -/
  ⟨0x3700, 256, 0x08, 0x08, .fix 24, .wo, 0, .any⟩, /- OFFSET_IN -/
  ⟨0x3700, 256, 0x09, 0x09, .fix 1, .wo, 0, .ivs [(0, 2)]⟩, /- COMMAND -/
  ⟨0x3610, 1, 0x00, 0x00, .fix 1, .const, 12, .any⟩ /- highest subindex -/
]
/-- Object-table rows of chapter 08 of spec/, part 2. -/
def dict08p2 : List Row := [
  ⟨0x3610, 1, 0x01, 0x01, .fix 4, .ro, 0, .any⟩, /- STATUS -/
  ⟨0x3610, 1, 0x02, 0x02, .fix 4, .w1c, 0, .any⟩, /- HISTORY -/
  ⟨0x3610, 1, 0x03, 0x03, .fix 4, .rw, 0, .any⟩, /- MASK -/
  ⟨0x3610, 1, 0x04, 0x04, .fix 4, .rw, 0, .any⟩, /- ROUTE -/
  ⟨0x3610, 1, 0x05, 0x05, .fix 1, .rw, 0, .ivs [(0, 1)]⟩, /- PASSTHROUGH -/
  ⟨0x3610, 1, 0x06, 0x06, .fix 1, .rw, 0, .ivs [(0, 3)]⟩, /- PASSTHROUGH_COUNTER -/
  ⟨0x3610, 1, 0x07, 0x07, .fix 1, .rw, 16, .ivs [(0, 255)]⟩, /- UNICAST_POOL_FIRST -/
  ⟨0x3610, 1, 0x08, 0x08, .fix 1, .rw, 0, .ivs [(0, 240)]⟩, /- UNICAST_POOL_COUNT -/
  ⟨0x3610, 1, 0x09, 0x09, .fix 2, .ro, 0, .any⟩, /- GRANTS_ACTIVE -/
  ⟨0x3610, 1, 0x0A, 0x0A, .fix 4, .ro, 0, .any⟩, /- GRANTS_DENIED -/
  ⟨0x3610, 1, 0x0B, 0x0B, .fix 4, .ro, 0, .any⟩, /- PASSTHROUGH_DROPS -/
  ⟨0x3610, 1, 0x0C, 0x0C, .fix 4, .ro, 0, .any⟩, /- TC_CORRECTED -/
  ⟨0x3611, 1, 0x00, 0x00, .fix 1, .const, 29, .any⟩, /- highest subindex -/
  ⟨0x3611, 1, 0x01, 0x01, .fix 1, .rw, 0, .ivs [(0, 2)]⟩, /- MODE -/
  ⟨0x3611, 1, 0x11, 0x11, .fix 1, .rw, 0, .ivs [(0, 2)]⟩, /- MODE of ETH1 -/
  ⟨0x3611, 1, 0x02, 0x02, .fix 1, .ro, 0, .any⟩, /- LINK -/
  ⟨0x3611, 1, 0x12, 0x12, .fix 1, .ro, 0, .any⟩, /- LINK of ETH1 -/
  ⟨0x3611, 1, 0x03, 0x03, .fix 8, .rw, 0, .mask 0xFFFFFFFFFFFF⟩, /- MAC -/
  ⟨0x3611, 1, 0x13, 0x13, .fix 8, .rw, 0, .mask 0xFFFFFFFFFFFF⟩, /- MAC of ETH1 -/
  ⟨0x3611, 1, 0x04, 0x04, .fix 4, .rw, 0, .any⟩, /- IPV4 -/
  ⟨0x3611, 1, 0x14, 0x14, .fix 4, .rw, 0, .any⟩, /- IPV4 of ETH1 -/
  ⟨0x3611, 1, 0x05, 0x05, .fix 8, .rw, 0, .any⟩, /- IPV6_HI, IPV6_LO -/
  ⟨0x3611, 1, 0x15, 0x15, .fix 8, .rw, 0, .any⟩, /- IPV6_HI, IPV6_LO of ETH1 -/
  ⟨0x3611, 1, 0x06, 0x06, .fix 8, .rw, 0, .any⟩, /- IPV6_HI, IPV6_LO -/
  ⟨0x3611, 1, 0x16, 0x16, .fix 8, .rw, 0, .any⟩, /- IPV6_HI, IPV6_LO of ETH1 -/
  ⟨0x3611, 1, 0x07, 0x07, .fix 4, .rw, 0, .mask 0x1FFFF⟩, /- VLAN -/
  ⟨0x3611, 1, 0x17, 0x17, .fix 4, .rw, 0, .mask 0x1FFFF⟩, /- VLAN of ETH1 -/
  ⟨0x3611, 1, 0x08, 0x08, .fix 4, .rw, 0, .any⟩, /- INGRESS_ADJ -/
  ⟨0x3611, 1, 0x18, 0x18, .fix 4, .rw, 0, .any⟩, /- INGRESS_ADJ of ETH1 -/
  ⟨0x3611, 1, 0x09, 0x09, .fix 4, .rw, 0, .any⟩, /- EGRESS_ADJ -/
  ⟨0x3611, 1, 0x19, 0x19, .fix 4, .rw, 0, .any⟩, /- EGRESS_ADJ of ETH1 -/
  ⟨0x3611, 1, 0x0A, 0x0A, .fix 4, .ro, 0, .any⟩, /- RX_PTP -/
  ⟨0x3611, 1, 0x1A, 0x1A, .fix 4, .ro, 0, .any⟩, /- RX_PTP of ETH1 -/
  ⟨0x3611, 1, 0x0B, 0x0B, .fix 4, .ro, 0, .any⟩, /- TX_PTP -/
  ⟨0x3611, 1, 0x1B, 0x1B, .fix 4, .ro, 0, .any⟩, /- TX_PTP of ETH1 -/
  ⟨0x3611, 1, 0x0C, 0x0C, .fix 4, .ro, 0, .any⟩, /- RX_OTHER -/
  ⟨0x3611, 1, 0x1C, 0x1C, .fix 4, .ro, 0, .any⟩, /- RX_OTHER of ETH1 -/
  ⟨0x3611, 1, 0x0D, 0x0D, .fix 4, .ro, 0, .any⟩, /- RX_ERRORS -/
  ⟨0x3611, 1, 0x1D, 0x1D, .fix 4, .ro, 0, .any⟩, /- RX_ERRORS of ETH1 -/
  ⟨0x3612, 1, 0x00, 0x00, .fix 1, .const, 7, .any⟩, /- highest subindex -/
  ⟨0x3612, 1, 0x01, 0x01, .fix 2, .rw, 0, .any⟩, /- VPORT_ENABLE -/
  ⟨0x3612, 1, 0x02, 0x02, .span 30 1534, .wo, 0, .any⟩, /- RX_RECORD -/
  ⟨0x3612, 1, 0x03, 0x03, .span 4 1526, .ro, 0, .any⟩, /- TX_RECORD -/
  ⟨0x3612, 1, 0x04, 0x04, .fix 16, .wo, 0, .any⟩, /- TX_STAMP -/
  ⟨0x3612, 1, 0x05, 0x05, .fix 2, .ro, 0, .any⟩, /- TX_PENDING -/
  ⟨0x3612, 1, 0x06, 0x06, .fix 4, .ro, 0, .any⟩, /- RX_REFUSED -/
  ⟨0x3612, 1, 0x07, 0x07, .fix 4, .ro, 0, .any⟩ /- TX_STAMP_MISSING -/
]
/-- The object-table rows of chapter 08. -/
def dict08 : List Row := dict08p1 ++ dict08p2
/-- Object-table rows of chapter 09 of spec/, part 1. -/
def dict09p1 : List Row := [
  ⟨0x3620, 4, 0x00, 0x00, .fix 1, .const, 38, .any⟩, /- highest subindex -/
  ⟨0x3620, 4, 0x01, 0x01, .fix 4, .ro, 0, .any⟩, /- STATUS -/
  ⟨0x3620, 4, 0x02, 0x02, .fix 4, .w1c, 0, .any⟩, /- HISTORY -/
  ⟨0x3620, 4, 0x03, 0x03, .fix 4, .rw, 0, .any⟩, /- MASK -/
  ⟨0x3620, 4, 0x04, 0x04, .fix 4, .rw, 0, .any⟩, /- ROUTE -/
  ⟨0x3620, 4, 0x05, 0x14, .fix 40, .rw, 0, .any⟩, /- ENTRY_0 to _15 -/
  ⟨0x3620, 4, 0x15, 0x24, .fix 64, .ro, 0, .any⟩, /- RESULT_0 to _15 -/
  ⟨0x3620, 4, 0x25, 0x25, .fix 2, .wo, 0, .any⟩, /- ARM -/
  ⟨0x3620, 4, 0x26, 0x26, .fix 2, .wo, 0, .any⟩ /- DISARM -/
]
/-- The object-table rows of chapter 09. -/
def dict09 : List Row := dict09p1
/-- Object-table rows of chapter 10 of spec/, part 1. -/
def dict10p1 : List Row := [
  ⟨0x3800, 1, 0x00, 0x00, .fix 1, .const, 21, .any⟩, /- highest subindex -/
  ⟨0x3800, 1, 0x01, 0x01, .fix 4, .ro, 0, .any⟩, /- STATUS -/
  ⟨0x3800, 1, 0x02, 0x02, .fix 4, .w1c, 0, .any⟩, /- HISTORY -/
  ⟨0x3800, 1, 0x03, 0x03, .fix 4, .rw, 0, .any⟩, /- MASK -/
  ⟨0x3800, 1, 0x04, 0x04, .fix 4, .rw, 0, .any⟩, /- ROUTE -/
  ⟨0x3800, 1, 0x05, 0x05, .fix 1, .rw, 0, .ivs [(0, 3)]⟩, /- FAB_COUNTER -/
  ⟨0x3800, 1, 0x06, 0x06, .fix 1, .rw, 128, .ivs [(0, 255)]⟩, /- GRADE_PRIORITY -/
  ⟨0x3800, 1, 0x07, 0x07, .fix 1, .rw, 0, .ivs [(0, 1)]⟩, /- GRADE_MODE -/
  ⟨0x3800, 1, 0x08, 0x08, .fix 1, .rwh, 248, .ivs [(0, 255)]⟩, /- GRADE_CLASS -/
  ⟨0x3800, 1, 0x09, 0x09, .fix 2, .rw, 0, .ivs [(0, 4094)]⟩, /- PREFERRED_ADDRESS -/
  ⟨0x3800, 1, 0x0A, 0x0A, .fix 2, .ro, 0, .any⟩, /- ADDRESS -/
  ⟨0x3800, 1, 0x0B, 0x0B, .fix 8, .ro, 0, .any⟩, /- ROOT_ID -/
  ⟨0x3800, 1, 0x0C, 0x0C, .fix 2, .ro, 0, .any⟩, /- ROOT_GRADE -/
  ⟨0x3800, 1, 0x0D, 0x0D, .fix 1, .ro, 0, .any⟩, /- DISTANCE -/
  ⟨0x3800, 1, 0x0E, 0x0E, .fix 1, .ro, 255, .any⟩, /- PARENT_PORT -/
  ⟨0x3800, 1, 0x0F, 0x0F, .fix 2, .ro, 1, .any⟩, /- DEVICES -/
  ⟨0x3800, 1, 0x10, 0x10, .fix 2, .rw, 100, .ivs [(30, 1000)]⟩, /- ROOT_TIMEOUT -/
  ⟨0x3800, 1, 0x11, 0x11, .fix 2, .rw, 60, .ivs [(10, 3600)]⟩, /- ADDRESS_HOLD -/
  ⟨0x3800, 1, 0x12, 0x12, .fix 2, .rw, 0, .ivs [(0, 4094)]⟩, /- STAMP_DEST -/
  ⟨0x3800, 1, 0x13, 0x13, .fix 4, .ro, 0, .any⟩, /- ROOT_CHANGES -/
  ⟨0x3800, 1, 0x14, 0x14, .fix 1, .wo, 0, .ivs [(0, 2)]⟩, /- COMMAND -/
  ⟨0x3800, 1, 0x15, 0x15, .span 0 49128, .ro, 0, .any⟩, /- ADDRESS_TABLE -/
  ⟨0x3801, 1, 0x00, 0x00, .fix 1, .const, 13, .any⟩, /- highest subindex -/
  ⟨0x3801, 1, 0x01, 0x01, .fix 1, .rw, 1, .ivs [(0, 1)]⟩, /- BLEND_ENABLE -/
  ⟨0x3801, 1, 0x02, 0x02, .fix 4, .rw, 100000, .ivs [(1, 655350)]⟩, /- BLEND_RATE -/
  ⟨0x3801, 1, 0x03, 0x03, .fix 4, .rw, 1000000, .ivs [(0, 500000000)]⟩, /- BLEND_STEP_THRESHOLD -/
  ⟨0x3801, 1, 0x04, 0x04, .fix 2, .rw, 2000, .ivs [(500, 60000)]⟩, /- BLEND_LEAD -/
  ⟨0x3801, 1, 0x05, 0x05, .fix 1, .rw, 1, .ivs [(0, 1)]⟩, /- BLEND_APLL -/
  ⟨0x3801, 1, 0x06, 0x06, .fix 2, .rw, 0, .any⟩, /- BLEND_ALIGN_GROUPS -/
  ⟨0x3801, 1, 0x07, 0x07, .fix 1, .ro, 0, .any⟩, /- BLEND_STATE -/
  ⟨0x3801, 1, 0x08, 0x08, .fix 1, .ro, 0, .any⟩, /- BLEND_ROLE -/
  ⟨0x3801, 1, 0x09, 0x09, .fix 8, .ro, 0, .any⟩, /- PEER_ROOT_ID -/
  ⟨0x3801, 1, 0x0A, 0x0A, .fix 8, .ro, 0, .any⟩, /- BLEND_DELTA -/
  ⟨0x3801, 1, 0x0B, 0x0B, .fix 10, .ro, 0, .any⟩, /- BLEND_INSTANT -/
  ⟨0x3801, 1, 0x0C, 0x0C, .fix 4, .ro, 0, .any⟩, /- BLENDS -/
  ⟨0x3801, 1, 0x0D, 0x0D, .fix 4, .ro, 0, .any⟩, /- BLEND_STEPS -/
  ⟨0x3802, 1, 0x00, 0x00, .fix 1, .const, 8, .any⟩, /- highest subindex -/
  ⟨0x3802, 1, 0x01, 0x01, .fix 4, .ro, 0, .any⟩, /- TABLE_GEN -/
  ⟨0x3802, 1, 0x02, 0x02, .fix 4, .ro, 0, .any⟩, /- REBUILDS -/
  ⟨0x3802, 1, 0x03, 0x03, .fix 4, .ro, 0, .any⟩, /- NOROUTE -/
  ⟨0x3802, 1, 0x04, 0x04, .fix 1, .ro, 0, .any⟩, /- PENDING_NOW -/
  ⟨0x3802, 1, 0x05, 0x05, .fix 4, .ro, 0, .any⟩, /- PENDING_RELEASED -/
  ⟨0x3802, 1, 0x06, 0x06, .fix 4, .ro, 0, .any⟩, /- TTL_DROPS -/
  ⟨0x3802, 1, 0x07, 0x07, .fix 2, .rw, 1, .ivs [(1, 4094)]⟩, /- LOOKUP_DEST -/
  ⟨0x3802, 1, 0x08, 0x08, .fix 4, .ro, 0, .any⟩, /- LOOKUP_RESULT -/
  ⟨0x3804, 4, 0x00, 0x00, .fix 1, .const, 17, .any⟩, /- highest subindex -/
  ⟨0x3804, 4, 0x01, 0x01, .fix 1, .rw, 0, .ivs [(0, 1)]⟩, /- MODE -/
  ⟨0x3804, 4, 0x02, 0x02, .fix 1, .ro, 0, .any⟩, /- STATE -/
  ⟨0x3804, 4, 0x03, 0x03, .fix 1, .ro, 0, .any⟩, /- ROLE -/
  ⟨0x3804, 4, 0x04, 0x04, .fix 1, .rw, 255, .ivs [(0, 7), (255, 255)]⟩, /- TX_APLL -/
  ⟨0x3804, 4, 0x05, 0x05, .fix 1, .ro, 1, .any⟩, /- TX_ON_LOCAL -/
  ⟨0x3804, 4, 0x06, 0x06, .fix 8, .rw, 0, .sgn 2147483647⟩, /- ASYMMETRY -/
  ⟨0x3804, 4, 0x07, 0x07, .fix 8, .ro, 0, .any⟩, /- NEIGHBOUR_ID -/
  ⟨0x3804, 4, 0x08, 0x08, .fix 2, .ro, 0, .any⟩, /- NEIGHBOUR_ADDRESS -/
  ⟨0x3804, 4, 0x09, 0x09, .fix 1, .rw, 16, .ivs [(1, 64)]⟩, /- DELAY_FILTER -/
  ⟨0x3804, 4, 0x0A, 0x0A, .fix 8, .ro, 0, .any⟩, /- MEAN_DELAY -/
  ⟨0x3804, 4, 0x0B, 0x0B, .fix 8, .ro, 0, .any⟩, /- LAST_OFFSET -/
  ⟨0x3804, 4, 0x0C, 0x0C, .fix 4, .ro, 0, .any⟩, /- EXCHANGES -/
  ⟨0x3804, 4, 0x0D, 0x0D, .fix 2, .ro, 0, .any⟩, /- RETRAINS -/
  ⟨0x3804, 4, 0x0E, 0x0E, .fix 4, .ro, 0, .any⟩ /- FRAME_DISCARDS -/
]
/-- Object-table rows of chapter 10 of spec/, part 2. -/
def dict10p2 : List Row := [
  ⟨0x3804, 4, 0x0F, 0x0F, .fix 64, .ro, 0, .any⟩, /- CREDIT_RECORD -/
  ⟨0x3804, 4, 0x10, 0x10, .fix 2, .ro, 0, .any⟩, /- CREDIT_AUDITS -/
  ⟨0x3804, 4, 0x11, 0x11, .fix 1, .wo, 0, .ivs [(0, 2)]⟩, /- COMMAND -/
  ⟨0x3808, 4, 0x00, 0x00, .fix 1, .const, 5, .any⟩, /- highest subindex -/
  ⟨0x3808, 4, 0x01, 0x01, .fix 256, .ro, 0, .any⟩, /- ACTIVE -/
  ⟨0x3808, 4, 0x02, 0x02, .fix 256, .rw, 0, .any⟩, /- SHADOW -/
  ⟨0x3808, 4, 0x03, 0x03, .fix 1, .wo, 0, .ivs [(0, 1)]⟩, /- COMMIT -/
  ⟨0x3808, 4, 0x04, 0x04, .fix 2, .ro, 0, .any⟩, /- TABLE_GEN -/
  ⟨0x3808, 4, 0x05, 0x05, .fix 1, .ro, 0, .any⟩, /- COMMIT_PENDING -/
  ⟨0x3820, 4, 0x00, 0x00, .fix 1, .const, 9, .any⟩, /- highest subindex -/
  ⟨0x3820, 4, 0x01, 0x01, .fix 2, .rw, 0, .ivs [(1, 4094)]⟩, /- DEST -/
  ⟨0x3820, 4, 0x02, 0x02, .fix 4, .rw, 0, .any⟩, /- TARGET -/
  ⟨0x3820, 4, 0x03, 0x03, .fix 2, .rw, 0, .ivs [(0, 512)]⟩, /- LENGTH -/
  ⟨0x3820, 4, 0x04, 0x04, .span 0 512, .rwh, 0, .any⟩, /- DATA -/
  ⟨0x3820, 4, 0x05, 0x05, .fix 1, .wo, 0, .ivs [(0, 3)]⟩, /- COMMAND -/
  ⟨0x3820, 4, 0x06, 0x06, .fix 1, .ro, 0, .any⟩, /- STATE -/
  ⟨0x3820, 4, 0x07, 0x07, .fix 4, .ro, 0, .any⟩, /- ABORT_CODE -/
  ⟨0x3820, 4, 0x08, 0x08, .fix 2, .rw, 100, .ivs [(10, 5000)]⟩, /- TIMEOUT -/
  ⟨0x3820, 4, 0x09, 0x09, .fix 1, .rw, 3, .ivs [(0, 7)]⟩ /- RETRIES -/
]
/-- The object-table rows of chapter 10. -/
def dict10 : List Row := dict10p1 ++ dict10p2
/-- Object-table rows of chapter 11 of spec/, part 1. -/
def dict11p1 : List Row := [
  ⟨0x2500, 1, 0x00, 0x00, .fix 1, .const, 14, .any⟩, /- highest subindex -/
  ⟨0x2500, 1, 0x01, 0x01, .fix 4, .ro, 0, .any⟩, /- STATUS -/
  ⟨0x2500, 1, 0x02, 0x02, .fix 4, .w1c, 0, .any⟩, /- HISTORY -/
  ⟨0x2500, 1, 0x03, 0x03, .fix 4, .rw, 0, .any⟩, /- MASK -/
  ⟨0x2500, 1, 0x04, 0x04, .fix 4, .rw, 0, .any⟩, /- ROUTE -/
  ⟨0x2500, 1, 0x05, 0x05, .fix 1, .rw, 63, .mask 0x3F⟩, /- ENABLE -/
  ⟨0x2500, 1, 0x06, 0x06, .fix 2, .rw, 1000, .ivs [(0, 60000)]⟩, /- STEP_INTERVAL -/
  ⟨0x2500, 1, 0x07, 0x07, .fix 1, .rw, 22, .ivs [(18, 24)]⟩, /- HIST_COUNT -/
  ⟨0x2500, 1, 0x08, 0x08, .fix 1, .rw, 0, .ivs [(0, 2)]⟩, /- SOURCE_POLICY -/
  ⟨0x2500, 1, 0x09, 0x09, .fix 4, .rw, 10000000, .ivs [(1000, 250000000)]⟩, /- AUTO_MIN_RATE -/
  ⟨0x2500, 1, 0x0A, 0x0A, .fix 2, .rw, 200, .ivs [(1, 65535)]⟩, /- INL_LIMIT -/
  ⟨0x2500, 1, 0x0B, 0x0B, .fix 2, .rw, 2500, .ivs [(1, 65535)]⟩, /- DELAY_LIMIT -/
  ⟨0x2500, 1, 0x0C, 0x0C, .fix 1, .wo, 0, .ivs [(0, 3)]⟩, /- COMMAND -/
  ⟨0x2500, 1, 0x0D, 0x0D, .fix 4, .ro, 0, .any⟩, /- SWEEPS -/
  ⟨0x2500, 1, 0x0E, 0x0E, .fix 1, .ro, 0, .any⟩, /- SHADOW_STATE -/
  ⟨0x2501, 1, 0x00, 0x00, .fix 1, .const, 6, .any⟩, /- highest subindex -/
  ⟨0x2501, 1, 0x01, 0x06, .fix 4, .ro, 0, .any⟩, /- DIE_CAL -/
  ⟨0x2510, 6, 0x00, 0x00, .fix 1, .const, 34, .any⟩, /- highest subindex -/
  ⟨0x2510, 6, 0x01, 0x11, .fix 216, .rwh, 0, .any⟩, /- SLICE_RECORD_0 to _16 -/
  ⟨0x2510, 6, 0x12, 0x22, .fix 16, .ro, 0, .any⟩, /- SLICE_QUALITY_0 to _16 -/
  ⟨0x2520, 6, 0x00, 0x00, .fix 1, .const, 32, .any⟩, /- highest subindex -/
  ⟨0x2520, 6, 0x01, 0x10, .fix 52, .rwh, 0, .any⟩, /- OUTPUT_RECORD_0 to _15 -/
  ⟨0x2520, 6, 0x11, 0x20, .fix 8, .ro, 0, .any⟩, /- OUTPUT_QUALITY_0 to _15 -/
  ⟨0x2530, 1, 0x00, 0x00, .fix 1, .const, 28, .any⟩, /- highest subindex -/
  ⟨0x2530, 1, 0x01, 0x06, .fix 4, .rwh, 0, .mask 0xFFF⟩, /- BRANCH_TRIM -/
  ⟨0x2530, 1, 0x07, 0x0C, .fix 2, .ro, 0, .any⟩, /- BRANCH_ERROR -/
  ⟨0x2530, 1, 0x0D, 0x14, .fix 4, .rwh, 0, .mask 0x3F3F3F⟩, /- APLL_TRIM_0 to _7 -/
  ⟨0x2530, 1, 0x15, 0x1C, .fix 1, .ro, 0, .any⟩, /- APLL_MARGIN_0 to _7 -/
  ⟨0x2540, 1, 0x00, 0x00, .fix 1, .const, 14, .any⟩, /- highest subindex -/
  ⟨0x2540, 1, 0x01, 0x06, .fix 2, .ro, 0, .any⟩, /- EYE_WIDTH -/
  ⟨0x2540, 1, 0x07, 0x0C, .fix 4, .rwh, 0, .mask 0xFFFFFF⟩, /- LANE_EQ -/
  ⟨0x2540, 1, 0x0D, 0x0D, .fix 1, .rw, 0, .mask 0x3F⟩, /- ADAPT_HOLD -/
  ⟨0x2540, 1, 0x0E, 0x0E, .fix 2, .rw, 4000, .ivs [(1, 9500)]⟩ /- EYE_LIMIT -/
]
/-- The object-table rows of chapter 11. -/
def dict11 : List Row := dict11p1
/-- Object-table rows of chapter 12 of spec/, part 1. -/
def dict12p1 : List Row := [
  ⟨0x2300, 1, 0x00, 0x00, .fix 1, .const, 11, .any⟩, /- highest subindex -/
  ⟨0x2300, 1, 0x01, 0x01, .fix 4, .ro, 0, .any⟩, /- STATUS -/
  ⟨0x2300, 1, 0x02, 0x02, .fix 4, .w1c, 0, .any⟩, /- HISTORY -/
  ⟨0x2300, 1, 0x03, 0x03, .fix 4, .rw, 0, .any⟩, /- MASK -/
  ⟨0x2300, 1, 0x04, 0x04, .fix 4, .rw, 0, .any⟩, /- ROUTE -/
  ⟨0x2300, 1, 0x05, 0x05, .fix 1, .wo, 0, .ivs [(0, 2)]⟩, /- COMMAND -/
  ⟨0x2300, 1, 0x06, 0x06, .fix 2, .rw, 470, .ivs [(0, 0), (100, 10000)]⟩, /- HOLDUP_CAP -/
  ⟨0x2300, 1, 0x07, 0x07, .fix 2, .ro, 0, .any⟩, /- VHOLD_NOW -/
  ⟨0x2300, 1, 0x08, 0x08, .fix 2, .ro, 0, .any⟩, /- ENERGY_NOW -/
  ⟨0x2300, 1, 0x09, 0x09, .fix 1, .ro, 0, .any⟩, /- RECOVERY -/
  ⟨0x2300, 1, 0x0A, 0x0A, .fix 4, .ro, 0, .any⟩, /- STORE_COUNT -/
  ⟨0x2300, 1, 0x0B, 0x0B, .fix 32, .ro, 0, .any⟩, /- COUNTS -/
  ⟨0x2303, 1, 0x00, 0x00, .fix 1, .const, 7, .any⟩, /- highest subindex -/
  ⟨0x2303, 1, 0x01, 0x01, .fix 2, .rw, 24, .ivs [(0, 8760)]⟩, /- SCRUB_PERIOD -/
  ⟨0x2303, 1, 0x02, 0x02, .fix 4, .ro, 0, .any⟩, /- CORRECTED -/
  ⟨0x2303, 1, 0x03, 0x03, .fix 4, .ro, 0, .any⟩, /- UNCORRECTABLE -/
  ⟨0x2303, 1, 0x04, 0x04, .fix 4, .ro, 0, .any⟩, /- LAST_CORRECTED_ADDR -/
  ⟨0x2303, 1, 0x05, 0x05, .fix 4, .ro, 0, .any⟩, /- LAST_UNCORRECTABLE_ADDR -/
  ⟨0x2303, 1, 0x06, 0x06, .fix 4, .ro, 0, .any⟩, /- SCRUB_REWRITES -/
  ⟨0x2303, 1, 0x07, 0x07, .fix 4, .ro, 0, .any⟩, /- SCRUB_PASSES -/
  ⟨0x2310, 1, 0x00, 0x00, .fix 1, .const, 8, .any⟩, /- highest subindex -/
  ⟨0x2310, 1, 0x01, 0x01, .fix 4, .rw, 1572864, .ivs [(0, 4194303)]⟩, /- ADDRESS -/
  ⟨0x2310, 1, 0x02, 0x02, .fix 2, .rw, 256, .ivs [(1, 512)]⟩, /- READ_LENGTH -/
  ⟨0x2310, 1, 0x03, 0x03, .span 1 512, .ro, 0, .any⟩, /- READ_DATA -/
  ⟨0x2310, 1, 0x04, 0x04, .span 1 4096, .wo, 0, .any⟩, /- WRITE_DATA -/
  ⟨0x2310, 1, 0x05, 0x05, .fix 1, .wo, 0, .ivs [(0, 2)]⟩, /- COMMAND -/
  ⟨0x2310, 1, 0x06, 0x06, .fix 1, .ro, 0, .any⟩, /- HOST_PAGES -/
  ⟨0x2310, 1, 0x07, 0x07, .fix 1, .ro, 16, .any⟩, /- BUFFER_FREE -/
  ⟨0x2310, 1, 0x08, 0x08, .fix 2, .rw, 10, .ivs [(1, 3600)]⟩, /- HOST_TIMEOUT -/
  ⟨0x2320, 1, 0x00, 0x00, .fix 1, .const, 6, .any⟩, /- highest subindex -/
  ⟨0x2320, 1, 0x01, 0x01, .fix 2, .rw, 0, .ivs [(0, 1023)]⟩, /- RECORD_SELECT -/
  ⟨0x2320, 1, 0x02, 0x02, .span 1 240, .rw, 0, .any⟩, /- RECORD_DATA -/
  ⟨0x2320, 1, 0x03, 0x03, .fix 4, .ro, 0, .any⟩, /- RECORD_STATE -/
  ⟨0x2320, 1, 0x04, 0x04, .fix 4, .ro, 0, .any⟩, /- RECORD_SEQ -/
  ⟨0x2320, 1, 0x05, 0x05, .fix 1, .wo, 0, .ivs [(0, 2)]⟩, /- COMMAND -/
  ⟨0x2320, 1, 0x06, 0x06, .fix 4, .ro, 0, .any⟩, /- TIES -/
  ⟨0x2330, 1, 0x00, 0x00, .fix 1, .const, 8, .any⟩, /- highest subindex -/
  ⟨0x2330, 1, 0x01, 0x01, .fix 1, .ro, 0, .any⟩, /- STATE_A, STATE_B -/
  ⟨0x2330, 1, 0x02, 0x02, .fix 1, .ro, 0, .any⟩, /- STATE_A, STATE_B -/
  ⟨0x2330, 1, 0x03, 0x03, .fix 1, .ro, 0, .any⟩, /- BOOT_IMAGE -/
  ⟨0x2330, 1, 0x04, 0x04, .fix 4, .ro, 0, .any⟩, /- VERSION_A, VERSION_B -/
  ⟨0x2330, 1, 0x05, 0x05, .fix 4, .ro, 0, .any⟩, /- VERSION_A, VERSION_B -/
  ⟨0x2330, 1, 0x06, 0x06, .fix 4, .ro, 0, .any⟩, /- CRC_A, CRC_B -/
  ⟨0x2330, 1, 0x07, 0x07, .fix 4, .ro, 0, .any⟩, /- CRC_A, CRC_B -/
  ⟨0x2330, 1, 0x08, 0x08, .fix 4, .ro, 0, .any⟩, /- FALLBACKS -/
  ⟨0x2340, 1, 0x00, 0x00, .fix 1, .const, 10, .any⟩, /- highest subindex -/
  ⟨0x2340, 1, 0x01, 0x01, .fix 1, .rw, 1, .ivs [(0, 1)]⟩, /- LOG_ENABLE -/
  ⟨0x2340, 1, 0x02, 0x02, .fix 1, .rw, 1, .ivs [(0, 3)]⟩, /- LOG_MIN_LEVEL -/
  ⟨0x2340, 1, 0x03, 0x03, .fix 1, .rw, 0, .ivs [(0, 1)]⟩, /- LOG_CONSEQUENTIAL -/
  ⟨0x2340, 1, 0x04, 0x04, .fix 4, .ro, 0, .any⟩, /- HEAD_SEQ -/
  ⟨0x2340, 1, 0x05, 0x05, .fix 4, .ro, 0, .any⟩, /- TAIL_SEQ -/
  ⟨0x2340, 1, 0x06, 0x06, .fix 4, .rw, 0, .any⟩, /- READ_SEQ -/
  ⟨0x2340, 1, 0x07, 0x07, .fix 32, .ro, 0, .any⟩, /- RECORD -/
  ⟨0x2340, 1, 0x08, 0x08, .fix 4, .ro, 0, .any⟩, /- OVERWRITTEN -/
  ⟨0x2340, 1, 0x09, 0x09, .fix 1, .ro, 0, .any⟩, /- STAGED -/
  ⟨0x2340, 1, 0x0A, 0x0A, .fix 4, .ro, 0, .any⟩ /- LOST -/
]
/-- The object-table rows of chapter 12. -/
def dict12 : List Row := dict12p1
/-- Object-table rows of chapter 13 of spec/, part 1. -/
def dict13p1 : List Row := [
  ⟨0x2400, 1, 0x00, 0x00, .fix 1, .const, 10, .any⟩, /- highest subindex -/
  ⟨0x2400, 1, 0x01, 0x01, .fix 4, .ro, 0, .any⟩, /- STATUS -/
  ⟨0x2400, 1, 0x02, 0x02, .fix 4, .w1c, 0, .any⟩, /- HISTORY -/
  ⟨0x2400, 1, 0x03, 0x03, .fix 4, .rw, 0, .any⟩, /- MASK -/
  ⟨0x2400, 1, 0x04, 0x04, .fix 4, .rw, 0, .any⟩, /- ROUTE -/
  ⟨0x2400, 1, 0x05, 0x05, .fix 2, .rw, 50, .ivs [(5, 10000)]⟩, /- HOLD_LIMIT -/
  ⟨0x2400, 1, 0x06, 0x06, .fix 2, .rw, 64, .ivs [(8, 4096)]⟩, /- STARVE_LIMIT -/
  ⟨0x2400, 1, 0x07, 0x07, .fix 1, .rw, 10, .ivs [(2, 100)]⟩, /- WATCHDOG_TIME -/
  ⟨0x2400, 1, 0x08, 0x08, .fix 1, .wo, 0, .ivs [(0, 2)]⟩, /- COMMAND -/
  ⟨0x2400, 1, 0x09, 0x09, .fix 2, .ro, 0, .any⟩, /- SNAP_GEN -/
  ⟨0x2400, 1, 0x0A, 0x0A, .fix 4, .ro, 0, .any⟩, /- LOCK_BREAKS -/
  ⟨0x2410, 16, 0x00, 0x00, .fix 1, .const, 7, .any⟩, /- highest subindex -/
  ⟨0x2410, 16, 0x01, 0x01, .fix 1, .ro, 0, .any⟩, /- STATE -/
  ⟨0x2410, 16, 0x02, 0x02, .fix 2, .ro, 0, .any⟩, /- LOAD -/
  ⟨0x2410, 16, 0x03, 0x03, .fix 2, .ro, 0, .any⟩, /- CONTEXTS -/
  ⟨0x2410, 16, 0x04, 0x04, .fix 2, .ro, 0, .any⟩, /- RESTARTS -/
  ⟨0x2410, 16, 0x05, 0x05, .fix 4, .ro, 0, .any⟩, /- ABORTS -/
  ⟨0x2410, 16, 0x06, 0x06, .fix 4, .ro, 0, .any⟩, /- LOCK_ORDER_REFUSED -/
  ⟨0x2410, 16, 0x07, 0x07, .fix 4, .ro, 0, .any⟩, /- LONGEST_HOLD -/
  ⟨0x2420, 1, 0x00, 0x00, .fix 1, .const, 2, .any⟩, /- highest subindex -/
  ⟨0x2420, 1, 0x01, 0x01, .fix 256, .rw, 0, .any⟩, /- ASSIGN -/
  ⟨0x2420, 1, 0x02, 0x02, .fix 256, .ro, 0, .any⟩, /- ASSIGN_NOW -/
  ⟨0x2430, 24, 0x00, 0x00, .fix 1, .const, 7, .any⟩, /- highest subindex -/
  ⟨0x2430, 24, 0x01, 0x01, .fix 1, .rw, 0, .ivs [(0, 3)]⟩, /- CLASS -/
  ⟨0x2430, 24, 0x02, 0x02, .fix 4, .ro, 0, .any⟩, /- GRANTS_LO -/
  ⟨0x2430, 24, 0x03, 0x03, .fix 4, .ro, 0, .any⟩, /- GRANTS_HI -/
  ⟨0x2430, 24, 0x04, 0x04, .fix 4, .ro, 0, .any⟩, /- WAITS_LO -/
  ⟨0x2430, 24, 0x05, 0x05, .fix 4, .ro, 0, .any⟩, /- WAITS_HI -/
  ⟨0x2430, 24, 0x06, 0x06, .fix 4, .ro, 0, .any⟩, /- LONGEST_WAIT -/
  ⟨0x2430, 24, 0x07, 0x07, .fix 4, .ro, 0, .any⟩ /- AGED_GRANTS -/
]
/-- The object-table rows of chapter 13. -/
def dict13 : List Row := dict13p1
/-- Object-table rows of chapter 14 of spec/, part 1. -/
def dict14p1 : List Row := [
  ⟨0x2200, 1, 0x00, 0x00, .fix 1, .const, 16, .any⟩, /- highest subindex -/
  ⟨0x2200, 1, 0x01, 0x01, .fix 4, .ro, 0, .any⟩, /- STATUS -/
  ⟨0x2200, 1, 0x02, 0x02, .fix 4, .w1c, 0, .any⟩, /- HISTORY -/
  ⟨0x2200, 1, 0x03, 0x03, .fix 4, .rw, 0, .any⟩, /- MASK -/
  ⟨0x2200, 1, 0x04, 0x04, .fix 4, .rw, 0, .any⟩, /- ROUTE -/
  ⟨0x2200, 1, 0x05, 0x05, .fix 1, .ro, 0, .any⟩, /- FAULT_STATE -/
  ⟨0x2200, 1, 0x06, 0x06, .fix 4, .rw, 1000, .ivs [(0, 3600000)]⟩, /- QUIET_PERIOD -/
  ⟨0x2200, 1, 0x07, 0x07, .fix 4, .ro, 0, .any⟩, /- QUIET_LEFT -/
  ⟨0x2200, 1, 0x08, 0x08, .fix 2, .rw, 0, .any⟩, /- L3_GROUPS -/
  ⟨0x2200, 1, 0x09, 0x09, .fix 1, .rw, 1, .ivs [(0, 1)]⟩, /- ESCALATE -/
  ⟨0x2200, 1, 0x0A, 0x0A, .fix 1, .wo, 0, .ivs [(0, 4)]⟩, /- COMMAND -/
  ⟨0x2200, 1, 0x0B, 0x0B, .fix 4, .wo, 0, .any⟩, /- INJECT -/
  ⟨0x2200, 1, 0x0C, 0x0C, .fix 4, .ro, 0, .any⟩, /- RECOVERIES -/
  ⟨0x2200, 1, 0x0D, 0x0D, .fix 4, .ro, 0, .any⟩, /- MESSAGES -/
  ⟨0x2200, 1, 0x0E, 0x0E, .fix 4, .ro, 0, .any⟩, /- CONSEQUENTIAL_TOTAL -/
  ⟨0x2200, 1, 0x0F, 0x0F, .fix 2, .rw, 1840, .ivs [(0, 2400)]⟩, /- TEMP_WARN -/
  ⟨0x2200, 1, 0x10, 0x10, .fix 4, .ro, 0, .any⟩, /- FAULT_ENTRIES -/
  ⟨0x2201, 1, 0x00, 0x00, .fix 1, .const, 58, .any⟩, /- highest subindex -/
  ⟨0x2201, 1, 0x01, 0x1D, .fix 1, .rw, 0, .ivs [(0, 3)]⟩, /- KIND_LEVEL -/
  ⟨0x2201, 1, 0x1E, 0x1E, .fix 1, .ro, 0, .ivs [(0, 3)]⟩, /- KIND_LEVEL -/
  ⟨0x2201, 1, 0x1F, 0x3A, .fix 1, .rw, 0, .ivs [(0, 3)]⟩, /- KIND_LEVEL -/
  ⟨0x2202, 1, 0x00, 0x00, .fix 1, .const, 32, .any⟩, /- highest subindex -/
  ⟨0x2203, 1, 0x00, 0x00, .fix 1, .const, 32, .any⟩, /- highest subindex -/
  ⟨0x2204, 1, 0x00, 0x00, .fix 1, .const, 32, .any⟩, /- highest subindex -/
  ⟨0x2205, 1, 0x00, 0x00, .fix 1, .const, 32, .any⟩, /- highest subindex -/
  ⟨0x2202, 1, 0x01, 0x20, .fix 4, .w1c, 0, .any⟩, /- STICKY -/
  ⟨0x2203, 1, 0x01, 0x20, .fix 4, .w1c, 0, .any⟩, /- UNACK_L1 -/
  ⟨0x2204, 1, 0x01, 0x20, .fix 4, .w1c, 0, .any⟩, /- UNACK_L2 -/
  ⟨0x2205, 1, 0x01, 0x20, .fix 4, .w1c, 0, .any⟩, /- UNACK_L3 -/
  ⟨0x2210, 1, 0x00, 0x00, .fix 1, .const, 4, .any⟩, /- highest subindex -/
  ⟨0x2210, 1, 0x01, 0x01, .fix 2, .rw, 0, .any⟩, /- SOURCE_SELECT -/
  ⟨0x2210, 1, 0x02, 0x02, .fix 40, .rw, 0, .any⟩, /- CONFIG -/
  ⟨0x2210, 1, 0x03, 0x03, .fix 16, .ro, 0, .any⟩, /- COUNTS -/
  ⟨0x2210, 1, 0x04, 0x04, .fix 1, .ro, 0, .any⟩, /- STATE -/
  ⟨0x2220, 1, 0x00, 0x00, .fix 1, .const, 9, .any⟩, /- highest subindex -/
  ⟨0x2220, 1, 0x01, 0x01, .fix 1, .rw, 1, .ivs [(0, 3)]⟩, /- EMCY_MIN_LEVEL -/
  ⟨0x2220, 1, 0x02, 0x02, .fix 1, .rw, 0, .ivs [(0, 1)]⟩, /- EMCY_CONSEQUENTIAL -/
  ⟨0x2220, 1, 0x03, 0x03, .fix 2, .rw, 0, .ivs [(0, 4094)]⟩, /- FABRIC_DEST -/
  ⟨0x2220, 1, 0x04, 0x04, .fix 1, .rw, 1, .ivs [(0, 3)]⟩, /- FABRIC_MIN_LEVEL -/
  ⟨0x2220, 1, 0x05, 0x05, .fix 1, .rw, 0, .mask 0x3⟩, /- STREAM_ENABLE -/
  ⟨0x2220, 1, 0x06, 0x06, .fix 1, .rw, 0, .ivs [(0, 3)]⟩, /- STREAM_MIN_LEVEL -/
  ⟨0x2220, 1, 0x07, 0x07, .fix 4, .ro, 0, .any⟩, /- LOST_EMCY -/
  ⟨0x2220, 1, 0x08, 0x08, .fix 4, .ro, 0, .any⟩, /- LOST_FABRIC -/
  ⟨0x2220, 1, 0x09, 0x09, .fix 4, .ro, 0, .any⟩, /- LOST_STREAM -/
  ⟨0x2230, 1, 0x00, 0x00, .fix 1, .const, 4, .any⟩, /- highest subindex -/
  ⟨0x2230, 1, 0x01, 0x01, .fix 8, .wo, 0, .any⟩, /- INBOX_WRITE -/
  ⟨0x2230, 1, 0x02, 0x02, .fix 8, .ro, 0, .any⟩, /- INBOX_READ -/
  ⟨0x2230, 1, 0x03, 0x03, .fix 2, .ro, 0, .any⟩, /- INBOX_COUNT -/
  ⟨0x2230, 1, 0x04, 0x04, .fix 4, .ro, 0, .any⟩ /- INBOX_LOST -/
]
/-- The object-table rows of chapter 14. -/
def dict14 : List Row := dict14p1
/-- Every row of the object tables. -/
def dictRows : List Row :=
  dict01 ++ dict02 ++ dict03 ++ dict04 ++ dict05 ++ dict06 ++ dict07 ++ dict08 ++ dict09 ++ dict10 ++ dict11 ++ dict12 ++ dict13 ++ dict14

end Sys2Proof.Machine
end

