-- ==== Sys2Proof/Machine/Dict.lean ====
section
/-! DEFINITION. Looking an entry up in the object tables, and its default (R49, R50). -/

namespace Sys2Proof.Machine

/-- Does a row describe this index? -/
def Row.hasIndex (r : Row) (index : Nat) : Bool := decide (r.base ≤ index) && decide (index < r.base + r.count)

/-- Does a row describe this entry? -/
def Row.has (r : Row) (index sub : Nat) : Bool :=
  r.hasIndex index && decide (r.lo ≤ sub) && decide (sub ≤ r.hi)

/-- The rows that can describe an index, by the chapter that owns the index (R52). -/
def rowsFor (index : Nat) : List Row :=
  if index < 0x2000 then dict02
  else if index < 0x2008 then dict02
  else if index < 0x2010 then dict02
  else if index < 0x2040 then dict01
  else if index < 0x2200 then dict02
  else if index < 0x2300 then dict14
  else if index < 0x2400 then dict12
  else if index < 0x2500 then dict13
  else if index < 0x2600 then dict11
  else if index < 0x2604 then dict03
  else if index = 0x2610 then dict03
  else if index < 0x2630 then dict02
  else if index < 0x2640 then dict07
  else if index < 0x3000 then []
  else if index < 0x3100 then dict03
  else if index < 0x3200 then dict04
  else if index < 0x3400 then dict03
  else if index < 0x3430 then dict05
  else if index < 0x3440 then dict06
  else if index < 0x3600 then dict07
  else if index < 0x3620 then dict08
  else if index < 0x3700 then dict09
  else if index < 0x3800 then dict08
  else dict10

/-- The row of an entry, if the entry is allocated. -/
def findRow (index sub : Nat) : Option Row := (rowsFor index).find? (fun r => r.has index sub)

/-- Is the index allocated (R50)? -/
def indexAllocated (index : Nat) : Bool := (rowsFor index).any (fun r => r.hasIndex index)

/-- The number of bytes of an entry of fixed length, 4 for others. -/
def widthOf (index sub : Nat) : Nat :=
  match findRow index sub with
  | some ⟨_, _, _, _, .fix n, _, _, _⟩ => n
  | _ => 4

/-- The default KIND_LEVEL of each kind of fault message (R423). -/
def kindDefault (kind : Nat) : Nat :=
  if kind ∈ [0x02, 0x1E, 0x26, 0x2E, 0x30, 0x33] then 2
  else if kind ∈ [0x03, 0x04, 0x05, 0x06, 0x0E, 0x15, 0x16, 0x18, 0x1A, 0x1B, 0x1F, 0x22, 0x27, 0x2F, 0x35, 0x3A] then 0
  else 1

/-- The default CLASS of each requester of the context store (R404). -/
def classDefault (q : Nat) : Nat := if q < 16 then 2 else if q < 18 then 0 else if q < 22 then 1 else 3

/-- The default slot table of a fabric port (R304): slot 0 LINK_TIMING, slot 128 TIME_DOWN, the rest OPEN. -/
def slotDefault : Nat := 1 + 2 * 256 ^ 128

/-- A context's CONFIG at its defaults (R273): KIND FREE. -/
def contextDefault : Nat :=
  128 * 256 ^ 7 + 16 * 256 ^ 12 + 7 * 256 ^ 14 + 248 * 256 ^ 15 + 300 * 256 ^ 40 + 1000 * 256 ^ 44 + 10 * 256 ^ 48
    + 3 * 256 ^ 11 + 1 * 256 ^ 10

/-- The nominal record of slice `i` of C die `d` (R356): trims 8, INL 0, the factory offsets, NOMINAL set. -/
def nominalSlice (d i : Nat) : Nat :=
  0x01 + i * 2 ^ 8 + (d + 2) * 2 ^ 16 + 0x02 * 2 ^ 24 + Config.uniqueId % 2 ^ 32 * 2 ^ 32
    + Config.factoryOffset (17 * d + i) 0 % 2 ^ 32 * 2 ^ 64 + Config.factoryOffset (17 * d + i) 1 % 2 ^ 32 * 2 ^ 96
    + Config.factoryOffset (17 * d + i) 2 % 2 ^ 32 * 2 ^ 128
    + (2 ^ 1024 - 1) / 15 * 8 * 2 ^ (8 * 88)

/-- The record of output `i` of C die `d` before any correction (R356): TABLE_FROM_BOOT set, corrections 0. -/
def nominalOutput (d i : Nat) : Nat :=
  0x01 + (16 * d + i) * 2 ^ 8 + (d + 2) * 2 ^ 16 + 0x01 * 2 ^ 24 + Config.uniqueId % 2 ^ 32 * 2 ^ 32

/-- The value an entry holds when nothing has changed it, where the table's Default column is not one number for all
instances (R49). -/
def specialDefault (index sub : Nat) : Option Nat :=
  if index = 0x2000 then
    (if sub = 2 then some (Config.dieRevisions % 2 ^ 32)
     else if sub = 3 then some (Config.uniqueId % 2 ^ 32)
     else if sub = 4 then some (Config.uniqueId / 2 ^ 32 % 2 ^ 32) else none)
  else if 0x2020 ≤ index ∧ index < 0x202D then
    (if sub = 1 then some (index - 0x2020)
     else if sub = 2 then some (if index < 0x2026 then 4 else if index = 0x2026 then 2 else 1) else none)
  else if index = 0x1008 ∧ sub = 0 then some 0x3830_3639_524A_55
  else if index = 0x1009 ∧ sub = 0 then some (Config.hardwareVersion % 2 ^ 128)
  else if index = 0x1018 then
    (if sub = 1 then some 0x0000_05A7 else if sub = 2 then some 0x0000_9608
     else if sub = 4 then some (Config.serialNumber % 2 ^ 32) else none)
  else if index = 0x2201 ∧ 1 ≤ sub then some (kindDefault sub)
  else if 0x2430 ≤ index ∧ index < 0x2448 ∧ sub = 1 then some (classDefault (index - 0x2430))
  else if index = 0x2420 ∧ (sub = 1 ∨ sub = 2) then some (256 ^ 256 - 1)
  else if 0x2510 ≤ index ∧ index < 0x2516 ∧ 1 ≤ sub ∧ sub ≤ 17 then some (nominalSlice (index - 0x2510) (sub - 1))
  else if 0x2520 ≤ index ∧ index < 0x2526 ∧ 1 ≤ sub ∧ sub ≤ 16 then some (nominalOutput (index - 0x2520) (sub - 1))
  else if 0x3700 ≤ index ∧ index < 0x3800 ∧ (sub = 5 ∨ sub = 7) then some contextDefault
  else if 0x3808 ≤ index ∧ index < 0x380C ∧ (sub = 1 ∨ sub = 2) then some slotDefault
  else if index = 0x3611 ∧ (sub = 0x03 ∨ sub = 0x13) then some (Config.derivedMac (sub / 16) % 2 ^ 48)
  else if 0x3600 ≤ index ∧ index < 0x3604 ∧ sub = 0x2D then some ((Config.uniqueId + (index - 0x3600)) % 2 ^ 64)
  else if index = 0x3800 ∧ sub = 0x0B then some (Config.uniqueId % 2 ^ 64)
  else none

/-- The value that an unlisted entry reads as: its default (R49), 0 where the tables give none (log entry 2). -/
def defaultOf (k : Key) : Nat :=
  match specialDefault (k / 256) (k % 256) with
  | some v => v
  | none =>
    match findRow (k / 256) (k % 256) with
    | some r => r.dflt
    | none => 0

end Sys2Proof.Machine
end

