-- ==== Sys2Proof/Machine/Num.lean ====
section
/-! DEFINITION. Exact fractions, and the IEEE 754 binary64 roundings the spec asks for (R122, R135, R199, R251).
A formula the spec writes in binary64 "evaluated exactly and rounded once" is evaluated on fractions. -/

namespace Sys2Proof.Machine

/-- A fraction; every function below gives a positive denominator. -/
structure Q where
  n : Int := 0
  d : Nat := 1
deriving DecidableEq, Repr, Inhabited

/-- A fraction in lowest terms. -/
def Q.mk' (n : Int) (d : Nat) : Q :=
  if d = 0 then ⟨0, 1⟩ else ⟨n / (Nat.gcd n.natAbs d : Nat), d / Nat.gcd n.natAbs d⟩

/-- A whole number. -/
def qi (x : Int) : Q := ⟨x, 1⟩

/-- n / d. -/
def qd (n : Int) (d : Nat) : Q := Q.mk' n d

def Q.add (a b : Q) : Q := Q.mk' (a.n * b.d + b.n * a.d) (a.d * b.d)
def Q.neg (a : Q) : Q := ⟨-a.n, a.d⟩
def Q.sub (a b : Q) : Q := a.add b.neg
def Q.mul (a b : Q) : Q := Q.mk' (a.n * b.n) (a.d * b.d)
/-- Division; by zero it gives 0, and no caller divides by zero. -/
def Q.div (a b : Q) : Q :=
  if b.n = 0 then ⟨0, 1⟩
  else if b.n < 0 then Q.mk' (-(a.n * b.d)) (a.d * b.n.natAbs) else Q.mk' (a.n * b.d) (a.d * b.n.natAbs)
def Q.lt (a b : Q) : Bool := decide (a.n * b.d < b.n * a.d)
def Q.le (a b : Q) : Bool := decide (a.n * b.d ≤ b.n * a.d)
def Q.abs (a : Q) : Q := ⟨a.n.natAbs, a.d⟩
def Q.max (a b : Q) : Q := if a.lt b then b else a
def Q.min (a b : Q) : Q := if b.lt a then b else a

/-- `a` held within [lo, hi]. -/
def Q.clamp (a lo hi : Q) : Q := (a.max lo).min hi

/-- The greatest whole number at or below. -/
def Q.floor (a : Q) : Int := a.n / (a.d : Int)

/-- Rounding to the nearest whole number, halves away from zero (C's llround). -/
def Q.round (a : Q) : Int :=
  if a.n < 0 then -((2 * -a.n + a.d) / (2 * (a.d : Int))) else (2 * a.n + a.d) / (2 * (a.d : Int))

/-- Rounding to the nearest, halves toward zero (R250). -/
def Q.roundToZero (a : Q) : Int :=
  if a.n < 0 then (2 * a.n + a.d) / (2 * (a.d : Int)) else -((2 * -a.n + a.d) / (2 * (a.d : Int)))

/-- Rounding a quotient of naturals to the nearest, ties to even. -/
def divEven (n d : Nat) : Nat :=
  if 2 * (n % d) < d then n / d else if d < 2 * (n % d) then n / d + 1 else n / d + n / d % 2

/-- The binary64 number nearest to a fraction, ties to even (normal range: the values that the rules round lie well
inside it). -/
def f64 (a : Q) : Q :=
  if a.n = 0 then ⟨0, 1⟩
  else
    let e : Int := (a.n.natAbs.log2 : Int) - (a.d.log2 : Int) - 53
    let up := fun (e : Int) => if e < 0 then a.n.natAbs * 2 ^ (-e).toNat else a.n.natAbs
    let dn := fun (e : Int) => if e < 0 then a.d else a.d * 2 ^ e.toNat
    let e' := if up e / dn e < 2 ^ 53 then e else if up e / dn e < 2 ^ 54 then e + 1 else e + 2
    let m := divEven (up e') (dn e')
    let s : Int := if a.n < 0 then -1 else 1
    if e' < 0 then Q.mk' (s * m) (2 ^ (-e').toNat) else ⟨s * m * 2 ^ e'.toNat, 1⟩

/-- The binary64 square root of a non-negative fraction. -/
def sqrt64 (a : Q) : Q :=
  if a.n ≤ 0 then ⟨0, 1⟩
  else
    let v := a.n.natAbs * 2 ^ 400 / a.d
    let r := isqrt 400 v
    let sticky : Nat := if r * r = v then 0 else 1
    f64 (qd (2 * r + sticky : Nat) (2 ^ 201))

/-- 2π as the spec's formulas write it: 6.283185307179586. -/
def twoPi : Q := qd 6283185307179586 (10 ^ 15)

end Sys2Proof.Machine
end

