-- ==== Sys2Proof/Machine/TypesApll.lean ====
section
/-! DEFINITION. The state of the APLLs, the ramp generators, the reference multiplier and the output paths that no
dictionary entry holds (chapter 07 of spec/; the overlay of EDGE actions is of chapter 09). -/

namespace Sys2Proof.Machine

/-- The states of an APLL (R217). -/
inductive AState where
  | off | locking | locked | inputLost
deriving DecidableEq, Repr, Inhabited

/-- The states of a ramp (3508h+j.04). -/
inductive RState where
  | idle | running | stopping | ended
deriving DecidableEq, Repr, Inhabited

/-- The MASH 1-1-1 modulator of an APLL (R214, R215): the three accumulators in 2^−48, the carries of the second stage one cycle back and
of the third one and two cycles back, the dither register, and the integer that the divider takes. -/
structure Mash where
  a1 : Nat := 0
  a2 : Nat := 0
  a3 : Nat := 0
  c2 : Int := 0
  c3 : Int := 0
  c3z : Int := 0
  lfsr : Nat := 0
  divide : Int := 0
deriving DecidableEq, Repr, Inhabited

/-- One APLL with its ramp generator. N values are in 2^−48. -/
structure Apll where
  state : AState := .off
  /-- VCO band selection is over: windows count (R217) -/
  counting : Bool := false
  passes : Nat := 0
  fails : Nat := 0
  aligned : Bool := false
  /-- RETURN_HOLD has passed since LOCKED: its outputs run on the source (R219) -/
  returned : Bool := false
  /-- the modulator; its dither register is seeded at every entry into LOCKING (R215) -/
  mash : Mash := {}
  /-- STEP_OUTSTANDING, 2^−16 ns, and the part of a unit delivered (R221) -/
  step : Int := 0
  stepRes : Q := {}
  limited : Bool := false
  /-- mean N_eff of the last update; its integral over the present lock window up to `nMark`, and the window's length so far, in ns
  (R212, R216) -/
  nEff : Q := {}
  nSum : Q := {}
  nFor : Nat := 0
  nMark : Nat := 0
  lockLosses : Nat := 0
  lastCount : Int := 0
  changeovers : Nat := 0
  /-- where the source clock stands on its timeline at the end of the present update's µs, and the way it covers in that µs, 2^−48 ns; the
  model time at which the µs began (R213); with STEER_DPLL 0xFF the timeline is the APLL's own -/
  pos48 : Int := 0
  move48 : Int := 0
  movedAt : Nat := 0
  /-- half-periods of the source passed, counted on the timeline -/
  half : Int := 0
  ramp : RState := .idle
  seg : Nat := 0
  reversed : Bool := false
  /-- µs run of the present segment -/
  segTime : Nat := 0
  nRamp : Int := 0
  rampPhase : Int := 0
  /-- the part of a unit of ramp phase not yet delivered (R226) -/
  rampRes : Q := {}
  cycles : Nat := 0
  /-- commands START and CLEAR that wait for the next update -/
  startReq : Bool := false
  clearReq : Bool := false
  /-- updates since the ramp record was published, and a publication is due (R238) -/
  sincePub : Nat := 0
  publish : Bool := false
deriving DecidableEq, Repr, Inhabited

/-- One output path. -/
structure OutPath where
  unaligned : Bool := true
  /-- an ALIGN has reached the path, and the divider has not come to its first aligned edge (R234) -/
  aligning : Bool := false
  /-- the divider waits low for that edge; half-periods that it has been low; and the first half-period of the source, or the first
  instant of the pulse generator's counter, that the edge may lie at -/
  waiting : Bool := false
  rest : Nat := 0
  lead : Int := 0
  /-- the aligned edge has come; UNALIGNED follows -/
  reached : Bool := false
  /-- the source that the multiplexer passes, with the codes of OUT_SOURCE, and whether that source is in its high half (R219, R227) -/
  mux : Nat := 8
  high : Bool := false
  /-- the divider in force, and the half-periods (or pulses) counted since its rising edge (R228, R232) -/
  div : Nat := 1
  count : Nat := 0
  /-- the delays in force, FINE_DELAY since the last rising edge; half-periods by which a smaller COARSE_DELAY has still to shorten low
  phases; and the half-periods left until each rising edge on its way through the delay (R229) -/
  coarse : Nat := 0
  fine : Nat := 0
  owed : Nat := 0
  due : List Nat := []
  /-- half-periods left of the high phase, and whether the output drives it (R230) -/
  hi : Nat := 0
  on : Bool := false
  /-- the source half-period of the last rising edge -/
  rise : Int := 0
  /-- generator pulses that the output passes: from and to, in 2^−16 ns of model time (R232) -/
  pulses : List (Nat × Nat) := []
  /-- the bypass clock has risen since the path was forced to BYPASS (R231) -/
  safeRun : Bool := false
  /-- a fault reaction forces the safe state (R231) -/
  forced : Bool := false
  /-- the output drives: OUT_ENABLE as acted upon, or an EDGE action's overlay (R230, R289) -/
  running : Bool := false
  /-- 0 no overlay or low, 1 high, 2 a pulse (R289); the overlay's edges, in 2^−16 ns of model time -/
  overlay : Nat := 0
  pulseFrom : Nat := 0
  pulseEnd : Nat := 0
  /-- the entry of the action table that set the overlay -/
  edgeBy : Nat := 0
deriving DecidableEq, Repr, Inhabited

/-- What a ball drives (R230, R231). -/
inductive Level where
  | low | high | hiz
deriving DecidableEq, Repr, Inhabited

/-- The bypass clock (R218): the base oscillator's phase, in 10^−9 of its half-periods, and level; the divider in force, the base
half-periods since the bypass clock's last edge, and its level. -/
structure Bypass where
  acc : Nat := 0
  base : Bool := false
  div : Nat := 1
  count : Nat := 0
  high : Bool := false
deriving DecidableEq, Repr, Inhabited

/-- Chapter 07's state. -/
structure ApllSys where
  aplls : List Apll := []
  outs : List OutPath := []
  /-- REF_STATE: the reference multiplier is relocking (R210) -/
  relocking : Bool := false
  /-- the part of a reference cycle passed, ns -/
  refPart : Nat := 0
  bypass : Bypass := {}
deriving DecidableEq, Repr, Inhabited

end Sys2Proof.Machine
end

