-- ==== Sys2Proof/Machine/TypesBase.lean ====
section
/-! DEFINITION. What leaves the device, and a fault message on its way to the collector. -/

namespace Sys2Proof.Machine

/-- One thing the device sends out: the model's record of what an observer at a ball or on a medium sees. -/
inductive Sent where
  /-- a word on HD, answering a parallel-bus read (R55) -/
  | bus (v : Nat)
  /-- the bytes on SPI_MISO of one frame (R62) -/
  | spi (bytes : List Nat)
  /-- a CAN frame: identifier, length, bytes least significant first -/
  | can (cob : Nat) (d : Datum)
  /-- an Ethernet frame from a port: what it is, and its content -/
  | eth (port kind : Nat) (d : Datum)
  /-- an ordered set from a fabric port (R296): class, 0x101 CREDIT, 0x102 and 0x103 MARKER REQUEST and RESPONSE, 0x104 INIT, and its
  content -/
  | fab (port cls type dest : Nat) (d : Datum)
  /-- a fabric frame from a port (R297) -/
  | frame (port : Nat) (f : FabFrame)
  /-- an answer over an interface that is no bus of the above: a value or an abort code -/
  | answer (via : Iface) (index sub : Nat) (abort : Nat) (d : Datum)
  /-- a pulse on a pulse line: counter, instant in 2^−16 ns, index (R259) -/
  | pulse (t at_ index : Nat)
  /-- an action dispatched on a pulse line: entry and instant (R285) -/
  | dispatch (e at_ : Nat)
deriving DecidableEq, Repr

/-- A fault message on its way to the collector (R421). -/
structure Msg where
  word : Nat := 0
  /-- model time, ns, at which it was sent, or at which the link that held it came back (R432) -/
  at_ : Nat := 0
deriving DecidableEq, Repr, Inhabited

end Sys2Proof.Machine
end

