-- ==== Sys2Proof/Machine/TypesCal.lean ====
section
/-! DEFINITION. The state of background calibration that no dictionary entry holds (chapter 11 of spec/). -/

namespace Sys2Proof.Machine

/-- What is known of a slice (R349, R355, R361). -/
structure SliceCal where
  failed : Bool := false
  /-- steps in a row that ended with a trim at 0 or 15 -/
  rails : Nat := 0
  /-- 0 OWN, 1 AUX, 2 BOOT -/
  source : Nat := 2
  inlRms : Nat := 0
  inlMax : Nat := 0
  dnlMax : Nat := 0
  mismatch : Nat := 0x7FFF
  /-- model time at which the set in force came into force -/
  since : Nat := 0
  steps : Nat := 0
deriving DecidableEq, Repr, Inhabited

/-- The calibration sequencer of one C die (R345 to R349). -/
structure DieCal where
  slices : List SliceCal := List.replicate 17 {}
  /-- phase codes of R345, 0 IDLE -/
  phase : Nat := 0
  /-- the slice in step; the next one to be calibrated otherwise -/
  slice : Nat := 0
  /-- the pass is over and the sequencer works on its result -/
  processing : Bool := false
  /-- the present pass uses AUX; the rest of the step must -/
  aux : Bool := false
  auxRest : Bool := false
  /-- HIST_COUNT and SOURCE_POLICY as the present pass began with them (R359) -/
  count : Nat := 22
  policy : Nat := 0
  /-- the step took the channel over to the spare -/
  handed : Bool := false
  /-- edge rate of the channel at the comparator, edges/s -/
  rate : Nat := 0
  /-- bin counts of PASS2, and the new set under work: trims, INL, offsets (12 bytes) -/
  hist : List Nat := []
  trims : Nat := 0
  inl : List Int := []
  offsets : Nat := 0
  /-- the step's slice was abandoned once already -/
  abandoned : Bool := false
  /-- the slice whose channel the spare is parked on (R349) -/
  parked : Option Nat := none
  stopped : Bool := false
  /-- failed slices that SWEEP_NOW still has to try -/
  retry : List Nat := []
  initialDone : Bool := false
  /-- steps completed in the present sweep -/
  sweepSteps : Nat := 0
deriving DecidableEq, Repr, Inhabited

/-- What is known of an output path (R351, R361). -/
structure OutCal where
  delayError : Int := 0
  residual : Nat := 0
  /-- the path's correction by tracking, 0.01 ps -/
  track : Int := 0
deriving DecidableEq, Repr, Inhabited

/-- Chapter 11's state. -/
structure CalSys where
  dies : List DieCal := []
  outs : List OutCal := []
  /-- calibration runs: the boot is over -/
  running : Bool := false
  /-- a sweep runs, is one of SWEEP_NOW, is the initial one -/
  sweep : Bool := false
  now_ : Bool := false
  initial : Bool := false
  position : Nat := 0
  eyeLow : List Bool := [false, false, false, false, false, false]
  /-- the calibration area of the shadow region: 28 672 bytes as one number (R358) -/
  area : Nat := 0
deriving DecidableEq, Repr, Inhabited

end Sys2Proof.Machine
end

