-- ==== Sys2Proof/Machine/TypesChan.lean ====
section
/-! DEFINITION. The state of the channel slices, the stamp buffer, the exports, the gates and the measurement time base
(chapter 03 of spec/). Times are whole numbers of 2^−16 ns. -/

namespace Sys2Proof.Machine

/-- A captured stamp, on its way or delivered: the parts of STAMP96 (R12, R102, R103) and the raw time that H keeps
for gates in the measurement time base (R104). -/
structure Stamp where
  chan : Nat := 0
  falling : Bool := false
  /-- source time counter, SOURCE_TC as it stood at capture -/
  tc : Nat := 0
  /-- the counter's time at the edge, 2^−16 ns since the epoch -/
  time : Nat := 0
  /-- the raw time of the edge in the measurement time base, 2^−16 ns -/
  raw : Int := 0
  seq : Nat := 0
  flags : Nat := 0
  /-- model time of the capture, ns -/
  at_ : Nat := 0
deriving DecidableEq, Repr, Inhabited

/-- What a slice FIFO holds: stamps, and snapshot markers behind the stamps captured before them (R45). -/
inductive FifoItem where
  | stamp (x : Stamp)
  | marker
deriving DecidableEq, Repr

/-- One channel: its slice on the C die and its counters on H. -/
structure Chan where
  /-- slice FIFO, oldest first, at most 64 stamps (R100) -/
  fifo : List FifoItem := []
  captured : Nat := 0
  dropSlice : Nat := 0
  delivered : Nat := 0
  dropHub : Nat := 0
  /-- rising edges since the prescaler last passed one (R96) -/
  presc : Nat := 0
  /-- selected edges since the decimator last kept one (R97) -/
  count : Nat := 0
  /-- the decimator has restarted: the next selected edge is kept (R97) -/
  fresh : Bool := true
  /-- an edge was skipped because the TDC was not ready (R98) -/
  late : Bool := false
  /-- raw time of the last kept edge -/
  lastKept : Option Int := none
  /-- the channel is stamped by the die's spare slice (R100, R346) -/
  onSpare : Bool := false
  /-- the next stamp is the first under a new calibration correction set (R102) -/
  calStep : Bool := false
  /-- stamps captured since the last whole second (R109 RATE) -/
  second : Nat := 0
  /-- sequence of the channel's previous delivered stamp; 0xFFFF before the first (R102 GAP) -/
  lastSeq : Nat := 0xFFFF
  /-- events on the die not yet reported to the hub's HISTORY: SLICE_DROP, SKIP_SEEN -/
  dropSeen : Bool := false
  skipSeen : Bool := false
  /-- the slice has declared loss of signal (R133) -/
  los : Bool := false
deriving DecidableEq, Repr, Inhabited

/-- An entry of the stamp buffer with its bookkeeping: which consumers have yet to take it (R106). -/
structure RingEntry where
  stamp : Stamp := {}
  cup : Bool := false
  host : Bool := false
  eth : Bool := false
  fab : Bool := false
deriving DecidableEq, Repr, Inhabited

/-- One stamp of a gate run. -/
structure GateStamp where
  t : Int := 0
  seq : Nat := 0
  chan : Nat := 0
  flags : Nat := 0
  falling : Bool := false
  ns32 : Nat := 0
  /-- cycle index (R120) -/
  k : Int := 0
deriving DecidableEq, Repr, Inhabited

/-- States of a gate (R111). -/
inductive GateState where
  | idle | armed | open_ | closing | done
deriving DecidableEq, Repr, Inhabited

/-- One measurement gate. -/
structure Gate where
  state : GateState := .idle
  /-- the instant ARM took effect, in the gate's time base -/
  armedAt : Int := 0
  /-- the start of the run, in the gate's time base -/
  start : Int := 0
  /-- START_STAMP as it reads -/
  startStamp : Nat := 0
  /-- the stop stamps accepted, in order of time; for a frequency gate the stamps taken -/
  stops : List GateStamp := []
  early : Nat := 0
  cause : Nat := 0
  deadline : Int := 0
  valid : Bool := false
  /-- frequency gates: delivered stamps in the interval since the last one taken (R119) -/
  decim : Nat := 0
  /-- frequency gates: extended sequence of the last stamp taken, relative to the first -/
  ext : Int := 0
  ffo : Int := 0
  residual : Nat := 0
  /-- stop stamps that reached H while the gate is ARMED, in order of arrival: they count once the start is known (R114) -/
  early_ : List Stamp := []
  /-- KIND of the run is FREQUENCY: what RESULTS holds of it does not change with KIND -/
  freq : Bool := false
  /-- channels that have left INPUT since ARM: their stamps no longer count (R95) -/
  barred : List Nat := []
deriving DecidableEq, Repr, Inhabited

/-- The Ethernet stamp export (R108) and, in the same form, the fabric stamp export (R325). -/
structure Export where
  sequence : Nat := 0
  /-- records lost since the previous frame -/
  lost : Nat := 0
deriving DecidableEq, Repr, Inhabited

/-- The measurement time base and the SOSC (R123 to R126). -/
structure TimeBase where
  /-- the source in use is the SOSC -/
  inUse : Bool := false
  fallback : Bool := false
  sosc : Bool := false
  /-- SOSC has been present without a break for 10 s -/
  soscTen : Bool := false
  /-- model time at which the SOSC's present run began -/
  soscSince : Nat := 0
  /-- a written SOSC_HZ waits for the next adoption (R125) -/
  hzPending : Bool := false
  /-- the SOSC frequency the clocks are derived from -/
  hzInUse : Nat := 10000000
deriving DecidableEq, Repr, Inhabited

/-- Chapter 03's state. -/
structure ChanSys where
  chans : List Chan := []
  /-- the stamp buffer, oldest first, at most 131 072 entries (R106) -/
  ring : List RingEntry := []
  /-- stamp latches, one for each interface and channel: words 0 to 2 as one number (R107) -/
  latches : List (Nat × Nat) := []
  gates : List Gate := []
  /-- watermark of each die: raw time and the time in each counter (R117) -/
  wmRaw : List Int := []
  wmTc : List (List Int) := []
  eth : Export := {}
  fab : Export := {}
  base : TimeBase := {}
  /-- raw time less model time, as the latest edge or watermark showed it, 2^−16 ns -/
  rawSkew : Int := 0
deriving DecidableEq, Repr, Inhabited

end Sys2Proof.Machine
end

