-- ==== Sys2Proof/Machine/TypesCtx.lean ====
section
/-! DEFINITION. The state of the session contexts that no dictionary entry holds (chapter 08 of spec/, R262 to R278).
A context's 512-byte record (R273) stands in the dictionary, as one number, under (3700h+c).07. -/

namespace Sys2Proof.Machine

/-- A foreign master heard on a port (R262): its last Announce, how many have come in a row, and when the last came. -/
structure Foreign where
  ann : Announce := {}
  count : Nat := 0
  last : Nat := 0
deriving DecidableEq, Repr, Inhabited

/-- A virtual-port frame that waits for its TX_STAMP (R265): its tag, the message type, the sequence number and, for an
answer, whom it answers and with what correction. -/
structure Waiting where
  tag : Nat := 0
  type_ : Nat := 0
  seq : Nat := 0
  peer : Nat := 0
  /-- the correctionField of the request, which a Pdelay_Resp_Follow_Up carries on (R264) -/
  corr : Int := 0
deriving DecidableEq, Repr, Inhabited

/-- One session context. -/
structure Ctx where
  /-- last path-delay measurements, newest first, at most DELAY_FILTER, 2^−16 ns (R271) -/
  delays : List Int := []
  /-- two-step Sync waiting for its Follow_Up: sequence, ingress time, correction -/
  sync : Option (Nat × Int × Int) := none
  /-- master-to-slave difference of the last complete Sync, t2 − t1 − corrections, and its t2 -/
  ms : Option (Int × Int) := none
  /-- delay request or peer delay request in flight: sequence and t1 or t3, 2^−16 ns -/
  req : Option (Nat × Int) := none
  /-- two-step peer delay response waiting for its follow-up: sequence, t2, t4, correction -/
  presp : Option (Nat × Int × Int × Int) := none
  /-- sequence numbers of the next message of each sent type -/
  seqSync : Nat := 0
  seqReq : Nat := 0
  seqAnn : Nat := 0
  seqSig : Nat := 0
  /-- valid offsets have been arriving without a gap; for QUALIFY_TIME (R272) -/
  running : Bool := false
  qualified : Bool := false
  /-- no valid offset for OFFSET_TIMEOUT (R272) -/
  timedOut : Bool := false
  /-- SERVO: the last record was DEGRADED, or BAD (R272) -/
  degraded : Bool := false
  bad : Bool := false
  /-- FABRIC_PARTNER: its port is UP or BOUNDARY, and UPSTREAM has a parent port (R319) -/
  portOk : Bool := false
  /-- FABRIC_PARTNER: the root whose offsets it delivers (R320) -/
  root : Nat := 0
  /-- valid OFFSET_IN writes in the present and in the last whole second (R155) -/
  rateNow : Nat := 0
  rateLast : Nat := 0
  /-- the context was taken from the unicast pool (R270) -/
  pool : Bool := false
  /-- grants given or held: message type, the model time of their end, ns, and their duration, s -/
  grants : List (Nat × Nat × Nat) := []
  /-- the MAC address that ARP or neighbour solicitation has given for PEER_ADDRESS (R263) -/
  peerMac : Option Nat := none
  /-- foreign masters heard (R262) -/
  foreign : List Foreign := []
  /-- virtual-port frames that wait for a TX_STAMP (R265) -/
  stamps : List Waiting := []
  /-- GPTP: t3 and t4 of the last peer exchange, for neighborRateRatio (R267) -/
  ratePair : Option (Int × Int) := none
  /-- the engine that serves it; none when no engine is assigned (R398) -/
  engine : Option Nat := none
deriving DecidableEq, Repr, Inhabited

/-- The virtual ports' TX queue (R265), oldest first, and the next TAG. -/
structure PtpSys where
  txq : List Datum := []
  nextTag : Nat := 0
deriving DecidableEq, Repr, Inhabited

end Sys2Proof.Machine
end

