-- ==== Sys2Proof/Machine/TypesCup.lean ====
section
/-! DEFINITION. The state of E12's monitors that no entry holds (chapter 04 of spec/). -/

namespace Sys2Proof.Machine

/-- A phase sample (R131, R132): the interval it belongs to, counted from the last statistics restart, its corrected
time since the restart and its phase, both in 2^−16 ns. -/
structure CupSample where
  m : Int := 0
  t : Int := 0
  x : Int := 0
deriving DecidableEq, Repr, Inhabited

/-- One channel's cupping: the reference state and the results as E12 holds them, which the record 3100h+n.22 to .34 takes as a whole at
each evaluation (R147), and the monitors. -/
structure Cup where
  /-- STATE and DISQ_CAUSE by the codes of R140, and SCORE -/
  st : Nat := 0
  cause : Nat := 0
  score : Nat := 0
  /-- FREQ_OFFSET and DRIFT, 10^−12; MTIE and TDEV, ps -/
  freq : Int := 0
  drift : Int := 0
  mtie : List Nat := [0xFFFFFFFF, 0xFFFFFFFF, 0xFFFFFFFF, 0xFFFFFFFF, 0xFFFFFFFF]
  tdev : List Nat := [0xFFFFFFFF, 0xFFFFFFFF, 0xFFFFFFFF, 0xFFFFFFFF, 0xFFFFFFFF]
  losCount : Nat := 0
  missing : Nat := 0
  /-- commands that an evaluation has still to meet, oldest first (R141) -/
  cmds : List Nat := []
  /-- the channel's C–H link has entered DOWN since the last evaluation (R140) -/
  fell : Bool := false
  /-- samples since the last statistics restart, oldest first -/
  samples : List CupSample := []
  /-- raw time of the first sample after the restart -/
  t0 : Option Int := none
  /-- sequence of the last stamp met and the extended sequence counted from the first sample (R120) -/
  lastSeq : Nat := 0
  ext : Int := 0
  /-- index of the 1 ms interval of the last sample, in the measurement time base -/
  lastMs : Int := 0
  /-- index of the interval of the first sample -/
  firstMs : Int := 0
  /-- interval from which the frequency monitor counts its windows, and the next window's number -/
  freqBase : Int := 0
  freqWin : Nat := 0
  freqFormed : Bool := false
  freqFlag : Bool := false
  /-- |y_f| beyond 250 × 10^−6 in the last window (R134) -/
  outOfRange : Bool := false
  /-- time from which the drift monitor counts its bins, and the next bin's number -/
  driftBase : Int := 0
  driftBin : Nat := 0
  driftFormed : Bool := false
  /-- steps and blocks ended so far, for the five values of τ (R136) -/
  mtieStep : List Nat := [0, 0, 0, 0, 0]
  tdevBlock : List Nat := [0, 0, 0, 0, 0]
  /-- the score holds its last value until it is formed again (R146) -/
  hold : Bool := false
  /-- evaluations in a row at which the condition of the running timer held (R141) -/
  qualRun : Nat := 0
  clearRun : Nat := 0
  /-- model time of the entry into the present state, ns -/
  since : Nat := 0
deriving DecidableEq, Repr, Inhabited

end Sys2Proof.Machine
end

