-- ==== Sys2Proof/Machine/TypesDpll.lean ====
section
/-! DEFINITION. The state of the DPLLs (chapter 05 of spec/) and of the carafe and holdover (chapter 06 of spec/) that no
dictionary entry holds. -/

namespace Sys2Proof.Machine

/-- An entry of either tier of the carafe (R190, R193): the second or the slot it covers (a slot of a restored copy may lie before second
0), its mean temperature and its mean FREQ_CONTROL; none is the invalid code. -/
structure CarEntry where
  at_ : Int := 0
  temp : Option Int := none
  ffo : Option Int := none
deriving DecidableEq, Repr, Inhabited

/-- A second's sample on its way from S to H (R190, R191). -/
structure CarSample where
  second : Nat := 0
  ffo : Int := 0
  temp : Option Int := none
  valid : Bool := false
  /-- model time at which the second ended, ns -/
  at_ : Nat := 0
deriving DecidableEq, Repr, Inhabited

/-- A prepared holdover value (R196). -/
structure Prep where
  /-- the carafe second boundary p it was prepared at -/
  second : Nat := 0
  valid : Bool := false
  /-- ȳ, in 2^−48 -/
  mean : Q := {}
  /-- t_mid, s -/
  tmid : Q := {}
  /-- T̄ in 1/16 °C and Q̄ in K², where a sample carried a valid temperature -/
  tbar : Option Q := none
  qbar : Q := {}
  weight : Nat := 0
deriving DecidableEq, Repr, Inhabited

/-- What a visit to HOLDOVER latches for its whole length (R197). -/
structure Visit where
  prep : Prep := {}
  enable : Nat := 0
  modelValid : Bool := false
  ageing : Int := 0
  c1 : Int := 0
  c2 : Int := 0
  t0 : Int := 0
  /-- the carafe second of the entry -/
  entry : Nat := 0
  /-- the value in use, 2^−48 -/
  y : Int := 0
  /-- the model terms are frozen by a base change (R195) -/
  frozen : Bool := false
  /-- HOLDOVER_ALARM has been sent for the visit (R203) -/
  alarm : Bool := false
deriving DecidableEq, Repr, Inhabited

/-- The carafe and the holdover of one DPLL. -/
structure Carafe where
  /-- newest first, at most 1024 seconds -/
  tier1 : List CarEntry := []
  /-- newest first, at most 2700 slots -/
  tier2 : List CarEntry := []
  /-- TC0 seconds at the newest tier-1 entry; 0 while TC0 is unset -/
  newestTc0 : Nat := 0
  /-- samples on their way over link 6, oldest first -/
  sent : List CarSample := []
  /-- a prepared value on its way to the DPLL island -/
  prepSent : Option Prep := none
  /-- the prepared value that the DPLL island holds -/
  prep : Option Prep := none
  /-- a corrected holdover value on its way (R198) -/
  corr : Option Int := none
  visit : Option Visit := none
  alarm : Bool := false
  /-- the last valid temperature, and the temperature in force, 1/16 °C (R192, R198) -/
  lastTemp : Option Int := none
  inForce : Option Int := none
  /-- HOST_TEMP has been written since reset; it has not been written for 10 s -/
  hostSet : Bool := false
  hostOld : Bool := false
  stale : Bool := false
  /-- TEMP_STALE was set for a part of the present second (R192) -/
  staleSeen : Bool := false
  /-- temperature in force, summed over time in this second: 1/16 °C × ns, ns, and the model time reached -/
  tempSum : Int := 0
  tempFor : Nat := 0
  tempMark : Nat := 0
  fitWait : Bool := false
  tempKept : Bool := false
deriving DecidableEq, Repr, Inhabited

/-- The states of a DPLL (R168). -/
inductive DState where
  | freerun | acquiring | locked | pouring | holdover | software
deriving DecidableEq, Repr, Inhabited

/-- One DPLL. Phases with a suffix 48 are in 2^−48 ns, others in 2^−16 ns. -/
structure Dpll where
  state : DState := .freerun
  /-- ENABLE as the last update saw it -/
  enabled : Bool := false
  /-- the selected entry -/
  sel : Option Nat := none
  /-- output phase against the S system clock, ramp phase included -/
  phi48 : Int := 0
  /-- the timeline, 2^−48 ns from reset (R213) -/
  timeline48 : Int := 0
  /-- timeline increment of the last update, 2^−48 ns (R249) -/
  inc48 : Int := 0
  /-- model time of the last update, ns -/
  updAt : Nat := 0
  /-- timeline steps of the last update: tamps, switch steps, blend steps (R174, R180, R329) -/
  stepNow : Int := 0
  /-- FREQ_CONTROL, 2^−48 -/
  fc : Int := 0
  /-- the loop filter's integrator, 2^−160 (R490) -/
  integ : Int := 0
  clamped : Bool := false
  offset : Int := 0
  po : Int := 0
  requested : Int := 0
  withdrawn : Int := 0
  tampTotal : Int := 0
  blendTotal : Int := 0
  rampTotal : Int := 0
  applied : Int := 0
  pours : Nat := 0
  redirects : Nat := 0
  steps : Nat := 0
  tamps : Nat := 0
  transitions : Nat := 0
  /-- parts of a unit of pour and of blend not yet delivered, 10^−7 units -/
  pourAcc : Nat := 0
  blendLeft : Int := 0
  blendRate : Nat := 0
  blendAcc : Nat := 0
  faultHold : Bool := false
  /-- the fault hold as the collector last asked for it (R170) -/
  faultReq : Bool := false
  cmdHold : Bool := false
  /-- commands and tamps that wait for the next update, oldest first -/
  cmds : List Nat := []
  tampReq : List Int := []
  /-- blend steps that wait for the next update (R329) -/
  blendReq : Int := 0
  /-- written since the last update: SWITCH_MODE, SWITCH_MODE or SELECT_ENTRY, a candidate word -/
  modeFresh : Bool := false
  modeNew : Bool := false
  wordsNew : Bool := false
  /-- last known phase of each entry's candidate against the S system clock (R150) -/
  phase : List Int := [0, 0, 0, 0, 0, 0, 0, 0, 0, 0, 0, 0, 0, 0, 0, 0]
  /-- entries with a context offset that the loop has not taken, with its measurement instant and that of the entry's offset before it -/
  offsets : List (Nat × Int × Option Int) := []
  /-- measurement instant of the last offset delivered for each entry (R490) -/
  measAt : List (Option Int) := [none, none, none, none, none, none, none, none, none, none, none, none, none, none, none, none]
  /-- effective state and usability of each entry at the last update -/
  eff : List Nat := [0, 0, 0, 0, 0, 0, 0, 0, 0, 0, 0, 0, 0, 0, 0, 0]
  usable : List Bool := [false, false, false, false, false, false, false, false, false, false, false, false, false, false, false, false]
  /-- LOS of each entry's channel at the last update -/
  losWas : List Bool := [false, false, false, false, false, false, false, false, false, false, false, false, false, false, false, false]
  /-- wait-to-restore timers: the model time of their end, ns -/
  wtr : List (Option Nat) := [none, none, none, none, none, none, none, none, none, none, none, none, none, none, none, none]
  /-- hold-off in progress: the model time of its end -/
  holdoff : Option Nat := none
  /-- the candidate held through the hold-off has been unusable since it began (log entry 21) -/
  lostSeen : Bool := false
  /-- the last hold has been removed and selection has not run since: the cause of the release -/
  release : Option Nat := none
  /-- ACQ_TIMEOUT has run out -/
  acqReq : Bool := false
  /-- the phase error of the last phase sample, and whether there has been one -/
  e : Int := 0
  sampled : Bool := false
  /-- time since which the lock criterion's two conditions have held, model ns -/
  okSince : Nat := 0
  /-- the last phase sample was beyond the limit of loss; lock has been lost in LOCKED (R156) -/
  excess : Bool := false
  lost : Bool := false
  /-- phase error of the last phase sample at the last whole second met, and that second -/
  secE : Option Int := none
  secSeen : Nat := 0
  stage : Nat := 0
  /-- bandwidth of a bloom stage, µHz; none in the final stage -/
  stageBw : Option Q := none
  stageSince : Nat := 0
  /-- last phase sample beyond LOCK_PHASE, model ns -/
  stageBad : Nat := 0
  lastFrom : DState := .freerun
  lastCause : Nat := 25
  lastTime : Nat := 0
  /-- sums over the present carafe second (R190, R191) -/
  fcSum : Int := 0
  fcNum : Nat := 0
  secOk : Bool := true
  /-- a transition has been made in this update; a publication is due (R166, R186) -/
  moved : Bool := false
  publish : Bool := false
  /-- updates since the last publication of the record -/
  sincePub : Nat := 0
deriving DecidableEq, Repr, Inhabited

/-- Chapter 05's and 06's state. -/
structure DpllSys where
  dplls : List Dpll := []
  carafes : List Carafe := []
  /-- carafe second (R189) -/
  second : Nat := 0
  /-- cupping state, score and LOS of each channel as S knows them (R143) -/
  chanState : List Nat := []
  chanScore : List Nat := []
  chanLos : List Bool := []
  /-- model time since which each recovered clock has held its lock: ETH0, ETH1, FAB0 to FAB3 -/
  recSince : List (Option Nat) := [none, none, none, none, none, none]
  /-- the DPLL whose fit runs (R200) -/
  fitNow : Option Nat := none
  /-- S system clock base: the MXO (R195, R218) -/
  mxo : Bool := false
deriving DecidableEq, Repr, Inhabited

end Sys2Proof.Machine
end

