-- ==== Sys2Proof/Machine/TypesEng.lean ====
section
/-! DEFINITION. The state of the servo engines, the hub arbiter and the locks that no dictionary entry holds (chapter 13 of
spec/). -/

namespace Sys2Proof.Machine

/-- One requester of the context store (R404 to R408, R412). Counters count from reset or CLEAR_COUNTERS. -/
structure Requester where
  grants : Nat := 0
  waits : Nat := 0
  longest : Nat := 0
  agedGrants : Nat := 0
  /-- cycles waited for the present access -/
  waited : Nat := 0
  aged : Bool := false
  /-- the turn estimate of the last cycle lost (R408) -/
  turn : Nat := 0
  /-- the result of the last lock request: 0 GRANTED, 1 QUEUED, 2 LOCK_ORDER, 3 LOCK_LIMIT, 4 LOCK_HELD (R413) -/
  result : Nat := 0
  /-- the age of the operation in progress (R414) -/
  age : Option Nat := none
deriving DecidableEq, Repr, Inhabited

/-- A lock that is held: contexts 0 to 255, slots from 256 (R413). -/
structure Lock where
  id : Nat := 0
  holder : Nat := 0
  /-- model time of the grant, ns -/
  since : Nat := 0
  waiters : List Nat := []
deriving DecidableEq, Repr, Inhabited

/-- A gathered write of an operation: requester, lock, line or slot offset, data (R414). -/
structure Staged where
  q : Nat := 0
  id : Nat := 0
  line : Nat := 0
  data : Nat := 0
deriving DecidableEq, Repr, Inhabited

/-- Chapter 13's state. -/
structure EngSys where
  requesters : List Requester := []
  /-- round-robin pointers of the five levels (R405) -/
  pointers : List Nat := [0, 0, 0, 0, 0]
  locks : List Lock := []
  staged : List Staged := []
  /-- the age of the next operation -/
  nextAge : Nat := 0
  /-- model times of the restarts of each engine (R402) -/
  restarts : List (List Nat) := []
  overloaded : List Bool := []
  /-- cupping results that ended while E12 restarted: kind, channel, place of τ (R401) -/
  held : List (Nat × Nat × Nat) := []
deriving DecidableEq, Repr, Inhabited

end Sys2Proof.Machine
end

