-- ==== Sys2Proof/Machine/TypesFab.lean ====
section
/-! DEFINITION. The state of the fabric that no dictionary entry holds (chapter 10 of spec/). -/

namespace Sys2Proof.Machine

/-- A frame that waits at an egress port; `hold` is the ingress port whose cells it holds (R300, R301). -/
structure TxFrame where
  f : FabFrame := {}
  hold : Option Nat := none
deriving DecidableEq, Repr, Inhabited

/-- The credit state of one class of a port, in cells, modulo 2^32 (R300, R303). -/
structure FabClass where
  /-- as sender -/
  issued : Nat := 0
  /-- FREED as last received, and what an audit has added to it -/
  heardFreed : Nat := 0
  adj : Nat := 0
  wireLost : Nat := 0
  /-- as receiver -/
  accepted : Nat := 0
  freed : Nat := 0
  queue : List TxFrame := []
deriving DecidableEq, Repr, Inhabited

/-- One fabric port. -/
structure FabPort where
  classes : List FabClass := [{}, {}, {}, {}]
  /-- cells sent of STAMP and of BULK since they last stood even (R301) -/
  rrStamp : Nat := 0
  rrBulk : Nat := 0
  /-- a training attempt is being made (R299) -/
  trying : Bool := false
  /-- the port has left UP since it was last UP -/
  leftUp : Bool := false
  boundary : Bool := false
  /-- IDENTITY and BOOT_COUNT of the last UP (R303) -/
  lastUp : Option (Nat × Nat) := none
  /-- the transmit reference in use, and ASYMMETRY in use (R337) -/
  txApll : Nat := 0xFF
  asym : Int := 0
  /-- what the neighbour's INIT and HELLO say -/
  nbrRoot : Nat := 0
  nbrGrade : Nat := 0
  nbrSeq : Nat := 0
  nbrDist : Nat := 63
  nbrFlags : Nat := 4
  heard : Bool := false
  fresh : Bool := false
  /-- the neighbour's vector: address, distance, model time of the last refresh (R312) -/
  vector : List (Nat × Nat × Nat) := []
  lastUpdate : Option Nat := none
  /-- a change waits for the 10 ms since the last ROUTE_UPDATE to end (R312) -/
  updateOwed : Bool := false
  /-- STEP_GEN in the neighbour's last TIMING_FOLLOW_UP (R315) -/
  nbrGen : Option Nat := none
  /-- the exchange under way: SEQ, t1, STEP_GEN at t1, and t4 once stamped -/
  seq : Nat := 0
  req : Option (Nat × Int × Nat) := none
  t4 : Option Int := none
  /-- own phase term, 2^−16 ns (R316) -/
  phi : Int := 0
  /-- twice the delay, and Φ, of the last exchanges, newest first; the residue of MEAN_DELAY -/
  delays : List (Int × Int) := []
  residue : Int := 0
  /-- offsets of the last 64 exchanges, newest first (R326) -/
  offsets : List Int := []
  /-- a slot table that waits for the boundary (R305) -/
  pendingTable : Option Nat := none
deriving DecidableEq, Repr, Inhabited

/-- An entry of the remote-access store (R323). -/
structure OdStored where
  requester : Nat := 0
  chan : Nat := 0
  boot : Nat := 0
  reqId : Nat := 0
  response : Datum := {}
  /-- a DOMAIN longer than 512 bytes in sequence: its entry, the bytes still to be read, the bytes written so far (R51, log entry 89) -/
  object : Nat := 0
  rest : Datum := {}
  parts : Datum := {}
  /-- model time of the last use -/
  used : Nat := 0
deriving DecidableEq, Repr, Inhabited

/-- A request slot (R324). -/
structure ReqSlot where
  count : Nat := 0
  left : Nat := 0
  /-- length of DATA -/
  len : Nat := 0
  sent : Datum := {}
deriving DecidableEq, Repr, Inhabited

/-- A blend that this device takes part in as loser (R327 to R331). -/
structure Blend where
  winner : Nat := 0
  delta : Int := 0
  /-- INSTANT_L, 2^−16 ns -/
  instant : Int := 0
  rate : Nat := 0
  step : Bool := false
deriving DecidableEq, Repr, Inhabited

/-- Chapter 10's state. -/
structure FabSys where
  ports : List FabPort := [{}, {}, {}, {}]
  /-- the freshest ROOT_SEQ held, and the root dropped for want of advance with its last ROOT_SEQ -/
  rootSeq : Nat := 0
  dropped : Option (Nat × Nat) := none
  /-- the root whose domain a completed blend has joined, and the model time of the end of that blend (R320) -/
  merged : Option (Nat × Nat) := none
  /-- as root: identity, address, model time last heard (R311) -/
  assigned : List (Nat × Nat × Nat) := []
  /-- identity and arrival port of relayed requests (R311) -/
  relay : List (Nat × Nat) := []
  /-- the routing table in use and the one being built: destination, port, distance (R313) -/
  table : List (Nat × Nat × Nat) := []
  back : List (Nat × Nat × Nat) := []
  rebuilding : Bool := false
  /-- ADDRESS when the tables last swapped (R312) -/
  tableAddr : Nat := 0
  /-- an address is to be asked for once E14 runs again (R311, R401) -/
  askOwed : Bool := false
  again : Bool := false
  /-- pending frames with their ingress ports, oldest first (R314) -/
  pending : List TxFrame := []
  noroute : Option Nat := none
  store : List OdStored := []
  /-- requests that wait for a free entry, oldest first: arrival port and frame -/
  waiting : List (Nat × FabFrame) := []
  slots : List ReqSlot := [{}, {}, {}, {}]
  /-- requests of the fault listener: count, the one outstanding, its answer (R436) -/
  lsnCount : Nat := 0
  lsnOut : Option Nat := none
  /-- as winning root: losing roots accepted and the FAB_COUNTER time of the end of each blend (R327) -/
  accepted : List (Nat × Int) := []
  blend : Option Blend := none
  /-- APLLs whose return the write of BLEND_ALIGN_GROUPS waits for (R329) -/
  alignWait : List Nat := []
deriving DecidableEq, Repr, Inhabited

end Sys2Proof.Machine
end

