-- ==== Sys2Proof/Machine/TypesHost.lean ====
section
/-! DEFINITION. The state of the fault collector, the host interfaces, the CANopen node and the boot that no dictionary entry
holds (chapters 02, 14 and 15 of spec/). -/

namespace Sys2Proof.Machine

/-- What the collector keeps of one source (R425, R433, R444). -/
structure SourceState where
  messages : Nat := 0
  promotions : Nat := 0
  consequential : Nat := 0
  escalations : Nat := 0
  /-- arrivals that count for the window, newest first, model ns -/
  times : List Nat := []
deriving DecidableEq, Repr, Inhabited

/-- A reaction shadow: the sources it covers and the arrival of the reacting message, ns (R432). -/
structure Shade where
  covers : List Nat := []
  from_ : Nat := 0
deriving DecidableEq, Repr, Inhabited

/-- A fault record that waits for the exports (R437). -/
structure StreamRec where
  record : Nat := 0
  eth : Bool := false
  fab : Bool := false
deriving DecidableEq, Repr, Inhabited

/-- The fault collector. -/
structure ColSys where
  /-- the device leaves reset in the fault state (R462) -/
  fault : Bool := true
  /-- one for each source of R422, in its order -/
  sources : List SourceState := []
  /-- CONFIG of sources, under the source's number, where it is not the default -/
  cfgs : List (Nat × Nat) := []
  shadows : List Shade := []
  /-- reactions on S that wait for link 6: source and address -/
  owed : List (Nat × Nat) := []
  /-- output groups forced, DPLLs with a fault hold asked for, as masks -/
  groups : Nat := 0
  holds : Nat := 0
  /-- arrival of the last L2 or L3 message since the release, ns; the quiet period has run out during boot -/
  quietFrom : Option Nat := none
  quietOver : Bool := false
  /-- EMCY frames: 8 bytes, and whether it is an exit EMCY (R438) -/
  emcy : List (Nat × Bool) := []
  /-- records for FABRIC_DEST, and how often the first has been sent -/
  fabric : List Nat := []
  tries : Nat := 0
  /-- fault records for the exports (R437) -/
  stream : List StreamRec := []
  /-- model time of the last LISTENER_LOST of each listener -/
  lostAt : List (Option Nat) := [none, none, none, none]
  inbox : List Nat := []
  /-- DIE_TEMP_HIGH has been sent and the die has not cooled -/
  hot : List Bool := List.replicate 8 false
deriving DecidableEq, Repr, Inhabited

/-- A write that has been accepted and has not taken effect (R20). -/
structure Posted where
  via : Iface := .parallel
  index : Nat := 0
  sub : Nat := 0
  d : Datum := {}
  /-- the number of the journal record that it opened, none when it folded (R83, R387) -/
  ticket : Nat := 0
  /-- a 512-byte block of a longer DOMAIN with more blocks behind it (R66) -/
  part : Bool := false
deriving DecidableEq, Repr, Inhabited

/-- How the sender of a write that is held back is answered once the write is accepted (R26). -/
inductive Reply where
  | silent | answer | sdo (usdo : Bool)
deriving DecidableEq, Repr, Inhabited

/-- A write that is not accepted yet: its interface has 1024 writes pending (R26). -/
structure Stalled where
  write : Posted := {}
  reply : Reply := .silent
deriving DecidableEq, Repr, Inhabited

/-- A stream object's transfer (R65 to R67). STATE: 0 CLOSED, 1 READING, 2 WRITING, 3 DONE, 4 FAILED. -/
structure Stream where
  state : Nat := 0
  position : Nat := 0
  /-- DONE came after a read -/
  wasRead : Bool := false
  /-- the block captured or collected: its first byte's position, and its bytes -/
  base : Nat := 0
  block : Datum := {}
deriving DecidableEq, Repr, Inhabited

/-- A running SDO or USDO transfer (R74, R75). -/
structure Transfer where
  index : Nat := 0
  sub : Nat := 0
  upload : Bool := false
  /-- a block transfer with its block size, and whether a CRC ends it -/
  block : Option Nat := none
  crc : Bool := false
  /-- the announced length, 0 when it was not announced -/
  size : Nat := 0
  data : Datum := {}
  /-- bytes sent, and the place of the block in hand -/
  sent : Nat := 0
  toggle : Bool := false
  seqno : Nat := 1
  /-- the last sub-frame has come -/
  ended : Bool := false
  /-- the write of a download is held back, and so is its response (R26) -/
  held : Bool := false
deriving DecidableEq, Repr, Inhabited

/-- One TPDO (R77). -/
structure Tpdo where
  /-- SYNCs since the last transmission -/
  syncs : Nat := 0
  /-- queued by a SYNC, with the values sampled at it -/
  queued : Option Datum := none
  /-- the values last sent, and model time of that, ns -/
  last : Datum := {}
  lastAt : Option Nat := none
deriving DecidableEq, Repr, Inhabited

/-- The CANopen node. -/
structure CanSys where
  /-- 0 STOPPED, 1 PRE_OPERATIONAL, 2 OPERATIONAL, 3 INITIALISING -/
  nmt : Nat := 3
  passive : Bool := false
  busOff : Bool := false
  /-- node-ID in use, 0xFF unconfigured; its source; the node-ID that LSS has given -/
  node : Nat := 0xFF
  source : Nat := 2
  pendingNode : Option Nat := none
  pendingTiming : Option (Nat × Nat) := none
  /-- FORMAT, NOMINAL_RATE and DATA_RATE in use (R71) -/
  fd : Bool := false
  nominal : Nat := 2
  data : Nat := 1
  /-- LSS configuration state -/
  lss : Bool := false
  sdo : List (Option Transfer) := [none, none]
  tpdos : List Tpdo := List.replicate 8 {}
  /-- model time of the last EMCY, ns -/
  emcyAt : Option Nat := none
  /-- the controller is on the bus -/
  joined : Bool := false
deriving DecidableEq, Repr, Inhabited

/-- The host interfaces. -/
structure HostSys where
  /-- MODE2 to MODE0 as sampled, and the NID straps -/
  mode : Nat := 0
  nid : Nat := 0
  /-- accepted writes that wait to take effect, oldest first (R20, R26) -/
  posted : List Posted := []
  /-- writes held back by the limit of 1024, oldest first (R26) -/
  stalled : List Stalled := []
  /-- the SPI holding register (R64) -/
  holding : Option Posted := none
  /-- parallel bus: entry and value of the read latch, entry and low half of the write latch (R57, R58) -/
  readLatch : Option (Nat × Nat × Nat) := none
  writeLatch : Option (Nat × Nat × Nat) := none
  /-- stream objects of the parallel bus and of SPI -/
  streams : List Stream := [{}, {}]
deriving DecidableEq, Repr, Inhabited

/-- Reset and boot. -/
structure BootSys where
  /-- the internal reset is asserted -/
  inReset : Bool := false
  /-- steps 1 to 8 that have ended -/
  done : List Bool := List.replicate 8 false
  /-- BOOTING: from the release to DONE -/
  booting : Bool := true
  /-- the dictionary is open: RESTORE has ended (R456) -/
  open_ : Bool := false
  /-- no image runs: the loader serves (R463) -/
  loader : Bool := false
  /-- the kinds of R448 that hold the device in reset: RST_N low, the TAP, a loss of core state -/
  rstLow : Bool := false
  tap : Bool := false
  coreLost : Bool := false
  /-- causes that have arisen and whose release has not come -/
  causes : List Nat := []
  /-- an L2 or L3 message was taken in this boot -/
  fault : Bool := false
  /-- the first refusal of the boot (R455) -/
  result : Nat := 0
  /-- APLLs whose first bypass period has ended (R460) -/
  aligned : List Bool := List.replicate 8 false
  /-- the levels at the straps MODE2 to MODE0 and NID6 to NID0, which a release samples (R54, R465) -/
  strapMode : Nat := 3
  strapNid : Nat := 0
deriving DecidableEq, Repr, Inhabited

end Sys2Proof.Machine
end

