-- ==== Sys2Proof/Machine/TypesLink.lean ====
section
/-! DEFINITION. The state of the die links and of the hub's internal paths (chapter 01 of spec/). -/

namespace Sys2Proof.Machine

/-- One direction of a die link, or one hub internal path: the sender's retained buffer and the counters of its
record (R28 to R31, R36, R493). -/
structure PathDir where
  /-- words sent and not yet acknowledged, oldest first, at most 64 (R29) -/
  retained : List Nat := []
  /-- position, 0 to 63, of the oldest retained word (R28) -/
  head : Nat := 0
  /-- how many of the retained words the receiver has accepted -/
  ahead : Nat := 0
  /-- refusals so far of the word the receiver expects next (R31) -/
  refusals : Nat := 0
  /-- a refusal has been returned and its replay has not yet been made (R30) -/
  awaiting : Bool := false
  /-- words that rows of their own have brought and that no transfer has claimed yet (R493, log entry 83) -/
  loose : Nat := 0
  /-- the most replays that one of those words has had -/
  worst : Nat := 0
  /-- refusals an error injection still owes (R37) -/
  inject : Nat := 0
  sent : Nat := 0
  accepted : Nat := 0
  refused : Nat := 0
  replays : Nat := 0
  exhausted : Nat := 0
deriving DecidableEq, Repr, Inhabited

/-- The states of a die link (2020h+L.03). -/
inductive LinkState where
  | down | training | up
deriving DecidableEq, Repr, Inhabited

/-- One die link (R27, R31 to R37). -/
structure Link where
  state : LinkState := .down
  fwd : PathDir := {}
  rev : PathDir := {}
  /-- failed training attempts in a row (R33) -/
  fails : Nat := 0
  /-- the link was UP and has left UP since it last returned: the next return counts in RETRAINS -/
  leftUp : Bool := false
  /-- model time, ns, at which the link entered TRAINING -/
  since : Nat := 0
  retrains : Nat := 0
  lastRetrain : Nat := 0
  /-- ERROR_INJECT as it reads -/
  errorInject : Nat := 0
  /-- a departure from UP not yet shown in 2018h HISTORY (R48) -/
  leftSeen : Bool := false
deriving DecidableEq, Repr, Inhabited

/-- What a receiver did with a word. -/
inductive WordFate where
  | discarded | accepted | refused | exhausted
deriving DecidableEq, Repr, Inhabited

/-- H's ingest of stamps (R41): the microsecond that is being counted, what each C die has passed in it, and the deficit round robin
among the dies, which acts while they offer more than H takes. -/
structure Ingest where
  window : Nat := 0
  taken : List Nat := [0, 0, 0, 0, 0, 0]
  deficit : List Nat := [0, 0, 0, 0, 0, 0]
  turn : Nat := 0
deriving DecidableEq, Repr, Inhabited

/-- A snapshot of one channel's counters in progress (R45). -/
structure Snap where
  chan : Nat := 0
  /-- DELIVERED and DROP_HUB latched by H at t0 -/
  delivered : Nat := 0
  dropHub : Nat := 0
  /-- stamps of the channel delivered or dropped by H since t0 -/
  held : Nat := 0
  /-- CAPTURED and DROP_SLICE latched by the slice, once the request has arrived -/
  slice : Option (Nat × Nat) := none
deriving DecidableEq, Repr, Inhabited

/-- The die links, the hub paths and the snapshot. -/
structure LinkSys where
  links : List Link := []
  /-- hub internal paths, one for each island of H as receiver (log entry 12) -/
  hubPaths : List PathDir := []
  snap : Option Snap := none
  ingest : Ingest := {}
  /-- THROTTLED of the six C dies (R43) -/
  throttled : List Bool := []
  /-- READY of every die: the end of boot step 5 (DIE_STATUS) -/
  ready : Bool := false
deriving DecidableEq, Repr, Inhabited

end Sys2Proof.Machine
end

