-- ==== Sys2Proof/Machine/TypesNvm.lean ====
section
/-! DEFINITION. The non-volatile store: the three arrays, the page buffer, the jobs that wait for the cells, the two logs and
the program download (chapter 12 of spec/). -/

namespace Sys2Proof.Machine

/-- The owners of page-buffer slots that hold whole pages (R372); the two logs hold their records apart. -/
inductive Owner where
  | record | download | host
deriving DecidableEq, Repr, Inhabited

/-- A slot of the page buffer: its owner, its destination page and the 256 bytes as one number. -/
structure Slot where
  owner : Owner := .host
  page : Nat := 0
  data : Nat := 0
deriving DecidableEq, Repr, Inhabited

/-- The operations that take the cells in turn (R369, R375, R377): a requested store, the store of the power-fail
sequence, a commit of an owner's slots with the writes it holds, and the commit of the logs at power fail. -/
inductive Job where
  | store
  | pfStore
  | commit (o : Owner) (writes : Nat)
  | journal
  | eventLog
  | pfLogs
deriving DecidableEq, Repr, Inhabited

/-- The commit area with a copied commit in it (R375): the pages and their bytes, the writes, and whether the seal is
whole. -/
structure Seal where
  pages : List (Nat × Nat) := []
  writes : Nat := 0
  /-- how many journal and event-log records it brings -/
  journal : Nat := 0
  events : Nat := 0
deriving DecidableEq, Repr, Inhabited

/-- A record that is staged: its 32 bytes, and the model time of its first write, ns. -/
structure LogRec where
  val : Nat := 0
  at_ : Nat := 0
deriving DecidableEq, Repr, Inhabited

/-- The journal or the event log: a ring of 32 768 records (R387, R388, log entry 50). -/
structure LogRing where
  /-- SEQ of the next record to be committed, and how many records the ring holds -/
  next : Nat := 0
  held : Nat := 0
  /-- staged records, oldest first, at most 8 -/
  staged : List LogRec := []
  /-- records copied into the commit area whose commit runs -/
  moving : List LogRec := []
  /-- records opened since the reset -/
  opened : Nat := 0
  /-- records that wait until one can be staged -/
  waiting : List LogRec := []
deriving DecidableEq, Repr, Inhabited

/-- What the device state of the shadow region holds (R367, R389). -/
structure DevState where
  bootCount : Nat := 0
  lssNode : Option Nat := none
  /-- bit timing stored by LSS: selector and rate -/
  lssTiming : Option (Nat × Nat) := none
  bootImage : Nat := 0
  /-- 0 EMPTY, 1 DOWNLOADING, 2 VALID, 3 INVALID -/
  images : List Nat := [0, 0]
  fallbacks : Nat := 0
  accepted : Nat := 0
  committed : Nat := 0
  rolledBack : Nat := 0
  pending : Nat := 0
  commits : Nat := 0
  corrected : Nat := 0
  uncorrectable : Nat := 0
  rewrites : Nat := 0
  passes : Nat := 0
deriving DecidableEq, Repr, Inhabited

/-- The content of the shadow region but for the calibration area of the SRAM, which the calibration state holds. The CRC
stands as whether it matches (log entry 51). -/
structure Shadow where
  version : Nat := 1
  storeCount : Nat := 0
  /-- 0 COMMAND, 1 POWER_FAIL -/
  cause : Nat := 0
  loadAll : Bool := false
  loadComm : Bool := false
  loadApp : Bool := false
  dev : DevState := {}
  /-- parameter images: entry (index × 256 + subindex) and value -/
  comm : List (Nat × Datum) := []
  app : List (Nat × Datum) := []
  area : Nat := 0
deriving DecidableEq, Repr, Inhabited

/-- A program download (R80, R385). -/
structure Download where
  by_ : Iface := .parallel
  /-- bytes received -/
  received : Nat := 0
  /-- bytes received that have not entered the slots: how many, and their number -/
  rest : Datum := {}
  /-- bytes that have entered the slots -/
  placed : Nat := 0
  /-- START has come: verify once everything is committed -/
  starting : Bool := false
deriving DecidableEq, Repr, Inhabited

/-- The store island. -/
structure NvmSys where
  /-- the main array: bytes that are not 0xFF (R364, R365) -/
  cells : List (Nat × Byte) := []
  /-- groups with one or two wrong bits, under their address as 2303h.04 writes it (log entry 52) -/
  decay : List (Nat × Nat) := []
  /-- the shadow array; none is blank or torn -/
  array : Option Shadow := none
  sram : Shadow := {}
  area_ : Option Seal := none
  slots : List Slot := []
  hostWrites : Nat := 0
  /-- a HOST commit has been requested and has not ended -/
  hostCommit : Bool := false
  recordPending : Bool := false
  queue : List Job := []
  running : Option Job := none
  /-- the job in front waits on energy (R371) -/
  waiting : Bool := false
  /-- groups that wait for their rewrite (R380), and whether one runs -/
  fixes : List Nat := []
  journal : LogRing := {}
  events : LogRing := {}
  download : Option Download := none
  /-- an image CLEAR waits until the chunk being committed has left its slots (R372) -/
  clearing : Bool := false
  /-- 1F57h.01 (R385) -/
  flash : Nat := 0
  busy : Bool := true
  powerFail : Bool := false
  /-- PFAIL_N is low; host writes that are journalled are refused (R377); it was low at the release (R464) -/
  pfail : Bool := false
  pfClosed : Bool := false
  pfBoot : Bool := false
  /-- the running power-fail sequence has come to step 3 -/
  pfStep : Nat := 0
  stale : Bool := false
  scrubbing : Bool := false
  /-- VHOLD, mV, and the supplies of R446, true while valid -/
  vhold : Nat := 0
  supplies : List Bool := List.replicate 11 true
  /-- model time of the last NVM_ENERGY_LOW; records whose tie has been told -/
  lowAt : Option Nat := none
  tied : List Nat := []
  /-- a DEVICE_RESET waits for its journal record (R452) -/
  swReset : Bool := false
deriving DecidableEq, Repr, Inhabited

end Sys2Proof.Machine
end

