-- ==== Sys2Proof/Machine/TypesTc.lean ====
section
/-! DEFINITION. The state of the time counters and of the action table that no dictionary entry holds (chapters 08 and 09
of spec/). -/

namespace Sys2Proof.Machine

/-- A change of a counter that waits for the next tick: SET_TIME to a value in 2^−16 ns, or a tamp (R246, R255). -/
inductive TcReq where
  | set (v : Nat)
  | tamp (x : Int)
deriving DecidableEq, Repr

/-- An offset on its way to an HWS counter (R251, R271). -/
structure TcOffset where
  offset : Int := 0
  /-- the measurement instant in the counter, 2^−16 ns -/
  meas : Int := 0
  ctx : Nat := 0
  /-- the master, and with INSTANCE_SLAVE the slave context as part of it -/
  master : Nat := 0
  valid : Bool := false
deriving DecidableEq, Repr, Inhabited

/-- HWS_STATE (R252). -/
inductive HState where
  | noMaster | tracking | lastRate | notHws
deriving DecidableEq, Repr, Inhabited

/-- One time counter. Amounts are in 2^−16 ns unless the name ends in 48. -/
structure Tc where
  /-- the counter's value in 2^−48 ns since the epoch: seconds, nanoseconds and the 48-bit fraction (R242) -/
  val : Nat := 0
  /-- TIME_UNSET (R244) -/
  unset : Bool := true
  stepGen : Nat := 0
  steps : Nat := 0
  reqs : List TcReq := []
  requested : Int := 0
  withdrawn : Int := 0
  po : Int := 0
  tampTotal : Int := 0
  blendTotal : Int := 0
  applied : Int := 0
  /-- a pour is in progress: POUR_DONE is due when POUR_OUTSTANDING reaches 0 (R256) -/
  pouring : Bool := false
  /-- part of a unit of the pour already delivered, in 1/5^10 of a unit (R256) -/
  pourAcc : Nat := 0
  /-- blend slope in progress: what is left, its rate in 0.1 ns/s, the part of a unit delivered (R257) -/
  blendLeft : Int := 0
  blendRate : Nat := 0
  blendAcc : Nat := 0
  hws : HState := .notHws
  /-- the standing OFFSET (R254) -/
  offset : Int := 0
  lastError : Int := 0
  lastRates : Nat := 0
  /-- the servo's integrator, 2^−160 (R251) -/
  integ : Int := 0
  /-- measurement time of the previous servo update; none right after entering TRACKING -/
  lastMeas : Option Int := none
  /-- consecutive valid offsets counted, and the master they came from (R252) -/
  settle : Nat := 0
  master : Nat := 0
  kpLimited : Bool := false
  clamped : Bool := false
  /-- offsets on their way, oldest first -/
  offsets : List TcOffset := []
  tieSeconds : Int := 0
  /-- TIED: increments and timeline steps on their way over link 6, and arrived for the microseconds to come (R249) -/
  tieSent : List (Int × Int) := []
  tieNext : List (Int × Int) := []
  /-- TIED: the increment in use, 2^−48 ns for 1 µs, and the ticks of it already made -/
  tieInc48 : Int := 281474976710656000
  tieTick : Nat := 0
  /-- TIED: the rate of the last increment, less its timeline step, on which the counter goes on -/
  tieLast48 : Int := 281474976710656000
  /-- TIED: what the counter went on by in each microsecond whose increment is late, oldest first -/
  tieOwed : List Int := []
  /-- TIED: a difference being taken up, and the ticks left for it -/
  catch48 : Int := 0
  catchLeft : Nat := 0
  /-- TIED: ticks left in which the counter moves by a timeline step (R249, R286) -/
  tieStepping : Nat := 0
  /-- PULSE settings in effect at the generator (R259) -/
  pulsePeriod : Nat := 0
  pulsePhase : Nat := 0
  pulseWidth : Nat := 100
  /-- the last pulse instant met, ns -/
  pulseAt : Nat := 0
deriving DecidableEq, Repr, Inhabited

/-- The result record of an action-table entry (R281) with what the table keeps of it. -/
structure SchedEntry where
  /-- 0 IDLE, 1 ARMED, 2 DONE -/
  state : Nat := 0
  /-- [0] LATE, [1] DROPPED, [2] REFUSED, [3] STEP_SEEN -/
  flags : Nat := 0
  runs : Nat := 0
  drops : Nat := 0
  skipped : Nat := 0
  lateness : Int := 0
  captured : Nat := 0
  code : Nat := 0
  /-- number of the next occurrence (R283) -/
  occ : Nat := 0
  /-- the counter's value at which it became pending (R286) -/
  since : Int := 0
  /-- a step of the counter has carried it past the occurrence (R286) -/
  passed : Bool := false
  /-- the occurrence has been dispatched on the pulse line (R285) -/
  sent : Bool := false
  /-- it became due at a tick of its counter and has not been handled (R283); the counter that a CAPTURE names, as that tick left it before
  any step (R284) -/
  due : Bool := false
  seen : Nat := 0
deriving DecidableEq, Repr, Inhabited

/-- An occurrence under way outside H: dispatched to a C die, or sent to S (R285). -/
structure Flight where
  entry : Nat := 0
  /-- the 40-byte entry as it stood -/
  rec_ : Nat := 0
  instant : Nat := 0
  late : Bool := false
  /-- it was dispatched after its instant, or a step has carried the counter past it since (R285) -/
  passed : Bool := false
deriving DecidableEq, Repr, Inhabited

/-- The action table. -/
structure SchedSys where
  entries : List SchedEntry := []
  /-- dispatched on the pulse lines -/
  flights : List Flight := []
  /-- on their way to S over link 6 -/
  toS : List Flight := []
  /-- arrived at S, for the next update of their DPLL -/
  atS : List Flight := []
deriving DecidableEq, Repr, Inhabited

end Sys2Proof.Machine
end

