-- ==== Sys2Proof/Machine/State.lean ====
section
/-! DEFINITION. The state of the device, as plain data, and the state after reset. The registers that the object
tables name stand in `od` under their key (index × 256 + subindex), those that live on S or a C die and are mirrored
into the hub stand in `dr` under the same key; what no entry holds stands in the groups below. -/

namespace Sys2Proof.Machine

/-- The faults a step can end in. No meaning of this model raises one: every command of the table has an effect that
the spec gives, or leaves the state as it is where its condition does not hold. -/
inductive Fault where
  /-- raised by nobody: a place for a fault, safe -/
  | none_
deriving DecidableEq, Repr

/-- The refusals a step can end in. -/
inductive Refusal where
  /-- raised by a dispatch arm of a command that has no meaning yet; safe, the machine stops -/
  | notModelled (mnemonic : String)
deriving DecidableEq, Repr

/-- The whole device. -/
structure State where
  /-- commands waiting, first in, first out -/
  pending : List Instr := []
  /-- model time, ns, in ticks of 4 (log entry 1) -/
  now : Nat := 0
  /-- the object dictionary in the hub: entries not at their default -/
  od : List (Nat × Nat) := []
  /-- registers on S and the C dies that the hub mirrors: entries not at their default (R24) -/
  dr : List (Nat × Nat) := []
  /-- what the device has sent, newest first: the model's own record (log entry 3) -/
  out : List Sent := []
  /-- free values used so far: the model's own counter (log entry 4) -/
  free : Nat := 0
  /-- fault messages that have not been taken by the collector, oldest first (R425) -/
  faultIn : List Msg := []
  link : LinkSys := {}
  chan : ChanSys := {}
  tcs : List Tc := []
  cups : List Cup := []
  dp : DpllSys := {}
  ctxs : List Ctx := []
  ptp : PtpSys := {}
  ap : ApllSys := {}
  sched : SchedSys := {}
  /-- engines that are restarting (R401) -/
  engDown : List Nat := []
  eng : EngSys := {}
  fab : FabSys := {}
  cal : CalSys := {}
  nv : NvmSys := {}
  col : ColSys := {}
  can : CanSys := {}
  host : HostSys := {}
  boot : BootSys := {}
  /-- a reset of the device is due, with its cause (R402, R448) -/
  resetReq : Option Nat := none
deriving DecidableEq, Repr

/-- Right after the release that follows the first power-up (R448, R453): every block at its start, the boot at its beginning. Entries read
their defaults (R49) but for LAST_RESET_CAUSE (POWER_ON) and the boot's progress object (RUNNING, 8 steps; R449, R458), and STATUS on S shows the APLLs OFF and on bypass (R237). The store is that
of a device whose arrays are blank (log entry 42). The straps sampled at this release are those of the cold start that chapter 15 works out:
MODE 0b011, and NID 0 (log entry 84). -/
def State.reset : State :=
  { pending := []
    od := [(0x200008, 1), (0x204601, 1), (0x204604, 8)]
    dr := (List.range 8).map fun j => (0x350001 + 256 * j, 8)
    link := { links := List.replicate 13 {}, hubPaths := List.replicate 28 {}, throttled := List.replicate 6 true }
    chan := { chans := List.replicate 96 {}, gates := List.replicate 24 {}, wmRaw := List.replicate 6 0,
              wmTc := List.replicate 6 [0, 0, 0, 0] }
    tcs := List.replicate 4 {}
    cups := List.replicate 96 {}
    dp := { dplls := List.replicate 16 {}, carafes := List.replicate 16 {}, chanState := List.replicate 96 0,
            chanScore := List.replicate 96 0, chanLos := List.replicate 96 false }
    ctxs := List.replicate 256 {}
    ap := { aplls := List.replicate 8 {}, outs := List.replicate 96 {} }
    sched := { entries := List.replicate 64 {} }
    eng := { requesters := List.replicate 24 {}, restarts := List.replicate 16 [], overloaded := List.replicate 16 false }
    cal := { dies := List.replicate 6 {}, outs := List.replicate 96 {} }
    col := { sources := List.replicate 39 {} }
    host := { mode := 3 } }

end Sys2Proof.Machine
end

