-- ==== Sys2Proof/Machine/Ops.lean ====
section
/-! DEFINITION. The named operations over the dictionary, the registers on the dies, HISTORY bits, free values, what is
sent, and the fault messages. -/

namespace Sys2Proof.Machine

/-- The value of an entry in the hub. -/
def State.rd (s : State) (k : Key) : Nat := storeRd (defaultOf k) s.od k

/-- Set an entry in the hub. -/
def State.put (s : State) (k : Key) (v : Nat) : State := { s with od := storePut (defaultOf k) s.od k v }

/-- The value of a register on S or a C die. -/
def State.drd (s : State) (k : Key) : Nat := storeRd (defaultOf k) s.dr k

/-- Set a register on S or a C die. -/
def State.dput (s : State) (k : Key) (v : Nat) : State := { s with dr := storePut (defaultOf k) s.dr k v }

/-- The value of an entry as a signed number of `w` bits. -/
def State.rdI (s : State) (w : Nat) (k : Key) : Int := toI w (s.rd k)

/-- Set an entry to a signed number, in two's complement of `w` bits. -/
def State.putI (s : State) (w : Nat) (k : Key) (x : Int) : State := s.put k (ofI w x)

/-- Signed registers on the dies. -/
def State.drdI (s : State) (w : Nat) (k : Key) : Int := toI w (s.drd k)
def State.dputI (s : State) (w : Nat) (k : Key) (x : Int) : State := s.dput k (ofI w x)

/-- Add to a counter that wraps at 2^`w`. -/
def State.inc (s : State) (w : Nat) (k : Key) (n : Nat) : State := s.put k (cut w (s.rd k + n))

/-- Add to a counter that saturates at 2^`w` − 1. -/
def State.incSat (s : State) (w : Nat) (k : Key) (n : Nat) : State := s.put k (sat w (s.rd k + n))

/-- The same for counters on a die. -/
def State.dinc (s : State) (w : Nat) (k : Key) (n : Nat) : State := s.dput k (cut w (s.drd k + n))
def State.dincSat (s : State) (w : Nat) (k : Key) (n : Nat) : State := s.dput k (sat w (s.drd k + n))

/-- Add to a signed ledger of 64 bits (PHASE64, wrapping in two's complement, R258). -/
def State.addI (s : State) (k : Key) (x : Int) : State := s.putI 64 k (s.rdI 64 k + x)

/-- An event sets bits of the HISTORY of a record in the hub (R88): subindex .02. -/
def State.hist (s : State) (index mask : Nat) : State := s.put (key index 2) (setBits (s.rd (key index 2)) mask)

/-- An event sets bits of a HISTORY that lives on S or a C die. -/
def State.dhist (s : State) (index mask : Nat) : State := s.dput (key index 2) (setBits (s.drd (key index 2)) mask)

/-! A whole group of the state set by a function. -/

def State.setChans (s : State) (f : ChanSys → ChanSys) : State := { s with chan := f s.chan }
def State.setDp (s : State) (f : DpllSys → DpllSys) : State := { s with dp := f s.dp }
def State.setAp (s : State) (f : ApllSys → ApllSys) : State := { s with ap := f s.ap }
def State.setEng (s : State) (f : EngSys → EngSys) : State := { s with eng := f s.eng }
def State.setFab (s : State) (f : FabSys → FabSys) : State := { s with fab := f s.fab }
def State.setCal (s : State) (f : CalSys → CalSys) : State := { s with cal := f s.cal }
def State.nvSet (s : State) (f : NvmSys → NvmSys) : State := { s with nv := f s.nv }
def State.setCol (s : State) (f : ColSys → ColSys) : State := { s with col := f s.col }
def State.setCan (s : State) (f : CanSys → CanSys) : State := { s with can := f s.can }
def State.setHost (s : State) (f : HostSys → HostSys) : State := { s with host := f s.host }
def State.setBoot (s : State) (f : BootSys → BootSys) : State := { s with boot := f s.boot }

/-- The causes of a reset, first in rank first: POWER_ON, SUPPLY_DROP, RST_N, JTAG, WATCHDOG, NMT_FULL, SOFTWARE (R449). -/
def causeOrder : List Nat := [1, 3, 2, 6, 7, 4, 5]

/-- The cause with which a reset is due once another has arisen: the first of the two in rank (R449, log entry 59). -/
def dueCause (due : Option Nat) (c : Nat) : Nat :=
  match due with
  | some d => if causeOrder.idxOf d ≤ causeOrder.idxOf c then d else c
  | none => c

/-- A reset of the device is due, with its cause (R402, R448); none: it has been taken. -/
def State.resetDue (s : State) (c : Option Nat) : State := { s with resetReq := c.map (dueCause s.resetReq) }

/-- Several operations, left to right. -/
def State.many {α : Type} (s : State) (l : List α) (f : α → State → State) : State := l.foldl (fun s a => f a s) s

/-- An operation only under a condition. -/
def State.when (s : State) (b : Bool) (f : State → State) : State := if b then f s else s

/-- Send something out. -/
def State.send (s : State) (x : Sent) : State := { s with out := x :: s.out }

/-- The next free value, cut to `w` bits (log entry 4). -/
def State.freeVal (s : State) (w : Nat) : Nat := cut w (Config.freeValue s.free)

/-- The free value has been used. -/
def State.freeNext (s : State) : State := { s with free := s.free + 1 }

/-- A fault message (R421): die code, block, kind, address. -/
def faultWord (die block kind addr : Nat) : Nat :=
  die % 8 * 2 ^ 29 + block % 128 * 2 ^ 22 + kind % 64 * 2 ^ 16 + addr % 2 ^ 16

/-- Send a fault message to the collector, which takes it by FAULT_MESSAGE (R425). -/
def State.raise (s : State) (die block kind addr : Nat) : State :=
  { s with faultIn := s.faultIn ++ [⟨faultWord die block kind addr, s.now⟩] }

/-- Values of given lengths in bytes, one after the other, as one value. -/
def packed (l : List (Nat × Nat)) : Datum :=
  l.foldr (fun e x => ⟨e.1 + x.len, cut (8 * e.1) e.2 + x.val * 2 ^ (8 * e.1)⟩) {}

/-- Wrap a state as the outcome of a command that completes. -/
abbrev next (s : State) : Host.Outcome State Fault Refusal := .next s

end Sys2Proof.Machine
end

