-- ==== Sys2Proof/Machine/Links.lean ====
section
/-! DEFINITION. The die links and the hub's internal paths: words, acknowledgements, replays, training, counters and
error injection (chapter 01 of spec/, R28 to R37, R43, R493). -/

namespace Sys2Proof.Machine

/-- Link `l`; a link that does not exist reads as one that is DOWN. -/
def State.linkAt (s : State) (l : Nat) : Link := s.link.links.getD l {}

/-- Change link `l`. -/
def State.setLink (s : State) (l : Nat) (f : Link → Link) : State :=
  { s with link := { s.link with links := upd s.link.links l f } }

/-- Is link `l` UP? -/
def State.linkUp (s : State) (l : Nat) : Bool := (s.linkAt l).state == .up

/-- The link that joins a die to H: die codes of R17, H itself needs none. -/
def dieReachable (s : State) (die : Nat) : Bool :=
  if die = 0 then true else if die = 1 then s.linkUp 6 else s.linkUp (die - 2)

/-- The C die of channel n, 0 to 5 (R2). -/
def dieOfChan (n : Nat) : Nat := n / 16

/-- Is the word with its parity bit of even weight (R28)? -/
def parityOk (word : Nat) (parity : Bool) : Bool := (popCount 32 word + b2n parity) % 2 == 0

/-- What the receiver does with a word at a position (R29, R30, R31): `ok` is its parity. The word at the expected
position is judged; a word further on is discarded while the expected one is outstanding, and a position already
accepted is discarded. A position past the last one sent is a first transmission and takes a place in the retained
buffer. -/
def takeWord (d : PathDir) (pos word : Nat) (ok : Bool) : PathDir × WordFate :=
  let off := (pos + 128 - (d.head + d.ahead) % 64) % 64
  let unaccepted := d.retained.length - d.ahead
  let first := off == unaccepted && decide (d.retained.length < 64)
  let d1 := if first then { d with retained := d.retained ++ [word], sent := cut 32 (d.sent + 1), loose := d.loose + 1 } else d
  if ¬ first ∧ unaccepted ≤ off then (d, .discarded)
  else if off ≠ 0 ∨ d.awaiting then (d1, .discarded)
  else if 0 < d.inject ∨ ok = false then
    let d2 := { d1 with refused := cut 32 (d1.refused + 1), inject := d1.inject - 1 }
    if d.refusals + 1 = 4 then
      ({ d2 with refusals := 0, awaiting := false, exhausted := sat 16 (d1.exhausted + 1) }, .exhausted)
    else ({ d2 with refusals := d.refusals + 1, awaiting := true }, .refused)
  else
    ({ d1 with retained := d1.retained.set d1.ahead word, ahead := d1.ahead + 1, refusals := 0, worst := max d.worst d.refusals }, .accepted)

/-- A transfer's words on a direction (R493): those that rows of their own have brought are its first ones, the others are sent now, and
the lanes spoil the next word `noise` times (with the injections still owed). It waits while a refusal stands or the retained buffer has
no room (R29, R30; what it needs beyond 64 positions is acknowledged as it goes); it ends in exhausted replays (R31); or all its words
are accepted, with the most replays that one of them had. -/
def carryPath (d : PathDir) (ws : List Nat) (noise : Nat) : PathDir × WordFate × Nat :=
  let fresh := ws.drop d.loose
  let all := d.retained ++ fresh
  if d.awaiting ∨ 64 < d.retained.length + min fresh.length 64 then (d, .discarded, 0)
  else if all.length ≤ d.ahead then ({ d with loose := d.loose - ws.length, worst := 0 }, .accepted, d.worst)
  else if 3 < d.refusals + d.inject + noise then
    let held := all.take 64
    ({ d with retained := held, sent := cut 32 (d.sent + (held.length - d.retained.length))
              loose := d.loose + (held.length - d.retained.length)
              refused := cut 32 (d.refused + (4 - d.refusals)), replays := cut 32 (d.replays + (3 - d.refusals)), refusals := 0
              inject := d.inject - (4 - d.refusals), exhausted := sat 16 (d.exhausted + 1) }, .exhausted, 0)
  else
    let rest := d.loose + fresh.length - ws.length
    let first := all.length - 64
    let bad := d.inject + noise
    ({ d with retained := all.drop first, sent := cut 32 (d.sent + fresh.length), accepted := cut 32 (d.accepted + first)
              head := (d.head + first) % 64, ahead := max d.ahead (all.length - rest) - first, loose := rest, worst := 0
              refused := cut 32 (d.refused + bad), replays := cut 32 (d.replays + bad), refusals := 0, inject := 0 },
      .accepted, max d.worst (d.refusals + bad))

/-- The sender replays the refused word and every word after it (R30); only the refused word's replay is counted. -/
def replayWord (d : PathDir) : PathDir :=
  if d.awaiting then { d with awaiting := false, replays := cut 32 (d.replays + 1) } else d

/-- A cumulative acknowledgement of `n` words (R29): the words leave the retained buffer and count as accepted, so that
SENT − ACCEPTED is RETAINED at every instant (R36, log entry 11). -/
def ackWords (d : PathDir) (n : Nat) : PathDir :=
  if n ≤ d.ahead then
    { d with retained := d.retained.drop n, head := (d.head + n) % 64, ahead := d.ahead - n,
             accepted := cut 32 (d.accepted + n) }
  else d

/-- After a training the sender resumes from the oldest unacknowledged word: no refusal is outstanding (R32). -/
def resumePath (d : PathDir) : PathDir := { d with refusals := 0, awaiting := false }

/-- The counters of one direction at CLEAR_COUNTERS (R36): SENT takes the value of RETAINED, the rest 0. -/
def clearPath (d : PathDir) : PathDir :=
  { d with sent := d.retained.length, accepted := 0, refused := 0, replays := 0, exhausted := 0 }

/-- STATE as it reads (2020h+L.03). -/
def LinkState.code : LinkState → Nat
  | .down => 0 | .training => 1 | .up => 2

/-- The fields of the record 2020h+L that change: subindex and value. -/
def linkRecord (k : Link) : List (Nat × Nat) :=
  [(0x03, k.state.code), (0x04, k.fwd.sent), (0x05, k.fwd.accepted), (0x06, k.fwd.retained.length),
   (0x07, k.fwd.refused), (0x08, k.fwd.replays), (0x09, k.fwd.exhausted), (0x0A, k.retrains), (0x0B, k.lastRetrain),
   (0x0D, k.errorInject), (0x0E, k.rev.sent), (0x0F, k.rev.accepted), (0x10, k.rev.retained.length),
   (0x11, k.rev.refused), (0x12, k.rev.replays), (0x13, k.rev.exhausted)]

/-- Show a departure from UP in 2018h HISTORY (R48). -/
def showLeftUp (s : State) (l : Nat) : State :=
  if (s.linkAt l).leftSeen then (s.setLink l fun k => { k with leftSeen := false }).hist 0x2018 (2 ^ l) else s

/-- Put the record of link `l` where it is kept: in the hub for links 0 to 6, on S for links 7 to 12 (R36); HISTORY of 2018h takes a
departure from UP at once, whichever the link (R48). -/
def publishLink (s : State) (l : Nat) : State :=
  showLeftUp (s.many (linkRecord (s.linkAt l)) fun e s =>
    if l < 7 then s.put (key (0x2020 + l) e.1) e.2 else s.dput (key (0x2020 + l) e.1) e.2) l

/-- THROTTLED of C die `c` rises (R43): HISTORY bit 15 of 2018h. -/
def throttle (s : State) (c : Nat) : State :=
  if c < 6 ∧ s.link.throttled.getD c true = false then
    ({ s with link := { s.link with throttled := s.link.throttled.set c true } }).hist 0x2018 (2 ^ 15)
  else s

/-- THROTTLED clears when the link is UP and no FIFO of the die holds a stamp older than 1 µs (R43). -/
def unthrottle (s : State) (c : Nat) : State :=
  let old := (List.range 16).any fun i =>
    ((s.chan.chans.getD (16 * c + i) {}).fifo.any fun
      | .stamp x => decide (x.at_ + 1000 < s.now)
      | .marker => false)
  if c < 6 ∧ s.linkUp c ∧ old = false then
    { s with link := { s.link with throttled := s.link.throttled.set c false } }
  else s

/-- A link leaves UP for TRAINING (R31, R37): the retained buffers are kept. -/
def linkToTraining (s : State) (l : Nat) : State :=
  throttle (s.setLink l fun k =>
    { k with state := .training, fails := 0, since := s.now, leftUp := true, leftSeen := true }) l

/-- The die code at the receiving end of a path (R31, R493). -/
def receivingDie (l : Nat) (rev : Bool) : Nat :=
  match rev with
  | false => if l < 7 then 0 else 1
  | true => if l < 6 then l + 2 else if l = 6 then 1 else l - 5

/-- The direction of a link. -/
def Link.dir (k : Link) (rev : Bool) : PathDir := if rev then k.rev else k.fwd
def Link.setDir (k : Link) (rev : Bool) (d : PathDir) : Link := if rev then { k with rev := d } else { k with fwd := d }

/-- ERROR_INJECT returns to OFF once its refusals have been made (2020h+L.0D). -/
def injectDone (k : Link) : Link :=
  if k.fwd.inject = 0 ∧ k.rev.inject = 0 then { k with errorInject := 0 } else k

/-- A word arrives on a die link that is UP: R30, and R31 when its third replay fails too. -/
def linkWord (s : State) (l : Nat) (rev : Bool) (pos word : Nat) (parity : Bool) : State :=
  if s.linkUp l then
    let r := takeWord ((s.linkAt l).dir rev) pos word (parityOk word parity)
    let s1 := s.setLink l fun k => injectDone (k.setDir rev r.1)
    match r.2 with
    | .exhausted => publishLink ((linkToTraining s1 l).raise (receivingDie l rev) 0 0x01 l) l
    | _ => publishLink s1 l
  else s

/-- The words of a transfer: a header that names it, then one word for each 4 bytes of its value, the last one padded with zeros
(R493). -/
def transferWords (name : Nat) (d : Datum) : List Nat :=
  Config.linkWord 0 name d.len % 2 ^ 32 :: (List.range ((d.len + 3) / 4)).map fun i => bytesAt d.val (4 * i) 4

/-- A transfer over a die link: has it come through, with how many replays of one word, and the state after it (R30, R31, R493). -/
def carry (s : State) (l : Nat) (rev : Bool) (ws : List Nat) (noise : Nat) : Bool × Nat × State :=
  if s.linkUp l then
    let r := carryPath ((s.linkAt l).dir rev) ws noise
    let s1 := s.setLink l fun k => injectDone (k.setDir rev r.1)
    match r.2.1 with
    | .accepted => (true, r.2.2, publishLink s1 l)
    | .exhausted => (false, 0, publishLink ((linkToTraining s1 l).raise (receivingDie l rev) 0 0x01 l) l)
    | _ => (false, 0, s)
  else (false, 0, s)

/-- The two words of a stamp's raw record (R27, R493). -/
def stampRecord (n seq : Nat) : List Nat := [Config.linkWord 1 n seq % 2 ^ 32, Config.linkWord 2 n seq % 2 ^ 32]

/-- A transfer of one word: a watermark, a snapshot request or a snapshot marker (R493). -/
def oneWord (kind n : Nat) : List Nat := [Config.linkWord kind n 0 % 2 ^ 32]

/-- What a transfer brings about once it has come through. -/
def carried (s : State) (l : Nat) (rev : Bool) (ws : List Nat) (f : State → State) : State :=
  let r := carry s l rev ws 0
  if r.1 then f r.2.2 else r.2.2

/-- May C die c hand its words to the link: UP, and no replay outstanding (R42)? -/
def linkDrains (s : State) (c : Nat) : Bool := s.linkUp c && !(s.linkAt c).fwd.awaiting

/-- The link that joins a die to H, for the dies that have one. -/
def linkOfDie (die : Nat) : Option Nat := if die = 0 then none else if die = 1 then some 6 else some (die - 2)

/-- A transfer from H to a die, or an effect on H itself. -/
def carriedTo (s : State) (die : Nat) (ws : List Nat) (f : State → State) : State :=
  match linkOfDie die with
  | some l => carried s l true ws f
  | none => f s

/-- A transfer from a die to H. -/
def carriedFrom (s : State) (die : Nat) (ws : List Nat) (f : State → State) : State :=
  match linkOfDie die with
  | some l => carried s l false ws f
  | none => f s

/-- Hub internal path `p`. -/
def State.hubPath (s : State) (p : Nat) : PathDir := s.link.hubPaths.getD p {}
def State.setHub (s : State) (p : Nat) (d : PathDir) : State :=
  { s with link := { s.link with hubPaths := s.link.hubPaths.set p d } }

/-- A word arrives on a hub internal path: the counts go to 202Fh, and exhausted replays re-initialise the handshake
and are reported with die code 0 and address 0x00FF (R31, R34). -/
def hubWord (s : State) (p pos word : Nat) (parity : Bool) : State :=
  if p < s.link.hubPaths.length then
    let r := takeWord (s.hubPath p) pos word (parityOk word parity)
    match r.2 with
    | .refused => (s.setHub p r.1).inc 32 (key 0x202F 1) 1
    | .exhausted =>
      ((((s.setHub p (resumePath r.1)).inc 32 (key 0x202F 1) 1).incSat 16 (key 0x202F 3) 1)).raise 0 0 0x01 0x00FF
    | _ => s.setHub p r.1
  else s

/-- LINK_REPLAY on a link or a hub path. -/
def replayPath (s : State) : Path → State
  | .link l rev =>
    if s.linkUp l then publishLink (s.setLink l fun k => k.setDir rev (replayWord (k.dir rev))) l else s
  | .hub p =>
    if (s.hubPath p).awaiting then (s.setHub p (replayWord (s.hubPath p))).inc 32 (key 0x202F 2) 1 else s

/-- LINK_ACK_RECEIVED on a link or a hub path. -/
def ackPath (s : State) (n : Nat) : Path → State
  | .link l rev =>
    if s.linkUp l then publishLink (s.setLink l fun k => k.setDir rev (ackWords (k.dir rev) n)) l else s
  | .hub p => s.setHub p (ackWords (s.hubPath p) n)

/-- Fault messages that a link has held come to the collector when it is UP again, in the order in which they were sent (R31, R432). -/
def messagesReturn (s : State) (l : Nat) : State :=
  let held := fun m : Msg => linkOfDie (m.word / 2 ^ 29) == some l
  { s with faultIn := (s.faultIn.filter fun m => !held m) ++ ((s.faultIn.filter held).map fun m => { m with at_ := s.now }) }

/-- A training attempt succeeds (R32): the link is UP, RETRAINS counts a return after leaving UP, and
LAST_RETRAIN_NS takes the length of the visit to TRAINING that ends. -/
def linkTrained (s : State) (l : Nat) : State :=
  publishLink ((messagesReturn s l).setLink l fun k =>
    { k with state := .up, fails := 0, fwd := resumePath k.fwd, rev := resumePath k.rev,
             retrains := if k.leftUp then sat 16 (k.retrains + 1) else k.retrains, leftUp := false,
             lastRetrain := if k.state = .training then cut 32 (s.now - k.since) else k.lastRetrain }) l

/-- A training attempt fails: the third in a row puts the link in DOWN, and the die at the forward receiving end sends
LINK_DOWN once (R33). -/
def linkFailed (s : State) (l : Nat) : State :=
  if (s.linkAt l).fails + 1 < 3 then s.setLink l fun k => { k with fails := k.fails + 1 }
  else
    (publishLink (s.setLink l fun k =>
      { k with state := .down, fails := 0, lastRetrain := cut 32 (s.now - k.since) }) l).raise
      (if l < 7 then 0 else 1) 0 0x02 l

/-- COMMAND RETRAIN: an UP link goes to TRAINING; elsewhere no effect (2020h+L.0C). -/
def linkRetrain (s : State) (l : Nat) : State :=
  if s.linkUp l then publishLink (linkToTraining s l) l else s

/-- COMMAND CLEAR_COUNTERS (2020h+L.0C, R36). -/
def linkClear (s : State) (l : Nat) : State :=
  publishLink (s.setLink l fun k =>
    { k with fwd := clearPath k.fwd, rev := clearPath k.rev, retrains := 0, lastRetrain := 0 }) l

/-- ERROR_INJECT: 0 OFF, 1 SINGLE, 2 EXHAUST, 3 SINGLE_REVERSE, 4 EXHAUST_REVERSE (R37). A write replaces what an
earlier one still owes. -/
def linkInject (s : State) (l v : Nat) : State :=
  publishLink (s.setLink l fun k =>
    { k with errorInject := v,
             fwd := { k.fwd with inject := if v = 1 then 1 else if v = 2 then 4 else 0 },
             rev := { k.rev with inject := if v = 3 then 1 else if v = 4 then 4 else 0 } }) l

/-- COMMAND of 2020h+L. -/
def linkCommand (s : State) (l v : Nat) : State :=
  if v = 1 then linkRetrain s l else if v = 2 then linkClear s l else s

end Sys2Proof.Machine
end

