-- ==== Sys2Proof/Machine/Channels.lean ====
section
/-! DEFINITION. Channel slices, stamps, the stamp buffer and the conservation snapshot (chapter 03 of spec/, R92 to R109;
chapter 01, R44 to R46). -/

namespace Sys2Proof.Machine

/-- Channel n's slice and counters. -/
def State.chanAt (s : State) (n : Nat) : Chan := s.chan.chans.getD n {}

/-- Change channel n. -/
def State.setChan (s : State) (n : Nat) (f : Chan → Chan) : State :=
  { s with chan := { s.chan with chans := upd s.chan.chans n f } }

/-- Configuration entry `sub` of channel n (3000h+n). -/
def State.chCfg (s : State) (n sub : Nat) : Nat := s.rd (key (0x3000 + n) sub)

/-- Does the channel take input edges: ROLE INPUT or OUTPUT_MONITORED (R93)? -/
def inputOn (s : State) (n : Nat) : Bool := s.chCfg n 0x01 == 1 || s.chCfg n 0x01 == 3

/-- The prescaler ratio in use: ignored under OUTPUT_MONITORED (R93, R96). -/
def prescRatio (s : State) (n : Nat) : Nat := if s.chCfg n 0x01 = 1 then 2 ^ s.chCfg n 0x05 else 1

/-- The decimation N (R97): 0 means 2^24. -/
def decimation (s : State) (n : Nat) : Nat := if s.chCfg n 0x07 = 0 then 2 ^ 24 else s.chCfg n 0x07

/-- The decimator restarts (R97): the next selected edge is kept and its stamp carries RESTART. -/
def decimRestart (s : State) (n : Nat) : State :=
  s.setChan n fun c => { c with presc := 0, count := 0, fresh := true, late := false }

/-- Time counter t. -/
def State.tcAt (s : State) (t : Nat) : Tc := s.tcs.getD t {}
def State.setTc (s : State) (t : Nat) (f : Tc → Tc) : State := { s with tcs := upd s.tcs t f }

/-- Entry `sub` of counter t (3600h+t). -/
def State.tcReg (s : State) (t sub : Nat) : Nat := s.rd (key (0x3600 + t) sub)

/-- The counter's modulus: 2^48 seconds, in 2^−48 ns. -/
abbrev tcModulus : Nat := 2 ^ 48 * 1000000000 * 2 ^ 48

/-- Is counter t TIED; is it HWS? -/
def tcTied (s : State) (t : Nat) : Bool := s.tcReg t 7 == 2
def tcHws (s : State) (t : Nat) : Bool := s.tcReg t 7 == 1

/-- A move of up to `n` units of what is left toward 0. -/
def towardZero (left : Int) (n : Nat) : Int := if absI left ≤ n then left else if left < 0 then -n else n

/-- Units delivered in one tick at a rate of 0.1 ns/s, with the part carried in 1/5^10 of a unit (R256). -/
def tickSlope (rate acc : Nat) : Nat × Nat := ((acc + rate * 256) / 9765625, (acc + rate * 256) % 9765625)

/-- What the pour and the blend of a counter move in the next tick, 2^−16 ns (R256, R257). -/
def tickPour (s : State) (t : Nat) : Int :=
  let c := s.tcAt t
  if c.po = 0 then 0 else towardZero c.po (tickSlope (s.tcReg t 0x11) c.pourAcc).1
def tickBlend (c : Tc) : Int := if c.blendLeft = 0 then 0 else towardZero c.blendLeft (tickSlope c.blendRate c.blendAcc).1

/-- The increment of one tick of a TIED counter (R249): the next microsecond's increment is taken up when the present one is used; if it
is late the counter goes on at the rate of the last one, and owes the difference. -/
def tieAdvance (c : Tc) : Tc × Int :=
  let i := c.tieTick
  let part := c.tieInc48 * ((i : Int) + 1) / 250 - c.tieInc48 * i / 250
  let cat := if c.catchLeft = 0 then 0 else c.catch48 / c.catchLeft
  let c1 := { c with catch48 := c.catch48 - cat, catchLeft := c.catchLeft - 1, tieStepping := c.tieStepping - 1 }
  if i + 1 < 250 then ({ c1 with tieTick := i + 1 }, part + cat)
  else match c1.tieNext with
    | x :: r =>
      ({ c1 with tieTick := 0, tieInc48 := x.1, tieNext := r, tieLast48 := x.1 - x.2 * 2 ^ 32,
                 tieStepping := if x.2 = 0 then c1.tieStepping else 250 }, part + cat)
    | [] => ({ c1 with tieTick := 0, tieInc48 := c1.tieLast48, tieOwed := c1.tieOwed ++ [c1.tieLast48] }, part + cat)

/-- The effective increment of the next tick, 2^−48 ns (R242, R243, R249). -/
def effIncrement (s : State) (t : Nat) : Int :=
  if tcTied s t then (tieAdvance (s.tcAt t)).2
  else (s.tcReg t 9 : Nat) + (tickPour s t + tickBlend (s.tcAt t)) * 2 ^ 32

/-- The present time of a counter in 2^−16 ns. -/
def tcNow (s : State) (t : Nat) : Nat := (s.tcAt t).val / 2 ^ 32

/-- The counter's time `x` (2^−16 ns of the base) after the present tick, in 2^−16 ns since the epoch (R104, R247): the part of a tick is
scaled by the effective increment. -/
def tcTime (s : State) (t : Nat) (x : Int) : Nat :=
  ((((s.tcAt t).val : Int) + x * effIncrement s t / 262144) % (tcModulus : Nat)).toNat / 2 ^ 32

/-- The present time in the measurement time base, 2^−16 ns (log entry 14). -/
def rawNow (s : State) : Int := (s.now * 65536 : Nat) + s.chan.rawSkew

/-- Is the edge one that the decimator sees: selected by EDGE (0 RISING, 1 FALLING, 2 BOTH), and with the prescaler
in use a rising edge that it passes (R96, R97)? -/
def edgeSelected (s : State) (n : Nat) (falling : Bool) : Bool :=
  if prescRatio s n = 1 then
    (if s.chCfg n 0x06 = 2 then true else falling == (s.chCfg n 0x06 == 1))
  else !falling && (s.chanAt n).presc == 0

/-- The prescaler counts rising edges (R96). -/
def prescStep (s : State) (n : Nat) (falling : Bool) : State :=
  if prescRatio s n = 1 ∨ falling then s
  else s.setChan n fun c => { c with presc := (c.presc + 1) % prescRatio s n }

/-- Would the decimator keep an edge now (R97): right after a restart, on every N-th edge, or after a skip (R98)? -/
def edgeDue (s : State) (n : Nat) : Bool :=
  (s.chanAt n).fresh || (s.chanAt n).late || decide (decimation s n ≤ (s.chanAt n).count + 1)

/-- Is the TDC ready: 4.0 ns after the last kept edge (R98)? -/
def tdcReady (s : State) (n : Nat) (raw : Int) : Bool :=
  match (s.chanAt n).lastKept with
  | none => true
  | some r => decide (r + 4 * 65536 ≤ raw)

/-- The flags that a stamp carries from its slice (R102). -/
def sliceFlags (s : State) (n : Nat) : Nat :=
  let c := s.chanAt n
  at_ c.fresh 7 + at_ c.late 5 + at_ (s.tcAt (s.chCfg n 0x08)).unset 4 + at_ c.calStep 3 + at_ c.onSpare 2
    + at_ (decide (prescRatio s n ≠ 1)) 1

/-- The stamp of a kept edge (R102 to R104): `raw` is its time in the measurement time base, which lies `x` after the present tick; H
converts it into the source counter. -/
def mkStamp (s : State) (n : Nat) (falling : Bool) (raw x : Int) : Stamp :=
  { chan := n, falling := falling, tc := s.chCfg n 0x08, time := tcTime s (s.chCfg n 0x08) x, raw := raw,
    seq := cut 16 (s.chanAt n).captured, flags := sliceFlags s n, at_ := s.now }

/-- The number of stamps in a slice FIFO. -/
def fifoCount (l : List FifoItem) : Nat :=
  (l.filter fun x => match x with | .stamp _ => true | .marker => false).length

/-- The stamps in a FIFO that a spare slice has taken, or that the channel's own slice has. -/
def fifoSpare (spare : Bool) (l : List FifoItem) : Nat :=
  (l.filter fun x => match x with | .stamp y => bit y.flags 2 == spare | .marker => false).length

/-- Is there no room for a stamp of channel n (R100)? The channel's slice and the die's spare have a FIFO of 64 stamps each; a channel's
list keeps the stamps of both in the order of capture (R101). -/
def fifoFull (s : State) (n : Nat) : Bool :=
  decide (64 ≤ if (s.chanAt n).onSpare then ((List.range 16).map fun i => fifoSpare true (s.chanAt (n / 16 * 16 + i)).fifo).sum
               else fifoSpare false (s.chanAt n).fifo)

/-- A kept edge is captured (R44, R97, R98, R100): it enters the slice FIFO, or is dropped when 64 stamps are there. -/
def capture (s : State) (n : Nat) (x : Stamp) : State :=
  let full := fifoFull s n
  s.setChan n fun c =>
    { c with captured := c.captured + 1, second := c.second + 1, count := 0, fresh := false, late := false,
             calStep := false, lastKept := some x.raw,
             fifo := if full then c.fifo else c.fifo ++ [.stamp x],
             dropSlice := if full then c.dropSlice + 1 else c.dropSlice,
             dropSeen := c.dropSeen || full }

/-- An edge at a channel's ball (R97, R98), at `raw` in the measurement time base and `x` after the present tick: not selected, not due,
skipped, or captured. -/
def channelEdge (s : State) (n : Nat) (falling : Bool) (raw x : Int) : State :=
  let s0 := { s with chan := { s.chan with rawSkew := raw - x - (s.now * 65536 : Nat) } }
  if n < 96 ∧ inputOn s n then
    let s1 := prescStep s0 n falling
    if edgeSelected s n falling = false then s1
    else if edgeDue s n = false then s1.setChan n fun c => { c with count := c.count + 1 }
    else if tdcReady s n raw then capture s1 n (mkStamp s n falling raw x)
    else if (s.chanAt n).late then s1
    else (s1.setChan n fun c => { c with late := true, skipSeen := true }).dinc 32 (key (0x3200 + n) 8) 1
  else s0

/-- The words of a STAMP96 (R12) as one number of 96 bits, word 0 lowest. -/
def stampWords (x : Stamp) : Nat :=
  cut 32 (x.time / 65536) + (x.seq % 65536 + x.time % 65536 * 2 ^ 16) * 2 ^ 32
    + (x.flags % 256 + x.tc % 4 * 2 ^ 22 + b2n x.falling * 2 ^ 24 + x.chan % 128 * 2 ^ 25) * 2 ^ 64

/-- Unread stamps of a channel in the host queue (3200h+n.05). -/
def queueCount (s : State) (n : Nat) : Nat := (s.chan.ring.filter fun e => e.host && e.stamp.chan == n).length

/-- An entry of the stamp buffer is written over: what its optional consumers had not read is lost to them (R106). -/
def ringOverwrite (s : State) (e : RingEntry) : State :=
  let i := 0x3200 + e.stamp.chan
  let s1 := s.when e.host fun s => (s.inc 32 (key i 6) 1).hist i (2 ^ 2)
  let s2 := s1.when e.eth fun s =>
    (({ s with chan := { s.chan with eth := { s.chan.eth with lost := sat 16 (s.chan.eth.lost + 1) } } }).inc 32 (key i 7) 1).hist i (2 ^ 3)
  s2.when e.fab fun s =>
    (({ s with chan := { s.chan with fab := { s.chan.fab with lost := sat 16 (s.chan.fab.lost + 1) } } }).inc 32 (key i 7) 1).hist i (2 ^ 3)

/-- The size of the stamp buffer (R106). -/
def ringSize : Nat := 131072

/-- The stamp as delivered (R102): GAP against the channel's previous delivered stamp, REPLAYED (R40). -/
def deliveredStamp (s : State) (n : Nat) (x : Stamp) (replays : Nat) : Stamp :=
  { x with flags := x.flags + at_ (decide (x.seq ≠ ((s.chanAt n).lastSeq + 1) % 65536)) 0 + at_ (decide (2 ≤ replays)) 6 }

/-- H counts a stamp of the channel under snapshot (R45, step 3). -/
def snapHeld (s : State) (n : Nat) : State :=
  match s.link.snap with
  | some p => if p.chan = n then { s with link := { s.link with snap := some { p with held := p.held + 1 } } } else s
  | none => s

/-- The next stamp leaves the slice FIFO and counts as delivered (R44). -/
def popDelivered (seq : Nat) (c : Chan) : Chan :=
  match c.fifo with
  | .stamp _ :: r => { c with fifo := r, delivered := c.delivered + 1, lastSeq := seq }
  | _ => c

/-- The next stamp leaves the slice FIFO and counts as dropped at the hub (R44). -/
def popDropped (c : Chan) : Chan :=
  match c.fifo with
  | .stamp _ :: r => { c with fifo := r, dropHub := c.dropHub + 1 }
  | _ => c

/-- The marker of a snapshot leaves the slice FIFO. -/
def popMarker (c : Chan) : Chan :=
  match c.fifo with
  | .marker :: r => { c with fifo := r }
  | _ => c

/-- Delivery of a stamp into the stamp buffer (R44, R105, R106): `cup` says whether cupping takes the channel's stamps
and has not taken this one yet. -/
def deliver (s : State) (n : Nat) (y : Stamp) (cup : Bool) : State :=
  let c := s.chCfg n 0x09
  let e : RingEntry := { stamp := y, cup := cup, host := bit c 0, eth := bit c 1, fab := bit c 2 }
  let s1 : State := { s with chan := { s.chan with ring := (if s.chan.ring.length < ringSize then s.chan.ring else s.chan.ring.drop 1) ++ [e] } }
  let s3 := s1.put (key (0x3200 + n) 0x0A) (stampWords y)
  s3.when (bit c 0 && queueCount s n == 0) fun s => s.hist (0x3200 + n) (2 ^ 5)

/-- The next stamp in a slice FIFO, when the next item is one. -/
def nextStamp (s : State) (n : Nat) : Option Stamp :=
  match (s.chanAt n).fifo with
  | .stamp x :: _ => some x
  | _ => none

/-- Is the ring full of an entry that cupping has not taken (R106)? -/
def hubFull (s : State) : Bool :=
  decide (ringSize ≤ s.chan.ring.length) && (match s.chan.ring with | e :: _ => e.cup | [] => false)

/-- The next stamp of channel n leaves its slice FIFO: delivered with a sequence number, or dropped at the hub (R44, R45). -/
def takeStamp (s : State) (n : Nat) (seq : Option Nat) : State :=
  match nextStamp s n with
  | some _ => (snapHeld s n).setChan n (match seq with | some q => popDelivered q | none => popDropped)
  | none => s

/-- H takes the next stamp of channel n from the die link (R44, R105): it is dropped at the hub, or delivered. -/
def ingestRing (s : State) (n : Nat) (x : Stamp) (replays : Nat) (cup : Bool) : State :=
  let y := deliveredStamp s n x replays
  let s0 := takeStamp s n (if hubFull s then none else some y.seq)
  let s1 := s0.when (decide (2 ≤ replays)) fun s => s.hist 0x2018 (2 ^ 13)
  if hubFull s then s1.hist (0x3200 + n) (2 ^ 1)
  else
    let s2 := if s.chan.ring.length < ringSize then s1
              else match s.chan.ring with | e :: _ => ringOverwrite s1 e | [] => s1
    deliver s2 n y cup

/-- The lowest place in the ring whose entry is unread by the host queue of channel n. -/
def oldestUnread : List RingEntry → Nat → Option Stamp
  | [], _ => none
  | e :: r, n => if e.host ∧ e.stamp.chan = n then some e.stamp else oldestUnread r n

/-- The ring once the oldest unread stamp of channel n has been read. -/
def markRead : List RingEntry → Nat → List RingEntry
  | [], _ => []
  | e :: r, n => if e.host ∧ e.stamp.chan = n then { e with host := false } :: r else e :: markRead r n

/-- A pop of channel n's host queue by interface `i` (R107): the stamp goes into the interface's latch of the channel;
an empty queue gives 0xFFFF_FFFF in all three words. -/
def popStamp (s : State) (i n : Nat) : State :=
  let w := match oldestUnread s.chan.ring n with | some x => stampWords x | none => 2 ^ 96 - 1
  { s with chan := { s.chan with ring := markRead s.chan.ring n,
                                 latches := storePut (2 ^ 96 - 1) s.chan.latches (i * 128 + n) w } }

/-- The stamp latch of interface `i` for channel n: 0xFFFF_FFFF before the first pop (R107). -/
def stampLatch (s : State) (i n : Nat) : Nat := storeRd (2 ^ 96 - 1) s.chan.latches (i * 128 + n)

/-- RATE_SECOND: at each whole second the slices publish the stamps captured in it (R109). -/
def rateSecond (s : State) : State :=
  s.many (List.range 96) fun n s =>
    (s.dput (key (0x3200 + n) 9) (cut 32 (s.chanAt n).second)).setChan n fun c => { c with second := 0 }

/-- The mirrored part of 3200h+n (R109): ON_SPARE, SKIPS and RATE, and the events the die reports into HISTORY. -/
def refreshChan (s : State) (n : Nat) : State :=
  let c := s.chanAt n
  let s1 := ((s.put (key (0x3200 + n) 1) (at_ c.onSpare 2)).put (key (0x3200 + n) 8) (s.drd (key (0x3200 + n) 8))).put
    (key (0x3200 + n) 9) (s.drd (key (0x3200 + n) 9))
  (s1.hist (0x3200 + n) (at_ c.dropSeen 0 + at_ c.skipSeen 4)).setChan n fun c =>
    { c with dropSeen := false, skipSeen := false }

/-- Snapshot of channel n (R45, step 1): H latches its own counters; a link that is DOWN abandons it (R46). DESIGN CHOICE: t0 is the
instant the write takes effect, also where it waits among the posted writes (log entry 90). -/
def snapStart (s : State) (n : Nat) : State :=
  if s.link.snap.isSome then s
  else if (s.linkAt (dieOfChan n)).state = .down then (s.put (key 0x2030 1) n).put (key 0x2030 0x0C) 3
  else
    (({ s with link := { s.link with snap := some { chan := n, delivered := (s.chanAt n).delivered, dropHub := (s.chanAt n).dropHub } } }).put
      (key 0x2030 1) n).put (key 0x2030 0x0C) 1

/-- A marker behind every stamp captured so far. -/
def putMarker (c : Chan) : Chan := { c with fifo := c.fifo ++ [FifoItem.marker] }

/-- The slice latches CAPTURED and DROP_SLICE of a snapshot and puts a marker behind every stamp captured so far (R45, step 2). -/
def snapAtSlice (s : State) : State :=
  match s.link.snap with
  | some p =>
    if p.slice = none then
      ({ s with link := { s.link with
          snap := some { p with slice := some ((s.chanAt p.chan).captured, (s.chanAt p.chan).dropSlice) } } }).setChan p.chan putMarker
    else s
  | none => s

/-- The latch request reaches the slice, one word over the link (R45, step 2, R493). -/
def snapLatch (s : State) : State :=
  match s.link.snap with
  | some p => if p.slice = none then carried s (dieOfChan p.chan) true (oneWord 3 p.chan) snapAtSlice else s
  | none => s

/-- Without the markers of a snapshot. -/
def dropMarkers (l : List FifoItem) : List FifoItem :=
  l.filter fun x => match x with | .stamp _ => true | .marker => false

def clearMarkers (c : Chan) : Chan := { c with fifo := dropMarkers c.fifo }

/-- A snapshot of a channel on die `c` is abandoned when the link enters DOWN (R46). -/
def snapAbandon (s : State) (c : Nat) : State :=
  match s.link.snap with
  | some p =>
    if dieOfChan p.chan = c then
      ({ s with link := { s.link with snap := none } }.setChan p.chan clearMarkers).put
        (key 0x2030 0x0C) 3
    else s
  | none => s

/-- The values a snapshot publishes (R45): subindex and value. -/
def snapFields (p : Snap) (cap dropS : Nat) : List (Nat × Nat) :=
  [(0x03, cut 32 cap), (0x04, cut 32 (cap / 2 ^ 32)), (0x05, cut 32 p.delivered), (0x06, cut 32 (p.delivered / 2 ^ 32)),
   (0x07, cut 32 dropS), (0x08, cut 32 (dropS / 2 ^ 32)), (0x09, cut 32 p.dropHub), (0x0A, cut 32 (p.dropHub / 2 ^ 32)),
   (0x0B, cut 32 p.held), (0x0C, 2)]

/-- The marker that is next in its FIFO comes in, and the snapshot is published: SNAP_GEN counts and SNAP_DONE sets (R45, step 4). -/
def snapPublish (s : State) : State :=
  match s.link.snap with
  | some p =>
    match p.slice, (s.chanAt p.chan).fifo with
    | some (cap, dropS), .marker :: _ =>
      ((({ s with link := { s.link with snap := none } }.setChan p.chan popMarker).many
        (snapFields p cap dropS) fun e s => s.put (key 0x2030 e.1) e.2).inc 16 (key 0x2030 2) 1).hist 0x2018 (2 ^ 14)
    | _, _ => s
  | none => s

/-- The marker reaches H, one word over the link (R45, step 4, R493). -/
def snapMarker (s : State) : State :=
  match s.link.snap with
  | some p =>
    match p.slice, (s.chanAt p.chan).fifo with
    | some _, .marker :: _ => carried s (dieOfChan p.chan) false (oneWord 4 p.chan) snapPublish
    | _, _ => s
  | none => s

end Sys2Proof.Machine
end

