-- ==== Sys2Proof/Machine/Common.lean ====
section
/-! DEFINITION. Times as TIME80, the progress objects, the state of the engines as other families see it, and DPLL
lookups (R12, R86, R87, R401). -/

namespace Sys2Proof.Machine

/-- A time of 2^−16 ns since the epoch as TIME80 (R12): seconds in bits 47..0, nanoseconds above. -/
def time80 (t : Nat) : Nat := t / 65536000000000 % 2 ^ 48 + t / 65536 % 1000000000 * 2 ^ 48

/-- TC0's present time as TIME80, and its seconds; 0 seconds while TC0 is unset where the text says so. -/
def tc0Time80 (s : State) : Nat := time80 (tcNow s 0)
def tc0Seconds (s : State) : Nat := tcNow s 0 / 65536000000000

/-- A TIME80 as a time in 2^−16 ns. -/
def ofTime80 (v : Nat) : Nat := (v % 2 ^ 48 * 1000000000 + v / 2 ^ 48 % 2 ^ 32) * 65536

/-- The record of a progress object (R86, R87). -/
def progSet (s : State) (p st pos total result inst : Nat) : State :=
  s.many [(1, st), (2, if st = 2 then 10000 else if total = 0 then 0 else pos * 10000 / total), (3, pos), (4, total), (5, result), (6, inst)]
    fun e s => s.put (key (0x2040 + p) e.1) e.2

/-- A run of a long operation starts. -/
def progStart (s : State) (p total inst : Nat) : State := progSet s p 1 0 total 0 inst

/-- A running operation's position moves. -/
def progPos (s : State) (p pos : Nat) : State :=
  progSet s p (s.rd (key (0x2040 + p) 1)) pos (s.rd (key (0x2040 + p) 4)) (s.rd (key (0x2040 + p) 5)) (s.rd (key (0x2040 + p) 6))

/-- A run ends: DONE (2) with POSITION at TOTAL, FAILED (3) or ABORTED (4) where it stands, with a RESULT. -/
def progEnd (s : State) (p st result : Nat) : State :=
  let total := s.rd (key (0x2040 + p) 4)
  progSet s p st (if st = 2 then total else s.rd (key (0x2040 + p) 3)) total result (s.rd (key (0x2040 + p) 6))

/-- Is engine e running, not restarting (R401)? -/
def engineUp (s : State) (e : Nat) : Bool := !s.engDown.contains e

/-- Channel n's cupping. -/
def State.cupAt (s : State) (n : Nat) : Cup := s.cups.getD n {}
def State.setCup (s : State) (n : Nat) (f : Cup → Cup) : State := { s with cups := upd s.cups n f }

/-- DPLL k and its carafe. -/
def State.dpllAt (s : State) (k : Nat) : Dpll := s.dp.dplls.getD k {}
def State.setDpll (s : State) (k : Nat) (f : Dpll → Dpll) : State :=
  { s with dp := { s.dp with dplls := upd s.dp.dplls k f } }
def State.carafeAt (s : State) (k : Nat) : Carafe := s.dp.carafes.getD k {}
def State.setCarafe (s : State) (k : Nat) (f : Carafe → Carafe) : State :=
  { s with dp := { s.dp with carafes := upd s.dp.carafes k f } }

/-- Configuration entry of DPLL k (3400h+k), and of its holdover (3430h+k). -/
def State.dpCfg (s : State) (k sub : Nat) : Nat := s.rd (key (0x3400 + k) sub)
def State.hoCfg (s : State) (k sub : Nat) : Nat := s.rd (key (0x3430 + k) sub)

/-- Session context c, and the bytes of its record (R273). -/
def State.ctxAt (s : State) (c : Nat) : Ctx := s.ctxs.getD c {}
def State.setCtx (s : State) (c : Nat) (f : Ctx → Ctx) : State := { s with ctxs := upd s.ctxs c f }
def State.ctxRec (s : State) (c off len : Nat) : Nat := bytesAt (s.rd (key (0x3700 + c) 7)) off len
def State.putCtxRec (s : State) (c off len v : Nat) : State :=
  s.put (key (0x3700 + c) 7) (putBytes (s.rd (key (0x3700 + c) 7)) off len v)

/-- Is counter t tied to DPLL k (R249)? -/
def tiedTo (s : State) (t k : Nat) : Bool := s.tcReg t 7 == 2 && s.tcReg t 8 == k

end Sys2Proof.Machine
end

