-- ==== Sys2Proof/Machine/Carafe.lean ====
section
/-! DEFINITION. Holdover and the carafe: samples, prepared values, entry, corrections, exit, fits and the carafe's
DOMAIN (chapter 06 of spec/). -/

namespace Sys2Proof.Machine

/-- FREQ_CONTROL's limit, ±250 ppm (R151). -/
abbrev fcLimit : Int := 70368744177

/-- Account the temperature in force up to now (R190). -/
def tempAccount (s : State) (k : Nat) : State :=
  s.setCarafe k fun c =>
    match c.inForce with
    | some t => { c with tempSum := c.tempSum + t * (s.now - c.tempMark : Nat), tempFor := c.tempFor + (s.now - c.tempMark), tempMark := s.now }
    | none => { c with tempMark := s.now }

/-- A new temperature comes into force for DPLL k. -/
def tempSet (s : State) (k : Nat) (t : Int) : State :=
  (tempAccount s k).setCarafe k fun c => { c with lastTemp := some t, inForce := some t }

/-- The mean temperature of the second that ends: none while HOST_TEMP was stale for any part of it (R192). -/
def tempMean (c : Carafe) : Option Int :=
  if c.staleSeen then none
  else if c.tempFor = 0 then c.inForce
  else some (roundDiv c.tempSum c.tempFor)

/-- Tier-1 valid entries in a tier. -/
def validCount (l : List CarEntry) : Nat := (l.filter fun e => e.ffo.isSome).length

/-- Mean of signed numbers, to the nearest; none of no numbers. -/
def meanOf (l : List Int) : Option Int := if l = [] then none else some (roundDiv (sumI l) l.length)

/-- The tier-2 entry of slot m, from the tier-1 entries held (R190 to R192). -/
def slotOf (tier1 : List CarEntry) (m : Int) : CarEntry :=
  let l := tier1.filter fun e => decide (e.at_ / 64 = m)
  { at_ := m, temp := meanOf (l.filterMap (·.temp)),
    ffo := if 32 ≤ validCount l then meanOf (l.filterMap (·.ffo)) else none }

/-- Put a slot in tier 2, newest first, replacing an entry of the same slot; the last 2700 slots stay. -/
def putSlot (l : List CarEntry) (e : CarEntry) : List CarEntry :=
  if l.any (fun x => decide (x.at_ = e.at_)) then l.map (fun x => if x.at_ = e.at_ then e else x)
  else e :: l.filter fun x => decide (e.at_ < x.at_ + 2700)

/-- The valid counts of the record (3430h+k.1D and .1E). -/
def carafeCounts (s : State) (k : Nat) : State :=
  (s.put (key (0x3430 + k) 0x1D) (validCount (s.carafeAt k).tier1)).put (key (0x3430 + k) 0x1E)
    (validCount (s.carafeAt k).tier2)

/-- The ring advances by one second whether or not a sample comes (R191): the entry stands invalid until its sample
arrives, and a slot whose last second it is takes its place. -/
def carafeAdvance (s : State) (k second : Nat) : State :=
  s.setCarafe k fun c =>
    let t1 := ({ at_ := (second : Int) } :: c.tier1).take 1024
    { c with tier1 := t1, tier2 := if second % 64 = 63 then putSlot c.tier2 (slotOf t1 (second / 64 : Nat)) else c.tier2,
             newestTc0 := if (s.tcAt 0).unset then 0 else tc0Seconds s }

/-- Carafe second: S forms the sample of DPLL k and sends it (R190). FREQ_CONTROL is averaged over the updates made in
the second; with none made it is the value in force. -/
def carafeForm (s : State) (k second : Nat) : State :=
  let d := s.dpllAt k
  let s1 := tempAccount s k
  let x : CarSample :=
    { second := second, ffo := if d.fcNum = 0 then d.fc else roundDiv d.fcSum d.fcNum,
      temp := tempMean (s1.carafeAt k), valid := d.secOk && d.state == .locked, at_ := s.now }
  let s2 := carafeAdvance s1 k second
  (s2.setCarafe k fun c =>
    { c with sent := c.sent ++ [x], tempSum := 0, tempFor := 0, staleSeen := c.stale }).setDpll k fun d =>
      { d with fcSum := 0, fcNum := 0, secOk := true }

/-- CARAFE_SECOND (R189): the second counted ends for every DPLL. -/
def carafeSecond (s : State) : State :=
  let n := s.dp.second
  let s1 := s.many (List.range 16) fun k s => carafeForm s k n
  { s1 with dp := { s1.dp with second := n + 1 } }

/-- The 8 bytes of an entry (R193); both parts have an invalid code. -/
def carWord (e : CarEntry) : Nat :=
  (match e.ffo with | some y => ofI 48 y | none => 2 ^ 47)
    + (match e.temp with | some t => ofI 16 t | none => 2 ^ 15) * 2 ^ 48

/-- CARAFE_SAMPLE_ARRIVES (R191): recorded valid when it comes within 2 s of the end of its second. -/
def carafeArrive (s : State) (k : Nat) : State :=
  match (s.carafeAt k).sent with
  | [] => s
  | x :: r =>
    let slot : Int := (x.second / 64 : Nat)
    carried s 6 false (transferWords (key (0x3430 + k) 0x1F) ⟨8, carWord { ffo := some x.ffo, temp := x.temp }⟩) fun s =>
      let ok := x.valid && decide (s.now ≤ x.at_ + 2000000000)
      carafeCounts (s.setCarafe k fun c =>
        let t1 := c.tier1.map fun e =>
          if e.at_ = (x.second : Int) then { e with ffo := if ok then some x.ffo else none, temp := x.temp } else e
        { c with sent := r, tier1 := t1,
                 tier2 := if c.tier2.any (fun e => decide (e.at_ = slot)) then putSlot c.tier2 (slotOf t1 slot) else c.tier2 }) k

/-- A sample of the window: its weight, its instant, its value and its temperature. -/
structure WinSample where
  w : Nat
  t : Q
  y : Int
  temp : Option Int
deriving DecidableEq, Repr

/-- The samples of the interval [a, b) prepared at second p (R196): valid seconds, and before them whole slots. -/
def window (s : State) (k p : Nat) : List WinSample :=
  let c := s.carafeAt k
  let b : Int := (p : Int) - (s.hoCfg k 0x06 : Nat)
  let a : Int := b - (s.hoCfg k 0x05 : Nat)
  let old : Int := (p : Int) - 1024
  let l1 := c.tier1.filterMap fun e => match e.ffo with
    | some y => if a ≤ e.at_ ∧ e.at_ < b ∧ old ≤ e.at_ then
        some ⟨1, qd (2 * e.at_ + 1) 2, y, e.temp⟩ else none
    | none => none
  let l2 := c.tier2.filterMap fun e => match e.ffo with
    | some y => if a ≤ 64 * e.at_ ∧ 64 * e.at_ + 64 ≤ min b old then
        some ⟨64, qi (64 * e.at_ + 32), y, e.temp⟩ else none
    | none => none
  l1 ++ l2

/-- A weighted mean. -/
def wmean (l : List WinSample) (f : WinSample → Q) : Q :=
  (l.foldl (fun a x => a.add ((f x).mul (qi (x.w : Nat)))) (qi 0)).div (qi ((l.map (·.w)).sum : Nat))

/-- A temperature deviation from T0 in K. -/
def devK (t t0 : Int) : Q := qd (t - t0) 16

/-- The prepared value at second p (R196). -/
def prepare (s : State) (k p : Nat) : Prep :=
  let l := window s k p
  let lt := l.filter fun x => x.temp.isSome
  let w := (l.map (·.w)).sum
  let t0 := s.rdI 16 (key (0x3430 + k) 0x12)
  { second := p, valid := decide (s.hoCfg k 0x07 ≤ w), mean := wmean l (fun x => qi x.y), tmid := wmean l (·.t),
    tbar := if lt = [] then none else some (wmean lt fun x => qi (x.temp.getD 0)),
    qbar := wmean lt fun x => (devK (x.temp.getD 0) t0).mul (devK (x.temp.getD 0) t0), weight := w }

/-- What an entry into HOLDOVER would latch now (R197). -/
def latchOf (s : State) (k : Nat) (p : Prep) : Visit :=
  { prep := p, enable := s.hoCfg k 0x08, modelValid := s.hoCfg k 0x20 == 1,
    ageing := s.rdI 32 (key (0x3430 + k) 0x0F), c1 := s.rdI 32 (key (0x3430 + k) 0x10),
    c2 := s.rdI 32 (key (0x3430 + k) 0x11), t0 := s.rdI 16 (key (0x3430 + k) 0x12), entry := s.dp.second }

/-- Do the ageing and the temperature terms of a visit apply (R198)? -/
def ageActive (s : State) (v : Visit) : Bool := bit v.enable 0 && v.modelValid && !s.dp.mxo
def tempActive (s : State) (k : Nat) (v : Visit) : Bool :=
  bit v.enable 1 && v.modelValid && !s.dp.mxo && v.prep.tbar.isSome && (s.carafeAt k).lastTemp.isSome

/-- The holdover value of a visit at carafe second t (R198), within R151. -/
def visitY (s : State) (k : Nat) (v : Visit) (t : Nat) : Int :=
  let age := if ageActive s v then ((qi v.ageing).mul ((qi t).sub v.prep.tmid)).div (qi 86400) else qi 0
  let temp := match v.prep.tbar, (s.carafeAt k).lastTemp with
    | some tb, some tc =>
      if tempActive s k v then
        ((qi v.c1).mul (((qi tc).sub tb).div (qi 16))).add
          ((qi v.c2).mul (((devK tc v.t0).mul (devK tc v.t0)).sub v.prep.qbar))
      else qi 0
    | _, _ => qi 0
  clampI fcLimit ((v.prep.mean.add age).add temp).round

/-- HOLDOVER_FFO outside HOLDOVER: the value that an entry would take now. -/
def preparedY (s : State) (k : Nat) : Int :=
  match (s.carafeAt k).prepSent with
  | some p => visitY s k (latchOf s k p) s.dp.second
  | none => 0

/-- The record .16 to .1E of 3430h+k as published at entry, at exit and every carafe second (R207). -/
def holdPublish (s : State) (k : Nat) : State :=
  let s1 := match (s.carafeAt k).visit with
    | some v => (s.putI 48 (key (0x3430 + k) 0x16) v.y).put (key (0x3430 + k) 0x1B) (sat 32 (s.dp.second - v.entry))
    | none => s.putI 48 (key (0x3430 + k) 0x16) (preparedY s k)
  carafeCounts s1 k

/-- Can the carafe serve (R171, R197): does the DPLL island hold a valid prepared value? -/
def carafeServes (s : State) (k : Nat) : Bool :=
  match (s.carafeAt k).prep with
  | some p => p.valid
  | none => false

/-- Entry into HOLDOVER (R197): the latches, the record and HISTORY HOLDOVER_ENTERED. -/
def carafeEnter (s : State) (k : Nat) : State :=
  match (s.carafeAt k).prep with
  | some p =>
    let v0 := latchOf s k p
    let v := { v0 with y := visitY s k v0 s.dp.second }
    let s1 := s.setCarafe k fun c => { c with visit := some v, corr := none, alarm := false }
    let s2 := s1.many
      [(0x17, ofI 48 p.mean.round), (0x18, match p.tbar with | some t => ofI 16 t.round | none => 0x8000),
       (0x19, cut 32 p.weight), (0x1A, tc0Time80 s)] fun e s => s.put (key (0x3430 + k) e.1) e.2
    (holdPublish s2 k).hist (0x3430 + k) (2 ^ 0)
  | none => s

/-- The visit ends: its ELAPSED stands, and HOLDOVER_FFO turns to the prepared value. -/
def carafeEnd (s : State) (k : Nat) : State :=
  holdPublish ((holdPublish s k).setCarafe k fun c => { c with visit := none, corr := none }) k

/-- Exit from HOLDOVER to POURING (R202): LAST_EXIT_DELTA and HOLDOVER_EXITED. -/
def carafeLeave (s : State) (k : Nat) (delta : Int) : State :=
  (carafeEnd (s.putI 64 (key (0x3430 + k) 0x1C) delta) k).hist (0x3430 + k) (2 ^ 2)

/-- HOLDOVER_PREPARE (R196): E13 forms the value at the present second and sends it. -/
def holdPrepare (s : State) (k : Nat) : State :=
  if k < 16 ∧ engineUp s 13 then
    holdPublish (s.setCarafe k fun c => { c with prepSent := some (prepare s k s.dp.second) }) k
  else s

/-- PREPARED_VALUE_ARRIVES (R197): over link 6. -/
def holdPrepArrive (s : State) (k : Nat) : State :=
  match (s.carafeAt k).prepSent with
  | some p =>
    carried s 6 true (transferWords (key (0x3430 + k) 0x17) ⟨6, ofI 48 p.mean.round⟩) fun s => s.setCarafe k fun c => { c with prep := some p }
  | none => s

/-- HOLDOVER_CORRECTION (R198): every carafe second in HOLDOVER; a frozen visit keeps its value (R195), and a value that does not come over
link 6 leaves the last one in use. -/
def holdCorrect (s : State) (k : Nat) : State :=
  match (s.carafeAt k).visit with
  | some v =>
    if engineUp s 13 then
      let y := if v.frozen then v.y else visitY s k v s.dp.second
      holdPublish (carried s 6 true (transferWords (key (0x3430 + k) 0x16) ⟨6, ofI 48 y⟩) fun s =>
        s.setCarafe k fun c => { c with corr := some y, visit := some { v with y := y } }) k
    else s
  | none => s

/-- HOLDOVER_ALARM (R203): once for the visit. -/
def holdAlarm (s : State) (k : Nat) : State :=
  match (s.carafeAt k).visit with
  | some v =>
    if v.alarm ∨ s.hoCfg k 0x21 = 0 ∨ s.dp.second - v.entry < s.hoCfg k 0x21 then s
    else ((s.setCarafe k fun c => { c with visit := some { v with alarm := true }, alarm := true }).hist
      (0x3430 + k) (2 ^ 7)).raise 0 2 0x0C k
  | none => s

/-! Fits (R199, R200). -/

/-- A fit is queued; one that is running or waiting stays as it is (R200). -/
def fitStartNext (s : State) : State :=
  match s.dp.fitNow with
  | some _ => s
  | none =>
    match (List.range 16).find? fun k => (s.carafeAt k).fitWait with
    | some k =>
      if engineUp s 13 then
        progStart ((s.setCarafe k fun c => { c with fitWait := false }).setDp fun d => { d with fitNow := some k }) 4
          (min (s.hoCfg k 0x0C) (s.carafeAt k).tier2.length) k
      else s
    | none => s

def fitRequest (s : State) (k : Nat) : State :=
  if s.dp.fitNow = some k then s else fitStartNext (s.setCarafe k fun c => { c with fitWait := true })

/-- One elimination step on the rows of a system: subtract a multiple of the pivot row. -/
def eliminate (p : List Q) (j : Nat) (row : List Q) : List Q :=
  let f := (row.getD j (qi 0)).div (p.getD j (qi 1))
  (row.zip p).map fun x => x.1.sub (x.2.mul f)

/-- Gauss elimination on the augmented rows from column j: none when the system is singular. -/
def solveRows : Nat → Nat → List (List Q) → List (List Q) → Option (List (List Q))
  | 0, _, done, _ => some done
  | fuel + 1, j, done, rest =>
    match rest.find? fun r => (r.getD j (qi 0)).n != 0 with
    | none => none
    | some p =>
      solveRows fuel (j + 1) (done.map (eliminate p j) ++ [p]) ((rest.erase p).map (eliminate p j))

/-- The solution of the normal equations for the basis values of each sample. -/
def leastSquares (n : Nat) (rows : List (List Q × Q)) : Option (List Q) :=
  let norm := (List.range n).map fun i =>
    ((List.range n).map fun j => rows.foldl (fun a r => a.add ((r.1.getD i (qi 0)).mul (r.1.getD j (qi 0)))) (qi 0))
      ++ [rows.foldl (fun a r => a.add ((r.1.getD i (qi 0)).mul r.2)) (qi 0)]
  match solveRows n 0 [] norm with
  | some l => some ((List.range n).map fun i => ((l.getD i []).getD n (qi 0)).div ((l.getD i []).getD i (qi 1)))
  | none => none

/-- The valid slots of the last FIT_SPAN slots: time in days, value, temperature (R199, R192). -/
def fitSlots (s : State) (k : Nat) : List (Q × Int × Int) :=
  let c := s.carafeAt k
  let newest : Int := (s.dp.second / 64 : Nat)
  c.tier2.filterMap fun e => match e.ffo, e.temp with
    | some y, some t =>
      if newest ≤ e.at_ + (s.hoCfg k 0x0C : Nat) then some (qd (64 * e.at_ + 32) 86400, y, t) else none
    | _, _ => none

/-- A rms of residuals in 10^−12. -/
def fitRms (c : List Q) (rows : List (List Q × Q)) : Nat :=
  let r := rows.map fun r => ((r.1.zip c).foldl (fun a x => a.sub (x.1.mul x.2)) r.2)
  let ms := (r.foldl (fun a x => a.add (x.mul x)) (qi 0)).div (qi (rows.length : Nat))
  sat 32 ((sqrt64 ms).mul (qd (10 ^ 12) (2 ^ 48))).round.toNat

/-- Publish a fitted model (R199). A singular system leaves its coefficients to free values (log entry 24). -/
def fitPublish (s : State) (k : Nat) (a c1 c2 t0 : Int) (rms slots : Nat) (temp kept : Bool) : State :=
  let s1 := s.putI 32 (key (0x3430 + k) 0x0F) (satI 32 a)
  let s2 := s1.when temp fun s =>
    (s.putI 32 (key (0x3430 + k) 0x10) (satI 32 c1)).putI 32 (key (0x3430 + k) 0x11) (satI 32 c2)
  let s3 := s2.when (!kept) fun s => s.putI 16 (key (0x3430 + k) 0x12) t0
  let s4 := s3.many [(0x13, tc0Time80 s), (0x14, rms), (0x15, slots), (0x20, 1)] fun e s => s.put (key (0x3430 + k) e.1) e.2
  progEnd ((s4.setCarafe k fun c => { c with tempKept := kept }).hist (0x3430 + k) (2 ^ 3)) 4 2 0

/-- FIT_COMPLETE (R199): the fit of DPLL k ends, and the next one that waits starts. -/
def fitComplete (s : State) (k : Nat) : State :=
  if s.dp.fitNow = some k then
    let l := fitSlots s k
    let s0 := { s with dp := { s.dp with fitNow := none } }
    if l.length < 64 then
      fitStartNext (((progEnd s0 4 3 0x08000024).hist (0x3430 + k) (2 ^ 4)).raise 0 2 0x0E k)
    else
      let temps : List Int := l.map (fun x => x.2.2)
      let hi := temps.foldl max (temps.headD 0)
      let lo := temps.foldl min (temps.headD 0)
      let enabled := bit (s.hoCfg k 0x08) 1
      let full := enabled && decide ((s.hoCfg k 0x0D : Nat) ≤ hi - lo)
      let t0 := roundDiv (sumI temps) temps.length
      let rows := l.map fun x =>
        let dt := devK x.2.2 t0
        (if full then [qi 1, x.1, dt, dt.mul dt] else [qi 1, x.1], qi x.2.1)
      match leastSquares (if full then 4 else 2) rows with
      | some c =>
        fitStartNext (fitPublish s0 k (c.getD 1 (qi 0)).round (c.getD 2 (qi 0)).round (c.getD 3 (qi 0)).round t0
          (fitRms c rows) l.length full (enabled && !full))
      | none =>
        let v := s0.freeVal 128
        fitStartNext (fitPublish s0.freeNext k (toI 32 v) (toI 32 (v / 2 ^ 32)) (toI 32 (v / 2 ^ 64)) t0
          (v / 2 ^ 96) l.length full (enabled && !full))
  else s

/-- FIT_INTERVAL_TIMER (R200): an automatic fit while MODEL_ENABLE is not 0. -/
def fitTimer (s : State) (k : Nat) : State :=
  if k < 16 ∧ s.hoCfg k 0x08 ≠ 0 ∧ s.hoCfg k 0x0B ≠ 0 then fitRequest s k else s

/-- COMMAND CLEAR_CARAFE (R207), and a base change for each DPLL (R195): both tiers are emptied. -/
def carafeClear (s : State) (k : Nat) : State :=
  (carafeCounts (s.setCarafe k fun c => { c with tier1 := [], tier2 := [] }) k).hist (0x3430 + k) (2 ^ 5)

/-- COMMAND CLEAR_MODEL (R201). -/
def modelClear (s : State) (k : Nat) : State :=
  s.many [(0x0F, 0), (0x10, 0), (0x11, 0), (0x20, 0), (0x13, 0)] fun e s => s.put (key (0x3430 + k) e.1) e.2

/-- COMMAND of 3430h+k. -/
def holdCommand (s : State) (k v : Nat) : State :=
  if v = 1 then fitRequest s k else if v = 2 then carafeClear s k else if v = 3 then modelClear s k else s

/-- The S system clock changes base (R195): carafes cleared, visits frozen, HOLDOVER_BASE_LOST from each in HOLDOVER. -/
def carafeBaseChange (s : State) (mxo : Bool) : State :=
  { s with dp := { s.dp with mxo := mxo } }.many (List.range 16) fun k s =>
    let s1 := carafeClear s k
    match (s1.carafeAt k).visit with
    | some v => (s1.setCarafe k fun c => { c with visit := some { v with frozen := true } }).raise 0 2 0x0D k
    | none => s1

/-- A write of HOST_TEMP (R192): it supplies the temperature where TEMP_SOURCE is HOST, and clears staleness. -/
def hostTemp (s : State) (k v : Nat) : State :=
  let s1 := s.put (key (0x3430 + k) 0x0A) v
  let s2 := (tempAccount s1 k).setCarafe k fun c => { c with hostSet := true, hostOld := false, stale := false }
  s2.when (s.hoCfg k 0x09 == 1) fun s => tempSet s k (toI 16 v)

/-- TEMP_STALE is set while HOST is selected and HOST_TEMP has not been written for 10 s (R192). -/
def staleCheck (s : State) (k : Nat) : State :=
  if s.hoCfg k 0x09 = 1 ∧ (s.carafeAt k).hostOld ∧ (s.carafeAt k).stale = false then
    (s.setCarafe k fun c => { c with stale := true, staleSeen := true }).hist (0x3430 + k) (2 ^ 6)
  else s

/-- TEMP_STALE_TIMER (R192): HOST_TEMP has not been written for 10 s. -/
def tempStale (s : State) (k : Nat) : State :=
  if k < 16 then staleCheck (s.setCarafe k fun c => { c with hostOld := true }) k else s

/-- A write of TEMP_SOURCE: the other source comes into force; a HOST_TEMP that has not been written since reset gives no temperature. -/
def tempSource (s : State) (k v : Nat) : State :=
  let s1 := tempAccount (s.put (key (0x3430 + k) 0x09) v) k
  if v = 0 then
    tempSet (s1.setCarafe k fun c => { c with stale := false }) k (s.rdI 16 (key 0x2012 2))
  else
    staleCheck (if (s.carafeAt k).hostSet then tempSet s1 k (s.rdI 16 (key (0x3430 + k) 0x0A))
      else s1.setCarafe k fun c => { c with inForce := none }) k

/-- STATUS of 3430h+k. -/
def holdStatus (s : State) (k : Nat) : Nat :=
  let c := s.carafeAt k
  at_ (match c.prepSent with | some p => p.valid | none => false) 0 + at_ c.visit.isSome 1
    + at_ (match c.visit with | some v => ageActive s v | none => false) 2
    + at_ (match c.visit with | some v => tempActive s k v | none => false) 3
    + at_ c.tempKept 4 + at_ (s.dp.fitNow == some k) 5 + at_ c.stale 6 + at_ s.dp.mxo 7
    + at_ (match c.visit with | some v => v.alarm | none => false) 8

/-! The DOMAIN CARAFE (R193, R194). -/

/-- The invalid entry. -/
abbrev carInvalid : Nat := 2 ^ 47 + 2 ^ 63

/-- A tier as one number: entry `n` at position n mod `size`. -/
def tierWord (size : Nat) (l : List CarEntry) : Nat :=
  (List.range size).foldl (fun a i =>
    a + (match l.find? fun e => decide (e.at_ % Int.ofNat size = Int.ofNat i) with | some e => carWord e | none => carInvalid) * 2 ^ (64 * i)) 0

/-- 3430h+k.1F as one number of 32 768 bytes. -/
def carafeDomain (s : State) (k : Nat) : Nat :=
  let c := s.carafeAt k
  1 + b2n s.dp.mxo * 2 ^ 16 + (match c.tier1 with | e :: _ => ofI 32 e.at_ | [] => 0) * 2 ^ 32
    + c.newestTc0 % 2 ^ 48 * 2 ^ 64 + tierWord 1024 c.tier1 * 2 ^ 512 + tierWord 2700 c.tier2 * 2 ^ (8 * 8256)

/-- Is a write of CARAFE refused (R194)? 0 for no. -/
def carafeRefuse (s : State) (k v : Nat) : Nat :=
  if s.dpCfg k 0x01 = 1 then 0x08000021
  else if byteAt v 2 ≠ b2n s.dp.mxo ∨ bytesAt v 8 6 = 0 ∨ (s.tcAt 0).unset then 0x08000022
  else 0

/-- The entry that 8 bytes spell. -/
def carEntryOf (slot : Int) (w : Nat) : CarEntry :=
  { at_ := slot, temp := if w / 2 ^ 48 % 2 ^ 16 = 0x8000 then none else some (toI 16 (w / 2 ^ 48)),
    ffo := if w % 2 ^ 48 = 2 ^ 47 then none else some (toI 48 w) }

/-- A restored carafe (R194): tier 1 is discarded; every slot keeps its age in TC0 seconds, be it before carafe second 0, and what is older
than 48 h or not yet past is left out. The place of the newest second's slot holds that slot once it is complete, till then the one 2700
slots before it. -/
def carafeRestore (s : State) (k v : Nat) : State :=
  let newest := bytesAt v 4 4
  let age : Int := (tc0Seconds s : Nat) - (bytesAt v 8 6 : Nat)
  let base := newest / 64
  let l := (List.range 2700).filterMap fun j =>
    let i := if newest % 64 = 63 then j else j + 1
    let w := bytesAt v (8256 + 8 * ((base + 5400 - i) % 2700)) 8
    let back : Int := (64 * i + newest % 64 : Nat) + age
    if w = carInvalid ∨ back < 0 ∨ 172800 < back then none
    else some (carEntryOf ((s.dp.second - back) / 64) w)
  carafeCounts (s.setCarafe k fun c => { c with tier1 := [], tier2 := l }) k

end Sys2Proof.Machine
end

