-- ==== Sys2Proof/Machine/Dpll.lean ====
section
/-! DEFINITION. The DPLLs: candidates, selection, the six states, the pour and the ledger, the loop filter
(chapter 05 of spec/). -/

namespace Sys2Proof.Machine

/-- STATE codes (R168). -/
def DState.code : DState → Nat
  | .freerun => 0 | .acquiring => 1 | .locked => 2 | .pouring => 3 | .holdover => 4 | .software => 5

/-- Does the output follow a candidate: ACQUIRING, LOCKED or POURING? -/
def DState.tracks : DState → Bool
  | .acquiring | .locked | .pouring => true
  | .freerun | .holdover | .software => false

/-- Candidate word e of DPLL k and its fields (R157). -/
def candWord (s : State) (k e : Nat) : Nat := s.rd (key (0x3410 + k) (e + 1))
def candSource (s : State) (k e : Nat) : Nat := candWord s k e % 65536
def candPrio (s : State) (k e : Nat) : Nat := field (candWord s k e) 16 4
def candMark (s : State) (k e : Nat) : Nat := field (candWord s k e) 20 2

/-- 10 s in ns. -/
abbrev tenSeconds : Nat := 10000000000

/-- The state of a recovered clock: `on` its port is enabled (R159). -/
def recState (s : State) (i : Nat) (on : Bool) : Nat :=
  if on = false then 0
  else match s.dp.recSince.getD i none with
    | none => 1
    | some t => if t + tenSeconds ≤ s.now then 3 else 2

/-- The state of a candidate before its MARK (R159); channels as S knows them (R143). -/
def intrinsicState (s : State) (k src : Nat) : Nat :=
  if src < 0x60 then s.dp.chanState.getD src 0
  else if src = 0x100 ∨ src = 0x101 then recState s (src - 0x100) (s.rd (key 0x3611 (1 + 16 * (src - 0x100))) != 0)
  else if 0x102 ≤ src ∧ src < 0x106 then recState s (src - 0x100) (s.rd (key (0x3804 + (src - 0x102)) 1) != 0)
  else if 0x200 ≤ src ∧ src < 0x300 then
    (if tiedTo s (s.ctxRec (src - 0x200) 1 1) k then s.ctxRec (src - 0x200) 65 1 else 0)
  else if 0x300 ≤ src ∧ src < 0x310 then
    (if s.dpCfg (src - 0x300) 1 = 0 then 0
     else match (s.dpllAt (src - 0x300)).state with
       | .freerun | .acquiring => 1
       | .locked | .software => 3
       | .pouring | .holdover => 4)
  else if src = 0x400 then
    (if s.chan.base.sosc = false then 1 else if s.chan.base.soscTen then 3 else 2)
  else 0

/-- The effective state of entry e (R160). -/
def effState (s : State) (k e : Nat) : Nat :=
  if candSource s k e = 0xFFFF then 0
  else
    let st := intrinsicState s k (candSource s k e)
    if candMark s k e = 1 ∧ st = 3 then 4 else if candMark s k e = 2 ∧ st ≠ 0 then 1 else st

/-- LOS of a channel candidate as S knows it. -/
def candLos (s : State) (k e : Nat) : Bool :=
  decide (candSource s k e < 0x60) && s.dp.chanLos.getD (candSource s k e) false

/-- Is entry e usable (R160)? -/
def candUsable (s : State) (k e : Nat) : Bool :=
  (effState s k e == 3 || effState s k e == 4) && !candLos s k e

/-- Is entry e WAITING (R161)? -/
def candWaiting (s : State) (k e : Nat) : Bool := ((s.dpllAt k).wtr.getD e none).isSome

/-- Usable, with a PRIORITY, and not empty. -/
def candFit (s : State) (k e : Nat) : Bool := candPrio s k e != 0 && candUsable s k e

/-- Is entry e selectable (R162)? -/
def selectable (s : State) (k e : Nat) : Bool := candFit s k e && !candWaiting s k e

/-- The rank without the entry number (R162): QUALIFIED before DEGRADED, then PRIORITY. -/
def candRank (s : State) (k e : Nat) : Nat := (if effState s k e = 3 then 0 else 16) + candPrio s k e

/-- The first entry of the least rank. -/
def bestOf (s : State) (k : Nat) : List Nat → Option Nat
  | [] => none
  | e :: r => match bestOf s k r with
    | none => some e
    | some f => if candRank s k e ≤ candRank s k f then some e else some f

/-- The top-ranked selectable entry among the entries other than `skip`. -/
def topCand (s : State) (k : Nat) (skip : Option Nat) : Option Nat :=
  bestOf s k ((List.range 16).filter fun e => selectable s k e && skip != some e)

/-- R163: the automatic choice from the present one; equal state and PRIORITY never displace it (log entry 19). -/
def autoChoice (s : State) (k : Nat) (cur skip : Option Nat) : Option Nat :=
  let top := topCand s k skip
  match cur with
  | none => top
  | some c =>
    if candFit s k c = false ∨ skip = some c then top
    else match top with
      | none => some c
      | some t =>
        if s.dpCfg k 0x04 = 1 then (if candRank s k t < candRank s k c then some t else some c)
        else if effState s k c = 4 ∧ effState s k t = 3 then some t
        else some c

/-- R163 and R164: the choice under the SWITCH_MODE in force. -/
def choice (s : State) (k : Nat) (cur : Option Nat) : Option Nat :=
  let m := s.dpCfg k 0x03
  if s.dpCfg k 0x02 = 2 then (if candSource s k m = 0xFFFF then none else some m)
  else if s.dpCfg k 0x02 = 1 then
    if candFit s k m ∧ (candWaiting s k m = false ∨ (s.dpllAt k).modeFresh ∨ cur = some m) then some m
    else autoChoice s k cur (some m)
  else autoChoice s k cur none

/-- Under FORCED the choice serves only while usable. -/
def usableChoice (s : State) (k : Nat) (cur : Option Nat) : Option Nat :=
  match choice s k cur with
  | some e => if candUsable s k e then some e else none
  | none => none

/-- The phase-sample period T of a candidate in 2^−16 ns; 0 for a session context (R150). -/
def candPeriod (s : State) (src : Nat) : Q :=
  if src < 0x60 then
    qd ((65536000000000 * (decimation s src * prescRatio s src) : Nat) : Int) (s.rd (key (0x3100 + src) 7))
  else if src < 0x200 then qi (256 * 65536)
  else if src < 0x300 then qi 0
  else qi 65536000

/-- x reduced modulo T into (−T/2, T/2] (R150), to the nearest unit. -/
def reduceT (x : Int) (t : Q) : Int :=
  if t.n = 0 then x
  else
    let r := ((qi x).sub (t.div (qi 2))).div t
    let k := -(Q.floor r.neg)
    ((qi x).sub (t.mul (qi k))).round

/-- The input type of a candidate (R153): the codes of INPUT_TYPE, and 5 for PACKET. -/
def candType (s : State) (src : Nat) : Nat :=
  if src < 0x60 then s.rd (key (0x3100 + src) 6)
  else if 0x200 ≤ src ∧ src < 0x300 then 5
  else if src = 0x400 then 4
  else 3

/-- The bandwidth of a candidate's input type, µHz (R152). -/
def typeBw (s : State) (k src : Nat) : Nat := s.dpCfg k (0x09 + candType s src)

/-- The nominal offset rate of a session context, per second (R155). -/
def ctxRate (s : State) (c : Nat) : Q :=
  let kind := s.ctxRec c 0 1
  let l := toI 8 (s.ctxRec c 8 1)
  if kind = 3 then qi 64
  else if kind = 4 then qi (max 1 (s.ctxAt c).rateLast : Nat)
  else if l < 0 then qi (2 ^ (-l).toNat : Nat) else qd 1 (2 ^ l.toNat)

/-- A candidate's sample rate r in µHz (R155). -/
def candRate (s : State) (src : Nat) : Q :=
  if 0x200 ≤ src ∧ src < 0x300 then (ctxRate s (src - 0x200)).mul (qi 1000000)
  else (qi 65536000000000000000).div (candPeriod s src)

/-- The phase of entry e's candidate as S has it now: a cascaded DPLL is measured at every update, the others as last sampled (R149,
R173). -/
def candPhase (s : State) (k e : Nat) : Int :=
  let src := candSource s k e
  if 0x300 ≤ src ∧ src < 0x310 then (s.dpllAt (src - 0x300)).phi48 / 2 ^ 32 else (s.dpllAt k).phase.getD e 0

/-- The phase error of entry e against the output, pour and OFFSET included (R150); the ramp phase is taken out of the
output (R178). -/
def phaseError (s : State) (k e : Nat) : Int :=
  let d := s.dpllAt k
  reduceT (candPhase s k e + d.offset - d.po - (d.phi48 / 2 ^ 32 - d.rampTotal)) (candPeriod s (candSource s k e))

/-- Δ toward entry e (R173). -/
def pourDelta (s : State) (k e : Nat) : Int :=
  let d := s.dpllAt k
  reduceT (candPhase s k e + d.offset - (d.phi48 / 2 ^ 32 - d.rampTotal)) (candPeriod s (candSource s k e))

/-- HISTORY of 3420h+k, on S. -/
def dpHist (s : State) (k bit_ : Nat) : State := s.dhist (0x3420 + k) (2 ^ bit_)

/-- A whole second that has ended is met, and not counted: the one before an entry into a state, or one that passes while the DPLL follows
no candidate (R156). -/
def secondMet (s : State) (d : Dpll) : Dpll :=
  if d.secSeen = s.dp.second then d
  else { d with secSeen := s.dp.second, secE := if d.sampled then some d.e else none }

/-- A transition (R169, R186): LAST_FROM, LAST_CAUSE, LAST_TIME, TRANSITIONS and HISTORY, and the messages of R188. -/
def dpGo (s : State) (k : Nat) (new : DState) (cause : Nat) : State :=
  let d := s.dpllAt k
  let s1 := s.setDpll k fun d =>
    { secondMet s d with state := new, lastFrom := d.state, lastCause := cause, lastTime := tc0Time80 s,
                         transitions := d.transitions + 1, moved := true, publish := true, secOk := false, lost := false }
  let s2 := (s1.when (d.state != new) fun s => dpHist s k new.code)
  let s3 := dpHist s2 k cause
  let s4 := s3.when (new == .holdover) fun s => s.raise 1 1 0x08 k
  let s5 := s4.when (new == .freerun && cause != 25 && cause != 22) fun s => s.raise 1 1 0x09 k
  s5.when (cause == 8) fun s => s.raise 1 1 0x0A k

/-- Entry into HOLDOVER, FREERUN or SOFTWARE ends a pour (R176). -/
def pourWithdraw (s : State) (k : Nat) : State :=
  s.setDpll k fun d => { d with withdrawn := d.withdrawn + d.po, po := 0, pourAcc := 0, publish := d.publish || d.po != 0 }

/-- The frequency in FREERUN (3400h+k.15). -/
def freerunFfo (s : State) (k : Nat) : Int := s.rdI 48 (key (0x3400 + k) 0x15)

/-- A visit to HOLDOVER that ends other than to POURING. -/
def endVisit (s : State) (k : Nat) : State := if (s.carafeAt k).visit.isSome then carafeEnd s k else s

/-- Entry into FREERUN: no timer runs there (R161), no reference is followed. -/
def dpFreerun (s : State) (k cause : Nat) : State :=
  let s1 := endVisit (pourWithdraw s k) k
  dpGo (s1.setDpll k fun d =>
    { d with fc := freerunFfo s k, sel := none, holdoff := none, wtr := List.replicate 16 none, clamped := false }) k .freerun cause

/-- The hold-off starts (R165), of 0 ms it is over at once; the candidate may be returned to once it has been unusable. -/
def startHoldoff (s : State) (k : Nat) : State :=
  if s.dpCfg k 0x06 = 0 then s.setDpll k fun d => { d with holdoff := none, sel := none }
  else s.setDpll k fun d => { d with holdoff := some (s.now + s.dpCfg k 0x06 * 1000000),
                                     lostSeen := match d.sel with | some e => !candUsable s k e | none => true }

/-- Entry into HOLDOVER by a trigger, or to FREERUN where the carafe cannot serve (R171). -/
def dpHoldover (s : State) (k cause : Nat) (hold : Bool) : State :=
  let s1 := endVisit (pourWithdraw s k) k
  let s2 := if hold then startHoldoff s1 k else s1.setDpll k fun d => { d with holdoff := none }
  if carafeServes s k then
    let s3 := carafeEnter s2 k
    let y := match (s3.carafeAt k).visit with | some v => v.y | none => 0
    dpGo (s3.setDpll k fun d => { d with fc := y, clamped := false }) k .holdover cause
  else
    let s3 := (dpHist s2 k cause).hist (0x3430 + k) (2 ^ 1)
    dpGo (s3.setDpll k fun d => { d with fc := freerunFfo s k, wtr := List.replicate 16 none, clamped := false }) k .freerun 18

/-- A frequency of 2^−48 as the integrator's 2^−160. -/
def loadInteg (fc : Int) : Int := fc * 2 ^ 112

/-- A fresh start of the lock criterion (R156). -/
def lockFresh (s : State) (d : Dpll) : Dpll :=
  { d with okSince := s.now, excess := false, lost := false }

/-- The frequency that a DPLL in HOLDOVER or SOFTWARE leaves with: the holdover value, or SW_FFO (R183, R202). -/
def restFrequency (s : State) (k : Nat) : Int :=
  let d := s.dpllAt k
  match d.state with
  | .holdover => (s.carafeAt k).corr.getD d.fc
  | .software => s.rdI 48 (key (0x3400 + k) 0x16)
  | _ => d.fc

/-- Transition into POURING, or a redirect of a pour (R173 to R175): `cause`, and for a redirect its reason. -/
def dpPour (s : State) (k e cause : Nat) (reason : Option Nat) : State :=
  let d := s.dpllAt k
  let redirect := d.state == .pouring
  let delta := pourDelta s k e
  let f := restFrequency s k
  let s1 := if d.state = .holdover then carafeLeave s k delta else s
  let s2 := s1.setDpll k fun d =>
    let d1 := { d with withdrawn := d.withdrawn + d.po, po := 0, pourAcc := 0, sel := some e, e := 0, holdoff := none, offsets := d.offsets.filter (fun x => x.1 != e),
                       fc := f, integ := if d.state = .holdover ∨ d.state = .software then loadInteg f else d.integ,
                       redirects := if redirect then d.redirects + 1 else d.redirects }
    if d.state = .holdover ∨ d.state = .software then lockFresh s d1 else d1
  let limit := s.dpCfg k 0x08
  let s3 :=
    if limit ≠ 0 ∧ limit * 65536 < absI delta then
      let s3 := dpHist (s2.setDpll k fun d =>
        { d with phi48 := d.phi48 + delta * 2 ^ 32, inc48 := d.inc48 + delta * 2 ^ 32, tampTotal := d.tampTotal + delta, applied := d.applied + delta, stepNow := d.stepNow + delta,
                 steps := d.steps + 1 }) k 27
      (s3.raise 1 1 0x07 k).when redirect fun s => s.raise 1 1 0x06 k
    else
      (s2.setDpll k fun d =>
        { d with requested := d.requested + delta, po := delta,
                 pours := if redirect then d.pours else d.pours + 1 }).raise 1 1 0x06 k
  let s4 := match reason with | some r => dpHist s3 k r | none => s3
  dpGo s4 k .pouring cause

/-- The first stage bandwidth B_1 of bloom, none when there is a single stage (R155). -/
def bloomStart (s : State) (k src : Nat) : Option Q :=
  let b := qi (s.dpCfg k 0x10 : Nat)
  let b1 := b.min ((candRate s src).div (qi 10))
  if s.dpCfg k 0x10 = 0 ∨ b1.le (qi (typeBw s k src : Nat)) then none else some b1

/-- Entry into ACQUIRING on entry e (R155, R169, R490). -/
def dpAcquire (s : State) (k e cause : Nat) : State :=
  let src := candSource s k e
  dpGo (s.setDpll k fun d =>
    lockFresh s { d with sel := some e, holdoff := none, stage := 1, stageBw := bloomStart s k src,
                         stageSince := s.now, stageBad := s.now, acqReq := false,
                         integ := if d.state = .freerun then loadInteg d.fc else d.integ }) k .acquiring cause

/-! Steps 1 to 3 of R166. -/

/-- Is a hold in force (R170)? -/
def dpHeld (d : Dpll) : Bool := d.faultHold || d.cmdHold

/-- Step 1: ENABLE, and the setting or removal of a fault hold. -/
def dpStep1 (s : State) (k : Nat) : State :=
  let on := s.dpCfg k 0x01 == 1
  let d := s.dpllAt k
  let s1 :=
    if d.enabled ∧ on = false then
      dpFreerun (s.setDpll k fun d => { d with enabled := false, cmdHold := false, cmds := [] }) k 25
    else s.setDpll k fun d => { d with enabled := on }
  if d.faultReq ∧ d.faultHold = false then
    let s2 := s1.setDpll k fun d => { d with faultHold := true }
    if ((s1.dpllAt k).state.tracks ∨ (s1.dpllAt k).state = .software) ∧ (s1.dpllAt k).moved = false then
      dpHoldover s2 k 20 false else s2
  else if d.faultReq = false ∧ d.faultHold then
    s1.setDpll k fun d => { d with faultHold := false, release := if d.cmdHold then none else some 21, publish := true }
  else s1

/-- One command (R161, R169, R170, R182, R183). -/
def dpCommand (s : State) (k c : Nat) : State :=
  let d := s.dpllAt k
  if c = 1 then
    if d.enabled ∧ dpHeld d = false then
      let f := restFrequency s k
      let s1 := endVisit (pourWithdraw s k) k
      dpGo ((s1.putI 48 (key (0x3400 + k) 0x16) f).setDpll k fun d => { d with fc := f, holdoff := none, clamped := false }) k .software 23
    else s
  else if c = 2 then
    if d.state = .software then
      match usableChoice s k d.sel with
      | some e => dpPour s k e 24 none
      | none => dpHoldover s k 24 false
    else s
  else if c = 3 then
    if d.enabled ∧ d.faultHold = false then
      let s1 := s.setDpll k fun d => { d with cmdHold := true, publish := true }
      if d.state = .freerun then s1 else dpFreerun s1 k 22
    else s
  else if c = 4 then
    if d.enabled ∧ d.faultHold = false then
      let s1 := s.setDpll k fun d => { d with cmdHold := true, publish := true }
      if d.state.tracks ∨ d.state = .software then dpHoldover s1 k 22 false else s1
    else s
  else if c = 5 then
    if d.cmdHold then
      s.setDpll k fun d => { d with cmdHold := false, release := if d.faultHold then none else some 22, publish := true }
    else s
  else if c = 6 then
    (s.setDpll k fun d => { d with wtr := List.replicate 16 none }).when (d.wtr.any (·.isSome)) fun s => dpHist s k 30
  else s

/-- Does a command make a transition (R169)? -/
def dpMoving (s : State) (k c : Nat) : Bool :=
  let d := s.dpllAt k
  if c = 1 then d.enabled && !dpHeld d
  else if c = 2 then d.state == .software
  else if c = 3 then d.enabled && !d.faultHold && d.state != .freerun
  else if c = 4 then d.enabled && !d.faultHold && (d.state.tracks || d.state == .software)
  else false

/-- Step 2: the commands in order. One that would make a second transition in this update waits for the next one, and so does what comes
after it but CLEAR_WTR (log entry 95). -/
def dpStep2 (s : State) (k : Nat) : List Nat → State
  | [] => s.setDpll k fun d => { d with cmds := [] }
  | c :: r =>
    if (s.dpllAt k).moved && dpMoving s k c then
      let s1 := if r.any (· == 6) then dpCommand s k 6 else s
      s1.setDpll k fun d => { d with cmds := (c :: r).filter (· != 6) }
    else dpStep2 (dpCommand s k c) k r

/-- The wait-to-restore timer of one entry (R161), given its state and usability at the last update and now. -/
def wtrNext (wtrTime now : Nat) (free : Bool) (old : Option Nat) (was : Bool) (oldEff : Nat) (is : Bool) (eff : Nat) :
    Option Nat :=
  if free || wtrTime == 0 || !is then none
  else if !was || (oldEff == 4 && eff == 3) then some (now + wtrTime * 1000000000)
  else old

/-- Step 3: candidate states, LOS and the timers (R160, R161, R165). -/
def dpStep3 (s : State) (k : Nat) : State :=
  let d := s.dpllAt k
  let effs := (List.range 16).map fun e => effState s k e
  let us := (List.range 16).map fun e => candUsable s k e
  let w := (List.range 16).map fun e =>
    wtrNext (s.dpCfg k 0x05) s.now (d.state == .freerun) (d.wtr.getD e none) (d.usable.getD e false) (d.eff.getD e 0)
      (us.getD e false) (effs.getD e 0)
  let lost := match d.sel with | some e => !us.getD e false | none => false
  s.setDpll k fun d => { d with eff := effs, usable := us, wtr := w, lostSeen := d.lostSeen || lost,
                                 losWas := (List.range 16).map fun e => candLos s k e }

/-- S as it would be without the LOS signals that have arrived since the last update. -/
def withoutNewLos (s : State) (k : Nat) : State :=
  let new := (List.range 16).filter fun e => candLos s k e && !(s.dpllAt k).losWas.getD e false
  { s with dp := { s.dp with chanLos := new.foldl (fun l e => l.set (candSource s k e) false) s.dp.chanLos } }

/-- The target of a redirect that the LOS of that target meets in the same update (R166): the entry that a pour would turn to but for a
LOS signal of this update. -/
def redirectLost (s : State) (k : Nat) : Option Nat :=
  let d := s.dpllAt k
  if d.state = .pouring then
    match choice (dpStep3 (withoutNewLos s k) k) k d.sel with
    | some t => if some t ≠ d.sel ∧ candLos s k t ∧ d.losWas.getD t false = false then some t else none
    | none => none
  else none

/-! Step 4 of R166: selection and the resulting transition. -/

/-- The reason of a switch away from entry c (R169). -/
def switchReason (s : State) (k c new : Nat) : Nat :=
  if (s.dpllAt k).modeNew then 14
  else if effState s k c = 4 ∧ effState s k new = 3 then 11
  else if (s.dpllAt k).wordsNew ∨ candPrio s k c = 0 then 15
  else 12

/-- The lock criterion holds (R156). -/
def lockCriterion (s : State) (k : Nat) : Bool :=
  (s.dpllAt k).state.tracks && decide ((s.dpllAt k).okSince + s.dpCfg k 0x13 * 1000000000 ≤ s.now)

/-- Selection in FREERUN and HOLDOVER: only the lost candidate within the hold-off (R165). -/
def dpRest (s : State) (k : Nat) : State :=
  let d := s.dpllAt k
  let forced := s.dpCfg k 0x02 == 2
  let pick : Option Nat :=
    if d.holdoff.isSome ∧ forced = false then
      match d.sel with
      | some e => if d.lostSeen ∧ candUsable s k e then some e else none
      | none => none
    else usableChoice s k none
  let cause := match d.release with
    | some c => c
    | none => if d.state = .freerun then 6 else if d.holdoff.isSome ∨ forced then 16 else 17
  let s1 := if forced then s.setDpll k fun d => { d with sel := choice s k none } else s
  match pick with
  | some e => if d.state = .freerun then dpAcquire s1 k e cause else dpPour s1 k e cause none
  | none => s1

/-- Selection and lock in ACQUIRING, LOCKED and POURING; `gone` is the target of a redirect that has lost its signal (R166). -/
def dpTrack (s : State) (k : Nat) (gone : Option Nat) : State :=
  let d := s.dpllAt k
  match d.sel with
  | none => dpHoldover s k 10 false
  | some c =>
    let forced := s.dpCfg k 0x02 == 2
    let new := (choice s k (some c)).getD c
    if forced ∧ candUsable s k new = false then
      dpHoldover (s.setDpll k fun d => { d with sel := some new }) k 10 false
    else if forced = false ∧ candUsable s k c = false then dpHoldover s k 10 true
    else if forced = false ∧ gone.isSome then dpHoldover (s.setDpll k fun d => { d with sel := gone }) k 10 true
    else if d.acqReq ∧ d.state = .acquiring then
      match usableChoice s k none with
      | some e => dpAcquire s k e 19
      | none => dpHoldover (s.setDpll k fun d => { d with acqReq := false }) k 19 true
    else if new ≠ c then
      let r := switchReason s k c new
      match d.state with
      | .acquiring => dpAcquire s k new r
      | .pouring => dpPour s k new 13 (some r)
      | _ => dpPour s k new r none
    else match d.state with
      | .acquiring => if d.stageBw = none ∧ lockCriterion s k then dpGo s k .locked 7 else s
      | .locked => if d.lost then dpAcquire s k c 8 else s
      | _ => if d.po = 0 ∧ lockCriterion s k then dpGo s k .locked 9 else s

/-- Step 4. -/
def dpStep4 (s : State) (k : Nat) (gone : Option Nat) : State :=
  let d := s.dpllAt k
  if d.moved ∨ d.enabled = false then s
  else match d.state with
    | .freerun | .holdover => if dpHeld d then s else dpRest s k
    | .software => s.setDpll k fun d => { d with sel := choice s k d.sel }
    | _ => dpTrack s k gone

/-! Steps 5 to 7 of R166. -/

/-- Step 5: the tamps that have reached the update (R180), and a blend step (R329). -/
def dpStep5 (s : State) (k : Nat) : State :=
  let d := s.dpllAt k
  let t := sumI d.tampReq
  let b := d.blendReq
  let keep := match d.sel with
    | some e => let src := candSource s k e
                !(decide (0x200 ≤ src ∧ src < 0x300) && s.ctxRec (src - 0x200) 0 1 == 3)
    | none => true
  let s1 := s.setDpll k fun d =>
    { d with phi48 := d.phi48 + (t + b) * 2 ^ 32, inc48 := d.inc48 + (t + b) * 2 ^ 32,
             offset := d.offset + t + (if keep then b else 0), tampTotal := d.tampTotal + t,
             blendTotal := d.blendTotal + b, applied := d.applied + t + b, stepNow := d.stepNow + t + b, tamps := d.tamps + d.tampReq.length,
             tampReq := [], blendReq := 0, publish := d.publish || !d.tampReq.isEmpty || b != 0 }
  s1.when (!d.tampReq.isEmpty) fun s => dpHist s k 26

/-- Units moved in one update at a rate of 0.1 ns/s, with the part carried in 10^−7 units: (units, rest). -/
def slope (rate acc : Nat) : Nat × Nat := ((acc + rate * 65536) / 10000000, (acc + rate * 65536) % 10000000)

/-- The pour and blend steps of one update (R173, R178, R328); a pour that this update begins or redirects moves from the next one on. -/
def dpMoves (s : State) (k : Nat) : State :=
  let keep := match (s.dpllAt k).sel with
    | some e => let src := candSource s k e
                !(decide (0x200 ≤ src ∧ src < 0x300) && s.ctxRec (src - 0x200) 0 1 == 3)
    | none => true
  s.setDpll k fun d =>
    let p := if d.moved then (0, d.pourAcc) else slope (s.dpCfg k 0x07) d.pourAcc
    let b := slope d.blendRate d.blendAcc
    let dp := if d.po = 0 then 0 else towardZero d.po p.1
    let db := if d.blendLeft = 0 then 0 else towardZero d.blendLeft b.1
    { d with po := d.po - dp, pourAcc := if d.po - dp = 0 then 0 else p.2,
             blendLeft := d.blendLeft - db, blendAcc := if d.blendLeft - db = 0 then 0 else b.2,
             blendTotal := d.blendTotal + db, offset := d.offset + (if keep then db else 0),
             applied := d.applied + dp + db, phi48 := d.phi48 + (dp + db) * 2 ^ 32,
             inc48 := d.inc48 + (dp + db) * 2 ^ 32 }

/-- 2π to the precision at which the filter is evaluated (R490). -/
def twoPiExact : Q := qd 62831853071795864769252867665590057683943387987502116 (10 ^ 52)

/-- A square root to 2^−200. -/
def sqrtQ (a : Q) : Q := if a.n ≤ 0 then qi 0 else qd (isqrt 512 (a.n.natAbs * 2 ^ 400 / a.d) : Nat) (2 ^ 200)

/-- ω_n of the loop for a bandwidth in µHz (R490). -/
def omegaN (damping : Nat) (bw : Q) : Q :=
  let z := qd damping 10
  let a := (qi 1).add ((qi 2).mul (z.mul z))
  (twoPiExact.mul (bw.div (qi 1000000))).div (sqrtQ (a.add (sqrtQ ((a.mul a).add (qi 1)))))

/-- 250 × 10^−6. -/
def ppm250 : Q := qd 250 1000000

/-- The result of one evaluation of the loop filter: integrator (2^−160), FREQ_CONTROL, and whether the loop asks for
more than the limit (R151, R490). -/
def loopFilter (damping : Nat) (bw dt : Q) (integ e : Int) : Int × Int × Bool :=
  let wn := omegaN damping bw
  let es := qd e 65536000000000
  let kp := (((qi 2).mul (qd damping 10)).mul wn).min ((qi 1).div dt)
  let i0 := (qd integ (2 ^ 160)).add (((wn.mul wn).mul es).mul dt)
  let i1 := i0.clamp ppm250.neg ppm250
  let y0 := i1.add (kp.mul es)
  let fc0 := ((y0.clamp ppm250.neg ppm250).mul (qi (2 ^ 48))).round
  ((i1.mul (qi (2 ^ 160))).round, clampI fcLimit fc0,
    ppm250.lt i0.abs || ppm250.lt y0.abs || decide (fcLimit < absI fc0))

/-- The bandwidth in use, µHz: the bloom stage's or the input type's (R152, R155). -/
def bwInUse (s : State) (k : Nat) : Q :=
  let d := s.dpllAt k
  match d.sel with
  | none => qi 0
  | some e =>
    match d.state, d.stageBw with
    | .acquiring, some b => b
    | _, _ => qi (typeBw s k (candSource s k e) : Nat)

/-- The phase sample of this update for entry e, if one has arrived: a cascaded DPLL is measured at every update, a
session context's offset as delivered, the others as the phase detectors report them (R149, R150). The result gives
the phase and dt in seconds; for a context dt is the time since the entry's offset before this one (R490). -/
def sampleOf (s : State) (k e : Nat) (l : List PhaseSample) : Option (Int × Q) :=
  let src := candSource s k e
  let d := s.dpllAt k
  if 0x300 ≤ src ∧ src < 0x310 then some (candPhase s k e, qd 1 1000000)
  else if 0x200 ≤ src ∧ src < 0x300 then
    match d.offsets.find? fun x => x.1 == e with
    | some (_, at_, before) =>
      let dt := match before with
        | some p => if p < at_ then qd (at_ - p) 65536000000000 else (qi 1).div (ctxRate s (src - 0x200))
        | none => (qi 1).div (ctxRate s (src - 0x200))
      some (d.phase.getD e 0, dt)
    | none => none
  else match l.find? fun x => x.entry == e with
    | some x => some (x.phase, (candPeriod s src).div (qi 65536000000000))
    | none => none

/-- Judging a phase error for the lock criterion and bloom (R155, R156). -/
def judgeError (s : State) (k : Nat) (e : Int) (d : Dpll) : Dpll :=
  let lp := s.dpCfg k 0x11 * 65536
  let excess := decide (2 * lp < absI e * 1000)
  let bad := decide (lp < absI e * 1000)
  { d with e := e, okSince := if bad then s.now else d.okSince, stageBad := if bad then s.now else d.stageBad,
           sampled := true, lost := d.lost || (d.state == .locked && excess && d.excess), excess := excess }

/-- The whole-second test of the frequency error (R156), at the first update after a carafe second and before that update's sample. -/
def judgeSecond (s : State) (k : Nat) (d : Dpll) : Dpll :=
  if d.secSeen = s.dp.second then d
  else
    match d.state.tracks, d.secE with
    | false, _ => secondMet s d
    | true, none => secondMet s d
    | true, some e0 =>
      -- e in 2^−16 ns over 1 s: |Δe| × 1000 / 65536 in 10^−12
      let f := absI (d.e - e0) * 1000
      { d with secSeen := s.dp.second, secE := some d.e,
               okSince := if s.dpCfg k 0x12 * 65536 < f then s.now else d.okSince,
               lost := d.lost || (d.state == .locked && decide (2 * s.dpCfg k 0x12 * 65536 < f)) }

/-- The end of a bloom stage (R155). -/
def bloomStep (s : State) (k : Nat) : State :=
  let d := s.dpllAt k
  match d.state, d.stageBw, d.sel with
  | .acquiring, some b, some e =>
    let len := ((qi 1000000000000000).div b)
    if (len.add (qi d.stageSince)).le (qi s.now) ∧ ((len.div (qi 4)).add (qi d.stageBad)).lt (qi s.now) then
      let nb := b.div (qi 4)
      let last := nb.lt (qi (typeBw s k (candSource s k e) : Nat))
      dpHist (s.setDpll k fun d =>
        { d with stage := d.stage + 1, stageBw := if last then none else some nb, stageSince := s.now, stageBad := s.now }) k 28
    else s
  | _, _, _ => s

/-- FREQ_CONTROL of this update (R149, R168). -/
def dpFrequency (s : State) (k : Nat) : State :=
  let d := s.dpllAt k
  match d.state with
  | .freerun => s.setDpll k fun d => { d with fc := freerunFfo s k }
  | .software => s.setDpll k fun d => { d with fc := s.rdI 48 (key (0x3400 + k) 0x16) }
  | .holdover =>
    match (s.carafeAt k).corr with
    | some y => (s.setDpll k fun d => { d with fc := y }).setCarafe k fun c => { c with corr := none }
    | none => s
  | _ => s

/-- The phase detector and the loop filter (R149, R490). -/
def dpLoop (s : State) (k : Nat) (l : List PhaseSample) : State :=
  let d := s.dpllAt k
  match d.sel with
  | none => s
  | some e =>
    match sampleOf s k e l with
    | none => s
    | some (ph, dt) =>
      let s1 := s.setDpll k fun d => { d with phase := d.phase.set e ph, offsets := d.offsets.filter fun x => x.1 != e }
      let err := phaseError s1 k e
      if d.state.tracks then
        let r := loopFilter (s.dpCfg k 0x0F) (bwInUse s k) dt d.integ err
        (s1.setDpll k fun d =>
          { judgeError s k err d with integ := r.1, fc := r.2.1, clamped := r.2.2 }).when (r.2.2 && !d.clamped)
            fun s => dpHist s k 29
      else s1.setDpll k fun d => { d with e := err, sampled := true }

/-- Step 6: pour and blend, phase sample, loop filter; the output moves by FREQ_CONTROL over 1 µs. -/
def dpStep6 (s : State) (k : Nat) (l : List PhaseSample) : State :=
  let s0 := s.setDpll k fun d =>
    { d with phase := (List.range 16).map fun e =>
        match l.find? fun x => x.entry == e with | some x => x.phase | none => d.phase.getD e 0 }
  let s1 := dpLoop ((dpFrequency (dpMoves s0 k) k).setDpll k (judgeSecond s k)) k l
  let s2 := bloomStep s1 k
  s2.setDpll k fun d =>
    { d with phi48 := d.phi48 + 1000 * d.fc, inc48 := d.inc48 + 1000 * 2 ^ 48 + 1000 * d.fc,
             fcSum := d.fcSum + d.fc, fcNum := d.fcNum + 1,
             secOk := d.secOk && d.state == .locked && lockCriterion s2 k && !d.clamped
               && !(match d.sel with | some e => candLos s k e | none => true) }

/-- PHASE_ERROR in ps, saturating. -/
def errorPs (d : Dpll) : Nat := ofI 32 (satI 32 (qd (d.e * 1000) 65536).round)

/-- POUR_DELIVERED, formed from the other three pour terms, and LEDGER (R178). -/
def pourDelivered (d : Dpll) : Int := d.requested - d.withdrawn - d.po
def dpLedger (d : Dpll) : Int := pourDelivered d + d.tampTotal + d.blendTotal + d.rampTotal

/-- The record .05 to .1C of 3420h+k (R186). -/
def dpRecord (s : State) (k : Nat) : List (Nat × Nat) :=
  let d := s.dpllAt k
  let i64 := ofI 64
  [(0x05, d.state.code), (0x06, d.sel.getD 0xFF), (0x07, d.lastFrom.code), (0x08, d.lastCause), (0x09, d.lastTime),
   (0x0A, cut 32 d.transitions), (0x0B, if d.state = .freerun ∨ d.state = .holdover then 0 else errorPs d), (0x0C, ofI 48 d.fc),
   (0x0D, if d.state.tracks then (bwInUse s k).floor.toNat else 0),
   (0x0E, match d.holdoff with | some t => (t - s.now + 999999) / 1000000 | none => 0), (0x0F, i64 d.offset),
   (0x10, i64 (dpLedger d)), (0x11, i64 d.requested), (0x12, i64 (pourDelivered d)), (0x13, i64 d.withdrawn),
   (0x14, i64 d.po), (0x15, i64 d.tampTotal), (0x16, i64 d.blendTotal), (0x17, i64 d.rampTotal), (0x18, i64 d.applied),
   (0x19, cut 32 d.pours), (0x1A, cut 32 d.redirects), (0x1B, cut 32 d.steps), (0x1C, cut 32 d.tamps)]

/-- CAND_STATUS of entry e (R185). -/
def candStatus (s : State) (k e : Nat) : Nat :=
  let d := s.dpllAt k
  if candSource s k e = 0xFFFF then 0
  else
    effState s k e + at_ (candWaiting s k e) 3 + at_ (d.sel == some e) 4 + at_ (candLos s k e) 5
      + (if candSource s k e < 0x60 then s.dp.chanScore.getD (candSource s k e) 0 % 256 else 0) * 2 ^ 8
      + (match d.wtr.getD e none with | some t => sat 12 ((t - s.now + 999999999) / 1000000000) | none => 0) * 2 ^ 16

/-- STATUS of 3420h+k (R186). -/
def dpStatus (s : State) (k : Nat) : Nat :=
  let d := s.dpllAt k
  d.state.code + at_ d.holdoff.isSome 3 + at_ (d.wtr.any (·.isSome)) 4 + at_ d.faultHold 5 + at_ d.cmdHold 6
    + at_ d.clamped 7 + d.sel.getD 0 % 16 * 2 ^ 8 + at_ d.sel.isSome 12 + at_ (lockCriterion s k) 13
    + s.dpCfg k 0x02 % 4 * 2 ^ 14 + (if d.state = .acquiring then d.stage % 16 else 0) * 2 ^ 16

/-- Publish the record of DPLL k on S; STATUS and CAND_STATUS are live and need no publication (R185, R186). -/
def dpPublish (s : State) (k : Nat) : State :=
  (s.many (dpRecord s k) fun e s => s.dput (key (0x3420 + k) e.1) e.2).setDpll k fun d => { d with publish := false, sincePub := 0 }

/-- Step 7: the record is published on an event of R186, and otherwise every 1 ms. -/
def dpStep7 (s : State) (k : Nat) : State :=
  let d := s.dpllAt k
  if d.publish ∨ 999 ≤ d.sincePub then dpPublish s k else s.setDpll k fun d => { d with sincePub := d.sincePub + 1 }

/-- An update, up to the ramps of the APLLs that the DPLL steers (R149, R166). An update whose transition is made before selection leaves
the causes that selection would have met to the next one. -/
def dpUpdate (s : State) (k : Nat) (l : List PhaseSample) : State :=
  let s0 := s.setDpll k fun d => { d with moved := false, inc48 := 0, stepNow := 0 }
  let s1 := dpStep1 s0 k
  let s2 := dpStep2 s1 k (s1.dpllAt k).cmds
  let late := (s2.dpllAt k).moved
  let s4 := dpStep4 (dpStep3 s2 k) k (redirectLost s2 k)
  let s5 := dpStep5 (s4.setDpll k fun d => if late then d else { d with release := none, modeFresh := false, modeNew := false, wordsNew := false }) k
  dpStep6 s5 k l

/-! Events of their own. -/

/-- WTR_EXPIRY (R161). -/
def dpWtrExpiry (s : State) (k e : Nat) : State :=
  if candWaiting s k e then
    dpHist (s.setDpll k fun d => { d with wtr := d.wtr.set e none, publish := true }) k 30 else s

/-- HOLD_OFF_EXPIRY, and a write of SWITCH_MODE (R165): the lost candidate is no longer the selected entry. -/
def dpHoldoffEnd (s : State) (k : Nat) : State :=
  if (s.dpllAt k).holdoff.isSome then
    s.setDpll k fun d => { d with holdoff := none, sel := if s.dpCfg k 0x02 = 2 then d.sel else none, publish := true }
  else s

/-- ACQ_TIMEOUT (R172): the candidate's WTR timer restarts, and the next update moves selection on. -/
def dpAcqTimeout (s : State) (k : Nat) : State :=
  let d := s.dpllAt k
  if d.state = .acquiring ∧ s.dpCfg k 0x14 ≠ 0 ∧ d.acqReq = false then
    (s.setDpll k fun d =>
      { d with acqReq := true,
               wtr := match d.sel with
                 | some e => if s.dpCfg k 0x05 = 0 then d.wtr else d.wtr.set e (some (s.now + s.dpCfg k 0x05 * 1000000000))
                 | none => d.wtr }).raise 1 1 0x0B k
  else s

/-- LOS_SIGNAL_ARRIVES and CUP_STATE_ARRIVES (R143): S learns what the slice and E12 hold of channel n. -/
def dpLosArrives (s : State) (n : Nat) : State :=
  carried s (dieOfChan n + 7) false (transferWords (key (0x3100 + n) 1) ⟨4, b2n (s.chanAt n).los⟩) fun s =>
    { s with dp := { s.dp with chanLos := s.dp.chanLos.set n (s.chanAt n).los } }
def dpCupArrives (s : State) (n : Nat) : State :=
  carried s 6 true (transferWords (key (0x3100 + n) 0x22) ⟨4, (s.cupAt n).st + (s.cupAt n).score * 2 ^ 8⟩) fun s =>
    { s with dp := { s.dp with chanState := s.dp.chanState.set n (s.cupAt n).st, chanScore := s.dp.chanScore.set n (s.cupAt n).score } }

/-- A fault hold is asked for or withdrawn by the collector, and reaches S over link 6 (R170). -/
def dpFaultHold (s : State) (k : Nat) (on : Bool) : State :=
  carried s 6 true (transferWords (key (0x3420 + k) 1) ⟨1, b2n on⟩) fun s => s.setDpll k fun d => { d with faultReq := on }

/-- The phase samples that reach S: those of channels come over the link of their die to S, the others are formed on S (R493). -/
def samplesArrive (s : State) (k : Nat) : List PhaseSample → State × List PhaseSample
  | [] => (s, [])
  | x :: l =>
    let n := candSource s k x.entry
    if n < 0x60 then
      let r := carry s (dieOfChan n + 7) false (transferWords (key (0x3100 + n) 0) ⟨8, ofI 64 x.phase⟩) 0
      let t := samplesArrive r.2.2 k l
      (t.1, if r.1 then x :: t.2 else t.2)
    else
      let t := samplesArrive s k l
      (t.1, x :: t.2)

/-- A command, a tamp for the next update. -/
def dpQueue (s : State) (k c : Nat) : State := if c = 0 then s else s.setDpll k fun d => { d with cmds := d.cmds ++ [c] }
def dpTamp (s : State) (k : Nat) (t : Int) : State := s.setDpll k fun d => { d with tampReq := d.tampReq ++ [t] }

/-- A write of a candidate word takes effect (R157): another SOURCE is another candidate. -/
def candPut (s : State) (k e v : Nat) : State :=
  let s1 := (s.put (key (0x3410 + k) (e + 1)) (v % 2 ^ 22)).setDpll k fun d => { d with wordsNew := true }
  if v % 65536 = candSource s k e then s1
  else s1.setDpll k fun d =>
    { d with eff := d.eff.set e 0, usable := d.usable.set e false, wtr := d.wtr.set e none, phase := d.phase.set e 0,
             offsets := d.offsets.filter fun x => x.1 != e, measAt := d.measAt.set e none, losWas := d.losWas.set e false }

/-- A write of SWITCH_MODE or SELECT_ENTRY takes effect (R164, R165). -/
def modePut (s : State) (k sub v : Nat) : State :=
  let s1 := (s.put (key (0x3400 + k) sub) v).setDpll k fun d =>
    { d with modeNew := true, modeFresh := d.modeFresh || sub == 2 }
  if sub = 2 then dpHoldoffEnd s1 k else s1

/-- Do the cascades from DPLL m reach DPLL k within `fuel` steps (R158)? `w` gives the candidate words pending. -/
def cascadeDepth (w : Nat → Nat → Nat) : Nat → Nat → Nat
  | 0, _ => 1
  | fuel + 1, m =>
    1 + maxOf ((List.range 16).map fun e =>
      let src := w m e % 65536
      if 0x300 ≤ src ∧ src < 0x310 then cascadeDepth w fuel (src - 0x300) else 0)

def cascadeReaches (w : Nat → Nat → Nat) : Nat → Nat → Nat → Bool
  | 0, m, k => m == k
  | fuel + 1, m, k =>
    m == k || (List.range 16).any fun e =>
      let src := w m e % 65536
      decide (0x300 ≤ src ∧ src < 0x310) && cascadeReaches w fuel (src - 0x300) k

/-- Is SOURCE one that R157 names? -/
def sourceNamed (src : Nat) : Bool :=
  decide (src < 0x60) || decide (0x100 ≤ src ∧ src ≤ 0x105) || decide (0x200 ≤ src ∧ src < 0x300)
    || decide (0x300 ≤ src ∧ src < 0x310) || src == 0x400 || src == 0xFFFF

/-- Is a candidate word outside the range of its entry (R157)? -/
def candBad (v : Nat) : Bool := !sourceNamed (v % 65536) || field v 20 2 == 3

/-- Is a candidate word refused (R157, R158)? 0 for no. `w` gives the words pending under R20. -/
def candRefuse (s : State) (w : Nat → Nat → Nat) (mode select k e v : Nat) : Nat :=
  let src := v % 65536
  let old := w k e % 65536
  let w' := fun m i => if m = k ∧ i = e then v else w m i
  if candBad v then 0x06090030
  else if src ≠ old ∧ (s.dpllAt k).sel = some e then 0x08000021
  else if src = 0xFFFF ∧ select = e ∧ (mode = 1 ∨ mode = 2) then 0x08000021
  else if src ≠ 0xFFFF ∧ (List.range 16).any (fun i => i != e && w k i % 65536 == src) then 0x06090030
  else if src = 0x300 + k then 0x06090030
  else if 0x300 ≤ src ∧ src < 0x310 ∧ cascadeReaches w' 4 (src - 0x300) k then 0x06090030
  else if (List.range 16).any (fun m => decide (4 < cascadeDepth w' 4 m)) then 0x06090030
  else 0

/-- Is a COMMAND refused (R170, R182)? -/
def dpCommandRefuse (s : State) (k v enable : Nat) : Nat :=
  let d := s.dpllAt k
  if v = 1 ∧ (enable = 0 ∨ d.faultHold ∨ d.faultReq ∨ d.cmdHold) then 0x08000021
  else if (v = 3 ∨ v = 4) ∧ (d.faultHold ∨ d.faultReq) then 0x08000021
  else 0

/-- A context delivers an offset to the DPLLs that name it and to which its counter is tied (R250, R271): its phase is
the output's at the measurement plus what is left after the whole seconds. -/
def dpOffset (s : State) (c : Nat) (o : Int) (at_ : Int) : State :=
  s.many (List.range 16) fun k s =>
    if tiedTo s (s.ctxRec c 1 1) k then
      s.many (List.range 16) fun e s =>
        if candSource s k e = 0x200 + c then
          s.setDpll k fun d =>
            { d with phase := d.phase.set e (d.phi48 / 2 ^ 32 - d.rampTotal + o),
                     offsets := (d.offsets.filter fun x => x.1 != e) ++ [(e, at_, d.measAt.getD e none)], measAt := d.measAt.set e (some at_) }
        else s
    else s

end Sys2Proof.Machine
end

