-- ==== Sys2Proof/Machine/Apll.lean ====
section
/-! DEFINITION. APLLs, lock counters, ramps, change-over and the output paths with ALIGN (chapter 07 of spec/). -/

namespace Sys2Proof.Machine

def State.apllAt (s : State) (j : Nat) : Apll := s.ap.aplls.getD j {}
def State.setApll (s : State) (j : Nat) (f : Apll → Apll) : State := { s with ap := { s.ap with aplls := upd s.ap.aplls j f } }
def State.outAt (s : State) (n : Nat) : OutPath := s.ap.outs.getD n {}
def State.setOut (s : State) (n : Nat) (f : OutPath → OutPath) : State := { s with ap := { s.ap with outs := upd s.ap.outs n f } }

/-- Configuration entry of APLL j (3500h+j) and of its ramp (3508h+j). -/
def State.apCfg (s : State) (j sub : Nat) : Nat := s.rd (key (0x3500 + j) sub)
def State.rampCfg (s : State) (j sub : Nat) : Nat := s.rd (key (0x3508 + j) sub)

/-- N_PROG in 2^−48 (R211). -/
def nProg (nInt nFrac : Nat) : Nat := nInt * 2 ^ 48 + nFrac
def apllN (s : State) (j : Nat) : Nat := nProg (s.apCfg j 0x07) (s.apCfg j 0x08)

/-- Nominal f_source in µHz (R211). -/
def fSource (s : State) (j : Nat) : Nat := 100000000000000 * apllN s j / 2 ^ 48 / max 1 (s.apCfg j 0x09)

/-- Does a write of ENABLE 1 pass the checks of R211, with the values pending? -/
def planOk (nInt nFrac odiv : Nat) : Bool :=
  let n := nProg nInt nFrac
  decide (98 * 2 ^ 48 * 1000000 ≤ n * (1000000 - 250)) && decide (n * (1000000 + 250) ≤ 120 * 2 ^ 48 * 1000000)
    && decide (100000000 * n ≤ 1600000000 * odiv * 2 ^ 48)

/-- The seed that an entry into LOCKING loads (R215). -/
def ditherSeed (s : State) (j : Nat) : Nat :=
  let v := Nat.xor (Config.uniqueId % 2 ^ 32) (0x5A5A0000 + j)
  if s.apCfg j 0x0B ≠ 0 then s.apCfg j 0x0B else if v = 0 then 1 else v

/-- STATE codes. -/
def AState.code : AState → Nat
  | .off => 0 | .locking => 1 | .locked => 2 | .inputLost => 3
def RState.code : RState → Nat
  | .idle => 0 | .running => 1 | .stopping => 2 | .ended => 3

/-- Is the APLL's source in use by its outputs: LOCKED, with RETURN_HOLD over (R219)? -/
def apllReturned (s : State) (j : Nat) : Bool := (s.apllAt j).state == .locked && (s.apllAt j).returned

/-! The modulator (R214, R215). -/

/-- The dither register steps: x^32 + x^22 + x^2 + x + 1; its new bit gives the sign of the unit added (log entry 94). -/
def lfsrStep (v : Nat) : Nat := (2 * v + (b2n (bit v 31) + b2n (bit v 21) + b2n (bit v 1) + b2n (bit v 0)) % 2) % 2 ^ 32

/-- One cycle of the modulator on a value in 2^−48: its integer part, and the carries of the three stages with the differences that shape
them, which lie within −3 to +4. -/
def mashCycle (m : Mash) (x : Int) : Mash :=
  let one : Nat := 2 ^ 48
  let a1 := m.a1 + (x % (one : Int)).toNat
  let a2 := m.a2 + a1 % one
  let a3 := m.a3 + a2 % one
  let c2 : Int := (a2 / one : Nat)
  let c3 : Int := (a3 / one : Nat)
  { m with a1 := a1 % one, a2 := a2 % one, a3 := a3 % one, c2 := c2, c3 := c3, c3z := m.c3,
           divide := x / (one : Int) + (a1 / one : Nat) + (c2 - m.c2) + (c3 - 2 * m.c3 + m.c3z) }

/-- Is the modulator bypassed: N_FRAC 0, STEER_DPLL 0xFF, DITHER 0 and N_RAMP 0? -/
def mashBypassed (s : State) (j : Nat) : Bool :=
  s.apCfg j 0x08 == 0 && s.apCfg j 0x06 == 0xFF && s.apCfg j 0x0A == 0 && (s.apllAt j).nRamp == 0

/-- One cycle of the APLL reference at APLL j: the divider takes N_INT, or what the modulator makes of N_eff and the dither. -/
def mashStep (s : State) (j : Nat) : State :=
  s.setApll j fun a =>
    if mashBypassed s j then { a with mash := { a.mash with divide := (s.apCfg j 0x07 : Nat) } }
    else if s.apCfg j 0x0A = 0 then { a with mash := mashCycle a.mash a.nEff.round }
    else
      let v := lfsrStep a.mash.lfsr
      { a with mash := mashCycle { a.mash with lfsr := v } (a.nEff.round + (if bit v 0 then 1 else -1)) }

/-- 4 ns of the APLL reference: the modulators of the APLLs that run make its 10 ns cycles, while there is a reference (R210). -/
def mashTick (s : State) : State :=
  let part := s.ap.refPart + 4
  let s1 := { s with ap := { s.ap with refPart := part % 10 } }
  if part < 10 ∨ s.ap.relocking then s1
  else
    s1.many ((List.range 8).filter fun j => (s.apllAt j).state == .locking || (s.apllAt j).state == .locked) fun j s => mashStep s j

/-! The source clock on its timeline (R213). -/

/-- Where the source clock of APLL j stands on its timeline now, 2^−48 ns: the way of an update is covered within its µs. -/
def srcPos (s : State) (a : Apll) : Int :=
  a.pos48 - a.move48 + a.move48 * (min 1000 (s.now - a.movedAt) : Nat) / 1000

/-- The half-period of the source that covers a point of the timeline: every source edge lies at a whole multiple of P_src = 1/f_source,
and the rising edge of source cycle c = timeline / P_src begins half-period 2c. -/
def srcHalf (s : State) (j : Nat) (x : Int) : Int :=
  x * (apllN s j : Nat) / ((5 * 2 ^ 96 * max 1 (s.apCfg j 0x09) : Nat) : Int)

/-- STATUS of 3500h+j (R237). -/
def apllStatus (s : State) (j : Nat) : Nat :=
  let a := s.apllAt j
  a.state.code + at_ (!apllReturned s j) 3 + at_ (decide (a.step ≠ 0)) 4 + at_ a.limited 5
    + at_ (a.ramp == .running || a.ramp == .stopping) 6 + at_ a.aligned 7

/-- The record of APLL j that S keeps, .13 and .15 to .19; F_SOURCE stands from ENABLE on, and STATUS is live (R237). -/
def apllPublish (s : State) (j : Nat) : State :=
  let a := s.apllAt j
  s.many
    [(0x13, a.state.code), (0x15, cut 56 a.nEff.round.toNat), (0x16, ofI 64 a.step),
     (0x17, cut 32 a.lockLosses), (0x18, ofI 32 a.lastCount), (0x19, cut 32 a.changeovers)]
    fun e s => s.dput (key (0x3500 + j) e.1) e.2

/-- The ramp record, .04 to .08 (R238). -/
def rampPublish (s : State) (j : Nat) : State :=
  let a := s.apllAt j
  (s.many
    [(0x04, a.ramp.code), (0x05, a.seg + at_ a.reversed 7), (0x06, ofI 64 a.nRamp), (0x07, ofI 64 a.rampPhase),
     (0x08, cut 32 a.cycles)]
    fun e s => s.dput (key (0x3508 + j) e.1) e.2).setApll j fun a => { a with sincePub := 0, publish := false }

/-- HISTORY of 3500h+j, on S. -/
def apHist (s : State) (j bit_ : Nat) : State := s.dhist (0x3500 + j) (2 ^ bit_)

/-! Outputs. -/

/-- The APLL that drives output n, if one does. -/
def outApll (s : State) (n : Nat) : Option Nat := if s.chCfg n 0x0A < 8 then some (s.chCfg n 0x0A) else none

/-- Is channel n in an output role, OUTPUT or OUTPUT_MONITORED (log entry 65)? -/
def outRole (s : State) (n : Nat) : Bool := s.chCfg n 1 == 2 || s.chCfg n 1 == 3

/-- Does output n run on the bypass clock: by OUT_SOURCE, by change-over or by SAFE_STATE BYPASS (R219, R239; log entry 65)? -/
def outOnBypass (s : State) (n : Nat) : Bool :=
  outRole s n && (s.chCfg n 0x0A == 8 || (match outApll s n with | some j => !apllReturned s j | none => false)
    || ((s.outAt n).forced && s.chCfg n 0x10 == 3))

/-- Has the output a cycle to align (R233)? -/
def outAlignable (s : State) (n : Nat) : Bool := decide (1 < s.chCfg n 0x0B) || decide (0x10 ≤ s.chCfg n 0x0A)

/-- UNALIGNED as the C die reports it (R233). -/
def outUnaligned (s : State) (n : Nat) : Bool := outAlignable s n && ((s.outAt n).unaligned || outOnBypass s n)

/-- The output loses its alignment where its divider is above 1 (R220, R227, R228, R231). -/
def loseAlign (s : State) (n : Nat) : State :=
  if 1 < s.chCfg n 0x0B then s.setOut n fun o => { o with unaligned := true, aligning := false, waiting := false, reached := false } else s

/-- UNALIGNED, FORCED or ON_BYPASS of output n, as its die holds it (R239). -/
def outFlag (s : State) (g n : Nat) : Bool :=
  if g = 0 then outUnaligned s n else if g = 1 then (s.outAt n).forced else outOnBypass s n

/-- The words of 2631h once die Cc has reported: channels 32w to 32w + 31; another die's channels keep what the hub last heard (R24,
R239). -/
def outWord (s : State) (c g w : Nat) : Nat :=
  let old := s.rd (key 0x2631 (3 * g + w + 1))
  maskOf ((List.range 32).filter fun i =>
    let n := 32 * w + i
    if dieOfChan n = c then outFlag s g n else bit old i)

/-- What die Cc reports for 2631h: three bits for each of its channels. -/
def outRecord (s : State) (c : Nat) : Datum :=
  packed ((List.range 3).map fun g => (2, maskOf ((List.range 16).filter fun i => outFlag s g (16 * c + i))))

/-- The part of 2631h that die Cc keeps is refreshed (R24, R233). -/
def refreshOuts (s : State) (c : Nat) : State :=
  s.many ((List.range 9).map fun i => (i + 1, outWord s c (i / 3) (i % 3))) fun e s => s.put (key 0x2631 e.1) e.2

/-- The outputs of APLL j. -/
def outsOf (s : State) (j : Nat) : List Nat := (List.range 96).filter fun n => s.chCfg n 0x0A == j

/-- Change-over of APLL j to bypass (R219), when its outputs were on the source. -/
def toBypass (s : State) (j : Nat) (was : Bool) : State :=
  if was then
    apHist (s.setApll j fun a => { a with returned := false, changeovers := a.changeovers + 1 }) j 4
  else s.setApll j fun a => { a with returned := false }

/-- Entry into LOCKING (R215, R217); with or without VCO band selection. -/
def apllLocking (s : State) (j : Nat) (band : Bool) : State :=
  s.setApll j fun a => { a with state := .locking, counting := !band, passes := 0, fails := 0, aligned := false,
                                mash := { a.mash with lfsr := ditherSeed s j }, nSum := {}, nFor := 0, nMark := s.now }

/-- Entry into INPUT_LOST (R217, R241). -/
def apllInputLost (s : State) (j : Nat) : State :=
  let was := apllReturned s j
  let s1 := toBypass (s.setApll j fun a => { a with state := .inputLost, aligned := false, passes := 0, fails := 0 }) j was
  apllPublish ((apHist s1 j 2).raise 1 2 0x10 (0x10 + j)) j

/-- ENABLE takes effect (R217): OFF, or LOCKING with band selection, or INPUT_LOST while the multiplier relocks. -/
def apllEnable (s : State) (j v : Nat) : State :=
  let old := s.apCfg j 0x05
  let s1 := s.put (key (0x3500 + j) 0x05) v
  if v = 0 then
    let was := apllReturned s j
    apllPublish (toBypass (s1.setApll j fun a =>
      { a with state := .off, counting := false, aligned := false, step := 0, limited := false }) j was) j
  else if old = 1 then s1
  else
    let s2 := apllLocking (s1.dput (key (0x3500 + j) 0x14) (fSource s1 j)) j true
    if s2.ap.relocking then apllInputLost s2 j else apllPublish s2 j

/-- COMMAND RELOCK (R217): LOCKED and LOCKING only. -/
def apllRelock (s : State) (j : Nat) : State :=
  let a := s.apllAt j
  if a.state = .locked ∨ a.state = .locking then
    let was := apllReturned s j
    apllPublish (toBypass (apllLocking s j true) j was) j
  else s

/-- COMMAND CLEAR_COUNTERS (3500h+j.12). -/
def apllClear (s : State) (j : Nat) : State :=
  apllPublish (s.setApll j fun a => { a with lockLosses := 0, changeovers := 0 }) j

/-- COMMAND of 3500h+j. -/
def apllCommand (s : State) (j v : Nat) : State := if v = 1 then apllRelock s j else if v = 2 then apllClear s j else s

/-- BAND_SELECT_DONE (R217). -/
def bandDone (s : State) (j : Nat) : State :=
  if (s.apllAt j).state = .locking then s.setApll j fun a => { a with counting := true, passes := 0, nSum := {}, nFor := 0, nMark := s.now }
  else s

/-- LOCKING_TIMEOUT (R217): 10 ms without lock. -/
def lockingTimeout (s : State) (j : Nat) : State :=
  if (s.apllAt j).state = .locking then apllPublish (apllLocking s j true) j else s

/-- Entry into LOCKED (R213, R217): the modulator starts from the timeline of the steering DPLL, or from a timeline of its own that starts
at 0, so no step is outstanding. -/
def apllLocked (s : State) (j : Nat) : State :=
  let k := s.apCfg j 0x06
  let d := s.dpllAt k
  let b := if k < 16 then { s.apllAt j with pos48 := d.timeline48, move48 := d.inc48, movedAt := d.updAt }
    else { s.apllAt j with pos48 := 0, move48 := 0, movedAt := s.now }
  let p := srcPos s b
  apHist (s.setApll j fun _ =>
    { b with state := .locked, aligned := true, returned := false, fails := 0, step := 0, limited := false, stepRes := {},
             half := srcHalf s j p,
             mash := { b.mash with a1 := (p * (apllN s j : Nat) / (10 * 2 ^ 48) % 2 ^ 48).toNat, a2 := 0, a3 := 0, c2 := 0, c3 := 0, c3z := 0 } }) j 0

/-- N_eff in force is counted into the lock window up to now (R216). -/
def windowCount (s : State) (a : Apll) : Apll :=
  { a with nSum := a.nSum.add (a.nEff.mul (qi (s.now - a.nMark : Nat))), nFor := a.nFor + (s.now - a.nMark), nMark := s.now }

/-- The expected count of a lock window (R216): N_eff's mean over the window, each value for the time that it stood. -/
def expectedCount (s : State) (j : Nat) : Q :=
  let a := windowCount s (s.apllAt j)
  let mean := if a.nFor = 0 then a.nEff else a.nSum.div (qi a.nFor)
  (mean.mul (qi (s.apCfg j 0x0C : Nat))).div (qi (32 * 2 ^ 48 : Nat))

/-- LOCK_WINDOW_END (R216): a window with the count found. -/
def lockWindow (s : State) (j count : Nat) : State :=
  let a := s.apllAt j
  if (a.state = .locking ∧ a.counting) ∨ a.state = .locked then
    let err := (qi count).sub (expectedCount s j)
    let pass := err.abs.le (qi (s.apCfg j 0x0D : Nat))
    let s1 := s.setApll j fun a =>
      { a with lastCount := satI 32 (err.mul (qi 256)).round, nSum := {}, nFor := 0, nMark := s.now,
               passes := if pass then a.passes + 1 else 0, fails := if pass then 0 else a.fails + 1 }
    let b := s1.apllAt j
    if b.state = .locking ∧ s.apCfg j 0x0E ≤ b.passes then apllPublish (apllLocked s1 j) j
    else if b.state = .locked ∧ s.apCfg j 0x0F ≤ b.fails then
      let was := apllReturned s j
      let s2 := toBypass (apllLocking (s1.setApll j fun a => { a with lockLosses := a.lockLosses + 1 }) j false) j was
      apllPublish ((apHist s2 j 1).raise 1 2 0x0F (0x10 + j)) j
    else apllPublish s1 j
  else s

/-- RETURN_HOLD_EXPIRY (R219, R220). -/
def returnHold (s : State) (j : Nat) : State :=
  let a := s.apllAt j
  if a.state = .locked ∧ a.returned = false then
    let s1 := apHist (s.setApll j fun a => { a with returned := true, changeovers := a.changeovers + 1 }) j 5
    apllPublish (s1.many (outsOf s j) fun n s => loseAlign s n) j
  else s

/-- The base of the bypass clock and of the APLL reference changes (R195, R210, R218): carafes cleared, the multiplier
relocks, every enabled APLL enters INPUT_LOST. -/
def baseChange (s : State) (mxo : Bool) : State :=
  let s1 := carafeBaseChange s mxo
  let s2 := { s1 with ap := { s1.ap with relocking := true } }.raise 1 2 0x11 0x20
  s2.many (List.range 8) fun j s =>
    if (s.apllAt j).state = .locking ∨ (s.apllAt j).state = .locked then apllInputLost s j else s

/-- REF_RELOCK_COMPLETE (R210, R217). -/
def refRelocked (s : State) : State :=
  if s.ap.relocking then
    let s1 : State := { s with ap := { s.ap with relocking := false } }
    s1.many (List.range 8) fun j s =>
      if (s.apllAt j).state = .inputLost then apllPublish (apHist (apllLocking s j false) j 3) j else s
  else s

/-! The update of 1 µs: steering, slew and ramp (R212, R221 to R226). -/

/-- The running cycle's slope of segment i. -/
def rampSlope (s : State) (j i : Nat) (rev : Bool) : Int :=
  let v := s.rdI 64 (key (0x3508 + j) (0x09 + i))
  if rev then -v else v

/-- A CLEAR and a START that wait take effect at the update (R224, R225). -/
def rampRequests (a : Apll) : Apll :=
  let b := if a.clearReq then { a with clearReq := false, nRamp := 0, publish := true } else a
  if b.startReq then { b with startReq := false, ramp := .running, seg := 0, reversed := false, segTime := 0, publish := true } else b

/-- Does the ramp advance: RUNNING or STOPPING, in LOCKED, within the segment's duration? -/
def rampMoves (s : State) (j : Nat) (a : Apll) : Bool :=
  (a.ramp == .running || a.ramp == .stopping) && a.state == .locked
    && decide (a.segTime < s.rampCfg j (0x19 + a.seg))

/-- The ramp of APLL j over one update: N_RAMP, RAMP_PHASE with its residue; the result gives the mean N_RAMP of the µs and the phase
added, in 2^−16 ns (R223, R226). A ramp that is frozen, or stands at its end, goes on adding phase. -/
def rampStep (s : State) (j : Nat) (a : Apll) : Apll × Q × Int :=
  let slope := if rampMoves s j a then rampSlope s j a.seg a.reversed else 0
  let mean := qd (2 * a.nRamp + slope) 2
  let all := a.rampRes.add ((mean.mul (qi 65536000)).div (qi (apllN s j : Nat)))
  let ph := all.floor
  ({ a with nRamp := a.nRamp + slope, segTime := if rampMoves s j a then a.segTime + 1 else a.segTime,
            rampPhase := a.rampPhase + ph, rampRes := all.sub (qi ph) }, mean, ph)

/-- The slew term of one update (R221): N_STEP, and the phase it delivers in 2^−16 ns. -/
def slewStep (s : State) (j : Nat) (base : Q) (a : Apll) : Apll × Q :=
  if a.step = 0 ∨ a.state ≠ .locked then ({ a with limited := false }, qi 0)
  else
    let n := qi (apllN s j : Nat)
    let full := qd (a.step * (apllN s j : Nat)) 65536000
    let want0 := (n.mul (qi (s.apCfg j 0x11 : Nat))).div (qi 1000000)
    let want := full.clamp want0.neg want0
    let ok := want.clamp ((qi (98 * 2 ^ 48 : Nat)).sub base) ((qi (120 * 2 ^ 48 : Nat)).sub base)
    let moved := ((ok.mul (qi 65536000)).div n).add a.stepRes
    let unit := if want = full ∧ ok = want then a.step else (if moved.n < 0 then -(moved.neg.floor) else moved.floor)
    let left := a.step - unit
    ({ a with step := left, stepRes := if left = 0 then {} else moved.sub (qi unit), limited := ok != want }, ok)

/-- y_k: the frequency of the DPLL's output in the update, pours and blends included, steps and ramps not (R212). -/
def outputY48 (d : Dpll) : Int := d.inc48 - d.stepNow * 2 ^ 32 - 1000 * 2 ^ 48

/-- The ramp phase of an update enters RAMP_TOTAL and the timeline of the steering DPLL (R226). -/
def rampToDpll (s : State) (steer : Option Nat) (ph : Int) : State :=
  match steer with
  | some k => s.setDpll k fun d =>
      { d with rampTotal := d.rampTotal + ph, phi48 := d.phi48 + ph * 2 ^ 32, inc48 := d.inc48 + ph * 2 ^ 32, applied := d.applied + ph }
  | none => s

/-- The way of the source clock over one µs (R213, R221): the timeline's, with a step spread out by the slew. -/
def srcMove (s : State) (steer : Option Nat) (ph slew : Int) : Int :=
  match steer with
  | some k => (s.dpllAt k).inc48 - (s.dpllAt k).stepNow * 2 ^ 32 + slew * 2 ^ 32
  | none => 1000 * 2 ^ 48 + ph * 2 ^ 32

/-- APLL j in one update of its DPLL (R212); of one that is OFF only the ramp's value counts. -/
def apllStep (s : State) (j : Nat) (steer : Option Nat) : State :=
  let a0 := s.apllAt j
  let d := match steer with | some k => s.dpllAt k | none => {}
  let y := match steer with | some _ => outputY48 d | none => 0
  let step := if steer.isSome then a0.step + d.stepNow else 0
  let r := rampStep s j (rampRequests { windowCount s a0 with step := if a0.state = .off then 0 else step })
  let n := qi (apllN s j : Nat)
  let base := (n.mul (qd (1000 * 2 ^ 48 + y) (1000 * 2 ^ 48))).add r.2.1
  let w := slewStep s j base r.1
  let s1 := rampToDpll s steer r.2.2
  let move := srcMove s1 steer r.2.2 (r.1.step - w.1.step)
  let s2 := s1.setApll j fun _ =>
    { w.1 with nEff := if a0.state = .off then a0.nEff else base.add w.2, sincePub := w.1.sincePub + 1,
               pos48 := w.1.pos48 + move, move48 := move, movedAt := s.now }
  let s3 := s2.when (a0.state == .locked && (a0.step != 0 || step != 0) && w.1.step == 0) fun s => apHist s j 6
  let s4 := s3.when (w.1.limited && !a0.limited) fun s => apHist s j 7
  let s5 := s4.when (w.1.publish || decide (999 ≤ w.1.sincePub)) fun s => rampPublish s j
  if a0.state = .off then s5 else apllPublish s5 j

/-- The APLLs that an update of DPLL k moves: those it steers; with DPLL 0's also those that no DPLL steers (log
entry 27). -/
def apllsOf (s : State) (k : Nat) : List (Nat × Option Nat) :=
  (List.range 8).filterMap fun j =>
    if s.apCfg j 0x06 = k then some (j, some k)
    else if k = 0 ∧ 16 ≤ s.apCfg j 0x06 then some (j, none) else none

def apllUpdate (s : State) (k : Nat) : State := s.many (apllsOf s k) fun e s => apllStep s e.1 e.2

/-- A cycle of the profile has ended (R223, R225). -/
def rampCycleEnd (s : State) (j : Nat) : State :=
  let a := s.apllAt j
  let stop := a.ramp == .stopping || s.rampCfg j 0x01 == 0
  let s1 := s.setApll j fun a =>
    { a with cycles := a.cycles + 1, segTime := 0, reversed := if stop then a.reversed else false,
             seg := if stop then a.seg else 0, ramp := if stop then .ended else a.ramp, publish := true }
  rampPublish (s1.when stop fun s => apHist s j 8) j

/-- RAMP_SEGMENT_END (R223). -/
def rampSegmentEnd (s : State) (j : Nat) : State :=
  let a := s.apllAt j
  if (a.ramp = .running ∨ a.ramp = .stopping) ∧ a.state = .locked ∧ s.rampCfg j (0x19 + a.seg) ≤ a.segTime then
    if a.reversed then
      if a.seg = 0 then rampCycleEnd s j
      else rampPublish (s.setApll j fun a => { a with seg := a.seg - 1, segTime := 0 }) j
    else if a.seg + 1 < s.rampCfg j 0x02 then
      rampPublish (s.setApll j fun a => { a with seg := a.seg + 1, segTime := 0 }) j
    else if s.rampCfg j 0x01 = 2 then
      rampPublish (s.setApll j fun a => { a with reversed := true, segTime := 0 }) j
    else rampCycleEnd s j
  else s

/-- N_RAMP at the ends of the segments of one cycle from a start value (R224), with the profile that `s` holds. -/
def rampEnds (s : State) (j : Nat) : Nat → Nat → Int → List Int
  | 0, _, n => [n]
  | c + 1, i, n => n :: rampEnds s j c (i + 1) (n + rampSlope s j i false * (s.rampCfg j (0x19 + i) : Nat))

/-- Is START refused (R224)? 0 for no. The profile and the plan are those that stand once the pending writes `p` have taken effect
(R489). -/
def rampStartRefuse (s p : State) (j : Nat) : Nat :=
  let a := s.apllAt j
  let start := if a.clearReq then 0 else a.nRamp
  let ends := rampEnds p j (p.rampCfg j 0x02) 0 start
  let n : Int := (apllN p j : Nat)
  let steer := p.apCfg j 0x06
  if a.state ≠ .locked then 0x08000022
  else if a.ramp = .running ∨ a.ramp = .stopping ∨ a.startReq then 0x08000021
  else if steer < 16 ∧ (List.range 8).any (fun i => i != j && p.apCfg i 0x06 == steer && p.apCfg i 0x05 == 1) then 0x08000022
  else if p.rampCfg j 0x01 = 1 ∧ (ends.getLast?.getD 0) ≠ start then 0x06090030
  else if ends.any (fun p => decide (2 ^ 48 < absI p)) then 0x06090030
  else if ends.any (fun p => decide (n * (1000000 - 250) + p * 1000000 < 98 * 2 ^ 48 * 1000000 ∨ 120 * 2 ^ 48 * 1000000 < n * (1000000 + 250) + p * 1000000)) then 0x06090030
  else 0

/-- Is another ramp command refused (R225)? -/
def rampCommandRefuse (s p : State) (j v : Nat) : Nat :=
  if v = 1 then rampStartRefuse s p j
  else if v = 3 ∧ ((s.apllAt j).ramp = .running ∨ (s.apllAt j).ramp = .stopping) then 0x08000021
  else 0

/-- COMMAND of 3508h+j (R224, R225). -/
def rampCommand (s : State) (j v : Nat) : State :=
  let a := s.apllAt j
  if v = 1 then s.setApll j fun a => { a with startReq := true }
  else if v = 2 then
    if a.ramp = .running then
      (if s.rampCfg j 0x01 = 0 then
        rampPublish (apHist (s.setApll j fun a => { a with ramp := .ended }) j 8) j
       else rampPublish (s.setApll j fun a => { a with ramp := .stopping }) j)
    else s
  else if v = 3 then s.setApll j fun a => { a with clearReq := true }
  else s

/-- Is ENABLE 1 of APLL j refused by a ramp of another APLL of its DPLL (R225)? -/
def rampBlocks (s : State) (j steer : Nat) : Bool :=
  decide (steer < 16) && (List.range 8).any fun i =>
    i != j && s.apCfg i 0x06 == steer &&
      ((s.apllAt i).ramp == .running || (s.apllAt i).ramp == .stopping || (s.apllAt i).startReq || decide ((s.apllAt i).nRamp ≠ 0))

end Sys2Proof.Machine
end

