-- ==== Sys2Proof/Machine/Outputs.lean ====
section
/-! DEFINITION. The output paths (chapter 07 of spec/): the bypass clock, the source multiplexer, the divider, the delays, the glitch-free
enable, the safe states and ALIGN. -/

namespace Sys2Proof.Machine

/-! ALIGN (R234). -/

/-- May output n be aligned: a LOCKED APLL or a pulse generator, and not forced? -/
def alignEligible (s : State) (n : Nat) : Bool :=
  !(s.outAt n).forced &&
    (match outApll s n with
     | some j => (s.apllAt j).state == .locked
     | none => decide (0x10 ≤ s.chCfg n 0x0A))

/-- The first place that an aligned edge of output n may take, ALIGN_LEAD after now: a half-period of the APLL source, counted on its
timeline, or an instant of the pulse generator's counter. -/
def alignLead (s : State) (n : Nat) : Int :=
  let lead := s.rd (key 0x2630 7)
  match outApll s n with
  | some j => -(srcHalf s j (-(srcPos s (s.apllAt j) + (lead * 1000 * 2 ^ 48 : Nat))))
  | none => (tcNow s (s.chCfg n 0x0A - 0x10) + lead * 65536000 : Nat)

/-- An ALIGN reaches output n: its divider is to be reloaded; with a divider of 1 it has no effect. -/
def alignOne (s : State) (n : Nat) : State :=
  if 1 < s.chCfg n 0x0B ∧ alignEligible s n then
    s.setOut n fun o => { o with aligning := true, waiting := false, reached := false, lead := alignLead s n }
  else s

/-- ALIGN_GROUPS: every eligible output of the named groups. -/
def alignGroups (s : State) (g : Nat) : State :=
  s.many ((List.range 96).filter fun n => bit g (s.chCfg n 0x11)) fun n s => alignOne s n

/-! One half-period of the source at an output path (R227 to R230). -/

/-- The source that the multiplexer is to pass: OUT_SOURCE, or the bypass clock in place of an APLL that is not back (R219). -/
def outWants (s : State) (n : Nat) : Nat :=
  match outApll s n with
  | some j => if apllReturned s j then j else 8
  | none => s.chCfg n 0x0A

/-- A change of COARSE_DELAY comes into force (R229): a larger one puts off the edges on their way, so the next low phase is longer; a
smaller one is owed. -/
def coarseTake (cfg : Nat) (o : OutPath) : OutPath :=
  if o.coarse < cfg then
    let more := cfg - o.coarse
    { o with coarse := cfg, owed := o.owed - more, due := o.due.map (· + (more - o.owed)) }
  else { o with coarse := cfg, owed := o.owed + (o.coarse - cfg) }

/-- Half-period h passes in the delay and the driver (R229, R230): the edges on their way come nearer, and a low phase gives what is owed but
for one half-period; `edge` says that the divider rises. At a rising edge the output takes FINE_DELAY and OUT_ENABLE, so it starts and
stops with whole high phases. -/
def outDelay (h : Int) (coarse fine : Nat) (edge : Bool) (o : OutPath) : OutPath :=
  let o1 := coarseTake coarse { o with due := o.due.map (· - 1), hi := o.hi - 1 }
  let o2 := if edge then { o1 with due := o1.due ++ [o1.coarse + o1.owed] } else o1
  let give := if o2.hi = 0 then min o2.owed (o2.due.headD 0 - 1) else 0
  let o3 := { o2 with due := o2.due.map (· - give), owed := o2.owed - give }
  match o3.due with
  | 0 :: r => { o3 with due := r, hi := o3.div, on := o3.running, fine := fine, rise := h }
  | _ => o3

/-- Half-period h of the passed source at the divider of output n (R228, R234): it is high for OUT_DIVIDER half-periods and low for as
many; OUT_DIVIDER is taken at its rising edge. With an ALIGN it ends its high phase, then waits low for the first source cycle
c = h / 2 with c mod OUT_DIVIDER = 0 that ALIGN_LEAD and a half-period of low allow. -/
def outCount (s : State) (n : Nat) (rising : Bool) (h : Int) (o : OutPath) : OutPath :=
  let cfg := max 1 (s.chCfg n 0x0B)
  let line := outDelay h (s.chCfg n 0x0C) (s.chCfg n 0x0D)
  if o.waiting then
    if rising ∧ 1 ≤ o.rest ∧ o.lead ≤ h ∧ (h / 2) % (cfg : Int) = 0 then
      line true { o with aligning := false, waiting := false, reached := true, count := 0, div := cfg }
    else line false { o with rest := o.rest + 1 }
  else if o.aligning ∧ o.div ≤ o.count + 1 then line false { o with waiting := true, rest := o.count + 1 - o.div, count := o.div }
  else if 2 * o.div ≤ o.count + 1 then line true { o with count := 0, div := cfg }
  else line false { o with count := o.count + 1 }

/-- An edge of source `src` at the multiplexer of output n (R219, R227). The source passed counts until it is low once another is wanted;
the wanted one takes over at its rising edge, after the high half of one that has stopped is ended. So no half-period is cut short. -/
def outEdge (s : State) (n src : Nat) (rising : Bool) (h : Int) (o : OutPath) : OutPath :=
  if o.mux = src then
    if outWants s n = src ∨ (o.high ∧ rising = false) then outCount s n rising h { o with high := rising } else o
  else if rising ∧ outWants s n = src then
    let o1 := if o.high then outCount s n false h o else o
    outCount s n true h { o1 with mux := src, high := true }
  else o

/-- An edge of a source at every path. -/
def sourceEdge (s : State) (src : Nat) (rising : Bool) (h : Int) : State :=
  { s with ap := { s.ap with outs := s.ap.outs.zipIdx.map fun o => outEdge s o.2 src rising h o.1 } }

/-- The source of APLL j runs up to now: its half-periods pass one by one, while the APLL is LOCKED. -/
def sourceRun (s : State) (j : Nat) : State :=
  let a := s.apllAt j
  if a.state = .locked then
    let h := srcHalf s j (srcPos s a)
    (s.many (List.range (h - a.half).toNat) fun i s =>
      sourceEdge s j ((a.half + 1 + i) % 2 == 0) (a.half + 1 + i)).setApll j fun a => { a with half := max a.half h }
  else s

/-! The bypass clock (R218). -/

/-- The frequency of its base now, Hz: SOSC_HZ while the base is SOSC and SOSC runs, 48 MHz of the MXO. -/
def bypassHz (s : State) : Nat := if s.dp.mxo then 48000000 else if s.chan.base.sosc then s.chan.base.hzInUse else 0

/-- One half-period of the base: its rising edge takes the divider written for it, and after as many half-periods the bypass clock
turns. -/
def bypassHalf (s : State) : State :=
  let b := s.ap.bypass
  let up := !b.base
  let div := if up then max 1 (s.rd (key 0x2630 (if s.dp.mxo then 2 else 1))) else b.div
  let turn := decide (div ≤ b.count + 1)
  let high := b.high != turn
  let s1 := { s with ap := { s.ap with bypass := { b with base := up, div := div, count := if turn then 0 else b.count + 1, high := high } } }
  s1.when turn fun s =>
    let s2 := sourceEdge s 8 high 0
    s2.when high fun s =>
      { s with ap := { s.ap with outs := s.ap.outs.map fun o => { o with safeRun := o.safeRun || o.forced } } }

/-- 4 ns of the base. -/
def bypassTick (s : State) : State :=
  let acc := s.ap.bypass.acc + 8 * bypassHz s
  ({ s with ap := { s.ap with bypass := { s.ap.bypass with acc := acc % 1000000000 } } } : State).many (List.range (acc / 1000000000))
    fun _ s => bypassHalf s

/-- The sources run up to now. -/
def sourcesRun (s : State) : State := s.many (List.range 8) fun j s => sourceRun s j

/-- The high phase of an EDGE action's PULSE ends (R289). -/
def overlayEnd (now : Nat) (o : OutPath) : OutPath := if o.overlay = 2 ∧ o.pulseEnd ≤ now * 65536 then { o with overlay := 0 } else o

/-- 4 ns pass for the synthesis: modulators, the bypass clock, the sources and the overlays. -/
def synthTick (s : State) : State :=
  let s1 := sourcesRun (bypassTick (mashTick s))
  { s1 with ap := { s1.ap with outs := s1.ap.outs.map (overlayEnd s1.now) } }

/-! Pulse generators as sources (R232). -/

/-- 2^−16 ns in a number of FINE_DELAY taps of 1.25 ps. -/
def fineUnits (taps : Nat) : Nat := taps * 8192 / 100

/-- Pulse `index` of generator t, at instant `at_` of its counter, at the path of output n: every OUT_DIVIDER-th pulse passes unchanged in
width, delayed by COARSE_DELAY steps of 2 ns and by FINE_DELAY; after an ALIGN the first whose index is a multiple of OUT_DIVIDER. -/
def outPulse (s : State) (n t index : Nat) (at_ width : Nat) (o : OutPath) : OutPath :=
  let cfg := max 1 (s.chCfg n 0x0B)
  let pass := if o.aligning then decide (o.lead ≤ at_) && index % cfg == 0 else decide (o.div ≤ o.count + 1)
  let from_ := s.now * 65536 + at_ - tcNow s t + s.chCfg n 0x0C * 131072 + fineUnits (s.chCfg n 0x0D)
  let o1 := { o with mux := 0x10 + t, high := false }
  if pass then
    { o1 with count := 0, div := cfg, aligning := false, waiting := false, reached := o.reached || o.aligning, fine := s.chCfg n 0x0D,
              pulses := (o.pulses.filter fun p => decide (s.now * 65536 < p.2)) ++
                (if o.running then [(from_, from_ + width * 65536)] else []) }
  else { o1 with count := o.count + 1 }

/-- A pulse of generator t at the outputs that it drives. -/
def pulseOut (s : State) (t index at_ width : Nat) : State :=
  s.many (outsOf s (0x10 + t)) fun n s => s.setOut n fun o => outPulse s n t index at_ width o

/-! The ball (R229 to R231, R289). -/

/-- Where the last rising edge of an output lies on the timeline of its APLL source, 2^−48 ns: the source edge after the coarse delay, and
FINE_DELAY. -/
def riseAt (s : State) (n j : Nat) : Int :=
  let o := s.outAt n
  o.rise * ((5 * 2 ^ 96 * max 1 (s.apCfg j 0x09) : Nat) : Int) / (apllN s j : Nat) + (o.fine * 125 * 2 ^ 48 / 100000 : Nat)

/-- Is the path's own clock high at the driver? -/
def clockHigh (s : State) (o : OutPath) : Bool :=
  if 0x10 ≤ o.mux then o.pulses.any fun p => decide (p.1 ≤ s.now * 65536 ∧ s.now * 65536 < p.2) else o.on && decide (0 < o.hi)

/-- What the ball of channel n drives: nothing in reset and before step 6 of the boot (R451, R465); its SAFE_STATE while forced, BYPASS from the next rising edge of the bypass clock; the overlay of an
EDGE action; else the clock, low while the output is disabled. -/
def ballLevel (s : State) (n : Nat) : Level :=
  let o := s.outAt n
  let lev := fun (b : Bool) => if b then Level.high else .low
  if outRole s n = false ∨ s.boot.inReset ∨ s.boot.done.getD 5 false = false then .hiz
  else if o.forced then
    let v := s.chCfg n 0x10
    if v = 0 then .low else if v = 1 then .high else if v = 2 then .hiz else lev (o.safeRun && s.ap.bypass.high)
  else if o.overlay = 1 then lev (decide (o.pulseFrom ≤ s.now * 65536))
  else if o.overlay = 2 then lev (decide (o.pulseFrom ≤ s.now * 65536 ∧ s.now * 65536 < o.pulseEnd))
  else lev (clockHigh s o)

/-! Enabling, forcing and the aligned edge. -/

/-- ALIGNED_EDGE (R234): once the divider has come to its first aligned rising edge, UNALIGNED clears. -/
def alignedEdge (s : State) (n : Nat) : State :=
  let s1 := sourcesRun s
  if (s1.outAt n).reached ∧ outOnBypass s1 n = false then s1.setOut n fun o => { o with reached := false, unaligned := false } else s1

/-- OUT_ENABLE is acted upon (R230, R289): an overlay ends when the output starts. -/
def outEnable (s : State) (n v : Nat) : State :=
  (s.put (key (0x3000 + n) 0x0E) v).setOut n fun o =>
    { o with running := v == 1, overlay := if v = 1 then 0 else o.overlay }

/-- A fault reaction forces output n to its safe state, and the overlay ends (R231, R289). -/
def outForce (s : State) (n : Nat) : State := s.setOut n fun o => { o with forced := true, overlay := 0, safeRun := false }

/-- The forcing ends (R231): the output resumes at its divider's next rising edge, unaligned where the divider is above 1. -/
def outRelease (s : State) (n : Nat) : State :=
  if (s.outAt n).forced then loseAlign (s.setOut n fun o => { o with forced := false, on := false, pulses := [] }) n else s

end Sys2Proof.Machine
end

