-- ==== Sys2Proof/Machine/Counters.lean ====
section
/-! DEFINITION. The time counters: tick, steps, tamps, pours, the hardware servo, ties and pulse generators (chapter 08 of
spec/, R242 to R261), and the action table as far as a step of a counter reaches it (R286). -/

namespace Sys2Proof.Machine

/-! The action table's entries and occurrences (R279 to R286). -/

def State.schedAt (s : State) (e : Nat) : SchedEntry := s.sched.entries.getD e {}
def State.setSched (s : State) (e : Nat) (f : SchedEntry → SchedEntry) : State :=
  { s with sched := { s.sched with entries := upd s.sched.entries e f } }

/-- The 40-byte record of entry e, and its fields (R279). -/
def schedRec (s : State) (e : Nat) : Nat := s.rd (key (0x3620 + e / 16) (5 + e % 16))
def recTarget (r : Nat) : Nat := byteAt r 0
def recCounter (r : Nat) : Nat := byteAt r 1
def recDrop (r : Nat) : Bool := bit (byteAt r 2) 0
def recInstant (r : Nat) : Nat := (bytesAt r 4 6 * 1000000000 + bytesAt r 10 4) * 65536 + bytesAt r 14 2
def recPeriod (r : Nat) : Nat := bytesAt r 16 8
def recArg (r : Nat) : Nat := bytesAt r 24 4
def recCount (r : Nat) : Nat := bytesAt r 28 4
def recValue (r : Nat) : Nat := bytesAt r 32 8

/-- The instant of occurrence m (R283). -/
def occInstant (r m : Nat) : Nat := recInstant r + m * recPeriod r

/-- The latest occurrence at or before a counter value, not before m and not past COUNT (R286). -/
def latestOcc (r m : Nat) (now : Nat) : Nat :=
  if recPeriod r = 0 then m
  else
    let k := (now - recInstant r) / recPeriod r
    let last := if recCount r = 0 then k else min k (recCount r - 1)
    max m last

/-- A step of counter t, its own or of the timeline it is tied to, from `before` to its present value as the table sees it: the pending
occurrence of an entry is passed when it lies between, and of several only the latest stays (R286). One that was due before is not passed. -/
def schedPass (s : State) (t before e : Nat) : State :=
  let q := s.schedAt e
  let r := schedRec s e
  if q.state = 1 ∧ recCounter r = t then
    if q.due = false ∧ before < occInstant r q.occ ∧ occInstant r q.occ ≤ tcNow s t then
      let m := latestOcc r q.occ (tcNow s t)
      s.setSched e fun q => { q with flags := setBits q.flags 8, passed := true, skipped := q.skipped + (m - q.occ), occ := m }
    else if q.passed then
      let m := latestOcc r q.occ (tcNow s t)
      s.setSched e fun q => { q with flags := setBits q.flags 8, skipped := q.skipped + (m - q.occ), occ := m }
    else s.setSched e fun q => { q with flags := setBits q.flags 8 }
  else s

/-- The occurrences on the pulse lines that a step carries its counter past are late (R285), be their entries ARMED or not; one whose entry
has skipped to a later occurrence stands for that. -/
def flightPass (s : State) (t before : Nat) (f : Flight) : Flight :=
  if recCounter f.rec_ = t ∧ before < f.instant ∧ f.instant ≤ tcNow s t then
    let q := s.schedAt f.entry
    { f with late := true, passed := true, instant := if q.state = 1 ∧ q.sent then occInstant f.rec_ q.occ else f.instant }
  else f

/-- A step of counter t from `before`. -/
def schedOnStep (s : State) (t before : Nat) : State :=
  let s1 := s.many (List.range 64) fun e s => schedPass s t before e
  { s1 with sched := { s1.sched with flights := s1.sched.flights.map (flightPass s1 t before) } }

/-- The occurrences that the counters have reached at this tick become due, in the state before any step of the tick (R283, R284). -/
def schedDue (s : State) : State :=
  s.many (List.range 64) fun e s =>
    let q := s.schedAt e
    let r := schedRec s e
    if q.state = 1 ∧ q.due = false ∧ q.sent = false ∧ occInstant r q.occ ≤ tcNow s (recCounter r) then
      s.setSched e fun q => { q with due := true, seen := tcNow s (recArg r) }
    else s

/-! Steps. -/

/-- The counter moved by x48 (2^−48 ns). -/
def tcShift (c : Tc) (x48 : Int) : Tc := { c with val := (((c.val : Int) + x48) % (tcModulus : Nat)).toNat }

/-- The last pulse instant at or before a counter value, ns (R259). -/
def pulseFloor (period phase ns : Nat) : Nat := if period = 0 then 0 else ns - (ns + period - phase % period) % period

/-- After a step to `x` (2^−16 ns) the next pulse is the first instant after it (R259). -/
def pulseSkip (s : State) (t x : Nat) : State :=
  s.setTc t fun c => { c with pulseAt := pulseFloor (s.tcReg t 0x13) (s.tcReg t 0x14) (x / 65536) }

/-- A step of the counter by x48 in 2^−48 ns (R246): by exactly 0 it is none. -/
def tcStep (s : State) (t : Nat) (x48 : Int) : State :=
  if x48 = 0 then s
  else
    let s1 := s.setTc t fun c => { tcShift c x48 with stepGen := cut 16 (c.stepGen + 1), steps := cut 32 (c.steps + 1) }
    schedOnStep (((pulseSkip s1 t (tcNow s1 t)).hist (0x3600 + t) (2 ^ 0)).raise 0 3 0x13 (0x100 + t)) t (tcNow s t)

/-- TIME_UNSET clears; TIME_SET is set when it was set (R244). -/
def tcClearUnset (s : State) (t : Nat) : State :=
  (s.setTc t fun c => { c with unset := false }).when (s.tcAt t).unset fun s => s.hist (0x3600 + t) (2 ^ 5)

/-- A requested change moves the counter directly, and in HWS stands in OFFSET (R254). -/
def tcKeep (s : State) (t : Nat) (x : Int) : State :=
  if tcHws s t then s.setTc t fun c => { c with offset := c.offset + x } else s

/-- A step of x48 (2^−48 ns) enters TAMP_TOTAL (R246, R249, R255), which counts whole units of 2^−16 ns. -/
def tcTampStep48 (s : State) (t : Nat) (x48 : Int) : State :=
  tcStep (s.setTc t fun c => { c with tampTotal := c.tampTotal + roundDiv x48 (2 ^ 32), applied := c.applied + roundDiv x48 (2 ^ 32) }) t x48

/-- A step of x units of 2^−16 ns enters TAMP_TOTAL. -/
def tcTampStep (s : State) (t : Nat) (x : Int) : State :=
  tcStep (s.setTc t fun c => { c with tampTotal := c.tampTotal + x, applied := c.applied + x }) t (x * 2 ^ 32)

/-- SET_TIME at its tick (R246): the counter takes exactly the written value; on a TIED counter only the seconds change. A SET_TIME is no
tamp or pour and does not enter the standing OFFSET of an HWS counter (R254, log entry 29). -/
def tcSet (s : State) (t v : Nat) : State :=
  if tcTied s t then
    let w : Int := ((v / 65536000000000 : Nat) : Int) - ((tcNow s t / 65536000000000 : Nat) : Int)
    tcClearUnset (tcTampStep (s.setTc t fun c => { c with tieSeconds := c.tieSeconds + w }) t (w * 65536000000000)) t
  else tcClearUnset (tcTampStep48 s t ((v * 2 ^ 32 : Nat) - ((s.tcAt t).val : Int))) t

/-- A tamp at its tick (R255). -/
def tcTampNow (s : State) (t : Nat) (x : Int) : State :=
  let s1 := if tcTied s t then s.setTc t fun c => { c with tieSeconds := c.tieSeconds + x / 65536000000000 } else s
  tcTampStep (tcKeep s1 t x) t x

/-- The requests of one tick in order; tamps one after another are summed (R255). -/
def tcRequests (s : State) (t : Nat) : List TcReq → Int → State
  | [], x => tcTampNow s t x
  | .tamp y :: r, x => tcRequests s t r (x + y)
  | .set v :: r, x => tcRequests (tcSet (tcTampNow s t x) t v) t r 0

/-- Pour and blend of one tick (R256, R257). -/
def tcMoves (s : State) (t : Nat) : State :=
  let c := s.tcAt t
  if c.po = 0 ∧ c.blendLeft = 0 then s
  else
    let p := tickSlope (s.tcReg t 0x11) c.pourAcc
    let b := tickSlope c.blendRate c.blendAcc
    let dp := tickPour s t
    let db := tickBlend c
    s.setTc t fun c0 =>
      let c := tcShift c0 ((dp + db) * 2 ^ 32)
      { c with po := c.po - dp, pourAcc := if c.po - dp = 0 then 0 else p.2,
                                 blendLeft := c.blendLeft - db, blendAcc := if c.blendLeft - db = 0 then 0 else b.2,
                                 blendTotal := c.blendTotal + db, applied := c.applied + dp + db,
                                 offset := if tcHws s t then c.offset + dp else c.offset }

/-- A tick of a TIED counter (R249). While it moves by a timeline step, what the tick moves it beyond its rate is a step to the pulse
generator and to the action table (R259, R286). -/
def tieTick (s : State) (t : Nat) : State :=
  let c := s.tcAt t
  let r := tieAdvance c
  let rate := c.tieLast48 / 250
  (s.setTc t fun _ => tcShift r.1 r.2).when (decide (0 < c.tieStepping)) fun s =>
    schedOnStep (pulseSkip s t ((tcShift c (r.2 - rate)).val / 2 ^ 32)) t ((tcShift c rate).val / 2 ^ 32)

/-- Counter t advances by one tick of 4 ns (R242, R243, R249). -/
def tcTick (s : State) (t : Nat) : State :=
  if tcTied s t then tieTick s t else tcMoves (s.setTc t fun c => tcShift c (s.tcReg t 9 : Nat)) t

/-- The steps that wait for this tick (R246, R255). -/
def tcSteps (s : State) (t : Nat) : State :=
  match (s.tcAt t).reqs with
  | [] => s
  | l => tcRequests (s.setTc t fun c => { c with reqs := [] }) t l 0

/-- A tick of the base: time goes on by 4 ns, every counter advances, what falls due is marked, and the steps of the tick are applied
(R243, R284, log entry 1). -/
def baseTick (s : State) : State :=
  (schedDue (({ s with now := s.now + 4 }).many (List.range 4) fun t s => tcTick s t)).many (List.range 4) fun t s => tcSteps s t

/-! Writes and events. -/

/-- SET_TIME and TAMP wait for the next tick (R246, R255). -/
def tcRequest (s : State) (t : Nat) (q : TcReq) : State := s.setTc t fun c => { c with reqs := c.reqs ++ [q] }

/-- Is a value a whole number of seconds? -/
def wholeSecond (x : Int) : Bool := x % 65536000000000 == 0

/-- POUR_AMOUNT (R256). -/
def tcPour (s : State) (t : Nat) (x : Int) : State :=
  s.setTc t fun c => { c with requested := c.requested + x, po := c.po + x, pouring := c.pouring || x != 0 }

/-- POUR_ABORT, and a DISCIPLINE write of TIED (R256). -/
def tcPourAbort (s : State) (t : Nat) : State :=
  s.setTc t fun c => { c with withdrawn := c.withdrawn + c.po, po := 0, pourAcc := 0, pouring := false }

/-- TC_POUR_DONE (R256). -/
def tcPourDone (s : State) (t : Nat) : State :=
  let c := s.tcAt t
  if c.pouring ∧ c.po = 0 then (s.setTc t fun c => { c with pouring := false }).hist (0x3600 + t) (2 ^ 4) else s

/-- The rate of the last update of a TIED counter as an INCREMENT (R249). -/
def tieRate (c : Tc) : Nat := (roundDiv c.tieLast48 250).toNat

/-- Nothing of a tie is under way. -/
def untied (c : Tc) : Tc := { c with tieNext := [], tieSent := [], tieOwed := [], catch48 := 0, catchLeft := 0, tieStepping := 0 }

/-- DISCIPLINE leaves TIED: neither phase nor frequency steps (R249). -/
def leaveTied (s : State) (t : Nat) : State :=
  if tcTied s t then
    (s.put (key (0x3600 + t) 9) (tieRate (s.tcAt t))).setTc t untied
  else s

/-- DISCIPLINE SWI (R249, R252). -/
def disciplineSwi (s : State) (t : Nat) : State :=
  ((leaveTied s t).put (key (0x3600 + t) 7) 0).setTc t fun c =>
    { c with hws := .notHws, offset := 0, settle := 0, kpLimited := false, clamped := false }

/-- An INCREMENT as the servo's integrator: y = INCREMENT / 2^50 − 1, in 2^−160. -/
def integOf (inc : Nat) : Int := ((inc : Int) - 2 ^ 50) * 2 ^ 110

/-- DISCIPLINE HWS (R252). -/
def disciplineHws (s : State) (t : Nat) : State :=
  if tcHws s t then s
  else
    let s1 := (leaveTied s t).put (key (0x3600 + t) 7) 1
    s1.setTc t fun c => { c with hws := .noMaster, offset := 0, settle := 0, integ := integOf (s1.tcReg t 9), lastMeas := none }

/-- Where the timeline of a DPLL stands for a counter at this tick (R249): the last update's increment spread over the 250 ticks after
it; later than that the counter goes on at its rate, and owes the difference. The value in 2^−48 ns, the increment in play, the ticks of
it made, its rate, and what is owed. -/
def timelineNow (s : State) (d : Dpll) : Int × Int × Nat × Int × List Int :=
  let e := (s.now - d.updAt) / 4
  let rate := if d.inc48 = 0 then 1000 * 2 ^ 48 else d.inc48 - d.stepNow * 2 ^ 32
  if e < 250 ∧ d.inc48 ≠ 0 then (d.timeline48 - d.inc48 + d.inc48 * e / 250, d.inc48, e, rate, [])
  else (d.timeline48, rate, 0, rate, [rate])

/-- What is left of a counter's blend slope goes on in the DPLL that it is tied to (R257, log entry 92). -/
def blendHandOver (s : State) (t : Nat) : State :=
  let c := s.tcAt t
  if c.blendLeft = 0 then s
  else (s.setDpll (s.tcReg t 8) fun d => { d with blendLeft := d.blendLeft + c.blendLeft, blendRate := c.blendRate }).setTc t fun c =>
    { c with blendLeft := 0, blendAcc := 0 }

/-- DISCIPLINE TIED: the tie step (R249), and the pour ends (R256). -/
def disciplineTied (s : State) (t : Nat) : State :=
  if tcTied s t then s
  else
    let w := timelineNow s (s.dpllAt (s.tcReg t 8))
    let s1 := (tcPourAbort (blendHandOver s t) t).put (key (0x3600 + t) 7) 2
    let diff48 : Int := ((s.tcAt t).val : Int) - w.1
    let secs := (qd diff48 (1000000000 * 2 ^ 48)).round
    let s2 := s1.setTc t fun c =>
      { (untied c) with
                      hws := .notHws, offset := 0, settle := 0, kpLimited := false, clamped := false, tieSeconds := secs,
                      tieInc48 := w.2.1, tieTick := w.2.2.1, tieLast48 := w.2.2.2.1, tieOwed := w.2.2.2.2 }
    tcTampStep48 s2 t (secs * (1000000000 * 2 ^ 48) - diff48)

/-- The DPLL sends its timeline increment to the counters tied to it (R249). -/
def tieSend (s : State) (k : Nat) : State :=
  s.many (List.range 4) fun t s =>
    if tiedTo s t k then
      s.setTc t fun c => { c with tieSent := c.tieSent ++ [((s.dpllAt k).inc48, (s.dpllAt k).stepNow)] }
    else s

/-- An increment reaches the counter: it waits for its microsecond, or is late; then the difference from what the counter went on by is
taken up within 16 µs of its arrival, with any other difference still being taken up (R249). -/
def tieTaken (x : Int × Int) (r : List (Int × Int)) (c : Tc) : Tc :=
  match c.tieOwed with
  | [] => { c with tieSent := r, tieNext := c.tieNext ++ [x] }
  | p :: l =>
    let left := if c.catchLeft = 0 then 4000 else c.catchLeft
    { c with tieSent := r, tieOwed := l, catch48 := c.catch48 + (x.1 - p), catchLeft := left, tieLast48 := x.1 - x.2 * 2 ^ 32,
             tieStepping := if x.2 = 0 then c.tieStepping else left }

/-- TIE_INCREMENT_ARRIVES (R249): TC_TIE_LATE is sent once every late increment has come. -/
def tieArrive (s : State) (t : Nat) : State :=
  match (s.tcAt t).tieSent with
  | [] => s
  | x :: r =>
    if tcTied s t then
      carried s 6 false (transferWords (key (0x3600 + t) 9) ⟨8, ofI 64 x.1⟩) fun s =>
        let late := (s.tcAt t).tieOwed.length == 1
        (s.setTc t (tieTaken x r)).when late fun s => (s.hist (0x3600 + t) (2 ^ 6)).raise 0 3 0x15 (0x100 + t)
    else s

/-- A whole-second step of a TIED counter from a session offset (R250). -/
def tcSecondStep (s : State) (t : Nat) (w : Int) : State :=
  if w = 0 then s
  else
    let s1 := s.setTc t fun c => { c with tieSeconds := c.tieSeconds + w }
    tcClearUnset (tcTampStep s1 t (w * 65536000000000)) t

/-! The hardware servo (R251 to R253). -/

/-- Entry into LAST_RATE (R252, R278). -/
def tcLastRate (s : State) (t : Nat) : State :=
  if (s.tcAt t).hws = .tracking then
    ((s.setTc t fun c => { c with hws := .lastRate, settle := 0, lastRates := cut 32 (c.lastRates + 1) }).hist
      (0x3600 + t) (2 ^ 1)).raise 0 3 0x14 (0x100 + t)
  else s.setTc t fun c => { c with settle := 0 }

/-- One servo update (R251): the new integrator (2^−160), INCREMENT, KP_LIMITED and CLAMPED. -/
def servo (bwMhz damping : Nat) (dt : Q) (integ e : Int) : Int × Nat × Bool × Bool :=
  let es := qd e 65536000000000
  let w := twoPi.mul (qd bwMhz 1000)
  let k0 := ((qi 2).mul (qd damping 10)).mul w
  let kl := (qi 1).div dt
  let i1 := ((qd integ (2 ^ 160)).add (((w.mul w).mul es).mul dt)).clamp ppm250.neg ppm250
  let y0 := i1.add ((k0.min kl).mul es)
  let y := y0.clamp ppm250.neg ppm250
  ((i1.mul (qi (2 ^ 160))).round, ((2 ^ 50 : Int) + (y.mul (qi (2 ^ 50))).round).toNat, kl.lt k0, ppm250.le y0.abs)

/-- The interval of a context's messages, s: its nominal offset rate inverted (R251). -/
def ctxInterval (s : State) (c : Nat) : Q := (qi 1).div (ctxRate s c)

/-- TRACKING meets a valid offset (R251): a step, or the servo. -/
def tcTrack (s : State) (t : Nat) (o : TcOffset) : State :=
  let c := s.tcAt t
  let e := o.offset + c.offset
  if c.unset ∨ s.tcReg t 0x0D * 65536 < absI e then
    tcClearUnset (tcTampStep s t e) t
  else
    let dt := match c.lastMeas with
      | some p => if p < o.meas then qd (o.meas - p) 65536000000000 else ctxInterval s o.ctx
      | none => ctxInterval s o.ctx
    let r := servo (s.tcReg t 0x0B) (s.tcReg t 0x0C) dt c.integ e
    ((s.setTc t fun c => { c with integ := r.1, kpLimited := r.2.2.1, clamped := r.2.2.2, lastMeas := some o.meas }).put
      (key (0x3600 + t) 9) r.2.1).when (r.2.2.2 && !c.clamped) fun s => s.hist (0x3600 + t) (2 ^ 7)

/-- A master other than the one counted (R252). -/
def tcMasterChange (s : State) (t : Nat) : State := (tcLastRate s t).hist (0x3600 + t) (2 ^ 3)

/-- HWS_OFFSET (R251, R252): the oldest offset on its way reaches counter t. -/
def hwsOffset (s : State) (t : Nat) : State :=
  match (s.tcAt t).offsets with
  | [] => s
  | o :: r =>
    let s0 := s.setTc t fun c => { c with offsets := r }
    if tcHws s t = false then s0
    else if o.valid = false then s0.setTc t fun c => { c with settle := 0 }
    else
      let s1 := s0.setTc t fun c => { c with lastError := o.offset + c.offset }
      let s2 := if (s1.tcAt t).hws = .tracking ∧ (s1.tcAt t).master ≠ o.master then tcMasterChange s1 t else s1
      if (s2.tcAt t).hws = .tracking then tcTrack s2 t o
      else
        let s3 := s2.setTc t fun c => { c with settle := if c.master = o.master then c.settle + 1 else 1, master := o.master }
        if s.tcReg t 0x0E ≤ (s3.tcAt t).settle then
          tcTrack ((s3.setTc t fun c =>
            { c with hws := .tracking, integ := integOf (s3.tcReg t 9), lastMeas := none, settle := 0 }).hist
              (0x3600 + t) (2 ^ 2)) t o
        else s3

/-! Pulse generators (R259). -/

/-- A write of PULSE_PERIOD or PULSE_PHASE: the next pulse is the first instant after now under the new values, and the outputs served
lose their alignment. -/
def pulsePut (s : State) (t sub v : Nat) : State :=
  let s1 := s.put (key (0x3600 + t) sub) v
  if v = s.tcReg t sub then s1
  else (s1.setTc t fun c => { c with pulseAt := tcNow s t / 65536 }).many (outsOf s1 (0x10 + t)) fun n s => loseAlign s n

/-- PULSE_INSTANT: the counter has reached a pulse instant that it has not met; the settings written are in force from it on. The pulse
goes to the outputs with its index and its PULSE_WIDTH (R232, R259). -/
def pulseInstant (s : State) (t : Nat) : State :=
  let period := s.tcReg t 0x13
  let phase := s.tcReg t 0x14
  let width := s.tcReg t 0x15
  let at_ := pulseFloor period phase (tcNow s t / 65536)
  if period = 0 ∨ tcNow s t / 65536 < phase ∨ at_ ≤ (s.tcAt t).pulseAt then s
  else
    let index := cut 32 ((at_ - phase) / period)
    let s1 := s.setTc t fun c => { c with pulsePeriod := period, pulsePhase := phase, pulseWidth := width, pulseAt := at_ }
    (pulseOut s1 t index (at_ * 65536) width).send (.pulse t (at_ * 65536) index)

/-! Entries of 3600h+t that are computed. -/

def HState.code : HState → Nat
  | .noMaster => 0 | .tracking => 1 | .lastRate => 2 | .notHws => 3

/-- POUR_DELIVERED and LEDGER (R258). -/
def tcDelivered (c : Tc) : Int := c.requested - c.withdrawn - c.po
def tcLedger (c : Tc) : Int := tcDelivered c + c.tampTotal + c.blendTotal

/-- STATUS of 3600h+t. -/
def tcStatus (s : State) (t : Nat) : Nat :=
  let c := s.tcAt t
  s.tcReg t 7 % 4 + c.hws.code * 2 ^ 2 + at_ c.unset 4 + at_ (decide (c.po ≠ 0)) 5 + at_ (decide ((if tcTied s t then (s.dpllAt (s.tcReg t 8)).blendLeft else c.blendLeft) ≠ 0)) 6
    + at_ (decide (c.tieOwed ≠ [])) 7 + at_ c.kpLimited 8 + at_ c.clamped 9 + at_ (s.tcReg t 0x22 == 1) 10

/-- SNAPSHOT (R245): 16 bytes. -/
def tcSnapshot (s : State) (t : Nat) : Nat :=
  let c := s.tcAt t
  time80 (tcNow s t) + tcNow s t % 65536 * 2 ^ 80 + c.stepGen % 65536 * 2 ^ 96
    + (at_ c.unset 0 + at_ (c.hws == .tracking) 1 + at_ (tcTied s t) 2) * 2 ^ 112

/-- CLOCK_CLASS under CLASS_MODE AUTO (R262). -/
def autoClass (s : State) (t : Nat) : Nat :=
  let k := s.tcReg t 8
  match (s.dpllAt k).state with
  | .locked | .pouring => 6
  | .holdover => (match (s.carafeAt k).visit with | some v => if v.alarm then 140 else 7 | none => 7)
  | .freerun | .acquiring | .software => 248

/-- CLOCK_CLASS (R262): under AUTO the device writes it at every change of DPLL TIE_DPLL, so it reads as that DPLL is. -/
def clockClass (s : State) (t : Nat) : Nat := if s.tcReg t 0x27 = 1 then autoClass s t else s.tcReg t 0x26

/-- CLASS_MODE (R262): what the device wrote last stays in CLOCK_CLASS when AUTO ends. -/
def classMode (s : State) (t v : Nat) : State :=
  (s.put (key (0x3600 + t) 0x26) (clockClass s t)).put (key (0x3600 + t) 0x27) v

/-- The entries of counter t that are read from its state rather than from the dictionary. -/
def tcEntry (s : State) (t sub : Nat) : Option Nat :=
  let c := s.tcAt t
  let i64 := fun x => some (ofI 64 x)
  if sub = 0x01 then some (tcStatus s t)
  else if sub = 0x05 then some (tcSnapshot s t)
  else if sub = 0x09 ∧ tcTied s t then some (tieRate c)
  else if sub = 0x16 then some c.hws.code
  else if sub = 0x17 then i64 c.offset
  else if sub = 0x18 then i64 c.tieSeconds
  else if sub = 0x19 then i64 (tcLedger c)
  else if sub = 0x1A then i64 c.requested
  else if sub = 0x1B then i64 (tcDelivered c)
  else if sub = 0x1C then i64 c.withdrawn
  else if sub = 0x1D then i64 c.po
  else if sub = 0x1E then i64 c.tampTotal
  else if sub = 0x1F then i64 c.blendTotal
  else if sub = 0x20 then i64 c.applied
  else if sub = 0x21 then i64 c.lastError
  else if sub = 0x26 then some (clockClass s t)
  else if sub = 0x2B then some (setBits (s.tcReg t 0x2B) 8)
  else if sub = 0x2F then some c.steps
  else if sub = 0x30 then some c.lastRates
  else none

end Sys2Proof.Machine
end

