-- ==== Sys2Proof/Machine/Gates.lean ====
section
/-! DEFINITION. The measurement gates and the measurement time base (chapter 03 of spec/, R111 to R126). -/

namespace Sys2Proof.Machine

/-- Gate g. -/
def State.gateAt (s : State) (g : Nat) : Gate := s.chan.gates.getD g {}
def State.setGate (s : State) (g : Nat) (f : Gate → Gate) : State :=
  { s with chan := { s.chan with gates := upd s.chan.gates g f } }

/-- Configuration entry `sub` of gate g (3300h+g). -/
def State.gateCfg (s : State) (g sub : Nat) : Nat := s.rd (key (0x3300 + g) sub)

/-- KIND FREQUENCY. -/
def gateIsFreq (s : State) (g : Nat) : Bool := s.gateCfg g 0x05 == 1

/-- The stop sources that name a channel (3300h+g.09 to .18). -/
def gateStops (s : State) (g : Nat) : List Nat :=
  ((List.range 16).map fun i => s.gateCfg g (0x09 + i)).filter fun v => decide (v < 96)

/-- Every channel that the gate names. -/
def gateChans (s : State) (g : Nat) : List Nat :=
  gateStops s g ++ (if s.gateCfg g 0x08 < 96 then [s.gateCfg g 0x08] else [])

/-- The counter of a gate whose TIMEBASE is SOURCE_TC: SOURCE_TC of the channels it names, TC0 where it names none. -/
def gateTc (s : State) (g : Nat) : Nat :=
  match gateChans s g with
  | n :: _ => s.chCfg n 0x08
  | [] => 0

/-- A stamp's time in the gate's time base (R121). -/
def gateTime (s : State) (g : Nat) (x : Stamp) : Int := if s.gateCfg g 0x07 = 1 then (x.time : Nat) else x.raw

/-- The time island's view of the gate's time base. -/
def gateNow (s : State) (g : Nat) : Int := if s.gateCfg g 0x07 = 1 then (tcNow s (gateTc s g) : Nat) else rawNow s

/-- STATE codes of 3300h+g.01. -/
def GateState.code : GateState → Nat
  | .idle => 0 | .armed => 1 | .open_ => 2 | .closing => 3 | .done => 4

/-- Is a run in progress: ARMED, OPEN or CLOSING? -/
def gateBusy (g : Gate) : Bool := g.state == .armed || g.state == .open_ || g.state == .closing

/-- An interval record (R118) as 16 bytes: the interval given is after the correction of R121. -/
def intervalRecord (x : GateStamp) (interval : Int) : Nat :=
  ofI 64 interval + x.seq % 65536 * 2 ^ 64 + x.chan % 256 * 2 ^ 80 + x.flags % 256 * 2 ^ 88
    + (x.ns32 % 2 ^ 31 + b2n x.falling * 2 ^ 31) * 2 ^ 96

/-- The present correction y_tb of the time base in use, in units of 2^−48 (R124, R126). -/
def tbEffective (s : State) : Int := s.rdI 48 (key (if s.chan.base.inUse then 0x2603 else 0x2602) 4)

/-- An interval after R121: Δ_raw / (1 + y_tb), to the nearest unit (log entry 15). -/
def correctInterval (s : State) (g : Nat) (d : Int) : Int :=
  if s.gateCfg g 0x07 = 1 then d
  else ((qi d).div (qd (2 ^ 48 + tbEffective s) (2 ^ 48))).round

/-- The records of an interval gate, one after another from offset 0. -/
def gateRecords (s : State) (g : Nat) (start : Int) : List GateStamp → Nat
  | [] => 0
  | x :: r => intervalRecord x (correctInterval s g (x.t - start)) + gateRecords s g start r * 2 ^ 128

/-- The entries of the gate's record that its run changes. DESIGN CHOICE: RESULTS of a frequency run is empty, whatever KIND says
afterwards: the text gives such a run no records (log entry 91). -/
def gateFields (s : State) (g : Nat) : List (Nat × Nat) :=
  let q := s.gateAt g
  [(0x01, q.state.code + b2n q.valid * 8), (0x1F, q.cause), (0x20, q.startStamp), (0x21, cut 32 q.stops.length),
   (0x22, sat 32 q.early), (0x23, if q.freq then 0 else gateRecords s g q.start q.stops),
   (0x24, ofI 48 q.ffo), (0x25, q.residual)]

/-- Publish the gate's record. -/
def gatePublish (s : State) (g : Nat) : State :=
  s.many (gateFields s g) fun e s => s.put (key (0x3300 + g) e.1) e.2

/-- The sums of R122 over the stamps taken: n, Σk, Σk², Στ, Σkτ, Στ². -/
structure FitSums where
  n : Int := 0
  sk : Int := 0
  skk : Int := 0
  st : Int := 0
  skt : Int := 0
  stt : Int := 0
deriving DecidableEq, Repr

def fitSums (t0 : Int) (l : List GateStamp) : FitSums :=
  l.foldl (fun a x =>
    { n := a.n + 1, sk := a.sk + x.k, skk := a.skk + x.k * x.k, st := a.st + (x.t - t0),
      skt := a.skt + x.k * (x.t - t0), stt := a.stt + (x.t - t0) * (x.t - t0) }) {}

/-- FFO of a frequency gate (R121, R122): exact sums, binary64 for the rest, saturated at ±(2^47 − 1). -/
def gateFfo (s : State) (g : Nat) (f : FitSums) : Int :=
  let b := f64 ((f64 (qi (f.n * f.skt - f.sk * f.st))).div (f64 (qi (f.n * f.skk - f.sk * f.sk))))
  let tnom := f64 ((qi 65536000000000).div (qi (s.gateCfg g 0x1E : Nat)))
  if b.n = 0 then 2 ^ 47 - 1
  else
    let yraw := f64 ((f64 (tnom.div b)).sub (qi 1))
    let ytb := qd (tbEffective s) (2 ^ 48)
    let y := if s.gateCfg g 0x07 = 1 then yraw
             else f64 ((f64 ((f64 ((qi 1).add yraw)).mul (f64 ((qi 1).add ytb)))).sub (qi 1))
    satSym 48 (y.mul (qi (2 ^ 48))).round

/-- RESIDUAL_RMS of a frequency gate (R122). DESIGN CHOICE: 0 where the rounding of binary64 leaves the variance below 0 (log entry 91). -/
def gateResidual (f : FitSums) : Nat :=
  let num := f64 (qi (f.n * f.skt - f.sk * f.st))
  let b := f64 (num.div (f64 (qi (f.n * f.skk - f.sk * f.sk))))
  let a := f64 ((f64 ((f64 (qi f.st)).sub (f64 (b.mul (f64 (qi f.sk)))))).div (f64 (qi f.n)))
  let v := f64 ((f64 ((f64 ((f64 (qi f.stt)).sub (f64 (a.mul (f64 (qi f.st)))))).sub (f64 (b.mul (f64 (qi f.skt)))))).div
    (f64 (qi (f.n - 2))))
  sat 32 (sqrt64 v).round.toNat

/-- A run ends (R111, R112, R118, R122): DONE with its cause, the results, HISTORY DONE and ENDED_EARLY. -/
def gateFinish (s : State) (g cause : Nat) : State :=
  let q := s.gateAt g
  let f := fitSums (match q.stops with | x :: _ => x.t | [] => 0) q.stops
  let fit := gateIsFreq s g && decide (3 ≤ q.stops.length)
  let s1 := s.setGate g fun q =>
    { q with state := .done, cause := cause, valid := !gateIsFreq s g || fit, early_ := [],
             ffo := if fit then gateFfo s g f else 0, residual := if fit then gateResidual f else 0 }
  (gatePublish s1 g).hist (0x3300 + g) (1 + at_ (decide (cause = 3 ∨ 4 ≤ cause)) 1)

/-- A gate closes: the deadline is set and the watermarks decide the rest (R117). -/
def gateClose (q : Gate) (cause : Nat) (deadline : Int) : Gate :=
  { q with state := .closing, cause := cause, deadline := deadline }

/-- Put a stop in its place by time; of equal times the one that came first stays first. -/
def insertStop : List GateStamp → GateStamp → List GateStamp
  | [], x => [x]
  | y :: r, x => if x.t < y.t then x :: y :: r else y :: insertStop r x

/-- The time of the last stop. -/
def lastTime (l : List GateStamp) : Int := (l.getLast?.map (·.t)).getD 0

/-- The record of a stamp for a gate. -/
def toGateStamp (s : State) (g : Nat) (x : Stamp) (k : Int) : GateStamp :=
  { t := gateTime s g x, seq := x.seq, chan := x.chan, flags := x.flags, falling := x.falling,
    ns32 := cut 32 (x.time / 65536), k := k }

/-- An interval gate meets a stamp of a stop source (R116): early, accepted, or outside its window. -/
def gateStop (s : State) (g : Nat) (x : Stamp) (q : Gate) : Gate :=
  let d := gateTime s g x - q.start
  let limit := if s.gateCfg g 0x1B = 0 then 256 else s.gateCfg g 0x1B
  if d < 0 then q
  else if d < (s.gateCfg g 0x19 * 65536 : Nat) then { q with early := sat 32 (q.early + 1) }
  else if (s.gateCfg g 0x1A * 65536 : Nat) < d then q
  else
    let l := (insertStop q.stops (toGateStamp s g x 0)).take limit
    if l.length = limit then gateClose { q with stops := l } 2 (lastTime l) else { q with stops := l }

/-- Decimal value of GATE_DECIMATION: 0 means 65 536 (3300h+g.1D). -/
def gateDecim (s : State) (g : Nat) : Nat := if s.gateCfg g 0x1D = 0 then 65536 else s.gateCfg g 0x1D

/-- The end of a frequency gate's interval (R119). -/
def freqEnd (s : State) (g : Nat) (q : Gate) : Int := q.start + (s.gateCfg g 0x1C * 1000000 * 65536 : Nat)

/-- Why a stamp breaks the count of a frequency gate, 0 when it does not (R120): SKIP and RESTART do so on the first stamp too; GAP_LONG
counts from the stamp taken before. -/
def countBreak (q : Gate) (x : Stamp) : Nat :=
  if bit x.flags 5 then 4 else if bit x.flags 7 then 5
  else match q.stops.getLast? with
    | none => 0
    | some y => if 32767 < (x.seq + 65536 - y.seq) % 65536 then 6 else 0

/-- A frequency gate takes a stamp (R119, R120): its cycle index counts from the first one taken. -/
def freqTake (s : State) (g : Nat) (x : Stamp) (q : Gate) : Gate :=
  let ext : Int := match q.stops.getLast? with
    | none => 0
    | some y => q.ext + ((x.seq + 65536 - y.seq) % 65536 : Nat)
  let k := ext * (decimation s x.chan * prescRatio s x.chan : Nat)
  let q1 := { q with stops := q.stops ++ [toGateStamp s g x k], ext := ext }
  if 2 ^ 20 ≤ q1.stops.length then gateClose q1 2 (gateTime s g x) else q1

/-- A gate that is OPEN or CLOSING meets a stamp of a channel it names. The result tells the cause that ends the run
at once, 0 for none. -/
def gateMeet (s : State) (g : Nat) (x : Stamp) (q : Gate) : Gate × Nat :=
  if gateIsFreq s g then
    if gateStops s g = [x.chan] ∧ q.start ≤ gateTime s g x ∧ gateTime s g x ≤ freqEnd s g q
        ∧ (q.state = .closing → gateTime s g x ≤ q.deadline ∧ q.cause ≠ 2) then
      if countBreak q x ≠ 0 then (q, countBreak q x)
      else if q.decim = 0 then ({ freqTake s g x q with decim := (q.decim + 1) % gateDecim s g }, 0)
      else ({ q with decim := (q.decim + 1) % gateDecim s g }, 0)
    else (q, 0)
  else if x.chan ∈ gateStops s g then (gateStop s g x q, 0)
  else (q, 0)

/-- The START_STAMP of a start that is no channel's stamp: channel 126 ARM_INSTANT or 127 SCHEDULED. DESIGN CHOICE: its sequence, flags and
edge bit are 0, and its counter field is that of the gate (log entry 91). -/
def instantStamp (s : State) (g chan : Nat) (t : Int) : Nat :=
  stampWords { chan := chan, tc := gateTc s g, time := t.toNat }

/-- Stamps one after another until one ends the run. -/
def meetAll (s : State) (g : Nat) : List Stamp → Gate → Gate × Nat
  | [], q => (q, 0)
  | x :: r, q => if (gateMeet s g x q).2 ≠ 0 then gateMeet s g x q else meetAll s g r (gateMeet s g x q).1

/-- The outcome of meeting stamps is stored; a cause that ends the run at once does so. -/
def gateStore (s : State) (g : Nat) (r : Gate × Nat) : State :=
  if r.2 ≠ 0 then gateFinish (s.setGate g fun _ => r.1) g r.2 else gatePublish (s.setGate g fun _ => r.1) g

/-- The run starts at an instant (R115): the stamps that reached H before are judged by their times (R114). -/
def gateStart (s : State) (g : Nat) (t : Int) (word : Nat) : State :=
  let q := { s.gateAt g with state := .open_, start := t, startStamp := word, early_ := [] }
  gateStore s g (meetAll s g (s.gateAt g).early_ q)

/-- A delivered stamp is offered to gate g (R105, R111, R115). -/
def gateOffer (s : State) (g : Nat) (x : Stamp) : State :=
  let q := s.gateAt g
  if gateBusy q = false ∨ x.chan ∉ gateChans s g ∨ x.chan ∈ q.barred then s
  else if q.state = .armed then
    if s.gateCfg g 0x08 = x.chan ∧ q.armedAt ≤ gateTime s g x then
      let s1 := gateStart s g (gateTime s g x)
        (stampWords { x with time := if s.gateCfg g 0x07 = 1 then x.time else x.raw.toNat })
      if gateIsFreq s g then gateStore s1 g (gateMeet s1 g x (s1.gateAt g)) else s1
    else if x.chan ∈ gateStops s g then s.setGate g fun q => { q with early_ := q.early_ ++ [x] }
    else s
  else gateStore s g (gateMeet s g x q)

/-- A delivered stamp is offered to every gate (R105). -/
def gatesOffer (s : State) (x : Stamp) : State := s.many (List.range 24) fun g s => gateOffer s g x

/-- COMMAND ARM takes effect (R111, R115). -/
def gateArm (s : State) (g : Nat) : State :=
  let t := gateNow s g
  let s1 := s.setGate g fun _ => { state := .armed, armedAt := t, freq := gateIsFreq s g }
  if s.gateCfg g 0x08 = 0x7E then gateStart s1 g t (instantStamp s g 126 t) else gatePublish s1 g

/-- Channel n has left INPUT: the gates that name it stay as they are and take no further stamps of it (R95). -/
def gatesBar (s : State) (n : Nat) : State :=
  s.many (List.range 24) fun g s =>
    if gateBusy (s.gateAt g) ∧ n ∈ gateChans s g then s.setGate g fun q => { q with barred := n :: q.barred } else s

/-- COMMAND ABORT takes effect (R111). -/
def gateAbort (s : State) (g : Nat) : State := if gateBusy (s.gateAt g) then gateFinish s g 3 else s

/-- Is ARM refused, and with which code (R113)? 0 for no. -/
def gateArmRefuse (s : State) (g : Nat) : Nat :=
  if gateBusy (s.gateAt g) then 0x08000021
  else if gateIsFreq s g then
    if 96 ≤ s.gateCfg g 0x09 ∨ (List.range 15).any (fun i => s.gateCfg g (0x0A + i) != 0xFF)
        ∨ s.chCfg (s.gateCfg g 0x09) 0x06 = 2 then 0x06090030 else 0
  else if gateStops s g = [] ∨ s.gateCfg g 0x1A < s.gateCfg g 0x19 then 0x06090030
  else if s.gateCfg g 0x07 = 1 ∧ (gateChans s g).any (fun n => s.chCfg n 0x08 != gateTc s g) then 0x06090030
  else 0

/-- The deadline passes without the count (R116, R119). -/
def gateDeadline (s : State) (g : Nat) : State :=
  let q := s.gateAt g
  if q.state = .open_ then
    let d := if gateIsFreq s g then freqEnd s g q else q.start + (s.gateCfg g 0x1A * 65536 : Nat)
    gatePublish (s.setGate g fun q => gateClose q 1 d) g
  else s

/-- A gate-start action of the scheduled-action table (R115). -/
def gateScheduled (s : State) (g : Nat) : State :=
  if (s.gateAt g).state = .armed then
    (if s.gateCfg g 0x08 = 0x7F then gateStart s g (gateNow s g) (instantStamp s g 127 (gateNow s g)) else s)
  else s.hist (0x3300 + g) (2 ^ 2)

/-- The dies that hold a source of the gate (R117). -/
def gateDies (s : State) (g : Nat) : List Nat := (gateChans s g).map dieOfChan

/-- Does the watermark of die c lie at or past the gate's deadline? -/
def wmPast (s : State) (g c : Nat) : Bool :=
  let w := if s.gateCfg g 0x07 = 1 then (s.chan.wmTc.getD c []).getD (gateTc s g) 0 else s.chan.wmRaw.getD c 0
  decide ((s.gateAt g).deadline ≤ w)

/-- A gate in CLOSING enters DONE once every source die's watermark is at or past its deadline (R117). -/
def gateSettle (s : State) (g : Nat) : State :=
  if (s.gateAt g).state = .closing ∧ (gateDies s g).all (wmPast s g) then gateFinish s g (s.gateAt g).cause else s

/-- The stamps that die c has captured and not yet sent. -/
def unsent (s : State) (c : Nat) : List Stamp :=
  (List.range 16).flatMap fun i => (s.chanAt (16 * c + i)).fifo.filterMap fun x => (match x with | .stamp y => some y | .marker => none : Option Stamp)

/-- A time that lies before every one of these. -/
def before (t : Int) (l : List Int) : Int := l.foldl (fun a x => min a (x - 1)) t

/-- What a watermark says (R117): the time `raw` in the measurement time base, and `lag` units of 2^−16 ns before the present time of
each counter, but before every stamp that the die has still to send. -/
def wmTaken (s : State) (c : Nat) (raw : Int) (lag : Nat) : State :=
  let l : List Stamp := unsent s c
  let s1 := { s with chan := { s.chan with
    wmRaw := s.chan.wmRaw.set c (before raw (l.map fun x : Stamp => x.raw)),
    wmTc := s.chan.wmTc.set c ((List.range 4).map fun t =>
      before ((tcNow s t : Int) - lag) ((l.filter fun x : Stamp => x.tc == t).map fun x : Stamp => (x.time : Int))) } }
  s1.many (List.range 24) fun g s => gateSettle s g

/-- A die's watermark arrives, one word over its link (R117, R493). -/
def watermark (s : State) (c : Nat) (raw : Int) (lag : Nat) : State :=
  if c < 6 then carried s c false (oneWord 5 c) fun s => wmTaken s c raw lag else s

/-- A source die's link enters DOWN (R117). -/
def gatesLinkDown (s : State) (c : Nat) : State :=
  s.many (List.range 24) fun g s =>
    if ((s.gateAt g).state = .open_ ∨ (s.gateAt g).state = .closing) ∧ c ∈ gateDies s g then gateFinish s g 7 else s

/-- The source of the measurement time base in use changes (R123): gates that measure in it end. DESIGN CHOICE: the model of the source in
use at the instant they enter DONE, the new one, corrects them (R121; log entry 91). -/
def gatesTbChange (s : State) : State :=
  s.many (List.range 24) fun g s =>
    if ((s.gateAt g).state = .open_ ∨ (s.gateAt g).state = .closing) ∧ s.gateCfg g 0x07 = 0 then gateFinish s g 8 else s

/-! The measurement time base. -/

def State.setBase (s : State) (f : TimeBase → TimeBase) : State :=
  { s with chan := { s.chan with base := f s.chan.base } }

/-- STATUS of 2600h. -/
def tbStatus (s : State) : Nat :=
  at_ s.chan.base.fallback 3 + at_ (s.tcAt 0).unset 2 + at_ s.chan.base.sosc 1 + at_ s.chan.base.inUse 0

/-- The model of one oscillator at the present TC0 seconds (R126): the ageing term is 0 while TC0 is unset, and is rounded to the nearest
unit (log entry 17). -/
def tbModel (s : State) (index : Nat) : Int :=
  s.rdI 48 (key index 1)
    + (if (s.tcAt 0).unset then 0
       else (qd (s.rdI 32 (key index 2) * (((tcNow s 0 / 65536000000000 : Nat) : Int) - (s.rd (key index 3) : Nat))) 86400).round)

/-- TIMEBASE_MODEL_EVAL: EFFECTIVE of both models (R124, R126). -/
def tbEval (s : State) : State :=
  (s.putI 48 (key 0x2602 4) (satI 48 (tbModel s 0x2602))).putI 48 (key 0x2603 4) (satI 48 (tbModel s 0x2603))

/-- DATE_NOW: the present TC0 seconds to ADJUST_SECONDS (2602h.05, 2603h.05). -/
def tbDateNow (s : State) (index : Nat) : State :=
  s.put (key index 3) (tcNow s 0 / 65536000000000 % 2 ^ 48)

end Sys2Proof.Machine
end

