-- ==== Sys2Proof/Machine/Cupping.lean ====
section
/-! DEFINITION. Cupping: phase samples, the monitors, the cup score and the reference states (chapter 04 of spec/). -/

namespace Sys2Proof.Machine

/-- Entry `sub` of channel n's cupping (3100h+n). -/
def State.cupReg (s : State) (n sub : Nat) : Nat := s.rd (key (0x3100 + n) sub)

/-- Is the channel under cupping (R127)? -/
def underCupping (s : State) (n : Nat) : Bool := s.cupReg n 0x05 == 1 && s.chCfg n 0x01 == 1

/-- The states of R140 by their codes. -/
abbrev cupUnused : Nat := 0
abbrev cupDisqualified : Nat := 1
abbrev cupQualifying : Nat := 2
abbrev cupQualified : Nat := 3
abbrev cupDegraded : Nat := 4

/-- One second and one millisecond in 2^−16 ns. -/
abbrev second16 : Nat := 65536000000000
abbrev milli16 : Nat := 65536000000

/-- Is the channel a PPS: τ0 is 1 s, otherwise 1 ms (R131)? -/
def cupPps (s : State) (n : Nat) : Bool := s.cupReg n 0x06 == 0

/-- A statistics restart (R132): t_0 is set afresh, every frequency, drift and wander result is empty. -/
def statsRestart (s : State) (n : Nat) : State :=
  (s.setCup n fun c =>
    { st := c.st, cause := c.cause, score := c.score, losCount := c.losCount, missing := c.missing, cmds := c.cmds, fell := c.fell,
      since := c.since, clearRun := c.clearRun }).hist (0x3100 + n) (2 ^ 8)

/-- The HISTORY bit of the entry into a state. -/
def cupEnterBit (st : Nat) : Nat :=
  if st = 0 then 2 ^ 6 else if st = 1 then 2 ^ 5 else if st = 2 then 2 ^ 2 else if st = 3 then 2 ^ 3 else 2 ^ 4

/-- Entry into a state (R140, R144): STATE, DISQ_CAUSE when the row of R140 sets one, HISTORY, and the fault messages
of DEGRADED and DISQUALIFIED. -/
def cupEnter (s : State) (n st : Nat) (cause : Option Nat) : State :=
  let s1 := (s.setCup n fun c =>
    { c with st := st, cause := cause.getD c.cause, since := s.now, qualRun := 0, clearRun := 0 }).hist (0x3100 + n) (cupEnterBit st)
  if st = 4 then s1.raise 0 1 0x04 n else if st = 1 then s1.raise 0 1 0x05 n else s1

/-- QUALIFYING with statistics and decimator restarted (R140). -/
def cupRequalify (s : State) (n : Nat) (cause : Option Nat) : State :=
  cupEnter (decimRestart (statsRestart s n) n) n cupQualifying cause

/-- P_F, P_D and P_W (R137). -/
def penaltyF (s : State) (n : Nat) : Nat := if (s.cupAt n).freqFlag then s.cupReg n 0x0E else 0
def penaltyD (s : State) (n : Nat) : Nat :=
  min 255 (s.cupReg n 0x11 * absI (s.cupAt n).drift / s.cupReg n 0x10)
/-- The penalty of one statistic against its limit, MTIE before TDEV: 0 where there is no limit or no value. -/
def penaltyW1 (s : State) (n i : Nat) : Nat :=
  let v := ((s.cupAt n).mtie ++ (s.cupAt n).tdev).getD i 0xFFFFFFFF
  let lim := s.cupReg n (0x13 + i)
  if lim = 0xFFFFFFFF ∨ v = 0xFFFFFFFF then 0 else s.cupReg n 0x12 * v / lim
def penaltyW (s : State) (n : Nat) : Nat := min 255 (maxOf ((List.range 10).map fun i => penaltyW1 s n i))

/-- Is the score formed (R138)? -/
def scoreFormed (s : State) (n : Nat) : Bool := (s.cupAt n).freqFormed && (s.cupAt n).driftFormed

/-- Does E12 hear of the channel: is its C–H link UP? Elsewhere its state, score and statistics hold (R145). -/
def cupHears (s : State) (n : Nat) : Bool := s.linkUp (dieOfChan n)

/-- The cup score (R137, R138, R145, R146). -/
def cupScore (s : State) (n : Nat) : Nat :=
  let c := s.cupAt n
  if c.st = 0 ∨ cupHears s n ∧ ((s.chanAt n).los ∨ c.outOfRange) then 0
  else if scoreFormed s n = false then (if c.hold then c.score else 0)
  else if cupHears s n = false then c.score
  else 255 - penaltyF s n - penaltyD s n - penaltyW s n

/-- E12 forms the score. -/
def cupJudge (s : State) (n : Nat) : State :=
  s.setCup n fun c => { c with score := cupScore s n, hold := c.hold && !scoreFormed s n }

/-- The record .22 to .34 of channel n: subindex and value (R147). -/
def cupRecord (s : State) (n : Nat) : List (Nat × Nat) :=
  let c := s.cupAt n
  [(0x22, c.st), (0x23, c.cause), (0x24, c.score), (0x25, ofI 32 c.freq), (0x26, ofI 32 c.drift)]
    ++ (List.range 5).map (fun i => (0x27 + i, c.mtie.getD i 0xFFFFFFFF)) ++ (List.range 5).map (fun i => (0x2C + i, c.tdev.getD i 0xFFFFFFFF))
    ++ [(0x31, cut 32 c.losCount), (0x32, sat 32 ((s.now - c.since) / 1000000000)),
        (0x33, penaltyF s n + penaltyD s n * 2 ^ 8 + penaltyW s n * 2 ^ 16), (0x34, cut 32 c.missing)]

/-- The record is refreshed as a whole. -/
def cupPublish (s : State) (n : Nat) : State := s.many (cupRecord s n) fun e s => s.put (key (0x3100 + n) e.1) e.2

/-- Does the condition of the qualification timer hold (R140)? -/
def qualCond (s : State) (n : Nat) : Bool :=
  let c := s.cupAt n
  scoreFormed s n && cupHears s n &&
  ((c.st == cupQualifying && decide (s.cupReg n 0x1D ≤ c.score)) || (c.st == cupDegraded && decide (s.cupReg n 0x1E ≤ c.score)))

/-- A command of 3100h+n.08 that an evaluation meets. DESIGN CHOICE: DISQUALIFY in DISQUALIFIED and REQUALIFY in QUALIFYING are entries like
any other (log entry 93). -/
def cupObey (s : State) (n v : Nat) : State :=
  if v = 1 then cupRequalify s n (some 0)
  else if v = 2 then cupEnter s n cupDisqualified (some 4)
  else statsRestart s n

/-- The transitions by score, which a formed score alone fires (R138). -/
def cupByScore (s : State) (n : Nat) : State :=
  let c := s.cupAt n
  if scoreFormed s n = false then s
  else if 2 ≤ c.st ∧ c.score < s.cupReg n 0x20 then cupEnter s n cupDisqualified (some 3)
  else if c.st = cupQualified ∧ c.score < s.cupReg n 0x1F then cupEnter s n cupDegraded none
  else if c.st = cupDisqualified ∧ c.cause = 3 ∧ s.cupReg n 0x1D ≤ c.score then cupEnter s n cupQualifying none
  else s

/-- The transition that an evaluation fires, at most one, in the order of R141: the UNUSED conditions, LOS, the link's entry into DOWN,
COMMAND, the score. The timed rows have events of their own. DESIGN CHOICE: a LOS that stands when the channel leaves cupping stands until
the next edge, or until the channel comes under cupping again (R133; log entry 93). -/
def cupTransition (s : State) (n : Nat) : State :=
  let c := s.cupAt n
  if underCupping s n = false then (if c.st = 0 then s else cupEnter (s.setCup n fun c => { c with cmds := [], fell := false }) n cupUnused (some 0))
  else if c.st = 0 then cupRequalify (s.setChan n fun c => { c with los := false }) n (some 0)
  else if cupHears s n ∧ 2 ≤ c.st ∧ (s.chanAt n).los then cupEnter s n cupDisqualified (some 1)
  else if c.fell ∧ 2 ≤ c.st then cupEnter (s.setCup n fun c => { c with fell := false }) n cupDisqualified (some 2)
  else match c.cmds with
    | v :: r => cupObey (s.setCup n fun c => { c with cmds := r, fell := false }) n v
    | [] =>
      if cupHears s n = false then s
      else if c.st = cupDisqualified ∧ c.cause = 2 then cupRequalify s n none
      else cupByScore s n

/-- An evaluation (R137): the score, at most one transition, and the record as a whole. One is made every 10 ms, and at once on LOS and
whenever a monitor publishes; DESIGN CHOICE: also at once on the other triggers of R141 (log entry 93). None is made while E12 restarts
(R401). -/
def cupEvaluate (s : State) (n : Nat) : State :=
  if engineUp s 12 ∧ (underCupping s n ∨ (s.cupAt n).st ≠ 0) then
    let s1 := cupJudge (cupTransition (cupJudge s n) n) n
    cupPublish (s1.when (!qualCond s1 n && cupHears s1 n) fun s => s.setCup n fun c => { c with qualRun := 0 }) n
  else s

/-- The channel comes under cupping or leaves it, after a write of ENABLE or ROLE (R127, R140). -/
def cupFollow (s : State) (n : Nat) : State :=
  if underCupping s n = ((s.cupAt n).st != 0) then s else cupEvaluate s n

/-- The evaluation of every 10 ms: the timers count in these (R141), but hold while E12 does not hear of the channel (R145). -/
def cupTick (s : State) (n : Nat) : State :=
  let s1 := cupEvaluate s n
  if engineUp s 12 ∧ underCupping s n ∧ cupHears s n then
    s1.setCup n fun c =>
      { c with qualRun := if qualCond s1 n then c.qualRun + 1 else 0,
               clearRun := if (s1.chanAt n).los then 0 else c.clearRun + 1 }
  else s1

/-- The qualification timer has run QUALIFY_TIME (R140). -/
def cupQualifyExpiry (s : State) (n : Nat) : State :=
  if engineUp s 12 ∧ qualCond s n ∧ 100 * s.cupReg n 0x21 ≤ (s.cupAt n).qualRun then cupPublish (cupEnter s n cupQualified (some 0)) n else s

/-- No LOS for LOS_CLEAR_TIME (R140). -/
def cupClearExpiry (s : State) (n : Nat) : State :=
  if engineUp s 12 ∧ cupHears s n ∧ (s.cupAt n).st = cupDisqualified ∧ (s.cupAt n).cause = 1 ∧ (s.chanAt n).los = false
      ∧ 100 * s.cupReg n 0x0A ≤ (s.cupAt n).clearRun then cupPublish (cupJudge (cupRequalify s n none) n) n else s

/-- COMMAND (3100h+n.08): no effect in UNUSED. -/
def cupCommand (s : State) (n v : Nat) : State :=
  if (s.cupAt n).st = 0 ∨ v = 0 ∨ 3 < v then s else cupEvaluate (s.setCup n fun c => { c with cmds := c.cmds ++ [v] }) n

/-- LOS is declared in the slice (R133, R144): the timer of LOS_CLEAR_TIME restarts (R141). -/
def losDeclared (s : State) (n : Nat) : State :=
  if underCupping s n ∧ (s.chanAt n).los = false then
    let s1 := (s.setChan n fun c => { c with los := true }).setCup n fun c => { c with losCount := c.losCount + 1, clearRun := 0 }
    cupEvaluate ((s1.hist (0x3100 + n) (2 ^ 0)).raise 0 1 0x03 n) n
  else s

/-- LOS ends at the next edge that reaches the decimator input (R133). -/
def losCleared (s : State) (n : Nat) : State :=
  if (s.chanAt n).los then
    (s.setChan n fun c => { c with los := false }).hist (0x3100 + n) (2 ^ 1)
  else s

/-- A sample interval passes without a delivered stamp (R132, R145). -/
def sampleMissing (s : State) (n : Nat) : State :=
  if underCupping s n then (s.setCup n fun c => { c with missing := c.missing + 1 }).hist (0x3100 + n) (2 ^ 9) else s

/-- The reduction hardware takes a delivered stamp (R131, R132): the first stamp of each sample interval is a sample. -/
def cupTake (s : State) (x : Stamp) : State :=
  let n := x.chan
  let c := s.cupAt n
  let ms := x.raw / (milli16 : Int)
  match c.t0 with
  | none =>
    s.setCup n fun c => { c with t0 := some x.raw, lastSeq := x.seq, ext := 0, lastMs := ms, firstMs := ms,
                                 samples := [{}] }
  | some t0 =>
    let ext := c.ext + ((x.seq + 65536 - c.lastSeq) % 65536 : Nat)
    let k : Int := ext * (decimation s n * prescRatio s n : Nat)
    if cupPps s n ∨ c.lastMs < ms then
      let y : Q := qd (2 ^ 48) (2 ^ 48 + tbEffective s).toNat
      let t := (qi (x.raw - t0)).mul y
      let ph := t.sub (qd (k * second16) (s.cupReg n 0x07))
      let m := if cupPps s n then k else ms - c.firstMs
      s.setCup n fun c => { c with lastSeq := x.seq, ext := ext, lastMs := ms,
                                   samples := c.samples ++ [⟨m, t.round, ph.round⟩] }
    else s.setCup n fun c => { c with lastSeq := x.seq, ext := ext }

/-- Intervals of τ0 in one frequency window (R134). -/
def freqN (s : State) (n : Nat) : Int := (s.cupReg n 0x0B * (if cupPps s n then 1 else 1000) : Nat)

/-- A frequency window ends (R134): y_f over its first and last samples, the flag with hysteresis, then an evaluation. -/
def freqWindowEnd (s : State) (n : Nat) : State :=
  if underCupping s n then
    let c := s.cupAt n
    let lo := c.freqBase + c.freqWin * freqN s n
    let w := c.samples.filter fun p => decide (lo ≤ p.m ∧ p.m ≤ lo + freqN s n)
    let s1 := s.setCup n fun c => { c with freqWin := c.freqWin + 1 }
    match w, w.getLast? with
    | a :: _, some b =>
      if a.t < b.t ∧ cupHears s n then
        let y := (qd ((b.x - a.x) * 10 ^ 12) (b.t - a.t).toNat)
        let flag := if (qi (s.cupReg n 0x0C : Nat)).lt y.abs then true
                    else if y.abs.lt (qi (s.cupReg n 0x0D : Nat)) then false else c.freqFlag
        let s2 := s1.setCup n fun c => { c with freqFormed := true, freqFlag := flag,
                                                outOfRange := (qi 250000000).lt y.abs, freq := satI 32 y.round }
        let s3 := s2.when (flag && !c.freqFlag) fun s => s.hist (0x3100 + n) (2 ^ 7)
        cupEvaluate s3 n
      else s1
    | _, _ => s1
  else s

/-- Least squares slope over samples, in units of 10^−12, when at least three span at least 1 s (R135). -/
def driftSlope (l : List CupSample) : Option Int :=
  match l, l.getLast? with
  | a :: _, some b =>
    if 3 ≤ l.length ∧ (second16 : Int) ≤ b.t - a.t then
      let n : Int := l.length
      let st := sumI (l.map fun p => p.t - a.t)
      let sx := sumI (l.map (·.x))
      let stt := sumI (l.map fun p => (p.t - a.t) * (p.t - a.t))
      let stx := sumI (l.map fun p => (p.t - a.t) * p.x)
      let den := n * stt - st * st
      if den ≤ 0 then none else some ((qd ((n * stx - st * sx) * 10 ^ 12) den.toNat).round)
    else none
  | _, _ => none

/-- A drift bin ends (R135). -/
def driftBinEnd (s : State) (n : Nat) : State :=
  if underCupping s n then
    let c := s.cupAt n
    let gate : Int := (s.cupReg n 0x0F * second16 : Nat)
    let hi := c.driftBase + (c.driftBin + 1) * (gate / 16)
    let l := c.samples.filter fun p => decide (c.driftBase ≤ p.t ∧ hi - gate ≤ p.t ∧ p.t ≤ hi)
    let s1 := s.setCup n fun c => { c with driftBin := c.driftBin + 1 }
    match driftSlope l with
    | some b => if cupHears s n then cupEvaluate (s1.setCup n fun c => { c with driftFormed := true, drift := satI 32 b }) n else s1
    | none => s1
  else s

/-- τ of index i in 2^−16 ns: 0.1, 1, 10, 100, 1000 s (R136). -/
def tau (i : Nat) : Nat := 6553600000000 * 10 ^ i

/-- A statistic in ps, rounded to nearest, with 0xFFFF_FFFE for values at or past it (R136). -/
def wanderPs (v : Q) : Nat := min 0xFFFFFFFE ((v.mul (qd 1000 65536)).round.toNat)

/-- Peak to peak of the samples with times in [e − τ, e]. -/
def peakToPeak (l : List CupSample) (e tau : Int) : Option Int :=
  match (l.filter fun p => decide (e - tau ≤ p.t ∧ p.t ≤ e)).map (·.x) with
  | [] => none
  | x :: r => some (r.foldl max x - r.foldl min x)

/-- MTIE(τ) at the step that ends at number `j` (R136): the largest peak to peak of the windows whose end lies in
(t − 10τ, t]. -/
def mtieValue (l : List CupSample) (i j : Nat) : Option Int :=
  let step : Int := tau i / 10
  let ends := (List.range 100).filterMap fun a => if a ≤ j ∧ 10 ≤ j - a then some ((j - a : Nat) * step) else none
  (ends.filterMap fun e => peakToPeak l e (tau i)).foldl (fun acc v => some (match acc with | some w => max w v | none => v)) none

/-- A multiple of τ/10 passes (R136). DESIGN CHOICE: where no window of the span holds a sample, MTIE keeps its value (log entry 93). -/
def mtieStepEnd (s : State) (n i : Nat) : State :=
  if underCupping s n ∧ i < 5 then
    let c := s.cupAt n
    let j := c.mtieStep.getD i 0 + 1
    let s1 := s.setCup n fun c => { c with mtieStep := c.mtieStep.set i j }
    if (i = 0 ∧ cupPps s n) ∨ cupHears s n = false then s1
    else match mtieValue c.samples i j with
      | some v => cupEvaluate (s1.setCup n fun c => { c with mtie := c.mtie.set i (wanderPs (qi v)) }) n
      | none => s1
  else s

/-- The mean of block j of length τ, when it holds samples. -/
def blockMean (l : List CupSample) (i j : Nat) : Option Q :=
  let w := l.filter fun p => decide (((j * tau i : Nat) : Int) ≤ p.t ∧ p.t < (((j + 1) * tau i : Nat) : Int))
  if w = [] then none else some (qd (sumI (w.map (·.x))) w.length)

/-- The second differences of the run of blocks that ends at block j, newest first, at most 32 (R136). DESIGN CHOICE: they do not reach back
past a block without samples; TDEV keeps its value until the run has four (log entry 93). -/
def secondDiffs (l : List CupSample) (i : Nat) : Nat → Nat → List Q
  | 0, _ => []
  | fuel + 1, j =>
    if j < 2 then []
    else match blockMean l i j, blockMean l i (j - 1), blockMean l i (j - 2) with
      | some a, some b, some c => ((a.sub (b.mul (qi 2))).add c) :: secondDiffs l i fuel (j - 1)
      | _, _, _ => []

/-- A TDEV block ends (R136). -/
def tdevBlockEnd (s : State) (n i : Nat) : State :=
  if underCupping s n ∧ i < 5 then
    let c := s.cupAt n
    let j := c.tdevBlock.getD i 0
    let s1 := s.setCup n fun c => { c with tdevBlock := c.tdevBlock.set i (j + 1) }
    let d := secondDiffs c.samples i 32 j
    if (i = 0 ∧ cupPps s n) ∨ d.length < 4 ∨ cupHears s n = false then s1
    else
      let ms := (d.foldl (fun a v => a.add (v.mul v)) (qi 0)).div (qi (6 * d.length : Nat))
      cupEvaluate (s1.setCup n fun c => { c with tdev := c.tdev.set i (wanderPs (sqrt64 ms)) }) n
  else s

/-- The frequency or drift monitor alone restarts after a write of its window or gate (R139). DESIGN CHOICE: its windows or bins count from
the last sample taken (log entry 93). -/
def freqRestart (s : State) (n : Nat) : State :=
  s.setCup n fun c => { c with freqWin := 0, freqBase := match c.samples.getLast? with | some p => p.m | none => 0 }
def driftRestart (s : State) (n : Nat) : State :=
  s.setCup n fun c => { c with driftBin := 0, driftBase := match c.samples.getLast? with | some p => p.t | none => 0 }

/-- The source in use of the measurement time base changes (R146). -/
def cupsTbChange (s : State) : State :=
  s.many (List.range 96) fun n s =>
    if underCupping s n then cupEvaluate ((statsRestart s n).setCup n fun c => { c with hold := true }) n else s

/-- A C–H link enters DOWN, or comes back from DOWN (R140, R145). -/
def cupsLinkDown (s : State) (c : Nat) : State :=
  s.many (List.range 16) fun i s => cupEvaluate (s.setCup (16 * c + i) fun c => { c with fell := c.st != 0 }) (16 * c + i)
def cupsLinkBack (s : State) (c : Nat) : State := s.many (List.range 16) fun i s => cupEvaluate s (16 * c + i)

/-- STATUS of 3100h+n. -/
def cupStatus (s : State) (n : Nat) : Nat :=
  (s.cupAt n).st + at_ (s.chanAt n).los 3 + at_ (s.cupAt n).freqFlag 4 + at_ (scoreFormed s n) 5
    + at_ (underCupping s n && !s.linkUp (dieOfChan n)) 6

/-- Is NOMINAL_HZ one that INPUT_TYPE accepts (R129)? -/
def nominalSuits (ty hz : Nat) : Bool :=
  if ty = 0 then hz == 1
  else if ty = 1 then decide (8000 ≤ hz ∧ hz ≤ 100000)
  else if ty = 2 then hz == 1544000 || hz == 2048000
  else if ty = 3 then decide (1000000 ≤ hz ∧ hz ≤ 3200000000)
  else if ty = 4 then hz == 1000000 || hz == 5000000 || hz == 10000000
  else false

/-- Is a write of 1 to ENABLE refused, by the values given (R128)? -/
def cupEnableRefuse (ty hz fwin edge presc decim : Nat) : Bool :=
  let p := 2 ^ presc
  let n := if decim = 0 then 2 ^ 24 else decim
  edge == 2 || !nominalSuits ty hz
    || (if ty = 0 then decide (presc ≠ 0 ∨ decim ≠ 1 ∨ hz ≠ 1 ∨ fwin < 2)
        else decide (hz < 1000 * (p * n) ∨ 1000000 * (p * n) < hz))

end Sys2Proof.Machine
end

