-- ==== Sys2Proof/Machine/Engines.lean ====
section
/-! DEFINITION. The servo engines, the hub arbiter and the locks (chapter 13 of spec/). -/

namespace Sys2Proof.Machine

def State.reqAt (s : State) (q : Nat) : Requester := s.eng.requesters.getD q {}
def State.setReq (s : State) (q : Nat) (f : Requester → Requester) : State :=
  s.setEng fun x => { x with requesters := upd x.requesters q f }

/-! The arbiter (R404 to R412). -/

/-- CLASS of requester q, 0 to 3. -/
def classOf (s : State) (q : Nat) : Nat := min 3 (s.rd (key (0x2430 + q) 1))

/-- The level at which a requester stands: 0 class 0, 1 AGED, 2 to 4 classes 1 to 3 (R405). -/
def levelOf (s : State) (q : Nat) : Nat :=
  if classOf s q = 0 then 0 else if (s.reqAt q).aged then 1 else classOf s q + 1

/-- The first of the requesters at or after the pointer, in order of q and round (R405). -/
def rotate (ptr : Nat) (l : List Nat) : Option Nat :=
  match (List.range 24).find? fun i => decide ((ptr + i) % 24 ∈ l) with
  | some i => some ((ptr + i) % 24)
  | none => none

/-- The requester granted in a cycle (R405). -/
def grantOf (s : State) (l : List Nat) : Option Nat :=
  match (List.range 5).find? fun v => l.any fun q => levelOf s q == v with
  | some v => rotate (s.eng.pointers.getD v 0) (l.filter fun q => levelOf s q == v)
  | none => none

/-- The place of requester q behind its level's pointer. -/
def rrPlace (s : State) (q : Nat) : Nat := (q + 24 - s.eng.pointers.getD (levelOf s q) 0 % 24) % 24

/-- The turn estimate (R408): requesting requesters ranked ahead of q in this cycle. -/
def turnEstimate (s : State) (l : List Nat) (q : Nat) : Nat :=
  (l.filter fun r => r != q && (decide (levelOf s r < levelOf s q)
    || (levelOf s r == levelOf s q && decide (rrPlace s r < rrPlace s q)))).length

/-- A loser waits one cycle more (R408, R412). -/
def loseCycle (s : State) (l : List Nat) (q : Nat) : State :=
  let n := turnEstimate s l q
  s.setReq q fun r => { r with waits := r.waits + 1, waited := r.waited + 1, longest := sat 32 (max r.longest (r.waited + 1)), turn := n }

/-- A grant is counted, and ends AGED (R405, R406, R412). -/
def winCycle (s : State) (q : Nat) : State :=
  let v := levelOf s q
  (s.setReq q fun r =>
    { r with grants := r.grants + 1, waited := 0, aged := false,
             agedGrants := if r.aged then cut 32 (r.agedGrants + 1) else r.agedGrants }).setEng fun x =>
      { x with pointers := x.pointers.set v ((q + 1) % 24) }

/-- The lock of a context or slot. -/
def State.lockOf (s : State) (id : Nat) : Option Lock := s.eng.locks.find? fun l => l.id == id

/-- Does requester q hold lock id? -/
def holds (s : State) (q id : Nat) : Bool := match s.lockOf id with | some l => l.holder == q | none => false

/-- A granted access (R404, R414): an engine's write to a context it has locked is gathered; other writes go in. -/
def storeAccess (s : State) (r : StoreReq) : State :=
  match r.write with
  | none => s
  | some v =>
    if r.q < 16 ∧ holds s r.q r.ctx then
      s.setEng fun x => { x with staged := x.staged ++ [⟨r.q, r.ctx, r.line, v⟩] }
    else if r.ctx < 256 then s.putCtxRec r.ctx (64 * (r.line % 8)) 64 v
    else s

/-- CONTEXT_STORE_REQUEST (R405): one cycle with the requests present. -/
def storeCycle (s : State) (l : List StoreReq) : State :=
  let qs := (l.map (·.q)).filter fun q => decide (q < 24)
  match grantOf s qs with
  | none => s
  | some w =>
    let s1 := s.many ((qs.eraseDups).filter fun q => q != w) fun q s' =>
      { s' with eng := (loseCycle { s with eng := s'.eng } qs q).eng }
    match l.find? fun r => r.q == w with
    | some r => storeAccess (winCycle s1 w) r
    | none => winCycle s1 w

/-- REQUESTER_AGED (R406). -/
def requesterAged (s : State) (q : Nat) : State :=
  if classOf s q ≠ 0 ∧ s.rd (key 0x2400 6) ≤ (s.reqAt q).waited then s.setReq q fun r => { r with aged := true } else s

/-- HOST_GUARANTEE (R410). -/
def hostGuarantee (s : State) : Bool :=
  classOf s 16 == 0 && (List.range 24).all fun q => q == 16 || q == 17 || classOf s q != 0

/-- A write of CLASS (R410, R419). -/
def classPut (s : State) (q v : Nat) : State :=
  let s1 := s.put (key (0x2430 + q) 1) v
  if hostGuarantee s ∧ hostGuarantee s1 = false then (s1.hist 0x2400 (2 ^ 0)).raise 0 13 0x37 0x0910 else s1

/-- COMMAND SNAPSHOT (R412). -/
def arbSnapshot (s : State) : State :=
  ((s.many (List.range 24) fun q s =>
    let r := s.reqAt q
    s.many [(2, cut 32 r.grants), (3, cut 32 (r.grants / 2 ^ 32)), (4, cut 32 r.waits), (5, cut 32 (r.waits / 2 ^ 32)),
            (6, r.longest), (7, r.agedGrants)] fun e s => s.put (key (0x2430 + q) e.1) e.2).inc 16 (key 0x2400 9) 1).hist
    0x2400 (2 ^ 5)

/-- COMMAND CLEAR_COUNTERS (2400h.08). -/
def arbClear (s : State) : State :=
  let s1 := s.setEng fun x =>
    { x with requesters := x.requesters.map fun r => { r with grants := 0, waits := 0, longest := 0, agedGrants := 0 } }
  (s1.put (key 0x2400 0x0A) 0).many (List.range 16) fun e s =>
    s.many [4, 5, 6, 7] fun i s => s.put (key (0x2410 + e) i) 0

/-! Locks (R413 to R415). -/

/-- Locks of one kind that a requester holds: slots from 256. -/
def heldCount (s : State) (q : Nat) (slot : Bool) : Nat :=
  (s.eng.locks.filter fun l => l.holder == q && (decide (256 ≤ l.id) == slot)).length

/-- A lock request's result (R413). -/
def lockResult (s : State) (q id : Nat) : Nat :=
  if q < 16 ∧ id < 256 ∧ 0 < heldCount s q true then 2
  else if holds s q id then 4
  else if id < 256 ∧ 4 ≤ heldCount s q false then 3
  else if 256 ≤ id ∧ 2 ≤ heldCount s q true then 3
  else if (s.lockOf id).isSome then 1 else 0

/-- An operation starts with its first lock request (R414). -/
def startOp (s : State) (q : Nat) : State :=
  match (s.reqAt q).age with
  | some _ => s
  | none => (s.setReq q fun r => { r with age := some s.eng.nextAge }).setEng fun x => { x with nextAge := x.nextAge + 1 }

/-- LOCK_REQUEST (R413): engines take context and slot locks, the host ports context locks only. -/
def lockRequest (s : State) (q id : Nat) : State :=
  if (q < 16 ∧ id < 272) ∨ ((q = 16 ∨ q = 17) ∧ id < 256) then
    let r := lockResult s q id
    let s1 := (startOp s q).setReq q fun x => { x with grants := x.grants + 1, result := r }
    if r = 0 then s1.setEng fun x => { x with locks := x.locks ++ [⟨id, q, s.now, []⟩] }
    else if r = 1 then
      s1.setEng fun x => { x with locks := x.locks.map fun l =>
        if l.id = id ∧ q ∉ l.waiters then { l with waiters := l.waiters ++ [q] } else l }
    else if r = 2 then
      ((s1.inc 32 (key (0x2410 + q) 6) 1).hist 0x2400 (2 ^ 4)).raise 0 12 0x36 (0x0900 + q)
    else s1
  else s

/-- A lock passes to its first waiter, or is free (R413). -/
def passLock (now : Nat) (l : Lock) : Option Lock :=
  match l.waiters with
  | w :: r => some { l with holder := w, since := now, waiters := r }
  | [] => none

/-- Requester q gives up all its locks and its place in every queue; its operation ends (R414). -/
def dropLocks (s : State) (q : Nat) : State :=
  let longest := maxOf ((s.eng.locks.filter fun l => l.holder == q).map fun l => s.now - l.since)
  let s1 := if q < 16 then
      s.put (key (0x2410 + q) 7) (sat 32 (max (s.rd (key (0x2410 + q) 7)) longest)) else s
  (s1.setReq q fun r => { r with age := none }).setEng fun x =>
    { x with locks := x.locks.filterMap fun l =>
        let l1 := { l with waiters := l.waiters.filter fun w => w != q }
        if l.holder = q then passLock s.now l1 else some l1 }

/-- An abort (R414): gathered writes are discarded and every lock is released. -/
def abortOp (s : State) (q : Nat) : State :=
  dropLocks (s.setEng fun x => { x with staged := x.staged.filter fun w => w.q != q }) q

/-- The gathered context lines of q go to the store (R414), each one access. -/
def writeBack (s : State) (q : Nat) : State :=
  let l := s.eng.staged.filter fun w => w.q == q && decide (w.id < 256)
  (s.many l fun w s => s.putCtxRec w.id (64 * (w.line % 8)) 64 w.data).setReq q fun r => { r with grants := r.grants + l.length }

/-- The lock that requester q waits for. -/
def waitsFor (s : State) (q : Nat) : Option Lock := s.eng.locks.find? fun l => decide (q ∈ l.waiters)

/-- The chain of waits from a lock (R415): its holders, and whether it comes back to the first lock. -/
def waitChain (s : State) (first : Nat) : Nat → Lock → List Nat × Bool
  | 0, l => ([l.holder], false)
  | fuel + 1, l =>
    match waitsFor s l.holder with
    | none => ([l.holder], false)
    | some m => if m.id = first then ([l.holder], true) else
        ((l.holder :: (waitChain s first fuel m).1), (waitChain s first fuel m).2)

/-- The youngest operation of a circle. -/
def youngest (s : State) (l : List Nat) : Nat :=
  l.foldl (fun a q => if ((s.reqAt a).age.getD 0) < ((s.reqAt q).age.getD 0) then q else a) (l.headD 0)

/-- Locks that an engine has held for HOLD_LIMIT while a requester waits; a host port's capture is never aborted (R415). -/
def overLimit (s : State) : List Lock :=
  s.eng.locks.filter fun l => decide (l.holder < 16) && !l.waiters.isEmpty && decide (l.since + s.rd (key 0x2400 5) * 1000 ≤ s.now)

/-- The lock with the lowest number. -/
def lowestLock : List Lock → Option Lock
  | [] => none
  | l :: r => match lowestLock r with
    | none => some l
    | some m => if l.id ≤ m.id then some l else some m

/-- HOLD_LIMIT_EXPIRY (R415): one break, for the lowest lock over its limit. -/
def holdLimit (s : State) : State :=
  match lowestLock (overLimit s) with
  | none => s
  | some l =>
    let c := waitChain s l.id 24 l
    let v := if c.2 then youngest s c.1 else l.holder
    if v < 16 then
      ((((abortOp s v).inc 32 (key 0x2400 0x0A) 1).inc 32 (key (0x2410 + v) 5) 1).hist 0x2400 (2 ^ 3)).raise 0 12 0x35 (0x0900 + v)
    else s

/-! Engines (R397 to R402). -/

/-- The nominal message rate of a context, from its log intervals (R398). -/
def ctxLoad (s : State) (c : Nat) : Q :=
  [8, 9, 10].foldl (fun a o =>
    let l := toI 8 (s.ctxRec c o 1)
    a.add (if l < 0 then qi (2 ^ (-l).toNat : Nat) else qd 1 (2 ^ l.toNat))) (qi 0)

/-- The load of engine e (R398). -/
def engineLoad (s : State) (e : Nat) : Q :=
  (List.range 256).foldl (fun a c => if (s.ctxAt c).engine = some e then a.add (ctxLoad s c) else a) (qi 0)

/-- The engine of E0 to E11 with the lowest load, the lower number first. -/
def idlest (s : State) : Nat :=
  (List.range 12).foldl (fun a e => if (engineLoad s e).lt (engineLoad s a) then e else a) 0

/-- The engine that a context enabled now gets (R398). -/
def engineFor (s : State) (c : Nat) : Nat :=
  if s.ctxRec c 0 1 = 3 then 14
  else if byteAt (s.rd (key 0x2420 1)) c = 0xFF then idlest s
  else byteAt (s.rd (key 0x2420 1)) c

/-- CONTEXTS of every engine (2410h+e.03). -/
def engineCounts (s : State) : State :=
  s.many (List.range 16) fun e s =>
    s.put (key (0x2410 + e) 3) ((List.range 256).filter fun c => (s.ctxAt c).engine == some e).length

/-- A context is enabled, or no longer (R398). -/
def assignEngine (s : State) (c : Nat) : State :=
  let e := engineFor s c
  engineCounts (s.setCtx c fun x => { x with engine := some e })
def unassignEngine (s : State) (c : Nat) : State := engineCounts (s.setCtx c fun x => { x with engine := none })

/-- ASSIGN_NOW (2420h.02). -/
def assignNow (s : State) : Nat :=
  (List.range 256).foldl (fun a c => a + (match (s.ctxAt c).engine with | some e => e | none => 0xFF) * 256 ^ c) 0

/-- Does an ASSIGN name an engine that serves no contexts (R398)? -/
def assignBad (v : Nat) : Bool := (List.range 256).any fun c => decide (12 ≤ byteAt v c ∧ byteAt v c ≤ 254)

/-- Is an ASSIGN write refused (R398)? -/
def assignRefuse (s : State) (v : Nat) : Nat :=
  if assignBad v then 0x06090030
  else if (List.range 256).any (fun c => match (s.ctxAt c).engine with | some e => byteAt v c != e | none => false) then 0x08000021
  else 0

/-- Is the engine that serves a context running? -/
def ctxServed (s : State) (c : Nat) : Bool :=
  match (s.ctxAt c).engine with | some e => engineUp s e | none => false

/-- ENGINE_OVERLOAD (R399): LOAD has been at `load` for 1 s; the message is sent once until LOAD falls below 80 %. -/
def engineOverload (s : State) (e load : Nat) : State :=
  if e < 16 then
    let s1 := s.put (key (0x2410 + e) 2) (min load 10000)
    let was := s.eng.overloaded.getD e false
    let now_ := if 9500 < load then true else if load < 8000 then false else was
    let s2 := s1.setEng fun x => { x with overloaded := x.overloaded.set e now_ }
    if now_ ∧ was = false then (s2.hist 0x2400 (2 ^ 2)).raise 0 12 0x34 (0x0900 + e) else s2
  else s

/-- Engine e stands still until ENGINE_RESTART_DONE (R401). -/
def engineOff (s : State) (e : Nat) : State := { s with engDown := e :: s.engDown }

/-- The fit that runs is given up. -/
def fitDrop (s : State) : State := s.setDp fun d => { d with fitNow := none }

/-- An engine is restarted alone (R400 to R402): locks released, gathered writes discarded; the third restart within 1 s
resets the device with cause WATCHDOG. -/
def engineRestart (s : State) (e : Nat) : State :=
  if e < 16 ∧ engineUp s e then
    let s1 := abortOp s e
    let s2 := ((s1.put (key (0x2410 + e) 1) 1).incSat 16 (key (0x2410 + e) 4) 1).hist 0x2400 (2 ^ 1)
    let times := ((s.eng.restarts.getD e []).filter fun t => decide (s.now ≤ t + 1000000000)) ++ [s.now]
    let s3 := s2.setEng fun x => { x with restarts := x.restarts.set e times }
    let s4 := (engineOff s3 e).when (decide (3 ≤ times.length)) fun s => s.resetDue (some 7)
    if e = 13 ∧ s.dp.fitNow.isSome then progEnd (fitDrop s4) 4 4 0 else s4
  else s

/-- ENGINE_WATCHDOG: the message, then the restart. -/
def engineWatchdog (s : State) (e : Nat) : State :=
  if e < 16 ∧ engineUp s e then engineRestart (s.raise 0 12 0x33 (0x0900 + e)) e else s

/-- ENGINE_RESTART_DONE (R401): the engine resumes. -/
def engineResume (s : State) (e : Nat) : State :=
  if engineUp s e then s
  else
    let s1 := ({ s with engDown := s.engDown.filter fun x => x != e } : State).put (key (0x2410 + e) 1) 0
    if e = 13 then fitStartNext s1
    else if e = 12 then
      s1.many (List.range 96) fun n s => s.setCup n fun c => { c with qualRun := 0, clearRun := 0 }
    else s1

/-- STATUS of 2400h. -/
def arbStatus (s : State) : Nat :=
  at_ (hostGuarantee s) 0 + at_ (!s.engDown.isEmpty) 1 + at_ (s.eng.overloaded.any id) 2
    + at_ (s.eng.requesters.any (·.aged)) 3

end Sys2Proof.Machine
end

