-- ==== Sys2Proof/Machine/Crc.lean ====
section
/-! DEFINITION. The check codes that the spec uses over bytes: CRC-32 with the IEEE 802.3 polynomial (R297, R358, R383), and the
CRC-16 of CCITT (R82). -/

namespace Sys2Proof.Machine

/-- One bit of a reflected CRC. -/
def crcBit (poly c : Nat) : Nat := if c % 2 = 1 then (c / 2) ^^^ poly else c / 2

/-- One byte of a CRC-32. -/
def crc32Byte (c b : Nat) : Nat := (List.range 8).foldl (fun c _ => crcBit 0xEDB88320 c) (c ^^^ (b % 256))

/-- CRC-32 of the `n` bytes of `v` from byte `off`, going on from a register value. -/
def crc32From (v off : Nat) : Nat → Nat → Nat
  | 0, c => c
  | n + 1, c => crc32From (v / 256) off n (crc32Byte c v)

/-- CRC-32 of `n` bytes of `v` from byte `off`. -/
def crc32 (v off n : Nat) : Nat := crc32From (v >>> (8 * off)) off n 0xFFFFFFFF ^^^ 0xFFFFFFFF

/-- CRC-32 of two pieces, one after the other. -/
def crc32Two (v o1 n1 o2 n2 : Nat) : Nat :=
  crc32From (v >>> (8 * o2)) o2 n2 (crc32From (v >>> (8 * o1)) o1 n1 0xFFFFFFFF) ^^^ 0xFFFFFFFF

end Sys2Proof.Machine
end

