-- ==== Sys2Proof/Machine/PtpFrames.lean ====
section
/-! DEFINITION. PTP messages as bytes, and sending them from a port context (chapter 08 of spec/, R262 to R265). The layout
of a message is that of IEEE 1588-2019, which the spec names and does not repeat (PRESUMED, log entry 30). -/

namespace Sys2Proof.Machine

/-- The `n` bytes of `v`, most significant first. -/
def be : Nat → Nat → List Nat
  | 0, _ => []
  | n + 1, v => v / 256 ^ n % 256 :: be n v

/-- The `n` bytes of `v`, least significant first. -/
def le : Nat → Nat → List Nat
  | 0, _ => []
  | n + 1, v => v % 256 :: le n (v / 256)

/-- The number that bytes spell, least significant first. -/
def natsVal : List Nat → Nat
  | [] => 0
  | b :: r => b % 256 + 256 * natsVal r

/-- The number that bytes spell, most significant first. -/
def natsBe (l : List Nat) : Nat := l.foldl (fun a b => a * 256 + b % 256) 0

/-- Bytes as a value sent. -/
def datumOf (l : List Nat) : Datum := ⟨l.length, natsVal l⟩

/-- The bytes of a value sent. -/
def bytesOf (d : Datum) : List Nat := le d.len d.val

/-- Fields of a context's CONFIG and record (R273). -/
def cxKind (s : State) (c : Nat) : Nat := s.ctxRec c 0 1
def cxCounter (s : State) (c : Nat) : Nat := s.ctxRec c 1 1 % 4
def cxPort (s : State) (c : Nat) : Nat := s.ctxRec c 2 1
def cxRole (s : State) (c : Nat) : Nat := s.ctxRec c 3 1
def cxProfile (s : State) (c : Nat) : Nat := s.ctxRec c 4 1
def cxFlags (s : State) (c : Nat) : Nat := s.ctxRec c 6 1
def cxOneStep (s : State) (c : Nat) : Bool := bit (cxFlags s c) 0
def cxPortState (s : State) (c : Nat) : Nat := s.ctxRec c 64 1
def cxRef (s : State) (c : Nat) : Nat := s.ctxRec c 65 1
def cxEnabled (s : State) (c : Nat) : Bool := s.rd (key (0x3700 + c) 6) == 1

/-- Does the context use the peer-to-peer delay mechanism (R267)? -/
def cxP2P (s : State) (c : Nat) : Bool := cxProfile s c == 1 || cxProfile s c == 4

/-- Is the context a PTP port or a unicast partner? -/
def cxPtp (s : State) (c : Nat) : Bool := cxKind s c == 1 || cxKind s c == 2

/-- CLOCK_IDENTITY of instance t, the number of a port, and a context's port identity (log entry 30). -/
def clockId (s : State) (t : Nat) : Nat := s.tcReg t 0x2D
def portNumber (p : Nat) : Nat := if p < 2 then p + 1 else p - 0x10 + 3
def portIdentity (s : State) (c : Nat) : Nat := clockId s (cxCounter s c) * 65536 + portNumber (cxPort s c)

/-- A 32-bit counter of the context's record (R273), counted from TX_SYNC. -/
def cxCount (s : State) (c i : Nat) : State := s.putCtxRec c (192 + 4 * i) 4 (s.ctxRec c (192 + 4 * i) 4 + 1)

/-- The place of a message type among the counters: Pdelay messages count with Delay_Req and Delay_Resp (R273). -/
def countPlace (type_ : Nat) : Nat :=
  if type_ = 0 then 0 else if type_ = 8 then 1 else if type_ = 1 ∨ type_ = 2 then 2
  else if type_ = 9 ∨ type_ = 3 ∨ type_ = 10 then 3 else if type_ = 11 then 4 else 5

/-- The adjustment of port p in 2^−16 ns (R263): .08 INGRESS_ADJ, .09 EGRESS_ADJ. -/
def portAdj (s : State) (p sub : Nat) : Int :=
  if p < 2 then roundDiv (s.rdI 32 (key 0x3611 (sub + 16 * p)) * 65536) 1000 else 0

/-- Is the port able to carry messages: LINK UP, or the virtual port enabled? -/
def portUp (s : State) (p : Nat) : Bool :=
  if p < 2 then s.rd (key 0x3611 (2 + 16 * p)) == 1 else bit (s.rd (key 0x3612 1)) (p - 0x10)

/-- Seconds and nanoseconds of a time in 2^−16 ns, as the 10 bytes of a PTP timestamp, and what is left below 1 ns. -/
def ptpTime (t : Int) : List Nat := be 6 (t.toNat / 65536000000000) ++ be 4 (t.toNat / 65536 % 1000000000)
def ptpFrac (t : Int) : Int := (t.toNat % 65536 : Nat)

/-- The port context of instance t that is UNCALIBRATED or SLAVE, the lowest (R251). -/
def slaveOf (s : State) (t : Nat) : Option Nat :=
  (List.range 256).find? fun c => cxPtp s c && cxCounter s c == t && cxEnabled s c && (cxPortState s c == 8 || cxPortState s c == 9)

/-- The flags that instance t announces: its own as grandmaster, its parent's otherwise (R262); PTP_TIMESCALE is 1. -/
def announcedFlags (s : State) (t : Nat) : Nat :=
  match slaveOf s t with
  | some c => s.ctxRec c 96 1
  | none => setBits (s.tcReg t 0x2B) 8

/-- A message: header and body. -/
def ptpMessage (s : State) (c type_ seq : Nat) (corr : Int) (twoStep : Bool) (body : List Nat) : List Nat :=
  let ctl := if type_ = 0 then 0 else if type_ = 1 then 1 else if type_ = 8 then 2 else if type_ = 9 then 3 else 5
  let li := if type_ = 0 ∨ type_ = 8 then s.ctxRec c 8 1 else if type_ = 9 then s.ctxRec c 9 1
    else if type_ = 11 then s.ctxRec c 10 1 else 0x7F
  [(if cxProfile s c = 4 then 16 else 0) + type_, 0x12] ++ be 2 (34 + body.length)
    ++ [s.tcReg (cxCounter s c) 0x23, 0, at_ twoStep 1 + at_ (cxKind s c == 2) 2,
        if type_ = 11 then announcedFlags s (cxCounter s c) else 0] ++ be 8 (ofI 64 corr) ++ be 4 0
    ++ be 10 (portIdentity s c) ++ be 2 seq ++ [ctl, li] ++ body

/-! Frames (R263, R264, R267). The headers are those of IEEE 802.3, 802.1Q, RFC 791, RFC 8200 and RFC 768 with the multicast
addresses of IEEE 1588-2019 annexes C to F (PRESUMED, log entry 30); the port appends the FCS. -/

/-- The ones' complement sum of 16-bit words, most significant byte first; an odd byte is followed by 0. -/
def onesSum : List Nat → Nat
  | a :: b :: r => a % 256 * 256 + b % 256 + onesSum r
  | [a] => a % 256 * 256
  | [] => 0

/-- Fold a sum of 16-bit words with its end-around carries. -/
def onesFold (x : Nat) : Nat := if x = 0 then 0 else (x - 1) % 65535 + 1

/-- The checksum of a sum of words. -/
def onesNot (x : Nat) : Nat := 65535 - onesFold x

/-- The multicast address of a message (R267): 01-80-C2-00-00-0E under GPTP, under G8275_1 with NONFORWARDABLE, and for the peer delay
messages of the annex profiles; else 01-1B-19-00-00-00. -/
def multicastMac (s : State) (c type_ : Nat) : Nat :=
  if cxProfile s c = 4 ∨ (cxProfile s c = 2 ∧ bit (cxFlags s c) 3) ∨ type_ = 2 ∨ type_ = 3 ∨ type_ = 10 then 0x0180C200000E
  else 0x011B19000000

/-- The multicast group of a message over UDP, and the MAC address that carries an IP group. -/
def multicastIp (tr type_ : Nat) : Nat :=
  if tr = 1 then (if type_ = 2 ∨ type_ = 3 ∨ type_ = 10 then 0xE000006B else 0xE0000181)
  else if type_ = 2 ∨ type_ = 3 ∨ type_ = 10 then 0xFF02 * 2 ^ 112 + 0x6B else 0xFF0E * 2 ^ 112 + 0x181
def groupMac (tr ip : Nat) : Nat := if tr = 1 then 0x01005E000000 + ip % 2 ^ 23 else 0x333300000000 + ip % 2 ^ 32

/-- A UDP datagram: the length and the checksum over the pseudo-header. -/
def udpBytes (src dst : List Nat) (event : Bool) (msg : List Nat) : List Nat :=
  let port := if event then 319 else 320
  let n := 8 + msg.length
  let sum := onesNot (onesSum (src ++ dst ++ [0, 17] ++ be 2 n ++ be 2 port ++ be 2 port ++ be 2 n ++ msg))
  be 2 port ++ be 2 port ++ be 2 n ++ be 2 (if sum = 0 then 65535 else sum) ++ msg

/-- An IPv4 packet. -/
def ipv4Bytes (src dst : List Nat) (event : Bool) (msg : List Nat) : List Nat :=
  let head := fun sum => [0x45, 0] ++ be 2 (28 + msg.length) ++ [0, 0, 0, 0, 64, 17] ++ be 2 sum ++ src ++ dst
  head (onesNot (onesSum (head 0))) ++ udpBytes src dst event msg

/-- An IPv6 packet. -/
def ipv6Bytes (src dst : List Nat) (event : Bool) (msg : List Nat) : List Nat :=
  [0x60, 0, 0, 0] ++ be 2 (8 + msg.length) ++ [17, 64] ++ src ++ dst ++ udpBytes src dst event msg

/-- The 128-bit IPv6 address of a port. -/
def ipv6Of (s : State) (p : Nat) : Nat := s.rd (key 0x3611 (5 + 16 * p)) * 2 ^ 64 + s.rd (key 0x3611 (6 + 16 * p))

/-- A message of context c as the frame that carries it (R264, R267, R276): to `peer` where it is unicast, else to the group of its
profile. The host network's addresses of a virtual port, and the MAC address of a peer not resolved yet, are free values. -/
def ptpFrame (s : State) (c type_ : Nat) (peer : Option Nat) (msg : List Nat) : List Nat :=
  let p := cxPort s c
  let tr := s.ctxRec c 5 1
  let free := s.freeVal 224
  let src := if p < 2 then s.rd (key 0x3611 (3 + 16 * p)) % 2 ^ 48 else free % 2 ^ 48
  let ip := if p < 2 then (if tr = 1 then s.rd (key 0x3611 (4 + 16 * p)) else ipv6Of s p) else free / 2 ^ 48 % 2 ^ 128
  let toIp := peer.getD (multicastIp tr type_)
  let dst := match peer with
    | none => if tr = 0 then multicastMac s c type_ else groupMac tr toIp
    | some a => if tr = 0 then a % 2 ^ 48 else (s.ctxAt c).peerMac.getD (free / 2 ^ 176)
  let vlan := s.rd (key 0x3611 (7 + 16 * p))
  let head := be 6 dst ++ be 6 src ++ (if p < 2 ∧ bit vlan 16 then be 2 0x8100 ++ be 2 (vlan % 65536) else [])
  let event := decide (type_ < 4)
  if tr = 0 then head ++ be 2 0x88F7 ++ msg
  else if tr = 1 then head ++ be 2 0x0800 ++ ipv4Bytes (be 4 ip) (be 4 toIp) event msg
  else head ++ be 2 0x86DD ++ ipv6Bytes (be 16 ip) (be 16 toIp) event msg

/-- A frame goes into the virtual ports' TX queue (R265), of 256 records. -/
def vportSend (s : State) (c : Nat) (event : Bool) (f : List Nat) : State :=
  let r := [cxPort s c - 0x10, b2n event] ++ le 2 f.length ++ le 2 s.ptp.nextTag ++ [0, 0] ++ f
  { s with ptp := { txq := s.ptp.txq ++ [datumOf r], nextTag := cut 16 (s.ptp.nextTag + 1) } }

/-- Send a message of context c to `peer`, or to the group (R263 to R265). A message that finds the virtual ports' queue full is not
sent: it counts in RX_DISCARDED of its context. -/
def ptpSendTo (s : State) (c type_ seq : Nat) (corr : Int) (twoStep : Bool) (body : List Nat) (peer : Option Nat) : State :=
  let p := cxPort s c
  if portUp s p = false then s
  else if 2 ≤ p ∧ 256 ≤ s.ptp.txq.length then (cxCount s c 12).hist 0x3610 (2 ^ 4)
  else
    let f := ptpFrame s c type_ peer (ptpMessage s c type_ seq corr twoStep body)
    let s1 := (cxCount s c (countPlace type_)).freeNext
    if p < 2 then (s1.send (.eth p type_ (datumOf f))).inc 32 (key 0x3611 (0x0B + 16 * p)) 1
    else vportSend s1 c (decide (type_ < 4)) f

/-- Send a message of context c: to its peer where it is a unicast partner, else to the group. -/
def ptpSend (s : State) (c type_ seq : Nat) (corr : Int) (twoStep : Bool) (body : List Nat) : State :=
  ptpSendTo s c type_ seq corr twoStep body (if cxKind s c = 2 then some (s.ctxRec c 16 16) else none)

/-- Note that the frame just queued waits for its TX_STAMP, with whom it answers and the correction that its follow-up carries; a frame
that found the queue full waits for none. -/
def awaitStamp (s s0 : State) (c type_ seq peer : Nat) (corr : Int) : State :=
  if s.ptp.txq.length = s0.ptp.txq.length then s
  else s.setCtx c fun x => { x with stamps := x.stamps ++ [⟨s0.ptp.nextTag, type_, seq, peer, corr⟩] }

/-- The egress instant of a message sent now, in the context's counter (R263). -/
def egressTime (s : State) (c : Nat) : Int := (tcNow s (cxCounter s c) : Nat) + portAdj s (cxPort s c) 9

/-! Reading a frame. -/

/-- Two bytes of a frame, most significant first. -/
def frameWord (d : Datum) (o : Nat) : Nat := byteAt d.val o * 256 + byteAt d.val (o + 1)

/-- Where the EtherType stands in a frame, past a VLAN tag. -/
def typeOffset (d : Datum) : Nat := if frameWord d 12 = 0x8100 then 16 else 12

/-- Where the PTP message stands in a frame: after the Ethernet, VLAN, IP and UDP headers, to UDP port 319 or 320. -/
def msgOffset (d : Datum) : Option Nat :=
  let o := typeOffset d
  let udp := fun i => decide (319 ≤ frameWord d i ∧ frameWord d i ≤ 320)
  if frameWord d o = 0x88F7 then some (o + 2)
  else if frameWord d o = 0x0800 ∧ byteAt d.val (o + 11) = 17 ∧ udp (o + 24) then some (o + 30)
  else if frameWord d o = 0x86DD ∧ byteAt d.val (o + 8) = 17 ∧ udp (o + 44) then some (o + 50)
  else none

/-- A field of the message at an offset, most significant byte first. -/
def msgField (d : Datum) (o i n : Nat) : Nat := natsBe (le n (bytesAt d.val (o + i) n))

/-- The address that a frame comes from, in the form of PEER_ADDRESS (R273): MAC, IPv4 or IPv6 by its transport. -/
def frameSource (d : Datum) : Nat :=
  let o := typeOffset d
  if frameWord d o = 0x0800 then natsBe (le 4 (bytesAt d.val (o + 14) 4))
  else if frameWord d o = 0x86DD then natsBe (le 16 (bytesAt d.val (o + 10) 16))
  else natsBe (le 6 (bytesAt d.val 6 6))

/-- The 10-byte timestamp of a message, 2^−16 ns. -/
def msgTime (d : Datum) (o i : Nat) : Int :=
  ((msgField d o i 6 * 1000000000 + msgField d o (i + 6) 4) * 65536 : Nat)

/-- An event or general message read from a frame, with its ingress time. -/
def msgOf (d : Datum) (o : Nat) (time : Int) (followUp : Bool) : PtpMsg :=
  { src := msgField d o 20 10, seq := msgField d o 30 2, time := time, stamp := msgTime d o 34,
    corr := toI 64 (msgField d o 8 8), twoStep := bit (msgField d o 6 1) 1, followUp := followUp }

/-- An Announce read from a frame. -/
def announceOf (d : Datum) (o : Nat) : Announce :=
  { src := msgField d o 20 10, gm := msgField d o 53 8, prio1 := msgField d o 47 1, class_ := msgField d o 48 1,
    accuracy := msgField d o 49 1, variance := msgField d o 50 2, prio2 := msgField d o 52 1, steps := msgField d o 61 2,
    utc := toI 16 (msgField d o 44 2), flags := msgField d o 7 1, source := msgField d o 63 1 }

/-- The first TLV of a Signaling message: 0 request, 1 grant, 2 cancel; 3 for others. -/
def signalOf (d : Datum) (o : Nat) : Signal :=
  let k := msgField d o 44 2
  { kind := if 4 ≤ k ∧ k ≤ 6 then k - 4 else 3, type_ := msgField d o 48 1 / 16, interval := toI 8 (msgField d o 49 1),
    duration := msgField d o 50 4, peer := frameSource d }

end Sys2Proof.Machine
end

