-- ==== Sys2Proof/Machine/Ptp.lean ====
section
/-! DEFINITION. The session contexts: states, offsets, best-master choice, the messages, unicast negotiation and the
Ethernet ports (chapter 08 of spec/, R262 to R278). -/

namespace Sys2Proof.Machine

/-! Intrinsic state and its reactions (R272, R252). -/

/-- Does HWS counter t take its offsets from context c (R251)? -/
def hwsUses (s : State) (t c : Nat) : Bool :=
  tcHws s t && cxCounter s c == t && (s.tcReg t 0x0A == c || (s.tcReg t 0x0A == 0x100 && cxPtp s c))

/-- The master of context c as counter t knows it (R251): under INSTANCE_SLAVE the slave context is part of it. -/
def masterOf (s : State) (t c : Nat) : Nat :=
  (if cxKind s c = 4 then s.ctxRec c 98 2 else if cxKind s c = 3 then (s.ctxAt c).root else s.ctxRec c 68 10)
    + (if s.tcReg t 0x0A = 0x100 then (c + 1) * 2 ^ 96 else 0)

/-- The intrinsic state that the context's conditions give (R272, R319). -/
def ctxDesired (s : State) (c : Nat) : Nat :=
  let x := s.ctxAt c
  let cls := s.ctxRec c 89 1
  let good := if x.qualified = false then 2 else if s.ctxRec c 14 1 < cls then 4 else 3
  if cxEnabled s c = false ∨ cxKind s c = 0 then 0
  else if x.timedOut then 1
  else if cxKind s c = 4 then (if x.bad then 1 else if x.qualified = false then 2 else if x.degraded then 4 else 3)
  else if s.ctxRec c 15 1 ≤ cls then 1
  else if cxKind s c = 3 then (if x.portOk then good else 1)
  else if cxPortState s c = 8 then 2
  else if cxPortState s c = 9 then good
  else 1

/-- CONTEXT_STATE_CHANGE (R272, R252): the state is taken over, and HWS counters that track it fall to LAST_RATE when it
is DISQUALIFIED or UNUSED. -/
def ctxRefresh (s : State) (c : Nat) : State :=
  let st := ctxDesired s c
  if st = cxRef s c then s
  else
    let s1 := (s.putCtxRec c 65 1 st).hist (0x3700 + c) (2 ^ 0)
    if st ≤ 1 then
      s1.many (List.range 4) fun t s =>
        if hwsUses s t c ∧ (s.tcAt t).hws = .tracking ∧ (s.tcAt t).master = masterOf s t c then tcLastRate s t else s
    else s1

/-- The parent of context c changes (R251, R278): the change is counted, and counters that use the context learn it. -/
def ctxMasterChange (s : State) (c : Nat) : State :=
  let s1 := ((s.putCtxRec c 100 4 (s.ctxRec c 100 4 + 1)).hist (0x3700 + c) (2 ^ 1)).raise 0 4 0x16 (0x200 + c)
  s1.many (List.range 4) fun t s => if hwsUses s t c then tcMasterChange s t else s

/-- Offsets, path delays and half-made measurements are forgotten: the port starts from UNCALIBRATED (R271). -/
def ctxForget (s : State) (c : Nat) : State :=
  (s.setCtx c fun x =>
    { x with delays := [], sync := none, ms := none, req := none, presp := none, running := false, qualified := false,
             timedOut := false, ratePair := none }).putCtxRec c 146 2 0

/-! Offsets (R271, R250). -/

/-- The whole seconds of an offset, halves toward zero (R250). -/
def wholeSeconds (o : Int) : Int := (qd o 65536000000000).roundToZero

/-- Context c delivers offset `o` measured at `meas` (R271): the record, then every HWS counter and every DPLL that names
it, in order. `ok` is false for a SERVO record marked BAD: that offset is not valid. -/
def ctxOffset (s : State) (c : Nat) (o meas : Int) (ok : Bool) : State :=
  let s1 := s.many [(128, 8, ofI 64 o), (136, 10, time80 meas.toNat), (146, 2, b2n ok), (164, 4, s.ctxRec c 164 4 + 1)]
    fun e s => s.putCtxRec c e.1 e.2.1 e.2.2
  let s2 := s1.setCtx c fun x =>
    if ok then { x with running := true, timedOut := false } else { x with running := false, qualified := false }
  let s3 := ctxRefresh s2 c
  let valid := ok && decide (2 ≤ cxRef s3 c)
  let s4 := s3.many (List.range 4) fun t s =>
    if hwsUses s t c then
      s.setTc t fun x => { x with offsets := x.offsets ++ [⟨o, meas, c, masterOf s t c, valid⟩] }
    else s
  let t := cxCounter s4 c
  let k := s4.tcReg t 8
  let named := (List.range 16).any fun e => candSource s4 k e == 0x200 + c
  if valid ∧ tiedTo s4 t k ∧ named then
    let w := wholeSeconds o
    dpOffset (tcSecondStep s4 t w) c (o - w * 65536000000000) meas
  else s4

/-- OFFSET_TIMEOUT (R272, R278). -/
def offsetTimeout (s : State) (c : Nat) : State :=
  if cxEnabled s c ∧ cxKind s c ≠ 0 ∧ (s.ctxAt c).timedOut = false then
    let s1 := s.setCtx c fun x => { x with timedOut := true, running := false, qualified := false }
    ctxRefresh (((cxCount s1 c 13).hist (0x3700 + c) (2 ^ 3)).raise 0 4 0x17 (0x200 + c)) c
  else s

/-- CONTEXT_QUALIFY_TIME (R272). -/
def ctxQualify (s : State) (c : Nat) : State :=
  if (s.ctxAt c).running ∧ (cxRef s c = 2) ∧ (cxPtp s c = false ∨ cxPortState s c = 9) then
    ctxRefresh (s.setCtx c fun x => { x with qualified := true }) c
  else s

/-! Best master choice (R262, R267). -/

/-- The data set that instance t would announce as grandmaster. -/
def ownAnnounce (s : State) (t : Nat) : Announce :=
  { src := clockId s t * 65536, gm := clockId s t, prio1 := s.tcReg t 0x24,
    class_ := clockClass s t, accuracy := s.tcReg t 0x28,
    variance := s.tcReg t 0x29, prio2 := s.tcReg t 0x25, steps := 0, utc := toI 16 (s.tcReg t 0x2A),
    flags := setBits (s.tcReg t 0x2B) 8, source := s.tcReg t 0x2C }

/-- Comparison of number lists of one length, first difference first: −1, 0 or 1. -/
def cmpList : List Nat → List Nat → Int
  | a :: r, b :: q => if a < b then -1 else if b < a then 1 else cmpList r q
  | _, _ => 0

/-- The comparison of two data sets (log entry 30): negative when `a` is better, of magnitude 2 by its attributes and 1
by topology. Under the alternate choice of G.8275 the local priorities take part and PRIORITY1 does not. -/
def cmpAnnounce (alt : Bool) (a : Announce) (la : Nat) (b : Announce) (lb : Nat) : Int :=
  let topo := cmpList [a.steps, a.src] [b.steps, b.src]
  let attrs := if alt then cmpList [a.class_, a.accuracy, a.variance, a.prio2, la] [b.class_, b.accuracy, b.variance, b.prio2, lb]
    else if a.gm = b.gm then 0 else cmpList [a.prio1, a.class_, a.accuracy, a.variance, a.prio2] [b.prio1, b.class_, b.accuracy, b.variance, b.prio2]
  if attrs ≠ 0 then 2 * attrs
  else if a.gm = b.gm ∨ (alt ∧ a.class_ ≤ 127) then topo
  else 2 * cmpList [a.gm] [b.gm]

/-- Does the profile use the alternate choice? -/
def cxAlt (s : State) (c : Nat) : Bool := cxProfile s c == 2 || cxProfile s c == 3

/-- Announces in a row that make a foreign master: two within its window, one under 802.1AS (log entry 30). -/
def foreignNeed (s : State) (c : Nat) : Nat := if cxProfile s c = 4 then 1 else 2

/-- The best foreign master heard on port context c. -/
def bestForeign (s : State) (c : Nat) : Option Announce :=
  let l := (s.ctxAt c).foreign.filter fun f =>
    decide (foreignNeed s c ≤ f.count) && decide (f.ann.steps < 255) && f.ann.src / 65536 != clockId s (cxCounter s c)
  l.foldl (fun b f => match b with
    | none => some f.ann
    | some a => if cmpAnnounce (cxAlt s c) f.ann 128 a 128 < 0 then some f.ann else some a) none

/-- May the port become a slave: not MASTER_ONLY, and not NOT_SLAVE under the alternate choice? -/
def maySlave (s : State) (c : Nat) : Bool := cxRole s c != 1 && !(cxAlt s c && bit (cxFlags s c) 2)

/-- Must the port never be a master? -/
def slaveOnly (s : State) (c : Nat) : Bool := cxRole s c == 2 || s.tcReg (cxCounter s c) 0x2E == 1

/-- The ports of instance t that take part in the choice. -/
def bmcaPorts (s : State) (t : Nat) : List Nat :=
  (List.range 256).filter fun c =>
    cxPtp s c && cxEnabled s c && cxCounter s c == t && !(s.ctxAt c).pool && decide (4 ≤ cxPortState s c)

/-- LOCAL_PRIORITY of a port (R273). -/
def localPrio (s : State) (c : Nat) : Nat := s.ctxRec c 7 1

/-- The best of all ports, with its port. -/
def bestOfAll (s : State) (t : Nat) : Option (Nat × Announce) :=
  (bmcaPorts s t).foldl (fun b c =>
    if maySlave s c = false then b
    else match bestForeign s c, b with
      | none, _ => b
      | some a, none => some (c, a)
      | some a, some (p, x) => if cmpAnnounce (cxAlt s c) a (localPrio s c) x (localPrio s p) < 0 then some (c, a) else b) none

/-- A port that is no slave: its offsets end. -/
def toPortState (s : State) (c st : Nat) : State :=
  if cxPortState s c = st then s else ctxRefresh (ctxForget (s.putCtxRec c 64 1 st) c) c

/-- What the port's record keeps of its master (R273). -/
def putMaster (s : State) (c : Nat) (a : Announce) : State :=
  s.many [(68, 10, a.src), (78, 2, a.steps), (80, 8, a.gm), (88, 1, a.prio1), (89, 1, a.class_), (90, 1, a.accuracy),
          (91, 1, a.prio2), (92, 2, a.variance), (94, 2, ofI 16 a.utc), (96, 1, a.flags), (97, 1, a.source)]
    fun e s => s.putCtxRec c e.1 e.2.1 e.2.2

/-- The port is the slave of master `a`: UNCALIBRATED toward a new one (R262, R271). -/
def toSlave (s : State) (c : Nat) (a : Announce) : State :=
  let new := s.ctxRec c 68 10 != a.src
  let s1 := if new then ctxMasterChange (putMaster s c a) c else putMaster s c a
  if new ∨ (cxPortState s c ≠ 8 ∧ cxPortState s c ≠ 9) then ctxRefresh (ctxForget (s1.putCtxRec c 64 1 8) c) c
  else ctxRefresh s1 c

/-- The port is to be a master: by way of PRE_MASTER; a slave-only port listens. -/
def toMaster (s : State) (c : Nat) : State :=
  if slaveOnly s c then toPortState s c 4
  else if cxPortState s c = 5 ∨ cxPortState s c = 6 then s else toPortState s c 5

/-- The state decision of one port (log entry 30). -/
def decidePort (s : State) (t c : Nat) (best : Option (Nat × Announce)) : State :=
  let d0 := ownAnnounce s t
  let beats := fun (a : Announce) => decide (cmpAnnounce (cxAlt s c) d0 128 a (localPrio s c) < 0)
  match bestForeign s c with
  | none =>
    if cxPortState s c = 4 then (if cxRole s c = 1 then toMaster s c else s)
    else match best with
      | some (p, a) => if p = c then toSlave s c a else toMaster s c
      | none => toMaster s c
  | some er =>
    if cxRole s c = 1 then toMaster s c
    else if d0.class_ ≤ 127 ∧ slaveOnly s c = false then (if beats er then toMaster s c else toPortState s c 7)
    else match best with
      | none => toMaster s c
      | some (p, a) =>
        if slaveOnly s c = false ∧ beats a then toMaster s c
        else if p = c then toSlave s c a
        else if cmpAnnounce (cxAlt s c) a (localPrio s p) er (localPrio s c) = -1 then toPortState s c 7
        else toMaster s c

/-- The choice is run again over all ports of instance t (R262). -/
def bmca (s : State) (t : Nat) : State :=
  let best := bestOfAll s t
  s.many (bmcaPorts s t) fun c s => decidePort s t c best

/-- A port leaves INITIALIZING with the next thing its context does (log entry 31). -/
def ctxWake (s : State) (c : Nat) : State := if cxPtp s c ∧ cxPortState s c = 1 then s.putCtxRec c 64 1 4 else s

/-- Does the context take messages now: enabled, its instance running, its engine not restarting (R262, R401)? -/
def ctxLive (s : State) (c : Nat) : Bool :=
  cxPtp s c && cxEnabled s c && s.tcReg (cxCounter s c) 0x22 == 1 && decide (cxPortState s c ≠ 3)

/-- A message received for context c: RX_PTP of an Ethernet port, and the context's counter; one that its engine cannot
take is counted in RX_DISCARDED. -/
def ptpRx (s : State) (c type_ : Nat) (f : State → State) : State :=
  if ctxLive s c = false then s
  else
    let s0 := if cxPort s c < 2 then s.inc 32 (key 0x3611 (0x0A + 16 * cxPort s c)) 1 else s
    if ctxServed s c = false then cxCount s0 c 12
    else f (cxCount (ctxWake s0 c) c (6 + countPlace type_))

/-- PTP_ANNOUNCE_RX (R262). -/
def announceRx (s : State) (c : Nat) (a : Announce) : State :=
  ptpRx s c 11 fun s =>
    let l := toI 8 (s.ctxRec c 10 1)
    let window : Nat := 4 * (if l < 0 then 1000000000 / 2 ^ (-l).toNat else 1000000000 * 2 ^ l.toNat)
    let s1 := s.setCtx c fun x =>
      match x.foreign.find? fun f => f.ann.src == a.src with
      | some f =>
        let n := if f.last + window < s.now then 1 else f.count + 1
        { x with foreign := x.foreign.map fun g => if g.ann.src = a.src then ⟨a, n, s.now⟩ else g }
      | none => { x with foreign := x.foreign ++ [⟨a, 1, s.now⟩] }
    bmca s1 (cxCounter s1 c)

/-- ANNOUNCE_RECEIPT_TIMEOUT (R262, R278): the masters heard on the port are forgotten and the choice is run again. -/
def announceTimeout (s : State) (c : Nat) : State :=
  if ctxLive s c then
    let s1 := (ctxWake s c).setCtx c fun x => { x with foreign := [] }
    let s2 := ((cxCount s1 c 14).hist (0x3700 + c) (2 ^ 2)).raise 0 4 0x17 (0x200 + c)
    let s3 := bmca s2 (cxCounter s2 c)
    if cxPortState s3 c = 4 then toMaster s3 c else s3
  else s

/-- PRE_MASTER_QUALIFICATION_TIMEOUT (R262). -/
def preMasterEnd (s : State) (c : Nat) : State := if ctxLive s c ∧ cxPortState s c = 5 then toPortState s c 6 else s

/-! Offset formation (R271). -/

/-- ASYMMETRY of the context. -/
def cxAsym (s : State) (c : Nat) : Int := toI 64 (s.ctxRec c 32 8)

/-- The mean of the last path-delay measurements, to the nearest 2^−16 ns (log entry 32). -/
def meanDelay (x : Ctx) : Int := roundDiv (sumI x.delays) x.delays.length

/-- An offset is formed from the last Sync and the mean path delay, once one exists (R271). -/
def formOffset (s : State) (c : Nat) : State :=
  match (s.ctxAt c).ms with
  | some (ms, t2) =>
    if (s.ctxAt c).delays = [] then s
    else
      let s1 := if cxPortState s c = 8 then s.putCtxRec c 64 1 9 else s
      ctxOffset s1 c (meanDelay (s.ctxAt c) + cxAsym s c - ms) t2 true
  | none => s

/-- A path delay is measured (R271): the last DELAY_FILTER count. -/
def addDelay (s : State) (c : Nat) (d : Int) : State :=
  let s1 := s.setCtx c fun x => { x with delays := (d :: x.delays).take (s.ctxRec c 12 1) }
  s1.putCtxRec c 148 8 (ofI 64 (meanDelay (s1.ctxAt c)))

/-- The ingress time of an event message at the reference plane (R263). -/
def ingress (s : State) (c : Nat) (m : PtpMsg) : Int := m.time + portAdj s (cxPort s c) 8

/-- Is the port UNCALIBRATED or SLAVE, and does the message come from its master? -/
def fromMaster (s : State) (c src : Nat) : Bool :=
  (cxPortState s c == 8 || cxPortState s c == 9) && s.ctxRec c 68 10 == src

/-- A Sync is complete: t2 − t1 less corrections is known, and an offset is formed. -/
def syncDone (s : State) (c : Nat) (ms t2 : Int) : State := formOffset (s.setCtx c fun x => { x with ms := some (ms, t2), sync := none }) c

/-- PTP_SYNC_RX (R271): one-step, or the first half of a two-step pair. -/
def syncRx (s : State) (c : Nat) (m : PtpMsg) : State :=
  ptpRx s c 0 fun s =>
    if fromMaster s c m.src = false then cxCount s c 12
    else if m.twoStep then s.setCtx c fun x => { x with sync := some (m.seq, ingress s c m, m.corr) }
    else syncDone s c (ingress s c m - m.stamp - m.corr) (ingress s c m)

/-- PTP_FOLLOW_UP_RX (R271). -/
def followUpRx (s : State) (c : Nat) (m : PtpMsg) : State :=
  ptpRx s c 8 fun s =>
    match (s.ctxAt c).sync with
    | some (q, t2, corr) =>
      if fromMaster s c m.src ∧ q = m.seq then syncDone s c (t2 - m.stamp - corr - m.corr) t2 else cxCount s c 12
    | none => cxCount s c 12

/-- PTP_DELAY_RESP_RX (R271): path delay from this exchange and the last Sync; with it the first offset may be formed. -/
def delayRespRx (s : State) (c : Nat) (m : PtpMsg) : State :=
  ptpRx s c 9 fun s =>
    let x := s.ctxAt c
    match x.req, x.ms with
    | some (q, t3), some (ms, _) =>
      if fromMaster s c m.src ∧ q = m.seq ∧ cxP2P s c = false then
        let s1 := addDelay (s.setCtx c fun x => { x with req := none }) c ((ms + (m.stamp - t3 - m.corr)) / 2)
        if cxPortState s c = 8 then formOffset s1 c else s1
      else cxCount s c 12
    | _, _ => cxCount s c 12

/-- neighborRateRatio of GPTP (R267): the neighbour's interval over this counter's, as a fraction of 1. -/
def rateRatio (p : Option (Int × Int)) (t3 t4 : Int) : Q :=
  match p with
  | some (a, b) => if b < t4 then (qd (t3 - a) (t4 - b).toNat) else qi 1
  | none => qi 1

/-- A peer exchange is complete: t1 and t4 here, the peer's turnaround t3 − t2 with corrections. -/
def pdelayDone (s : State) (c : Nat) (t1 t4 turn : Int) (t3 : Option Int) : State :=
  let x := s.ctxAt c
  let r := if cxProfile s c = 4 then (match t3 with | some t3 => rateRatio x.ratePair t3 t4 | none => qi 1) else qi 1
  let d := ((r.mul (qi (t4 - t1))).sub (qi turn)).mul (qd 1 2)
  let s1 := s.setCtx c fun x =>
    { x with req := none, presp := none, ratePair := (match t3 with | some t3 => some (t3, t4) | none => x.ratePair) }
  let s2 := if cxProfile s c = 4 then s1.putCtxRec c 156 8 (ofI 64 (((r.sub (qi 1)).mul (qi (2 ^ 48))).round)) else s1
  let s3 := addDelay s2 c d.round
  if cxPortState s c = 8 then formOffset s3 c else s3

/-- PTP_PDELAY_RESP_RX (R271): the response, or its follow-up. -/
def pdelayRespRx (s : State) (c : Nat) (m : PtpMsg) : State :=
  ptpRx s c 3 fun s =>
    let x := s.ctxAt c
    if m.followUp then
      match x.presp, x.req with
      | some (q, t2, t4, corr), some (_, t1) =>
        if q = m.seq then pdelayDone s c t1 t4 (m.stamp - t2 + corr + m.corr) (some m.stamp) else cxCount s c 12
      | _, _ => cxCount s c 12
    else
      match x.req with
      | some (q, t1) =>
        if q = m.seq ∧ cxP2P s c then
          if m.twoStep then s.setCtx c fun x => { x with presp := some (q, m.stamp, ingress s c m, m.corr) }
          else pdelayDone s c t1 (ingress s c m) m.corr none
        else cxCount s c 12
      | none => cxCount s c 12

/-- PTP_DELAY_REQ_RX (R271): a master answers with the receive time. -/
def delayReqRx (s : State) (c : Nat) (m : PtpMsg) : State :=
  ptpRx s c 1 fun s =>
    if cxPortState s c = 6 ∧ cxP2P s c = false then
      ptpSend s c 9 m.seq (m.corr - ptpFrac (ingress s c m)) false (ptpTime (ingress s c m) ++ be 10 m.src)
    else cxCount s c 12

/-- PTP_PDELAY_REQ_RX (R264): answered one-step with the turnaround in correctionField, or two-step. -/
def pdelayReqRx (s : State) (c : Nat) (m : PtpMsg) : State :=
  ptpRx s c 2 fun s =>
    let t2 := ingress s c m
    if cxP2P s c = false then cxCount s c 12
    else if cxOneStep s c then
      ptpSend s c 3 m.seq (m.corr + (egressTime s c - t2)) false (ptpTime 0 ++ be 10 m.src)
    else
      let s1 := ptpSend s c 3 m.seq (-(ptpFrac t2)) true (ptpTime t2 ++ be 10 m.src)
      if cxPort s c < 2 then
        ptpSend s1 c 10 m.seq (m.corr + ptpFrac (egressTime s c)) false (ptpTime (egressTime s c) ++ be 10 m.src)
      else awaitStamp s1 s c 3 m.seq m.src m.corr

/-! Sending (R263, R264). -/

/-- Has a pool context been granted messages of a type; other contexts need no grant. -/
def granted (s : State) (c type_ : Nat) : Bool := !(s.ctxAt c).pool || (s.ctxAt c).grants.any fun g => g.1 == type_

/-- PTP_SYNC_INTERVAL (R264). -/
def syncInterval (s : State) (c : Nat) : State :=
  if ctxLive s c ∧ ctxServed s c ∧ cxPortState s c = 6 ∧ granted s c 0 then
    let q := (s.ctxAt c).seqSync
    let e := egressTime s c
    let s1 := s.setCtx c fun x => { x with seqSync := cut 16 (q + 1) }
    if cxOneStep s c then ptpSend s1 c 0 q (ptpFrac e) false (ptpTime e)
    else
      let s2 := ptpSend s1 c 0 q 0 true (ptpTime 0)
      if cxPort s c < 2 then ptpSend s2 c 8 q (ptpFrac e) false (ptpTime e) else awaitStamp s2 s1 c 0 q 0 0
  else s

/-- PTP_DELAY_REQ_INTERVAL: Delay_Req of a slave, or Pdelay_Req of any peer-to-peer port (R271). -/
def delayInterval (s : State) (c : Nat) : State :=
  if ctxLive s c ∧ ctxServed s c ∧ (cxP2P s c ∨ cxPortState s c = 8 ∨ cxPortState s c = 9) then
    let s0 := ctxWake s c
    let q := (s0.ctxAt c).seqReq
    let type_ := if cxP2P s0 c then 2 else 1
    let s1 := s0.setCtx c fun x =>
      { x with seqReq := cut 16 (q + 1), req := if cxPort s0 c < 2 then some (q, egressTime s0 c) else none }
    let s2 := ptpSend s1 c type_ q 0 false (ptpTime 0 ++ (if type_ = 2 then be 10 0 else []))
    if cxPort s c < 2 then s2 else awaitStamp s2 s1 c type_ q 0 0
  else s

/-- What context c announces: its instance as grandmaster, or its parent's grandmaster one step further (R262). -/
def announced (s : State) (t : Nat) : Announce :=
  match slaveOf s t with
  | none => ownAnnounce s t
  | some c =>
    { src := 0, gm := s.ctxRec c 80 8, prio1 := s.ctxRec c 88 1, class_ := s.ctxRec c 89 1, accuracy := s.ctxRec c 90 1,
      prio2 := s.ctxRec c 91 1, variance := s.ctxRec c 92 2, steps := s.ctxRec c 78 2 + 1,
      utc := toI 16 (s.ctxRec c 94 2), flags := s.ctxRec c 96 1, source := s.ctxRec c 97 1 }

/-- PTP_ANNOUNCE_INTERVAL (R262). -/
def announceInterval (s : State) (c : Nat) : State :=
  if ctxLive s c ∧ ctxServed s c ∧ cxPortState s c = 6 ∧ granted s c 11 then
    let q := (s.ctxAt c).seqAnn
    let a := announced s (cxCounter s c)
    ptpSend (s.setCtx c fun x => { x with seqAnn := cut 16 (q + 1) }) c 11 q 0 false
      (ptpTime 0 ++ be 2 (ofI 16 a.utc) ++ [0, a.prio1, a.class_, a.accuracy] ++ be 2 a.variance ++ [a.prio2]
        ++ be 8 a.gm ++ be 2 a.steps ++ [a.source])
  else s

/-! Unicast negotiation (R270). -/

/-- The log intervals a profile accepts: lowest and highest of Sync, delay and Announce (R267). -/
def profileSpan (p : Nat) : List (Int × Int) :=
  if p = 2 then [(-4, -4), (-4, -4), (-3, -3)]
  else if p = 3 then [(-7, 0), (-7, 0), (-3, 0)]
  else [(-7, 4), (-7, 4), (-3, 4)]

/-- The place of a message type among the intervals, and so its CONFIG byte from 8: 0 Sync, 9 Delay_Resp, 11 Announce. -/
def spanPlace (type_ : Nat) : Nat := if type_ = 0 then 0 else if type_ = 11 then 2 else 1

/-- Is an interval within the profile? -/
def intervalOk (p type_ : Nat) (v : Int) : Bool :=
  match (profileSpan p)[spanPlace type_]? with
  | some (a, b) => decide (a ≤ v ∧ v ≤ b)
  | none => false

/-- Messages per second of a log interval. -/
def rateOf (l : Int) : Q := if l < 0 then qi (2 ^ (-l).toNat : Nat) else qd 1 (2 ^ l.toNat)

/-- Is a context the side that is timed: a slave, or to be one? -/
def slaveSide (s : State) (c : Nat) : Bool := cxPortState s c == 8 || cxPortState s c == 9 || cxRole s c == 2

/-- The messages per second of one type that a context exchanges, as sent and received: a master sends Sync with its Follow_Up, Announce
and a Delay_Resp for every Delay_Req; a slave the reverse (R269). -/
def typeRates (s : State) (c type_ : Nat) (rate : Q) : Q × Q :=
  let both := if type_ = 0 ∧ cxOneStep s c = false then rate.add rate else rate
  let back := if type_ = 9 then rate else qi 0
  if slaveSide s c then (back, both) else (both, back)

/-- The messages per second of a context, of the types it has been granted. -/
def ctxRates (s : State) (c : Nat) : Q × Q :=
  [0, 9, 11].foldl (fun a ty =>
    if granted s c ty then
      let r := typeRates s c ty (rateOf (toI 8 (s.ctxRec c (8 + spanPlace ty) 1)))
      (a.1.add r.1, a.2.add r.2)
    else a) (qi 0, qi 0)

/-- The messages per second, sent and received, of all enabled contexts (R269). -/
def totalRates (s : State) : Q × Q :=
  (List.range 256).foldl (fun a c =>
    if cxPtp s c && cxEnabled s c then (a.1.add (ctxRates s c).1, a.2.add (ctxRates s c).2) else a) (qi 0, qi 0)

/-- Would a grant of `rate` messages of a type, in place of the one that context x holds, break the limits of R269? -/
def rateBreaks (s : State) (c x type_ : Nat) (rate : Q) : Bool :=
  let all := totalRates (s.setCtx x fun y => { y with grants := y.grants.filter fun h => h.1 != type_ })
  let new := typeRates s c type_ rate
  (qi 128).lt rate || (qi 65536).lt (all.1.add new.1) || (qi 65536).lt (all.2.add new.2)

/-- The pool contexts (R270). -/
def poolRange (s : State) : List Nat := (List.range (s.rd (key 0x3610 8))).map fun i => s.rd (key 0x3610 7) + i

/-- The pool context that serves a client already, or else the lowest free one. -/
def poolPick (s : State) (c peer : Nat) : Option Nat :=
  match (poolRange s).find? fun x => (s.ctxAt x).pool && s.ctxRec x 13 1 == c && s.ctxRec x 16 16 == peer with
  | some x => some x
  | none => (poolRange s).find? fun x => !(s.ctxAt x).pool && cxKind s x == 0 && !cxEnabled s x

/-- A Signaling message with one TLV to `peer`: to its port where it is known, else to all ports there. -/
def signalSend (s : State) (c peer : Nat) (tlv : List Nat) : State :=
  let q := (s.ctxAt c).seqSig
  let port := if s.ctxRec c 68 10 = 0 then 2 ^ 80 - 1 else s.ctxRec c 68 10
  ptpSendTo (s.setCtx c fun x => { x with seqSig := cut 16 (q + 1) }) c 12 q 0 false (be 10 port ++ tlv) (some peer)

/-- GRANTS_ACTIVE follows the pool. -/
def grantsActive (s : State) : State :=
  s.put (key 0x3610 9) ((List.range 256).filter fun c => (s.ctxAt c).pool).length

/-- A denial (R270, R278). -/
def grantDenied (s : State) (c : Nat) (g : Signal) : State :=
  signalSend (((s.inc 32 (key 0x3610 0x0A) 1).hist 0x3610 (2 ^ 2)).raise 0 4 0x18 (0x200 + c)) c g.peer
    (be 2 5 ++ be 2 8 ++ [g.type_ * 16, ofI 8 g.interval] ++ be 4 0 ++ [0, 0])

/-- The device writes a pool context's CONFIG as PTP_UNICAST with the granted interval, and enables it (R270). -/
def poolTake (s : State) (c x : Nat) (g : Signal) : State :=
  let fresh := !(s.ctxAt x).pool
  let s1 := if fresh then
      s.put (key (0x3700 + x) 7) (putBytes (putBytes (putBytes (s.ctxRec c 0 64) 0 1 2) 13 1 c) 16 16 g.peer) else s
  let s2 := s1.many [(3, 1, 1), (8 + spanPlace g.type_, 1, ofI 8 g.interval), (64, 1, 6), (66, 2, s.ctxRec c 66 2)]
    fun e s => s.putCtxRec x e.1 e.2.1 e.2.2
  let s3 := s2.put (key (0x3700 + x) 6) 1
  let s4 := s3.setCtx x fun y =>
    { (if fresh then ({} : Ctx) else y) with
      pool := true, engine := y.engine,
      grants := (y.grants.filter fun h => h.1 != g.type_) ++ [(g.type_, s.now + g.duration * 1000000000, g.duration)] }
  grantsActive (if fresh then ctxRefresh (assignEngine s4 x) x else s4)

/-- A pool context goes back to the pool as FREE (R270). -/
def poolFree (s : State) (x : Nat) : State :=
  let s1 := (s.put (key (0x3700 + x) 6) 0).put (key (0x3700 + x) 7) contextDefault
  grantsActive (unassignEngine (s1.setCtx x fun _ => {}) x)

/-- REQUEST_UNICAST_TRANSMISSION at a port context (R269, R270). -/
def unicastRequest (s : State) (c : Nat) (g : Signal) : State :=
  if cxKind s c ≠ 1 ∨ cxPortState s c ≠ 6 then cxCount s c 12
  else match poolPick s c g.peer with
    | none => grantDenied s c g
    | some x =>
      if intervalOk (cxProfile s c) g.type_ g.interval = false ∨ rateBreaks s c x g.type_ (rateOf g.interval) then grantDenied s c g
      else signalSend (poolTake s c x g) x g.peer
        (be 2 5 ++ be 2 8 ++ [g.type_ * 16, ofI 8 g.interval] ++ be 4 g.duration ++ [0, 1])

/-- A slave-side grant ends or is cancelled: GRANT_LOST. -/
def grantLost (s : State) (c type_ : Nat) : State :=
  if (s.ctxAt c).grants.any fun g => g.1 == type_ then
    (s.setCtx c fun x => { x with grants := x.grants.filter fun g => g.1 != type_ }).hist (0x3700 + c) (2 ^ 4)
  else s

/-- A master-side grant ends: its context goes back to the pool with its last grant. -/
def grantEnd (s : State) (x type_ : Nat) : State :=
  let s1 := s.setCtx x fun y => { y with grants := y.grants.filter fun g => g.1 != type_ }
  if (s1.ctxAt x).grants = [] then poolFree s1 x else s1

/-- A cancel (R270): the client's at a port context, or the master's at the client. -/
def unicastCancel (s : State) (c : Nat) (g : Signal) : State :=
  let ack := fun s => signalSend s c g.peer (be 2 7 ++ be 2 2 ++ [g.type_ * 16, 0])
  if cxKind s c = 2 then ack (grantLost s c g.type_)
  else match (poolRange s).find? fun x => (s.ctxAt x).pool && s.ctxRec x 13 1 == c && s.ctxRec x 16 16 == g.peer with
    | some x => ack (grantEnd s x g.type_)
    | none => ack s

/-- PTP_SIGNALING_RX (R270). -/
def signalingRx (s : State) (c : Nat) (g : Signal) : State :=
  ptpRx s c 12 fun s =>
    if g.kind = 0 then unicastRequest s c g
    else if g.kind = 1 then
      (if cxKind s c ≠ 2 ∨ (s.ctxAt c).pool then cxCount s c 12
       else if g.duration = 0 then grantLost s c g.type_
       else s.setCtx c fun x =>
         { x with grants := (x.grants.filter fun h => h.1 != g.type_) ++ [(g.type_, s.now + g.duration * 1000000000, g.duration)] })
    else if g.kind = 2 then unicastCancel s c g
    else cxCount s c 12

/-- The grant that ends first. -/
def firstGrant (l : List (Nat × Nat × Nat)) : Option (Nat × Nat × Nat) :=
  l.foldl (fun a g => match a with | none => some g | some h => if g.2.1 < h.2.1 then some g else some h) none

/-- GRANT_EXPIRY (R270): the grant of context c that ends first expires. -/
def grantExpiry (s : State) (c : Nat) : State :=
  match firstGrant (s.ctxAt c).grants with
  | none => s
  | some g => if (s.ctxAt c).pool then grantEnd s c g.1 else grantLost s c g.1

/-- Is a grant of a type to be asked for: none is held, or a quarter of it or less remains (R270)? -/
def grantWanted (s : State) (c type_ : Nat) : Bool :=
  match (s.ctxAt c).grants.find? fun g => g.1 == type_ with
  | none => true
  | some g => decide (4 * (g.2.1 - s.now) ≤ g.2.2 * 1000000000)

/-- GRANT_RENEWAL_TIMER (R270): a PTP_UNICAST context that is the slave side asks its peer for each grant it lacks or has a quarter left
of: Announce, Sync and Delay_Resp, each for GRANT_DURATION. -/
def grantRenewal (s : State) (c : Nat) : State :=
  if ctxLive s c ∧ ctxServed s c ∧ cxKind s c = 2 ∧ (s.ctxAt c).pool = false ∧ cxRole s c = 2 then
    (ctxWake s c).many ([11, 0, 9].filter fun ty => grantWanted s c ty) fun ty s =>
      signalSend s c (s.ctxRec c 16 16) (be 2 4 ++ be 2 6 ++ [ty * 16, s.ctxRec c (8 + spanPlace ty) 1] ++ be 4 (s.ctxRec c 40 4))
  else s

/-- GRANT_LEFT, s: until the first of its grants ends. -/
def grantLeft (s : State) (c : Nat) : Nat :=
  match firstGrant (s.ctxAt c).grants with
  | some g => (g.2.1 - s.now) / 1000000000
  | none => 0

/-! Frames that come in with their bytes (R265, R266). -/

/-- The contexts of a port that take a message with a domain. -/
def frameContexts (s : State) (port domain : Nat) : List Nat :=
  (List.range 256).filter fun c => cxPtp s c && cxEnabled s c && cxPort s c == port && s.tcReg (cxCounter s c) 0x23 == domain

/-- Is a message for the port context whatever its sender: a request of unicast messages, or a cancel (R270)? -/
def forPort (d : Datum) (o : Nat) : Bool :=
  msgField d o 0 1 % 16 == 12 && (signalOf d o).kind != 1

/-- The context that takes a frame on a port: the unicast context whose partner it comes from, else the port context (R268, R270). A
partner's own requests go to the port context, and a cancel to the slave-side context that holds the grant. -/
def frameContext (s : State) (port : Nat) (d : Datum) (o : Nat) : Option Nat :=
  let l := frameContexts s port (msgField d o 4 1)
  let mine := fun c => cxKind s c == 2 && s.ctxRec c 16 16 == frameSource d && !(forPort d o && (s.ctxAt c).pool)
  match l.find? mine with
  | some c => if forPort d o ∧ (signalOf d o).kind = 0 then l.find? fun c => cxKind s c == 1 else some c
  | none => l.find? fun c => cxKind s c == 1

/-- A message goes to its context by its type. An event message without a stamp is not used. -/
def frameMessage (s : State) (c : Nat) (d : Datum) (o : Nat) (time : Option Int) : State :=
  let ty := msgField d o 0 1 % 16
  let m := fun (b : Bool) => msgOf d o (time.getD 0) b
  if ty < 4 ∧ time = none then ptpRx s c ty fun s => cxCount s c 12
  else if ty = 0 then syncRx s c (m false)
  else if ty = 1 then delayReqRx s c (m false)
  else if ty = 2 then pdelayReqRx s c (m false)
  else if ty = 3 then pdelayRespRx s c (m false)
  else if ty = 8 then followUpRx s c (m true)
  else if ty = 9 then delayRespRx s c (m false)
  else if ty = 10 then pdelayRespRx s c (m true)
  else if ty = 11 then announceRx s c (announceOf d o)
  else if ty = 12 then signalingRx s c (signalOf d o)
  else cxCount s c 12

/-! Ethernet ports (R263, R266, R276). -/

/-- Is an address the peer of unicast context c over UDP on port p? -/
def peerAt (s : State) (c p addr : Nat) : Bool :=
  cxKind s c == 2 && cxEnabled s c && cxPort s c == p && s.ctxRec c 5 1 != 0 && s.ctxRec c 16 16 == addr

/-- ARP_NDP_RX (R263): asked for the port's own address, it answers with its MAC to the asker's, `d`; a message that tells the MAC `d` of a
unicast peer resolves that peer. -/
def arpRx (s : State) (p target : Nat) (d : Datum) : State :=
  if p < 2 ∧ portUp s p ∧ target ≠ 0 then
    if target = s.rd (key 0x3611 (4 + 16 * p)) ∨ target = ipv6Of s p then
      s.send (.eth p 0x100 ⟨6 + d.len, s.rd (key 0x3611 (3 + 16 * p)) % 2 ^ 48 + d.val * 2 ^ 48⟩)
    else
      s.many ((List.range 256).filter fun c => peerAt s c p target) fun c s =>
        s.setCtx c fun x => { x with peerMac := some (d.val % 2 ^ 48) }
  else s

/-- PEER_RESOLVE_TIMER (R263): every unicast peer over an Ethernet port is asked for again. -/
def peerResolve (s : State) : State :=
  s.many (List.range 256) fun c s =>
    if cxKind s c = 2 ∧ cxEnabled s c ∧ cxPort s c < 2 ∧ portUp s (cxPort s c) ∧ s.ctxRec c 5 1 ≠ 0 then
      s.send (.eth (cxPort s c) 0x101 ⟨16, s.ctxRec c 16 16⟩) else s

/-- ETH_OTHER_FRAME_RX (R263): a frame with FCS or coding errors, or one that is neither PTP, ARP nor NDP; pass-through forwards such a
frame (PASSTHROUGH_FRAME) and it is not counted. -/
def ethOther (s : State) (p : Nat) (bad : Bool) : State :=
  if p < 2 ∧ portUp s p ∧ (bad ∨ s.rd (key 0x3610 5) ≠ 1) then s.inc 32 (key 0x3611 ((if bad then 0x0D else 0x0C) + 16 * p)) 1 else s

/-- The UDP checksum `sum` of a message whose bytes `old` at an even place become `new` (R266); 0 says that IPv4 carries none. -/
def checksumMoved (sum : Nat) (old new : List Nat) : Nat :=
  let x := onesNot ((65535 - sum) + (65535 * 4 - onesSum old) + onesSum new)
  if sum = 0 then 0 else if x = 0 then 65535 else x

/-- The frame with residence time added to its correctionField (R266), and its UDP checksum with it. -/
def corrected (d : Datum) (residence : Int) : Datum :=
  match msgOffset d with
  | none => d
  | some o =>
    let new := be 8 (ofI 64 (toI 64 (msgField d o 8 8) + residence))
    let v := putBytes d.val (o + 8) 8 (natsVal new)
    if frameWord d (typeOffset d) = 0x88F7 then ⟨d.len, v⟩
    else
      let sum := checksumMoved (frameWord d (o - 2)) (le 8 (bytesAt d.val (o + 8) 8)) new
      ⟨d.len, putBytes v (o - 2) 2 (natsVal (be 2 sum))⟩

/-- Is a frame a Sync or a Delay_Req, whose residence the transparent clock adds (R266)? -/
def residenceDue (d : Datum) : Bool :=
  match msgOffset d with
  | none => false
  | some o => decide (msgField d o 0 1 % 16 ≤ 1)

/-- A stretch of time, 2^−16 ns, as counter t measures it. -/
def counterSpan (s : State) (t : Nat) (x : Int) : Int := roundDiv (x * effIncrement s t) (2 ^ 50)

/-- The frame is offered to the context of its domain on the port, stamped now in that context's counter (R266). -/
def offerFrame (s : State) (p : Nat) (d : Datum) : State :=
  match msgOffset d with
  | none => s
  | some o =>
    match frameContext s p d o with
    | none => s
    | some c => frameMessage s c d o (some (tcNow s (cxCounter s c) : Nat))

/-- PASSTHROUGH_FRAME (R266): a frame received on port p leaves on the other, `residence` of real time later, unless the buffer has no
room for it; one that comes with an FCS or coding error is counted and dropped (R276). -/
def passFrame (s : State) (p : Nat) (bad : Bool) (residence : Int) (full : Bool) (d : Datum) : State :=
  if p < 2 ∧ s.rd (key 0x3610 5) = 1 ∧ portUp s p then
    if bad then ethOther s p true else
    let s1 := offerFrame s p d
    let span := counterSpan s (s.rd (key 0x3610 6) % 4) residence
    if full then (s1.inc 32 (key 0x3610 0x0B) 1).hist 0x3610 (2 ^ 3)
    else if residenceDue d then (s1.send (.eth (1 - p) 0x200 (corrected d span))).inc 32 (key 0x3610 0x0C) 1
    else s1.send (.eth (1 - p) 0x200 d)
  else s

/-- ETH_LINK_CHANGE (R275, R278, R159). -/
def ethLink (s : State) (p : Nat) (up : Bool) : State :=
  if p < 2 ∧ portUp s p ≠ up ∧ (up → s.rd (key 0x3611 (1 + 16 * p)) ≠ 0) then
    let s1 := (s.put (key 0x3611 (2 + 16 * p)) (b2n up)).hist 0x3610 (2 ^ p)
    let s2 : State := { s1 with dp := { s1.dp with recSince := s1.dp.recSince.set p (if up then some s.now else none) } }
    if up then s2 else s2.raise 0 5 0x19 (0x300 + p)
  else s

/-- MODE of an Ethernet port (R276): OFF takes the port and its LINK down. -/
def ethMode (s : State) (p v : Nat) : State :=
  let s1 := s.put (key 0x3611 (1 + 16 * p)) v
  if v = 0 then ethLink s1 p false else s1

/-- STATUS of 3610h. -/
def ptpStatus (s : State) : Nat :=
  at_ (portUp s 0) 0 + at_ (portUp s 1) 1 + at_ (s.rd (key 0x3610 5) == 1) 2
    + at_ (decide (0 < s.rd (key 0x3610 8)) && (poolRange s).all fun c => (s.ctxAt c).pool) 3

/-- STATUS of 3700h+c. -/
def ctxStatus (s : State) (c : Nat) : Nat :=
  cxRef s c + cxPortState s c * 8 + at_ (bit (s.ctxRec c 146 2) 0) 7 + at_ (s.ctxAt c).pool 8

/-! Virtual ports (R265). -/

/-- Does an RX record name no virtual port, or has it a LENGTH outside its range or beyond the record (R265)? -/
def rxRecordShort (d : Datum) : Bool :=
  let n := bytesAt d.val 2 2
  decide (15 < byteAt d.val 0) || decide (n < 14 ∨ 1518 < n ∨ d.len < 16 + n)

/-- Is an RX record refused: as such, or for a disabled virtual port (R265)? -/
def rxRecordBad (s : State) (d : Datum) : Bool := rxRecordShort d || !bit (s.rd (key 0x3612 1)) (byteAt d.val 0)

/-- RX_RECORD_WRITE (R265): a refused record is counted in RX_REFUSED where it is refused. -/
def rxRecord (s : State) (d : Datum) : State :=
  let f : Datum := ⟨bytesAt d.val 2 2, bytesAt d.val 16 (bytesAt d.val 2 2)⟩
  let time : Int := ((bytesAt d.val 4 6 * 1000000000 + bytesAt d.val 10 4) * 65536 + bytesAt d.val 14 2 : Nat)
  match msgOffset f with
  | none => s
  | some o =>
    match frameContext s (0x10 + byteAt d.val 0) f o with
    | none => s
    | some c => frameMessage s c f o (if bit (byteAt d.val 1) 0 then some time else none)

/-- TX_STAMP_WRITE (R265): the stamp completes the exchange that waits for its TAG. -/
def txStamp (s : State) (d : Datum) : State :=
  let tag := bytesAt d.val 2 2
  let t : Int := ((bytesAt d.val 4 6 * 1000000000 + bytesAt d.val 10 4) * 65536 + bytesAt d.val 14 2 : Nat)
  match (List.range 256).find? fun c =>
      cxPort s c == 0x10 + byteAt d.val 0 && (s.ctxAt c).stamps.any fun w => w.tag == tag with
  | none => s
  | some c =>
    match (s.ctxAt c).stamps.find? fun w => w.tag == tag with
    | none => s
    | some w =>
      let s1 := s.setCtx c fun x => { x with stamps := x.stamps.filter fun y => y.tag != tag }
      if w.type_ = 0 then ptpSend s1 c 8 w.seq (ptpFrac t) false (ptpTime t)
      else if w.type_ = 3 then ptpSend s1 c 10 w.seq (w.corr + ptpFrac t) false (ptpTime t ++ be 10 w.peer)
      else s1.setCtx c fun x => { x with req := some (w.seq, t) }

/-- TX_STAMP_MISSING (R265): 100 ms without a stamp; the oldest waiting frame of the context gets none. -/
def txStampMissing (s : State) (c : Nat) : State :=
  match (s.ctxAt c).stamps with
  | [] => s
  | _ :: r =>
    (((cxCount (s.setCtx c fun x => { x with stamps := r }) c 15).hist (0x3700 + c) (2 ^ 5)).inc 32 (key 0x3612 7) 1).hist 0x3610 (2 ^ 5)

/-- TX_RECORD_POP (R265): the oldest record, or 4 bytes with VPORT 0xFF. -/
def txRecord (s : State) : Datum × State :=
  match s.ptp.txq with
  | [] => (⟨4, 0xFF⟩, s)
  | d :: r => (d, { s with ptp := { s.ptp with txq := r } })

/-! Configuration (R266 to R268, R274). -/

/-- ENABLE of a context (R268, R274, R398): a PTP port starts in INITIALIZING, or DISABLED while its instance is. -/
def ctxEnable (s : State) (c : Nat) (on : Bool) : State :=
  let s1 := ctxForget (s.put (key (0x3700 + c) 6) (b2n on)) c
  let s2 := s1.setCtx c fun x => { x with foreign := [], stamps := [], grants := [], degraded := false, bad := false }
  let st := if cxPtp s c = false then 0 else if on ∧ s.tcReg (cxCounter s c) 0x22 = 1 then 1 else 3
  let s3 := (s2.putCtxRec c 64 1 st).putCtxRec c 66 2 (if cxPtp s c then portNumber (cxPort s c) else 0)
  ctxRefresh (if on then assignEngine s3 c else unassignEngine s3 c) c

/-- PTP_ENABLE of instance t (R262, R268): its contexts start, or stay DISABLED. -/
def ptpEnable (s : State) (t v : Nat) : State :=
  let s1 := s.put (key (0x3600 + t) 0x22) v
  if s.tcReg t 0x22 = v then s1
  else s1.many (List.range 256) fun c s =>
    if cxPtp s c ∧ cxCounter s c = t ∧ cxEnabled s c then toPortState s c (if v = 1 then 1 else 3) else s

/-- CONTEXT_RESTART (R274): the port state goes to INITIALIZING. -/
def ctxRestart (s : State) (c : Nat) : State :=
  if cxPtp s c ∧ cxEnabled s c ∧ s.tcReg (cxCounter s c) 0x22 = 1 then
    toPortState (s.setCtx c fun x => { x with foreign := [] }) c 1
  else s

/-- CONTEXT_CLEAR_COUNTERS: the 16 counters of the record. -/
def ctxClearCounters (s : State) (c : Nat) : State := s.putCtxRec c 192 64 0

/-- CONFIG: the 64 bytes, after which the rest of the record is as for a context never enabled: a PTP context has its port number and
is DISABLED (R268, R273). -/
def ctxConfig (s : State) (c v : Nat) : State :=
  let s1 := (s.put (key (0x3700 + c) 7) (v % 2 ^ 512)).setCtx c fun _ => {}
  s1.when (cxPtp s1 c) fun s => (s.putCtxRec c 64 1 3).putCtxRec c 66 2 (portNumber (cxPort s c))

/-- OFFSET_IN (R271): one SERVO offset; a change of MASTER_TAG is a master change. -/
def offsetIn (s : State) (c v : Nat) : State :=
  let tag := bytesAt v 18 2
  let fl := byteAt v 20
  let s1 := if tag = s.ctxRec c 98 2 then s else ctxMasterChange (s.putCtxRec c 98 2 tag) c
  let s2 := s1.setCtx c fun x =>
    { x with degraded := bit fl 0, bad := bit fl 1, rateNow := x.rateNow + (if bit fl 1 then 0 else 1) }
  ctxOffset s2 c (toI 64 (bytesAt v 0 8)) (ofTime80 (bytesAt v 8 10) : Nat) (!bit fl 1)

/-- Whole second: the rate of OFFSET_IN writes is that of the second that ended (R155). -/
def ctxSecond (s : State) : State :=
  { s with ctxs := s.ctxs.map fun x => { x with rateLast := x.rateNow, rateNow := 0 } }

end Sys2Proof.Machine
end

