-- ==== Sys2Proof/Machine/Sched.lean ====
section
/-! DEFINITION. The action table: writing entries, arming, dispatching and running occurrences (chapter 09 of spec/). -/

namespace Sys2Proof.Machine

/-! Entries (R279, R280). -/

/-- Is a 40-byte record refused (R279, R280)? 0 for no. The length and the ARMED state are checked apart. -/
def entryRefuse (r : Nat) : Nat :=
  let tg := recTarget r
  let p := recPeriod r
  let a := recArg r
  let v := recValue r
  let shape := decide (tg ≤ 8) && decide (recCounter r < 4) && decide (byteAt r 2 < 2) && byteAt r 3 == 0
    && decide (bytesAt r 10 4 < 1000000000) && (p == 0 || decide (655360000 ≤ p ∧ p ≤ 5662310400000000000))
  let target :=
    if tg = 1 then
      decide (a < 96 ∧ v % 4 < 3 ∧ v % 2 ^ 32 < 4) && (v % 4 != 0 || decide (4 ≤ v / 2 ^ 32 ∧ v / 2 ^ 32 ≤ 1000000000))
    else if tg = 2 then decide (a < 96)
    else if tg = 3 then decide (0 < a ∧ a < 65536)
    else if tg = 4 then decide (a < 24)
    else if tg = 5 ∨ tg = 6 then decide (a < 4)
    else if tg = 7 then decide (a < 16 ∧ 1 ≤ v ∧ v ≤ 6)
    else if tg = 8 then decide (a < 16 ∧ absI (toI 64 v) ≤ 65536000000000)
    else true
  if shape && target then 0 else 0x06090030

/-- Is a write of ENTRY refused while the entry is ARMED (R279)? -/
def entryArmed (s : State) (e : Nat) : Bool := (s.schedAt e).state == 1

/-- ENTRY takes effect. -/
def entryPut (s : State) (e v : Nat) : State := s.put (key (0x3620 + e / 16) (5 + e % 16)) v

/-- Is ARM refused (R282)? 0 for no. -/
def armRefuse (s : State) (b mask : Nat) : Nat :=
  let l := (bitList 16 mask).map fun i => 16 * b + i
  if l.any (entryArmed s) then 0x08000021
  else if l.any (fun e => recTarget (schedRec s e) == 0) then 0x06090030
  else if l.any (fun e => (s.tcAt (recCounter (schedRec s e))).unset) then 0x08000022
  else 0

/-- ARM takes effect (R281, R282, R286). -/
def armEntries (s : State) (b mask : Nat) : State :=
  s.many (bitList 16 mask) fun i s =>
    s.setSched (16 * b + i) fun _ => { state := 1, since := (tcNow s (recCounter (schedRec s (16 * b + i))) : Nat) }

/-- DISARM takes effect (R282): entries that are not ARMED are left. -/
def disarmEntries (s : State) (b mask : Nat) : State :=
  s.many (bitList 16 mask) fun i s =>
    s.setSched (16 * b + i) fun q => if q.state = 1 then { q with state := 0, sent := false, due := false } else q

/-! Occurrences (R283 to R288). -/

/-- Instant of the next occurrence of entry e. -/
def schedInstant (s : State) (e : Nat) : Nat := occInstant (schedRec s e) (s.schedAt e).occ

/-- Is the next occurrence late (R286)? -/
def schedLate (s : State) (e : Nat) : Bool :=
  let q := s.schedAt e
  q.passed || decide ((schedInstant s e : Int) < q.since + 131072000)

/-- The placement less the instant (R286): 0 when the occurrence can still be placed at its instant. -/
def schedLateness (s : State) (e instant : Nat) : Int :=
  let q := s.schedAt e
  if q.passed ∨ (instant : Int) < q.since then (tcNow s (recCounter (schedRec s e)) : Int) - instant else 0

/-- HISTORY of the block and the messages of an occurrence (R290, R292). -/
def schedTell (s : State) (e : Nat) (ran late dropped refused : Bool) : State :=
  let s1 := s.hist (0x3620 + e / 16) (at_ ran (e % 16) + at_ (late || dropped || refused) (16 + e % 16))
  let s2 := s1.when (late && ran) fun s => s.raise 0 6 0x1A (0x400 + e)
  let s3 := s2.when dropped fun s => s.raise 0 6 0x1B (0x400 + e)
  s3.when refused fun s => s.raise 0 6 0x1C (0x400 + e)

/-- The occurrence is handled: the next one becomes pending, or the entry is DONE (R283, R286). -/
def schedNext (s : State) (e : Nat) : State :=
  let r := schedRec s e
  s.setSched e fun q =>
    if q.state ≠ 1 then q
    else if recPeriod r = 0 ∨ (recCount r ≠ 0 ∧ recCount r ≤ q.runs + q.drops + q.skipped) then { q with state := 2, due := false }
    else { q with occ := q.occ + 1, since := (tcNow s (recCounter r) : Nat), passed := false, sent := false, due := false }

/-- An occurrence has run: late or not, refused with a code or not (R281, R286, R288). -/
def schedRan (s : State) (e : Nat) (late : Bool) (lateness : Int) (code : Nat) : State :=
  schedTell (s.setSched e fun q =>
    { q with runs := cut 32 (q.runs + 1), lateness := if late then lateness else q.lateness,
             code := if code ≠ 0 then code else q.code,
             flags := setBits q.flags (at_ late 0 + at_ (decide (code ≠ 0)) 2) }) e true late false (decide (code ≠ 0))

/-- An occurrence is discarded under DROP (R286). -/
def schedDrop (s : State) (e : Nat) : State :=
  schedNext (schedTell (s.setSched e fun q => { q with drops := cut 32 (q.drops + 1), flags := setBits q.flags 2 }) e
    false false true false) e

/-- A time as 12 bytes: seconds, nanoseconds, FRAC16 (R281). -/
def time12 (t : Nat) : Nat := time80 t + t % 65536 * 2 ^ 80

/-- A gate is started by an action at an exact instant (R284, R115): 0, or the code of its refusal. A gate that measures
in the time base starts at the instant in that base. -/
def gateAction (s : State) (g t instant : Nat) : Nat × State :=
  if s.gateCfg g 7 = 1 ∧ gateTc s g ≠ t ∧ gateChans s g ≠ [] then (0x06090030, s)
  else if (s.gateAt g).state ≠ .armed then (0, s.hist (0x3300 + g) (2 ^ 2))
  else if s.gateCfg g 8 ≠ 0x7F then (0, s)
  else
    let at_ : Int := if s.gateCfg g 7 = 1 then (instant : Nat) else rawNow s + ((instant : Int) - (tcNow s t : Nat))
    (0, gateStart s g at_ (instantStamp s g 127 at_))

/-- An action on H or on the C dies runs (R284, R287, R288): the code of its refusal, 0 when it is done. -/
def schedAct (s : State) (e r instant : Nat) : Nat × State :=
  let tg := recTarget r
  let a := recArg r
  if tg = 2 then (if alignEligible s a then (0, alignOne s a) else (0x08000022, s))
  else if tg = 3 then (0, alignGroups s (maskOf ((List.range 16).filter fun g => bit a g)))
  else if tg = 4 then gateAction s a (recCounter r) instant
  else if tg = 5 then (0, s.setSched e fun q => { q with captured := time12 (if q.due then q.seen else tcNow s a) })
  else if tg = 6 then
    (if tcTied s a ∧ wholeSecond (toI 64 (recValue r)) = false then (0x06090030, s)
     else (0, tcRequest s a (.tamp (toI 64 (recValue r)))))
  else (0, s)

/-- Takes the first flight of entry e out of a list. -/
def takeFlight (e : Nat) : List Flight → Option (Flight × List Flight)
  | [] => none
  | f :: r => if f.entry = e then some (f, r) else match takeFlight e r with | some (g, q) => some (g, f :: q) | none => none

/-- An occurrence goes out on its pulse line (R285). -/
def schedDispatch (s : State) (e : Nat) : State :=
  let i := schedInstant s e
  let q := s.schedAt e
  let f : Flight := { entry := e, rec_ := schedRec s e, instant := i, late := schedLate s e, passed := q.passed || decide ((i : Int) < q.since) }
  ({ s with sched := { s.sched with flights := s.sched.flights ++ [f] } }.setSched e fun q => { q with sent := true, due := false }).send
    (.dispatch e i)

/-- ACTION_DISPATCH (R285): 1 µs before the instant. -/
def actionDispatch (s : State) (e : Nat) : State :=
  let r := schedRec s e
  let q := s.schedAt e
  if q.state = 1 ∧ q.sent = false ∧ 1 ≤ recTarget r ∧ recTarget r ≤ 3
      ∧ schedInstant s e ≤ tcNow s (recCounter r) + 65536000 ∧ (recDrop r ∧ schedLate s e) = false then
    schedDispatch s e
  else s

/-- The occurrences on the pulse lines, and those on their way to S. -/
def State.setFlights (s : State) (l : List Flight) : State := { s with sched := { s.sched with flights := l } }
def State.setToS (s : State) (l : List Flight) : State := { s with sched := { s.sched with toS := l } }

/-- A dispatched occurrence acts at its channel, and counts for its entry. -/
def flightRun (s : State) (f : Flight) (act : State → Nat × State) : State :=
  let lateness : Int := if f.passed then (tcNow s (recCounter f.rec_) : Int) - f.instant else 0
  let r := act s
  let s1 := schedRan r.2 f.entry f.late lateness r.1
  if (s.schedAt f.entry).sent then schedNext s1 f.entry else s1

/-- EDGE on an output (R287 to R289): the code of its refusal, and the overlay. Its edge lies at the instant, or now where that cannot be
met, plus FINE_DELAY; of two at one instant the higher entry number stays. -/
def edgeAct (s : State) (f : Flight) : Nat × State :=
  let r := f.rec_
  let n := recArg r
  let v := recValue r
  let back := if f.passed then 0 else tcNow s (recCounter r) - f.instant
  let from_ := s.now * 65536 - back + fineUnits (s.chCfg n 0x0D)
  let role := s.chCfg n 1
  if (role ≠ 2 ∧ role ≠ 3) ∨ s.chCfg n 0x0E = 1 then (0x08000021, s)
  else if (s.outAt n).forced then (0x08000022, s)
  else (0, s.setOut n fun o =>
    if o.pulseFrom = from_ ∧ f.entry < o.edgeBy then o
    else { o with overlay := if v % 4 = 0 then 2 else if v % 4 = 1 then 1 else 0, pulseFrom := from_,
                  pulseEnd := from_ + v / 2 ^ 32 * 65536, edgeBy := f.entry })

/-- EDGE_ACTION_FIRES (R289): a dispatched EDGE reaches its instant, or fires as soon as it arrives. -/
def edgeFires (s : State) (e : Nat) : State :=
  match takeFlight e s.sched.flights with
  | none => s
  | some (f, l) =>
    if recTarget f.rec_ = 1 ∧ f.instant ≤ tcNow s (recCounter f.rec_) then
      flightRun (s.setFlights l) f fun s => edgeAct s f
    else s

/-- A dispatched ALIGN reaches the C die at its instant (R287). -/
def alignFlight (s : State) (e : Nat) : Option (Flight × List Flight) :=
  match takeFlight e s.sched.flights with
  | none => none
  | some (f, l) => if recTarget f.rec_ ≠ 1 ∧ f.instant ≤ tcNow s (recCounter f.rec_) then some (f, l) else none

/-- Is entry i to be handled at this tick: its counter has reached the instant, at a tick or by a step that is over? -/
def dueNow (s : State) (i : Nat) : Bool :=
  let q := s.schedAt i
  let t := recCounter (schedRec s i)
  q.state == 1 && !q.sent && (q.due || (decide (schedInstant s i ≤ tcNow s t) && (s.tcAt t).tieStepping == 0))

/-- The occurrence of entry e that is due is handled (R284, R286). -/
def actionRun (s : State) (e : Nat) : State :=
  match alignFlight s e with
  | some (f, l) => flightRun (s.setFlights l) f fun s => schedAct s e f.rec_ f.instant
  | none =>
    let r := schedRec s e
    let i := schedInstant s e
    let late := schedLate s e
    if dueNow s e = false then s
    else if late ∧ recDrop r then schedDrop s e
    else if recTarget r = 1 then schedDispatch s e
    else if 7 ≤ recTarget r then
      let f : Flight := { entry := e, rec_ := r, instant := i, late := late }
      schedNext (schedRan (s.setToS (s.sched.toS ++ [f])) e late
        ((tcNow s (recCounter r) : Int) - i) 0) e
    else
      let a := schedAct s e r i
      schedNext (schedRan a.2 e late (schedLateness s e i) a.1) e

/-- ACTION_DUE (R283): of the entries due, those with lower numbers come first. -/
def actionDue (s : State) (e : Nat) : State :=
  actionRun (s.many ((List.range (min e 64)).filter fun i => dueNow s i || (alignFlight s i).isSome) fun i s => actionRun s i) e

/-- The code with which S refuses an action on a DPLL (R288, R170, R182). -/
def dpllActionRefuse (s : State) (r : Nat) : Nat :=
  if recTarget r = 7 then dpCommandRefuse s (recArg r) (recValue r % 256) (s.dpCfg (recArg r) 1) else 0

/-- SCHED_DPLL_ACTION_ARRIVES (R285, R288): the DPLL acts at its next update. -/
def schedArrives (s : State) (e : Nat) : State :=
  match takeFlight e s.sched.toS with
  | none => s
  | some (f, l) =>
    carried s 6 true (transferWords (key (0x3400 + recArg f.rec_) (if recTarget f.rec_ = 7 then 0x18 else 0x17)) ⟨8, recValue f.rec_⟩) fun s =>
      let s1 := s.setToS l
      let k := recArg f.rec_
      let c := dpllActionRefuse s f.rec_
      if c ≠ 0 then
        schedTell (s1.setSched e fun q => { q with flags := setBits q.flags 4, code := c }) e false false false true
      else
        let s2 := { s1 with sched := { s1.sched with atS := s1.sched.atS ++ [f] } }
        if recTarget f.rec_ = 7 then dpQueue s2 k (recValue f.rec_ % 256) else dpTamp s2 k (toI 64 (recValue f.rec_))

/-- The update of DPLL k places the actions that have reached it: LATENESS of those that are late is taken there (R286, R287). -/
def schedPlaced (s : State) (k : Nat) : State :=
  let l := s.sched.atS.filter fun f => recArg f.rec_ == k
  ({ s with sched := { s.sched with atS := s.sched.atS.filter fun f => recArg f.rec_ != k } } : State).many (l.filter (·.late)) fun f s =>
    s.setSched f.entry fun q => { q with lateness := (tcNow s (recCounter f.rec_) : Int) - f.instant }

/-! Results (R281, R290). -/

/-- RESULT of entry e: 64 bytes. -/
def schedResult (s : State) (e : Nat) : Nat :=
  let q := s.schedAt e
  q.state + q.flags * 2 ^ 8 + q.runs % 2 ^ 32 * 2 ^ 32 + q.drops % 2 ^ 32 * 2 ^ 64 + q.skipped % 2 ^ 32 * 2 ^ 96
    + ofI 64 q.lateness * 2 ^ 128 + (if q.state = 1 then time12 (schedInstant s e) else 0) * 2 ^ 192
    + q.captured % 2 ^ 96 * 2 ^ 288 + q.code % 2 ^ 32 * 2 ^ 384

/-- STATUS of block b. -/
def schedStatus (s : State) (b : Nat) : Nat :=
  (List.range 16).foldl (fun a i =>
    let q := s.schedAt (16 * b + i)
    a + at_ (q.state == 1) i + at_ (decide (q.flags % 8 ≠ 0)) (16 + i)) 0

end Sys2Proof.Machine
end

