-- ==== Sys2Proof/Machine/FabPorts.lean ====
section
/-! DEFINITION. The fabric's ports: credits, sending and forwarding frames, routing tables, election and training
(chapter 10 of spec/, R293 to R314). -/

namespace Sys2Proof.Machine

def State.portAt (s : State) (p : Nat) : FabPort := s.fab.ports.getD p {}
def State.setPort (s : State) (p : Nat) (f : FabPort → FabPort) : State :=
  s.setFab fun x => { x with ports := upd x.ports p f }
def FabPort.setClass (x : FabPort) (c : Nat) (f : FabClass → FabClass) : FabPort := { x with classes := upd x.classes c f }
def FabPort.cls (x : FabPort) (c : Nat) : FabClass := x.classes.getD c {}

/-- Entry of the fabric record, and of port p. -/
def State.fb (s : State) (sub : Nat) : Nat := s.rd (key 0x3800 sub)
def State.fp (s : State) (p sub : Nat) : Nat := s.rd (key (0x3804 + p) sub)

/-- IDENTITY: the device's unique identity (R53, R311). -/
def identity (s : State) : Nat := s.rd (key 0x2000 3) % 2 ^ 32 + s.rd (key 0x2000 4) % 2 ^ 32 * 2 ^ 32

/-- FAB_COUNTER and its time, 2^−16 ns (R304, R315). -/
def fabTc (s : State) : Nat := s.fb 5 % 4
def fabNow (s : State) : Int := (tcNow s (fabTc s) : Nat)

/-- Port STATE UP (R299). -/
def fabUp (s : State) (p : Nat) : Bool := s.fp p 2 == 2

/-! Credits (R300, R303). -/

/-- CAPACITY of each class (R300). -/
def fabCapacity (c : Nat) : Nat := if c = 0 then 128 else if c = 1 then 256 else if c = 2 then 512 else 1024

/-- Cells of a frame with `n` payload bytes (R297). -/
def fabCells (n : Nat) : Nat := (16 + n + 63) / 64

/-- RETURNED and IN_FLIGHT, modulo 2^32 (R300). -/
def fabReturned (x : FabClass) : Nat := cut 32 (x.heardFreed + x.adj)
def fabInFlight (x : FabClass) : Nat := cut 32 (x.issued + 2 ^ 32 - fabReturned x)

/-- OCCUPIED of the receive buffer. -/
def fabOccupied (x : FabClass) : Nat := cut 32 (x.accepted + 2 ^ 32 - x.freed)

/-- CREDIT_RECORD of port p (R337). -/
def creditRecord (s : State) (p : Nat) : Nat :=
  (List.range 4).foldl (fun a c =>
    let x := (s.portAt p).cls c
    a + (x.issued % 2 ^ 32 + fabReturned x * 2 ^ 32 + x.wireLost % 2 ^ 32 * 2 ^ 64 + fabInFlight x % 2 ^ 16 * 2 ^ 96
      + fabCapacity c * 2 ^ 112) * 2 ^ (128 * c)) 0

/-- A CREDIT ordered set (R296): its FREED goes out. -/
def sendCredit (s : State) (p c : Nat) : State :=
  if fabUp s p then s.send (.fab p c 0x101 0 ⟨4, cut 32 ((s.portAt p).cls c).freed⟩) else s

/-- The receiver frees cells, and reports them (R300). -/
def fabFree (s : State) (p c cells : Nat) : State :=
  sendCredit (s.setPort p fun x => x.setClass c fun y => { y with freed := cut 32 (y.freed + cells) }) p c

/-! Slots (R304). -/

/-- The code of the slot in progress on port p. -/
def slotCode (s : State) (p : Nat) : Nat :=
  byteAt (s.rd (key (0x3808 + p) 1)) ((fabNow s).toNat % (15625000 * 65536) * 256 / (15625000 * 65536))

/-! Sending (R300, R301). -/

/-- Has a class of port p a frame that its credit covers? -/
def fabReady (x : FabPort) (c : Nat) : Bool :=
  match (x.cls c).queue with
  | [] => false
  | t :: _ => decide (fabInFlight (x.cls c) + fabCells t.f.payload.len ≤ fabCapacity c)

/-- The class that sends next (R301): SYNC, MGMT, then STAMP and BULK at 3 : 1 in cells. -/
def fabChoose (x : FabPort) : Option Nat :=
  if fabReady x 0 then some 0
  else if fabReady x 1 then some 1
  else if fabReady x 2 ∧ (fabReady x 3 = false ∨ x.rrStamp ≤ 3 * x.rrBulk) then some 2
  else if fabReady x 3 then some 3 else none

/-- The cells that a frame held at its ingress are freed once it has left (R300). -/
def fabRelease (s : State) (t : TxFrame) : State :=
  match t.hold with
  | some p => fabFree s p t.f.cls (fabCells t.f.payload.len)
  | none => s

/-- Frames leave port p while it is UP, no QUIET slot runs and credit lasts. -/
def fabPump (s : State) (p : Nat) : Nat → State
  | 0 => s
  | fuel + 1 =>
    if fabUp s p = false ∨ slotCode s p = 3 then s
    else match fabChoose (s.portAt p) with
      | none => s
      | some c =>
        match ((s.portAt p).cls c).queue with
        | [] => s
        | t :: r =>
          let n := fabCells t.f.payload.len
          let s1 := s.setPort p fun x =>
            let y := x.setClass c fun y => { y with issued := cut 32 (y.issued + n), queue := r }
            let st := if c = 2 then x.rrStamp + n else x.rrStamp
            let bu := if c = 3 then x.rrBulk + n else x.rrBulk
            if (x.cls 2).queue = [] ∨ (x.cls 3).queue = [] then { y with rrStamp := 0, rrBulk := 0 }
            else { y with rrStamp := st, rrBulk := bu }
          fabPump (fabRelease (s1.send (.frame p t.f)) t) p fuel

/-- The frames queued at a port. -/
def fabQueued (x : FabPort) : Nat := (x.classes.map fun y => y.queue.length).foldl (· + ·) 0

/-- Every port sends what it can. -/
def fabPumpAll (s : State) : State := s.many (List.range 4) fun p s => fabPump s p (fabQueued (s.portAt p))

/-- A frame's place in its queue: the last, and a TIMING_FOLLOW_UP ahead of all that is no such frame (R304). -/
def fabPlace (t : TxFrame) : List TxFrame → List TxFrame
  | [] => [t]
  | u :: r => if t.f.type_ = 0x10 ∧ u.f.type_ ≠ 0x10 then t :: u :: r else u :: fabPlace t r

/-- A frame is queued at port p. -/
def fabQueue (s : State) (p : Nat) (t : TxFrame) : State :=
  let s1 := s.setPort p fun x => x.setClass t.f.cls fun y => { y with queue := fabPlace t y.queue }
  fabPump s1 p (fabQueued (s1.portAt p))

/-- Is the frame one that a BOUNDARY link carries (R309): HELLO, BLEND_PROPOSAL, BLEND_ANNOUNCE, and the TIMING_FOLLOW_UP of the exchanges
that a blend measures (R326, log entry 37)? -/
def boundaryOk (f : FabFrame) : Bool := f.type_ == 1 || f.type_ == 8 || f.type_ == 9 || f.type_ == 0x10

/-- Can port p take a frame: UP, and no BOUNDARY link that does not carry it? -/
def fabTakes (s : State) (p : Nat) (f : FabFrame) : Bool := fabUp s p && (!(s.portAt p).boundary || boundaryOk f)

/-- A frame of this device's own to the neighbour on port p. -/
def fabLocal (s : State) (p cls type_ : Nat) (payload : List Nat) : State :=
  let f : FabFrame := { cls := cls, type_ := type_, src := s.fb 0x0A, length := payload.length, payload := datumOf payload }
  if fabTakes s p f then fabQueue s p { f := f } else s

/-! Roles (R308). -/

/-- ROLE of port p. -/
def fabRole (s : State) (p : Nat) : Nat :=
  if fabUp s p = false then 0
  else if (s.portAt p).boundary then 4
  else if s.fb 0x0E = p then 1
  else if bit (s.portAt p).nbrFlags 0 then 2 else 3

/-- The ROLE entries follow. -/
def fabRoles (s : State) : State := s.many (List.range 4) fun p s => s.put (key (0x3804 + p) 3) (fabRole s p)

/-- The ports that carry broadcast: PARENT and CHILD (R308). -/
def treePorts (s : State) : List Nat := (List.range 4).filter fun p => fabRole s p == 1 || fabRole s p == 2

/-- A broadcast of this device's own. -/
def fabBroadcast (s : State) (cls type_ : Nat) (payload : List Nat) (but : Option Nat) : State :=
  s.many ((treePorts s).filter fun p => some p != but) fun p s =>
    fabQueue s p { f := { cls := cls, type_ := type_, dest := 0xFFF, src := s.fb 0x0A, length := payload.length,
                          payload := datumOf payload } }

/-! Routing (R312 to R314). -/

/-- The best way to a destination so far: a lower distance wins, the lower port first. -/
def routeBetter (t : List (Nat × Nat × Nat)) (a p d : Nat) : List (Nat × Nat × Nat) :=
  match t.find? fun e => e.1 == a with
  | some e => if d < e.2.2 then t.map fun x => if x.1 = a then (a, p, d) else x else t
  | none => t ++ [(a, p, d)]

/-- The table that the present vectors give. -/
def routeTable (s : State) : List (Nat × Nat × Nat) :=
  ((List.range 4).filter fun p => fabUp s p && !(s.portAt p).boundary).foldl (fun t p =>
    (s.portAt p).vector.foldl (fun t e =>
      if e.2.1 + 1 < 64 ∧ e.1 ≠ 0 ∧ e.1 ≠ s.fb 0x0A then routeBetter t e.1 p (e.2.1 + 1) else t) t) []

/-- A change of a port or a vector starts a rebuild, or the next one (R313). -/
def routeChange (s : State) : State :=
  if s.fab.rebuilding then s.setFab fun x => { x with again := true }
  else s.setFab fun x => { x with back := routeTable s, rebuilding := true }

/-- The next port toward a destination in the table in use. -/
def routeLookup (s : State) (dest : Nat) : Option (Nat × Nat) :=
  (s.fab.table.find? fun e => e.1 == dest).map fun e => e.2

/-- LOOKUP_RESULT (R336). -/
def lookupResult (s : State) : Nat :=
  let d := s.rd (key 0x3802 7)
  if d = s.fb 0x0A ∧ d ≠ 0 then 0xFE
  else match routeLookup s d with
    | some (p, n) => p + n * 256
    | none => 0xFF + 64 * 256

/-- A NOROUTE drop: its cells are freed; the first after 100 ms without one is reported (R314). -/
def norouteDrop (s : State) (t : TxFrame) : State :=
  let s1 := (fabRelease s t).inc 32 (key 0x3802 3) 1
  let first := match s.fab.noroute with | some a => decide (a + 100000000 ≤ s.now) | none => true
  let s2 := s1.setFab fun x => { x with noroute := some s.now }
  s2.when first fun s => (s.hist 0x3800 (2 ^ 8)).raise 0 8 0x22 0x510

/-- A frame is looked up and goes on, or waits in the pending queue of 32 (R313, R314). -/
def fabRoute (s : State) (t : TxFrame) : State :=
  match routeLookup s t.f.dest with
  | some (p, _) =>
    if fabTakes s p t.f then fabQueue s p t
    else if s.fab.pending.length < 32 then s.setFab fun x => { x with pending := x.pending ++ [t] }
    else norouteDrop s t
  | none =>
    if s.fab.pending.length < 32 then s.setFab fun x => { x with pending := x.pending ++ [t] } else norouteDrop s t

/-- A frame of this device's own to another device. -/
def fabSendTo (s : State) (dest cls type_ : Nat) (payload : List Nat) : State :=
  fabRoute s { f := { cls := cls, type_ := type_, dest := dest, src := s.fb 0x0A, length := payload.length,
                      payload := datumOf payload } }

/-- PENDING_FRAME_EXPIRY (R314): the oldest pending frame has waited 256 µs. -/
def pendingExpiry (s : State) : State :=
  match s.fab.pending with
  | [] => s
  | t :: r => norouteDrop (s.setFab fun x => { x with pending := r }) t

/-- Has the table in use a way whose port takes the frame? -/
def routable (s : State) (t : TxFrame) : Bool :=
  match routeLookup s t.f.dest with | some (p, _) => fabTakes s p t.f | none => false

/-- The frames queued at port p when its link comes up BOUNDARY (R309): those that it carries stay, one for another device is looked up
again, and the rest are dropped with their cells freed (log entry 37). -/
def boundaryQueues (s : State) (p : Nat) : State :=
  let l := (List.range 4).flatMap fun c => ((s.portAt p).cls c).queue.filter fun t => !boundaryOk t.f
  let s1 := s.setPort p fun x =>
    { x with classes := x.classes.map fun y => { y with queue := y.queue.filter fun t => boundaryOk t.f } }
  s1.many l fun t s => if t.f.dest = 0 ∨ t.f.dest = 0xFFF then fabRelease s t else fabRoute s t

/-- ROUTE_UPDATE of port p (R312): this device at distance 0 and its table, poisoned toward the port. -/
def routeEntries (s : State) (p : Nat) : List (Nat × Nat) :=
  (if s.fb 0x0A = 0 then [] else [(s.fb 0x0A, 0)]) ++ s.fab.table.map fun e => (e.1, if e.2.1 = p then 64 else e.2.2)

/-- Lists of at most 512. -/
def chunks512 (l : List (Nat × Nat)) : Nat → List (List (Nat × Nat))
  | 0 => []
  | fuel + 1 => if l = [] then [] else l.take 512 :: chunks512 (l.drop 512) fuel

/-- Ports that carry routes. -/
def routePorts (s : State) : List Nat := (List.range 4).filter fun p => fabUp s p && !(s.portAt p).boundary

/-- Send ROUTE_UPDATE, unless E14 restarts (R401). -/
def sendRoutes (s : State) (p : Nat) : State :=
  if engineUp s 14 then
    ((s.many (chunks512 (routeEntries s p) 9) fun l s =>
      fabLocal s p 1 2 (l.foldr (fun e a => le 2 e.1 ++ [e.2, 0] ++ a) [])).setPort p fun x => { x with lastUpdate := some s.now, updateOwed := false })
  else s

/-- The changed routes go out on port p at once, or when 10 ms have passed since its last update (R312). -/
def routeNews (s : State) (p : Nat) : State :=
  match (s.portAt p).lastUpdate with
  | some a => if a + 10000000 ≤ s.now then sendRoutes s p else s.setPort p fun x => { x with updateOwed := true }
  | none => sendRoutes s p

/-- The updates that have waited for their 10 ms (R312). -/
def routesOwed (s : State) : State :=
  s.many ((routePorts s).filter fun p => (s.portAt p).updateOwed) fun p s => routeNews s p

/-- ROUTE_UPDATE_TIMER (R312). -/
def routeUpdateTimer (s : State) : State := s.many (routePorts s) fun p s => sendRoutes s p

/-- ROUTE_REBUILD_DONE (R312 to R314): the tables swap, pending frames that now have a way go in order, and the change
goes out, at most once per 10 ms on a port. -/
def rebuildDone (s : State) : State :=
  if s.fab.rebuilding = false then s
  else
    let changed := s.fab.table != s.fab.back || s.fab.tableAddr != s.fb 0x0A
    let s1 := s.setFab fun x => { x with table := x.back, rebuilding := false, again := false, tableAddr := s.fb 0x0A }
    let s2 := ((s1.inc 32 (key 0x3802 1) 1).inc 32 (key 0x3802 2) 1).put (key 0x3800 0x0F) (1 + s1.fab.table.length)
    let l := s2.fab.pending
    let s3 := s2.setFab fun x => { x with pending := l.filter fun t => !routable s2 t }
    let s4 := s3.many (l.filter (routable s2)) fun t s => (fabRoute s t).inc 32 (key 0x3802 5) 1
    let s5 := s4.when (s4.rd (key 0x2043 1) == 1) fun s => progPos s 3 (s.fb 0x0F)
    let s6 := s5.when changed fun s => s.many (routePorts s) fun p s => routeNews s p
    if s.fab.again then routeChange s6 else s6

/-- Entries of a received ROUTE_UPDATE. -/
def parseRoutes (v : Nat) : Nat → List (Nat × Nat)
  | 0 => []
  | n + 1 => (v % 4096, v / 2 ^ 16 % 256) :: parseRoutes (v / 2 ^ 32) n

/-- ROUTE_UPDATE arrives (R312): entries of the vector are refreshed or change; the root hears of its devices. -/
def routeUpdate (s : State) (p : Nat) (d : Datum) : State :=
  let l := parseRoutes d.val (d.len / 4)
  let old := (s.portAt p).vector
  let new := l.foldl (fun v e => (v.filter fun x => x.1 != e.1) ++ [(e.1, e.2, s.now)]) old
  let dist := fun (v : List (Nat × Nat × Nat)) a => (v.find? fun x => x.1 == a).map fun x => x.2.1
  let changed := l.any fun e => dist old e.1 != some e.2
  let s1 := s.setPort p fun x => { x with vector := new }
  let s2 := s1.setFab fun x =>
    { x with assigned := x.assigned.map fun a => if l.any fun e => e.1 == a.2.1 && decide (e.2 < 64) then (a.1, a.2.1, s.now) else a }
  if changed then routeChange s2 else s2

/-- ROUTE_EXPIRY (R312). -/
def routeExpiry (s : State) (p a : Nat) : State :=
  if (s.portAt p).vector.any fun x => x.1 == a then
    routeChange (s.setPort p fun x => { x with vector := x.vector.filter fun y => y.1 != a })
  else s

/-! Addresses (R311). -/

/-- Discovery starts anew (R310). -/
def discoveryStart (s : State) : State := progPos (progStart s 3 0 0xFF) 3 (s.fb 0x0F)

/-- ADDRESS is set: 0 releases it. -/
def setAddress (s : State) (a : Nat) : State :=
  if s.fb 0x0A = a then s
  else routeChange (discoveryStart ((s.put (key 0x3800 0x0A) a).hist 0x3800 (2 ^ 1)))

/-- The lowest address that no assignment holds. -/
def freeAddress (s : State) : Nat :=
  match (List.range 4094).find? fun i => !s.fab.assigned.any fun a => a.2.1 == i + 1 with
  | some i => i + 1
  | none => 0

/-- The preferred address a device sends: its own when it has one (R311). -/
def preferred (s : State) : Nat := if s.fb 0x0A ≠ 0 then s.fb 0x0A else s.fb 9

/-- ADDRESS_GRANT on port p. -/
def sendGrant (s : State) (p id a : Nat) : State := fabLocal s p 1 4 (le 8 id ++ le 2 a)

/-- NO_ADDRESS: the device stays at 000h, sets NO_ADDRESS and tells; discovery ends FAILED (R310, R311). -/
def noAddress (s : State) : State := progEnd (((setAddress s 0).hist 0x3800 (2 ^ 7)).raise 0 8 0x21 0x510) 3 3 0x08000022

/-- What this device has been granted. -/
def takeGrant (s : State) (a : Nat) : State := if a = 0 then noAddress s else setAddress s a

/-- A grant goes toward its device: this one, or by the relay entry. -/
def giveGrant (s : State) (id a : Nat) : State :=
  if id = identity s then takeGrant s a
  else match s.fab.relay.find? fun r => r.1 == id with
    | some r => sendGrant s r.2 id a
    | none => s

/-- The root assigns an address to a device (R311). -/
def assign (s : State) (id want : Nat) : State :=
  let holder := s.fab.assigned.find? fun a => a.2.1 == want && a.1 != id
  let takes := decide (1 ≤ want ∧ want ≤ 4094) && (match holder with | some h => decide (id < h.1) | none => true)
  let s0 := s.setFab fun x => { x with assigned := x.assigned.filter fun a => a.1 != id }
  if takes then
    let s1 := s0.setFab fun x => { x with assigned := (x.assigned.filter fun a => a.2.1 != want) ++ [(id, want, s.now)] }
    let s2 := giveGrant s1 id want
    match holder with
    | some h =>
      let a := freeAddress s2
      giveGrant (s2.setFab fun x => { x with assigned := if a = 0 then x.assigned else x.assigned ++ [(h.1, a, h.2.2)] }) h.1 a
    | none => s2
  else
    let a := freeAddress s0
    giveGrant (s0.setFab fun x => { x with assigned := if a = 0 then x.assigned else x.assigned ++ [(id, a, s.now)] }) id a

/-- Is this device root? -/
def isRoot (s : State) : Bool := s.fb 0x0B == identity s

/-- The device asks for an address: of itself as root, or of its parent; while E14 restarts it sends nothing and asks afterwards (R401). -/
def requestAddress (s : State) : State :=
  if engineUp s 14 = false then s.setFab fun x => { x with askOwed := true }
  else if isRoot s then assign s (identity s) (preferred s)
  else fabLocal s (s.fb 0x0E) 1 3 (le 8 (identity s) ++ le 2 (preferred s))

/-- E14 runs again: an address is asked for where one was to be. -/
def askAgain (s : State) : State :=
  if s.fab.askOwed ∧ engineUp s 14 then requestAddress (s.setFab fun x => { x with askOwed := false }) else s

/-- ADDRESS_RETRY_TIMER (R311). -/
def addressRetry (s : State) : State := if s.fb 0x0A = 0 then requestAddress s else askAgain s

/-- ADDRESS_REQUEST arrives (R311). -/
def addressRequest (s : State) (p : Nat) (d : Datum) : State :=
  if engineUp s 14 = false then s
  else
    let id := bytesAt d.val 0 8
    let s1 := s.setFab fun x => { x with relay := (x.relay.filter fun r => r.1 != id) ++ [(id, p)] }
    if isRoot s then assign s1 id (bytesAt d.val 8 2)
    else fabLocal s1 (s.fb 0x0E) 1 3 (le 8 id ++ le 2 (bytesAt d.val 8 2))

/-- ADDRESS_GRANT arrives (R311): for this device, or relayed down. -/
def addressGrant (s : State) (_p : Nat) (d : Datum) : State :=
  let id := bytesAt d.val 0 8
  let a := bytesAt d.val 8 2
  if engineUp s 14 = false then s
  else if id = identity s then
    if isRoot s then s else takeGrant s a
  else giveGrant s id a

/-- ADDRESS_HOLD_EXPIRY (R311). -/
def addressHold (s : State) (id : Nat) : State :=
  if isRoot s ∧ id ≠ identity s then s.setFab fun x => { x with assigned := x.assigned.filter fun a => a.1 != id } else s

/-- ADDRESS_TABLE (R334): 12 bytes per assignment. -/
def addressTable (s : State) : Datum :=
  datumOf (s.fab.assigned.foldr (fun a r => le 8 a.1 ++ le 2 a.2.1 ++ le 2 (sat 16 ((s.now - a.2.2) / 1000000000)) ++ r) [])

/-- DISCOVERY_DONE (R310). -/
def discoveryDone (s : State) : State :=
  if s.rd (key 0x2043 1) = 1 ∧ s.fb 0x0A ≠ 0 then
    (progSet s 3 2 (s.fb 0x0F) (s.fb 0x0F) 0 0xFF).hist 0x3800 (2 ^ 2)
  else s

/-! Election (R306, R307). -/

/-- GRADE_CLASS: as written, or under AUTO from FAB_COUNTER (R306). -/
def gradeClass (s : State) : Nat :=
  if s.fb 7 = 1 then s.fb 8
  else if tcTied s (fabTc s) = false then 248
  else
    let k := s.tcReg (fabTc s) 8
    let src := match (s.dpllAt k).sel with | some e => candSource s k e | none => 0xFFFF
    if (0x102 ≤ src ∧ src < 0x106) ∨ (0x200 ≤ src ∧ src < 0x300 ∧ cxKind s (src - 0x200) = 3) then 248
    else autoClass s (fabTc s)

/-- GRADE_MODE (R306): what the device wrote last stays in GRADE_CLASS when AUTO ends; under AUTO it reads as the counter is. -/
def gradeMode (s : State) (v : Nat) : State := (s.put (key 0x3800 8) (gradeClass s)).put (key 0x3800 7) v

/-- The device's grade. -/
def ownGrade (s : State) : Nat := s.fb 6 * 256 + gradeClass s

/-- Is `new` a fresh ROOT_SEQ after `last` (R307)? -/
def seqFresh (new last : Nat) : Bool := decide (1 ≤ (new + 65536 - last % 65536) % 65536 ∧ (new + 65536 - last % 65536) % 65536 ≤ 32767)

/-- Ports that bring a root: UP, not BOUNDARY, fresh, below distance 63, and not this device's own root come back. -/
def rootHeard (s : State) : List Nat :=
  (List.range 4).filter fun p =>
    let x := s.portAt p
    fabUp s p && !x.boundary && x.heard && x.fresh && decide (x.nbrDist < 63) && x.nbrRoot != identity s

/-- Of these, the ports whose neighbour has its time; its flag is TIME_UNSET of HELLO. -/
def timePorts (s : State) : List Nat := (rootHeard s).filter fun p => !bit (s.portAt p).nbrFlags 3

/-- Does this device join another's domain whatever the grades: its own counter has TIME_UNSET, and a neighbour's has not (R309)? -/
def joins (s : State) : Bool := (s.tcAt (fabTc s)).unset && timePorts s != []

/-- The ports that take part in the election: a device with TIME_UNSET joins one that has its time, never the other way round (R309). -/
def rootPorts (s : State) : List Nat :=
  if joins s then timePorts s
  else if (s.tcAt (fabTc s)).unset then rootHeard s
  else (rootHeard s).filter fun p => !bit (s.portAt p).nbrFlags 3 || (s.portAt p).nbrRoot == s.fb 0x0B

/-- The best root: lowest grade, then lowest identity, of this device itself and those heard (R307). -/
def bestRoot (s : State) : Nat × Nat :=
  (rootPorts s).foldl (fun b p =>
    let x := s.portAt p
    if x.nbrGrade < b.1 ∨ (x.nbrGrade = b.1 ∧ x.nbrRoot < b.2) then (x.nbrGrade, x.nbrRoot) else b)
    (match joins s, timePorts s with
     | true, p :: _ => ((s.portAt p).nbrGrade, (s.portAt p).nbrRoot)
     | _, _ => (ownGrade s, identity s))

/-- The parent port toward a root: lowest distance, then neighbour identity, then port (R307). -/
def parentPort (s : State) (root : Nat) : Option Nat :=
  ((rootPorts s).filter fun p => (s.portAt p).nbrRoot == root).foldl (fun b p =>
    match b with
    | none => some p
    | some q =>
      let x := s.portAt p
      let y := s.portAt q
      if x.nbrDist < y.nbrDist ∨ (x.nbrDist = y.nbrDist ∧ s.fp p 7 < s.fp q 7) then some p else b) none

/-- The fabric contexts learn what the fabric is (R318 to R320): port, root and grade; a change of root is a master change
unless a completed blend brought it about. -/
def fabContexts (s : State) (quiet : Bool) : State :=
  s.many ((List.range 256).filter fun c => cxKind s c == 3 && cxEnabled s c) fun c s =>
    let port := cxPort s c
    let p := if port = 0x2F then s.fb 0x0E else port - 0x20
    let ok := (port != 0x2F || !isRoot s) && fabUp s p && !(s.portAt p).boundary
    let old := (s.ctxAt c).root
    let root := s.fb 0x0B
    let s1 := (s.setCtx c fun x => { x with portOk := ok, root := root }).many
      [(80, 8, root), (88, 1, s.fb 0x0C / 256), (89, 1, s.fb 0x0C % 256)] fun e s => s.putCtxRec c e.1 e.2.1 e.2.2
    let s2 :=
      if old = root then s1
      else if quiet then
        s1.many (List.range 4) fun t s => if hwsUses s t c then s.setTc t fun x => { x with master := masterOf s t c } else s
      else ctxMasterChange s1 c
    ctxRefresh s2 c

/-- The election (R307): root, grade, parent port, distance; a change of root is counted and told. -/
def elect (s : State) : State :=
  let b := bestRoot s
  let root := b.2
  let par := if root = identity s then none else parentPort s root
  let dist := match par with | some p => (s.portAt p).nbrDist + 1 | none => 0
  let old := s.fb 0x0B
  let s1 := s.many [(0x0B, root), (0x0C, b.1), (0x0D, dist), (0x0E, par.getD 0xFF)] fun e s => s.put (key 0x3800 e.1) e.2
  let s2 := fabRoles s1
  if old = root then fabContexts s2 false
  else
    let quiet := match s.fab.merged with | some (r, at_) => r == root && decide (s.now ≤ at_ + 640000000) | none => false
    let s3 := s2.setFab fun x =>
      { x with assigned := [], relay := [], dropped := if root = identity s then x.dropped else none,
               rootSeq := match par with | some p => (s.portAt p).nbrSeq | none => x.rootSeq,
               merged := none }
    let s4 := (((s3.inc 32 (key 0x3800 0x13) 1).hist 0x3800 (2 ^ 0)).raise 0 8 0x20 0x510)
    requestAddress (discoveryStart (fabContexts s4 quiet))

/-- A root whose grade has changed announces it. -/
def gradeFollow (s : State) : State := if isRoot s ∧ ownGrade s ≠ s.fb 0x0C then elect s else s

/-- A fabric context is enabled: what the fabric is becomes known to it, which is no change of master (R320). -/
def fabContextOn (s : State) (c : Nat) : State := if cxKind s c = 3 ∧ cxEnabled s c then fabContexts s true else s

/-- The root that a port's neighbour announces, with its ROOT_SEQ (R307). -/
def hearRoot (s : State) (p root grade seq : Nat) : State :=
  let x := s.portAt p
  let fresh := match s.fab.dropped with
    | some (r, q) => if r = root then seqFresh seq q else if x.heard ∧ x.nbrRoot = root then x.fresh || seqFresh seq x.nbrSeq else true
    | none => if x.heard ∧ x.nbrRoot = root then x.fresh || seqFresh seq x.nbrSeq else true
  let s1 := s.setPort p fun x => { x with nbrRoot := root, nbrGrade := grade, nbrSeq := seq, heard := true, fresh := fresh }
  s1.setFab fun y =>
    { y with rootSeq := if root = s.fb 0x0B ∧ root ≠ identity s ∧ seqFresh seq y.rootSeq then seq else y.rootSeq,
             dropped := match y.dropped with
               | some (r, q) => if r = root ∧ fresh then none else some (r, q)
               | none => none }

/-- HELLO (R307) of port p. -/
def helloBytes (s : State) (p : Nat) : List Nat :=
  let fl := at_ (s.fb 0x0E == p) 0 + at_ (decide (3 ≤ s.rd (key 0x3801 7))) 1 + at_ (s.rd (key 0x3801 1) == 1) 2
    + at_ (s.tcAt (fabTc s)).unset 3
  le 8 (identity s) ++ le 2 (s.fb 0x0A) ++ le 2 (ownGrade s) ++ le 8 (s.fb 0x0B) ++ le 2 (s.fb 0x0C)
    ++ le 2 s.fab.rootSeq ++ [s.fb 0x0D, p, fl] ++ le 5 0

/-- HELLO_TIMER (R307). -/
def helloTimer (s : State) : State := s.many (List.range 4) fun p s => fabLocal s p 1 1 (helloBytes s p)

/-- ROOT_SEQ_TIMER (R307). -/
def rootSeqTimer (s : State) : State :=
  if isRoot s then s.setFab fun x => { x with rootSeq := cut 16 (x.rootSeq + 1) } else s

/-- ROOT_TIMEOUT (R307): the root is dropped and the election runs again. -/
def rootTimeout (s : State) : State :=
  if isRoot s then s
  else
    let r := s.fb 0x0B
    elect (s.setFab fun x =>
      { x with dropped := some (r, x.rootSeq), ports := x.ports.map fun y => if y.nbrRoot = r then { y with fresh := false } else y })

/-! Ports: MODE, training, leaving UP (R293, R294, R299, R303, R309, R337). -/

/-- STATE of port p changes: PORT_CHANGED, and discovery starts (R310). -/
def portState (s : State) (p st : Nat) : State :=
  if s.fp p 2 = st then s
  else discoveryStart ((s.put (key (0x3804 + p) 2) st).hist 0x3800 (2 ^ (12 + p)))

/-- Port p leaves UP (R299, R333, R340): its routes expire, its neighbour is gone. -/
def leaveUp (s : State) (p st : Nat) : State :=
  if fabUp s p then
    let s1 := (portState s p st).raise 0 7 0x1D (0x500 + 4 * p)
    let s2 := s1.setPort p fun x =>
      { x with leftUp := true, trying := st == 1, boundary := false, heard := false, fresh := false, vector := [],
               req := none, t4 := none, delays := [], offsets := [], lastUpdate := none, updateOwed := false, nbrGen := none }
    let s3 : State := { s2 with dp := { s2.dp with recSince := s2.dp.recSince.set (2 + p) none } }
    elect (routeChange (fabRoles s3))
  else s

/-- MODE of port p (R293, R337). -/
def fabMode (s : State) (p v : Nat) : State :=
  let s1 := s.put (key (0x3804 + p) 1) v
  if s.fp p 1 = v then s1
  else if v = 0 then portState ((leaveUp s1 p 0).setPort p fun x => { x with trying := false }) p 0
  else portState (s1.setPort p fun x => { x with trying := true }) p 1

/-- A retrain of port p, with nothing to do unless it is UP. -/
def fabRetrain (s : State) (p : Nat) : State := leaveUp s p 1

/-- Does the transmitter of port p run on LOCAL (R294)? `was`: it does so now. -/
def wantLocal (s : State) (p : Nat) (was : Bool) : Bool :=
  let j := s.fp p 4
  if 8 ≤ j then true
  else if was then !apllReturned s j else !((s.apllAt j).state == .locked)

/-- The reference of port p follows TX_APLL and the APLL; each change retrains the port (R294). -/
def txFollow (s : State) (p : Nat) : State :=
  let was := s.fp p 5 == 1
  let named := (s.portAt p).txApll != s.fp p 4
  let now_ := wantLocal s p (was || named)
  let s1 := (s.setPort p fun x => { x with txApll := s.fp p 4 }).put (key (0x3804 + p) 5) (b2n now_)
  if was = now_ ∧ (named = false ∨ now_) then s1 else fabRetrain s1 p

/-- TX_APLL is written (R294). -/
def txApllPut (s : State) (p v : Nat) : State := txFollow (s.put (key (0x3804 + p) 4) v) p

/-- Is the F_SOURCE of the APLL that TX_APLL names 156.25 MHz (R294)? -/
def txApllRefuse (s : State) (v : Nat) : Nat :=
  if v = 0xFF then 0 else if 8 ≤ v then 0x06090030
  else if s.rd (key (0x3500 + v) 0x14) ≠ 156250000 * 1000000 then 0x06090030 else 0

/-- The audit of one class (R303): what the neighbour received against what this end issued. -/
def auditClass (s : State) (p c : Nat) (l : List Nat) : State :=
  let x := (s.portAt p).cls c
  let acc := l.getD 1 0
  let freed := l.getD 2 0
  let occ := l.getD 3 0
  let lost := cut 32 (x.issued + 2 ^ 32 - acc % 2 ^ 32)
  let ok := cut 32 (freed + occ) == cut 32 acc && decide (lost ≤ 48)
  let s1 := s.setPort p fun y => y.setClass c fun z =>
    { z with heardFreed := freed, adj := cut 32 (z.issued + 2 ^ 33 - cut 32 occ - cut 32 freed),
             wireLost := if ok then cut 32 (z.wireLost + lost) else z.wireLost }
  if ok then s1
  else ((s1.incSat 16 (key (0x3804 + p) 0x10) 1).hist 0x3800 (2 ^ 9)).raise 0 7 0x1E (0x500 + 4 * p + c)

/-- Credits at UP (R303): from 0 after either end's reset, audited otherwise. Frames that wait keep their places. -/
def fabAudit (s : State) (p : Nat) (x : FabInit) : State :=
  if (s.portAt p).lastUp = some (x.id, x.boot) then
    s.many (List.range 4) fun c s => auditClass s p c (x.classes.getD c [])
  else
    s.setPort p fun y => { y with classes := y.classes.map fun z => { queue := z.queue } }

/-- Is the link BOUNDARY (R309)? -/
def fabBoundary (s : State) (x : FabInit) : Bool :=
  x.root != s.fb 0x0B && x.fresh && !x.unset && !(s.tcAt (fabTc s)).unset

/-- A BOUNDARY link begins a blend (R326): the better root wins. -/
def blendBegin (s : State) (x : FabInit) : State :=
  let s1 := s.hist 0x3800 (2 ^ 3)
  if s.rd (key 0x3801 7) ≠ 0 then s1
  else
    let win := s.fb 0x0C < x.grade ∨ (s.fb 0x0C = x.grade ∧ s.fb 0x0B < x.root)
    s1.many [(7, if win then 1 else 0), (8, if win then 1 else 2), (9, x.root)] fun e s => s.put (key 0x3801 e.1) e.2

/-- The fields that a port sends in INIT, with DONE at the end (R299). -/
def initFields (s : State) (p : Nat) : List (Nat × Nat) :=
  let id := identity s
  [(1, id), (2, id / 2 ^ 32), (3, s.fb 0x0B), (4, s.fb 0x0B / 2 ^ 32), (5, s.fb 0x0C % 65536 + s.fb 0x0D % 256 * 65536),
   (6, s.fp p 6), (7, s.rd (key 0x2000 7))]
    ++ ((List.range 4).flatMap fun c =>
      let x := (s.portAt p).cls c
      [(0x10 + c, fabCapacity c), (0x14 + c, x.accepted), (0x18 + c, x.freed), (0x1C + c, fabOccupied x), (0x20 + c, x.issued)])
    ++ [(0x3F, 0)]

/-- The INIT ordered sets of a training that comes to its end (R296, R299): every field once, for a cycle, then DONE. -/
def sendInit (s : State) (p : Nat) : State :=
  s.many (initFields s p) fun e s => s.send (.fab p 0 0x104 0 ⟨5, e.1 + cut 32 e.2 * 256⟩)

/-- FAB_TRAINING_ATTEMPT_END (R299, R303, R309, R317). -/
def fabTrained (s : State) (p : Nat) (ok : Bool) (x : FabInit) : State :=
  if s.fp p 2 ≠ 1 ∨ (s.portAt p).trying = false then s
  else if ok = false then s.setPort p fun y => { y with trying := false }
  else
    let own := s.rdI 64 (key (0x3804 + p) 6)
    let bnd := fabBoundary s x
    let s1 := fabAudit (sendInit s p) p x
    let s2 := s1.setPort p fun y =>
      { y with trying := false, leftUp := false, boundary := bnd, lastUp := some (x.id, x.boot), asym := own,
               nbrRoot := x.root, nbrGrade := x.grade, nbrDist := x.dist, nbrFlags := 4 + at_ x.unset 3, heard := x.fresh, fresh := x.fresh,
               seq := 0, delays := [], residue := 0, offsets := [] }
    let s3 := (portState s2 p 2).put (key (0x3804 + p) 7) x.id
    let s4 := s3.when (s.portAt p).leftUp fun s => s.incSat 16 (key (0x3804 + p) 0x0D) 1
    let s5 : State := { s4 with dp := { s4.dp with recSince := s4.dp.recSince.set (2 + p) (some s.now) } }
    let s6 := s5.when (decide (ofI 32 own ≠ (2 ^ 32 - ofI 32 x.asym) % 2 ^ 32)) fun s =>
      (s.hist 0x3800 (2 ^ 10)).raise 0 7 0x1F (0x500 + 4 * p)
    let s7 := s6.when bnd fun s => blendBegin (boundaryQueues s p) x
    fabPumpAll (elect (routeChange (fabRoles s7)))

/-- FAB_TRAINING_RETRY_TIMER (R299). -/
def fabRetry (s : State) (p : Nat) : State :=
  if s.fp p 2 = 1 then s.setPort p fun x => { x with trying := true } else s

/-- CREDIT arrives (R300). -/
def creditRx (s : State) (p c freed : Nat) : State :=
  if fabUp s p ∧ c < 4 then
    let s1 := s.setPort p fun x => x.setClass c fun y => { y with heardFreed := cut 32 freed }
    fabPump s1 p (fabQueued (s1.portAt p))
  else s

/-- CREDIT_REPORT_TIMER (R300): every class of every UP port; frames that a QUIET slot held go on. -/
def creditReport (s : State) : State :=
  fabPumpAll (s.many (List.range 16) fun i s => sendCredit s (i / 4) (i % 4))

/-- COMMAND CLEAR_COUNTERS of port p (R337). -/
def portClear (s : State) (p : Nat) : State := s.many [0x0C, 0x0D, 0x0E, 0x10] fun i s => s.put (key (0x3804 + p) i) 0

/-- COMMAND CLEAR_COUNTERS of the fabric (R334). -/
def fabClear (s : State) : State :=
  (s.many [1, 2, 3, 5, 6] fun i s => s.put (key 0x3802 i) 0).many (List.range 4) fun p s => portClear s p

/-- COMMAND REDISCOVER (R334). -/
def rediscover (s : State) : State :=
  requestAddress ((setAddress s 0).setFab fun x => { x with assigned := x.assigned.filter fun a => a.1 != identity s })

/-! Slot tables (R305). -/

/-- SLOT_TABLE_COMMIT. -/
def slotCommit (s : State) (p : Nat) : State :=
  (s.setPort p fun x => { x with pendingTable := some (s.rd (key (0x3808 + p) 2)) }).put (key (0x3808 + p) 5) 1

/-- SLOT_FRAME_BOUNDARY. -/
def slotBoundary (s : State) : State :=
  s.many (List.range 4) fun p s =>
    match (s.portAt p).pendingTable with
    | none => s
    | some v =>
      ((((s.setPort p fun x => { x with pendingTable := none }).put (key (0x3808 + p) 1) v).inc 16 (key (0x3808 + p) 4) 1).put
        (key (0x3808 + p) 5) 0).hist 0x3800 (2 ^ 11)

/-- Is a SHADOW table refused (R305)? -/
def shadowRefuse (v : Nat) : Nat :=
  if byteAt v 0 = 1 ∧ (List.range 255).all fun i => byteAt v (i + 1) != 1 && decide (byteAt v (i + 1) ≤ 3) then 0 else 0x06090030

end Sys2Proof.Machine
end

