-- ==== Sys2Proof/Machine/FabNet.lean ====
section
/-! DEFINITION. What the fabric carries: HELLO, time exchanges, remote access, blends, stamp batches, and the reception of
frames (chapter 10 of spec/, R297, R307, R315 to R332; exports of R108 and R325). -/

namespace Sys2Proof.Machine

/-! HELLO and TIME_DOWN (R307). -/

/-- A link between two parts of one domain is no BOUNDARY any more; a winning end's blend is over (R331). -/
def boundaryEnds (s : State) (p : Nat) : State :=
  if (s.portAt p).boundary ∧ (s.portAt p).nbrRoot = s.fb 0x0B then
    let s1 := routeChange (s.setPort p fun x => { x with boundary := false })
    s1.when (s.rd (key 0x3801 8) == 1) fun s => s.many [7, 8] fun i s => s.put (key 0x3801 i) 0
  else s

/-- HELLO arrives. -/
def helloRx (s : State) (p : Nat) (d : Datum) : State :=
  let v := d.val
  let s1 := (s.put (key (0x3804 + p) 7) (bytesAt v 0 8)).put (key (0x3804 + p) 8) (bytesAt v 8 2)
  let s2 := hearRoot s1 p (bytesAt v 12 8) (bytesAt v 20 2) (bytesAt v 22 2)
  let s3 := s2.setPort p fun x => { x with nbrDist := byteAt v 24, nbrFlags := byteAt v 26 }
  elect (boundaryEnds s3 p)

/-- TIME_DOWN arrives (R304, R307). -/
def timeDownRx (s : State) (p : Nat) (d : Datum) : State :=
  elect (hearRoot s p (bytesAt d.val 0 8) (bytesAt d.val 8 2) (bytesAt d.val 10 2))

/-- TIME_DOWN_SLOT (R304): on a CHILD port. -/
def timeDownSlot (s : State) (p : Nat) : State :=
  if fabRole s p = 2 then fabLocal s p 0 0x11 (le 8 (s.fb 0x0B) ++ le 2 (s.fb 0x0C) ++ le 2 s.fab.rootSeq) else s

/-! Exchanges (R315, R316). -/

/-- LINK_TIMING_SLOT: MARKER REQUEST goes out and t1 is stamped. -/
def linkTiming (s : State) (p : Nat) : State :=
  if fabUp s p then
    let q := (s.portAt p).seq
    (s.setPort p fun x => { x with seq := cut 8 (q + 1), req := some (q, fabNow s, (s.tcAt (fabTc s)).stepGen), t4 := none }).send
      (.fab p 0 0x102 0 ⟨2, q⟩)
  else s

/-- A time of 2^−16 ns as 12 bytes: seconds, nanoseconds, FRAC16. -/
def time12Bytes (t : Int) : List Nat := le 12 (time12 t.toNat)

/-- Its value back. -/
def ofTime12 (v : Nat) : Int := ((v % 2 ^ 48 * 1000000000 + v / 2 ^ 48 % 2 ^ 32) * 65536 + v / 2 ^ 80 % 65536 : Nat)

/-- MARKER_REQUEST_RX: t2, then MARKER RESPONSE with t3, then TIMING_FOLLOW_UP with both and the phase term. -/
def markerRequest (s : State) (p seq : Nat) (time phi : Int) : State :=
  if fabUp s p then
    let s1 := (s.setPort p fun x => { x with phi := phi }).send (.fab p 0 0x103 0 ⟨2, cut 8 seq⟩)
    fabLocal s1 p 0 0x10 ([cut 8 seq, 0] ++ le 2 (s.tcAt (fabTc s)).stepGen ++ time12Bytes time ++ time12Bytes (fabNow s)
      ++ le 8 (ofI 64 phi))
  else s

/-- MARKER_RESPONSE_RX: t4; an exchange whose STEP_GEN changed since t1 is discarded (R315). -/
def markerResponse (s : State) (p seq : Nat) (time : Int) : State :=
  match (s.portAt p).req with
  | some (q, _, gen) =>
    if q ≠ cut 8 seq then s
    else if gen = (s.tcAt (fabTc s)).stepGen then s.setPort p fun x => { x with t4 := some time }
    else s.setPort p fun x => { x with req := none, t4 := none }
  | none => s

/-- The contexts that take the exchanges of port p (R318). -/
def partnersOf (s : State) (p : Nat) : List Nat :=
  (List.range 256).filter fun c =>
    cxKind s c == 3 && cxEnabled s c && (cxPort s c == 0x20 + p || (cxPort s c == 0x2F && s.fb 0x0E == p))

/-- An exchange is complete (R316): delay, filtered delay with its residue, offset, and the offset of every context. -/
def exchangeDone (s : State) (p : Nat) (t1 t2 t3 t4 phi : Int) : State :=
  let n := (t2 - t1) + (t4 - t3)
  let l := ((n, phi) :: (s.portAt p).delays).take (max 1 (s.fp p 9))
  let den : Nat := 2 * l.length
  let same := l.length = (s.portAt p).delays.length
  let num := sumI (l.map fun e => e.1 + phi - e.2) + (if same then (s.portAt p).residue else 0)
  let mean := num / (den : Int)
  let o := (t2 - t1) - mean + (s.portAt p).asym
  let s1 := s.setPort p fun x =>
    { x with req := none, t4 := none, delays := l, residue := num % (den : Int), offsets := (o :: x.offsets).take 64 }
  let s2 := ((s1.putI 64 (key (0x3804 + p) 0x0A) mean).putI 64 (key (0x3804 + p) 0x0B) o).inc 32 (key (0x3804 + p) 0x0C) 1
  s2.many (partnersOf s2 p) fun c s => ctxOffset (s.putCtxRec c 148 8 (ofI 64 mean)) c o t2 true

/-- TIMING_FOLLOW_UP arrives (R315, R316): the exchange is complete, unless the neighbour's STEP_GEN has changed since the follow-up before
this one (log entry 37). -/
def followUp (s : State) (p : Nat) (d : Datum) : State :=
  let gen := bytesAt d.val 2 2
  let moved := match (s.portAt p).nbrGen with | some g => g != gen | none => false
  let s := s.setPort p fun x => { x with nbrGen := some gen }
  match (s.portAt p).req, (s.portAt p).t4 with
  | some (q, t1, _), some t4 =>
    if q ≠ byteAt d.val 0 then s
    else if moved then s.setPort p fun x => { x with req := none, t4 := none }
    else exchangeDone s p t1 (ofTime12 (bytesAt d.val 4 12)) (ofTime12 (bytesAt d.val 16 12)) t4
      ((s.portAt p).phi + toI 64 (bytesAt d.val 28 8))
  | _, _ => s

/-- EXCHANGE_FOLLOW_UP_TIMEOUT (R315). -/
def exchangeTimeout (s : State) (p : Nat) : State := s.setPort p fun x => { x with req := none, t4 := none }

/-! Remote object access (R322 to R324). -/

/-- How this device answers an access: the requester's address, a write or a read, index, subindex and data; it gives the
abort code, 0 for success, and the value read. The access itself is chapter 02's (R81). -/
abbrev Serve := State → Nat → Bool → Nat → Nat → Datum → Nat × Datum × State

/-- The bytes of an OD_RESPONSE. -/
def odResponseBytes (d : Datum) (code : Nat) (v : Datum) : List Nat :=
  le 2 (bytesAt d.val 8 2) ++ [setBits (byteAt d.val 10) 0x80, byteAt d.val 11] ++ le 2 (bytesAt d.val 12 2)
    ++ le 2 (if code = 0 then v.len else 0) ++ le 4 code ++ (if code = 0 then bytesOf v else [])

/-- A request's channel: the stored entry of its requester and channel (R323). -/
def odStored (s : State) (d : Datum) : Option OdStored :=
  s.fab.store.find? fun y => y.requester == bytesAt d.val 0 8 && y.chan == bytesAt d.val 8 2 / 8192

/-- Bytes behind those collected. -/
def joinDatum (a b : Datum) : Datum := ⟨a.len + b.len, a.val + b.val % 2 ^ (8 * b.len) * 2 ^ (8 * a.len)⟩

/-- The length of an entry of fixed length above 512 bytes. -/
def longLength (index sub : Nat) : Option Nat :=
  match findRow index sub with
  | some r => match r.len with
    | .fix n => if 512 < n then some n else none
    | .span _ _ => none
  | none => none

/-- A READ (R51, R81): the first 512 bytes of the value, and what is left of it; the next READ of the entry on the channel goes on with
that (log entry 89). -/
def odRead (serve : Serve) (s : State) (src : Nat) (index sub : Nat) (rest : Datum) : Nat × Datum × Datum × State :=
  let r := if rest.len = 0 then serve s src false index sub {} else (0, rest, s)
  (r.1, ⟨min 512 r.2.1.len, bytesAt r.2.1.val 0 (min 512 r.2.1.len)⟩, ⟨r.2.1.len - 512, bytesAt r.2.1.val 512 (r.2.1.len - 512)⟩, r.2.2)

/-- A WRITE: whole requests of 512 bytes to a longer entry are collected until they make up its length; anything else is written as it
is. -/
def odWrite (serve : Serve) (s : State) (src : Nat) (index sub : Nat) (parts d : Datum) : Nat × Datum × State :=
  let all := joinDatum parts d
  let write := fun (x : Datum) => let r := serve s src true index sub x; (r.1, ({} : Datum), r.2.2)
  match longLength index sub with
  | some n => if d.len = 512 ∧ all.len < n then (0, all, s) else write (if d.len = 512 then all else d)
  | none => write d

/-- Apply a request and keep its response (R323). -/
def odApply (serve : Serve) (s : State) (src : Nat) (d : Datum) : State × Datum :=
  let wr := byteAt d.val 10 == 2
  let n := bytesAt d.val 14 2
  let index := bytesAt d.val 12 2
  let sub := byteAt d.val 11
  let id := bytesAt d.val 0 8
  let ch := bytesAt d.val 8 2 / 8192
  let old := match odStored s d with | some y => if y.object = key index sub then y else {} | none => {}
  let keep := fun (resp rest parts : Datum) (s : State) =>
    let e : OdStored := { requester := id, chan := ch, boot := bytesAt d.val 16 2, reqId := bytesAt d.val 8 2, response := resp,
                          object := key index sub, rest := rest, parts := parts, used := s.now }
    (s.setFab fun x => { x with store := (x.store.filter fun y => y.requester != id || y.chan != ch) ++ [e] }, resp)
  if 512 < n then keep (datumOf (odResponseBytes d 0x06070012 {})) {} {} s
  else if wr then
    let r := odWrite serve s src index sub old.parts ⟨n, bytesAt d.val 18 n⟩
    keep (datumOf (odResponseBytes d r.1 {})) {} r.2.1 r.2.2
  else
    let r := odRead serve s src index sub old.rest
    keep (datumOf (odResponseBytes d r.1 r.2.1)) r.2.2.1 {} r.2.2.2

/-- A response goes to its requester: MGMT up to 64 data bytes, else BULK (R322). -/
def odAnswer (s : State) (src : Nat) (resp : Datum) : State :=
  fabSendTo s src (if resp.len ≤ 12 + 64 then 1 else 3) 0x21 (bytesOf resp)

/-- Writes of the fabric that are accepted and not in effect (R22, R81). -/
def fabricPending (s : State) : Nat :=
  (s.host.posted.filter fun p => match p.via with | .fabric _ => true | _ => false).length

/-- OD_REQUEST (R323): answered from the store, applied, or left waiting while the store is full or, a write, while 1024 writes of the fabric
are pending (R26). The last part tells whether the frame waits. -/
def odRequest (serve : Serve) (s : State) (src : Nat) (d : Datum) : State × Option Datum × Bool :=
  let id := bytesAt d.val 0 8
  let ch := bytesAt d.val 8 2 / 8192
  let full := byteAt d.val 10 == 2 && decide (1024 ≤ fabricPending s)
  match odStored s d with
  | some y =>
    if y.boot = bytesAt d.val 16 2 ∧ y.reqId = bytesAt d.val 8 2 then
      (s.setFab fun x => { x with store := x.store.map fun z => if z.requester = id ∧ z.chan = ch then { z with used := s.now } else z },
        some y.response, false)
    else if full then (s, none, true)
    else let r := odApply serve s src d; (r.1, some r.2, false)
  | none => if full ∨ 512 ≤ s.fab.store.length then (s, none, true) else let r := odApply serve s src d; (r.1, some r.2, false)

/-- Request slot r. -/
def State.slotAt (s : State) (r : Nat) : ReqSlot := s.fab.slots.getD r {}
def State.setSlot (s : State) (r : Nat) (f : ReqSlot → ReqSlot) : State := s.setFab fun x => { x with slots := upd x.slots r f }
def State.rq (s : State) (r sub : Nat) : Nat := s.rd (key (0x3820 + r) sub)

/-- A request slot ends (R324): state, abort code, REQUEST_DONE. -/
def requestEnd (s : State) (r st code : Nat) : State :=
  ((s.put (key (0x3820 + r) 6) st).put (key (0x3820 + r) 7) code).hist 0x3800 (2 ^ (16 + r))

/-- OD_RESPONSE (R324): completes a slot, or answers the fault listener on channel 4. -/
def odResponse (s : State) (d : Datum) : State :=
  let id := bytesAt d.val 0 2
  let r := id / 8192
  let code := bytesAt d.val 8 4
  if r < 4 then
    if s.rq r 6 = 1 ∧ id % 8192 = (s.slotAt r).count then
      if code ≠ 0 then requestEnd s r 3 code
      else if byteAt d.val 2 = 0x81 then
        let n := bytesAt d.val 6 2
        requestEnd ((s.put (key (0x3820 + r) 4) (bytesAt d.val 12 n)).setSlot r fun x => { x with len := n }) r 2 0
      else requestEnd s r 2 0
    else s
  else if r = 4 ∧ s.fab.lsnOut = some id then
    (s.setFab fun x => { x with lsnOut := none }).setCol fun c => { c with fabric := c.fabric.drop 1, tries := 0 }
  else s

/-- The bytes of an OD_REQUEST (R322). -/
def odRequestBytes (s : State) (reqId op index sub : Nat) (data : List Nat) : List Nat :=
  le 8 (identity s) ++ le 2 reqId ++ [op, sub] ++ le 2 index ++ le 2 data.length ++ le 2 (s.rd (key 0x2000 7)) ++ data

/-- A response reaches its requester: another device, or a request slot of this one. -/
def odReply (s : State) (src : Nat) (resp : Datum) : State := if src = s.fb 0x0A then odResponse s resp else odAnswer s src resp

/-- The oldest requests that wait are served while they can be (R81, R323); their cells are freed. -/
def odResumeN (serve : Serve) (s : State) : Nat → State
  | 0 => s
  | n + 1 =>
    match s.fab.waiting with
    | [] => s
    | (p, f) :: r =>
      let q := odRequest serve (s.setFab fun x => { x with waiting := r }) f.src f.payload
      match q.2.1 with
      | some resp => odResumeN serve ((odReply q.1 f.src resp).when (decide (p < 4)) fun s => fabFree s p f.cls (fabCells f.payload.len)) n
      | none => s
def odResume (serve : Serve) (s : State) : State := odResumeN serve s s.fab.waiting.length

/-- A request goes out; one to this device's own address is served here, or waits here (R26, R323; no port brought it). -/
def requestGo (serve : Serve) (s : State) (r : Nat) : State :=
  let d := (s.slotAt r).sent
  if s.rq r 1 = s.fb 0x0A then
    let q := odRequest serve s (s.fb 0x0A) d
    match q.2.1 with
    | some resp => odResponse q.1 resp
    | none => q.1.setFab fun x => { x with waiting := x.waiting ++ [(4, { src := s.fb 0x0A, payload := d })] }
  else fabSendTo s (s.rq r 1) (if d.len ≤ 18 + 64 then 1 else 3) 0x20 (bytesOf d)

/-- READ and WRITE of slot r (R324). -/
def requestStart (serve : Serve) (s : State) (r : Nat) (write : Bool) : State :=
  let n := (s.slotAt r).count + 1
  let data := if write then le (s.rq r 3) (s.rq r 4) else []
  let b := odRequestBytes s (r * 8192 + n % 8192) (if write then 2 else 1) (s.rq r 2 / 65536) (s.rq r 2 / 256 % 256) data
  let s1 := (s.setSlot r fun x => { x with count := n % 8192, left := s.rq r 9, sent := datumOf b }).put (key (0x3820 + r) 6) 1
  requestGo serve s1 r

/-- Is READ or WRITE refused (R324)? 0 for no; `p` is the state with the posted writes in it (R489). -/
def requestRefuse (s p : State) (r v : Nat) : Nat :=
  if v = 3 ∨ v = 0 then 0
  else if s.rq r 6 = 1 then 0x08000021
  else if p.rq r 1 = 0 then 0x06090030
  else if v = 2 ∧ p.rq r 3 = 0 then 0x06070013
  else 0

/-- CANCEL (R324). -/
def requestCancel (s : State) (r : Nat) : State := (s.put (key (0x3820 + r) 6) 0).put (key (0x3820 + r) 7) 0

/-- REQUEST_TIMEOUT (R324). -/
def requestTimeout (serve : Serve) (s : State) (r : Nat) : State :=
  if s.rq r 6 ≠ 1 then s
  else if (s.slotAt r).left = 0 then requestEnd s r 3 0x05040000
  else requestGo serve (s.setSlot r fun x => { x with left := x.left - 1 }) r

/-! Blending (R326 to R332). -/

def State.bl (s : State) (sub : Nat) : Nat := s.rd (key 0x3801 sub)
def putBl (s : State) (l : List (Nat × Nat)) : State := s.many l fun e s => s.put (key 0x3801 e.1) e.2

/-- The fabric's own messages go to 0x0510. -/
def fabTell (s : State) (kind : Nat) : State := s.raise 0 8 kind 0x510

/-- The bytes of BLEND_ANNOUNCE (R298). -/
def announceBytes (winner loser : Nat) (delta instant : Int) (rate : Nat) (step : Bool) : List Nat :=
  le 8 winner ++ le 8 loser ++ le 8 (ofI 64 delta) ++ time12Bytes instant ++ le 4 rate ++ [b2n step]

/-- A frame goes through the tree, but not back (R308); one that has no hops left goes no further (R312). -/
def fabSpread (s : State) (p : Nat) (f : FabFrame) : State :=
  if f.hops = 0 then s
  else s.many ((treePorts s).filter fun q => q != p) fun q s => fabQueue s q { f := { f with hops := f.hops - 1, dest := 0xFFF } }

/-- An announcement crosses the BOUNDARY links toward the losing domain (R327), for the neighbour there. -/
def blendCross (s : State) (but : Option Nat) (loser : Nat) (f : FabFrame) : State :=
  s.many ((List.range 4).filter fun q => fabUp s q && (s.portAt q).boundary && (s.portAt q).nbrRoot == loser && some q != but)
    fun q s => fabQueue s q { f := { f with dest := 0 } }

/-- The root's announcement goes out (R327). -/
def blendSpread (s : State) (bytes : List Nat) (loser : Nat) : State :=
  blendCross (fabBroadcast s 1 9 bytes none) none loser
    { cls := 1, type_ := 9, src := s.fb 0x0A, length := bytes.length, payload := datumOf bytes }

/-- The root accepts a proposal (R327), unless its domain is blending. -/
def blendAccept (s : State) (loser : Nat) (delta : Int) : State :=
  let l := s.fab.accepted.filter fun a => decide (fabNow s < a.2)
  if s.bl 1 = 0 ∨ l ≠ [] then s.setFab fun x => { x with accepted := l }
  else
    let frame : Int := 15625000 * 65536
    let iw := (fabNow s + (s.bl 4 * 1000000 * 65536 : Nat) + frame - 1) / frame * frame
    let step := decide (s.bl 3 * 65536 < absI delta)
    let pour : Int := if step then 65536000000000 else (absI delta : Int) * 10000000000 / max 1 (s.bl 2)
    let s1 := s.setFab fun x => { x with accepted := [(loser, iw + pour + frame)] }
    blendSpread s1 (announceBytes (s.fb 0x0B) loser delta (iw - delta) (s.bl 2) step) loser

/-- A proposal goes toward the root, hop by hop (log entry 38). -/
def proposalRx (s : State) (loser : Nat) (delta : Int) : State :=
  if isRoot s then blendAccept s loser delta
  else fabLocal s (s.fb 0x0E) 1 8 (le 8 loser ++ le 8 (ofI 64 delta))

/-- BLEND_MEASURE_DONE (R326): the winning end has 64 exchanges over its BOUNDARY link. -/
def blendMeasured (s : State) : State :=
  match (List.range 4).find? fun p =>
      fabUp s p && (s.portAt p).boundary && (s.portAt p).nbrRoot == s.bl 9 && decide (64 ≤ (s.portAt p).offsets.length) with
  | none => s
  | some p =>
    if s.bl 7 ≠ 1 ∨ s.bl 1 = 0 ∨ bit (s.portAt p).nbrFlags 2 = false then s
    else
      let delta := -(roundDiv (sumI (s.portAt p).offsets) 64)
      proposalRx (putBl s [(7, 2), (0x0A, ofI 64 delta)]) (s.bl 9) delta

/-- A blend step of an SWI or HWS counter, or of the timeline of a TIED one (R246, R257, R329). -/
def blendStep (s : State) (t : Nat) (x : Int) : State :=
  let add := fun (s : State) (y : Int) => tcStep (s.setTc t fun c => { c with blendTotal := c.blendTotal + y, applied := c.applied + y }) t (y * 2 ^ 32)
  if tcTied s t then
    let w := wholeSeconds x
    let s1 := add (s.setTc t fun c => { c with tieSeconds := c.tieSeconds + w }) (w * 65536000000000)
    (tcClearUnset s1 t).setDpll (s.tcReg t 8) fun d => { d with blendReq := d.blendReq + (x - w * 65536000000000) }
  else tcClearUnset (add s x) t

/-- A blend slope (R257, R328): of the counter, or of the DPLL that a TIED counter follows. -/
def blendPour (s : State) (t : Nat) (x : Int) (rate : Nat) : State :=
  if tcTied s t then s.setDpll (s.tcReg t 8) fun d => { d with blendLeft := d.blendLeft + x, blendRate := rate }
  else s.setTc t fun c => { c with blendLeft := c.blendLeft + x, blendRate := rate }

/-- The APLLs that the DPLL of a TIED fabric counter steers. -/
def blendAplls (s : State) : List Nat :=
  if tcTied s (fabTc s) then (List.range 8).filter fun j => s.apCfg j 6 == s.tcReg (fabTc s) 8 && s.apCfg j 5 == 1 else []

/-- STEP at its instant (R329). -/
def blendDoStep (s : State) (b : Blend) : State :=
  let s1 := fabTell (((blendStep s (fabTc s) b.delta).put (key 0x3801 7) 5).inc 32 (key 0x3801 0x0D) 1) 0x24
  let l := blendAplls s
  let s2 := if s.bl 5 = 1 then s1.many l fun j s => apllRelock s j else s1
  s2.setFab fun x => { x with alignWait := if s.bl 5 = 1 then l else [] }

/-- A losing device begins (R328, R329): started, and told. -/
def blendStarted (s : State) : State := fabTell (s.hist 0x3800 (2 ^ 4)) 0x23

/-- BLEND_INSTANT (R328, R329): the losing counter has reached INSTANT_L. -/
def blendInstant (s : State) : State :=
  match s.fab.blend with
  | none => s
  | some b =>
    if s.bl 7 ≠ 3 ∨ fabNow s < b.instant then s
    else
      let s1 := blendStarted s
      if b.step then blendDoStep s1 b else (blendPour s1 (fabTc s) b.delta b.rate).put (key 0x3801 7) 4

/-- A losing device whose counter is already past INSTANT_L acts at once (R330). -/
def blendLate (s : State) (b : Blend) : State :=
  let s1 := fabTell (blendStarted s |>.hist 0x3800 (2 ^ 6)) 0x25
  if b.step then blendDoStep s1 b
  else
    let poured := towardZero b.delta ((fabNow s - b.instant).toNat * b.rate / 10000000000)
    (blendPour (blendStep s1 (fabTc s) poured) (fabTc s) (b.delta - poured) b.rate).put (key 0x3801 7) 4

/-- BLEND_ANNOUNCE arrives (R327): one that has come over a BOUNDARY link goes through this domain's tree (a broadcast has been passed on
already, R308); it crosses the BOUNDARY links toward the losing domain; and a device of that domain takes it. -/
def blendAnnounced (s : State) (p : Nat) (f : FabFrame) : State :=
  let v := f.payload.val
  let winner := bytesAt v 0 8
  let loser := bytesAt v 8 8
  let b : Blend := { winner := winner, delta := toI 64 (bytesAt v 16 8), instant := ofTime12 (bytesAt v 24 12),
                     rate := bytesAt v 36 4, step := byteAt v 40 == 1 }
  let s0 := s.when (f.dest != 0xFFF && loser == s.fb 0x0B) fun s => fabSpread s p f
  let s0 := s0.when (f.hops != 0) fun s => blendCross s (some p) loser { f with hops := f.hops - 1 }
  if loser = s.fb 0x0B ∧ s.bl 7 < 3 then
    let s1 := s0.setFab fun x => { x with blend := some b, merged := none }
    let s2 := putBl s1 [(7, 3), (8, 2), (9, winner), (0x0A, ofI 64 b.delta), (0x0B, time80 b.instant.toNat)]
    if b.instant < fabNow s2 then blendLate s2 b else s2
  else s0

/-- BLEND_POUR_DONE (R331). -/
def blendPoured (s : State) : State :=
  let t := fabTc s
  let left := if tcTied s t then (s.dpllAt (s.tcReg t 8)).blendLeft else (s.tcAt t).blendLeft
  if s.bl 7 = 4 ∧ left = 0 then s.put (key 0x3801 7) 5 else s

/-- BLEND_END (R331): the winning root is adopted, where a link leads to it; the address is asked for again. -/
def blendEnd (s : State) : State :=
  match s.fab.blend with
  | none => s
  | some b =>
    if s.bl 7 ≠ 5 then s
    else
      let s1 := s.setFab fun x =>
        { x with blend := none, merged := some (b.winner, s.now),
                 ports := x.ports.map fun y => if y.boundary ∧ y.nbrRoot = b.winner ∧ y.fresh then { y with boundary := false } else y }
      let s2 := ((putBl s1 [(7, 0), (8, 0)]).hist 0x3800 (2 ^ 5)).inc 32 (key 0x3801 0x0C) 1
      elect (routeChange (fabRoles s2))

/-- BLEND_ALIGN (R329): every APLL concerned has passed its RETURN_HOLD. -/
def blendAlign (s : State) : State :=
  if s.fab.alignWait ≠ [] ∧ s.fab.alignWait.all (apllReturned s) then
    let s1 := s.setFab fun x => { x with alignWait := [] }
    if s.bl 6 = 0 then s1 else alignGroups s1 (s.bl 6)
  else s

/-! Reception (R296 to R298, R308, R312). -/

/-- Is TYPE one of R298, in its class? -/
def typeOk (f : FabFrame) : Bool :=
  if f.type_ = 0x10 ∨ f.type_ = 0x11 then f.cls == 0
  else if f.type_ = 0x20 then (if f.payload.len ≤ 18 + 64 then f.cls == 1 else f.cls == 3)
  else if f.type_ = 0x21 then (if f.payload.len ≤ 12 + 64 then f.cls == 1 else f.cls == 3)
  else if f.type_ = 0x30 then f.cls == 2
  else f.type_ ∈ [1, 2, 3, 4, 8, 9] && f.cls == 1

/-- A frame is consumed here. The result tells whether it keeps its cells: a request that waits (R323). -/
def fabConsume (serve : Serve) (s : State) (p : Nat) (f : FabFrame) : State × Bool :=
  let d := f.payload
  if f.type_ = 1 then (helloRx s p d, false)
  else if f.type_ = 2 then (routeUpdate s p d, false)
  else if f.type_ = 3 then (addressRequest s p d, false)
  else if f.type_ = 4 then (addressGrant s p d, false)
  else if f.type_ = 8 then (proposalRx s (bytesAt d.val 0 8) (toI 64 (bytesAt d.val 8 8)), false)
  else if f.type_ = 9 then (blendAnnounced s p f, false)
  else if f.type_ = 0x10 then (followUp s p d, false)
  else if f.type_ = 0x11 then (timeDownRx s p d, false)
  else if f.type_ = 0x20 then
    if engineUp s 15 = false then (s, false)
    else
      let r := odRequest serve s f.src d
      if r.2.2 then (s.setFab fun x => { x with waiting := x.waiting ++ [(p, f)] }, true)
      else match r.2.1 with
        | some resp => (odReply r.1 f.src resp, false)
        | none => (r.1, false)
  else if f.type_ = 0x21 then (odResponse s d, false)
  else (s, false)

/-- A frame that is discarded (R296, R297): counted, its cells freed. -/
def fabDiscard (s : State) (p : Nat) (f : FabFrame) : State :=
  fabFree (s.inc 32 (key (0x3804 + p) 0x0E) 1) p (f.cls % 4) (fabCells f.payload.len)

/-- FAB_FRAME_RX (R297, R308, R312): discarded, consumed, forwarded or dropped. `bad` says that its CRC fails, that its blocks are not those
of R296, or that the loss of UP cut it off, which the port reports before it leaves UP. -/
def fabFrame (serve : Serve) (s : State) (p : Nat) (f : FabFrame) (bad : Bool) : State :=
  if p < 4 ∧ fabUp s p then
    let c := f.cls % 4
    let n := fabCells f.payload.len
    let s1 := s.setPort p fun x => x.setClass c fun y => { y with accepted := cut 32 (y.accepted + n) }
    if bad ∨ f.version ≠ 1 ∨ f.length ≠ f.payload.len ∨ 2048 < f.length ∨ typeOk f = false then fabDiscard s1 p f
    else if (s.portAt p).boundary ∧ boundaryOk f = false then fabFree s1 p c n
    else if f.cls = 0 ∨ f.dest = 0 ∨ f.dest = s.fb 0x0A then
      let r := fabConsume serve s1 p f
      if r.2 then r.1 else fabFree r.1 p c n
    else if f.dest = 0xFFF then
      let r := fabConsume serve (fabSpread s1 p f) p f
      if r.2 then r.1 else fabFree r.1 p c n
    else if f.hops = 0 then fabFree (s1.inc 32 (key 0x3802 6) 1) p c n
    else fabRoute s1 { f := { f with hops := f.hops - 1 }, hold := some p }
  else s

/-- A frame of one type to this device or the neighbour, as the commands of the single types give it. -/
def fabFrameOf (p cls type_ dest src : Nat) (d : Datum) (serve : Serve) (s : State) : State :=
  fabFrame serve s p { cls := cls, type_ := type_, dest := dest, src := src, length := d.len, payload := d } false

/-- OD_STORE_ENTRY_EXPIRY (R323): the entry longest unused expires; the oldest request that waits is applied. -/
def odExpiry (serve : Serve) (s : State) : State :=
  let old := s.fab.store.foldl (fun (b : Option OdStored) e => match b with
    | none => some e | some x => if e.used < x.used then some e else some x) none
  match old with
  | none => s
  | some e =>
    let s1 := s.setFab fun x => { x with store := x.store.filter fun y => y.requester != e.requester || y.chan != e.chan }
    odResume serve s1

/-! Stamp exports (R108, R325). -/

/-- The records that an export has not sent yet, oldest first, at most `n`. -/
def exportPick (fab : Bool) : List RingEntry → Nat → List Stamp
  | [], _ => []
  | _, 0 => []
  | e :: r, n + 1 => if (if fab then e.fab else e.eth) then e.stamp :: exportPick fab r n else exportPick fab r (n + 1)

/-- The ring once they are sent. -/
def exportMark (fab : Bool) : List RingEntry → Nat → List RingEntry
  | [], _ => []
  | l, 0 => l
  | e :: r, n + 1 =>
    if (if fab then e.fab else e.eth) then
      (if fab then { e with fab := false } else { e with eth := false }) :: exportMark fab r n
    else e :: exportMark fab r (n + 1)

/-- Can the export send: a port that is up, or a destination whose STAMP class is not held up? -/
def exportOpen (s : State) (fab : Bool) : Bool :=
  if fab then
    s.fb 0x12 != 0 && (match routeLookup s (s.fb 0x12) with
      | some (p, _) => fabUp s p && ((s.portAt p).cls 2).queue.isEmpty
          && decide (fabInFlight ((s.portAt p).cls 2) + 24 ≤ fabCapacity 2)
      | none => false)
  else decide (1 ≤ s.rd (key 0x2610 1)) && portUp s (s.rd (key 0x2610 1) - 1)

/-- The payload of an export frame (R108). -/
def exportPayload (x : Export) (l : List Nat) : List Nat :=
  le 4 x.sequence ++ le 2 l.length ++ le 2 x.lost ++ l.foldr (fun y a => le 12 y ++ a) []

/-- The fault records that an export has not sent (R437). -/
def streamPick (s : State) (fab : Bool) (n : Nat) : List Nat :=
  ((s.col.stream.filter fun e => if fab then e.fab else e.eth).map fun e => e.record).take n

/-- The stream listener's queue once `n` of them are sent; a record that both exports have sent leaves it. -/
def streamMark (fab : Bool) : List StreamRec → Nat → List StreamRec
  | [], _ => []
  | l, 0 => l
  | e :: r, n + 1 =>
    if (if fab then e.fab else e.eth) then
      let e1 := if fab then { e with fab := false } else { e with eth := false }
      if e1.fab || e1.eth then e1 :: streamMark fab r n else streamMark fab r n
    else e :: streamMark fab r (n + 1)

/-- The records of the next frame: fault records first (log entry 55), then stamps. -/
def exportRecords (s : State) (fab : Bool) : List Nat × Nat :=
  let n := s.rd (key 0x2610 3)
  let f := streamPick s fab n
  (f ++ (exportPick fab s.chan.ring (n - f.length)).map stampWords, f.length)

/-- A frame with the records there are, at most RECORDS_PER_FRAME, is sent. -/
def exportSend (s : State) (fab : Bool) : State :=
  let l := (exportRecords s fab).1
  let faults := (exportRecords s fab).2
  if l = [] ∨ exportOpen s fab = false then s
  else
    let x := if fab then s.chan.fab else s.chan.eth
    let b := exportPayload x l
    let y : Export := { sequence := cut 32 (x.sequence + 1), lost := 0 }
    let s1 := (s.setChans fun c => { c with ring := exportMark fab c.ring (s.rd (key 0x2610 3) - faults) }).setCol fun c =>
      { c with stream := streamMark fab c.stream faults }
    if fab then fabSendTo (s1.setChans fun c => { c with fab := y }) (s.fb 0x12) 2 0x30 b
    else ((s1.setChans fun c => { c with eth := y }).send
      (.eth (s.rd (key 0x2610 1) - 1) 0x88B5 (datumOf (le 6 (s.rd (key 0x2610 2)) ++ b)))).inc 32 (key 0x2610 5) 1

/-- After a stamp is delivered: a frame that holds RECORDS_PER_FRAME records goes at once. -/
def exportCheck (s : State) (fab : Bool) : State :=
  if (exportRecords s fab).1.length = s.rd (key 0x2610 3) then exportSend s fab else s

/-! STATUS of 3800h (R334). -/
def fabStatus (s : State) : Nat :=
  at_ ((List.range 4).any (fabUp s)) 0 + at_ (isRoot s) 1 + at_ (decide (s.fb 0x0A ≠ 0)) 2 + at_ (s.bl 7 == 3) 3
    + at_ (s.bl 7 == 4 || s.bl 7 == 5) 4 + at_ ((List.range 4).any fun p => fabRole s p == 4) 5
    + at_ (s.rd (key 0x2043 1) == 1) 6 + at_ (!s.fab.pending.isEmpty) 7

end Sys2Proof.Machine
end

