-- ==== Sys2Proof/Machine/Calib.lean ====
section
/-! DEFINITION. Background calibration: slice times, steps, handovers, sweeps, output tracking, trims and records
(chapter 11 of spec/). -/

namespace Sys2Proof.Machine

def State.dieCal (s : State) (d : Nat) : DieCal := s.cal.dies.getD d {}
def State.setDieCal (s : State) (d : Nat) (f : DieCal → DieCal) : State :=
  s.setCal fun c => { c with dies := upd c.dies d f }
def State.sliceCal (s : State) (d i : Nat) : SliceCal := (s.dieCal d).slices.getD i {}
def State.setSlice (s : State) (d i : Nat) (f : SliceCal → SliceCal) : State :=
  s.setDieCal d fun x => { x with slices := upd x.slices i f }
def State.outCal (s : State) (n : Nat) : OutCal := s.cal.outs.getD n {}
def State.setOutCal (s : State) (n : Nat) (f : OutCal → OutCal) : State :=
  s.setCal fun c => { c with outs := upd c.outs n f }

/-- Slice record i of die Cd, and output record i (R356). -/
def sliceRec (s : State) (d i : Nat) : Nat := s.rd (key (0x2510 + d) (i + 1))
def outRec (s : State) (d i : Nat) : Nat := s.rd (key (0x2520 + d) (i + 1))

/-! Slice times (R341). -/

/-- The INL correction at fine bin b, 2^−16 ns. -/
def inlCorr (rec_ b : Nat) : Int :=
  let m := b / 16
  let at_ := fun i => toI 16 (bytesAt rec_ (24 + 2 * i) 2)
  let hi := if m < 31 then at_ (m + 1) else 0
  at_ m + ((hi - at_ m) * (b % 16 : Nat) + 8) / 16

/-- The time of a capture as the TDC has it, and its correction: INL, and the offset of the path, 0 rising, 1 falling, 2 prescaled;
both in 2^−16 ns. -/
def nominalTime (coarse b : Nat) : Int := (coarse * 131072 + b * 256 + 128 : Nat)
def sliceCorr (rec_ b path : Nat) : Int := inlCorr rec_ b + toI 32 (bytesAt rec_ (8 + 4 * path) 4)

/-- The slice that serves channel n: its own, or the die's spare (R342, R346). -/
def servingSlice (s : State) (n : Nat) : Nat := if (s.chanAt n).onSpare then 16 else n % 16

/-- The correction of an edge of channel n that its slice captured in fine bin b. -/
def edgeCorr (s : State) (n : Nat) (falling : Bool) (b : Nat) : Int :=
  sliceCorr (sliceRec s (n / 16) (servingSlice s n)) (b % 512) (if prescRatio s n ≠ 1 then 2 else b2n falling)

/-- The time of an edge at the ball of channel n in the measurement time base (R99, R341). -/
def edgeTime (s : State) (n : Nat) (falling : Bool) (coarse b : Nat) : Int :=
  nominalTime coarse (b % 512) + edgeCorr s n falling b

/-! Passes (R343, R344, R355). -/

/-- Does the channel of a slice need stamping? The spare has none. -/
def sliceNeeds (s : State) (d i : Nat) : Bool := decide (i < 16) && inputOn s (16 * d + i)

/-- Can a slice use OWN (R343)? -/
def ownUsable (s : State) (d i rate : Nat) : Bool :=
  let p := s.rd (key 0x2500 8)
  sliceNeeds s d i && (p == 1 || (p == 0 && decide (s.rd (key 0x2500 9) ≤ rate)))

/-- Is OWN demanded of a slice under a SOURCE_POLICY? -/
def ownOnly (policy i : Nat) : Bool := policy == 1 && decide (i < 16)

def sumN (l : List Nat) : Nat := l.foldl (· + ·) 0

/-- Is a pass flat (R344)? -/
def passFlat (h : List Nat) : Bool :=
  h.length == 512 && decide (0 < sumN h) && h.all fun x => decide (sumN h ≤ 8 * 512 * x ∧ 512 * x ≤ 4 * sumN h)

/-- Cumulative counts before each bin. -/
def cumulative : List Nat → Nat → List Nat
  | [], _ => []
  | x :: r, a => a :: cumulative r (a + x)

/-- The INL table that PASS2's cumulative counts give (R345): position less nominal, at bins 16m, inl[0] = 0. -/
def inlTable (h : List Nat) : List Int :=
  (List.range 32).map fun m => roundDiv (((cumulative h 0).getD (16 * m) 0 * 131072 : Nat) : Int) (sumN h) - (4096 * m : Nat)

/-- Position of a bin's centre by code density less the position the new table gives, 2^−16 ns. -/
def inlResidual (h : List Nat) (rec_ : Nat) (b : Nat) : Q :=
  (qd ((2 * (cumulative h 0).getD b 0 + h.getD b 0 : Nat) * 131072) (2 * sumN h)).sub (qi ((b * 256 + 128 : Nat) + inlCorr rec_ b))

/-- 2^−16 ns in 0.01 ps: 10^5 / 2^16. -/
def toCentiPs (x : Q) : Q := x.mul (qd 100000 65536)

/-- INL_RMS, INL_MAX and DNL_MAX of a new set (R355). -/
def passQuality (h : List Nat) (rec_ : Nat) : Nat × Nat × Nat :=
  let r := (List.range 512).map (inlResidual h rec_)
  let sq := r.foldl (fun a x => a.add (x.mul x)) (qi 0)
  let mx := r.foldl (fun (a : Q) x => a.max x.abs) (qi 0)
  let dn := h.foldl (fun (a : Q) x => a.max ((qd (512 * x : Nat) (sumN h)).sub (qi 1)).abs) (qi 0)
  (sat 16 (toCentiPs (sqrt64 (sq.div (qi 512)))).round.toNat, sat 16 (toCentiPs mx).round.toNat,
   sat 16 (dn.mul (qi 1000)).round.toNat)

/-! Messages, and what is mirrored (R360, R361, R363). -/

/-- A message of die Cd. -/
def calRaise (s : State) (d kind addr : Nat) : State := s.raise (d + 2) 1 kind addr

/-- Is die Cd PAUSED (R359)? -/
def calPaused (s : State) (d : Nat) : Bool := !bit (s.rd (key 0x2500 5)) d && (s.dieCal d).phase == 0

/-- AGE of a slice, s (R355). -/
def sliceAge (s : State) (d i : Nat) : Nat := sat 16 ((s.now - (s.sliceCal d i).since) / 1000000000)

/-- DIE_CAL of die Cd (R361). -/
def dieCalWord (s : State) (d : Nat) : Nat :=
  let x := s.dieCal d
  (if x.phase = 0 then 31 else x.slice) + x.phase * 2 ^ 5 + at_ (calPaused s d) 8 + at_ x.stopped 9 + at_ x.initialDone 10
    + at_ (decide (x.phase ≠ 0) && x.aux) 11 + maxOf ((List.range 17).map (sliceAge s d)) * 2 ^ 16

/-- STATE of slice i of die Cd: 0 SERVING, 1 CALIBRATING, 2 IDLE, 3 FAILED (R361). -/
def sliceState (s : State) (d i : Nat) : Nat :=
  let x := s.dieCal d
  if (s.sliceCal d i).failed then 3
  else if x.phase ≠ 0 ∧ x.slice = i then 1
  else if i = 16 then (if (List.range 16).any fun j => (s.chanAt (16 * d + j)).onSpare then 0 else 2)
  else if sliceNeeds s d i then 0 else 2

/-- SLICE_QUALITY (R361): 16 bytes. -/
def sliceQuality (s : State) (d i : Nat) : Nat :=
  let q := s.sliceCal d i
  sliceState s d i + q.source * 2 ^ 8 + q.inlRms * 2 ^ 16 + q.inlMax * 2 ^ 32 + q.dnlMax * 2 ^ 48 + q.mismatch * 2 ^ 64
    + sliceAge s d i * 2 ^ 80 + cut 32 q.steps * 2 ^ 96

/-- Is output n enabled, as the calibrator sees it? -/
def outTracked (s : State) (n : Nat) : Bool := (s.chCfg n 1 == 2 || s.chCfg n 1 == 3) && s.chCfg n 0x0E == 1

/-- OUTPUT_QUALITY (R361): 8 bytes. -/
def outQuality (s : State) (n : Nat) : Nat :=
  let q := s.outCal n
  let st := if s.chCfg n 1 ≠ 2 ∧ s.chCfg n 1 ≠ 3 then 0 else if outTracked s n = false then 2
    else if (s.dieCal (n / 16)).phase ≠ 0 ∧ (s.dieCal (n / 16)).slice = n % 16 then 3 else 1
  ofI 16 q.delayError + q.residual % 2 ^ 16 * 2 ^ 16 + st * 2 ^ 32

/-- The records of die Cd that the hub mirrors in 2501h, 2510h+d and 2520h+d: subindex, length and value. -/
def calRecord (s : State) (index d : Nat) : List (Nat × Nat × Nat) :=
  if index = 0x2501 then [(d + 1, 4, dieCalWord s d)]
  else if index = 0x2510 + d then (List.range 17).map fun i => (0x12 + i, 16, sliceQuality s d i)
  else (List.range 16).map fun i => (0x11 + i, 8, outQuality s (16 * d + i))

/-- The mirror of a record of die Cd is refreshed (R24), once it has come over the link (R493). -/
def calMirror (s : State) (index d : Nat) : State :=
  let l := calRecord s index d
  carried s d false (transferWords (key index 0) (packed (l.map fun e => e.2))) fun s => s.many l fun e t => t.put (key index e.1) e.2.2

/-- STATUS of 2500h. -/
def calStatus (s : State) : Nat :=
  let q := fun (f : Nat → Nat → Bool) => (List.range 6).any fun d => (List.range 17).any fun i => f d i
  at_ ((List.range 6).all fun d => (s.dieCal d).initialDone) 0 + at_ (s.cal.sweep && s.cal.now_) 1
    + at_ ((List.range 6).any fun d => calPaused s d) 2 + at_ (s.cal.dies.any fun x => x.parked.isSome) 3
    + at_ (q fun d i => (s.sliceCal d i).failed) 4
    + at_ (q fun d i => decide (s.rd (key 0x2500 0x0A) < (s.sliceCal d i).inlMax)) 5
    + at_ (s.cal.outs.any fun o => decide (s.rd (key 0x2500 0x0B) < absI o.delayError)) 6
    + at_ (s.cal.eyeLow.any id) 7

/-! Sweeps (R347, R350). -/

/-- Outputs whose table a sweep measures: their path is idle (R351). -/
def tableIdle (s : State) (n : Nat) : Bool := s.chCfg n 1 != 1 && s.chCfg n 0x0E == 0

/-- A sweep starts: progress object 2042h. -/
def sweepStart (s : State) (now_ initial : Bool) : State :=
  let dies := popCount 6 (s.rd (key 0x2500 5))
  let outs := ((List.range 96).filter fun n => bit (s.rd (key 0x2500 5)) (n / 16) && tableIdle s n).length
  let s1 := s.setCal fun c => { c with
    sweep := true, now_ := now_, initial := initial, position := 0, dies := c.dies.map fun x => { x with sweepSteps := 0 } }
  progStart s1 2 (17 * dies + outs) 0xFF

/-- The sweep ends once every enabled die has completed 17 steps since its start. -/
def sweepCheck (s : State) : State :=
  if s.cal.sweep ∧ (List.range 6).all fun d => !bit (s.rd (key 0x2500 5)) d || decide (17 ≤ (s.dieCal d).sweepSteps) then
    let s1 := ((progEnd s 2 2 0).hist 0x2500 (2 ^ 0)).inc 32 (key 0x2500 0x0D) 1
    let s2 := s1.setCal fun c => { c with sweep := false, now_ := false, initial := false }
    if s.cal.initial then
      (s2.setCal fun c => { c with dies := c.dies.map fun x => { x with initialDone := true } }).hist 0x2500 (2 ^ 1)
    else s2
  else s

/-- ENABLE of the dies (R347, R359): a sweep that waited only for dies now off has ended; with no die on it waits. -/
def calEnable (s : State) (v : Nat) : State :=
  let s1 := s.put (key 0x2500 5) v
  if v = 0 then s1 else sweepCheck s1

/-- POSITION counts a completed step or table. -/
def sweepCount (s : State) : State :=
  if s.cal.sweep then
    progPos (s.setCal fun c => { c with position := c.position + 1 }) 2 (s.cal.position + 1)
  else s

/-! Steps (R345 to R349). -/

/-- The slice after i in the rotation: failed ones are passed over, but for those that SWEEP_NOW tries again. -/
def nextSlice (x : DieCal) (i : Nat) : Nat :=
  match (List.range 17).find? fun j =>
      let k := (i + 1 + j) % 17
      !(x.slices.getD k {}).failed || decide (k ∈ x.retry) with
  | some j => (i + 1 + j) % 17
  | none => i

/-- The channel of a slice passes to or from the spare at a cut tick: the first stamp after it carries CAL_STEP (R346). -/
def toSpare (s : State) (n : Nat) (on : Bool) : State := s.setChan n fun c => { c with onSpare := on, calStep := true }

/-- The die's step is over without a new set: the channel goes back to its slice. -/
def stepLeave (s : State) (d : Nat) : State :=
  let x := s.dieCal d
  let n := 16 * d + x.slice
  let back := x.slice < 16 ∧ (s.chanAt n).onSpare = true ∧ x.parked ≠ some x.slice
  let s1 := if back then toSpare s n false else s
  s1.setDieCal d fun x => { x with phase := 0, processing := false, aux := false, auxRest := false, handed := false, hist := [], inl := [] }

/-- A step is abandoned (R348): the same slice comes again once, then rotation moves on. -/
def stepAbandon (s : State) (d : Nat) : State :=
  let x := s.dieCal d
  if x.phase = 0 then s
  else
    let s1 := calRaise ((stepLeave s d).hist 0x2500 (2 ^ 4)) d 0x27 x.slice
    s1.setDieCal d fun y =>
      if x.abandoned then { y with abandoned := false, slice := nextSlice y x.slice } else { y with abandoned := true }

/-- The spare parks on a failed slice's channel, or rotation stops without it (R349). -/
def spareParks (s : State) (d i : Nat) : State :=
  let x := s.dieCal d
  if x.parked.isSome ∨ (s.sliceCal d 16).failed then s.setDieCal d fun x => { x with stopped := true }
  else
    let s1 := s.setDieCal d fun x => { x with parked := some i, stopped := true }
    if (s.chanAt (16 * d + i)).onSpare then s1 else toSpare s1 (16 * d + i) true

/-- A slice fails (R349). -/
def sliceFail (s : State) (d : Nat) : State :=
  let x := s.dieCal d
  let i := x.slice
  let s1 := (calRaise (s.hist 0x2500 (2 ^ 5)) d 0x26 i).setSlice d i fun q => { q with failed := true }
  let s2 := s1.setDieCal d fun y => { y with retry := y.retry.filter fun j => j != i, abandoned := false }
  let s3 :=
    if i = 16 then s2.setDieCal d fun x => { x with stopped := true }
    else if x.parked = some i then s2.setDieCal d fun x => { x with stopped := true }
    else if sliceNeeds s d i then spareParks s2 d i
    else s2
  (stepLeave s3 d).setDieCal d fun y => { y with slice := nextSlice y i }

/-- A pass starts, on OWN or AUX (R343, R344), and keeps the settings it starts with (R359). -/
def passStart (s : State) (d phase : Nat) : State :=
  let x := s.dieCal d
  let own := !x.auxRest && ownUsable s d x.slice x.rate
  s.setDieCal d fun y => 
    { y with phase := phase, processing := false, aux := !own, count := s.rd (key 0x2500 7), policy := s.rd (key 0x2500 8) }

/-- CAL_STEP_START (R343, R345, R347). -/
def stepStart (s : State) (d rate : Nat) : State :=
  let x := s.dieCal d
  let i := x.slice
  if s.cal.running = false ∨ 6 ≤ d ∨ x.phase ≠ 0 ∨ bit (s.rd (key 0x2500 5)) d = false ∨ x.stopped
      ∨ ((s.sliceCal d i).failed ∧ i ∉ x.retry) then s
  else
    let s0 := if s.cal.sweep then s else sweepStart s false false
    let s1 := s0.setDieCal d fun y => { y with rate := rate, auxRest := false, hist := [], inl := [] }
    if ownOnly (s.rd (key 0x2500 8)) i ∧ sliceNeeds s d i = false then stepAbandon (s1.setDieCal d fun y => { y with phase := 2 }) d
    else if sliceNeeds s d i ∧ x.parked ≠ some i then s1.setDieCal d fun y => { y with phase := 1, handed := true, aux := false }
    else passStart s1 d 2

/-- CAL_PASS_COMPLETE (R344): 2^HIST_COUNT captures have been gathered. -/
def passComplete (s : State) (d : Nat) (h : List Nat) : State :=
  let x := s.dieCal d
  if (x.phase ≠ 2 ∧ x.phase ≠ 3) ∨ x.processing ∨ sumN h ≠ 2 ^ x.count then s
  else if passFlat h then s.setDieCal d fun y => { y with processing := true, hist := if x.phase = 3 then h else y.hist }
  else if x.aux then sliceFail s d
  else if ownOnly x.policy x.slice then stepAbandon s d
  else s.setDieCal d fun y => { y with aux := true, auxRest := true }

/-- CAL_PASS_TIMEOUT (R344): only a pass on OWN times out. -/
def passTimeout (s : State) (d : Nat) : State :=
  let x := s.dieCal d
  if (x.phase ≠ 2 ∧ x.phase ≠ 3) ∨ x.processing ∨ x.aux then s
  else if ownOnly x.policy x.slice then stepAbandon s d
  else s.setDieCal d fun y => { y with aux := true, auxRest := true }

/-- Trim of tap i in a record's TRIM field. -/
def trimOf (v i : Nat) : Nat := field v (4 * i) 4

/-- A trim moves by at most 3 codes per step (R345). -/
def trimStep (old want : Nat) : Nat := if old + 3 < want then old + 3 else if want + 3 < old then old - 3 else want

/-- The trims of a step: toward what the sequencer wants, by at most 3 codes each. -/
def newTrims (old want : Nat) : Nat :=
  (List.range 256).foldl (fun a i => a + trimStep (trimOf old i) (trimOf want i) * 2 ^ (4 * i)) 0

/-- 64 ps in 2^−16 ns, rounded down: the INL limit of a failed slice (R349). -/
def inlFail : Nat := 4194

/-- The record with a new set: trims, INL, offsets; FLAGS AUX_USED as used, NOMINAL cleared; GEN counts (R356). -/
def newRecord (old trims : Nat) (inl : List Int) (offsets : Nat) (aux : Bool) : Nat :=
  let r1 := putBytes (putBytes old 3 1 (b2n aux)) 8 12 offsets
  let r2 := putBytes r1 20 4 (bytesAt old 20 4 + 1)
  let r3 := putBytes r2 24 64 ((List.range 32).foldl (fun a m => a + ofI 16 (inl.getD m 0) * 2 ^ (16 * m)) 0)
  putBytes r3 88 128 trims

/-- CAL_PROCESSING_DONE (R345, R349): trims after PASS1, the INL table after PASS2. -/
def processingDone (s : State) (d want : Nat) : State :=
  let x := s.dieCal d
  if x.processing = false then s
  else if x.phase = 2 then
    let t := newTrims (bytesAt (sliceRec s d x.slice) 88 128) want
    let rail := (List.range 256).any fun i => trimOf t i == 0 || trimOf t i == 15
    let n := if rail then (s.sliceCal d x.slice).rails + 1 else 0
    let s1 := (s.setSlice d x.slice fun q => { q with rails := n }).setDieCal d fun y => { y with trims := t }
    if 10 ≤ n then sliceFail s1 d else passStart s1 d 3
  else
    let l := inlTable x.hist
    if l.any fun v => decide (inlFail < absI v) then sliceFail s d
    else s.setDieCal d fun y => { y with phase := 4, processing := false, inl := l }

/-- The channel that a slice of die Cd stamps, or will stamp once it takes edges. -/
def servedBy (s : State) (d i : Nat) : Option Nat :=
  (List.range 16).find? fun j =>
    let n := 16 * d + j
    if i = 16 then (s.chanAt n).onSpare else j == i && !(s.chanAt n).onSpare

/-- The next stamp of the channel that a slice serves carries CAL_STEP (R102, R357). -/
def nextCalStep (s : State) (d : Nat) : Option Nat → State
  | some j => s.setChan (16 * d + j) fun c => { c with calStep := true }
  | none => s

/-- The new set comes into force and the step is complete (R345, R347, R349, R355). -/
def stepComplete (s : State) (d : Nat) (mismatch : Option Int) : State :=
  let x := s.dieCal d
  let i := x.slice
  let rec_ := newRecord (sliceRec s d i) x.trims x.inl x.offsets x.aux
  let q := passQuality x.hist rec_
  let s1 := (s.put (key (0x2510 + d) (i + 1)) rec_).setSlice d i fun y =>
    { y with failed := false, source := b2n x.aux, inlRms := q.1, inlMax := q.2.1, dnlMax := q.2.2,
             mismatch := match mismatch with | some m => ofI 16 m | none => 0x7FFF, since := s.now, steps := y.steps + 1 }
  let s2 := s1.setDieCal d fun y =>
    { y with phase := 0, processing := false, aux := false, auxRest := false, handed := false, hist := [], inl := [], abandoned := false,
             sweepSteps := y.sweepSteps + 1, retry := y.retry.filter fun j => j != i,
             parked := if y.parked = some i then none else y.parked,
             slice := nextSlice { y with retry := y.retry.filter fun j => j != i } i }
  let s3 := (nextCalStep s2 d (servedBy s2 d i)).when (decide (s.rd (key 0x2500 0x0A) < q.2.1)) fun s => calRaise (s.hist 0x2500 (2 ^ 6)) d 0x28 i
  sweepCheck (sweepCount s3)

/-- CAL_OFFSETS_DONE (R345, R351): the offsets are set; an idle output's table is measured with its slice's step. -/
def offsetsDone (s : State) (d offsets table residual : Nat) : State :=
  let x := s.dieCal d
  let i := x.slice
  let n := 16 * d + i
  if x.phase ≠ 4 then s
  else
    let s1 := s.setDieCal d fun y => { y with offsets := offsets % 2 ^ 96 }
    let s2 := if i < 16 ∧ tableIdle s n then
        sweepCount ((s1.put (key (0x2520 + d) (i + 1)) (putBytes (putBytes (outRec s d i) 3 1 0) 8 44 (putBytes table 10 2 0))).setOutCal n
          fun o => { o with residual := sat 16 residual })
      else s1
    if sliceNeeds s d i ∧ (s.chanAt n).onSpare then s2.setDieCal d fun y => { y with phase := 5 }
    else stepComplete s2 d none

/-- CAL_HANDOVER_CUT (R346): out to the spare, or back with the new set. -/
def handoverCut (s : State) (d : Nat) (mismatch : Option Int) : State :=
  let x := s.dieCal d
  let n := 16 * d + x.slice
  if x.phase = 1 then passStart (toSpare s n true) d 2
  else if x.phase = 5 then
    stepComplete ((toSpare s n false).setDieCal d fun y => { y with stopped := if y.parked = some x.slice then false else y.stopped }) d mismatch
  else s

/-- CAL_LINK_ABANDON_TIMER (R348). -/
def linkAbandon (s : State) (d : Nat) : State := if s.linkUp d then s else stepAbandon s d

/-- The source of the measurement time base changes: every die abandons its step (R348). -/
def calTbChange (s : State) : State := s.many (List.range 6) fun d s => stepAbandon s d

/-- A channel's ROLE has changed between stamping and not (R348, R349): `was` is whether it needed stamping before. -/
def calRole (s : State) (n : Nat) (was : Bool) : State :=
  let d := n / 16
  let i := n % 16
  if inputOn s n = was then s
  else
    let s1 := if (s.dieCal d).phase ≠ 0 ∧ (s.dieCal d).slice = i then stepAbandon s d else s
    if was = false ∧ (s1.sliceCal d i).failed ∧ (s1.dieCal d).parked ≠ some i then spareParks s1 d i else s1

/-- SWEEP_NOW (R347, R349, R359): ignored while one runs; every failed slice is tried again, the parked one first. -/
def sweepNow (s : State) : State :=
  if s.cal.sweep ∧ s.cal.now_ then s
  else
    (sweepStart s true false).many (List.range 6) fun d s =>
      s.setDieCal d fun x =>
        { x with stopped := false, retry := (List.range 17).filter fun i => (x.slices.getD i {}).failed,
                 slice := if x.phase = 0 then x.parked.getD x.slice else x.slice }

/-! Tracking, trims and lanes (R351 to R354). -/

/-- OUTPUT_TRACKING: an error in 0.01 ps is published, and corrected by at most 0.1 ps. -/
def outTrack (s : State) (n : Nat) (err : Int) : State :=
  let d := n / 16
  if n < 96 ∧ outTracked s n ∧ ((s.dieCal d).phase = 0 ∨ (s.dieCal d).slice ≠ n % 16) then
    let e := satI 16 err
    let s1 := s.setOutCal n fun o => { o with delayError := e, track := o.track - clampI 10 e }
    s1.when (decide (s.rd (key 0x2500 0x0B) < absI e)) fun s => calRaise (s.hist 0x2500 (2 ^ 7)) d 0x29 (0x100 + n)
  else s

/-- A code moved by at most one, within its field. -/
def codeStep (v lo len : Nat) (move : Int) : Nat :=
  let x := (field v lo len : Int) + clampI 1 move
  let y := if x < 0 then 0 else if (2 ^ len : Nat) ≤ x then 2 ^ len - 1 else x.toNat
  v - field v lo len * 2 ^ lo + y * 2 ^ lo

/-- BRANCH_TRIM_STEP (R352): the trim of the branch to die Cc moves, and its residual error is published. -/
def branchStep (s : State) (c : Nat) (move err : Int) : State :=
  if c < 6 then (s.put (key 0x2530 (c + 1)) (codeStep (s.rd (key 0x2530 (c + 1))) 0 12 move)).dputI 16 (key 0x2530 (c + 7)) (satI 16 err) else s

/-- APLL_TRIM_STEP (R353). -/
def apllTrim (s : State) (j : Nat) (amp gain : Int) (margin : Nat) : State :=
  if (s.apllAt j).state = .locked ∧ j < 8 then
    let k := key 0x2530 (0x0D + j)
    let m := key 0x2530 (0x15 + j)
    let low := decide (min margin 100 < 10)
    let was := s.drd m
    let s1 := (s.put k (codeStep (codeStep (s.rd k) 8 6 amp) 16 6 gain)).dput m (min margin 100)
    s1.when (low && decide (10 ≤ was)) fun s => (s.hist 0x2500 (2 ^ 9)).raise 1 2 0x12 (0x10 + j)
  else s

/-- Band selection ends (R217, R353): the band is kept in APLL_TRIM. -/
def bandKept (s : State) (j band : Nat) : State :=
  if (s.apllAt j).state = .locking then
    bandDone ((s.put (key 0x2530 (0x0D + j)) (s.rd (key 0x2530 (0x0D + j)) / 64 * 64 + band % 64)).dput (key 0x2530 (0x15 + j)) 100) j
  else s

/-- LANE_ADAPT_STEP (R354). -/
def laneStep (s : State) (l : Nat) (ctle dfe1 dfe2 : Int) : State :=
  let k := key 0x2540 (7 + l)
  if l < 6 ∧ bit (s.rd (key 0x2540 0x0D)) l = false then
    s.put k (codeStep (codeStep (codeStep (s.rd k) 0 8 ctle) 8 8 dfe1) 16 8 dfe2)
  else s

/-- EYE_MONITOR (R354). -/
def eyeMonitor (s : State) (l width : Nat) : State :=
  if l < 6 then
    let w := min width 10000
    let lim := s.rd (key 0x2540 0x0E)
    let was := s.cal.eyeLow.getD l false
    let low := if w < lim then true else if lim + 500 < w then false else was
    let s1 := (s.put (key 0x2540 (l + 1)) w).setCal fun c => { c with eyeLow := c.eyeLow.set l low }
    s1.when (low && !was) fun s => (s.hist 0x2500 (2 ^ 8)).raise 0 9 0x2A (0x600 + l)
  else s

/-! Writing records (R357, R359). -/

/-- Is the header of a record wrong: FORMAT, slice or output, and die (R357, R359)? -/
def sliceRecBad (d i v : Nat) : Bool := byteAt v 0 != 1 || byteAt v 1 != i || byteAt v 2 != d + 2
def outRecBad (d i v : Nat) : Bool := byteAt v 0 != 1 || byteAt v 1 != 16 * d + i || byteAt v 2 != d + 2

/-- Is a slice record refused (R357, R359)? 0 for no. -/
def sliceRecRefuse (s : State) (d i v : Nat) : Nat :=
  if sliceRecBad d i v then 0x06090030
  else if calPaused s d = false then 0x08000021
  else if bytesAt v 4 4 ≠ s.rd (key 0x2000 3) % 2 ^ 32 then 0x08000022
  else 0

/-- Is an output record refused? -/
def outRecRefuse (s : State) (d i v : Nat) : Nat :=
  if outRecBad d i v then 0x06090030
  else if calPaused s d = false then 0x08000021
  else if bytesAt v 4 4 ≠ s.rd (key 0x2000 3) % 2 ^ 32 then 0x08000022
  else 0

/-- A slice record as it comes into force (R357): GEN counts. -/
def sliceRecNext (old v : Nat) : Nat := putBytes (putBytes (v % 2 ^ 1728) 20 4 (bytesAt old 20 4 + 1)) 3 1 (byteAt v 3 % 4)

/-- A slice record comes into force (R357): AGE restarts, the next stamp carries CAL_STEP. -/
def sliceRecPut (s : State) (d i v : Nat) : State :=
  let s1 := (s.put (key (0x2510 + d) (i + 1)) (sliceRecNext (sliceRec s d i) v)).setSlice d i fun q => { q with since := s.now }
  nextCalStep s1 d (servedBy s1 d i)

/-- An output record comes into force. -/
def outRecPut (s : State) (d i v : Nat) : State := s.put (key (0x2520 + d) (i + 1)) (putBytes (v % 2 ^ 416) 18 2 0)

/-! Saving and restoring (R358, R359). -/

/-- The calibration area that the present records make. -/
def calArea (s : State) : Nat :=
  let head := 1 + identity s * 2 ^ 32 + s.rd (key 0x2000 2) % 2 ^ 32 * 2 ^ 96 + tc0Time80 s % 2 ^ 80 * 2 ^ 128
  let v1 := (List.range 102).foldl (fun a i => putBytes a (64 + 216 * i) 216 (sliceRec s (i / 17) (i % 17))) head
  let v2 := (List.range 96).foldl (fun a i => putBytes a (22096 + 52 * i) 52 (outRec s (i / 16) (i % 16))) v1
  let v3 := (List.range 6).foldl (fun a i => putBytes a (27088 + 4 * i) 4 (s.rd (key 0x2530 (i + 1)))) v2
  let v4 := (List.range 8).foldl (fun a i => putBytes a (27112 + 4 * i) 4 (s.rd (key 0x2530 (0x0D + i)))) v3
  putBytes v4 60 4 (crc32Two v4 0 60 64 27080)

/-- SAVE_SHADOW. -/
def calSave (s : State) : State :=
  ((s.setCal fun c => { c with area := calArea s }).hist 0x2500 (2 ^ 2)).put (key 0x2500 0x0E) 3

/-- Does the area pass its checks? -/
def calAreaOk (s : State) : Bool :=
  let v := s.cal.area
  bytesAt v 0 2 == 1 && bytesAt v 4 8 == identity s && bytesAt v 12 4 == s.rd (key 0x2000 2) % 2 ^ 32
    && bytesAt v 60 4 == crc32Two v 0 60 64 27080

/-- The area is blank: erased, or never written. -/
def calBlank (v : Nat) : Bool := v == 0 || v == 2 ^ (8 * 28672) - 1

/-- RESTORE_SHADOW, and the restore stage of boot (R358): the records, or NONE, or MISMATCH with RESTORE_REFUSED. -/
def calRestore (s : State) : State :=
  let v := s.cal.area
  if calBlank v then s.put (key 0x2500 0x0E) 0
  else if calAreaOk s = false then (s.put (key 0x2500 0x0E) 2).hist 0x2500 (2 ^ 3)
  else
    let s1 := s.many (List.range 102) fun i s => sliceRecPut s (i / 17) (i % 17) (bytesAt v (64 + 216 * i) 216)
    let s2 := s1.many (List.range 96) fun i s => outRecPut s (i / 16) (i % 16) (bytesAt v (22096 + 52 * i) 52)
    let s3 := s2.many (List.range 6) fun i s => s.put (key 0x2530 (i + 1)) (bytesAt v (27088 + 4 * i) 4)
    let s4 := s3.many (List.range 8) fun i s => s.put (key 0x2530 (0x0D + i)) (bytesAt v (27112 + 4 * i) 4)
    s4.put (key 0x2500 0x0E) 1

/-- Is RESTORE_SHADOW refused (R359)? -/
def calRestoreRefuse (s : State) : Nat :=
  if (List.range 6).all (calPaused s) ∧ (List.range 8).all fun j => (s.apllAt j).state == .off then 0 else 0x08000021

/-- The boot pass (R350): every slice calibrated on AUX, every output path's table measured; what they find is a free
value each (log entry 41). -/
def bootPass (s : State) : State :=
  let s1 := s.many (List.range 102) fun i s =>
    let old := sliceRec s (i / 17) (i % 17)
    let v := putBytes (putBytes (putBytes (putBytes old 3 1 1) 8 12 (s.freeVal 96)) 88 128 (s.freeNext.freeVal 1024)) 24 64
      (s.freeNext.freeNext.freeVal 512 / 65536 * 65536)
    let q := s.freeNext.freeNext.freeNext.freeVal 48
    ((sliceRecPut s (i / 17) (i % 17) v).freeNext.freeNext.freeNext.freeNext).setSlice (i / 17) (i % 17) fun y =>
      { y with source := 2, inlRms := q % 65536, inlMax := q / 65536 % 65536, dnlMax := q / 2 ^ 32 }
  s1.many (List.range 96) fun i s =>
    ((outRecPut s (i / 16) (i % 16) (putBytes (putBytes (outRec s (i / 16) (i % 16)) 3 1 1) 8 44 (s.freeVal 352))).freeNext.setOutCal i
      fun o => { o with residual := s.freeNext.freeVal 16 }).freeNext

end Sys2Proof.Machine
end

