-- ==== Sys2Proof/Machine/Nvm.lean ====
section
/-! DEFINITION. The non-volatile store: cells, page buffer, commits and stores, energy, power fail, ECC, records, images,
the journal and the event log (chapter 12 of spec/, R82 to R85). -/

namespace Sys2Proof.Machine

def State.devSet (s : State) (f : DevState → DevState) : State :=
  s.nvSet fun v => { v with sram := { v.sram with dev := f v.sram.dev } }

/-! Cells and pages (R364 to R366, R376). -/

/-- A byte of the main array as a read sees it: from the commit area while a seal stands for its page (R376). -/
def nvByte (s : State) (a : Nat) : Nat :=
  match (s.nv.area_.bind fun z => storeGet z.pages (a / 256)) with
  | some v => byteAt v (a % 256)
  | none => (storeRd (255 : Byte) s.nv.cells a).toNat

/-- `n` bytes of the main array from an address, least significant first. -/
def nvBytes (s : State) (a : Nat) : Nat → Nat
  | 0 => 0
  | n + 1 => nvByte s a + 256 * nvBytes s (a + 1) n

/-- `n` bytes of the cells themselves, from an address. -/
def cellBytes (m : List (Nat × Byte)) (a : Nat) : Nat → Nat
  | 0 => 0
  | n + 1 => (storeRd (255 : Byte) m a).toNat + 256 * cellBytes m (a + 1) n

def nvPage (s : State) (p : Nat) : Nat := nvBytes s (256 * p) 256

/-- Write the bytes of a number into cells. -/
def cellsPut (m : List (Nat × Byte)) (a v : Nat) : Nat → List (Nat × Byte)
  | 0 => m
  | n + 1 => cellsPut (storePut (255 : Byte) m a (BitVec.ofNat 8 v)) (a + 1) (v / 256) n

/-- The pages of a piece of the array. -/
def pagesOf (a n : Nat) : List Nat := if n = 0 then [] else (List.range ((a + n - 1) / 256 - a / 256 + 1)).map (a / 256 + ·)

/-! ECC (R379, R380). -/

/-- A single-bit error is corrected, and the group waits for its rewrite. -/
def eccSingle (s : State) (g : Nat) : State :=
  let s1 := (s.devSet fun d => { d with corrected := d.corrected + 1 }).nvSet fun v =>
    { v with fixes := if v.fixes.contains g then v.fixes else v.fixes ++ [g] }
  (((s1.put (key 0x2303 4) g).hist 0x2300 (2 ^ 8))).raise 0 0x0A 0x2F 0x702

/-- A double-bit error. -/
def eccDouble (s : State) (g : Nat) : State :=
  (((s.devSet fun d => { d with uncorrectable := d.uncorrectable + 1 }).put (key 0x2303 5) g).hist 0x2300 (2 ^ 9)).raise
    0 0x0A 0x30 0x702

/-- Groups with errors among `n` bytes from `a`. -/
def badGroups (s : State) (a n : Nat) : List (Nat × Nat) := s.nv.decay.filter fun e => decide (a / 8 * 8 ≤ e.1) && decide (e.1 < a + n)

/-- A read decodes its groups: 0 clean, 1 corrected, 2 uncorrectable, and the state after it. -/
def eccRead (s : State) (a n : Nat) : Nat × State :=
  let bad := badGroups s a n
  (maxOf (bad.map fun e => e.2), s.many bad fun e s => if e.2 = 2 then eccDouble s e.1 else eccSingle s e.1)

/-! Energy (R371). -/

def eCommit (p : Nat) : Nat := 140 + 60 * p
def eStore : Nat := 900

/-- E_avail, µJ. -/
def energyNow (s : State) : Nat := s.rd (key 0x2300 6) * (s.nv.vhold * s.nv.vhold - 3300 * 3300) / 2000000

/-- VDDC, both rails of VDDA_S and VDDIO_H are valid (R446). -/
def storeSupplies (s : State) : Bool := [0, 1, 2, 4].all fun i => s.nv.supplies.getD i false

/-- Does the energy check pass for a need in µJ? An unprotected device makes none. -/
def energyOk (s : State) (need : Nat) : Bool :=
  s.rd (key 0x2300 6) == 0
    || (storeSupplies s && decide (need * 2000000 ≤ s.rd (key 0x2300 6) * (s.nv.vhold * s.nv.vhold - 3300 * 3300)))

/-- A failure of the check: ENERGY_LOW, and its message at most once per second. -/
def energyLow (s : State) : State :=
  let s1 := s.hist 0x2300 (2 ^ 4)
  let tell := match s.nv.lowAt with | some t => decide (t + 1000000000 ≤ s.now) | none => true
  s1.when tell fun s => (s.nvSet fun v => { v with lowAt := some s.now }).raise 0 0x0A 0x2B 0x700

/-! Write accounting (R389). -/

def countAccept (s : State) (n : Nat) : State := s.devSet fun d => { d with accepted := d.accepted + n, pending := d.pending + n }

/-- Writes leave PENDING for COMMITTED or for ROLLED_BACK. -/
def countCommit (s : State) (n : Nat) : State :=
  s.devSet fun d => { d with committed := d.committed + min n d.pending, pending := d.pending - min n d.pending }
def countRollBack (s : State) (n : Nat) : State :=
  s.devSet fun d => { d with rolledBack := d.rolledBack + min n d.pending, pending := d.pending - min n d.pending }

/-! The page buffer (R372). -/

def slotsOf (s : State) (o : Owner) : List Slot := s.nv.slots.filter fun x => x.owner == o

/-- Slots in use: RECORD holds one, even when ERASE commits it to two pages (log entry 53). -/
def slotsUsed (s : State) : Nat :=
  (slotsOf s .host).length + (slotsOf s .download).length + min 1 (slotsOf s .record).length
    + b2n (!s.nv.journal.staged.isEmpty) + b2n (!s.nv.events.staged.isEmpty)

def bufferFree (s : State) : Nat := 16 - slotsUsed s

/-- Overlay `len` bytes at `a` on the pages of an owner's slots, filling a slot from its page at its first use. -/
def slotWrite (s : State) (o : Owner) (a len x : Nat) : State :=
  s.many (pagesOf a len) fun p s =>
    let lo := max a (256 * p)
    let hi := min (a + len) (256 * p + 256)
    let old := match s.nv.slots.find? fun z => z.owner == o && z.page == p with
      | some z => z.data
      | none => nvPage s p
    let new : Slot := ⟨o, p, putBytes old (lo - 256 * p) (hi - lo) (bytesAt x (lo - a) (hi - lo))⟩
    s.nvSet fun v => { v with slots := v.slots.filter (fun z => !(z.owner == o && z.page == p)) ++ [new] }

def dropSlots (s : State) (o : Owner) : State := s.nvSet fun v => { v with slots := v.slots.filter fun z => !(z.owner == o) }

/-- Put a job behind those requested before it. -/
def jobPut (s : State) (j : Job) : State :=
  s.nvSet fun v => { v with queue := if v.queue.contains j then v.queue else v.queue ++ [j] }

/-- A store is requested (R369): any number of requests during a store cause one further store. -/
def requestStore (s : State) : State := jobPut s .store

/-- The slots of an owner are rolled back (R374). -/
def rollBack (s : State) (o : Owner) (writes : Nat) : State :=
  if (slotsOf s o).isEmpty then s else (countRollBack (dropSlots s o) writes).hist 0x2300 (2 ^ 6)

def rollHost (s : State) : State := (rollBack s .host s.nv.hostWrites).nvSet fun v => { v with hostWrites := 0 }

/-! The two logs (R83, R387, R388). -/

def State.ring (s : State) (log : Bool) : LogRing := if log then s.nv.events else s.nv.journal
def State.setRing (s : State) (log : Bool) (f : LogRing → LogRing) : State :=
  s.nvSet fun v => if log then { v with events := f v.events } else { v with journal := f v.journal }
def logJob (log : Bool) : Job := if log then .eventLog else .journal
def logBase (log : Bool) : Nat := if log then 0x300000 else 0x200000

/-- HEAD_SEQ and TAIL_SEQ (R84). -/
def ringTail (r : LogRing) : Nat := cut 32 (r.next + 2 ^ 32 - r.held)
def ringHead (r : LogRing) : Nat := cut 32 (r.next + 2 ^ 32 - 1)
def ringHolds (r : LogRing) (seq : Nat) : Bool := decide (cut 32 (seq + 2 ^ 32 - ringTail r) < r.held)

/-- The address of the record with a SEQ. -/
def recordAddr (log : Bool) (seq : Nat) : Nat := logBase log + 32 * (seq % 32768)

/-- The commit of eight records waits on energy (R387), or for PFAIL_N to rise (R464). -/
def logStuck (s : State) (log : Bool) : Bool := (s.nv.waiting || s.nv.pfBoot) && s.nv.queue.contains (logJob log)

/-- Stage a record now: it takes the next SEQ, and a full page asks for its commit. -/
def logStage (s : State) (log : Bool) (r : LogRec) : State :=
  let g := s.ring log
  let seq := cut 32 (g.next + g.moving.length + g.staged.length)
  let s1 := (countAccept s 1).setRing log fun g => { g with staged := g.staged ++ [{ r with val := putBytes r.val 0 4 seq }] }
  s1.when (decide ((s1.ring log).staged.length = 8)) fun s => jobPut s (logJob log)

/-- A record is opened: staged, or waiting until it can be, until the recovery has ended and a place of the slot is free (R85, R378, R387,
log entry 85). -/
def logOpen (s : State) (log : Bool) (r : LogRec) : State :=
  let s1 := s.setRing log fun g => { g with opened := g.opened + 1 }
  let g := s1.ring log
  if g.staged.length < 8 ∧ g.waiting = [] ∧ s.nv.busy = false then logStage s1 log r
  else s1.setRing log fun g => { g with waiting := g.waiting ++ [r] }

/-- Records that waited take the free places of the slot; none enters it once the power-fail sequence has taken the pages (R377, R387). -/
def logDrain (s : State) (log : Bool) : State :=
  if s.nv.pfClosed then s
  else
    let g := s.ring log
    let n := 8 - g.staged.length
    (s.setRing log fun g => { g with waiting := g.waiting.drop n }).many (g.waiting.take n) fun r s => logStage s log r

/-- The staged records have been copied: the slot is free, and records that waited take it (R387). -/
def logMove (s : State) (log : Bool) : State :=
  logDrain (s.setRing log fun g => { g with moving := g.moving ++ g.staged, staged := [] }) log

/-- Has the journal record of a posted write been staged (R387)? The records that wait are the last ones opened. -/
def recordStaged (s : State) (ticket : Nat) : Bool := decide (ticket + s.nv.journal.waiting.length ≤ s.nv.journal.opened)

/-- Staged records are rolled back: their numbers come back into use. -/
def logRollBack (s : State) (log : Bool) : State :=
  let g := s.ring log
  let s1 := (countRollBack s g.staged.length).setRing log fun g => { g with staged := [] }
  s1.when (!g.staged.isEmpty) fun s => s.hist 0x2300 (2 ^ 6)

/-- Records have reached the cells. -/
def logLanded (s : State) (log : Bool) (n : Nat) : State :=
  let excess := (s.ring log).held + n - 32768
  let s1 := s.setRing log fun g => { g with next := cut 32 (g.next + n), held := min 32768 (g.held + n), moving := [] }
  if excess = 0 then s1
  else if log then (s1.inc 32 (key 0x2340 8) excess).hist 0x2300 (2 ^ 12)
  else (s1.inc 32 (key 0x2110 5) excess).hist 0x2100 (2 ^ 7)

/-- The pages that staged records make. -/
def logPages (s : State) (log : Bool) (recs : List LogRec) (acc : List (Nat × Nat)) : List (Nat × Nat) :=
  recs.foldl (fun acc r =>
    let a := recordAddr log (bytesAt r.val 0 4)
    let old := match storeGet acc (a / 256) with | some v => v | none => nvPage s (a / 256)
    storeIns acc (a / 256) (putBytes old (a % 256) 32 r.val)) acc

/-- INTERFACE and DETAIL of a write (R82). -/
def ifaceCode : Iface → Nat
  | .parallel => 1
  | .spi => 2
  | .canSdo => 3
  | .canUsdo => 3
  | .canPdo _ => 4
  | .canLss => 5
  | .fabric _ => 6
def ifaceDetail : Iface → Nat
  | .canPdo p => p
  | .fabric a => a % 4096
  | _ => 0
def ifaceUsdo : Iface → Bool
  | .canUsdo => true
  | _ => false

/-- The first four bytes of a value. -/
def first4 (d : Datum) : Nat := d.val % 2 ^ (8 * min 4 d.len)

/-- TC0's time as the ten bytes of a record. -/
def logTime (s : State) : Nat := tc0Time80 s % 2 ^ 80

/-- A journal record that opens (R82). -/
def journalRec (s : State) (code detail index sub flags old new : Nat) : Nat :=
  logTime s * 256 ^ 4 + code % 256 * 256 ^ 14
    + (flags + at_ (s.tcAt 0).unset 1) % 256 * 256 ^ 15 + detail % 65536 * 256 ^ 16 + index % 65536 * 256 ^ 18
    + sub % 256 * 256 ^ 20 + 1 * 256 ^ 22 + old % 2 ^ 32 * 256 ^ 24 + new % 2 ^ 32 * 256 ^ 28

/-- Does a write fold into a staged record (R83)? -/
def journalFolds (s : State) (via : Iface) (index sub : Nat) (r : LogRec) : Bool :=
  byteAt r.val 14 == ifaceCode via && bit (byteAt r.val 15) 3 == ifaceUsdo via && bytesAt r.val 16 2 == ifaceDetail via
    && bytesAt r.val 18 2 == index && byteAt r.val 20 == sub && decide (s.now ≤ r.at_ + 1000000000)
    && decide (bytesAt r.val 22 2 < 0xFFFF)

/-- The newest staged record takes the write, if it folds. -/
def journalFold (s : State) (via : Iface) (index sub : Nat) : Bool :=
  match s.nv.journal.staged.getLast? with
  | some r => journalFolds s via index sub r
  | none => false

/-- Is a write that would be journalled refused by the journal (R377, R387)? -/
def journalRefuse (s : State) (via : Iface) (index sub : Nat) : Nat :=
  if s.nv.pfClosed then 0x08000022
  else if decide (s.nv.journal.staged.length = 8) && logStuck s false && !journalFold s via index sub then 0x08000022
  else 0

/-- An accepted write is journalled (R15, R82, R83). -/
def journalWrite (s : State) (via : Iface) (index sub : Nat) (old new : Datum) : State :=
  if journalFold s via index sub then
    let fold := fun v => putBytes (putBytes (putBytes v 28 4 (first4 new)) 22 2 (bytesAt v 22 2 + 1)) 15 1
      (setBits (byteAt v 15) (1 + at_ (decide (4 < new.len)) 2))
    s.setRing false fun g => { g with staged := upd g.staged (g.staged.length - 1) fun r => { r with val := fold r.val } }
  else
    logOpen s false ⟨journalRec s (ifaceCode via) (ifaceDetail via) index sub
      (at_ (decide (4 < old.len ∨ 4 < new.len)) 2 + at_ (ifaceUsdo via) 3) (first4 old) (first4 new), s.now⟩

/-- A fault message offered to the event log (R388): level acted on, flags, message. Answers whether the listener's queue
was full. -/
def logEvent (s : State) (level flags msg : Nat) : Bool × State :=
  if s.rd (key 0x2340 1) = 0 ∨ level < s.rd (key 0x2340 2) ∨ (bit flags 0 ∧ s.rd (key 0x2340 3) = 0) then (false, s)
  else if s.nv.pfClosed then (false, s.inc 32 (key 0x2340 0x0A) 1)
  else
    let g := s.nv.events
    let full := decide (32 ≤ g.waiting.length) || (decide (g.staged.length = 8) && logStuck s true)
    if full then (true, s.inc 32 (key 0x2340 0x0A) 1)
    else
      let r := logTime s * 256 ^ 4 + level % 4 * 256 ^ 14 + (flags + at_ (s.tcAt 0).unset 1) % 256 * 256 ^ 15
        + msg % 2 ^ 32 * 256 ^ 16 + s.nv.sram.dev.bootCount % 2 ^ 32 * 256 ^ 20
      (false, logOpen s true ⟨r, s.now⟩)

/-- JOURNAL_COMMIT_TIMER: 1 s after the first record of a staged page. -/
def logTimer (s : State) (log : Bool) : State := s.when (!(s.ring log).staged.isEmpty) fun s => jobPut s (logJob log)

/-! Power fail (R377, R464). -/

/-- Step 3: HOST, RECORD and DOWNLOAD slots that no running commit holds go back, the queue is emptied, and steps 4 and 5
take their turns. -/
def pfStep3 (s : State) : State :=
  if s.nv.powerFail ∧ s.nv.pfStep = 1 ∧ s.nv.running = none then
    let s1 := rollHost s
    let s2 := rollBack s1 .record 1
    let s3 := rollBack s2 .download 1
    let logs := !(s3.nv.journal.staged.isEmpty && s3.nv.events.staged.isEmpty)
    s3.nvSet fun v => { v with
      pfStep := 3, hostCommit := false, recordPending := false, waiting := false, clearing := false, pfClosed := !logs,
      queue := (if logs then [.pfLogs] else []) ++ [.pfStore] }
  else s

/-- PFAIL_FALL. -/
def pfailFall (s : State) : State :=
  let s1 := s.nvSet fun v => { v with pfail := true }
  if s.rd (key 0x2300 6) = 0 ∨ s.nv.powerFail then s1
  else
    let s2 := ((s1.nvSet fun v => { v with powerFail := true, pfStep := 1 }).hist 0x2300 (2 ^ 5)).raise 0 0x0A 0x2C 0x700
    pfStep3 s2

/-- PFAIL_RISE, with the supplies in range. -/
def pfailRise (s : State) : State :=
  let s1 := s.nvSet fun v => { v with pfail := false }
  if s.nv.supplies.all id then
    logDrain (logDrain (s1.nvSet fun v => { v with powerFail := false, pfClosed := false, pfBoot := false, pfStep := 0 }) false) true
  else s1

/-! Commits (R375). -/

/-- Pages and writes of a job. -/
def jobPages (s : State) (j : Job) : Nat :=
  match j with
  | .commit o _ => (slotsOf s o).length
  | .journal => b2n (!s.nv.journal.staged.isEmpty)
  | .eventLog => b2n (!s.nv.events.staged.isEmpty)
  | .pfLogs => b2n (!s.nv.journal.staged.isEmpty) + b2n (!s.nv.events.staged.isEmpty)
  | _ => 0

/-- The first job leaves the queue. -/
def jobPop (s : State) : State := s.nvSet fun v => { v with queue := v.queue.drop 1, waiting := false }

/-- The energy check of a commit has failed. -/
def commitFails (s : State) (j : Job) : State :=
  let s1 := energyLow s
  match j with
  | .commit .host _ =>
    progSet ((jobPop s1).nvSet fun v => { v with hostCommit := false }) 1 3 0 (256 * jobPages s j) 0x08000022 0xFF
  | .pfLogs => (logRollBack (logRollBack (jobPop s1) false) true).nvSet fun v => { v with pfClosed := true }
  | _ => s1.nvSet fun v => { v with waiting := true }

/-- Steps 2 and 3: the slots are copied and the seal is written. -/
def commitSeal (s : State) (j : Job) : State :=
  let s1 := progStart ((jobPop s).nvSet fun v => { v with running := some j }) 1 (256 * jobPages s j) 0xFF
  match j with
  | .commit o w =>
    s1.nvSet fun v => { v with area_ := some { pages := (slotsOf s o).foldl (fun m z => storeIns m z.page z.data) [], writes := w } }
  | .journal =>
    logMove (s1.nvSet fun v => { v with area_ := some { pages := logPages s false s.nv.journal.staged [], writes := s.nv.journal.staged.length, journal := s.nv.journal.staged.length } }) false
  | .eventLog =>
    logMove (s1.nvSet fun v => { v with area_ := some { pages := logPages s true s.nv.events.staged [], writes := s.nv.events.staged.length, events := s.nv.events.staged.length } }) true
  | .pfLogs =>
    let z : Seal := { pages := logPages s true s.nv.events.staged (logPages s false s.nv.journal.staged []),
                      writes := s.nv.journal.staged.length + s.nv.events.staged.length,
                      journal := s.nv.journal.staged.length, events := s.nv.events.staged.length }
    logMove (logMove (s1.nvSet fun v => { v with area_ := some z, pfClosed := true }) false) true
  | _ => s1

/-- A commit's turn. -/
def commitTry (s : State) : State :=
  match s.nv.queue with
  | [] => s
  | j :: _ =>
    if j = .store ∨ j = .pfStore ∨ s.nv.pfBoot then s
    else if engineUp s 15 = false ∧ j ≠ .pfLogs then s
    else if jobPages s j = 0 then pfStep3 (jobPop s)
    else if energyOk s (eCommit (jobPages s j) + eStore) then commitSeal s j
    else commitFails s j

/-- A corrected group's rewrite, when nothing else waits (R380): a one-page commit counted only in SCRUB_REWRITES. -/
def rewriteGroup (s : State) : State :=
  match s.nv.fixes with
  | [] => s
  | g :: r =>
    if energyOk s (eCommit 1 + eStore) then
      (s.nvSet fun v => { v with fixes := r, decay := storeDel v.decay g }).devSet fun d => { d with rewrites := d.rewrites + 1 }
    else energyLow s

/-- COMMIT_START. -/
def commitStart (s : State) : State :=
  if s.nv.running ≠ none ∨ s.nv.waiting then s
  else if s.nv.queue = [] then rewriteGroup s
  else commitTry s

/-- ENERGY_RECHECK_TIMER. -/
def energyRecheck (s : State) : State := if s.nv.running = none ∧ s.nv.waiting then commitTry s else s

/-- Does a commit program a group: its content changes, or it cannot be read to be compared (R365, R375, log entry 52)? -/
def programs (m : List (Nat × Byte)) (z : Seal) (e : Nat × Nat) : Bool :=
  z.pages.any fun q => q.1 == e.1 / 256 && (e.2 == 2 || bytesAt q.2 (e.1 % 256) 8 != cellBytes m e.1 8)

/-- The pages of a seal reach the cells; the groups that change are programmed afresh. -/
def sealApply (s : State) (z : Seal) : State :=
  s.nvSet fun v => { v with
    area_ := none
    cells := z.pages.foldl (fun m e => cellsPut m (256 * e.1) e.2 256) v.cells
    decay := v.decay.filter fun e => !programs v.cells z e }

/-! Images and the download (R384, R385). -/

def imageBase (i : Nat) : Nat := if i = 0 then 0 else 0xC0000
def imageField (s : State) (i off len : Nat) : Nat := nvBytes s (imageBase i + off) len
def imageLength (s : State) (i : Nat) : Nat := imageField s i 4 4
def setImage (s : State) (i st : Nat) : State := s.devSet fun d => { d with images := d.images.set i st }
def imageState (s : State) (i : Nat) : Nat := s.nv.sram.dev.images.getD i 0

/-- The image that a download writes: the one not running. -/
def downloadTarget (s : State) : Nat := 1 - s.rd (key 0x2000 5)

/-- Is every die's revision at least what the image asks? -/
def revisionOk (s : State) (i : Nat) : Bool :=
  (List.range 8).all fun d => decide (field (imageField s i 12 4) (4 * d) 4 ≤ field (s.rd (key 0x2000 2)) (4 * d) 4)

/-- FORMAT, LENGTH and CRC of an image. -/
def imageSound (s : State) (i : Nat) : Bool :=
  let n := imageLength s i
  imageField s i 0 2 == 1 && decide (64 ≤ n) && decide (n ≤ 786432)
    && imageField s i 16 4 == crc32 (nvBytes s (imageBase i) n) 20 (n - 20)

/-- START's verification, once every byte is in the cells. -/
def imageVerify (s : State) (received : Option Nat) : State :=
  let i := downloadTarget s
  let (e, s1) := eccRead s (imageBase i) (min 786432 (imageLength s i))
  let lenOk : Bool := match received with | some n => n == imageLength s i | none => true
  let s2 := s1.nvSet fun v => { v with download := none }
  if e ≠ 2 ∧ imageSound s i ∧ lenOk ∧ revisionOk s i then
    let s3 := (setImage s2 i 2).devSet fun d => { d with bootImage := i }
    requestStore (progEnd ((s3.nvSet fun v => { v with flash := 0 })) 5 2 0)
  else
    let code := if e = 2 then 0x0A else if imageSound s i ∧ lenOk then 0x10 else 6
    progEnd ((setImage s2 i 3).nvSet fun v => { v with flash := code }) 5 3 (if e = 2 then 0x06060000 else 0x08000020)

/-- Bytes of the download enter the slots in chunks of 1024; after START the last chunk may be shorter. -/
def downloadPump (s : State) : State :=
  match s.nv.download with
  | none => s
  | some dl =>
    if !(slotsOf s .download).isEmpty then s
    else if 1024 ≤ dl.rest.len ∨ (dl.starting ∧ 0 < dl.rest.len) then
      let n := min 1024 dl.rest.len
      let a := imageBase (downloadTarget s) + dl.placed
      let s1 := slotWrite s .download a n (dl.rest.val % 2 ^ (8 * n))
      let s2 := s1.nvSet fun v => { v with download := some { dl with placed := dl.placed + n, rest := ⟨dl.rest.len - n, dl.rest.val / 2 ^ (8 * n)⟩ } }
      jobPut (countAccept s2 1) (.commit .download 1)
    else if dl.starting then imageVerify s (some dl.received)
    else s

/-- The header page of the image that a download writes is written to 0xFF (R385). -/
def clearHeader (s : State) : State :=
  let s1 := s.nvSet fun v => { v with clearing := false }
  jobPut (countAccept (slotWrite s1 .download (imageBase (downloadTarget s)) 256 (2 ^ 2048 - 1)) 1) (.commit .download 1)

/-- The DOWNLOAD slots are free again: an image CLEAR that waited takes one, else the next chunk enters (R372, R385). -/
def downloadNext (s : State) : State := if s.nv.clearing then clearHeader s else downloadPump s

/-- COMMIT_COMPLETE (R375): the seal is CLEARED and the counts move. -/
def commitComplete (s : State) : State :=
  match s.nv.running, s.nv.area_ with
  | some j, some z =>
    let s1 := (sealApply s z).nvSet fun v => { v with running := none }
    let s2 := (countCommit s1 z.writes).devSet fun d => { d with commits := d.commits + 1 }
    let s3 := progEnd s2 1 2 0
    let s4 := match j with
      | .commit .host _ => (dropSlots s3 .host).nvSet fun v => { v with hostCommit := false, hostWrites := 0 }
      | .commit .record _ => (dropSlots s3 .record).nvSet fun v => { v with recordPending := false }
      | .commit .download _ => downloadNext (dropSlots s3 .download)
      | .journal => logLanded s3 false z.journal
      | .eventLog => logLanded s3 true z.events
      | .pfLogs => logLanded (logLanded s3 false z.journal) true z.events
      | _ => s3
    let s5 := if s4.nv.swReset && s4.nv.journal.staged.isEmpty && s4.nv.journal.moving.isEmpty then
        (s4.nvSet fun v => { v with swReset := false }).resetDue (some 5)
      else s4
    pfStep3 s5
  | _, _ => s

/-! Stores (R369, R371). -/

/-- The place of the first store in the queue: in front, or behind waiting commits while PFAIL_N was low at the release. -/
def storeJob (s : State) : Option Job :=
  let j := if s.nv.pfBoot then s.nv.queue.find? fun j => j == .store || j == .pfStore else s.nv.queue.head?
  j.filter fun j => j == .store || j == .pfStore

/-- STORE_START. -/
def storeStart (s : State) : State :=
  match storeJob s with
  | some j =>
    if s.nv.running ≠ none then s
    else
      let s1 := s.nvSet fun v => { v with queue := v.queue.erase j }
      if energyOk s (if j = .pfStore then eStore else 2 * eStore) then
        progStart (s1.nvSet fun v => { v with running := some j, array := none }) 0 65536 0xFF
      else if j = .pfStore then energyLow s1
      else progSet (energyLow s1) 0 3 0 65536 0x08000022 0xFF
  | none => s

/-- STORE_COMPLETE. -/
def storeComplete (s : State) : State :=
  match s.nv.running with
  | some j =>
    if j = .store ∨ j = .pfStore then
      let img : Shadow := { s.nv.sram with
        version := 1, storeCount := cut 32 (s.nv.sram.storeCount + 1), cause := b2n (j = .pfStore), area := s.cal.area }
      let s1 := (s.nvSet fun v => { v with running := none, sram := { img with area := 0 }, array := some img }).hist 0x2300 (2 ^ 3)
      pfStep3 (progEnd s1 0 2 0)
    else s
  | none => s

/-! The host window (R373, R374). -/

/-- Has a HOST commit been requested that has not ended: from the acceptance of a COMMIT that finds a HOST page, or a WRITE_DATA before it
(R373)? -/
def hostCommitAsked (s : State) : Bool :=
  let l := s.host.posted.filter fun p => p.index == 0x2310
  s.nv.hostCommit || (l.any fun p => p.sub == 5 && p.d.val == 1) && (!(slotsOf s .host).isEmpty || l.any fun p => p.sub == 4)

/-- Whether WRITE_DATA is refused at ADDRESS, by the checks of R373 in their order, and the state after the reads it took. -/
def writeDataRefuse (s : State) (a : Nat) (d : Datum) : Nat × State :=
  let pages := pagesOf a d.len
  let new := pages.filter fun p => !((slotsOf s .host).any fun z => z.page == p)
  if 4096 < d.len then (0x06070012, s)
  else if d.len = 0 then (0x06070013, s)
  else if a < 0x180000 ∨ 0x200000 < a + d.len then (0x06090030, s)
  else if 16 < pages.length then (0x08000020, s)
  else if s.nv.powerFail then (0x08000022, s)
  else if bufferFree s < new.length then (0x08000022, s)
  else if hostCommitAsked s then (0x08000021, s)
  else
    let s1 := s.many new fun p s => (eccRead s (256 * p) 256).2
    if new.any fun p => (badGroups s (256 * p) 256).any fun e => e.2 == 2 && !(decide (a ≤ e.1) && decide (e.1 + 8 ≤ a + d.len)) then
      (0x06060000, s1)
    else (0, s1)

/-- An accepted WRITE_DATA enters the buffer. -/
def writeData (s : State) (d : Datum) : State :=
  (countAccept (slotWrite s .host (s.rd (key 0x2310 1)) d.len d.val) 1).nvSet fun v => { v with hostWrites := v.hostWrites + 1 }

/-- COMMIT: without a HOST page, or while a HOST commit waits or runs, there is nothing to commit. -/
def hostCommit (s : State) : State :=
  if (slotsOf s .host).isEmpty ∨ s.nv.hostCommit then s
  else (jobPut s (.commit .host s.nv.hostWrites)).nvSet fun v => { v with hostCommit := true }

/-- DISCARD. -/
def hostDiscard (s : State) : State := if s.nv.hostCommit then s else rollHost s

/-- HOST_TIMEOUT. -/
def hostTimeout (s : State) : State :=
  if (slotsOf s .host).isEmpty ∨ s.nv.hostCommit then s else (rollHost s).hist 0x2300 (2 ^ 7)

/-- READ_DATA (R392): length, and the refusal or the bytes. -/
def readData (s : State) : Nat × Datum × State :=
  let a := s.rd (key 0x2310 1)
  let n := s.rd (key 0x2310 2)
  if 0x400000 < a + n then (0x06090030, {}, s)
  else
    let (e, s1) := eccRead s a n
    if e = 2 then (0x06060000, {}, s1) else (0, ⟨n, nvBytes s a n⟩, s1)

/-! The record store (R381 to R383, R393). -/

def copyPage (r : Nat) (b : Bool) : Nat := 0x1800 + 2 * r + b2n b

/-- Is a copy valid (R382)? -/
def copyValid (s : State) (r : Nat) (b : Bool) : Bool :=
  let v := nvPage s (copyPage r b)
  let n := byteAt v 2
  bytesAt v 0 2 == r && decide (1 ≤ n) && decide (n ≤ 240) && bytesAt v 4 4 != 0xFFFFFFFF
    && bytesAt v 8 4 == crc32Two v 0 8 16 n && (badGroups s (256 * copyPage r b) 256).all fun e => e.2 != 2

def copyCorrected (s : State) (r : Nat) (b : Bool) : Bool := (badGroups s (256 * copyPage r b) 256).any fun e => e.2 == 1
def copyBroken (s : State) (r : Nat) (b : Bool) : Bool := (badGroups s (256 * copyPage r b) 256).any fun e => e.2 == 2
def copySeq (s : State) (r : Nat) (b : Bool) : Nat := bytesAt (nvPage s (copyPage r b)) 4 4
def copyLen (s : State) (r : Nat) (b : Bool) : Nat := byteAt (nvPage s (copyPage r b)) 2
/-- Header and data of a copy: what two copies are compared by. -/
def copyContent (s : State) (r : Nat) (b : Bool) : Nat := nvPage s (copyPage r b) % 2 ^ (8 * (16 + copyLen s r b))

/-- Two valid copies with the same SEQ and different contents, both clean or both corrected. -/
def recordTie (s : State) (r : Nat) : Bool :=
  copyValid s r false && copyValid s r true && copySeq s r false == copySeq s r true
    && copyContent s r false != copyContent s r true && copyCorrected s r false == copyCorrected s r true

/-- The copy that is served: none, A (false) or B (true). -/
def recordServed (s : State) (r : Nat) : Option Bool :=
  match copyValid s r false, copyValid s r true with
  | false, false => none
  | true, false => some false
  | false, true => some true
  | true, true =>
    if copySeq s r false < copySeq s r true then some true
    else if copySeq s r true < copySeq s r false then some false
    else if copyContent s r false = copyContent s r true then some false
    else if copyCorrected s r false = copyCorrected s r true then some false
    else some (copyCorrected s r false)

/-- The effects of a tie (R382). -/
def tieFound (s : State) (r : Nat) : State :=
  if recordTie s r then
    let s1 := (s.inc 32 (key 0x2320 6) 1).hist 0x2300 (2 ^ 10)
    s1.when (!s.nv.tied.contains r) fun s => (s.nvSet fun v => { v with tied := r :: v.tied }).raise 0 0x0B 0x32 (0x800 + r)
  else s

/-- Both copies are read and resolved. -/
def recordRead (s : State) (r : Nat) : State := tieFound (eccRead (eccRead s (256 * copyPage r false) 256).2 (256 * copyPage r true) 256).2 r

/-- RECORD_STATE and RECORD_SEQ of a record (R393), but for COMMIT_PENDING, which is live. -/
def recordState (s : State) (r : Nat) : Nat :=
  let src := match recordServed s r with | none => 0 | some b => 1 + b2n b
  let len := match recordServed s r with | none => 0 | some b => copyLen s r b
  src + at_ (recordTie s r) 2 + at_ (copyValid s r false) 3 + at_ (copyValid s r true) 4 + at_ (copyCorrected s r false) 5
    + at_ (copyCorrected s r true) 6 + len * 256
def recordSeq (s : State) (r : Nat) : Nat := match recordServed s r with | none => 0 | some b => copySeq s r b

/-- RECORD_SELECT refreshes RECORD_STATE and RECORD_SEQ. -/
def recordSelect (s : State) (r : Nat) : State :=
  ((recordRead (s.put (key 0x2320 1) r) r).put (key 0x2320 3) (recordState s r)).put (key 0x2320 4) (recordSeq s r)

/-- A read of RECORD_DATA. -/
def recordData (s : State) : Nat × Datum × State :=
  let r := s.rd (key 0x2320 1)
  let s1 := recordRead s r
  match recordServed s r with
  | none => (if copyBroken s r false ∨ copyBroken s r true then 0x06060000 else 0x08000024, {}, s1)
  | some b => (0, ⟨copyLen s r b, bytesAt (nvPage s (copyPage r b)) 16 (copyLen s r b)⟩, s1)

/-- Has a write to the record store been accepted whose commit has not finished (R383)? -/
def recordAsked (s : State) : Bool :=
  s.nv.recordPending || s.host.posted.any fun p => p.index == 0x2320 && (p.sub == 2 || (p.sub == 5 && p.d.val != 0))

/-- Is a write to the record store refused (R377, R383)? -/
def recordRefuse (s : State) : Nat :=
  if s.nv.powerFail then 0x08000022 else if recordAsked s then 0x08000021 else 0

/-- The bytes of a copy: header and data. -/
def copyBytes (r seq : Nat) (d : Datum) : Nat :=
  let h := r % 65536 + d.len % 256 * 256 ^ 2 + seq % 2 ^ 32 * 256 ^ 4
  let v := h + d.val % 2 ^ (8 * d.len) * 256 ^ 16
  putBytes v 8 4 (crc32Two v 0 8 16 d.len)

/-- The RECORD slot is filled and committed as one write. -/
def recordCommit (s : State) (f : State → State) : State :=
  (jobPut (countAccept (f s) 1) (.commit .record 1)).nvSet fun v => { v with recordPending := true }

/-- A write of data into the copy that is not served. -/
def recordPut (s : State) (r : Nat) (d : Datum) : State :=
  let (b, seq) : Bool × Nat := match recordServed s r with
    | none => (false, 1)
    | some b => (!b, copySeq s r b + 1)
  recordCommit s fun s => slotWrite s .record (256 * copyPage r b) (16 + d.len) (copyBytes r seq d)

/-- RECORD_DATA. -/
def recordWrite (s : State) (d : Datum) : State := recordPut (recordRead s (s.rd (key 0x2320 1))) (s.rd (key 0x2320 1)) d

/-- ERASE. -/
def recordErase (s : State) : State :=
  recordCommit s fun s => slotWrite s .record (512 * s.rd (key 0x2320 1) + 0x180000) 512 (2 ^ 4096 - 1)

/-- REPAIR of record r: refused with SOURCE NONE. -/
def repairRefuse (s : State) (r : Nat) : Nat :=
  if recordRefuse s ≠ 0 then recordRefuse s
  else if recordServed s r = none then 0x08000024 else 0
def recordRepair (s : State) : State :=
  let r := s.rd (key 0x2320 1)
  match recordServed s r with
  | none => s
  | some b => recordPut (recordRead s r) r ⟨copyLen s r b, bytesAt (nvPage s (copyPage r b)) 16 (copyLen s r b)⟩

/-! Program download (R80, R385). -/

/-- Is a write of 1F50h refused? -/
def programRefuse (s : State) (via : Iface) (d : Datum) : Nat :=
  let got := match s.nv.download with | some dl => dl.received | none => 0
  if d.len = 0 then 0x06070013
  else if 786432 < got + d.len then 0x06070012
  else if s.nv.powerFail then 0x08000022
  else match s.nv.download with
    | some dl => if dl.by_ = via then 0 else 0x08000022
    | none => 0

/-- Program data arrive. -/
def programData (s : State) (via : Iface) (d : Datum) : State :=
  let i := downloadTarget s
  let s1 := if s.nv.download = none then
      progStart ((setImage s i 1).nvSet fun v => { v with flash := 1, download := some { by_ := via } }) 5 0 i
    else s
  let s2 := s1.nvSet fun v => { v with download := v.download.map fun dl => { dl with
    received := dl.received + d.len, rest := ⟨dl.rest.len + d.len, dl.rest.val + d.val % 2 ^ (8 * d.len) * 2 ^ (8 * dl.rest.len)⟩ } }
  let n := match s2.nv.download with | some dl => dl.received | none => 0
  downloadPump (progSet s2 5 1 n 0 0 i)

/-- START: what is left goes in, and the image is verified once all is committed. Without a download the target is verified
as it stands. -/
def programStart (s : State) : State :=
  match s.nv.download with
  | some dl => downloadPump (progSet (s.nvSet fun v => { v with download := some { dl with starting := true } }) 5 1 dl.received dl.received 0
      (downloadTarget s))
  | none => imageVerify (progStart s 5 (imageLength s (downloadTarget s)) (downloadTarget s)) none

/-- The uncommitted chunk goes back and the download ends. -/
def downloadDrop (s : State) : State :=
  let s1 := if s.nv.running = some (.commit .download 1) then s else rollBack s .download 1
  s1.nvSet fun v => { v with download := none, queue := v.queue.filter fun j => !(j == .commit .download 1) }

/-- STOP. -/
def programStop (s : State) : State :=
  if s.nv.download = none then s
  else progEnd ((setImage (downloadDrop s) (downloadTarget s) 3).nvSet fun v => { v with flash := 0 }) 5 4 0

/-- CLEAR: the header page is written to 0xFF and the image is EMPTY. While a chunk's commit runs, its slots are taken, and the page waits
for them (R372, R385). -/
def programClear (s : State) : State :=
  let s1 := (setImage (downloadDrop s) (downloadTarget s) 0).nvSet fun v => { v with flash := 0 }
  if s.nv.running = some (.commit .download 1) then s1.nvSet fun v => { v with clearing := true } else clearHeader s1

/-! Scrubbing (R380). -/

/-- SCRUB_NOW. -/
def scrubNow (s : State) : State := s.nvSet fun v => { v with scrubbing := true }

/-- SCRUB_READ of a group, with the groups whose cells have decayed since, and whether it ends the pass. -/
def scrubRead (s : State) (g : Nat) (decayed : List (Nat × Nat)) (last : Bool) : State :=
  if s.rd (key 0x2303 1) = 0 ∧ s.nv.scrubbing = false then s
  else
    let s1 := s.nvSet fun v => { v with
      scrubbing := !last
      decay := decayed.foldl (fun m e => storePut 0 m (e.1 / 8 * 8) (if e.2 = 0 then 0 else if e.2 = 1 then 1 else 2)) v.decay }
    let (e, s2) := eccRead s1 (g / 8 * 8) 8
    let i := 1 - s.rd (key 0x2000 5)
    let s3 := if e = 2 ∧ imageBase i ≤ g ∧ g < imageBase i + 0xC0000 then setImage s2 i 3 else s2
    s3.when last fun s => s.devSet fun d => { d with passes := d.passes + 1 }

/-- VHOLD_SAMPLE. -/
def vholdSample (s : State) (mv : Nat) : State := (s.nvSet fun v => { v with vhold := mv }).put (key 0x2300 7) (min 65535 mv)

/-! Reset and recovery (R370, R378, R451). -/

/-- The reset entry of the store island, for the causes that keep VDDC (R451). -/
def nvResetEntry (s : State) : State :=
  let s1 := storeComplete (commitComplete s)
  let s2 := rollBack (rollBack (rollHost s1) .record 1) .download 1
  let s3 := s2.nvSet fun v => { v with queue := [], running := none, waiting := false, powerFail := false, hostCommit := false, recordPending := false }
  if jobPages s3 .pfLogs = 0 then s3
  else if energyOk s3 (eCommit (jobPages s3 .pfLogs) + eStore) then
    commitComplete (commitSeal (s3.nvSet fun v => { v with queue := [.pfLogs] }) .pfLogs)
  else logRollBack (logRollBack s3 false) true

/-- What the island keeps through a loss of supply: the three arrays and the ends of the logs in them. A seal that is not
whole is lost. -/
def nvPowerLoss (s : State) (sealed : Bool) : State :=
  s.nvSet fun v => { v with
    area_ := if sealed then v.area_ else v.area_.map fun _ => { pages := [], writes := 0 }
    slots := [], queue := [], running := none, waiting := false, hostWrites := 0, hostCommit := false, recordPending := false
    journal := { v.journal with staged := [], moving := [], waiting := [] }
    events := { v.events with staged := [], moving := [], waiting := [] } }

/-- The SRAM is initialised (R370). -/
def shadowLost (s : State) : State :=
  (((s.nvSet fun v => { v with sram := {} }).setCal fun c => { c with area := 0 }).hist 0x2300 (2 ^ 2)).raise 0 0x0A 0x2E 0x701

/-- An image found DOWNLOADING after a reset is INVALID (R385). -/
def downloadsEnd (s : State) : State := s.devSet fun d => { d with images := d.images.map fun i => if i = 1 then 3 else i }

/-- A commit that a loss of supply has cut off: its sealed area is read with its ECC and programmed, or dropped when its seal is not valid or
cannot be read (R378, R379). -/
def areaRecover (s0 : State) : State :=
  let ra := if s0.nv.area_ = none then (0, s0) else eccRead s0 0x40000000 4160
  let s := ra.2
  let s1 := match s.nv.area_ with
    | some z =>
      if z.pages = [] ∨ ra.1 = 2 then ((s.nvSet fun v => { v with area_ := none }).put (key 0x2300 9) 2)
      else ((logLanded (logLanded (sealApply s z) false z.journal) true z.events).put (key 0x2300 9) 1)
    | none => s.put (key 0x2300 9) 0
  if s.nv.area_ = none then s1 else (s1.hist 0x2300 (2 ^ 1)).raise 0 0x0A 0x2D 0x700

/-- The shadow array is recalled; after an orderly STORE it is fresh, otherwise what was pending is rolled back (R378). -/
def shadowTaken (s : State) : State :=
  match s.nv.array with
  | some img =>
    let t := (s.nvSet fun v => { v with sram := { img with area := 0 }, stale := false }).setCal fun c => { c with area := img.area }
    if img.cause = 1 then t
    else (countRollBack t t.nv.sram.dev.pending).nvSet fun v => { v with stale := true }
  | none => shadowLost s

/-- The recall of the shadow array, read with its ECC (R378, R379). -/
def shadowRecover (s : State) : State :=
  if s.nv.array = none then shadowLost s
  else
    let r := eccRead s 0x80000000 65536
    if r.1 = 2 then shadowLost r.2 else shadowTaken r.2

/-- Recovery: the commit area, the recall after a loss of supply, the ends of the logs (R378). -/
def nvRecover (s : State) (refetch : Bool) : State :=
  let s1 := areaRecover s
  (((downloadsEnd (if refetch then shadowRecover s1 else s1)).nvSet fun v => { v with busy := false }).hist 0x2300 (2 ^ 0)).hist 0x2100 (2 ^ 3)

/-! What is read (R390 to R395). -/

/-- 2300h.01. -/
def storeStatus (s : State) : Nat :=
  let committing := match s.nv.running with | some .store => false | some .pfStore => false | some _ => true | none => false
  let storing := match s.nv.running with | some .store => true | some .pfStore => true | _ => false
  at_ s.nv.busy 0 + at_ storing 1 + at_ committing 2 + at_ (decide (2000 ≤ energyNow s)) 3 + at_ (s.rd (key 0x2300 6) == 0) 4
    + at_ (decide (0 < (slotsOf s .host).length)) 5 + at_ s.nv.powerFail 6 + at_ s.nv.stale 7 + at_ s.nv.scrubbing 8

/-- COUNTS. -/
def countsValue (s : State) : Nat :=
  let d := s.nv.sram.dev
  cut 64 d.accepted + cut 64 d.committed * 2 ^ 64 + cut 64 d.rolledBack * 2 ^ 128 + cut 16 d.pending * 2 ^ 192 + cut 32 d.commits * 2 ^ 224

/-- A record of a log by its number (R84). -/
def logRead (s : State) (log : Bool) (seq : Nat) : Nat × Datum × State :=
  if ringHolds (s.ring log) seq then
    let (e, s1) := eccRead s (recordAddr log seq) 32
    if e = 2 then (0x06060000, {}, s1) else (0, ⟨32, nvBytes s (recordAddr log seq) 32⟩, s1)
  else (0x08000024, {}, s)

/-- Entries of chapter 12 that the store island holds outside the dictionary's values. -/
def nvEntry (s : State) (index sub : Nat) : Option Nat :=
  let d := s.nv.sram.dev
  if index = 0x2300 then
    (if sub = 1 then some (storeStatus s) else if sub = 8 then some (min 65535 (energyNow s))
     else if sub = 0x0A then some (cut 32 s.nv.sram.storeCount) else if sub = 0x0B then some (countsValue s) else none)
  else if index = 0x2303 then
    (if sub = 2 then some (cut 32 d.corrected) else if sub = 3 then some (cut 32 d.uncorrectable)
     else if sub = 6 then some (cut 32 d.rewrites) else if sub = 7 then some (cut 32 d.passes) else none)
  else if index = 0x2310 then
    (if sub = 6 then some (slotsOf s .host).length else if sub = 7 then some (bufferFree s) else none)
  else if index = 0x2320 then
    (if sub = 3 then some (s.rd (key 0x2320 3) + at_ s.nv.recordPending 7) else none)
  else if index = 0x2330 then
    (if sub = 1 ∨ sub = 2 then some (imageState s (sub - 1))
     else if sub = 3 then some d.bootImage
     else if sub = 4 ∨ sub = 5 then some (if imageState s (sub - 4) = 0 then 0xFFFFFFFF else imageField s (sub - 4) 8 4)
     else if sub = 6 ∨ sub = 7 then some (imageField s (sub - 6) 16 4)
     else if sub = 8 then some (cut 32 d.fallbacks) else none)
  else if index = 0x2340 then
    (if sub = 4 then some (ringHead s.nv.events) else if sub = 5 then some (ringTail s.nv.events)
     else if sub = 9 then some s.nv.events.staged.length else none)
  else if index = 0x2110 then
    (if sub = 1 then some (ringHead s.nv.journal) else if sub = 2 then some (ringTail s.nv.journal)
     else if sub = 6 then some s.nv.journal.staged.length else none)
  else if index = 0x1F56 ∧ sub = 1 then some (imageField s (downloadTarget s) 16 4)
  else if index = 0x1F57 ∧ sub = 1 then some s.nv.flash
  else none

end Sys2Proof.Machine
end

