-- ==== Sys2Proof/Machine/Faults.lean ====
section
/-! DEFINITION. The fault collector: classification, reactions, the reaction shadow, the listeners, the fault state and its end
(chapter 14 of spec/). -/

namespace Sys2Proof.Machine

/-! Sources (R422). -/

/-- The allocated sources, in rising order. -/
def sourceList : List Nat :=
  List.range 17 ++ [128, 129, 130, 143] ++ ((List.range 6).map fun d => [256 + 128 * d, 257 + 128 * d, 271 + 128 * d]).flatten

def allocated (src : Nat) : Bool := sourceList.contains src
def State.sourceAt (s : State) (src : Nat) : SourceState := s.col.sources.getD (sourceList.idxOf src) {}
def State.setSource (s : State) (src : Nat) (f : SourceState → SourceState) : State :=
  s.setCol fun c => { c with sources := upd c.sources (sourceList.idxOf src) f }

/-- The default dependency list of a source. -/
def dependsDefault (src : Nat) : List Nat :=
  if src = 0 then [1, 3, 129, 130] else if src = 1 ∨ src = 2 ∨ src = 6 then [129] else if src = 3 then [4, 6]
  else if src = 4 then [3] else if src = 5 then [3, 4, 129] else if src = 7 then [3, 4, 8, 129] else if src = 8 then [3, 7]
  else if src = 9 then [5, 7] else if src = 10 then [11] else if src = 12 then [1, 2, 4, 8] else if src = 13 then [12]
  else if src = 14 then [2, 3, 129, 130] else if src = 128 then [2, 129, 130] else if src = 129 ∨ src = 130 then [2, 3, 129, 130]
  else if 256 ≤ src ∧ src % 128 = 0 then [1, src + 1] else if 256 ≤ src ∧ src % 128 = 1 then [1] else []

/-- The default CONFIG of a source (R444). -/
def sourceDefault (src : Nat) : Nat :=
  let l := dependsDefault src
  1 + 1000 * 256 ^ 4 + l.length * 256 ^ 12 + (List.range 12).foldl (fun a i => a + l.getD i 0 * 256 ^ (16 + 2 * i)) 0

/-- CONFIG of a source. -/
def sourceCfg (s : State) (src : Nat) : Nat := storeRd (sourceDefault src) s.col.cfgs src

/-- May a source's REACTION hold RETRAIN, or BLOCK_RESET (R422)? -/
def mayRetrain (src : Nat) : Bool := [0, 5, 7, 9, 128].contains src || (decide (256 ≤ src) && src % 128 == 0)
def mayReset (src : Nat) : Bool := [1, 4, 6, 12, 130].contains src

/-- Is a CONFIG outside the ranges of its own fields (R429, R444)? -/
def sourceCfgBad (v : Nat) : Bool :=
  byteAt v 0 == 0 || decide (4 ≤ byteAt v 1) || decide (16 ≤ byteAt v 2) || bytesAt v 4 4 == 0 || decide (3600000 < bytesAt v 4 4)
    || decide (12 < byteAt v 12) || (List.range (byteAt v 12)).any fun i => !allocated (bytesAt v (16 + 2 * i) 2)

/-- Is a CONFIG refused (R429, R444): its fields, and a reaction that the source may not have? -/
def sourceCfgRefuse (src v : Nat) : Nat :=
  if sourceCfgBad v ∨ (bit (byteAt v 2) 2 ∧ !mayRetrain src) ∨ (bit (byteAt v 2) 3 ∧ !mayReset src) then 0x06090030 else 0

/-- A write of CONFIG: reserved bytes read 0, and the count history of the source is cleared (R426). -/
def sourceCfgPut (s : State) (src v : Nat) : State :=
  let v1 := putBytes (putBytes (v % 2 ^ 320) 3 1 0) 13 3 0
  (s.setCol fun c => { c with cfgs := storePut (sourceDefault src) c.cfgs src v1 }).setSource src fun x => { x with times := [] }

/-! Sticky and unacknowledged bits (R427, R443): entries 2202h to 2205h. -/

def srcKey (level src : Nat) : Key := key (0x2202 + level) (src / 32 + 1)
def srcBit (s : State) (level src : Nat) : Bool := bit (s.rd (srcKey level src)) (src % 32)
def srcSet (s : State) (level src : Nat) : State := s.put (srcKey level src) (setBits (s.rd (srcKey level src)) (2 ^ (src % 32)))
def levelAny (s : State) (level : Nat) : Bool := (List.range 32).any fun w => s.rd (key (0x2202 + level) (w + 1)) != 0
def unacked (s : State) (src : Nat) : Bool := srcBit s 1 src || srcBit s 2 src || srcBit s 3 src

/-- Acknowledge: clear bits of one word of a level (R427). -/
def unackClear (s : State) (level w mask : Nat) : State :=
  s.put (key (0x2202 + level) (w + 1)) (clearBits (s.rd (key (0x2202 + level) (w + 1))) mask)
def ackAll (s : State) : State := s.many (List.range 96) fun i s => s.put (key (0x2203 + i / 32) (i % 32 + 1)) 0
def clearSticky (s : State) : State := s.many (List.range 32) fun w s => s.put (key 0x2202 (w + 1)) 0
def colClearCounters (s : State) : State :=
  (s.many [0x0C, 0x0D, 0x0E, 0x10] fun i s => s.put (key 0x2200 i) 0).setCol fun c => { c with
    sources := c.sources.map fun x => { x with messages := 0, promotions := 0, consequential := 0, escalations := 0 } }

/-- The error register 1001h (R438). -/
def errorRegister (s : State) : Nat :=
  let mon := sourceList.any fun x => x % 128 == 15 && unacked s x
  let com := sourceList.any fun x => (x % 128 == 0 || [4, 5, 7, 8, 9].contains x) && unacked s x
  let rest := sourceList.any fun x => !(x % 128 == 15 || x % 128 == 0 || [4, 5, 7, 8, 9].contains x) && unacked s x
  at_ s.col.fault 0 + at_ mon 3 + at_ com 4 + at_ rest 7

/-! Reactions (R428, R429). -/

/-- The safe-state lines act on the outputs of the groups that are forced (R231): the channels in an output role (log entry 65). -/
def safeFollow (s : State) : State :=
  s.many (List.range 96) fun n s =>
    let want := outRole s n && bit s.col.groups (s.chCfg n 0x11)
    if want ∧ (s.outAt n).forced = false then outForce s n
    else if !want ∧ (s.outAt n).forced then outRelease s n
    else s

def forceGroups (s : State) (mask : Nat) : State := safeFollow (s.setCol fun c => { c with groups := setBits c.groups mask })

/-- A reaction on S, once its command is there: BLOCK_RESET of an APLL, or RETRAIN of a link between S and a C-die. -/
def reactOnS (s : State) (src addr : Nat) : State :=
  if src = 130 then (if 0x10 ≤ addr ∧ addr < 0x18 then apllRelock s (addr - 0x10) else s)
  else if 7 ≤ addr ∧ addr < 13 then linkRetrain s addr
  else s

/-- RETRAIN for a source and an address. -/
def reactRetrain (s : State) (src addr : Nat) : State :=
  if src % 128 = 0 then
    (if addr < 13 then linkRetrain s addr
     else if addr = 0xFF then s.many (List.range s.link.hubPaths.length) fun p s => s.setHub p (resumePath (s.hubPath p))
     else s)
  else if src = 5 then (if 0x300 ≤ addr ∧ addr < 0x302 then ethLink s (addr - 0x300) false else s)
  else if src = 7 then (if 0x500 ≤ addr ∧ addr < 0x510 then fabRetrain s ((addr - 0x500) / 4) else s)
  else if src = 9 then
    (if 0x600 ≤ addr ∧ addr < 0x602 then ethLink s (addr - 0x600) false
     else if 0x602 ≤ addr ∧ addr < 0x606 then fabRetrain s (addr - 0x602) else s)
  else s

/-- BLOCK_RESET for a source and an address. -/
def reactReset (s : State) (src addr : Nat) : State :=
  if src = 1 then (if addr < 96 then cupCommand s addr 1 else s)
  else if src = 4 then (if 0x200 ≤ addr ∧ addr < 0x300 then ctxRestart s (addr - 0x200) else s)
  else if src = 6 then (if 0x400 ≤ addr ∧ addr < 0x440 then disarmEntries s ((addr - 0x400) / 16) (2 ^ ((addr - 0x400) % 16)) else s)
  else if src = 12 then (if 0x900 ≤ addr ∧ addr < 0x910 then engineRestart s (addr - 0x900) else s)
  else if src = 130 then reactOnS s src addr
  else s

/-- A command to S whose link is not UP waits for it. -/
def reactOwe (s : State) (src addr : Nat) : State := s.setCol fun c => { c with owed := c.owed ++ [(src, addr)] }

/-- Does a RETRAIN or BLOCK_RESET act on S, whose commands cross link 6 (R27, R36)? -/
def reactsOnS (src addr : Nat) : Bool := src == 130 || (src % 128 == 0 && decide (7 ≤ addr ∧ addr < 13))

/-- The selected reactions of a source are issued, and the shadow opens (R429, R432). -/
def react (s : State) (src addr arrival : Nat) : State :=
  let v := sourceCfg s src
  let re := byteAt v 2
  let s1 := s.when (bit re 0) fun s => forceGroups s (bytesAt v 8 2)
  let s2 := s1.when (bit re 1) fun s => s.setCol fun c => { c with holds := setBits c.holds (bytesAt v 10 2) }
  let s3 := s2.when (bit re 2) fun s => if reactsOnS src addr ∧ s.linkUp 6 = false then reactOwe s src addr else reactRetrain s src addr
  let s4 := s3.when (bit re 3) fun s => if reactsOnS src addr ∧ s.linkUp 6 = false then reactOwe s src addr else reactReset s src addr
  if re % 16 = 0 then s4
  else s4.setCol fun c => { c with shadows := c.shadows ++
    [⟨(List.range (byteAt v 12)).map fun i => bytesAt v (16 + 2 * i) 2, arrival⟩] }

/-- Link 6 is UP again: what waited for it acts. No source has both kinds of reaction on S (R422). -/
def reactOwed (s : State) : State :=
  (s.setCol fun c => { c with owed := [] }).many s.col.owed fun e s => reactOnS s e.1 e.2

/-! Listeners (R434 to R437). -/

/-- A message is lost to a listener: 0 EMCY, 1 fabric, 2 stream, 3 event log (R435). -/
def listenerLost (s : State) (l : Nat) : State :=
  let s1 := (if l < 3 then s.inc 32 (key 0x2220 (7 + l)) 1 else s).hist 0x2200 (2 ^ 7)
  let tell := match s.col.lostAt.getD l none with | some t => decide (t + 1000000000 ≤ s.now) | none => true
  s1.when tell fun s => (s.setCol fun c => { c with lostAt := c.lostAt.set l (some s.now) }).raise 0 16 0x3A l

/-- An EMCY goes into 1003h, newest in .01 (R72). -/
def errorListPush (s : State) (w : Nat) : State :=
  let s1 := s.many ((List.range 15).reverse) fun i s => s.put (key 0x1003 (i + 2)) (s.rd (key 0x1003 (i + 1)))
  (s1.put (key 0x1003 1) w).put (key 0x1003 0) (min 16 (s.rd (key 0x1003 0) + 1))

/-- The EMCY listener (R79, R434). -/
def emcyTake (s : State) (msg level : Nat) (cons : Bool) : State :=
  if level < s.rd (key 0x2220 1) ∨ (cons ∧ s.rd (key 0x2220 2) = 0) then s
  else if 16 ≤ (s.col.emcy.filter fun e => !e.2).length then listenerLost s 0
  else
    let code := 0xFF00 + field msg 16 6
    let v := code + errorRegister s * 256 ^ 2 + msg % 2 ^ 32 * 256 ^ 3 + (level % 4 + at_ cons 2) * 256 ^ 7
    errorListPush (s.setCol fun c => { c with emcy := c.emcy ++ [(v, false)] }) (code + msg % 65536 * 65536)

/-- The fabric listener (R436). -/
def fabricTake (s : State) (msg level flags : Nat) : State :=
  if s.rd (key 0x2220 3) = 0 ∨ level < s.rd (key 0x2220 4) then s
  else if 32 ≤ s.col.fabric.length then listenerLost s 1
  else s.setCol fun c => { c with fabric := c.fabric ++ [msg % 2 ^ 32 + flags % 256 * 256 ^ 4 + s.fb 0x0A % 65536 * 256 ^ 6] }

/-- The stream listener (R437). -/
def streamTake (s : State) (msg level flags : Nat) : State :=
  let en := s.rd (key 0x2220 5)
  if en % 4 = 0 ∨ level < s.rd (key 0x2220 6) then s
  else if 64 ≤ s.col.stream.length then listenerLost s 2
  else
    let w1 := tcNow s 0 / 65536 % 2 ^ 32
    let w2 := 127 * 2 ^ 25 + s.rd (key 0x2200 0x0D) % 2 ^ 14 * 2 ^ 8 + flags % 32 + at_ (s.tcAt 0).unset 5
    s.setCol fun c => { c with stream := c.stream ++ [⟨msg % 2 ^ 32 + w1 * 2 ^ 32 + w2 * 2 ^ 64, bit en 0, bit en 1⟩] }

/-- Step 7: the message goes to the listeners with its acted level and flags. -/
def listeners (s : State) (msg level : Nat) (cons promoted escalated : Bool) : State :=
  let flags := level % 4 + at_ cons 2 + at_ promoted 3 + at_ escalated 4
  let s1 := emcyTake s msg level cons
  let s2 := streamTake (fabricTake s1 msg level flags) msg level flags
  let (lost, s3) := logEvent s2 level (at_ cons 0 + at_ promoted 2 + at_ escalated 3) msg
  if lost then listenerLost s3 3 else s3

/-! Taking a message (R425). -/

/-- Is a message of a source, arrived at `t`, in a reaction shadow (R432)? -/
def inShadow (s : State) (src t : Nat) : Bool := s.col.shadows.any fun h => h.covers.contains src && decide (t ≤ h.from_ + 10000)

/-- Steps 1 to 7 of R425 for one message. -/
def takeMessage (s : State) (m : Msg) : State :=
  let src := m.word / 2 ^ 22 % 1024
  let kind := field m.word 16 6
  let addr := m.word % 65536
  let s0 := s.inc 32 (key 0x2200 0x0D) 1
  let base := s.rd (key 0x2201 kind)
  if inShadow s src m.at_ then
    let s1 := ((s0.setSource src fun x => { x with consequential := cut 32 (x.consequential + 1) }).inc 32 (key 0x2200 0x0E) 1).hist
      0x2200 (2 ^ 6)
    listeners s1 m.word base true false false
  else
    let v := sourceCfg s src
    let times := (m.at_ :: (s.sourceAt src).times).take 255
    let hits := (times.filter fun t => decide (t ≤ m.at_ ∧ m.at_ ≤ t + bytesAt v 4 4 * 1000000)).length
    let cls := if byteAt v 0 ≤ hits then max base (byteAt v 1) else base
    let promoted := decide (base < cls)
    let escalated := s.rd (key 0x2200 9) == 1 && (cls == 1 || cls == 2) && levelAny s cls
    let acted := if escalated then cls + 1 else cls
    let s1 := srcSet s0 0 src
    let s2 := if acted = 0 then s1 else srcSet s1 acted src
    let s3 := s2.setSource src fun x => { x with
      times := times, messages := cut 32 (x.messages + 1), promotions := cut 32 (x.promotions + b2n promoted),
      escalations := cut 32 (x.escalations + b2n escalated) }
    let s4 := s3.hist 0x2200 ((if acted = 0 then 0 else 2 ^ (acted - 1)) + at_ escalated 3 + at_ promoted 4)
    let s5 := if acted < 2 then s4
      else
        let t := (s4.when (!s4.col.fault) fun s => s.inc 32 (key 0x2200 0x10) 1).setCol fun c => { c with
          fault := true, quietFrom := some m.at_, quietOver := false }
        let t1 := t.setBoot fun b => { b with fault := b.fault || b.booting }
        let t2 := react t1 src addr m.at_
        t2.when (acted == 3) fun s => forceGroups s (s.rd (key 0x2200 8))
    listeners s5 m.word acted false promoted escalated

/-- Can a message reach the collector: from H, or over a link that is UP and replays no word (R18, R430)? -/
def messageComes (s : State) (m : Msg) : Bool :=
  match linkOfDie (m.word / 2 ^ 29) with
  | some l => s.linkUp l && !(s.linkAt l).fwd.awaiting
  | none => true

/-- Does message `a` come before `b`: earlier, or in the same cycle from the lower die (R425)? -/
def messageFirst (a b : Msg) : Bool := decide (a.at_ < b.at_ ∨ a.at_ = b.at_ ∧ a.word / 2 ^ 29 < b.word / 2 ^ 29)

/-- The message that the collector takes next: the first of those that can reach it; one whose link is not UP stays until it is. -/
def messageNext (s : State) : Option Msg :=
  (s.faultIn.filter fun m => messageComes s m).foldl (fun a m => match a with
    | some b => if messageFirst m b then some m else some b
    | none => some m) none

/-- FAULT_MESSAGE: the next message, which from S or a C die comes as a record over the die's link (R425, R493). -/
def faultMessage (s : State) : State :=
  match messageNext s with
  | some m => carriedFrom s (m.word / 2 ^ 29) (transferWords 0 ⟨4, m.word⟩) fun s => takeMessage { s with faultIn := s.faultIn.erase m } m
  | none => s

/-- Is a message refused by INJECT (R441)? -/
def injectRefuse (w : Nat) : Nat :=
  let kind := field w 16 6
  if allocated (w / 2 ^ 22 % 1024) = false ∨ kind = 0 ∨ 0x3B ≤ kind then 0x06090030 else 0

/-- INJECT. -/
def inject (s : State) (w : Nat) : State := takeMessage (s.hist 0x2200 (2 ^ 8)) ⟨w % 2 ^ 32, s.now⟩

/-! Leaving the fault state (R438 to R440). -/

/-- The exit EMCY. -/
def exitEmcy (s : State) : State := s.setCol fun c => { c with emcy := c.emcy ++ [(errorRegister s * 256 ^ 2, true)] }

/-- The exit of R440. -/
def faultExit (s : State) : State :=
  let s1 := s.setCol fun c => { c with fault := false, groups := 0, holds := 0, quietFrom := none, quietOver := false }
  exitEmcy (((safeFollow s1).inc 32 (key 0x2200 0x0C) 1).hist 0x2200 (2 ^ 5))

/-- RECOVER. During boot the exit waits for DONE (R462). -/
def recover (s : State) : State :=
  if s.col.fault = false then s
  else if s.boot.booting then (if s.col.quietFrom.isSome then s.setCol fun c => { c with quietOver := true } else s)
  else faultExit s

/-- QUIET_PERIOD_EXPIRY. -/
def quietExpiry (s : State) : State :=
  if s.col.fault ∧ s.rd (key 0x2200 6) ≠ 0 ∧ s.col.quietFrom.isSome then
    (if s.boot.booting then s.setCol fun c => { c with quietOver := true } else faultExit s)
  else s

/-- SHADOW_EXPIRY: shadows whose 10 µs are over. -/
def shadowExpiry (s : State) : State :=
  s.setCol fun c => { c with shadows := c.shadows.filter fun h => decide (s.now ≤ h.from_ + 10000) }

/-- QUIET_LEFT (2200h.07). -/
def quietLeft (s : State) : Nat :=
  if s.col.fault = false then 0
  else if s.rd (key 0x2200 6) = 0 then 0xFFFFFFFF
  else if s.col.quietOver then 0
  else match s.col.quietFrom with
    | none => 0xFFFFFFFF
    | some t => s.rd (key 0x2200 6) - (s.now - t) / 1000000

/-! The rest of the collector's objects. -/

/-- SOURCE_SELECT refreshes COUNTS and STATE (R444). -/
def sourceState (s : State) (src : Nat) : Nat :=
  at_ (srcBit s 0 src) 0 + at_ (srcBit s 1 src) 1 + at_ (srcBit s 2 src) 2 + at_ (srcBit s 3 src) 3 + at_ (inShadow s src s.now) 4
def sourceCounts (s : State) (src : Nat) : Nat :=
  let x := s.sourceAt src
  x.messages + x.promotions * 2 ^ 32 + x.consequential * 2 ^ 64 + x.escalations * 2 ^ 96
def sourceSelect (s : State) (src : Nat) : State :=
  ((s.put (key 0x2210 1) src).put (key 0x2210 3) (sourceCounts s src)).put (key 0x2210 4) (sourceState s src)

/-- The inbox (R436, R445). -/
def inboxWrite (s : State) (v : Nat) : State :=
  if 256 ≤ s.col.inbox.length then s.inc 32 (key 0x2230 4) 1 else s.setCol fun c => { c with inbox := c.inbox ++ [v % 2 ^ 64] }
def inboxRead (s : State) : Nat × State :=
  match s.col.inbox with
  | [] => (2 ^ 64 - 1, s)
  | v :: r => (v, s.setCol fun c => { c with inbox := r })

/-- FABRIC_LISTENER_SEND (R436): the first record goes out, or is sent again; after three retries without an answer it is
counted lost. -/
def fabricListenerSend (s : State) : State :=
  match s.col.fabric with
  | [] => s
  | v :: r =>
    if s.fab.lsnOut.isSome ∧ 4 ≤ s.col.tries then
      ((s.setFab fun x => { x with lsnOut := none }).setCol fun c => { c with fabric := r, tries := 0 }).inc 32 (key 0x2220 8) 1
    else
      let n := if s.fab.lsnOut.isSome then s.fab.lsnCount else (s.fab.lsnCount + 1) % 8192
      let id := 4 * 8192 + n
      let s1 := (s.setFab fun x => { x with lsnCount := n, lsnOut := some id }).setCol fun c => { c with tries := c.tries + 1 }
      fabSendTo s1 (s.rd (key 0x2220 3)) 1 0x20 (odRequestBytes s id 2 0x2230 1 (le 8 v))

/-- DIE_TEMP_REFRESH (R192, R424): the temperatures of the dies that can be reached, in 1/16 °C. -/
def dieTemps (s : State) (temps : List Int) : State :=
  let s1 := s.many (List.range 8) fun d s =>
    if dieReachable s d then
      let t := temps.getD d 0
      let warn : Int := (s.rd (key 0x2200 0x0F) : Nat)
      let was := s.col.hot.getD d false
      let hot := if warn ≤ t then true else if t < warn - 80 then false else was
      let s1 := (s.putI 16 (key 0x2012 (d + 1)) t).setCol fun c => { c with hot := c.hot.set d hot }
      s1.when (hot && !was) fun s => s.raise d 0x0F 0x39 0
    else s
  s1.many ((List.range 16).filter fun k => s1.hoCfg k 0x09 == 0) fun k s => tempSet s k (s.rdI 16 (key 0x2012 2))

/-- STATUS of 2200h. -/
def colStatus (s : State) : Nat :=
  at_ s.col.fault 0 + at_ (s.col.fault && s.rd (key 0x2200 6) == 0) 1 + at_ (decide (s.col.groups ≠ 0)) 2
    + at_ (decide (s.col.holds ≠ 0)) 3 + at_ (levelAny s 1) 4 + at_ (levelAny s 2) 5 + at_ (levelAny s 3) 6
    + at_ (s.col.shadows.any fun h => decide (s.now ≤ h.from_ + 10000)) 7

/-- Entries of chapter 14 that the collector holds outside the dictionary's values. -/
def colEntry (s : State) (index sub : Nat) : Option Nat :=
  if index = 0x2200 then
    (if sub = 1 then some (colStatus s) else if sub = 5 then some (b2n s.col.fault) else if sub = 7 then some (quietLeft s) else none)
  else if index = 0x2210 ∧ sub = 2 then some (sourceCfg s (s.rd (key 0x2210 1)))
  else if index = 0x2230 ∧ sub = 3 then some s.col.inbox.length
  else if index = 0x1001 ∧ sub = 0 then some (errorRegister s)
  else none

end Sys2Proof.Machine
end

