-- ==== Sys2Proof/Machine/Flags.lean ====
section
/-! DEFINITION. The STATUS words, the interrupt summaries, the interrupt pins and FLT_N (R13, R88, R90, R91). -/

namespace Sys2Proof.Machine

/-! Masks of the implemented bits of each HISTORY record. -/

/-- The bits of HISTORY, MASK and ROUTE that a record implements; the others are reserved (R50). 0 for an index that holds
no record of R88. -/
def histMask (index : Nat) : Nat :=
  if index = 0x2018 then 0xFFFF
  else if index = 0x2100 then 0xFF
  else if index = 0x2200 then 0x1FF
  else if index = 0x2300 then 0x1FFF
  else if index = 0x2400 then 0x3F
  else if index = 0x2500 then 0x3FF
  else if index = 0x2600 then 0x3
  else if index < 0x3100 then 0
  else if index < 0x3160 then 0x3FF
  else if index < 0x3200 then 0
  else if index < 0x3260 then 0x3F
  else if index < 0x3300 then 0
  else if index < 0x3318 then 0x7
  else if index < 0x3420 then 0
  else if index < 0x3430 then 0x7FFFFFFF
  else if index < 0x3440 then 0xFF
  else if index < 0x3500 then 0
  else if index < 0x3508 then 0x1FF
  else if index < 0x3600 then 0
  else if index < 0x3604 then 0xFF
  else if index = 0x3610 then 0x3F
  else if index < 0x3620 then 0
  else if index < 0x3624 then 0xFFFFFFFF
  else if index < 0x3700 then 0
  else if index < 0x3800 then 0x3F
  else if index = 0x3800 then 0xFFFFF
  else 0

/-! Interrupts. -/

/-- Bits of a record that are set, unmasked and routed to a pin (0 IRQA_N, 1 IRQB_N). -/
def irqBits (s : State) (pin index : Nat) : Nat :=
  let route := s.rd (key index 4)
  s.rd (key index 2) &&& s.rd (key index 3) &&& (if pin = 0 then histMask index ^^^ (histMask index &&& route) else route)

/-- Does a record hold a bit pending on the pin? -/
def irqRec (s : State) (pin index : Nat) : Bool := irqBits s pin index != 0

/-- One word of pending bits: bit i for record `base` + i, of `n` records. -/
def irqWord (s : State) (pin base n : Nat) : Nat :=
  (List.range n).foldl (fun a i => a + at_ (irqRec s pin (base + i)) i) 0

/-- Does any of `n` records from `base` on have a bit pending? -/
def irqAny (s : State) (pin base n : Nat) : Bool := (List.range n).any fun i => irqRec s pin (base + i)

/-- 2008h.01 and .02 (R91). -/
def irqSummary (s : State) (pin : Nat) : Nat :=
  at_ (irqRec s pin 0x2018) 0 + at_ (irqRec s pin 0x2100) 1 + at_ (irqRec s pin 0x2200) 2 + at_ (irqRec s pin 0x2300) 3
    + at_ (irqRec s pin 0x2400) 4 + at_ (irqRec s pin 0x2500) 5 + at_ (irqRec s pin 0x2600) 6 + at_ (irqAny s pin 0x3200 96) 7
    + at_ (irqAny s pin 0x3100 96) 8 + at_ (irqAny s pin 0x3300 24) 9 + at_ (irqAny s pin 0x3420 16) 10
    + at_ (irqAny s pin 0x3430 16) 11 + at_ (irqAny s pin 0x3500 8) 12 + at_ (irqAny s pin 0x3600 4) 13
    + at_ (irqRec s pin 0x3610) 14 + at_ (irqAny s pin 0x3620 4) 15 + at_ (irqRec s pin 0x3800) 16
    + at_ (irqAny s pin 0x3700 256) 17

/-- The actions of a block with a bit pending on the pin: action q by its RAN bit q or its EXCEPTION bit 16 + q. -/
def irqActions (s : State) (pin b : Nat) : Nat :=
  let v := irqBits s pin (0x3620 + b)
  (List.range 4).foldl (fun a q => a + at_ ((List.range 4).any fun i => bit v (4 * q + i) || bit v (16 + 4 * q + i)) (4 * b + q)) 0

/-- The per-instance summaries 2620h to 2627h. -/
def irqInstance (s : State) (index sub : Nat) : Nat :=
  let words := fun base => let p := (sub - 1) / 3; irqWord s p (base + 32 * ((sub - 1) % 3)) 32
  if index = 0x2620 then (if sub ≤ 6 then words 0x3200 else irqWord s (sub - 7) 0x3300 24)
  else if index = 0x2621 then words 0x3100
  else if index = 0x2622 then irqWord s (sub - 1) 0x3420 16
  else if index = 0x2623 then irqWord s (sub - 1) 0x3430 16
  else if index = 0x2624 then irqWord s (sub - 1) 0x3500 8
  else if index = 0x2625 then irqWord s (sub - 1) 0x3600 4
  else if index = 0x2626 then irqWord s ((sub - 1) / 8) (0x3700 + 32 * ((sub - 1) % 8)) 32
  else if index = 0x2627 then (List.range 4).foldl (fun a b => a + irqActions s (sub - 1) b) 0
  else 0

/-- IRQA_N (0) or IRQB_N (1) is asserted (R90). -/
def irqPin (s : State) (pin : Nat) : Bool := bit (s.rd (key 0x2001 1)) pin && irqSummary s pin != 0

/-- FLT_N is asserted: in reset, during boot, and in the fault state (R438, R462). -/
def fltPin (s : State) : Bool := s.boot.inReset || s.boot.booting || s.col.fault

/-! STATUS words of chapters 01 and 02, and DIE_STATUS. -/

/-- The die links that end on a die (R27). -/
def linksOf (die : Nat) : List Nat :=
  if die = 0 then [0, 1, 2, 3, 4, 5, 6] else if die = 1 then [6, 7, 8, 9, 10, 11, 12] else [die - 2, die + 5]

/-- DIE_STATUS of a die code (2010h). -/
def dieStatus (s : State) (die : Nat) : Nat :=
  at_ s.link.ready 0 + at_ ((linksOf die).all s.linkUp) 1 + at_ (!dieReachable s die) 2
    + at_ (decide (2 ≤ die) && s.link.throttled.getD (die - 2) false) 3

/-- STATUS of 2018h (R48). -/
def linkStatus (s : State) : Nat :=
  (List.range 13).foldl (fun a l => a + at_ (s.linkUp l) l) 0
    + at_ ((List.range 13).any fun l => (s.linkAt l).state == .training) 13 + at_ s.link.snap.isSome 14
    + at_ (s.link.throttled.any id) 15

/-- STATUS of 2100h (R68). -/
def hostStatus (s : State) : Nat :=
  at_ s.nv.busy 0 + at_ s.boot.booting 1 + at_ (bit s.host.mode 0) 2 + at_ (bit s.host.mode 1) 3 + at_ s.can.fd 4
    + s.host.mode % 8 * 2 ^ 5 + s.can.nmt % 4 * 2 ^ 8 + at_ s.can.busOff 10 + at_ s.can.passive 11

/-- The SPI status byte (R63). PENDING is that of 2008h, whatever IRQ_ENABLE says (DEDUCED, log entry 60). -/
def spiStatus (s : State) : Nat :=
  at_ s.host.holding.isSome 2 + at_ (irqSummary s 1 != 0) 3 + at_ (irqSummary s 0 != 0) 4 + at_ s.boot.booting 5 + at_ s.nv.busy 6
    + at_ (bit (s.rd (key 0x2100 2)) 1) 7

end Sys2Proof.Machine
end

