-- ==== Sys2Proof/Machine/Operands.lean ====
section
/-! DEFINITION. The forms of an access: length, access code and range of an entry (steps 1 to 4 of R489), the die and the
island that hold it (R17, R20, R25), the interfaces that count separately (R22). -/

namespace Sys2Proof.Machine

/-! Steps 1 to 4 of R489. -/

/-- Step 1: allocation (R50). -/
def allocRefuse (index sub : Nat) : Nat :=
  if (findRow index sub).isSome then 0 else if indexAllocated index then 0x06090011 else 0x06020000

/-- Step 2 of a write: the access code (R11). -/
def accRefuse (r : Row) : Nat :=
  match r.acc with
  | .ro => 0x06010002
  | .const => 0x06010002
  | .wo => 0
  | .rw => 0
  | .rwh => 0
  | .w1c => 0

/-- Step 3 of a write: the length in bytes. -/
def lenRefuse (r : Row) (n : Nat) : Nat :=
  match r.len with
  | .fix m => if m < n then 0x06070012 else if n < m then 0x06070013 else 0
  | .span lo hi => if hi < n then 0x06070012 else if n < lo then 0x06070013 else 0

/-- Step 4: is a value within the range of its table? Temperatures are in 1/16 °C (R14). -/
def rngOk (rng : Rng) (bytes v : Nat) : Bool :=
  match rng with
  | .any => true
  | .ivs l => l.any fun p => decide (p.1 ≤ v) && decide (v ≤ p.2)
  | .mask m => v ||| m == m
  | .sgn lim => decide (absI (toI (8 * bytes) v) ≤ lim)
  | .mult lo hi step => decide (lo ≤ v) && decide (v ≤ hi) && v % step == 0
  | .temp => decide (-880 ≤ toI 16 v) && decide (toI 16 v ≤ 2400)

/-- The number of bytes of an entry as it is now read or written when its length is fixed, else its longest. -/
def Row.bytes (r : Row) : Nat := match r.len with | .fix n => n | .span _ hi => hi

/-- Is the entry of a length that an expedited access moves whole: 4 bytes at most? -/
def Row.fixed (r : Row) : Bool := match r.len with | .fix _ => true | .span _ _ => false

/-- Steps 1 to 4 of R489 for a write. -/
def formRefuse (index sub : Nat) (d : Datum) : Nat :=
  match findRow index sub with
  | none => allocRefuse index sub
  | some r =>
    if accRefuse r ≠ 0 then accRefuse r
    else if lenRefuse r d.len ≠ 0 then lenRefuse r d.len
    else if rngOk r.rng r.bytes d.val then 0 else 0x06090030

/-! Where entries live. -/

/-- The die code of the die that an entry lives on: 0 H, 1 S, 2 to 7 C0 to C5 (R17, R25). MASK and ROUTE of every record are in
the hub. -/
def dieOf (index sub : Nat) : Nat :=
  if 0x3000 ≤ index ∧ index < 0x3060 then (index - 0x3000) / 16 + 2
  else if 0x2510 ≤ index ∧ index < 0x2516 then index - 0x2510 + 2
  else if 0x2520 ≤ index ∧ index < 0x2526 then index - 0x2520 + 2
  else if index = 0x2530 ∨ index = 0x2630 then 1
  else if 0x2027 ≤ index ∧ index < 0x202D then 1
  else if 0x3400 ≤ index ∧ index < 0x3420 then 1
  else if 0x3420 ≤ index ∧ index < 0x3430 then (if sub = 3 ∨ sub = 4 then 0 else 1)
  else if 0x3500 ≤ index ∧ index < 0x3508 then (if sub = 3 ∨ sub = 4 then 0 else 1)
  else if 0x3508 ≤ index ∧ index < 0x3510 then 1
  else 0

/-- The island that takes a write, numbered by the model: 0 to 9 on H (host port, context store, stamp ingest, time,
packet, store, fault, E12, E13, other engines), 16 + i the DPLL pairs, 24 + j the APLLs, 32 the distribution, 40 + n the
slices of the channels, 136 + d the spare slices and 142 + d the output islands of the C dies. -/
def islandOf (index sub : Nat) : Nat :=
  if dieOf index sub = 0 then
    (if index < 0x2008 then 0
     else if index < 0x2010 then 0
     else if index < 0x2018 then 0
     else if index < 0x2040 then 2
     else if index < 0x2200 then 0
     else if index < 0x2300 then 6
     else if index < 0x2400 then 5
     else if index < 0x2500 then 1
     else if index < 0x2600 then 9
     else if index < 0x2610 then 3
     else if index < 0x2620 then 4
     else if index < 0x3100 then 0
     else if index < 0x3200 then 7
     else if index < 0x3300 then 2
     else if index < 0x3400 then 3
     else if index < 0x3440 then 8
     else if index < 0x3600 then 0
     else if index < 0x3610 then 3
     else if index < 0x3620 then 4
     else if index < 0x3700 then 3
     else if index < 0x3800 then 1
     else 4)
  else if index < 0x2100 then 32
  else if index < 0x2520 then (if sub = 17 then 136 + (index - 0x2510) else 40 + 16 * (index - 0x2510) + (sub - 1))
  else if index < 0x2530 then 142 + (index - 0x2520)
  else if index < 0x3000 then 32
  else if index < 0x3060 then (if sub ≤ 9 then 40 + (index - 0x3000) else 142 + (index - 0x3000) / 16)
  else if index < 0x3500 then 16 + index % 16 / 2
  else 24 + index % 8

/-! Interfaces. -/

/-- The interface that counts a pending write (2011h): 0 parallel bus, 1 SPI, 2 CAN, 3 fabric. -/
def ifaceClass : Iface → Nat
  | .parallel => 0
  | .spi => 1
  | .canSdo => 2
  | .canUsdo => 2
  | .canPdo _ => 2
  | .canLss => 2
  | .fabric _ => 3

/-- The interface that a stamp latch belongs to (R107): SDO and USDO apart. -/
def ifaceLatch : Iface → Nat
  | .parallel => 0
  | .spi => 1
  | .canSdo => 2
  | .canUsdo => 3
  | .canPdo _ => 2
  | .canLss => 2
  | .fabric _ => 4

/-- The place of an interface's LAST_ERROR in 2101h; none for those that keep no record there (R60, R62, R74). -/
def ifaceErrors : Iface → Option Nat
  | .parallel => some 1
  | .spi => some 4
  | .canSdo => some 7
  | .canUsdo => some 7
  | .canPdo _ => none
  | .canLss => none
  | .fabric _ => none

/-- Writes of an interface that are accepted and not in effect (R22). -/
def pendingCount (s : State) (c : Nat) : Nat := (s.host.posted.filter fun p => ifaceClass p.via == c).length

/-- A refusal is recorded in 2101h and shown in 2100h HISTORY (R60, R62, R74). -/
def noteError (s : State) (via : Iface) (index sub code : Nat) : State :=
  match ifaceErrors via with
  | none => s
  | some i =>
    (((s.put (key 0x2101 i) (cut 32 code)).put (key 0x2101 (i + 1)) (cut 16 index * 2 ^ 16 + cut 8 sub * 2 ^ 8)).inc 32
      (key 0x2101 (i + 2)) 1).hist 0x2100 (2 ^ (i / 3))

end Sys2Proof.Machine
end

