-- ==== Sys2Proof/Machine/Read.lean ====
section
/-! DEFINITION. What an entry of the object dictionary reads as, and a read with what it takes along (R24, R50, R51, R61,
R457, R463, R489, R492). -/

namespace Sys2Proof.Machine

/-- Bytes that a text takes: at least one. -/
def textLen (v : Nat) : Nat := (List.range 16).foldl (fun n i => if byteAt v i = 0 then n else i + 1) 1

/-- A context's record as it reads: GRANT_LEFT counts down (R273). -/
def contextRecord (s : State) (c : Nat) : Nat := putBytes (s.rd (key (0x3700 + c) 7)) 104 4 (grantLeft s c)

/-- Entries of chapter 02 that are not kept under their key. -/
def hostEntry (s : State) (index sub : Nat) : Option Nat :=
  let node := s.can.node % 256
  let stream := fun (i : Nat) =>
    let x := s.host.streams.getD i {}
    if sub = 4 then some x.position else if sub = 6 then some x.state else none
  if index = 0x2100 ∧ sub = 1 then some (hostStatus s)
  else if index = 0x2008 ∧ 1 ≤ sub then some (irqSummary s (sub - 1))
  else if index = 0x2102 then stream 0
  else if index = 0x2103 then stream 1
  else if index = 0x2104 then (if sub = 1 then some node else if sub = 2 then some s.can.source else none)
  else if index = 0x100A then some (Config.versionText (s.rd (key 0x2000 6)) % 2 ^ 128)
  else if index = 0x1018 ∧ sub = 3 then some (s.rd (key 0x2000 6))
  else if index = 0x1014 then (if s.rd (key 0x1014 0) = 2 ^ 32 then some (0x80 + node) else none)
  else if index = 0x1200 ∧ 1 ≤ sub then some ((if sub = 1 then 0x600 else 0x580) + node)
  else none

/-- Entries of chapter 01 that are not kept under their key. -/
def dieEntry (s : State) (index sub : Nat) : Option Nat :=
  if sub = 0 then none
  else if index = 0x2010 then some (dieStatus s (sub - 1))
  else if index = 0x2011 then some (pendingCount s (sub - 1))
  else if index = 0x2018 ∧ sub = 1 then some (linkStatus s)
  else none

/-- Entries of chapters 03 to 06 that are not kept under their key. -/
def measureEntry (s : State) (index sub : Nat) : Option Nat :=
  if index = 0x2600 then (if sub = 1 then some (tbStatus s) else none)
  else if 0x3100 ≤ index ∧ index < 0x3160 then (if sub = 1 then some (cupStatus s (index - 0x3100)) else none)
  else if 0x3200 ≤ index ∧ index < 0x3260 then
    let n := index - 0x3200
    let role := s.chCfg n 1
    if sub = 1 then
      some (at_ (inputOn s n) 0 + at_ ((role == 2 || role == 3) && s.chCfg n 0x0E == 1) 1
        + (s.rd (key index 1) &&& 4) + at_ (decide (0 < queueCount s n)) 3
        + at_ (s.link.throttled.getD (dieOfChan n) false) 4)
    else if sub = 5 then some (queueCount s n)
    else none
  else if 0x3430 ≤ index ∧ index < 0x3440 then (if sub = 1 then some (holdStatus s (index - 0x3430)) else none)
  else none

/-- Entries of chapters 07 to 09 that are not kept under their key. -/
def timeEntry (s : State) (index sub : Nat) : Option Nat :=
  if 0x3600 ≤ index ∧ index < 0x3604 then tcEntry s (index - 0x3600) sub
  else if index = 0x3610 then (if sub = 1 then some (ptpStatus s) else none)
  else if index = 0x3612 then (if sub = 5 then some s.ptp.txq.length else none)
  else if 0x3620 ≤ index ∧ index < 0x3624 then
    let b := index - 0x3620
    if sub = 1 then some (schedStatus s b)
    else if 0x15 ≤ sub ∧ sub ≤ 0x24 then some (schedResult s (16 * b + (sub - 0x15)))
    else none
  else if 0x3700 ≤ index ∧ index < 0x3800 then
    let c := index - 0x3700
    if sub = 1 then some (ctxStatus s c)
    else if sub = 5 then some (s.rd (key index 7) % 2 ^ 512)
    else if sub = 7 then some (contextRecord s c)
    else none
  else none

/-- Entries of chapters 10 to 13 that are not kept under their key. -/
def systemEntry (s : State) (index sub : Nat) : Option Nat :=
  if index = 0x3800 then
    (if sub = 1 then some (fabStatus s) else if sub = 8 ∧ s.fb 7 = 0 then some (gradeClass s)
     else if sub = 0x15 then some (addressTable s).val else none)
  else if index = 0x3802 then
    (if sub = 4 then some s.fab.pending.length else if sub = 8 then some (lookupResult s) else none)
  else if 0x3804 ≤ index ∧ index < 0x3808 ∧ sub = 0x0F then some (creditRecord s (index - 0x3804))
  else if index = 0x2400 then (if sub = 1 then some (arbStatus s) else none)
  else if index = 0x2420 then (if sub = 2 then some (assignNow s) else none)
  else if index = 0x2500 then (if sub = 1 then some (calStatus s) else none)
  else none

/-- The value in effect of an entry (R61), whatever interface asks; popping entries and those that read the cells are read
by `readBase`. -/
def entryValue (s : State) (index sub : Nat) : Nat :=
  let found : Option Nat :=
    if index < 0x2010 then (hostEntry s index sub).or (colEntry s index sub |>.or (nvEntry s index sub))
    else if index < 0x2100 then dieEntry s index sub
    else if index < 0x2110 then hostEntry s index sub
    else if index < 0x2200 then nvEntry s index sub
    else if index < 0x2300 then colEntry s index sub
    else if index < 0x2400 then nvEntry s index sub
    else if index < 0x2600 then systemEntry s index sub
    else if index < 0x2620 then measureEntry s index sub
    else if index < 0x2628 then (if 1 ≤ sub then some (irqInstance s index sub) else none)
    else if index < 0x3000 then timeEntry s index sub
    else if index < 0x3500 then measureEntry s index sub
    else if index < 0x3800 then timeEntry s index sub
    else systemEntry s index sub
  found.getD (s.rd (key index sub))

/-- The number of bytes that an entry reads as. -/
def entryLen (s : State) (r : Row) (index sub : Nat) : Nat :=
  match r.len with
  | .fix n => n
  | .span lo _ =>
    if index = 0x1009 ∨ index = 0x100A then textLen (entryValue s index sub)
    else if 0x3300 ≤ index ∧ index < 0x3318 then
      (if (s.gateAt (index - 0x3300)).freq then 0 else 16 * (s.gateAt (index - 0x3300)).stops.length)
    else if index = 0x3800 then (addressTable s).len
    else if 0x3820 ≤ index ∧ index < 0x3824 then (s.slotAt (index - 0x3820)).len
    else lo

/-- A value as the bytes of its entry. A wo entry reads 0 (R11). -/
def entryDatum (s : State) (r : Row) (index sub : Nat) : Datum :=
  let n := entryLen s r index sub
  match r.acc with
  | .wo => ⟨n, 0⟩
  | .ro => ⟨n, cut (8 * n) (entryValue s index sub)⟩
  | .rw => ⟨n, cut (8 * n) (entryValue s index sub)⟩
  | .rwh => ⟨n, cut (8 * n) (entryValue s index sub)⟩
  | .const => ⟨n, cut (8 * n) (entryValue s index sub)⟩
  | .w1c => ⟨n, cut (8 * n) (entryValue s index sub)⟩

/-! What serves an access (R457, R463). -/

/-- Served from the release on: 2000h, 2001h, the progress objects and 2100h (R457). -/
def servedEarly (index : Nat) : Bool :=
  index == 0x2000 || index == 0x2001 || (decide (0x2040 ≤ index) && decide (index ≤ 0x2046)) || index == 0x2100

/-- Served by the loader while no image runs (R463). -/
def servedLoader (index : Nat) : Bool :=
  servedEarly index || index == 0x1F50 || index == 0x1F51 || index == 0x1F56 || index == 0x1F57 || index == 0x2300 || index == 0x2330

/-- Step 5 of R489, the device's own states: the dictionary is not open (R457), the loader serves (R463), or an entry that waits on
the store is read before recovery ends (R60; log entry 61). -/
def openRefuse (s : State) (index sub : Nat) : Nat :=
  if s.boot.open_ then 0
  else if s.boot.loader then (if servedLoader index then 0 else 0x08000022)
  else if servedEarly index then
    (if index = 0x2000 ∧ sub = 7 ∧ s.boot.done.getD 1 false = false then 0x08000022 else 0)
  else 0x08000022

/-! Reads. -/

/-- Entries that pop on a read (R492). -/
def popsOnRead (index sub : Nat) : Bool :=
  (decide (0x3200 ≤ index) && decide (index < 0x3260) && (sub == 0x0B || sub == 0x0E)) || (index == 0x3612 && sub == 3)
    || (index == 0x2230 && sub == 2)

/-- A read that is not of a stream object's DATA: the refusal or 0, the bytes, and the state after the capture. -/
def readBase (s : State) (via : Iface) (index sub : Nat) : Nat × Datum × State :=
  match findRow index sub with
  | none => (allocRefuse index sub, {}, s)
  | some r =>
    if openRefuse s index sub ≠ 0 then (openRefuse s index sub, {}, s)
    else if 0x3200 ≤ index ∧ index < 0x3260 ∧ 0x0B ≤ sub then
      let n := index - 0x3200
      let i := ifaceLatch via
      let s1 := if popsOnRead index sub then popStamp s i n else s
      let w := stampLatch s1 i n
      (0, if sub = 0x0E then ⟨12, w⟩ else ⟨4, bytesAt w (4 * (sub - 0x0B)) 4⟩, s1)
    else if index = 0x3612 ∧ sub = 3 then (0, (txRecord s).1, (txRecord s).2)
    else if index = 0x2230 ∧ sub = 2 then (0, ⟨8, (inboxRead s).1⟩, (inboxRead s).2)
    else if index = 0x2310 ∧ sub = 3 then readData s
    else if index = 0x2320 ∧ sub = 2 then recordData s
    else if index = 0x2110 ∧ sub = 4 then logRead s false (s.rd (key 0x2110 3))
    else if index = 0x2340 ∧ sub = 7 then logRead s true (s.rd (key 0x2340 6))
    else if 0x3430 ≤ index ∧ index < 0x3440 ∧ sub = 0x1F then (0, ⟨32768, carafeDomain s (index - 0x3430)⟩, s)
    else (0, entryDatum s r index sub, s)

/-! The stream objects' DATA (R65 to R67). -/

def State.streamAt (s : State) (i : Nat) : Stream := s.host.streams.getD i {}
def State.setStream (s : State) (i : Nat) (f : Stream → Stream) : State :=
  s.setHost fun h => { h with streams := upd h.streams i f }

/-- The index of stream object i, and its interface. -/
def streamIndex (i : Nat) : Nat := 0x2102 + i
def streamIface (i : Nat) : Iface := if i = 0 then .parallel else .spi
/-- TARGET and LENGTH of a stream object. -/
def streamTarget (s : State) (i : Nat) : Nat × Nat :=
  (s.rd (key (streamIndex i) 1) / 2 ^ 16 % 2 ^ 16, s.rd (key (streamIndex i) 1) / 2 ^ 8 % 2 ^ 8)
def streamLength (s : State) (i : Nat) : Nat := s.rd (key (streamIndex i) 2)

/-- Is the value one that a stream captures whole at OPEN_READ: up to 512 bytes, or of an entry that pops (R66, R492)? -/
def streamWhole (index sub len : Nat) : Bool := decide (len ≤ 512) || popsOnRead index sub

/-- Is an entry a stream object's DATA or COMMAND? Neither can be the target of a stream. -/
def streamSelf (index sub : Nat) : Bool := (index == 0x2102 || index == 0x2103) && (sub == 3 || sub == 5)

/-- The code with which OPEN_READ is refused (R66, R67), STATE before the target (log entry 86). -/
def openReadRefuse (s : State) (i : Nat) : Nat :=
  let x := s.streamAt i
  let t := streamTarget s i
  if x.state = 1 ∨ x.state = 2 ∨ streamSelf t.1 t.2 then 0x08000021 else (readBase s (streamIface i) t.1 t.2).1

/-- The code with which OPEN_WRITE is refused (R66, R67): STATE, the target, then LENGTH (log entry 86). -/
def openWriteRefuse (s : State) (i : Nat) : Nat :=
  let x := s.streamAt i
  let t := streamTarget s i
  let n := streamLength s i
  if x.state = 1 ∨ x.state = 2 ∨ streamSelf t.1 t.2 then 0x08000021
  else match findRow t.1 t.2 with
    | none => allocRefuse t.1 t.2
    | some r => if accRefuse r ≠ 0 then accRefuse r else if n = 0 then 0x06070013 else lenRefuse r n

/-- Capture the block that POSITION enters when the one in hand does not hold it (R66). -/
def streamBlock (s : State) (i : Nat) : State :=
  let x := s.streamAt i
  if x.base ≤ x.position ∧ x.position < x.base + x.block.len ∨ streamLength s i ≤ x.position then s
  else
    let base := x.position / 512 * 512
    let r := readBase s (streamIface i) (streamTarget s i).1 (streamTarget s i).2
    r.2.2.setStream i fun x => { x with base := base, block := ⟨512, bytesAt r.2.1.val base 512⟩ }

/-- The next byte of a stream that is read: 0 past the end. The byte read, POSITION may enter the next block. -/
def streamByte (s : State) (i : Nat) : Nat × State :=
  let x := s.streamAt i
  if streamLength s i ≤ x.position then (0, s)
  else (byteAt x.block.val (x.position - x.base), streamBlock (s.setStream i fun x => { x with position := x.position + 1 }) i)

/-- The next `n` bytes, as one number. -/
def streamBytes (s : State) (i : Nat) : Nat → Nat × State
  | 0 => (0, s)
  | n + 1 =>
    let a := streamByte s i
    let b := streamBytes a.2 i n
    (a.1 + 256 * b.1, b.2)

/-- A read of DATA of `n` bytes: the refusal of R67, or the bytes; POSITION at LENGTH ends in DONE (R66). -/
def streamRead (s : State) (i n : Nat) : Nat × Datum × State :=
  let x := s.streamAt i
  if x.state = 3 ∧ x.wasRead then (0, ⟨n, 0⟩, s)
  else if x.state = 1 then
    let r := streamBytes s i n
    let s1 := if streamLength s i ≤ (r.2.streamAt i).position then r.2.setStream i fun x => { x with state := 3, wasRead := true } else r.2
    (0, ⟨n, r.1⟩, s1)
  else (0x08000021, {}, s)

/-- OPEN_READ: the value is captured, or the first block of a longer DOMAIN, and LENGTH takes its size (R66, R492). -/
def openRead (s : State) (i : Nat) : State :=
  let t := streamTarget s i
  let r := readBase s (streamIface i) t.1 t.2
  if r.1 ≠ 0 then s
  else
    let n := r.2.1.len
    let block : Datum := if streamWhole t.1 t.2 n then r.2.1 else ⟨512, bytesAt r.2.1.val 0 512⟩
    (r.2.2.setStream i fun _ => { state := 1, block := block }).put (key (streamIndex i) 2) n

/-- A stream object's COMMAND takes effect: 1 OPEN_READ, 2 OPEN_WRITE, 3 CLOSE (R65 to R67). -/
def streamRun (s : State) (i v : Nat) : State :=
  if v = 1 then openRead s i
  else if v = 2 then s.setStream i fun _ => { state := 2 }
  else if v = 3 then s.setStream i fun _ => {}
  else s

/-- Is this a stream object's DATA, and of which? -/
def streamData (index sub : Nat) : Option Nat :=
  if sub = 3 then (if index = 0x2102 then some 0 else if index = 0x2103 then some 1 else none) else none

/-- A read of any entry: the refusal or 0, the bytes, and the state after it. -/
def readEntry (s : State) (via : Iface) (index sub : Nat) : Nat × Datum × State :=
  match streamData index sub with
  | some i => if openRefuse s index sub ≠ 0 then (openRefuse s index sub, {}, s) else streamRead s i 2
  | none => readBase s via index sub

end Sys2Proof.Machine
end

