-- ==== Sys2Proof/Machine/Refuse.lean ====
section
/-! DEFINITION. When a write is refused: the order of R489 and the rules that each chapter gives (R20, R25, R50, R94, R95, R113,
R125, R128 to R130, R139, R158, R164, R170, R182, R194, R211, R224, R234, R237, R248, R251, R255, R256, R260, R262, R266 to R270,
R279, R282, R294, R305, R306, R324, R357, R359, R373, R383, R398, R426, R441). -/

namespace Sys2Proof.Machine

/-! Pending values (R20, R489 step 7). -/

/-- The state as its entries will read once every write accepted so far has taken effect; only the values of entries in it
are meant. -/
def pendView (s : State) : State :=
  s.host.posted.foldl (fun s p =>
    if 0x3700 ≤ p.index ∧ p.index < 0x3800 ∧ p.sub = 5 then s.put (key p.index 7) (p.d.val % 2 ^ 512)
    else s.put (key p.index p.sub) p.d.val) s

/-! Rules of chapter 02. -/

/-- May an entry be mapped to a PDO (R76)? STAMP_W0 and STAMP may not (R107). Every entry of fixed length up to 8 bytes; TIME80, STAMP96 and OFFSET_IN in FD format
(log entry 63). An RPDO maps what can be written, a TPDO what can be read. -/
def mappable (fd rx : Bool) (index sub bits : Nat) : Bool :=
  !(decide (0x3200 ≤ index ∧ index < 0x3260) && (sub == 0x0B || sub == 0x0E)) &&
  match findRow index sub with
  | none => false
  | some r =>
    (match r.len with
     | .fix n => bits == 8 * n && (decide (n ≤ 8) || (fd && (n == 10 || n == 12 || (index / 256 == 0x37 && sub == 8))))
     | .span _ _ => false)
      && (if rx then accRefuse r == 0 else r.acc != .wo)

/-- Bits that the first `n` mapping words of an index take. -/
def mapBits (s : State) (index n : Nat) : Nat :=
  ((List.range n).map fun i => s.rd (key index (i + 1)) % 256).foldl (· + ·) 0

/-- Is a write to a PDO mapping (1600h+p, 1A00h+p) refused (R74, R76)? -/
def mapRefuse (s p : State) (index sub v : Nat) : Nat :=
  let rx := decide (index < 0x1A00)
  if p.rd (key (index - 0x200) 1) < 2 ^ 31 then 0x06040043
  else if sub = 0 then
    if (List.range v).any fun i => p.rd (key index (i + 1)) == 0 then 0x06040041
    else if (if s.can.fd then 512 else 64) < mapBits p index v then 0x06040042
    else 0
  else if p.rd (key index 0) ≠ 0 then 0x06040043
  else if v = 0 ∨ mappable s.can.fd rx (v / 2 ^ 16) (v / 2 ^ 8 % 2 ^ 8) (v % 2 ^ 8) then 0
  else 0x06040041

/-- Chapters 01 and 02. -/
def hostRefuse (s p : State) (via : Iface) (index sub : Nat) (d : Datum) : Nat :=
  if index = 0x1010 then (if d.val = 0x65766173 then 0 else 0x08000020)
  else if index = 0x1011 then (if d.val = 0x64616F6C then 0 else 0x08000020)
  else if index = 0x1F50 then programRefuse s via d
  else if index = 0x1F51 then (if d.val = 3 ∧ s.nv.powerFail then 0x08000022 else 0)
  else if (0x1600 ≤ index ∧ index < 0x1608) ∨ (0x1A00 ≤ index ∧ index < 0x1A08) then mapRefuse s p index sub d.val
  else if index = 0x2030 ∧ sub = 1 then (if s.link.snap.isSome || s.host.posted.any (fun x => x.index == 0x2030 && x.sub == 1) then 0x08000022 else 0)
  else if (index = 0x2102 ∨ index = 0x2103) ∧ (sub = 1 ∨ sub = 2) then
    (let st := (s.streamAt (index - 0x2102)).state
     if st = 1 ∨ st = 2 then 0x08000021 else 0)
  else if (index = 0x2102 ∨ index = 0x2103) ∧ sub = 5 then
    (if d.val = 1 then openReadRefuse p (index - 0x2102) else if d.val = 2 then openWriteRefuse p (index - 0x2102) else 0)
  else 0

/-! Chapters 03 and 04. -/

/-- Is channel n the selected reference of a DPLL (R95, R130)? -/
def chanSelected (s : State) (n : Nat) : Bool :=
  (List.range 16).any fun k => match (s.dpllAt k).sel with | some e => candSource s k e == n | none => false

/-- Does a gate that is ARMED, OPEN or CLOSING name channel n (R95)? -/
def chanGated (s : State) (n : Nat) : Bool := (List.range 24).any fun g => gateBusy (s.gateAt g) && (gateChans s g).contains n

/-- A write to 3000h+n (R94, R95, R130; OUT_LEVEL by R230). -/
def chanRefuse (s p : State) (n sub v : Nat) : Nat :=
  let q := p.put (key (0x3000 + n) sub) v
  if sub = 1 ∧ v ≠ 1 ∧ chanSelected s n then 0x08000021
  else if sub = 8 ∧ chanGated s n then 0x08000021
  else if sub = 0x0F ∧ s.chCfg n 0x0E = 1 then 0x08000021
  else if (sub = 5 ∨ sub = 6 ∨ sub = 7) ∧ s.cupReg n 5 = 1 then 0x08000021
  else if (sub = 2 ∨ sub = 3 ∨ sub = 5 ∨ sub = 6) ∧
      (q.chCfg n 5 ≠ 0 ∧ (q.chCfg n 2 = 3 ∨ q.chCfg n 6 ≠ 0) ∨ q.chCfg n 3 ≠ 0 ∧ q.chCfg n 2 = 3) then 0x06090030
  else 0

/-- A write to 3100h+n (R128 to R130, R139). -/
def cupRefuse (s p : State) (n sub v : Nat) : Nat :=
  let q := p.put (key (0x3100 + n) sub) v
  if (sub = 6 ∨ sub = 7) ∧ s.cupReg n 5 = 1 then 0x08000021
  else if sub = 5 ∧ v = 0 ∧ s.cupReg n 5 = 1 ∧ chanSelected s n then 0x08000021
  else if sub = 5 ∧ v = 1 ∧ cupEnableRefuse (p.cupReg n 6) (p.cupReg n 7) (p.cupReg n 0x0B) (p.chCfg n 6) (p.chCfg n 5) (p.chCfg n 7) then
    0x06090030
  else if (sub = 0x1D ∨ sub = 0x1E ∨ sub = 0x1F ∨ sub = 0x20) ∧
      ¬(q.cupReg n 0x20 < q.cupReg n 0x1F ∧ q.cupReg n 0x1F < q.cupReg n 0x1E ∧ q.cupReg n 0x1E ≤ q.cupReg n 0x1D) then 0x06090030
  else if (sub = 0x0C ∨ sub = 0x0D) ∧ ¬(q.cupReg n 0x0D < q.cupReg n 0x0C) then 0x06090030
  else 0

/-- A write to 3300h+g (R113). -/
def gateRefuse (s p : State) (g sub v : Nat) : Nat :=
  if (sub = 5 ∨ 7 ≤ sub) ∧ gateBusy (s.gateAt g) then 0x08000021
  else if sub = 6 ∧ v = 1 then gateArmRefuse p g
  else 0

/-! Chapters 05 to 07. -/

/-- A write to 3400h+k or 3410h+k (R158, R164, R170, R182). -/
def dpllRefuse (s p : State) (index sub v : Nat) : Nat :=
  let k := index % 16
  let empty := fun e => candSource p k e == 0xFFFF
  if index < 0x3410 then
    if sub = 2 ∧ v ≠ 0 ∧ empty (p.dpCfg k 3) then 0x06090030
    else if sub = 0x16 ∧ (s.dpllAt k).state ≠ .software then 0x08000021
    else if sub = 0x18 then dpCommandRefuse s k v (s.dpCfg k 1)
    else 0
  else candRefuse s (candWord p) (p.dpCfg k 2) (p.dpCfg k 3) k (sub - 1) v

/-- A write to 3430h+k (R194, R207). -/
def holdRefuse (s p : State) (k sub v : Nat) : Nat :=
  if sub = 7 then (if p.hoCfg k 5 < v then 0x06090030 else 0)
  else if sub = 5 then (if v < p.hoCfg k 7 then 0x06090030 else 0)
  else if sub = 0x1F then carafeRefuse s k v
  else 0

/-- A write to 3500h+j or 3508h+j (R211, R224, R225, R237). -/
def apllRefuse (s p : State) (index sub v : Nat) : Nat :=
  let j := index % 8
  let a := s.apllAt j
  if index < 0x3508 then
    if 6 ≤ sub ∧ sub ≤ 0x0B ∧ s.apCfg j 5 = 1 then 0x08000021
    else if sub = 5 ∧ v = 1 then
      (if rampBlocks s j (p.apCfg j 6) then 0x08000021
       else if planOk (p.apCfg j 7) (p.apCfg j 8) (p.apCfg j 9) then 0 else 0x06090030)
    else 0
  else if sub = 3 then rampCommandRefuse s p j v
  else if (a.ramp = .running ∨ a.ramp = .stopping) ∧ (sub = 1 ∨ sub = 2 ∨ 9 ≤ sub) then 0x08000021
  else 0

/-- ALIGN_OUTPUT (R234). -/
def alignRefuse (s : State) (sub v : Nat) : Nat := if sub = 5 ∧ alignEligible s v = false then 0x08000022 else 0

/-! Chapter 08. -/

/-- May a counter take its offsets from OFFSET_SOURCE (R251)? -/
def offsetSourceOk (p : State) (t src : Nat) : Bool := decide (256 ≤ src) || p.ctxRec src 1 1 == t

/-- A write to 3600h+t (R246, R248, R249, R251, R255, R256, R260, R262). -/
def tcRefuse (s p : State) (t sub v : Nat) : Nat :=
  let disc := s.tcReg t 7
  let period := p.tcReg t 0x13
  if sub = 6 then
    if disc = 2 ∧ v / 2 ^ 48 ≠ 0 then 0x06090030 else 0
  else if sub = 7 then (if v = 1 ∧ offsetSourceOk p t (p.tcReg t 0x0A) = false then 0x06090030 else 0)
  else if sub = 8 then (if disc = 2 then 0x08000021 else 0)
  else if sub = 9 then
    if disc ≠ 0 then 0x08000021 else 0
  else if sub = 0x0A then (if offsetSourceOk p t v = false then 0x06090030 else 0)
  else if sub = 0x0F then (if disc = 2 ∧ wholeSecond (toI 64 v) = false then 0x06090030 else 0)
  else if sub = 0x10 then (if disc = 2 then 0x08000021 else 0)
  else if sub = 0x13 then (if v ≠ 0 ∧ (v ≤ p.tcReg t 0x14 ∨ v < p.tcReg t 0x15 + 4) then 0x06090030 else 0)
  else if sub = 0x14 then (if period ≠ 0 ∧ period ≤ v then 0x06090030 else 0)
  else if sub = 0x15 then (if period ≠ 0 ∧ period < v + 4 then 0x06090030 else 0)
  else if sub = 0x23 then (if s.tcReg t 0x22 = 1 then 0x08000021 else 0)
  else if sub = 0x26 then (if s.tcReg t 0x27 = 1 then 0x08000021 else 0)
  else if sub = 0x27 then (if v = 1 ∧ p.tcReg t 7 ≠ 2 then 0x06090030 else 0)
  else 0

/-- The transports, the flags and the domains of a profile (R267; log entry 62). -/
def profileTransport (p tr : Nat) : Bool :=
  if p = 2 ∨ p = 4 then tr == 0 else if p = 3 then tr == 1 || tr == 2 else decide (tr ≤ 2)
def profileFlags (p fl : Nat) : Bool :=
  (if bit fl 1 then p == 0 || p == 3 else p != 3) && (!bit fl 2 || p == 2) && (!bit fl 3 || p == 2)
def profileDomain (p dom : Nat) : Bool :=
  if p = 2 then decide (24 ≤ dom ∧ dom ≤ 43) else if p = 3 then decide (44 ≤ dom ∧ dom ≤ 63) else decide (dom ≤ 127)

/-- Are the fields of a CONFIG within their ranges (R267, R268, R273, R318)? `v` is the 64 bytes. -/
def configFields (v : Nat) : Bool :=
  let b := fun i => byteAt v i
  let log := fun i => toI 8 (byteAt v i)
  let common := decide (b 1 < 4) && decide (b 14 < b 15) && decide (10 ≤ bytesAt v 44 4 ∧ bytesAt v 44 4 ≤ 60000)
    && decide (1 ≤ bytesAt v 48 2 ∧ bytesAt v 48 2 ≤ 4095)
  if b 0 = 3 then common && (decide (0x20 ≤ b 2 ∧ b 2 < 0x24) || b 2 == 0x2F)
  else
    decide (b 0 ≤ 4) && common && (decide (b 2 < 2) || decide (0x10 ≤ b 2 ∧ b 2 < 0x20)) && decide (b 3 < 3) && decide (b 4 < 5)
      && decide (b 5 < 3) && decide (b 6 < 16) && decide (1 ≤ b 7) && decide (1 ≤ b 12 ∧ b 12 ≤ 64)
      && decide (60 ≤ bytesAt v 40 4 ∧ bytesAt v 40 4 ≤ 1000)
      && (b 0 == 0 || b 0 == 4 ||
        (profileTransport (b 4) (b 5) && profileFlags (b 4) (b 6) && intervalOk (b 4) 0 (log 8) && intervalOk (b 4) 9 (log 9)
          && intervalOk (b 4) 11 (log 10) && decide (2 ≤ b 11 ∧ b 11 ≤ 10) && !(bit (b 6) 0 && decide (0x10 ≤ b 2))))

/-- A FABRIC context runs on the counter of the fabric (R318). -/
def configCounter (p : State) (v : Nat) : Bool := byteAt v 0 != 3 || byteAt v 1 == p.fb 5

/-- Is another context already the port context of this instance and port (R268)? -/
def portTaken (p : State) (c counter port : Nat) : Bool :=
  (List.range 256).any fun x => x != c && p.ctxRec x 0 1 == 1 && p.ctxRec x 1 1 == counter && p.ctxRec x 2 1 == port

/-- A context that PASSTHROUGH refuses on ETH0 and ETH1 (R266). -/
def passBars (s : State) (kind port role profile : Nat) : Bool :=
  s.rd (key 0x3610 5) == 1 && (kind == 1 || kind == 2) && decide (port < 2) && (profile == 1 || profile == 4 || role != 2)

/-- A write to 3700h+c (R251, R264, R266 to R270, R273, R274, R318). -/
def ctxRefuse (s p : State) (c sub v : Nat) : Nat :=
  if sub = 5 then
    if (s.ctxAt c).pool ∨ cxEnabled s c then 0x08000021
    else if (List.range 4).any (fun t => s.tcReg t 7 == 1 && s.tcReg t 0x0A == c && byteAt v 1 != t) then 0x08000021
    else if passBars s (byteAt v 0) (byteAt v 2) (byteAt v 3) (byteAt v 4) then 0x08000021
    else if configCounter p v = false ∨ byteAt v 0 = 1 ∧ portTaken p c (byteAt v 1) (byteAt v 2) then 0x06090030
    else 0
  else if sub = 6 then
    if (s.ctxAt c).pool then 0x08000021
    else if v = 1 ∧ passBars s (p.ctxRec c 0 1) (p.ctxRec c 2 1) (p.ctxRec c 3 1) (p.ctxRec c 4 1) then 0x08000021
    else if v = 1 ∧ (p.ctxRec c 0 1 = 1 ∨ p.ctxRec c 0 1 = 2) ∧ profileDomain (p.ctxRec c 4 1) (p.tcReg (p.ctxRec c 1 1 % 4) 0x23) = false then
      0x06090030
    else 0
  else if sub = 8 then (if p.ctxRec c 0 1 = 4 ∧ p.rd (key (0x3700 + c) 6) = 1 then 0 else 0x08000022)
  else 0

/-- A write to 3610h, 3611h and 3612h (R265, R266, R270). -/
def ptpRefuse (s p : State) (index sub : Nat) (d : Datum) : Nat :=
  if index = 0x3610 then
    let first := if sub = 7 then d.val else p.rd (key 0x3610 7)
    let count := if sub = 8 then d.val else p.rd (key 0x3610 8)
    if sub = 5 ∧ d.val = 1 ∧ (p.rd (key 0x3611 1) ≠ p.rd (key 0x3611 0x11) ∨ p.rd (key 0x3611 1) = 0) then 0x06090030
    else if (sub = 7 ∨ sub = 8) ∧ (List.range count).any (fun i => decide (first + i < 256) && cxEnabled s (first + i) && !(s.ctxAt (first + i)).pool) then
      0x08000021
    else if (sub = 7 ∨ sub = 8) ∧ 0 < count ∧ 256 < first + count then 0x06090030
    else 0
  else if index = 0x3611 then (if (sub = 1 ∨ sub = 0x11) ∧ s.rd (key 0x3610 5) = 1 then 0x08000021 else 0)
  else if sub = 2 then (if rxRecordBad s d then 0x06090030 else 0)
  else 0

/-- A write to 3620h+b (R279 to R282). -/
def schedRefuse (s p : State) (b sub v : Nat) : Nat :=
  if 5 ≤ sub ∧ sub ≤ 0x14 then
    if entryRefuse v ≠ 0 then entryRefuse v else if entryArmed s (16 * b + (sub - 5)) then 0x08000021 else 0
  else if sub = 0x25 then armRefuse p b v
  else 0

/-! Chapters 10 to 14. -/

/-- A write to 3800h to 3823h (R293, R294, R304 to R306, R324). -/
def fabRefuse (s p : State) (index sub v : Nat) : Nat :=
  if index = 0x3800 then
    if sub = 5 then (if (List.range 4).any fun i => s.fp i 1 == 1 then 0x08000021 else 0)
    else if sub = 8 then (if s.fb 7 = 0 then 0x08000021 else 0)
    else 0
  else if index < 0x3804 then 0
  else if index < 0x3808 then (if sub = 4 then txApllRefuse p v else 0)
  else if index < 0x380C then 0
  else
    let r := index - 0x3820
    if sub = 5 then requestRefuse s p r v
    else if s.rq r 6 = 1 then 0x08000021 else 0

/-- A write to 2500h to 2540h (R357, R359). -/
def calRefuse (s : State) (index sub v : Nat) : Nat :=
  if index = 0x2500 then (if sub = 0x0C ∧ v = 3 then calRestoreRefuse s else 0)
  else if index < 0x2510 then 0
  else if index < 0x2520 then sliceRecRefuse s (index - 0x2510) (sub - 1) v
  else if index < 0x2530 then outRecRefuse s (index - 0x2520) (sub - 1) v
  else if index = 0x2530 then
    (if sub ≤ 6 then (if (List.range 6).all (calPaused s) then 0 else 0x08000021)
     else if (s.apllAt (sub - 0x0D)).state = .off then 0 else 0x08000021)
  else if 7 ≤ sub ∧ sub ≤ 0x0C then (if bit (s.rd (key 0x2540 0x0D)) (sub - 7) then 0 else 0x08000021)
  else 0

/-- A write to 2600h to 2603h (R125). -/
def baseRefuse (s : State) (index sub : Nat) : Nat :=
  if index = 0x2601 ∧ sub = 2 ∧ s.dp.mxo = false then 0x08000021 else 0

/-- A write to 2300h to 2340h (R373, R374, R377, R381 to R383), with the reads of the cells that the check takes; ADDRESS and RECORD_SELECT
as they will stand. -/
def storeRefuse (s p : State) (index sub : Nat) (d : Datum) : Nat × State :=
  if index = 0x2310 ∧ sub = 4 then writeDataRefuse s (p.rd (key 0x2310 1)) d
  else if index = 0x2320 ∧ sub = 2 then (recordRefuse s, s)
  else if index = 0x2320 ∧ sub = 5 then (if d.val = 1 then recordRefuse s else if d.val = 2 then repairRefuse s (p.rd (key 0x2320 1)) else 0, s)
  else (0, s)

/-- A write to the fault collector (R426, R441, R444). -/
def colRefuse (s : State) (index sub v : Nat) : Nat :=
  if index = 0x2210 ∧ sub = 2 then sourceCfgRefuse (s.rd (key 0x2210 1)) v
  else 0

/-- Steps 6 to 8 of R489: what each chapter refuses. -/
def objectRefuse (s : State) (via : Iface) (index sub : Nat) (d : Datum) : Nat × State :=
  let p := pendView s
  let v := d.val
  if index < 0x2200 then (hostRefuse s p via index sub d, s)
  else if index < 0x2300 then (colRefuse p index sub v, s)
  else if index < 0x2400 then storeRefuse s p index sub d
  else if index < 0x2500 then (if index = 0x2420 then assignRefuse s v else 0, s)
  else if index < 0x2600 then (calRefuse s index sub v, s)
  else if index < 0x2630 then (baseRefuse s index sub, s)
  else if index < 0x3000 then (alignRefuse s sub v, s)
  else if index < 0x3100 then (chanRefuse s p (index - 0x3000) sub v, s)
  else if index < 0x3200 then (cupRefuse s p (index - 0x3100) sub v, s)
  else if index < 0x3300 then (0, s)
  else if index < 0x3400 then (gateRefuse s p (index - 0x3300) sub v, s)
  else if index < 0x3420 then (dpllRefuse s p index sub v, s)
  else if index < 0x3430 then (0, s)
  else if index < 0x3500 then (holdRefuse s p (index - 0x3430) sub v, s)
  else if index < 0x3600 then (apllRefuse s p index sub v, s)
  else if index < 0x3610 then (tcRefuse s p (index - 0x3600) sub v, s)
  else if index < 0x3620 then (ptpRefuse s p index sub d, s)
  else if index < 0x3700 then (schedRefuse s p (index - 0x3620) sub v, s)
  else if index < 0x3800 then (ctxRefuse s p (index - 0x3700) sub v, s)
  else (fabRefuse s p index sub v, s)

/-- Is the value of an entry refused for its own sake, beyond the range its table gives (step 4 of R489)? LENGTH of a request slot has a
code of its own. -/
def valueRefuse (index sub : Nat) (d : Datum) : Nat :=
  let v := d.val
  let bad := fun (b : Bool) => if b then 0x06090030 else 0
  if 0x3820 ≤ index ∧ index < 0x3824 ∧ sub = 3 ∧ 512 < v then 0x06070012
  else if index = 0x2200 ∧ sub = 0x0B then injectRefuse v
  else if index = 0x2210 ∧ sub = 1 then bad (!allocated v)
  else if index = 0x2210 ∧ sub = 2 then bad (sourceCfgBad v)
  else if index = 0x2420 then bad (assignBad v)
  else if 0x2510 ≤ index ∧ index < 0x2516 then bad (sliceRecBad (index - 0x2510) (sub - 1) v)
  else if 0x2520 ≤ index ∧ index < 0x2526 then bad (outRecBad (index - 0x2520) (sub - 1) v)
  else if 0x3410 ≤ index ∧ index < 0x3420 then bad (candBad v)
  else if 0x3600 ≤ index ∧ index < 0x3604 ∧ sub = 6 then bad (decide (999999999 < v / 2 ^ 48))
  else if 0x3600 ≤ index ∧ index < 0x3604 ∧ sub = 9 then bad (decide (v < 1124774006935781 ∨ 1127025806749467 < v))
  else if index = 0x3612 ∧ sub = 2 then bad (rxRecordShort d)
  else if 0x3620 ≤ index ∧ index < 0x3624 then (if 5 ≤ sub ∧ sub ≤ 0x14 then entryRefuse v else 0)
  else if 0x3700 ≤ index ∧ index < 0x3800 ∧ sub = 5 then bad (!configFields v)
  else if 0x3804 ≤ index ∧ index < 0x3808 ∧ sub = 4 then bad (decide (8 ≤ v ∧ v ≠ 0xFF))
  else if 0x3808 ≤ index ∧ index < 0x380C ∧ sub = 2 then shadowRefuse v
  else 0

/-- Steps 1 to 4 of R489, which the hub judges from the object tables. -/
def stepsRefuse (index sub : Nat) (d : Datum) : Nat :=
  let own := valueRefuse index sub d
  let form := formRefuse index sub d
  if form ≠ 0 ∧ ¬(own ≠ 0 ∧ form = 0x06090030) then form else own

/-- Is a write refused, and with which code (R489)? 0 for no. Neither a write of MASK and ROUTE nor one of the stream objects' DATA
meets a chapter's own rules; DATA is not journalled (R66). -/
def writeRefuse (s : State) (via : Iface) (index sub : Nat) (d : Datum) : Nat × State :=
  if stepsRefuse index sub d ≠ 0 then (stepsRefuse index sub d, s)
  else if openRefuse s index sub ≠ 0 then (openRefuse s index sub, s)
  else if dieReachable s (dieOf index sub) = false then (0x08000022, s)
  else if journalRefuse s via index sub ≠ 0 then (journalRefuse s via index sub, s)
  else if histMask index ≠ 0 ∧ sub ≤ 4 then (0, s)
  else objectRefuse s via index sub d

end Sys2Proof.Machine
end

