-- ==== Sys2Proof/Machine/Params.lean ====
section
/-! DEFINITION. The parameter images: which entries are stored, saving them and flagging them for the next reset (R73, R368,
R491). -/

namespace Sys2Proof.Machine

/-- Entries that are never saved though they are rw or rwh and short (R491). -/
def neverSaved (index sub : Nat) : Bool :=
  index == 0x1003 || index == 0x1010 || index == 0x1011 || index == 0x1F51 || (index == 0x2030 && sub == 1)
    || (decide (0x2020 ≤ index ∧ index < 0x202D) && sub == 0x0D) || index == 0x2102 || index == 0x2103
    || decide (0x3820 ≤ index ∧ index < 0x3824) || (index == 0x2110 && sub == 3) || (index == 0x2340 && sub == 6)
    || (index == 0x2310 && (sub == 1 || sub == 2)) || index == 0x2320 || (index == 0x3802 && sub == 7) || index == 0x2210
    || (decide (0x3430 ≤ index ∧ index < 0x3440) && sub == 0x0A) || (decide (0x3400 ≤ index ∧ index < 0x3410) && sub == 0x16)
    || (index == 0x2001 && sub == 1) || decide (0x2510 ≤ index ∧ index < 0x2516) || decide (0x2520 ≤ index ∧ index < 0x2526)
    || (index == 0x2530 && sub ≤ 0x14) || (index == 0x2540 && decide (7 ≤ sub ∧ sub ≤ 0x0C))

/-- Is an entry stored (R491)? -/
def storedEntry (index sub : Nat) : Bool :=
  match findRow index sub with
  | none => false
  | some r =>
    (match r.acc with | .rw => true | .rwh => true | _ => false)
      && (match r.len with | .fix n => decide (n ≤ 255) | .span _ hi => decide (hi ≤ 255)) && !neverSaved index sub

/-- Does an entry belong to the communication image (R368)? -/
def commEntry (index : Nat) : Bool := decide (0x1000 ≤ index ∧ index < 0x2000) || index == 0x2104

/-- The keys whose value may differ from the default: those that the dictionary lists, the rates of the counters, and the CONFIG
of every context that no pool holds. -/
def savedKeys (s : State) : List Nat :=
  ((s.od.map fun e => e.1).filter fun k => storedEntry (k / 256) (k % 256)
      && !(decide (0x3700 ≤ k / 256 ∧ k / 256 < 0x3800) && (s.ctxAt (k / 256 - 0x3700)).pool))
    ++ ((List.range 4).map fun t => key (0x3600 + t) 9).filter (fun k => (storeGet s.od k).isNone)
    ++ ((List.range 256).filter fun c => !(s.ctxAt c).pool).map fun c => key (0x3700 + c) 5

/-- The value of an entry as an image holds it. -/
def savedDatum (s : State) (k : Nat) : Datum :=
  match findRow (k / 256) (k % 256) with
  | some r => entryDatum s r (k / 256) (k % 256)
  | none => {}

/-- Put an item in its place by its key. -/
def imageIns : List (Nat × Datum) → Nat × Datum → List (Nat × Datum)
  | [], e => [e]
  | a :: r, e => if e.1 < a.1 then e :: a :: r else a :: imageIns r e

/-- The pairs of the sources of the collector (R491). -/
def sourcePairs (s : State) : List (Nat × Datum) :=
  s.col.cfgs.foldr (fun e l => (key 0x2210 1, ⟨2, e.1⟩) :: (key 0x2210 2, ⟨40, e.2⟩) :: l) []

/-- One image: the stored entries that differ from their default, in ascending order, with the pairs at the place of 2210h. -/
def makeImage (s : State) (comm : Bool) : List (Nat × Datum) :=
  let l := (savedKeys s).filter fun k => commEntry (k / 256) == comm && (savedDatum s k).val != defaultOf k
  let sorted := l.foldl (fun a k => imageIns a (k, savedDatum s k)) []
  if comm then sorted
  else (sorted.filter fun e => decide (e.1 < key 0x2210 1)) ++ sourcePairs s ++ sorted.filter fun e => !decide (e.1 < key 0x2210 1)

/-- Bytes that an image takes with its end. -/
def imageBytes (l : List (Nat × Datum)) : Nat := (l.map fun e => 4 + e.2.len).foldl (· + ·) 2

/-- Writing "save" to 1010h.0`sub` (R368). -/
def saveParameters (s : State) (sub : Nat) : State :=
  let comm := makeImage s true
  let app := makeImage s false
  if (sub ≠ 3 ∧ 1792 < imageBytes comm) ∨ (sub ≠ 2 ∧ 34816 < imageBytes app) then progSet s 0 3 0 65536 0x06070012 0xFF
  else
    requestStore (s.nvSet fun v => { v with sram := { v.sram with
      comm := if sub = 3 then v.sram.comm else comm
      app := if sub = 2 then v.sram.app else app } })

/-- Writing "load" to 1011h.0`sub` (R368). -/
def loadDefaults (s : State) (sub : Nat) : State :=
  requestStore (s.nvSet fun v => { v with sram := { v.sram with
    loadAll := v.sram.loadAll || sub == 1
    loadComm := v.sram.loadComm || sub == 2
    loadApp := v.sram.loadApp || sub == 3 } })

end Sys2Proof.Machine
end

