-- ==== Sys2Proof/Machine/Apply.lean ====
section
/-! DEFINITION. What a write does when it takes effect, for every entry that can be written (R20): chapter by chapter, the
operation behind the entry, or the plain value. -/

namespace Sys2Proof.Machine

/-- Has boot step `i` (0 to 7) ended (R453)? -/
def bootPast (s : State) (i : Nat) : Bool := s.boot.done.getD i false

/-- The value of a write without the bits that an entry reserves (R50). -/
def unreserved (index sub v : Nat) : Nat :=
  if histMask index ≠ 0 ∧ sub ≤ 4 then v &&& histMask index
  else if (index = 0x2102 ∨ index = 0x2103) ∧ sub = 1 then v / 256 * 256
  else if 0x3820 ≤ index ∧ index < 0x3824 ∧ sub = 2 then v / 256 * 256
  else if 0x3700 ≤ index ∧ index < 0x3800 ∧ sub = 5 then v % 2 ^ 400
  else if 0x3410 ≤ index ∧ index < 0x3420 then v % 2 ^ 22
  else v

/-- A write to a w1c HISTORY: the bits written as 1 clear, at the hub and, for records of S, at their source (R11, R88, R89). -/
def clearHistory (s : State) (index v : Nat) : State :=
  let k := key index 2
  let s1 := s.put k (clearBits (s.rd k) v)
  if dieOf index 2 = 1 then s1.dput k (clearBits (s1.drd k) v) else s1

/-- Chapters 01 and 02 and the communication area. -/
def applyHost (s : State) (via : Iface) (index sub : Nat) (d : Datum) : State :=
  let v := d.val
  let k := key index sub
  if index = 0x1003 ∧ sub = 0 then s.many (List.range 17) fun i s => s.put (key 0x1003 i) 0
  else if index = 0x1010 then saveParameters s sub
  else if index = 0x1011 then loadDefaults s sub
  else if index = 0x1F50 then programData s via d
  else if index = 0x1F51 then
    (let s1 := s.put k v
     if v = 1 then programStart s1 else if v = 0 then programStop s1 else if v = 3 then programClear s1 else s1)
  else if (0x1800 ≤ index ∧ index < 0x1808) ∨ (0x1A00 ≤ index ∧ index < 0x1A08) then
    (s.put k v).setCan fun c => { c with tpdos := c.tpdos.set (index % 8) {} }
  else if index = 0x2001 ∧ sub = 2 then
    (if v = 0x5A then jobPut (s.nvSet fun x => { x with swReset := true }) .journal else s)
  else if 0x2020 ≤ index ∧ index < 0x202D then
    (if sub = 0x0C then linkCommand s (index - 0x2020) v else linkInject s (index - 0x2020) v)
  else if index = 0x2030 ∧ sub = 1 then snapStart s v
  else if (index = 0x2102 ∨ index = 0x2103) ∧ sub = 5 then streamRun s (index - 0x2102) v
  else s.put k (unreserved index sub v)

/-- Chapter 14. -/
def applyCol (s : State) (index sub v : Nat) : State :=
  let k := key index sub
  if index = 0x2200 ∧ sub = 0x0A then
    (if v = 1 then ackAll s else if v = 2 then recover s else if v = 3 then clearSticky s
     else if v = 4 then colClearCounters s else s)
  else if index = 0x2200 ∧ sub = 0x0B then inject s v
  else if index = 0x2202 then s.put k (clearBits (s.rd k) v)
  else if 0x2203 ≤ index ∧ index ≤ 0x2205 then unackClear s (index - 0x2202) (sub - 1) v
  else if index = 0x2210 ∧ sub = 1 then sourceSelect s v
  else if index = 0x2210 then sourceCfgPut s (s.rd (key 0x2210 1)) v
  else if index = 0x2230 ∧ sub = 1 then inboxWrite s v
  else s.put k v

/-- Chapters 11 to 13. -/
def applySystem (s : State) (index sub : Nat) (d : Datum) : State :=
  let v := d.val
  let k := key index sub
  if index = 0x2300 ∧ sub = 5 then (if v = 1 then requestStore s else if v = 2 then scrubNow s else s)
  else if index = 0x2310 ∧ sub = 4 then writeData s d
  else if index = 0x2310 ∧ sub = 5 then (if v = 1 then hostCommit s else if v = 2 then hostDiscard s else s)
  else if index = 0x2320 ∧ sub = 1 then recordSelect s v
  else if index = 0x2320 ∧ sub = 2 then recordWrite s d
  else if index = 0x2320 ∧ sub = 5 then (if v = 1 then recordErase s else if v = 2 then recordRepair s else s)
  else if index = 0x2400 ∧ sub = 8 then (if v = 1 then arbSnapshot s else if v = 2 then arbClear s else s)
  else if 0x2430 ≤ index ∧ index < 0x2448 ∧ sub = 1 then classPut s (index - 0x2430) v
  else if index = 0x2500 ∧ sub = 5 then calEnable s v
  else if index = 0x2500 ∧ sub = 0x0C then
    (if v = 1 then sweepNow s else if v = 2 then calSave s else if v = 3 then calRestore s else s)
  else if 0x2510 ≤ index ∧ index < 0x2516 then sliceRecPut s (index - 0x2510) (sub - 1) v
  else if 0x2520 ≤ index ∧ index < 0x2526 then outRecPut s (index - 0x2520) (sub - 1) v
  else s.put k v

/-- A write of SOURCE of the measurement time base (R123): the MXO at once; SOSC at once after ten seconds without a break, else as at
a loss of SOSC. -/
def baseSource (s : State) (v : Nat) : State :=
  let s1 := s.put (key 0x2601 1) v
  let was := s.chan.base.inUse
  if v = 0 then
    let s2 := s1.setBase fun b => { b with inUse := false, fallback := false }
    if was then calTbChange (cupsTbChange (gatesTbChange s2)) else s2
  else if was then s1
  else if s.chan.base.soscTen then
    calTbChange (cupsTbChange (gatesTbChange (s1.setBase fun b => { b with inUse := true, fallback := false })))
  else ((s1.setBase fun b => { b with fallback := true }).hist 0x2600 1).raise 0 0x0E 0x38 0

/-- Chapters 03 to 06. -/
def applyMeasure (s : State) (index sub : Nat) (v : Nat) : State :=
  let k := key index sub
  if index = 0x2601 ∧ sub = 1 then baseSource s v
  else if index = 0x2601 then (s.put k v).setBase fun b => { b with hzPending := true, soscSince := s.now, soscTen := false }
  else if (index = 0x2602 ∨ index = 0x2603) ∧ sub = 5 then (if v = 1 then tbDateNow s index else s)
  else if 0x3300 ≤ index ∧ index < 0x3318 ∧ sub = 6 then
    (if v = 1 then gateArm s (index - 0x3300) else if v = 2 then gateAbort s (index - 0x3300) else s)
  else if 0x3400 ≤ index ∧ index < 0x3410 then
    (let n := index - 0x3400
     if sub = 2 ∨ sub = 3 then modePut s n sub v
     else if sub = 0x17 then dpTamp s n (toI 64 v)
     else if sub = 0x18 then dpQueue s n v
     else s.put k v)
  else if 0x3410 ≤ index ∧ index < 0x3420 then candPut s (index - 0x3410) (sub - 1) v
  else if 0x3430 ≤ index ∧ index < 0x3440 then
    (let n := index - 0x3430
     if sub = 9 then tempSource s n v
     else if sub = 0x0A then hostTemp s n v
     else if sub = 0x0E then holdCommand s n v
     else if sub = 0x1F then carafeRestore s n v
     else s.put k v)
  else s.put k v

/-- A channel slice or output entry (3000h+n): before boot step 6 the value only stands (R455, R456). -/
def applyChan (s : State) (n sub v : Nat) : State :=
  let s1 := s.put (key (0x3000 + n) sub) v
  if bootPast s 5 = false then s1
  else if sub = 1 then
    let was := s.chCfg n 1
    let s2 := s1.when (was != v && (v == 1 || v == 3)) fun s => decimRestart s n
    let s3 := s2.when (was == 1 && v != 1) fun s => gatesBar s n
    safeFollow (calRole (cupFollow s3 n) n (inputOn s n))
  else if sub = 5 ∨ sub = 6 ∨ sub = 7 then decimRestart s1 n
  else if sub = 0x0A then s1.when (s.chCfg n 0x0E == 1) fun s => loseAlign s n
  else if sub = 0x0B then loseAlign s1 n
  else if sub = 0x10 then s1.setOut n fun o => { o with safeRun := false }
  else if sub = 0x0E then outEnable s n v
  else if sub = 0x11 then safeFollow s1
  else s1

/-- An entry of cupping (3100h+n). -/
def applyCup (s : State) (n sub v : Nat) : State :=
  let s1 := s.put (key (0x3100 + n) sub) v
  if sub = 5 then (if bootPast s 5 then cupFollow s1 n else s1)
  else if sub = 8 then cupCommand s n v
  else if sub = 0x0B then freqRestart s1 n
  else if sub = 0x0F then driftRestart s1 n
  else s1

/-- Chapter 07. -/
def applySynth (s : State) (index sub v : Nat) : State :=
  let k := key index sub
  if index = 0x2630 ∧ sub = 5 then alignOne s v
  else if index = 0x2630 ∧ sub = 6 then alignGroups s v
  else if 0x3500 ≤ index ∧ index < 0x3508 then
    (if sub = 5 then (if bootPast s 5 then apllEnable s (index - 0x3500) v else s.put k v)
     else if sub = 0x12 then apllCommand s (index - 0x3500) v else s.put k v)
  else if 0x3508 ≤ index ∧ index < 0x3510 ∧ sub = 3 then rampCommand s (index - 0x3508) v
  else s.put k v

/-- DISCIPLINE of counter t. -/
def disciplinePut (s : State) (t v : Nat) : State :=
  if v = 0 then disciplineSwi s t else if v = 1 then disciplineHws s t else disciplineTied s t

/-- Chapters 08 and 09. -/
def applyTime (s : State) (index sub : Nat) (d : Datum) : State :=
  let v := d.val
  let k := key index sub
  let live := !s.boot.booting
  if index < 0x3604 then
    let t := index - 0x3600
    if sub = 6 then tcRequest s t (.set (ofTime80 v))
    else if sub = 7 then (if live then disciplinePut s t v else s.put k v)
    else if sub = 0x0F then tcRequest s t (.tamp (toI 64 v))
    else if sub = 0x10 then tcPour s t (toI 64 v)
    else if sub = 0x12 then (if v = 1 then tcPourAbort s t else s)
    else if sub = 0x13 ∨ sub = 0x14 then pulsePut s t sub v
    else if sub = 0x27 then classMode s t v
    else if sub = 0x22 then (if live then ptpEnable s t v else s.put k v)
    else s.put k v
  else if index = 0x3612 ∧ sub = 2 then rxRecord s d
  else if index = 0x3612 ∧ sub = 4 then txStamp s d
  else if index = 0x3611 ∧ sub % 16 = 1 then ethMode s (sub / 16) v
  else if index < 0x3620 then s.put k v
  else if index < 0x3624 then
    let b := index - 0x3620
    if 5 ≤ sub ∧ sub ≤ 0x14 then entryPut s (16 * b + (sub - 5)) v
    else if sub = 0x25 then armEntries s b v
    else if sub = 0x26 then disarmEntries s b v
    else s.put k v
  else
    let c := index - 0x3700
    if sub = 5 then ctxConfig s c (unreserved index sub v)
    else if sub = 6 then (if live then (if s.rd k = v then s else fabContextOn (ctxEnable s c (v == 1)) c) else s.put k v)
    else if sub = 8 then offsetIn s c v
    else if sub = 9 then (if v = 1 then ctxClearCounters s c else if v = 2 then ctxRestart s c else s)
    else s.put k v

/-- Chapter 10. -/
def applyFab (serve : Serve) (s : State) (index sub : Nat) (d : Datum) : State :=
  let v := d.val
  let k := key index sub
  let live := !s.boot.booting
  if index = 0x3800 ∧ sub = 7 then (gradeMode s v).when live elect
  else if index = 0x3800 ∧ (sub = 6 ∨ sub = 8) then (s.put k v).when live elect
  else if index = 0x3800 ∧ sub = 0x14 then (if v = 1 then rediscover s else if v = 2 then fabClear s else s)
  else if 0x3804 ≤ index ∧ index < 0x3808 then
    let p := index - 0x3804
    if sub = 1 then (if s.boot.booting then s.put k v else fabMode s p v)
    else if sub = 4 then (if s.boot.booting then s.put k v else txApllPut s p v)
    else if sub = 0x11 then (if v = 1 then fabRetrain s p else if v = 2 then portClear s p else s)
    else s.put k v
  else if 0x3808 ≤ index ∧ index < 0x380C ∧ sub = 3 then (if v = 1 then slotCommit s (index - 0x3808) else s)
  else if 0x3820 ≤ index ∧ index < 0x3824 then
    let r := index - 0x3820
    if sub = 4 then (s.put k v).setSlot r fun x => { x with len := d.len }
    else if sub = 5 then
      (if v = 1 then requestStart serve s r false else if v = 2 then requestStart serve s r true
       else if v = 3 then requestCancel s r else s)
    else s.put k (unreserved index sub v)
  else s.put k v

/-- A write of the entry index.sub takes effect (R20). -/
def applyWrite (serve : Serve) (s : State) (via : Iface) (index sub : Nat) (d : Datum) : State :=
  let v := d.val
  if histMask index ≠ 0 ∧ sub = 2 then clearHistory s index v
  else if histMask index ≠ 0 ∧ (sub = 3 ∨ sub = 4) then s.put (key index sub) (unreserved index sub v)
  else if index < 0x2200 then applyHost s via index sub d
  else if index < 0x2300 then applyCol s index sub v
  else if index < 0x2600 then applySystem s index sub d
  else if index < 0x2630 then applyMeasure s index sub v
  else if index < 0x3000 then applySynth s index sub v
  else if index < 0x3100 then applyChan s (index - 0x3000) sub v
  else if index < 0x3200 then applyCup s (index - 0x3100) sub v
  else if index < 0x3500 then applyMeasure s index sub v
  else if index < 0x3600 then applySynth s index sub v
  else if index < 0x3800 then applyTime s index sub d
  else applyFab serve s index sub d

end Sys2Proof.Machine
end

