-- ==== Sys2Proof/Machine/Host.lean ====
section
/-! DEFINITION. Accesses by the host: acceptance, journalling and posting of a write, its taking effect, the parallel bus, SPI and the
stream objects, and remote accesses (R20 to R26, R54 to R67, R81). -/

namespace Sys2Proof.Machine

/-! Acceptance. -/

/-- The value of an entry before a write, as the journal keeps it: 0 for a wo entry (R82). DESIGN CHOICE: the value in effect, whatever
waits among the posted writes (log entry 88). -/
def oldDatum (s : State) (via : Iface) (index sub : Nat) : Datum :=
  match findRow index sub with
  | none => {}
  | some r => match r.acc with
    | .wo => {}
    | _ => (readBase s via index sub).2.1

/-- The value after a write: what is left of a w1c entry, the value without its reserved bits elsewhere (R50, R82). -/
def newDatum (s : State) (index sub : Nat) (d : Datum) : Datum :=
  match findRow index sub with
  | none => d
  | some r => match r.acc with
    | .w1c => ⟨d.len, clearBits (entryValue s index sub) d.val⟩
    | _ => ⟨d.len, unreserved index sub d.val⟩

/-- A refused write: recorded, and counted for a virtual-port record (R60, R62, R74, R265). -/
def refuseWrite (s : State) (via : Iface) (index sub code : Nat) : Nat × State :=
  (code, (noteError s via index sub code).when (index == 0x3612 && sub == 2 && code == 0x06090030) fun s => s.inc 32 (key 0x3612 6) 1)

/-- A write is refused, or accepted and journalled (R15, R82, R489). -/
def hostAccept (s : State) (via : Iface) (index sub : Nat) (d : Datum) : Nat × State :=
  let r := writeRefuse s via index sub d
  if r.1 ≠ 0 then refuseWrite r.2 via index sub r.1
  else (0, journalWrite r.2 via index sub (oldDatum s via index sub) (newDatum s index sub d))

/-- The number of the journal record that an accepted write has opened, 0 when it folded into a staged one (R83, R387). -/
def ticketOf (before after : State) : Nat :=
  if after.nv.journal.opened = before.nv.journal.opened then 0 else after.nv.journal.opened

/-- An accepted write waits for its target (R20). -/
def postWrite (s : State) (p : Posted) : State := s.setHost fun h => { h with posted := h.posted ++ [p] }

/-- A write is refused, or accepted, journalled and posted. -/
def acceptPost (s : State) (via : Iface) (index sub : Nat) (d : Datum) : Nat × State :=
  let r := hostAccept s via index sub d
  if r.1 ≠ 0 then r else (0, postWrite r.2 { via := via, index := index, sub := sub, d := d, ticket := ticketOf s r.2 })

/-! Writes of the stream objects' DATA (R65 to R67). -/

/-- Is an entry one that takes each 512-byte block as it comes (R385)? Elsewhere the target takes the blocks together at the last. -/
def blockwise (index : Nat) : Bool := index == 0x1F50

/-- The 512-byte blocks of a longer DOMAIN that the bytes from POSITION `was` to `now_` have completed, but for the last of `len` bytes, are
posted in order (R66): the code of a refusal, and the state. -/
def streamParts (s : State) (via : Iface) (index sub : Nat) (all : Datum) (was now_ len : Nat) : Nat × State :=
  ((List.range (now_ / 512)).filter fun k => decide (was < 512 * (k + 1)) && decide (512 * (k + 1) < len)).foldl (fun r k =>
    if r.1 ≠ 0 then r
    else
      let d : Datum := ⟨512, bytesAt all.val (512 * k) 512⟩
      let c := if blockwise index then writeRefuse r.2 via index sub d else (0, r.2)
      if c.1 ≠ 0 then refuseWrite c.2 via index sub c.1
      else (0, postWrite c.2 { via := via, index := index, sub := sub, d := d, part := true })) (0, s)

/-- The bytes collected are posted as one write, journalled once (R66); a refusal fails the stream. -/
def streamPost (s : State) (via : Iface) (i index sub : Nat) (all : Datum) : State :=
  let off := if blockwise index then (all.len - 1) / 512 * 512 else 0
  let last : Datum := ⟨all.len - off, bytesAt all.val off (all.len - off)⟩
  let r := writeRefuse s via index sub last
  if r.1 ≠ 0 then (refuseWrite r.2 via index sub r.1).2.setStream i fun x => { x with state := 4 }
  else
    let s1 := journalWrite r.2 via index sub (oldDatum s via index sub) (newDatum s index sub all)
    (postWrite s1 { via := via, index := index, sub := sub, d := last, ticket := ticketOf s s1 }).setStream i fun x =>
      { x with state := 3, wasRead := false }

/-- A write of DATA: the bytes are collected, blocks of a longer DOMAIN are posted as they fill, and at LENGTH the rest is (R66). -/
def streamWrite (s : State) (via : Iface) (i : Nat) (d : Datum) : Nat × State :=
  let index := streamIndex i
  let x := s.streamAt i
  if openRefuse s index 3 ≠ 0 then refuseWrite s via index 3 (openRefuse s index 3)
  else if x.state ≠ 2 then refuseWrite s via index 3 0x08000021
  else
    let len := streamLength s i
    let n := min d.len (len - x.position)
    let block : Datum := ⟨x.block.len + n, x.block.val + d.val % 2 ^ (8 * n) * 2 ^ (8 * x.block.len)⟩
    let t := streamTarget s i
    let s1 := s.setStream i fun x => { x with position := x.position + n, block := block }
    let r := streamParts s1 via t.1 t.2 block x.position (x.position + n) len
    if r.1 ≠ 0 then (0, r.2.setStream i fun x => { x with state := 4 })
    else if x.position + n < len then (0, r.2)
    else (0, streamPost r.2 via i t.1 t.2 block)

/-- A write of any entry: refused, or accepted and posted; a stream object's DATA is collected. -/
def hostPost (s : State) (via : Iface) (index sub : Nat) (d : Datum) : Nat × State :=
  match streamData index sub with
  | some i => streamWrite s via i d
  | none => acceptPost s via index sub d

/-- How this device serves an access from the fabric or from itself (R81, R322): the limit of R26 is kept by the requests that wait. -/
def serveRemote : Serve := fun s src wr index sub d =>
  if wr then let r := hostPost s (.fabric src) index sub d; (r.1, {}, r.2) else readEntry s (.fabric src) index sub

/-! Writes held back (R26, R64). -/

/-- Steps 1 to 4 of R489 for a write as an interface brings it; a stream object's DATA takes any number of bytes (R65). -/
def frameRefuse (index sub : Nat) (d : Datum) : Nat := if (streamData index sub).isSome then 0 else stepsRefuse index sub d

/-- Does the limit of R26 hold back a further write of an interface, or one that came before it? -/
def heldBack (s : State) (via : Iface) : Bool :=
  decide (1024 ≤ pendingCount s (ifaceClass via)) || s.host.stalled.any fun x => ifaceClass x.write.via == ifaceClass via

/-- A write by an interface: refused or accepted at once, with the code, or held back by the limit of 1024 pending writes (R26, R64). The
steps that the hub judges from the object tables come first (R489, log entry 87). -/
def hostWrite (s : State) (via : Iface) (reply : Reply) (index sub : Nat) (d : Datum) : Option Nat × State :=
  let c := frameRefuse index sub d
  let w : Posted := { via := via, index := index, sub := sub, d := d }
  let now_ := fun (r : Nat × State) => (some r.1, r.2)
  if c ≠ 0 then now_ (refuseWrite s via index sub c)
  else if via = .spi then
    (if s.host.holding.isSome then now_ (refuseWrite s via index sub 0x08000022)
     else if 1024 ≤ pendingCount s 1 then (none, s.setHost fun h => { h with holding := some w })
     else now_ (hostPost s via index sub d))
  else if heldBack s via then (none, s.setHost fun h => { h with stalled := h.stalled ++ [⟨w, reply⟩] })
  else now_ (hostPost s via index sub d)

/-- Take the first item that fits out of a list. -/
def takeFirst {α : Type} (f : α → Bool) : List α → Option (α × List α)
  | [] => none
  | p :: r => if f p then some (p, r) else match takeFirst f r with | some (q, l) => some (q, p :: l) | none => none

/-- A write that was held back is accepted, or refused, and its sender is answered (R26). -/
def acceptHeld (s : State) (x : Stalled) : State :=
  let w := x.write
  let r := hostPost s w.via w.index w.sub w.d
  match x.reply with
  | .silent => r.2
  | .answer => r.2.send (.answer w.via w.index w.sub r.1 {})
  | .sdo usdo => (r.2.setCan fun c => { c with sdo := c.sdo.set (b2n usdo) none }).send (.answer w.via w.index w.sub r.1 {})

/-- Writes held back are accepted while there is room, oldest first. -/
def refillStalled (s : State) : Nat → State
  | 0 => s
  | n + 1 =>
    match takeFirst (fun x => decide (pendingCount s (ifaceClass x.write.via) < 1024)) s.host.stalled with
    | some (x, l) => refillStalled (acceptHeld (s.setHost fun h => { h with stalled := l }) x) n
    | none => s

/-- The SPI holding register's frame enters the pending count when there is room (R64). -/
def refillHolding (s : State) : State :=
  match s.host.holding with
  | some p =>
    if pendingCount s 1 < 1024 then (hostPost (s.setHost fun h => { h with holding := none }) p.via p.index p.sub p.d).2 else s
  | none => s

/-- A pending write has taken effect: what its interface held back comes in (R26, R64, R81). -/
def refill (s : State) : State :=
  let s1 := refillHolding s
  odResume serveRemote (refillStalled s1 s1.host.stalled.length)

/-! Taking effect (R20, R21, R23, R26). -/

/-- A posted write acts; of a DOMAIN that comes in blocks only the last one acts, but for a download (R66). -/
def postedActs (s : State) (p : Posted) : State :=
  if p.part && !blockwise p.index then s else applyWrite serveRemote s p.via p.index p.sub p.d

/-- Does a write posted earlier, by whichever interface, wait for the same island with the same object (R23)? -/
def behindOther (s : State) (p : Posted) : Bool :=
  (s.host.posted.takeWhile fun q => q != p).any fun q => q.index == p.index && islandOf q.index q.sub == islandOf p.index p.sub

/-- Can the oldest of its interface and island take effect: its die can be reached, its record is staged, and no other interface's write of
the object is before it (R23, R25, R387)? -/
def postedReady (s : State) (p : Posted) : Bool :=
  dieReachable s (dieOf p.index p.sub) && recordStaged s p.ticket && !behindOther s p

/-- The oldest posted write that fits takes effect if it can. One for S or a C die crosses the link first (R27, R493). -/
def takeEffect (s : State) (f : Posted → Bool) : State :=
  match takeFirst f s.host.posted with
  | some (p, l) =>
    if postedReady s p then
      carriedTo s (dieOf p.index p.sub) (transferWords (key p.index p.sub) p.d) fun s =>
        refill (postedActs (s.setHost fun h => { h with posted := l }) p)
    else s
  | none => s

/-- WRITE_TAKES_EFFECT: the oldest write of an interface to an island. -/
def effectOf (s : State) (via : Iface) (isl : Nat) : State :=
  takeEffect s fun p => ifaceClass p.via == ifaceClass via && islandOf p.index p.sub == isl

/-- Every write to an island that waits takes effect, oldest first, whichever interface posted it (R23). -/
def flushIsland (s : State) (isl : Nat) : Nat → State
  | 0 => s
  | n + 1 => flushIsland (takeEffect s fun p => islandOf p.index p.sub == isl) isl n

/-- How many writes wait, with those held back. -/
def waitingWrites (s : State) : Nat := s.host.posted.length + s.host.stalled.length + b2n s.host.holding.isSome

/-- All that waits for an island takes effect. -/
def settleIsland (s : State) (isl : Nat) : State := flushIsland s isl (waitingWrites s)

/-- A write that is accepted and takes effect, after every earlier one to the same island (R20, R23): the commands that have rows of their
own. It goes on waiting where it cannot take effect yet. -/
def writeNow (s : State) (via : Iface) (index sub : Nat) (d : Datum) : State :=
  let r := hostWrite s via .silent index sub d
  match r.1 with
  | some 0 => settleIsland r.2 (islandOf index sub)
  | some _ => r.2
  | none => settleIsland r.2 (islandOf index sub)

/-! The parallel bus (R54, R57 to R61). -/

/-- Is the parallel bus held up by a write cycle that has not completed (R26)? -/
def busHeld (s : State) : Bool := s.host.stalled.any fun x => x.write.via == .parallel

/-- Can a bus be used: MODE0 the parallel bus, MODE1 SPI (R54), and no write cycle of it waits? -/
def busOn (s : State) (i : Nat) : Bool := !s.boot.inReset && bit s.host.mode i && !(i == 0 && busHeld s)

/-- The bytes that the halves of an entry make up: 1 or 2 for half 0 alone, 3 or 4 for both, none for an entry that the halves do not
reach (R51). -/
def halfBytes (index sub : Nat) : Option Nat :=
  match findRow index sub with
  | some r => match r.len with
    | .fix n => if n ≤ 4 then some n else none
    | .span _ _ => none
  | none => none

/-- A refused read on the parallel bus. -/
def busRefuse (s : State) (index sub code : Nat) : State := (noteError s .parallel index sub code).send (.bus 0xFFFF)

/-- A stream object acts behind the writes of its interface to the host port, its own TARGET and LENGTH among them (R21). -/
def streamSettled (s : State) (index sub : Nat) : State := if streamSelf index sub then settleIsland s (islandOf index sub) else s

/-- A write over one of the buses; a stream object's DATA and COMMAND act at once. -/
def busPut (s : State) (via : Iface) (index sub : Nat) (d : Datum) : Option Nat × State :=
  let r := hostWrite (streamSettled s index sub) via .silent index sub d
  (r.1, streamSettled r.2 index sub)

/-- A read of the half of an entry (R57, R59). -/
def busRead (s0 : State) (index sub : Nat) (high : Bool) : State :=
  let s := streamSettled s0 index sub
  if busOn s 0 = false then s
  else match halfBytes index sub with
    | none => busRefuse s index sub (if allocRefuse index sub ≠ 0 then allocRefuse index sub else 0x06070010)
    | some n =>
      let k := key index sub
      match s.host.readLatch with
      | some (k', v, _) =>
        if high ∧ 2 < n ∧ k' = k then s.send (.bus (v / 65536 % 65536)) else busFresh s index sub high n
      | none => busFresh s index sub high n
where
  /-- A read that captures. -/
  busFresh (s : State) (index sub : Nat) (high : Bool) (n : Nat) : State :=
    if high ∧ n ≤ 2 then
      (if openRefuse s index sub ≠ 0 then busRefuse s index sub (openRefuse s index sub) else s.send (.bus 0))
    else
      let r := readEntry s .parallel index sub
      if r.1 ≠ 0 then busRefuse r.2.2 index sub r.1
      else
        let v := r.2.1.val
        let t : State := if n ≤ 2 then r.2.2 else r.2.2.setHost fun h => { h with readLatch := some (key index sub, v, 0) }
        t.send (.bus (if high then v / 65536 % 65536 else v % 65536))

/-- A half 0 that is held is discarded by a write to another address (R58). -/
def dropHeld (s : State) (k : Nat) : State :=
  match s.host.writeLatch with
  | some (k', _, _) =>
    if k' = k then s
    else noteError (s.setHost fun h => { h with writeLatch := none }) .parallel (k' / 256) (k' % 256) 0x06070010
  | none => s

/-- A write that the halves cannot make: the code of the first rule broken. -/
def halfRefuse (index sub : Nat) : Nat :=
  match findRow index sub with
  | none => allocRefuse index sub
  | some r => if accRefuse r ≠ 0 then accRefuse r else 0x06070010

/-- A write to half 0 (R58, R59). -/
def busWriteLow (s : State) (index sub hd : Nat) : State :=
  if busOn s 0 = false then s
  else
    let k := key index sub
    let s1 := dropHeld s k
    match halfBytes index sub with
    | none => (refuseWrite s1 .parallel index sub (halfRefuse index sub)).2
    | some n =>
      if n ≤ 2 then (busPut s1 .parallel index sub ⟨n, hd % 2 ^ (8 * n)⟩).2
      else s1.setHost fun h => { h with writeLatch := some (k, hd % 65536, 0) }

/-- A write to half 1 (R58, R59). -/
def busWriteHigh (s : State) (index sub hd : Nat) : State :=
  if busOn s 0 = false then s
  else
    let k := key index sub
    let s1 := dropHeld s k
    match halfBytes index sub, s1.host.writeLatch with
    | some n, some (_, low, _) =>
      if n ≤ 2 then (refuseWrite s1 .parallel index sub (halfRefuse index sub)).2
      else
        (busPut (s1.setHost fun h => { h with writeLatch := none }) .parallel index sub
          ⟨n, (low + hd % 65536 * 65536) % 2 ^ (8 * n)⟩).2
    | _, _ => (refuseWrite s1 .parallel index sub (halfRefuse index sub)).2

/-! SPI (R62 to R64). -/

/-- The bytes on SPI_MISO: the status byte, zeros to the end of byte 4, and the data. -/
def misoBytes (status : Nat) (data : List Nat) : List Nat := [status, 0, 0, 0, 0] ++ data

/-- A READ frame with `n` data bytes. -/
def spiRead (s0 : State) (index sub n : Nat) : State :=
  let s := streamSettled s0 index sub
  if busOn s 1 = false then s
  else
    let r := match streamData index sub with
      | some i => if openRefuse s index sub ≠ 0 then (openRefuse s index sub, ({} : Datum), s) else streamRead s i n
      | none => readBase s .spi index sub
    let code := if r.1 = 0 ∧ 512 < r.2.1.len then 0x06070010 else r.1
    if code ≠ 0 then (noteError r.2.2 .spi index sub code).send (.spi (misoBytes (spiStatus s) (List.replicate n 0)))
    else r.2.2.send (.spi (misoBytes (spiStatus s) ((List.range n).map fun i => if i < r.2.1.len then byteAt r.2.1.val i else 0)))

/-- A WRITE frame. -/
def spiWrite (s : State) (index sub : Nat) (d : Datum) : State :=
  if busOn s 1 = false then s
  else (busPut s .spi index sub d).2.send (.spi ([spiStatus s, 0, 0, 0] ++ List.replicate d.len 0))

/-- A STATUS frame of `n` bytes. -/
def spiStatusFrame (s : State) (n : Nat) : State :=
  if busOn s 1 = false then s else s.send (.spi (List.replicate n (spiStatus s)))

/-- A frame that is discarded. -/
def spiInvalid (s : State) (index sub : Nat) : State :=
  if busOn s 1 = false then s else (noteError s .spi index sub 0x05040001).send (.spi [spiStatus s])

/-! The stream objects as their own interface drives them. -/

def streamOn (s : State) (spi : Bool) : Bool := busOn s (b2n spi)
def streamVia (spi : Bool) : Iface := if spi then .spi else .parallel

/-- A COMMAND. -/
def streamDo (s : State) (spi : Bool) (v : Nat) : State :=
  if streamOn s spi then (busPut s (streamVia spi) (0x2102 + b2n spi) 5 ⟨1, v⟩).2 else s

/-- A read of DATA: two bytes on the parallel bus, `n` in an SPI frame. -/
def streamGet (s : State) (spi : Bool) (n : Nat) : State :=
  if spi then spiRead s 0x2103 3 n else busRead s 0x2102 3 false

/-- A write of DATA: two bytes on the parallel bus, any number in an SPI frame. -/
def streamPut (s : State) (spi : Bool) (d : Datum) : State :=
  if spi then spiWrite s 0x2103 3 d else busWriteLow s 0x2102 3 d.val

/-! Reads by an interface as a whole. -/

/-- A read whose answer goes to the interface that asks. -/
def answerRead (s : State) (via : Iface) (index sub : Nat) : State :=
  let r := readEntry s via index sub
  if r.1 ≠ 0 then (noteError r.2.2 via index sub r.1).send (.answer via index sub r.1 {})
  else r.2.2.send (.answer via index sub 0 r.2.1)

end Sys2Proof.Machine
end

