-- ==== Sys2Proof/Machine/Can.lean ====
section
/-! DEFINITION. The CANopen node: NMT, LSS, SDO and USDO transfers, PDOs, EMCY and heartbeat (R69 to R79). What CiA 301, 302, 305 and
1301 fix and the spec does not restate is PRESUMED (log entry 64). -/

namespace Sys2Proof.Machine

/-- The controller is on the bus. -/
def canOn (s : State) : Bool := s.can.joined && !s.can.busOff && !s.boot.inReset

/-- The node has a node-ID. -/
def nodeOk (s : State) : Bool := canOn s && s.can.node != 0xFF

/-! NMT (R69, R71). -/

/-- The NMT state as a heartbeat carries it. -/
def nmtCode (n : Nat) : Nat := if n = 0 then 4 else if n = 1 then 127 else if n = 2 then 5 else 0

/-- The boot-up message. -/
def bootUp (s : State) : State := if s.can.node = 0xFF then s else s.send (.can (0x700 + s.can.node) ⟨1, 0⟩)

/-- Reset Communication: the CANopen node starts again with the settings of 2104h and the node-ID that LSS has given. Nothing else
in the device is touched. -/
def resetCommunication (s : State) : State :=
  let node := match s.can.pendingNode with | some n => n | none => s.can.node
  let c := { s.can with
    node := node
    source := if node = 0xFF then 2 else if s.can.pendingNode.isSome then 1 else s.can.source
    nmt := if node = 0xFF then 3 else 1
    fd := s.rd (key 0x2104 5) == 1
    nominal := s.rd (key 0x2104 3)
    data := s.rd (key 0x2104 4)
    lss := false
    sdo := [none, none]
    tpdos := List.replicate 8 {} }
  bootUp ((s.setCan fun _ => c).setHost fun h => { h with stalled := h.stalled.filter fun x => x.reply != .sdo false && x.reply != .sdo true })

/-- Is an NMT command for this node: node-ID 0 or its own, once it has left INITIALISING? -/
def nmtMine (s : State) (node : Nat) : Bool := nodeOk s && s.can.nmt != 3 && (node == 0 || node == s.can.node)

def nmtGo (s : State) (node st : Nat) : State := if nmtMine s node then s.setCan fun c => { c with nmt := st } else s

def nmtResetComm (s : State) (node : Nat) : State := if nmtMine s node then resetCommunication s else s

/-- Reset Node, by NMT_RESET_ACTION. -/
def nmtResetNode (s : State) (node : Nat) : State :=
  if nmtMine s node then
    (if s.rd (key 0x2104 6) = 1 then s.resetDue (some 4) else resetCommunication s)
  else s

/-! LSS (R70). -/

/-- An LSS answer: command specifier and bytes. -/
def lssSend (s : State) (cs v : Nat) : State := s.send (.can 0x7E4 ⟨8, cs + v * 256⟩)

/-- The four numbers of the identity. -/
def identityOf (s : State) (i : Nat) : Nat := entryValue s 0x1018 i

/-- A configuration that an LSS service gives is journalled with interface CAN_LSS. -/
def lssJournal (s : State) (sub old new : Nat) : State := journalWrite s .canLss 0x2104 sub ⟨1, old⟩ ⟨1, new⟩

def lssGlobal (s : State) (conf : Bool) : State :=
  if canOn s = false then s
  else
    let s1 := s.setCan fun c => { c with lss := conf }
    let given := match s.can.pendingNode with | some n => n != 0xFF | none => false
    if conf = false ∧ s.can.node = 0xFF ∧ given = true then resetCommunication s1
    else s1

def lssSelective (s : State) (vendor product revision serial : Nat) : State :=
  if canOn s ∧ vendor = identityOf s 1 ∧ product = identityOf s 2 ∧ revision = identityOf s 3 ∧ serial = identityOf s 4 then
    lssSend (s.setCan fun c => { c with lss := true }) 0x44 0
  else s

def lssNode (s : State) (node : Nat) : State :=
  if canOn s = false ∨ s.can.lss = false then s
  else if (1 ≤ node ∧ node ≤ 127) ∨ node = 0xFF then
    lssSend (lssJournal (s.setCan fun c => { c with pendingNode := some node }) 1 s.can.node node) 0x11 0
  else lssSend s 0x11 1

/-- Bit timing: the standard table, with the rates of 2104h.03. -/
def lssTiming (s : State) (selector rate : Nat) : State :=
  if canOn s = false ∨ s.can.lss = false then s
  else if selector = 0 ∧ rate ≤ 4 then
    lssSend (lssJournal (s.setCan fun c => { c with pendingTiming := some (selector, rate) }) 3 s.can.nominal (4 - rate)) 0x13 0
  else lssSend s 0x13 1

def lssActivate (s : State) (_delay : Nat) : State :=
  if canOn s = false ∨ s.can.lss = false then s
  else match s.can.pendingTiming with
    | some (_, rate) => s.setCan fun c => { c with nominal := 4 - rate }
    | none => s

def lssStore (s : State) : State :=
  if canOn s = false ∨ s.can.lss = false then s
  else
    let node := match s.can.pendingNode with | some n => some n | none => if s.can.node = 0xFF then none else some s.can.node
    let s1 := s.devSet fun d => { d with lssNode := node, lssTiming := if s.can.pendingTiming.isSome then s.can.pendingTiming else d.lssTiming }
    lssSend (requestStore s1) 0x17 0

/-- Inquire: vendor, product, revision, serial number by 0x5A to 0x5D, node-ID by 0x5E. -/
def lssInquire (s : State) (what : Nat) : State :=
  if canOn s = false ∨ s.can.lss = false then s
  else if 0x5A ≤ what ∧ what ≤ 0x5D then lssSend s what (identityOf s (what - 0x59))
  else if what = 0x5E then lssSend s what s.can.node
  else s

def lssIdentify (s : State) (vendor product revLo revHi serLo serHi : Nat) : State :=
  let rev := identityOf s 3
  let ser := identityOf s 4
  if canOn s ∧ vendor = identityOf s 1 ∧ product = identityOf s 2 ∧ revLo ≤ rev ∧ rev ≤ revHi ∧ serLo ≤ ser ∧ ser ≤ serHi then
    lssSend s 0x4F 0
  else s

def lssIdentifyNone (s : State) : State := if canOn s ∧ s.can.node = 0xFF then lssSend s 0x50 0 else s

/-! SDO and USDO (R74, R75). -/

def chanOf (usdo : Bool) : Nat := b2n usdo
def sdoVia (usdo : Bool) : Iface := if usdo then .canUsdo else .canSdo
def State.sdoAt (s : State) (usdo : Bool) : Option Transfer := (s.can.sdo.getD (chanOf usdo) none)
def State.setSdo (s : State) (usdo : Bool) (t : Option Transfer) : State :=
  s.setCan fun c => { c with sdo := c.sdo.set (chanOf usdo) t }

/-- Does the server answer: PRE_OPERATIONAL, OPERATIONAL, or under the loader (R463)? -/
def sdoOn (s : State) : Bool := nodeOk s && (s.can.nmt == 1 || s.can.nmt == 2 || s.boot.loader)

/-- A transfer is over; a write of it that is held back is not made (R26, R75). -/
def sdoOver (s : State) (usdo : Bool) : State :=
  (s.setSdo usdo none).setHost fun h => { h with stalled := h.stalled.filter fun x => x.reply != .sdo usdo }

/-- An abort: sent, recorded, and the transfer over (R74). -/
def sdoAbort (s : State) (usdo : Bool) (index sub code : Nat) : State :=
  (sdoOver (noteError s (sdoVia usdo) index sub code) usdo).send (.answer (sdoVia usdo) index sub code {})

/-- An answer without an abort. -/
def sdoOk (s : State) (usdo : Bool) (index sub : Nat) (d : Datum) : State := s.send (.answer (sdoVia usdo) index sub 0 d)

/-- The value of a download has come whole: it is written; the response waits with a write that is held back (R26). -/
def sdoWrite (s : State) (usdo : Bool) (index sub : Nat) (d : Datum) : State :=
  let r := hostWrite s (sdoVia usdo) (.sdo usdo) index sub d
  match r.1 with
  | some code => (r.2.setSdo usdo none).send (.answer (sdoVia usdo) index sub code {})
  | none => r.2.setSdo usdo (some { index := index, sub := sub, ended := true, held := true })

/-- What stops a request before anything is looked up: the channel is busy, or a USDO in CLASSIC format. -/
def sdoBusy (s : State) (usdo : Bool) (index sub : Nat) : Option State :=
  match s.sdoAt usdo with
  | some t => some (sdoAbort s usdo t.index t.sub 0x05040001)
  | none => if usdo ∧ s.can.fd = false then some (sdoAbort s usdo index sub 0x05040001) else none

/-- What stops a download at its start: allocation, access, the announced length, the device's states (R489). -/
def sdoStartRefuse (s : State) (index sub size : Nat) : Nat :=
  match findRow index sub with
  | none => allocRefuse index sub
  | some r =>
    if accRefuse r ≠ 0 then accRefuse r
    else if size ≠ 0 ∧ lenRefuse r size ≠ 0 then lenRefuse r size
    else openRefuse s index sub

/-- Blocks of a download that the server asks for. -/
abbrev sdoBlock : Nat := 127

def sdoDownload (s : State) (usdo : Bool) (index sub : Nat) (x : Xfer) : State :=
  if sdoOn s = false then s
  else match sdoBusy s usdo index sub with
    | some t => t
    | none =>
      match x with
      | .whole d => sdoWrite s usdo index sub d
      | .segmented size =>
        if sdoStartRefuse s index sub size ≠ 0 then sdoAbort s usdo index sub (sdoStartRefuse s index sub size)
        else sdoOk (s.setSdo usdo (some { index := index, sub := sub, size := size })) usdo index sub {}
      | .block size crc =>
        if sdoStartRefuse s index sub size ≠ 0 then sdoAbort s usdo index sub (sdoStartRefuse s index sub size)
        else sdoOk (s.setSdo usdo (some { index := index, sub := sub, size := size, block := some sdoBlock, crc := crc })) usdo index sub ⟨1, sdoBlock⟩

def sdoUpload (s : State) (usdo : Bool) (index sub : Nat) (block : Option Nat) : State :=
  if sdoOn s = false then s
  else match sdoBusy s usdo index sub with
    | some t => t
    | none =>
      if (match block with | some n => decide (n < 1 ∨ 127 < n) | none => false) then sdoAbort s usdo index sub 0x05040002
      else
        let r := readEntry s (sdoVia usdo) index sub
        if r.1 ≠ 0 then sdoAbort r.2.2 usdo index sub r.1
        else if block = none ∧ r.2.1.len ≤ 4 then sdoOk r.2.2 usdo index sub r.2.1
        else
          sdoOk (r.2.2.setSdo usdo (some { index := index, sub := sub, upload := true, block := block, size := r.2.1.len, data := r.2.1 }))
            usdo index sub ⟨4, r.2.1.len⟩

/-- Bytes behind those collected. -/
def appendDatum (a b : Datum) : Datum := ⟨a.len + b.len, a.val + b.val % 2 ^ (8 * b.len) * 2 ^ (8 * a.len)⟩

/-- A download's bytes are complete: the announced length, then the write. -/
def sdoFinish (s : State) (usdo : Bool) (t : Transfer) (d : Datum) : State :=
  if t.size ≠ 0 ∧ t.size < d.len then sdoAbort s usdo t.index t.sub 0x06070012
  else if t.size ≠ 0 ∧ d.len < t.size then sdoAbort s usdo t.index t.sub 0x06070013
  else sdoWrite s usdo t.index t.sub d

/-- Bytes in a segment of an upload: 7 in an SDO, 60 in a USDO. -/
def segBytes (usdo : Bool) : Nat := if usdo then 60 else 7

/-- A download segment. -/
def segDown (s : State) (usdo : Bool) (t : Transfer) (toggle : Bool) (d : Datum) (last : Bool) : State :=
  if t.upload ∨ t.block.isSome then sdoAbort s usdo t.index t.sub 0x05040001
  else if toggle ≠ t.toggle then sdoAbort s usdo t.index t.sub 0x05030000
  else
    let all := appendDatum t.data d
    if last then sdoFinish s usdo t all
    else if t.size ≠ 0 ∧ t.size < all.len then sdoAbort s usdo t.index t.sub 0x06070012
    else sdoOk (s.setSdo usdo (some { t with data := all, toggle := !t.toggle })) usdo t.index t.sub {}

/-- An upload segment is asked for. -/
def segUp (s : State) (usdo : Bool) (t : Transfer) (toggle : Bool) : State :=
  if t.upload = false ∨ t.block.isSome then sdoAbort s usdo t.index t.sub 0x05040001
  else if toggle ≠ t.toggle then sdoAbort s usdo t.index t.sub 0x05030000
  else
    let n := min (segBytes usdo) (t.data.len - t.sent)
    let next := { t with sent := t.sent + n, toggle := !t.toggle }
    sdoOk (s.setSdo usdo (if t.sent + n = t.data.len then none else some next)) usdo t.index t.sub ⟨n, bytesAt t.data.val t.sent n⟩

/-- A sub-frame of a download block: taken in sequence; at the block's end the server confirms what it has (R74). -/
def segSub (s : State) (usdo : Bool) (t : Transfer) (seqno : Nat) (d : Datum) (last : Bool) : State :=
  match t.upload, t.block with
  | false, some bs =>
    if seqno = 0 ∨ bs < seqno then sdoAbort s usdo t.index t.sub 0x05040003
    else
      let u := if seqno = t.seqno ∧ t.ended = false then { t with data := appendDatum t.data d, seqno := t.seqno + 1, ended := last } else t
      if seqno = bs ∨ last then
        sdoOk (s.setSdo usdo (some { u with seqno := 1 })) usdo t.index t.sub ⟨2, u.seqno - 1 + sdoBlock * 256⟩
      else s.setSdo usdo (some u)
  | _, _ => sdoAbort s usdo t.index t.sub 0x05040001

/-- The end of a block transfer: of a download with `pad` bytes of the last sub-frame unused and the CRC judged, of an upload its
confirmation. -/
def segEnd (s : State) (usdo : Bool) (t : Transfer) (crcOk : Bool) (pad : Nat) : State :=
  match t.upload, t.block with
  | true, some _ => if t.ended then s.setSdo usdo none else sdoAbort s usdo t.index t.sub 0x05040001
  | false, some _ =>
    if t.ended = false then sdoAbort s usdo t.index t.sub 0x05040001
    else if t.crc ∧ crcOk = false then sdoAbort s usdo t.index t.sub 0x05040004
    else
      let n := t.data.len - pad
      sdoFinish s usdo t ⟨n, t.data.val % 2 ^ (8 * n)⟩
  | _, none => sdoAbort s usdo t.index t.sub 0x05040001

/-- The client confirms an upload block up to `ackseq`, or starts the upload with 0, and asks for blocks of `blksize`. -/
def segAck (s : State) (usdo : Bool) (t : Transfer) (ackseq blksize : Nat) : State :=
  match t.upload, t.block with
  | true, some _ =>
    if blksize < 1 ∨ 127 < blksize then sdoAbort s usdo t.index t.sub 0x05040002
    else if t.seqno - 1 < ackseq then sdoAbort s usdo t.index t.sub 0x05040003
    else
      let sent := min t.data.len (t.sent + segBytes usdo * ackseq)
      let n := min (segBytes usdo * blksize) (t.data.len - sent)
      let u := { t with sent := sent, block := some blksize, seqno := (n + segBytes usdo - 1) / segBytes usdo + 1, ended := n == 0 }
      sdoOk (s.setSdo usdo (some u)) usdo t.index t.sub ⟨n, bytesAt t.data.val sent n⟩
  | _, _ => sdoAbort s usdo t.index t.sub 0x05040001

/-- SDO_SEGMENT. -/
def sdoSegment (s : State) (usdo : Bool) (seg : Seg) : State :=
  if sdoOn s = false then s
  else match s.sdoAt usdo, seg with
    | none, .abort => s
    | none, _ => sdoAbort s usdo 0 0 0x05040001
    | some _, .abort => sdoOver s usdo
    | some t, .bad => sdoAbort s usdo t.index t.sub 0x05040001
    | some t, .down toggle d last => segDown s usdo t toggle d last
    | some t, .up toggle => segUp s usdo t toggle
    | some t, .sub seqno d last => segSub s usdo t seqno d last
    | some t, .blockEnd crcOk pad => segEnd s usdo t crcOk pad
    | some t, .ackBlock ackseq blksize => segAck s usdo t ackseq blksize

/-- SDO_TIMEOUT. -/
def sdoTimeout (s : State) (usdo : Bool) : State :=
  match s.sdoAt usdo with
  | some t => if t.held then s else sdoAbort s usdo t.index t.sub 0x05040000
  | none => s

/-! PDOs (R76 to R78). -/

/-- The entries that a mapping names: index, subindex, bytes. -/
def mapping (s : State) (index : Nat) : List (Nat × Nat × Nat) :=
  (List.range (s.rd (key index 0))).map fun i =>
    let w := s.rd (key index (i + 1))
    (w / 2 ^ 16, w / 2 ^ 8 % 2 ^ 8, w % 2 ^ 8 / 8)

/-- The values of a TPDO's entries, taken at one instant. -/
def tpdoValue (s : State) (p : Nat) : Datum :=
  (mapping s (0x1A00 + p)).foldl (fun a e => appendDatum a ⟨e.2.2, (readBase s .canSdo e.1 e.2.1).2.1.val % 2 ^ (8 * e.2.2)⟩) {}

/-- Is a PDO in use: valid, and the node OPERATIONAL? -/
def pdoOn (s : State) (index : Nat) : Bool := nodeOk s && s.can.nmt == 2 && decide (s.rd (key index 1) < 2 ^ 31)
def tpdoType (s : State) (p : Nat) : Nat := s.rd (key (0x1800 + p) 2)
def State.tpdoAt (s : State) (p : Nat) : Tpdo := s.can.tpdos.getD p {}
def State.setTpdo (s : State) (p : Nat) (f : Tpdo → Tpdo) : State := s.setCan fun c => { c with tpdos := upd c.tpdos p f }

/-- A TPDO goes out. -/
def tpdoSend (s : State) (p : Nat) (d : Datum) : State :=
  (s.setTpdo p fun x => { x with queued := none, last := d, lastAt := some s.now }).send (.can (s.rd (key (0x1800 + p) 1) % 2 ^ 29) d)

/-- A SYNC reaches TPDO p: every n-th, or with a changed value for type 0, it samples its entries; one that still waits is late. -/
def tpdoSync (s : State) (p : Nat) : State :=
  let ty := tpdoType s p
  if pdoOn s (0x1800 + p) = false ∨ 240 < ty then s
  else
    let x := s.tpdoAt p
    let v := tpdoValue s p
    let due := if ty = 0 then x.lastAt.isNone || v != x.last else decide (ty ≤ x.syncs + 1)
    let s1 := s.when x.queued.isSome fun s => s.hist 0x2100 (2 ^ 5)
    s1.setTpdo p fun x => { x with syncs := if due then 0 else x.syncs + 1, queued := if due then some v else x.queued }

/-- SYNC_RECEIVED. -/
def syncReceived (s : State) (_counter : Nat) : State :=
  if nodeOk s ∧ s.can.nmt = 2 then s.many (List.range 8) fun p s => tpdoSync s p else s

/-- Has the inhibit time passed? -/
def tpdoFree (s : State) (p : Nat) : Bool :=
  match (s.tpdoAt p).lastAt with
  | some t => decide (t + s.rd (key (0x1800 + p) 3) * 100000 ≤ s.now)
  | none => true

/-- TPDO_TRANSMIT: what a SYNC has queued, or an event-driven TPDO whose value has changed. -/
def tpdoTransmit (s : State) (p : Nat) : State :=
  if p < 8 ∧ pdoOn s (0x1800 + p) then
    match (s.tpdoAt p).queued with
    | some d => tpdoSend s p d
    | none =>
      if 254 ≤ tpdoType s p ∧ tpdoFree s p ∧ ((s.tpdoAt p).lastAt = none ∨ tpdoValue s p ≠ (s.tpdoAt p).last) then
        tpdoSend s p (tpdoValue s p)
      else s
  else s

/-- TPDO_EVENT_TIMER. -/
def tpdoTimer (s : State) (p : Nat) : State :=
  if p < 8 ∧ pdoOn s (0x1800 + p) ∧ 254 ≤ tpdoType s p ∧ s.rd (key (0x1800 + p) 5) ≠ 0 ∧ tpdoFree s p then tpdoSend s p (tpdoValue s p)
  else s

/-- The writes of an RPDO, entry by entry. -/
def rpdoWrites (s : State) (p : Nat) (d : Datum) : Nat → List (Nat × Nat × Nat) → State
  | _, [] => s
  | off, e :: r => rpdoWrites (hostWrite s (.canPdo p) .silent e.1 e.2.1 ⟨e.2.2, bytesAt d.val off e.2.2⟩).2 p d (off + e.2.2) r

/-- RPDO_RECEIVED. -/
def rpdoReceived (s : State) (p : Nat) (d : Datum) : State :=
  if p < 8 ∧ pdoOn s (0x1400 + p) then
    let l := mapping s (0x1600 + p)
    if d.len < (l.map fun e => e.2.2).foldl (· + ·) 0 then s.hist 0x2100 (2 ^ 6) else rpdoWrites s p d 0 l
  else s

/-! EMCY, heartbeat and the controller (R68, R72, R79). -/

/-- EMCY_TRANSMIT. -/
def emcyTransmit (s : State) : State :=
  let cob := entryValue s 0x1014 0
  let free : Bool := match s.can.emcyAt with | some t => decide (t + s.rd (key 0x1015 0) * 100000 ≤ s.now) | none => true
  match s.col.emcy with
  | [] => s
  | e :: r =>
    if nodeOk s ∧ (s.can.nmt = 1 ∨ s.can.nmt = 2) ∧ cob < 2 ^ 31 ∧ free = true then
      ((s.setCol fun c => { c with emcy := r }).setCan fun c => { c with emcyAt := some s.now }).send (.can (cob % 2 ^ 29) ⟨8, e.1⟩)
    else s

/-- HEARTBEAT_TIMER. -/
def heartbeat (s : State) : State :=
  if nodeOk s ∧ s.rd (key 0x1017 0) ≠ 0 ∧ s.can.nmt ≠ 3 then s.send (.can (0x700 + s.can.node) ⟨1, nmtCode s.can.nmt⟩) else s

/-- CAN_ERROR_STATE_CHANGE. -/
def canErrors (s : State) (passive busOff : Bool) : State :=
  (s.setCan fun c => { c with passive := passive, busOff := busOff }).when (busOff && !s.can.busOff) fun s => s.hist 0x2100 (2 ^ 4)

end Sys2Proof.Machine
end

