-- ==== Sys2Proof/Machine/Boot.lean ====
section
/-! DEFINITION. Reset and boot: the causes, entering reset, the release, the eight steps, the loader (chapter 15 of spec/). -/

namespace Sys2Proof.Machine

/-! Causes (R448, R449). -/

/-- Do the conditions hold that keep the device in reset? -/
def heldInReset (s : State) : Bool := s.boot.rstLow || s.boot.tap || !s.nv.supplies.all id

/-- A cause arises: reset is due. -/
def cause (s : State) (c : Nat) : State :=
  (s.setBoot fun b => { b with causes := c :: b.causes }).resetDue (some c)

/-- RST_N is low for 100 ns, or high again. -/
def rstLow (s : State) (held : Bool) : State :=
  (s.setBoot fun b => { b with rstLow := held }).when (held && !s.boot.rstLow) fun s => cause s 2

/-- The TAP takes one of the three instructions, or another again. -/
def tapReset (s : State) (held : Bool) : State :=
  (s.setBoot fun b => { b with tap := held }).when (held && !s.boot.tap) fun s => cause s 6

/-- A supply becomes valid, or stops being so: with or without the loss of core state, and with the seal of a commit whole or not. -/
def supplyChange (s : State) (rail : Nat) (valid coreLost isSealed : Bool) : State :=
  let s1 := s.nvSet fun v => { v with supplies := v.supplies.set rail valid }
  if valid then s1.when (!s.nv.pfail && s1.nv.supplies.all id && s.nv.powerFail) fun s => pfailRise s
  else
    let s2 := nvPowerLoss s1 isSealed
    cause (s2.setBoot fun b => { b with coreLost := b.coreLost || coreLost }) (if coreLost then 1 else 3)

/-- The cause that LAST_RESET_CAUSE takes (R449). -/
def firstCause (l : List Nat) : Nat := (causeOrder.find? fun c => l.contains c).getD 1

/-- What the store island keeps through a reset. -/
def keptStore (v : NvmSys) : NvmSys :=
  { v with slots := [], hostWrites := 0, hostCommit := false, recordPending := false, queue := [], running := none, waiting := false, clearing := false,
           fixes := [], download := none, flash := 0, busy := true, powerFail := false, pfClosed := false, pfBoot := false, pfStep := 0,
           stale := false, scrubbing := false, lowAt := none, tied := [], swReset := false
           journal := { v.journal with staged := [], moving := [], waiting := [], opened := 0 }
           events := { v.events with staged := [], moving := [], waiting := [], opened := 0 } }

/-- Internal reset asserts (R451): the store island runs its reset entry unless a supply was lost, and everything volatile is as
State.reset has it. -/
def resetAssert (s : State) : State :=
  if s.boot.inReset ∨ (s.resetReq = none ∧ heldInReset s = false) then s
  else
    let causes := match s.resetReq with | some c => c :: s.boot.causes | none => s.boot.causes
    let keep := !(causes.contains 1 || causes.contains 3)
    let s1 := if keep then nvResetEntry s else s
    { State.reset with
      pending := s.pending, now := s.now, out := s1.out, free := s.free
      nv := keptStore s1.nv
      cal := { State.reset.cal with area := if keep then s.cal.area else 0 }
      boot := { inReset := true, rstLow := s.boot.rstLow, tap := s.boot.tap, coreLost := s.boot.coreLost, causes := causes
                strapMode := s.boot.strapMode, strapNid := s.boot.strapNid } }

/-- The release (R448, R449, R453, R458, R464): the straps are sampled (R54, R70). -/
def resetRelease (s : State) : State :=
  if s.boot.inReset = false ∨ heldInReset s then s
  else
    let c := firstCause s.boot.causes
    let s0 := s.setHost fun x => { x with mode := s.boot.strapMode, nid := s.boot.strapNid }
    let s1 := (s0.put (key 0x2000 8) c).setBoot fun b => { strapMode := b.strapMode, strapNid := b.strapNid }
    let s2 := s1.nvSet fun v => { v with powerFail := v.pfail, pfBoot := v.pfail }
    (progStart s2 6 8 0xFF).resetDue none

/-! Steps. -/

/-- Is a step's turn: the boot runs, those before it have ended, and it has not? -/
def stepTurn (s : State) (i : Nat) (before : List Nat) : Bool :=
  !s.boot.inReset && s.boot.booting && !s.boot.loader && !bootPast s i && before.all fun j => bootPast s j

/-- A step has ended (R458). -/
def stepEnd (s : State) (i : Nat) : State :=
  let s1 := s.setBoot fun b => { b with done := b.done.set i true }
  progPos s1 6 (s1.boot.done.filter id).length

/-- A refusal of the boot: the first is kept for RESULT (R455, R456). -/
def bootRefusal (s : State) (code : Nat) : State :=
  if code = 0 ∨ s.boot.result ≠ 0 then s else s.setBoot fun b => { b with result := code }

/-- Step 1 (R454). The release has sampled the straps: levels that stand at their balls now wait for the next one (R54, R465). -/
def bootClocks (s : State) (mode nid : Nat) (sosc : Bool) : State :=
  if stepTurn s 0 [] then
    let s1 := (s.setDp fun d => { d with mxo := !sosc }).setBoot fun b => { b with strapMode := mode % 8, strapNid := nid % 128 }
    stepEnd (s1.setBase fun b => { b with sosc := sosc, soscTen := false, soscSince := s.now }) 0
  else s

/-- Step 2 (R378, R450): recovery, BOOT_COUNT, and the RESET record, the first of the boot; records that waited for the recovery follow it
(R85). -/
def bootRecovery (s : State) : State :=
  if stepTurn s 1 [] then
    let c := s.rd (key 0x2000 8)
    let s1 := (nvRecover s (c == 1 || c == 3)).devSet fun d => { d with bootCount := cut 32 (d.bootCount + 1) }
    let n := s1.nv.sram.dev.bootCount
    let s2 := logStage (s1.put (key 0x2000 7) n) false ⟨journalRec s1 7 c 0 0 0 0 n, s.now⟩
    stepEnd (logDrain (logDrain s2 false) true) 1
  else s

/-- Can an image run (R386): VALID, and its CRC checks again? -/
def imageRuns (s : State) (i : Nat) : Bool :=
  imageState s i == 2 && imageSound s i && (badGroups s (imageBase i) (imageLength s i)).all fun e => e.2 != 2

/-- The node-ID in use: the stored one, else the straps (R70). -/
def takeNode (s : State) : State :=
  let d := s.nv.sram.dev
  match d.lssNode with
  | some n => s.setCan fun c => { c with node := n, source := if n = 0xFF then 2 else 1 }
  | none =>
    s.setCan fun c => if s.host.nid = 0 then { c with node := 0xFF, source := 2 } else { c with node := s.host.nid, source := 0 }

/-- The bit timing in use. -/
def takeTiming (s : State) : State :=
  s.setCan fun c => { c with
    fd := s.rd (key 0x2104 5) == 1, data := s.rd (key 0x2104 4)
    nominal := match s.nv.sram.dev.lssTiming with | some (_, r) => 4 - r | none => s.rd (key 0x2104 3) }

/-- No image runs: the loader serves (R463). -/
def startLoader (s : State) : State :=
  let s1 := (s.setBoot fun b => { b with loader := true }).nvSet fun v => { v with flash := 2 }
  let s2 := progSet (s1.put (key 0x2000 6) 0) 6 3 2 8 0x08000022 0xFF
  (takeTiming (takeNode s2)).setCan fun c => { c with joined := true }

/-- Image i runs. -/
def runImage (s : State) (i : Nat) : State :=
  let s1 := (s.put (key 0x2000 5) i).put (key 0x2000 6) (imageField s i 8 4)
  stepEnd (s1.put (key 0x2046 6) i) 2

/-- An image that is VALID is read to be checked, with its ECC (R379). -/
def imageRead (s : State) (i : Nat) : State :=
  if imageState s i = 2 then (eccRead s (imageBase i) (min 786432 (imageLength s i))).2 else s

/-- Step 3 (R386, R463). -/
def bootFirmware (s0 : State) : State :=
  if stepTurn s0 2 [1] then
    let b := s0.nv.sram.dev.bootImage
    let s := imageRead s0 b
    if imageRuns s b then runImage s b
    else if imageRuns s (1 - b) then
      let s1 := ((imageRead s (1 - b)).devSet fun d => { d with bootImage := 1 - b, fallbacks := d.fallbacks + 1 }).hist 0x2300 (2 ^ 11)
      runImage (s1.raise 0 0x0A 0x31 0x703) (1 - b)
    else startLoader (imageRead s (1 - b))
  else s0

/-! Restore (R455). -/

/-- Entries that act at steps 6 to 8 only. -/
def activating (index sub : Nat) : Bool :=
  (decide (0x3000 ≤ index ∧ index < 0x3060) && (sub == 1 || sub == 0x0E)) || (decide (0x3100 ≤ index ∧ index < 0x3160) && sub == 5)
    || (decide (0x3400 ≤ index ∧ index < 0x3410) && sub == 1) || (decide (0x3500 ≤ index ∧ index < 0x3508) && sub == 5)
    || (decide (0x3600 ≤ index ∧ index < 0x3604) && (sub == 7 || sub == 0x22)) || (index == 0x3610 && sub == 5)
    || (decide (0x3700 ≤ index ∧ index < 0x3800) && sub == 6) || (decide (0x3804 ≤ index ∧ index < 0x3808) && (sub == 1 || sub == 4))

/-- One entry of an image is placed, or skipped with the code of its refusal. -/
def placeEntry (s : State) (e : Nat × Datum) : Nat × State :=
  let index := e.1 / 256
  let sub := e.1 % 256
  let code :=
    if formRefuse index sub e.2 ≠ 0 then formRefuse index sub e.2
    else if index = 0x2210 ∧ sub = 1 ∧ allocated e.2.val = false then 0x06090030
    else if index = 0x2210 ∧ sub = 2 then sourceCfgRefuse (s.rd (key 0x2210 1)) e.2.val
    else 0
  if code ≠ 0 then (code, s)
  else if index = 0x2210 ∧ sub = 1 then (0, sourceSelect s e.2.val)
  else if index = 0x2210 then (0, sourceCfgPut s (s.rd (key 0x2210 1)) e.2.val)
  else if 0x3700 ≤ index ∧ index < 0x3800 ∧ sub = 5 then (0, ctxConfig s (index - 0x3700) (unreserved index sub e.2.val))
  else (0, s.put e.1 (unreserved index sub e.2.val))

/-- The entries of the images are placed in their order; the first refusal is kept. -/
def placeEntries (s : State) (l : List (Nat × Datum)) : Nat × State :=
  l.foldl (fun r e => let x := placeEntry r.2 e; (if r.1 = 0 then x.1 else r.1, x.2)) (0, s)

/-- The combination rule that an entry as it stands breaks, 0 for none. The states that only operation gives are no matter here. -/
def comboBroken (s : State) (index sub : Nat) (d : Datum) : Nat :=
  let t := if 0x1600 ≤ index ∧ index < 0x1608 ∨ 0x1A00 ≤ index ∧ index < 0x1A08 then
      let u := s.put (key (index - 0x200) 1) (2 ^ 31)
      if sub = 0 then u else u.put (key index 0) 0
    else s
  let c := (objectRefuse t .parallel index sub d).1
  if activating index sub then 0 else if c = 0x06090030 ∨ c = 0x06040041 ∨ c = 0x06040042 then c else 0

/-- An index goes back to its defaults. -/
def defaultIndex (s : State) (index : Nat) : State :=
  let s1 : State := { s with od := s.od.filter fun e => e.1 / 256 != index }
  if 0x3700 ≤ index ∧ index < 0x3800 then s1.setCtx (index - 0x3700) fun _ => {} else s1

/-- Stage 3 for the entries of the images: each index as a whole. -/
def checkIndices (s : State) (l : List (Nat × Datum)) : Nat × State :=
  l.foldl (fun r e =>
    let c := comboBroken r.2 (e.1 / 256) (e.1 % 256) e.2
    if c = 0 ∨ e.1 / 256 = 0x2210 then r else (if r.1 = 0 then c else r.1, defaultIndex r.2 (e.1 / 256))) (0, s)

/-- The measurement time base under the SOURCE restored (R454). -/
def startBase (s : State) : State :=
  let s1 := s.setBase fun b => { b with hzInUse := s.rd (key 0x2601 2) }
  if s.rd (key 0x2601 1) = 0 then s1
  else if s.chan.base.sosc then s1.setBase fun b => { b with inUse := true }
  else ((s1.setBase fun b => { b with fallback := true }).hist 0x2600 1).raise 0 0x0E 0x38 0

/-- Step 4 (R454, R455). -/
def bootRestore (s : State) : State :=
  if stepTurn s 3 [0, 2] then
    let m := s.nv.sram
    let comm := if m.loadAll ∨ m.loadComm then [] else m.comm
    let app := if m.loadAll ∨ m.loadApp then [] else m.app
    let s1 := s.nvSet fun v => { v with sram := { m with comm := comm, app := app, loadAll := false, loadComm := false, loadApp := false } }
    let p := placeEntries s1 (comm ++ app)
    let q := checkIndices p.2 (comm ++ app)
    let s2 := bootRefusal (bootRefusal q.2 q.1) p.1
    let s3 := startBase (calRestore (takeTiming (takeNode s2)))
    stepEnd (s3.setBoot fun b => { b with open_ := true }) 3
  else s

/-- The die links are ready to train. -/
def linksReady (s : State) : State := { s with link := { s.link with ready := true } }

/-- Step 5 (R210, R350): the boot pass, and the multiplier locked. -/
def bootCalibration (s : State) : State :=
  if stepTurn s 4 [3] then
    let s1 := bootPass s
    stepEnd ((linksReady s1).setAp fun a => { a with relocking := false }) 4
  else s

/-- An activating entry acts at its step, or is refused and stays inactive (R456). -/
def activate (s : State) (index sub : Nat) (act : State → Nat → State) : State :=
  let k := key index sub
  let v := s.rd k
  if v = 0 then s
  else
    let s1 := s.put k 0
    let c := (objectRefuse s1 .parallel index sub ⟨1, v⟩).1
    if c ≠ 0 then bootRefusal s1 c else act s1 v

/-- Step 6, and the start of step 7 (R453, R456, R459). -/
def bootChannels (s : State) : State :=
  if stepTurn s 5 [4] then
    let s1 := stepEnd s 5
    let s2 := safeFollow (s1.many (List.range 96) fun n s => if s.chCfg n 1 = 0 then s else decimRestart s n)
    let s3 := s2.many (List.range 96) fun n s => activate s (0x3100 + n) 5 fun s v => cupFollow (s.put (key (0x3100 + n) 5) v) n
    let s4 := s3.many (List.range 96) fun n s => activate s (0x3000 + n) 0x0E fun s v => outEnable s n v
    s4.many (List.range 8) fun j s => activate s (0x3500 + j) 5 fun s v => apllEnable s j v
  else s

/-- Step 7 ends. -/
def bootSynthesis (s : State) : State := if stepTurn s 6 [5] then stepEnd s 6 else s

/-- The fault state at DONE (R462). -/
def bootFault (s : State) : State :=
  if s.boot.fault = false then exitEmcy (safeFollow (s.setCol fun c => { c with fault := false }))
  else if s.col.quietOver then faultExit s
  else s

/-- What step 8 acts on, in its order (R453). -/
def bootTiming (s : State) : State :=
  let s1 := s.many (List.range 4) fun t s => activate s (0x3600 + t) 7 fun s v => disciplinePut s t v
  let s2 := s1.many (List.range 4) fun p s => activate s (0x3804 + p) 1 fun s v => fabMode s p v
  let s3 := s2.many (List.range 4) fun p s => txFollow s p
  let s4 := activate s3 0x3610 5 fun s v => s.put (key 0x3610 5) v
  let s5 := s4.many (List.range 4) fun t s => activate s (0x3600 + t) 0x22 fun s v => ptpEnable s t v
  s5.many (List.range 256) fun c s => activate s (0x3700 + c) 6 fun s _ => fabContextOn (ctxEnable s c true) c

/-- Boot ALIGN of the outputs that pulse generators drive (R460). -/
def bootAlign (s : State) : State :=
  s.many ((List.range 96).filter fun n => decide (0x10 ≤ s.chCfg n 0x0A) && s.chCfg n 0x0E == 1) fun n s => alignOne s n

/-- DONE (R453, R458, R460, R462, R350). -/
def bootDone (s : State) : State :=
  if stepTurn s 7 [6] then
    let s1 := (stepEnd s 7).setBoot fun b => { b with booting := false }
    let s2 := bootAlign (requestAddress (bootTiming s1))
    let s3 := s2.setCan fun c => { c with joined := true, nmt := if c.node = 0xFF then 3 else 1 }
    let s4 := bootFault (bootUp s3)
    let s5 := s4.setCal fun c => { c with running := true }
    progEnd (sweepStart s5 true true) 6 2 s5.boot.result
  else s

end Sys2Proof.Machine
end

