-- ==== Sys2Proof/Machine/Events.lean ====
section
/-! DEFINITION. Events that touch several families at once, each the whole of one step (95_what_each_step_holds of spec/), and the
conditions under which a command meets the device at all. -/

namespace Sys2Proof.Machine

/-- A command while the device is held in internal reset does nothing (R451). -/
def live (s : State) (f : State → State) : State := if s.boot.inReset then s else f s

/-- What chapters 08 to 10 and the DPLLs do starts with step 8 of the boot (R453). -/
def timed (s : State) (f : State → State) : State := if s.boot.inReset || s.boot.booting then s else f s

/-! Writes that have rows of their own. -/

/-- Is the interface one that can bring a write now (R54, R69, R457)? -/
def viaOn (s : State) : Iface → Bool
  | .parallel => busOn s 0
  | .spi => busOn s 1
  | .canSdo => sdoOn s
  | .canUsdo => sdoOn s
  | .canPdo _ => nodeOk s && s.can.nmt == 2
  | .canLss => canOn s
  | .fabric _ => !s.boot.inReset && !s.boot.booting

/-- A write to instance i of `count` from index `base`, subindex `sub`, that is accepted, journalled, posted and takes effect
(R15, R20, R489). -/
def namedWrite (s : State) (via : Iface) (base count i sub : Nat) (d : Datum) : State :=
  if i < count ∧ viaOn s via then writeNow s via (base + i) sub d else s

/-- The same for the code of a COMMAND entry. -/
def namedCommand (s : State) (via : Iface) (base count i sub code : Nat) : State :=
  namedWrite s via base count i sub ⟨1, code⟩

/-- A read whose answer goes to the interface that asks. -/
def namedRead (s : State) (via : Iface) (base count i sub : Nat) : State :=
  if i < count ∧ viaOn s via then answerRead s via (base + i) sub else s

/-- A write to any entry, posted under R20; CANopen and the fabric are answered once it is accepted, the buses are not (R26). -/
def objectWrite (s : State) (via : Iface) (index sub : Nat) (d : Datum) : State :=
  if viaOn s via then
    match via with
    | .parallel => (busPut s via index sub d).2
    | .spi => (busPut s via index sub d).2
    | _ =>
      let r := hostWrite s via .answer index sub d
      match r.1 with
      | some code => r.2.send (.answer via index sub code {})
      | none => r.2
  else s

/-- CANopen requests while E15 restarts are answered with 0800 0022h (R401). -/
def sdoServed (s : State) (usdo : Bool) (index sub : Nat) (f : State → State) : State :=
  if sdoOn s && !engineUp s 15 then sdoAbort s usdo index sub 0x08000022 else f s

/-- The same for a segment of a running transfer. -/
def sdoSegServed (s : State) (usdo : Bool) (seg : Seg) : State :=
  match s.sdoAt usdo with
  | some t => sdoServed s usdo t.index t.sub fun s => sdoSegment s usdo seg
  | none => sdoServed s usdo 0 0 fun s => sdoSegment s usdo seg

/-! Die links (R31 to R33, R45, R46, R97, R117, R140). -/

/-- DIE_LINK_WORD_RECEIVED on a link or a hub path. -/
def pathWord (s : State) (pos word : Nat) (parity : Bool) : Path → State
  | .link l rev => linkWord s l rev pos word parity
  | .hub p => hubWord s p pos word parity

/-- A link is UP again: after DOWN the channels of its die restart their decimators, and cupping takes them back. -/
def linkReturns (s : State) (l : Nat) : State :=
  let wasDown := decide ((s.linkAt l).state = .down)
  let s1 := linkTrained s l
  if l < 6 then
    let s2 := if wasDown then
        cupsLinkBack (s1.many (List.range 16) fun i s => decimRestart s (16 * l + i)) l
      else s1
    unthrottle s2 l
  else if l = 6 then reactOwed s1
  else s1

/-- A training attempt fails; on the entry into DOWN the snapshot, the gates and cupping follow. -/
def linkGives (s : State) (l : Nat) : State :=
  let s1 := linkFailed s l
  if l < 6 ∧ (s1.linkAt l).state = .down then cupsLinkDown (gatesLinkDown (snapAbandon s1 l) l) l else s1

/-- LINK_TRAINING_ATTEMPT_END. -/
def linkAttempt (s : State) (l : Nat) (ok : Bool) : State :=
  match (s.linkAt l).state with
  | .up => s
  | .training => if l < 13 then (if ok then linkReturns s l else linkGives s l) else s
  | .down => if l < 13 ∧ ok then linkReturns s l else s

/-- LINK_DOWN_RETRY_TIMER: the attempt of every 100 ms. -/
def linkRetryDown (s : State) (l : Nat) (ok : Bool) : State :=
  match (s.linkAt l).state with
  | .down => if l < 13 ∧ ok then linkReturns s l else s
  | .training => s
  | .up => s

/-- Registers of S that the hub mirrors: the subindices of an index (R24, R88, R185, R186). -/
def mirrored (index : Nat) : List Nat :=
  if 0x2027 ≤ index ∧ index < 0x202D then (List.range 9).map (· + 3) ++ (List.range 7).map (· + 13)
  else if 0x3410 ≤ index ∧ index < 0x3420 then (List.range 16).map (· + 17)
  else if 0x3420 ≤ index ∧ index < 0x3430 then [1, 2] ++ (List.range 24).map (· + 5)
  else if 0x3500 ≤ index ∧ index < 0x3508 then [1, 2] ++ (List.range 7).map (· + 19)
  else if 0x3508 ≤ index ∧ index < 0x3510 then (List.range 5).map (· + 4)
  else if index = 0x2630 then [3, 4]
  else if index = 0x2530 then (List.range 6).map (· + 7) ++ (List.range 8).map (· + 21)
  else []

/-- An entry of S as S holds it: BASE and REF_STATE of 2630h are the multiplexer's own state, STATUS and CAND_STATUS of a DPLL and STATUS of an APLL are live, the
rest stands in S's records. -/
def dieValue (s : State) (index sub : Nat) : Nat :=
  if index = 0x2630 then (if sub = 3 then b2n s.dp.mxo else b2n s.ap.relocking)
  else if 0x3410 ≤ index ∧ index < 0x3420 then candStatus s (index - 0x3410) (sub - 17)
  else if 0x3500 ≤ index ∧ index < 0x3508 ∧ sub = 1 then apllStatus s (index - 0x3500)
  else if 0x3420 ≤ index ∧ index < 0x3430 ∧ sub = 1 then dpStatus s (index - 0x3420)
  else s.drd (key index sub)

/-- MIRROR_REFRESH (R24): the record of an index as a whole, once it has come over the die's link, which has to be UP (R25, R493). -/
def mirrorRefresh (s : State) (index : Nat) : State :=
  if mirrored index ≠ [] then
    let l := (mirrored index).map fun sub => (sub, dieValue s index sub)
    carried s 6 false (transferWords (key index 0) (packed (l.map fun e => (widthOf index e.1, e.2)))) fun s =>
      s.many l fun e s => s.put (key index e.1) e.2
  else if 0x3200 ≤ index ∧ index < 0x3260 then
    let n := index - 0x3200
    let d := packed [(4, at_ (s.chanAt n).onSpare 2 + at_ (s.chanAt n).dropSeen 8 + at_ (s.chanAt n).skipSeen 12), (4, s.drd (key index 8)), (4, s.drd (key index 9))]
    carried s (dieOfChan n) false (transferWords (key index 0) d) fun s => refreshChan s n
  else if 0x2510 ≤ index ∧ index < 0x2516 then calMirror s index (index - 0x2510)
  else if 0x2520 ≤ index ∧ index < 0x2526 then calMirror s index (index - 0x2520)
  else if index = 0x2501 then s.many (List.range 6) fun d s => calMirror s index d
  else if index = 0x2631 then
    s.many (List.range 6) fun c s => carried s c false (transferWords (key index 0) (outRecord s c)) fun s => refreshOuts s c
  else s

/-! Edges and stamps (R44, R97, R105, R106, R131, R133). -/

/-- CHANNEL_EDGE: an edge that reaches the decimator ends a loss of signal. -/
def edgeArrives (s : State) (n : Nat) (falling : Bool) (coarse bin frac : Nat) : State :=
  if n < 96 ∧ bootPast s 5 then
    let reaches := inputOn s n && edgeSelected s n falling
    (channelEdge s n falling (edgeTime s n falling coarse bin) (frac + edgeCorr s n falling bin)).when reaches fun s => losCleared s n
  else s

/-- Cupping takes every stamp in the stamp buffer that it has not taken, in order. -/
def cupCatchUp (s : State) : State :=
  let l := s.chan.ring.filter (·.cup)
  ({ s with chan := { s.chan with ring := s.chan.ring.map fun e => { e with cup := false } } } : State).many l fun e s =>
    if underCupping s e.stamp.chan then cupTake s e.stamp else s

/-! H's ingest (R41, R42, R43, log entry 81). -/

/-- The stamps that C die c offers: those in its slice FIFOs while it may drain them. -/
def dieOffers (s : State) (c : Nat) : Nat :=
  if linkDrains s c then ((List.range 16).map fun i => fifoCount (s.chanAt (16 * c + i)).fifo).sum else 0

/-- The ingest of the present microsecond. -/
def ingestNow (s : State) : Ingest :=
  if s.link.ingest.window = s.now / 1000 then s.link.ingest
  else { s.link.ingest with window := s.now / 1000, taken := [0, 0, 0, 0, 0, 0] }

/-- The die whose turn it is: the present one while it offers stamps and has a deficit left, else the next one that offers, which is
given 33 stamps. -/
def drrTurn (offers taken : List Nat) : Nat → Nat × List Nat → Nat × List Nat
  | 0, x => x
  | fuel + 1, (t, l) =>
    if 0 < offers.getD t 0 ∧ taken.getD t 0 < 100 ∧ 0 < l.getD t 0 then (t, l)
    else
      let u := (t + 1) % 6
      drrTurn offers taken fuel (u, l.set u (if 0 < offers.getD u 0 then l.getD u 0 + 33 else 0))

/-- May a stamp of die c come in? -/
inductive Grant where
  | granted (g : Ingest) | waits | refused
deriving DecidableEq, Repr

/-- 100 stamps in a microsecond are what a link carries, 200 what H takes; while the dies offer more, the deficit round robin says whose
stamp is next, and a die whose turn it is not is refused. -/
def ingestGrant (s : State) (c : Nat) : Grant :=
  let g := ingestNow s
  let offers := (List.range 6).map (dieOffers s)
  let count := g.taken.set c (g.taken.getD c 0 + 1)
  if 100 ≤ g.taken.getD c 0 then .waits
  else if g.taken.sum + offers.sum ≤ 200 then .granted { g with taken := count, deficit := [0, 0, 0, 0, 0, 0] }
  else if 200 ≤ g.taken.sum then .refused
  else
    let r := drrTurn offers g.taken 7 (g.turn, g.deficit)
    if r.1 = c then .granted { g with taken := count, turn := r.1, deficit := r.2.set c (r.2.getD c 0 - 1) } else .refused

/-- A stamp has come over its link: delivered or dropped at the hub, and offered to its consumers (R44, R105). -/
def stampTaken (s : State) (n : Nat) (x : Stamp) (replays : Nat) (taken : Bool) : State :=
  let s0 := if taken then cupCatchUp s else s
  let wants := underCupping s0 n
  let s1 := ingestRing s0 n x replays (wants && !taken)
  let s2 :=
    if hubFull s0 then s1
    else
      let y := deliveredStamp s0 n x replays
      let s3 := gatesOffer s1 y
      let s4 := if wants && taken then cupTake s3 y else s3
      exportCheck (exportCheck s4 false) true
  unthrottle s2 (dieOfChan n)

/-- STAMP_INGEST: `replays` refusals on the stamp's words; `taken` says that cupping's reduction hardware has kept pace up to and with
this stamp (log entry 5). A die that is held back keeps its stamps (R42); one that H refuses is THROTTLED (R43). -/
def stampIngest (s : State) (n replays : Nat) (taken : Bool) : State :=
  match nextStamp s n with
  | none => s
  | some x =>
    if linkDrains s (dieOfChan n) then
      match ingestGrant s (dieOfChan n) with
      | .waits => s
      | .refused => throttle s (dieOfChan n)
      | .granted g =>
        let r := carry s (dieOfChan n) false (stampRecord n x.seq) replays
        if r.1 then stampTaken { r.2.2 with link := { r.2.2.link with ingest := g } } n x r.2.1 taken else r.2.2
    else s

/-- The results of E12's monitors: while E12 restarts they wait for it, and are then published late (R401). -/
def cupResult (s : State) (kind n i : Nat) (f : State → State) : State :=
  if engineUp s 12 then f s else s.setEng fun x => { x with held := x.held ++ [(kind, n, i)] }

/-- A result that has waited. -/
def cupHeld (s : State) (h : Nat × Nat × Nat) : State :=
  if h.1 = 1 then freqWindowEnd s h.2.1
  else if h.1 = 2 then driftBinEnd s h.2.1
  else if h.1 = 3 then mtieStepEnd s h.2.1 h.2.2
  else tdevBlockEnd s h.2.1 h.2.2

/-- ENGINE_RESTART_DONE (R401). -/
def engineBack (s : State) (e : Nat) : State :=
  let s1 := engineResume s e
  if e = 14 then askAgain s1
  else if e = 12 ∧ engineUp s 12 = false then
    ((s1.setEng fun x => { x with held := [] }).many s.eng.held fun h s => cupHeld s h).many (List.range 96) fun n s => cupEvaluate s n
  else s1

/-! The measurement time base and the S base (R123, R125, R146, R218, R348). -/

/-- The source in use of the measurement time base changes. -/
def tbChange (s : State) : State := calTbChange (cupsTbChange (gatesTbChange s))

/-- SOSC_ABSENT: no edge for 1 µs. -/
def soscAbsent (s : State) : State := s.setBase fun b => { b with sosc := false, soscTen := false }

/-- SOSC_PRESENT: the counts of 10 s start. -/
def soscPresent (s : State) : State :=
  if s.chan.base.sosc then s else s.setBase fun b => { b with sosc := true, soscTen := false, soscSince := s.now }

/-- TIMEBASE_FALLBACK. -/
def tbFallback (s : State) : State :=
  if s.chan.base.inUse ∧ s.chan.base.sosc = false then
    tbChange (((s.setBase fun b => { b with inUse := false, fallback := true }).hist 0x2600 1).raise 0 0x0E 0x38 0)
  else s

/-- TIMEBASE_SOSC_RETURN: SOSC has been present for 10 s. -/
def tbReturn (s : State) : State :=
  if s.chan.base.sosc then
    let s1 := s.setBase fun b => { b with soscTen := true }
    if s.rd (key 0x2601 1) = 1 ∧ s.chan.base.inUse = false then
      tbChange ((s1.setBase fun b => { b with inUse := true, fallback := false }).hist 0x2600 2)
    else s1
  else s

/-- BASE_CHANGE_TO_MXO. -/
def baseToMxo (s : State) : State := if s.dp.mxo = false ∧ s.chan.base.sosc = false then baseChange s true else s

/-- BASE_CHANGE_TO_SOSC: a written SOSC_HZ is adopted (R125). -/
def baseToSosc (s : State) : State :=
  if s.dp.mxo ∧ s.chan.base.sosc then
    let s1 := s.setBase fun b =>
      { b with soscTen := true, hzInUse := if b.hzPending then s.rd (key 0x2601 2) else b.hzInUse, hzPending := false }
    baseChange s1 false
  else s

/-- RATE_SECOND: the slices' rates, and what contexts count by the second. -/
def wholeSecondEnd (s : State) : State := (rateSecond s).when (!s.boot.booting) fun s => ctxSecond s

/-! The update of 1 µs (R149, R166, R212, R249, R307). -/

/-- DPLL_UPDATE: until step 8 of the boot the APLL alone makes it (R453). -/
def dpllUpdate (s : State) (k : Nat) (l : List PhaseSample) : State :=
  if s.boot.booting then (if k < 16 then apllUpdate s k else s)
  else if k < 16 then
    let r := samplesArrive (schedPlaced s k) k l
    let s1 := apllUpdate (dpUpdate r.1 k r.2) k
    let s2 := s1.setDpll k fun d => { d with timeline48 := d.timeline48 + d.inc48, updAt := s.now }
    gradeFollow (dpStep7 (tieSend s2 k) k)
  else s

/-- FAULT_HOLD_ARRIVES and FAULT_HOLD_REMOVED: what the collector asks of DPLL k has reached S (R170). -/
def faultHold (s : State) (k : Nat) (on : Bool) : State :=
  if k < 16 ∧ bit s.col.holds k = on then dpFaultHold s k on else s

/-! Synthesis (R219, R460). -/

/-- RETURN_HOLD_EXPIRY: the first one after the release ends with the boot ALIGN of the APLL's outputs. -/
def returnHoldEnd (s : State) (j : Nat) : State :=
  let was := apllReturned s j
  let s1 := returnHold s j
  if apllReturned s1 j ∧ was = false ∧ s.boot.aligned.getD j true = false then
    (s1.setBoot fun b => { b with aligned := b.aligned.set j true }).many
      ((outsOf s1 j).filter fun n => s1.chCfg n 0x0E == 1) fun n s => alignOne s n
  else s1

/-! The context store. -/

/-- LOCK_RELEASE (R404, R413, R414): one access, and the operation ends, or is aborted. -/
def lockRelease (s : State) (q : Nat) (aborted : Bool) : State :=
  if q < 24 then
    let s1 := s.when (s.reqAt q).age.isSome fun s => s.setReq q fun r => { r with grants := r.grants + 1 }
    if aborted then abortOp s1 q else dropLocks (writeBack s1 q) q
  else s

/-! Power fail (R377). -/

/-- PFAIL_FALL and PFAIL_RISE: in reset only the level is known (R378, R464). -/
def pfailDown (s : State) : State :=
  if s.boot.inReset then s.nvSet fun v => { v with pfail := true } else pfailFall s
def pfailUp (s : State) : State :=
  if s.boot.inReset then s.nvSet fun v => { v with pfail := false } else pfailRise s

/-! No command. -/

/-- What happens when no command waits: 4 ns pass; out of reset every counter makes its tick and the sources run on (R243, log entry 1). -/
def idleTick (s : State) : State := if s.boot.inReset then { s with now := s.now + 4 } else routesOwed (synthTick (baseTick s))

end Sys2Proof.Machine
end

