-- ==== Sys2Proof/Machine/RowsBoot.lean ====
section
/-! DEFINITION. What each command does, one definition for each row of the table: reset and boot (chapter 15). -/

namespace Sys2Proof.Machine

/-- SUPPLY_VALID_CHANGE (R446). A supply becomes or stops being valid under its monitor. -/
def execSupplyValidChange (rail : Nat) (valid : Bool) (coreLost : Bool) (isSealed : Bool) (s : State) : Host.Outcome State Fault Refusal :=
  next (supplyChange s rail valid coreLost isSealed)

/-- RST_N_LOW (R448). RST_N low for at least 100 ns resets the device. -/
def execRstNLow (held : Bool) (s : State) : Host.Outcome State Fault Refusal :=
  next (rstLow s held)

/-- JTAG_RESET_INSTRUCTION (R448). The TAP taking EXTEST, CLAMP or HIGHZ resets the device. -/
def execJtagResetInstruction (held : Bool) (s : State) : Host.Outcome State Fault Refusal :=
  next (tapReset s held)

/-- RESET_ASSERT (R451). Internal reset asserts, balls go high-impedance and the store island runs its reset entry. -/
def execResetAssert (s : State) : Host.Outcome State Fault Refusal :=
  next (resetAssert s)

/-- RESET_RELEASE (R448). 1 ms after the last reset condition ends the device leaves reset and boot starts. -/
def execResetRelease (s : State) : Host.Outcome State Fault Refusal :=
  next (resetRelease s)

/-- BOOT_CLOCKS_DONE (R454). Boot step CLOCKS ends with straps sampled and SOSC judged; `mode` and `nid` are the levels that stand at the
straps after the sampling (R54). -/
def execBootClocksDone (mode : Nat) (nid : Nat) (sosc : Bool) (s : State) : Host.Outcome State Fault Refusal :=
  next (bootClocks s mode nid sosc)

/-- BOOT_RECOVERY_DONE (R378). Boot step RECOVERY ends, BOOT_COUNT rises and the reset journal record is written. -/
def execBootRecoveryDone (s : State) : Host.Outcome State Fault Refusal :=
  next (bootRecovery s)

/-- BOOT_FIRMWARE_DONE (R386). Boot step FIRMWARE ends with an image chosen and engines started, or stops with no image. -/
def execBootFirmwareDone (s : State) : Host.Outcome State Fault Refusal :=
  next (bootFirmware s)

/-- BOOT_RESTORE_DONE (R455). Boot step RESTORE ends with stored configuration applied and the dictionary open. -/
def execBootRestoreDone (s : State) : Host.Outcome State Fault Refusal :=
  next (bootRestore s)

/-- BOOT_CALIBRATION_DONE (R350). Boot step CALIBRATION ends with the reference multiplier locked and the boot pass done. -/
def execBootCalibrationDone (s : State) : Host.Outcome State Fault Refusal :=
  next (bootCalibration s)

/-- BOOT_CHANNELS_DONE (R456). Boot step CHANNELS acts on every channel's ROLE, cupping ENABLE and OUT_ENABLE. -/
def execBootChannelsDone (s : State) : Host.Outcome State Fault Refusal :=
  next (bootChannels s)

/-- BOOT_SYNTHESIS_DONE (R453). Boot step SYNTHESIS ends when every enabled APLL is LOCKED or at 3 ms. -/
def execBootSynthesisDone (s : State) : Host.Outcome State Fault Refusal :=
  next (bootSynthesis s)

/-- BOOT_DONE (R462). Boot step TIMING ends, the CAN node sends boot-up and the fault state may end. -/
def execBootDone (s : State) : Host.Outcome State Fault Refusal :=
  next (bootDone s)

end Sys2Proof.Machine
end

