-- ==== Sys2Proof/Machine/RowsCal.lean ====
section
/-! DEFINITION. What each command does, one definition for each row of the table: background calibration (chapter 11). -/

namespace Sys2Proof.Machine

/-- CAL_STEP_START (R347). STEP_INTERVAL after the previous step the die starts a step on the next slice. -/
def execCalStepStart (d : Nat) (rate : Nat) (s : State) : Host.Outcome State Fault Refusal :=
  next (live s fun s => stepStart s d rate)

/-- CAL_HANDOVER_CUT (R346). At a cut tick the channel passes between its slice and the spare, a new set coming into force. -/
def execCalHandoverCut (d : Nat) (mismatch : Option Int) (s : State) : Host.Outcome State Fault Refusal :=
  next (live s fun s => handoverCut s d mismatch)

/-- CAL_PASS_COMPLETE (R344). A histogram pass gathers its captures and is judged flat or not. -/
def execCalPassComplete (d : Nat) (hist : List Nat) (s : State) : Host.Outcome State Fault Refusal :=
  next (live s fun s => passComplete s d hist)

/-- CAL_PASS_TIMEOUT (R344). A pass on OWN times out after 500 ms. -/
def execCalPassTimeout (d : Nat) (s : State) : Host.Outcome State Fault Refusal :=
  next (live s fun s => passTimeout s d)

/-- CAL_PROCESSING_DONE (R345). The sequencer finishes setting trims or forming the INL table and moves to the next phase. -/
def execCalProcessingDone (d : Nat) (trims : Nat) (s : State) : Host.Outcome State Fault Refusal :=
  next (live s fun s => processingDone s d trims)

/-- CAL_OFFSETS_DONE (R345). The offsets phase ends and the handover back or in-place set follows. -/
def execCalOffsetsDone (d : Nat) (offsets : Nat) (table : Nat) (residual : Nat) (s : State) : Host.Outcome State Fault Refusal :=
  next (live s fun s => offsetsDone s d offsets table residual)

/-- CAL_LINK_ABANDON_TIMER (R348). The die's link not UP for 100 ms during a step abandons it. -/
def execCalLinkAbandonTimer (d : Nat) (s : State) : Host.Outcome State Fault Refusal :=
  next (live s fun s => linkAbandon s d)

/-- SWEEP_NOW (R347). Calibration COMMAND SWEEP_NOW starts a sweep with steps back to back. -/
def execSweepNow (via : Iface) (s : State) : Host.Outcome State Fault Refusal :=
  next (live s fun s => namedCommand s via 0x2500 1 0 0x0C 1)

/-- SAVE_SHADOW (R358). Calibration COMMAND SAVE_SHADOW copies every record into the calibration area. -/
def execSaveShadow (via : Iface) (s : State) : Host.Outcome State Fault Refusal :=
  next (live s fun s => namedCommand s via 0x2500 1 0 0x0C 2)

/-- RESTORE_SHADOW (R358). Calibration COMMAND RESTORE_SHADOW loads the calibration area after checks. -/
def execRestoreShadow (via : Iface) (s : State) : Host.Outcome State Fault Refusal :=
  next (live s fun s => namedCommand s via 0x2500 1 0 0x0C 3)

/-- CAL_ENABLE_WRITE (R359). Clearing a die's ENABLE bit pauses it after the step in progress. -/
def execCalEnableWrite (via : Iface) (d : Datum) (s : State) : Host.Outcome State Fault Refusal :=
  next (live s fun s => namedWrite s via 0x2500 1 0 5 d)

/-- SLICE_RECORD_WRITE (R357). A written slice record is checked and comes into force. -/
def execSliceRecordWrite (via : Iface) (c : Nat) (i : Nat) (d : Datum) (s : State) : Host.Outcome State Fault Refusal :=
  next (live s fun s => if i < 17 then namedWrite s via 0x2510 6 c (i + 1) d else s)

/-- OUTPUT_RECORD_WRITE (R357). A written output record is checked and comes into force. -/
def execOutputRecordWrite (via : Iface) (c : Nat) (i : Nat) (d : Datum) (s : State) : Host.Outcome State Fault Refusal :=
  next (live s fun s => if i < 16 then namedWrite s via 0x2520 6 c (i + 1) d else s)

/-- OUTPUT_TRACKING (R351). Every 100 ms an enabled output's edge is measured and corrected by at most 0.1 ps. -/
def execOutputTracking (n : Nat) (err : Int) (s : State) : Host.Outcome State Fault Refusal :=
  next (live s fun s => outTrack s n err)

/-- BRANCH_TRIM_STEP (R352). Every 10 ms each distribution branch trim moves by at most one code. -/
def execBranchTrimStep (c : Nat) (move : Int) (err : Int) (s : State) : Host.Outcome State Fault Refusal :=
  next (live s fun s => branchStep s c move err)

/-- APLL_TRIM_STEP (R353). Every 10 ms a locked APLL's amplitude and loop-gain trims step by at most one code. -/
def execApllTrimStep (j : Nat) (amp : Int) (gain : Int) (margin : Nat) (s : State) : Host.Outcome State Fault Refusal :=
  next (live s fun s => apllTrim s j amp gain margin)

/-- LANE_ADAPT_STEP (R354). Every 1 ms each lane adapts its CTLE and DFE by at most one code. -/
def execLaneAdaptStep (l : Nat) (ctle : Int) (dfe1 : Int) (dfe2 : Int) (s : State) : Host.Outcome State Fault Refusal :=
  next (live s fun s => laneStep s l ctle dfe1 dfe2)

/-- EYE_MONITOR (R354). Every 100 ms the monitor sampler publishes EYE_WIDTH and may send EYE_NARROW. -/
def execEyeMonitor (l : Nat) (width : Nat) (s : State) : Host.Outcome State Fault Refusal :=
  next (live s fun s => eyeMonitor s l width)

end Sys2Proof.Machine
end

