-- ==== Sys2Proof/Machine/RowsCan.lean ====
section
/-! DEFINITION. What each command does, one definition for each row of the table: the CANopen node (chapter 02). -/

namespace Sys2Proof.Machine

/-- NMT_START_REMOTE_NODE (R69). NMT Start puts the node in OPERATIONAL without disturbing timing functions. -/
def execNmtStartRemoteNode (node : Nat) (s : State) : Host.Outcome State Fault Refusal :=
  next (live s fun s => nmtGo s node 2)

/-- NMT_STOP_REMOTE_NODE (R69). NMT Stop puts the node in STOPPED without disturbing timing functions. -/
def execNmtStopRemoteNode (node : Nat) (s : State) : Host.Outcome State Fault Refusal :=
  next (live s fun s => nmtGo s node 0)

/-- NMT_ENTER_PRE_OPERATIONAL (R69). NMT Enter Pre-operational puts the node in PRE_OPERATIONAL. -/
def execNmtEnterPreOperational (node : Nat) (s : State) : Host.Outcome State Fault Refusal :=
  next (live s fun s => nmtGo s node 1)

/-- NMT_RESET_COMMUNICATION (R71). NMT Reset Communication resets the CANopen node and applies pending CAN settings. -/
def execNmtResetCommunication (node : Nat) (s : State) : Host.Outcome State Fault Refusal :=
  next (live s fun s => nmtResetComm s node)

/-- NMT_RESET_NODE (R69). NMT Reset Node acts as Reset Communication or resets the device with cause NMT_FULL per NMT_RESET_ACTION. -/
def execNmtResetNode (node : Nat) (s : State) : Host.Outcome State Fault Refusal :=
  next (live s fun s => nmtResetNode s node)

/-- LSS_SWITCH_STATE_GLOBAL (R70). LSS switch state global. -/
def execLssSwitchStateGlobal (configuration : Bool) (s : State) : Host.Outcome State Fault Refusal :=
  next (live s fun s => lssGlobal s configuration)

/-- LSS_SWITCH_STATE_SELECTIVE (R70). LSS switch state selective. -/
def execLssSwitchStateSelective (vendor : Nat) (product : Nat) (revision : Nat) (serial : Nat) (s : State) : Host.Outcome State Fault Refusal :=
  next (live s fun s => lssSelective s vendor product revision serial)

/-- LSS_CONFIGURE_NODE_ID (R70). LSS configure node-ID. -/
def execLssConfigureNodeId (node : Nat) (s : State) : Host.Outcome State Fault Refusal :=
  next (live s fun s => lssNode s node)

/-- LSS_CONFIGURE_BIT_TIMING (R70). LSS configure bit timing. -/
def execLssConfigureBitTiming (selector : Nat) (rate : Nat) (s : State) : Host.Outcome State Fault Refusal :=
  next (live s fun s => lssTiming s selector rate)

/-- LSS_ACTIVATE_BIT_TIMING (R70). LSS activate bit timing. -/
def execLssActivateBitTiming (delay : Nat) (s : State) : Host.Outcome State Fault Refusal :=
  next (live s fun s => lssActivate s delay)

/-- LSS_STORE_CONFIGURATION (R70). LSS store configuration keeps the node-ID and bit timing in the shadow region and requests a store. -/
def execLssStoreConfiguration (s : State) : Host.Outcome State Fault Refusal :=
  next (live s fun s => lssStore s)

/-- LSS_INQUIRE_IDENTITY (R70). LSS inquire identity and node-ID returns the requested value. -/
def execLssInquireIdentity (what : Nat) (s : State) : Host.Outcome State Fault Refusal :=
  next (live s fun s => lssInquire s what)

/-- LSS_IDENTIFY_REMOTE_SLAVE (R70). LSS identify remote slave. -/
def execLssIdentifyRemoteSlave (vendor : Nat) (product : Nat) (revLo : Nat) (revHi : Nat) (serLo : Nat) (serHi : Nat)
    (s : State) : Host.Outcome State Fault Refusal :=
  next (live s fun s => lssIdentify s vendor product revLo revHi serLo serHi)

/-- LSS_IDENTIFY_NON_CONFIGURED (R70). LSS identify non-configured slave. -/
def execLssIdentifyNonConfigured (s : State) : Host.Outcome State Fault Refusal :=
  next (live s fun s => lssIdentifyNone s)

/-- SDO_DOWNLOAD (R74). An SDO or USDO download request writes an entry or aborts with a code of R74. -/
def execSdoDownload (usdo : Bool) (index : Nat) (sub : Nat) (x : Xfer) (s : State) : Host.Outcome State Fault Refusal :=
  next (live s fun s => sdoServed s usdo index sub fun s => sdoDownload s usdo index sub x)

/-- SDO_UPLOAD (R74). An SDO or USDO upload request captures an entry's value and returns it. -/
def execSdoUpload (usdo : Bool) (index : Nat) (sub : Nat) (block : Option Nat) (s : State) : Host.Outcome State Fault Refusal :=
  next (live s fun s => sdoServed s usdo index sub fun s => sdoUpload s usdo index sub block)

/-- SDO_SEGMENT (R74). A segmented or block transfer segment is taken or answered. -/
def execSdoSegment (usdo : Bool) (seg : Seg) (s : State) : Host.Outcome State Fault Refusal :=
  next (live s fun s => sdoSegServed s usdo seg)

/-- SDO_TIMEOUT (R74). 1000 ms without the next segment or block aborts the transfer with 0504 0000h. -/
def execSdoTimeout (usdo : Bool) (s : State) : Host.Outcome State Fault Refusal :=
  next (live s fun s => sdoTimeout s usdo)

/-- SYNC_RECEIVED (R77). A SYNC frame makes synchronous TPDOs sample their entries from one hub snapshot. -/
def execSyncReceived (counter : Nat) (s : State) : Host.Outcome State Fault Refusal :=
  next (live s fun s => syncReceived s counter)

/-- TPDO_TRANSMIT (R77). An event-driven TPDO is sent when a mapped value changes, subject to inhibit time. -/
def execTpdoTransmit (p : Nat) (s : State) : Host.Outcome State Fault Refusal :=
  next (live s fun s => tpdoTransmit s p)

/-- TPDO_EVENT_TIMER (R77). A TPDO event timer expires and the TPDO is sent. -/
def execTpdoEventTimer (p : Nat) (s : State) : Host.Outcome State Fault Refusal :=
  next (live s fun s => tpdoTimer s p)

/-- RPDO_RECEIVED (R78). A received RPDO posts one journalled write per mapped entry or is discarded as short. -/
def execRpdoReceived (p : Nat) (d : Datum) (s : State) : Host.Outcome State Fault Refusal :=
  next (live s fun s => rpdoReceived s p d)

/-- EMCY_TRANSMIT (R79). A queued EMCY frame is sent when the node is not STOPPED and the inhibit time allows. -/
def execEmcyTransmit (s : State) : Host.Outcome State Fault Refusal :=
  next (live s fun s => emcyTransmit s)

/-- HEARTBEAT_TIMER (R72). The producer heartbeat time expires and a heartbeat is sent. -/
def execHeartbeatTimer (s : State) : Host.Outcome State Fault Refusal :=
  next (live s fun s => heartbeat s)

/-- CAN_ERROR_STATE_CHANGE (R68). The CAN FD controller enters or leaves error passive or bus off, updating CAN_ERROR_PASSIVE and CAN_BUS_OFF and setting BUS_OFF_ENTERED. -/
def execCanErrorStateChange (passive : Bool) (busOff : Bool) (s : State) : Host.Outcome State Fault Refusal :=
  next (live s fun s => canErrors s passive busOff)

end Sys2Proof.Machine
end

