-- ==== Sys2Proof/Machine/RowsCup.lean ====
section
/-! DEFINITION. What each command does, one definition for each row of the table: cupping (chapter 04). -/

namespace Sys2Proof.Machine

/-- CUPPING_ENABLE_WRITE (R128). A write of cupping ENABLE checks suitability and puts the channel in QUALIFYING or UNUSED. -/
def execCuppingEnableWrite (via : Iface) (n : Nat) (d : Datum) (s : State) : Host.Outcome State Fault Refusal :=
  next (live s fun s => namedWrite s via 0x3100 96 n 5 d)

/-- REQUALIFY (R140). Cupping COMMAND REQUALIFY returns the channel to QUALIFYING with a statistics and decimator restart. -/
def execRequalify (via : Iface) (n : Nat) (s : State) : Host.Outcome State Fault Refusal :=
  next (live s fun s => namedCommand s via 0x3100 96 n 8 1)

/-- DISQUALIFY (R140). Cupping COMMAND DISQUALIFY puts the channel in DISQUALIFIED with cause MANUAL. -/
def execDisqualify (via : Iface) (n : Nat) (s : State) : Host.Outcome State Fault Refusal :=
  next (live s fun s => namedCommand s via 0x3100 96 n 8 2)

/-- RESTART_STATS (R147). Cupping COMMAND RESTART_STATS restarts the statistics without a decimator restart. -/
def execRestartStats (via : Iface) (n : Nat) (s : State) : Host.Outcome State Fault Refusal :=
  next (live s fun s => namedCommand s via 0x3100 96 n 8 3)

/-- SAMPLE_INTERVAL_END (R132). A sample interval passes with no delivered stamp and SAMPLES_MISSING increases. -/
def execSampleIntervalEnd (n : Nat) (s : State) : Host.Outcome State Fault Refusal :=
  next (live s fun s => sampleMissing s n)

/-- LOS_DECLARED (R133). No edge within the LOS window declares LOS in the slice. -/
def execLosDeclared (n : Nat) (s : State) : Host.Outcome State Fault Refusal :=
  next (live s fun s => losDeclared s n)

/-- LOS_SIGNAL_ARRIVES (R143). The slice's LOS signal reaches S and makes the channel unusable for the DPLLs. -/
def execLosSignalArrives (n : Nat) (s : State) : Host.Outcome State Fault Refusal :=
  next (live s fun s => dpLosArrives s n)

/-- FREQ_WINDOW_END (R134). A frequency window ends and FREQ_OFFSET and FREQ_FLAG are published. -/
def execFreqWindowEnd (n : Nat) (s : State) : Host.Outcome State Fault Refusal :=
  next (live s fun s => cupResult s 1 n 0 fun s => freqWindowEnd s n)

/-- DRIFT_BIN_END (R135). A drift bin ends and the fitted slope is published in DRIFT. -/
def execDriftBinEnd (n : Nat) (s : State) : Host.Outcome State Fault Refusal :=
  next (live s fun s => cupResult s 2 n 0 fun s => driftBinEnd s n)

/-- MTIE_STEP (R136). At a multiple of tau/10 MTIE(tau) is published. -/
def execMtieStep (n : Nat) (i : Nat) (s : State) : Host.Outcome State Fault Refusal :=
  next (live s fun s => cupResult s 3 n i fun s => mtieStepEnd s n i)

/-- TDEV_BLOCK_END (R136). A TDEV block ends and TDEV(tau) is published. -/
def execTdevBlockEnd (n : Nat) (i : Nat) (s : State) : Host.Outcome State Fault Refusal :=
  next (live s fun s => cupResult s 4 n i fun s => tdevBlockEnd s n i)

/-- CUP_EVALUATION (R137). E12 evaluates the cup score and fires at most one state transition. -/
def execCupEvaluation (n : Nat) (s : State) : Host.Outcome State Fault Refusal :=
  next (live s fun s => cupTick s n)

/-- QUALIFY_TIME_EXPIRY (R140). The score held above threshold for QUALIFY_TIME moves the channel to QUALIFIED. -/
def execQualifyTimeExpiry (n : Nat) (s : State) : Host.Outcome State Fault Refusal :=
  next (live s fun s => cupQualifyExpiry s n)

/-- LOS_CLEAR_TIME_EXPIRY (R140). No LOS for LOS_CLEAR_TIME returns the channel to QUALIFYING. -/
def execLosClearTimeExpiry (n : Nat) (s : State) : Host.Outcome State Fault Refusal :=
  next (live s fun s => cupClearExpiry s n)

/-- CUP_STATE_ARRIVES (R143). A change of cupping state or score reaches the DPLLs on S over link 6. -/
def execCupStateArrives (n : Nat) (s : State) : Host.Outcome State Fault Refusal :=
  next (live s fun s => dpCupArrives s n)

end Sys2Proof.Machine
end

