-- ==== Sys2Proof/Machine/RowsDpll.lean ====
section
/-! DEFINITION. What each command does, one definition for each row of the table: the DPLLs (chapter 05). -/

namespace Sys2Proof.Machine

/-- DPLL_UPDATE (R149). Every 1 us the DPLL handles events in the order of R166, selects, pours, samples and runs its loop filter. -/
def execDpllUpdate (k : Nat) (samples : List PhaseSample) (s : State) : Host.Outcome State Fault Refusal :=
  next (live s fun s => dpllUpdate s k samples)

/-- WTR_EXPIRY (R161). A candidate's wait-to-restore timer reaches 0 and it becomes selectable. -/
def execWtrExpiry (k : Nat) (e : Nat) (s : State) : Host.Outcome State Fault Refusal :=
  next (live s fun s => dpWtrExpiry s k e)

/-- HOLD_OFF_EXPIRY (R165). The hold-off ends and selection may choose another candidate. -/
def execHoldOffExpiry (k : Nat) (s : State) : Host.Outcome State Fault Refusal :=
  next (live s fun s => dpHoldoffEnd s k)

/-- ACQ_TIMEOUT (R172). ACQ_TIMEOUT in ACQUIRING restarts the candidate's WTR and moves selection on. -/
def execAcqTimeout (k : Nat) (s : State) : Host.Outcome State Fault Refusal :=
  next (live s fun s => dpAcqTimeout s k)

/-- DPLL_ENABLE_WRITE (R169). A write of DPLL ENABLE sends the DPLL to FREERUN or lets it acquire. -/
def execDpllEnableWrite (via : Iface) (k : Nat) (d : Datum) (s : State) : Host.Outcome State Fault Refusal :=
  next (live s fun s => namedWrite s via 0x3400 16 k 1 d)

/-- SWITCH_MODE_WRITE (R164). A write of SWITCH_MODE ends the hold-off and applies AUTOMATIC, MANUAL or FORCED selection. -/
def execSwitchModeWrite (via : Iface) (k : Nat) (d : Datum) (s : State) : Host.Outcome State Fault Refusal :=
  next (live s fun s => namedWrite s via 0x3400 16 k 2 d)

/-- CANDIDATE_WRITE (R158). A candidate word is checked and takes effect at the next update. -/
def execCandidateWrite (via : Iface) (k : Nat) (e : Nat) (d : Datum) (s : State) : Host.Outcome State Fault Refusal :=
  next (live s fun s => if e < 16 then namedWrite s via 0x3410 16 k (e + 1) d else s)

/-- OPEN_LOOP (R182). DPLL COMMAND OPEN_LOOP moves the DPLL into SOFTWARE with SW_FFO loaded from FREQ_CONTROL. -/
def execOpenLoop (via : Iface) (k : Nat) (s : State) : Host.Outcome State Fault Refusal :=
  next (live s fun s => namedCommand s via 0x3400 16 k 0x18 1)

/-- CLOSE_LOOP (R183). DPLL COMMAND CLOSE_LOOP leaves SOFTWARE for POURING or HOLDOVER. -/
def execCloseLoop (via : Iface) (k : Nat) (s : State) : Host.Outcome State Fault Refusal :=
  next (live s fun s => namedCommand s via 0x3400 16 k 0x18 2)

/-- FORCE_FREERUN (R170). DPLL COMMAND FORCE_FREERUN sets a command hold in FREERUN. -/
def execForceFreerun (via : Iface) (k : Nat) (s : State) : Host.Outcome State Fault Refusal :=
  next (live s fun s => namedCommand s via 0x3400 16 k 0x18 3)

/-- FORCE_HOLDOVER (R170). DPLL COMMAND FORCE_HOLDOVER sets a command hold in HOLDOVER. -/
def execForceHoldover (via : Iface) (k : Nat) (s : State) : Host.Outcome State Fault Refusal :=
  next (live s fun s => namedCommand s via 0x3400 16 k 0x18 4)

/-- RELEASE (R170). DPLL COMMAND RELEASE removes the command hold. -/
def execRelease (via : Iface) (k : Nat) (s : State) : Host.Outcome State Fault Refusal :=
  next (live s fun s => namedCommand s via 0x3400 16 k 0x18 5)

/-- CLEAR_WTR (R161). DPLL COMMAND CLEAR_WTR ends every WTR timer of the DPLL. -/
def execClearWtr (via : Iface) (k : Nat) (s : State) : Host.Outcome State Fault Refusal :=
  next (live s fun s => namedCommand s via 0x3400 16 k 0x18 6)

/-- DPLL_TAMP (R180). A write of DPLL TAMP steps the output and OFFSET at the next update. -/
def execDpllTamp (via : Iface) (k : Nat) (d : Datum) (s : State) : Host.Outcome State Fault Refusal :=
  next (live s fun s => namedWrite s via 0x3400 16 k 0x17 d)

/-- SW_FFO_WRITE (R182). A write of SW_FFO in SOFTWARE sets the frequency at the next update. -/
def execSwFfoWrite (via : Iface) (k : Nat) (d : Datum) (s : State) : Host.Outcome State Fault Refusal :=
  next (live s fun s => namedWrite s via 0x3400 16 k 0x16 d)

/-- FAULT_HOLD_ARRIVES (R170). A fault-collector forced-holdover request reaches S and holds the DPLL. -/
def execFaultHoldArrives (k : Nat) (s : State) : Host.Outcome State Fault Refusal :=
  next (live s fun s => faultHold s k true)

/-- FAULT_HOLD_REMOVED (R170). Removal of the fault hold reaches S and the DPLL may leave HOLDOVER or FREERUN. -/
def execFaultHoldRemoved (k : Nat) (s : State) : Host.Outcome State Fault Refusal :=
  next (live s fun s => faultHold s k false)

end Sys2Proof.Machine
end

