-- ==== Sys2Proof/Machine/RowsEngine.lean ====
section
/-! DEFINITION. What each command does, one definition for each row of the table: engines and the hub arbiter (chapter 13). -/

namespace Sys2Proof.Machine

/-- ENGINE_WATCHDOG (R400). An engine misses its watchdog for WATCHDOG_TIME and is restarted alone. -/
def execEngineWatchdog (e : Nat) (s : State) : Host.Outcome State Fault Refusal :=
  next (live s fun s => engineWatchdog s e)

/-- ENGINE_RESTART_DONE (R401). A restarted engine resumes its work. -/
def execEngineRestartDone (e : Nat) (s : State) : Host.Outcome State Fault Refusal :=
  next (live s fun s => engineBack s e)

/-- ENGINE_OVERLOAD (R399). LOAD above 95 % for 1 s sends ENGINE_OVERLOAD. -/
def execEngineOverload (e : Nat) (load : Nat) (s : State) : Host.Outcome State Fault Refusal :=
  next (live s fun s => engineOverload s e load)

/-- CONTEXT_STORE_REQUEST (R405). A requester asks for the context store and is granted by class and round robin. -/
def execContextStoreRequest (reqs : List StoreReq) (s : State) : Host.Outcome State Fault Refusal :=
  next (live s fun s => storeCycle s reqs)

/-- REQUESTER_AGED (R406). A requester waiting STARVE_LIMIT cycles enters AGED. -/
def execRequesterAged (q : Nat) (s : State) : Host.Outcome State Fault Refusal :=
  next (live s fun s => requesterAged s q)

/-- LOCK_REQUEST (R413). A lock request is granted, queued or refused. -/
def execLockRequest (q : Nat) (id : Nat) (s : State) : Host.Outcome State Fault Refusal :=
  next (live s fun s => lockRequest s q id)

/-- LOCK_RELEASE (R414). Release of an operation's locks writes its gathered lines and grants waiters. -/
def execLockRelease (q : Nat) (abort : Bool) (s : State) : Host.Outcome State Fault Refusal :=
  next (live s fun s => lockRelease s q abort)

/-- HOLD_LIMIT_EXPIRY (R415). A lock held for HOLD_LIMIT with a waiter triggers a lock break. -/
def execHoldLimitExpiry (s : State) : Host.Outcome State Fault Refusal :=
  next (live s fun s => holdLimit s)

/-- ARBITER_SNAPSHOT (R412). Arbiter COMMAND SNAPSHOT copies every requester counter. -/
def execArbiterSnapshot (via : Iface) (s : State) : Host.Outcome State Fault Refusal :=
  next (live s fun s => namedCommand s via 0x2400 1 0 8 1)

/-- ARBITER_CLEAR_COUNTERS (R416). Arbiter COMMAND CLEAR_COUNTERS zeroes the requester and engine counters. -/
def execArbiterClearCounters (via : Iface) (s : State) : Host.Outcome State Fault Refusal :=
  next (live s fun s => namedCommand s via 0x2400 1 0 8 2)

/-- ASSIGN_WRITE (R398). A write of ASSIGN fixes the engine choice for contexts. -/
def execAssignWrite (via : Iface) (d : Datum) (s : State) : Host.Outcome State Fault Refusal :=
  next (live s fun s => namedWrite s via 0x2420 1 0 1 d)

/-- CLASS_WRITE (R410). A write of a requester CLASS may clear HOST_GUARANTEE. -/
def execClassWrite (via : Iface) (q : Nat) (d : Datum) (s : State) : Host.Outcome State Fault Refusal :=
  next (live s fun s => namedWrite s via 0x2430 24 q 1 d)

end Sys2Proof.Machine
end

