-- ==== Sys2Proof/Machine/RowsFabric.lean ====
section
/-! DEFINITION. What each command does, one definition for each row of the table: the fabric (chapter 10). -/

namespace Sys2Proof.Machine

/-- FAB_MODE_WRITE (R293). A write of fabric port MODE starts training or ends UP without audit. -/
def execFabModeWrite (via : Iface) (p : Nat) (d : Datum) (s : State) : Host.Outcome State Fault Refusal :=
  next (live s fun s => namedWrite s via 0x3804 4 p 1 d)

/-- TX_APLL_WRITE (R294). A write of TX_APLL changes the transmit reference and retrains the port. -/
def execTxApllWrite (via : Iface) (p : Nat) (d : Datum) (s : State) : Host.Outcome State Fault Refusal :=
  next (live s fun s => namedWrite s via 0x3804 4 p 4 d)

/-- FAB_TRAINING_ATTEMPT_END (R299). A fabric training attempt ends, the port reaching UP with a credit audit or retrying. -/
def execFabTrainingAttemptEnd (p : Nat) (ok : Bool) (x : FabInit) (s : State) : Host.Outcome State Fault Refusal :=
  next (timed s fun s => fabTrained s p ok x)

/-- FAB_TRAINING_RETRY_TIMER (R299). A failed fabric training attempt is repeated after 100 ms. -/
def execFabTrainingRetryTimer (p : Nat) (s : State) : Host.Outcome State Fault Refusal :=
  next (timed s fun s => fabRetry s p)

/-- FAB_BER_FAIL (R299). 16 invalid sync headers in 125 us send the port from UP to TRAINING. -/
def execFabBerFail (p : Nat) (s : State) : Host.Outcome State Fault Refusal :=
  next (timed s fun s => fabRetrain s p)

/-- FAB_HELLO_TIMEOUT (R299). No HELLO for 30 ms sends the port to TRAINING. -/
def execFabHelloTimeout (p : Nat) (s : State) : Host.Outcome State Fault Refusal :=
  next (timed s fun s => fabRetrain s p)

/-- FAB_PORT_RETRAIN (R337). Port COMMAND RETRAIN sends an UP fabric port to TRAINING. -/
def execFabPortRetrain (via : Iface) (p : Nat) (s : State) : Host.Outcome State Fault Refusal :=
  next (live s fun s => namedCommand s via 0x3804 4 p 0x11 1)

/-- FAB_PORT_CLEAR_COUNTERS (R337). Port COMMAND CLEAR_COUNTERS zeroes the port counters. -/
def execFabPortClearCounters (via : Iface) (p : Nat) (s : State) : Host.Outcome State Fault Refusal :=
  next (live s fun s => namedCommand s via 0x3804 4 p 0x11 2)

/-- TX_REFERENCE_CHANGE (R294). The named APLL leaves or regains lock and the transmitter changes reference with a retrain. -/
def execTxReferenceChange (p : Nat) (s : State) : Host.Outcome State Fault Refusal :=
  next (timed s fun s => txFollow s p)

/-- CREDIT_RX (R300). A CREDIT ordered set sets RETURNED for its class. -/
def execCreditRx (p : Nat) (cls : Nat) (freed : Nat) (s : State) : Host.Outcome State Fault Refusal :=
  next (timed s fun s => creditRx s p cls freed)

/-- CREDIT_REPORT_TIMER (R300). Every 10 us the receiver sends CREDIT for each class. -/
def execCreditReportTimer (s : State) : Host.Outcome State Fault Refusal :=
  next (timed s fun s => creditReport s)

/-- FAB_FRAME_RX (R297). A whole fabric frame is received and consumed, forwarded or discarded. -/
def execFabFrameRx (p : Nat) (f : FabFrame) (bad : Bool) (s : State) : Host.Outcome State Fault Refusal :=
  next (timed s fun s => fabFrame serveRemote s p f bad)

/-- HELLO_RX (R307). A received HELLO updates root election and port role. -/
def execHelloRx (p : Nat) (d : Datum) (s : State) : Host.Outcome State Fault Refusal :=
  next (timed s fun s => fabFrameOf p 1 0x1 0 0 d serveRemote s)

/-- HELLO_TIMER (R307). Every 10 ms each UP port sends HELLO from its template. -/
def execHelloTimer (s : State) : Host.Outcome State Fault Refusal :=
  next (timed s fun s => helloTimer s)

/-- ROOT_SEQ_TIMER (R307). Every 10 ms the root advances ROOT_SEQ. -/
def execRootSeqTimer (s : State) : Host.Outcome State Fault Refusal :=
  next (timed s fun s => rootSeqTimer s)

/-- ROOT_TIMEOUT (R307). ROOT_SEQ not advancing for ROOT_TIMEOUT drops the root and reruns election. -/
def execRootTimeout (s : State) : Host.Outcome State Fault Refusal :=
  next (timed s fun s => rootTimeout s)

/-- ROUTE_UPDATE_RX (R312). A received ROUTE_UPDATE changes the vector and starts a rebuild. -/
def execRouteUpdateRx (p : Nat) (d : Datum) (s : State) : Host.Outcome State Fault Refusal :=
  next (timed s fun s => fabFrameOf p 1 0x2 0 0 d serveRemote s)

/-- ROUTE_UPDATE_TIMER (R312). Every 100 ms the device sends ROUTE_UPDATE. -/
def execRouteUpdateTimer (s : State) : Host.Outcome State Fault Refusal :=
  next (timed s fun s => routeUpdateTimer s)

/-- ROUTE_EXPIRY (R312). A route not refreshed for 350 ms expires. -/
def execRouteExpiry (p : Nat) (addr : Nat) (s : State) : Host.Outcome State Fault Refusal :=
  next (timed s fun s => routeExpiry s p addr)

/-- ROUTE_REBUILD_DONE (R313). A rebuild completes, the tables swap and pending frames are released. -/
def execRouteRebuildDone (s : State) : Host.Outcome State Fault Refusal :=
  next (timed s fun s => rebuildDone s)

/-- PENDING_FRAME_EXPIRY (R314). A pending frame without route for 256 us is dropped and counted in NOROUTE. -/
def execPendingFrameExpiry (s : State) : Host.Outcome State Fault Refusal :=
  next (timed s fun s => pendingExpiry s)

/-- ADDRESS_REQUEST_RX (R311). A received ADDRESS_REQUEST is relayed upward or granted by the root. -/
def execAddressRequestRx (p : Nat) (d : Datum) (s : State) : Host.Outcome State Fault Refusal :=
  next (timed s fun s => fabFrameOf p 1 0x3 0 0 d serveRemote s)

/-- ADDRESS_GRANT_RX (R311). A received ADDRESS_GRANT is relayed down or assigns this device's address. -/
def execAddressGrantRx (p : Nat) (d : Datum) (s : State) : Host.Outcome State Fault Refusal :=
  next (timed s fun s => fabFrameOf p 1 0x4 0 0 d serveRemote s)

/-- ADDRESS_RETRY_TIMER (R311). Without an address the device retries its request every 1 s. -/
def execAddressRetryTimer (s : State) : Host.Outcome State Fault Refusal :=
  next (timed s fun s => addressRetry s)

/-- ADDRESS_HOLD_EXPIRY (R311). The root releases an assignment not heard for ADDRESS_HOLD. -/
def execAddressHoldExpiry (ident : Nat) (s : State) : Host.Outcome State Fault Refusal :=
  next (timed s fun s => addressHold s ident)

/-- DISCOVERY_DONE (R310). No route change for 100 ms after addressing ends discovery DONE. -/
def execDiscoveryDone (s : State) : Host.Outcome State Fault Refusal :=
  next (timed s fun s => discoveryDone s)

/-- REDISCOVER (R334). Fabric COMMAND REDISCOVER releases the address and requests again. -/
def execRediscover (via : Iface) (s : State) : Host.Outcome State Fault Refusal :=
  next (live s fun s => namedCommand s via 0x3800 1 0 0x14 1)

/-- FAB_CLEAR_COUNTERS (R334). Fabric COMMAND CLEAR_COUNTERS zeroes the routing and port counters. -/
def execFabClearCounters (via : Iface) (s : State) : Host.Outcome State Fault Refusal :=
  next (live s fun s => namedCommand s via 0x3800 1 0 0x14 2)

/-- SLOT_FRAME_BOUNDARY (R305). At a slot-frame boundary a pending slot table becomes ACTIVE. -/
def execSlotFrameBoundary (s : State) : Host.Outcome State Fault Refusal :=
  next (timed s fun s => slotBoundary s)

/-- SLOT_TABLE_COMMIT (R305). Slot COMMIT copies SHADOW into the pending table. -/
def execSlotTableCommit (via : Iface) (p : Nat) (s : State) : Host.Outcome State Fault Refusal :=
  next (live s fun s => namedCommand s via 0x3808 4 p 3 1)

/-- LINK_TIMING_SLOT (R315). At the LINK_TIMING slot the port sends MARKER REQUEST and stamps t1. -/
def execLinkTimingSlot (p : Nat) (s : State) : Host.Outcome State Fault Refusal :=
  next (timed s fun s => linkTiming s p)

/-- TIME_DOWN_SLOT (R304). At the TIME_DOWN slot a CHILD port sends TIME_DOWN. -/
def execTimeDownSlot (p : Nat) (s : State) : Host.Outcome State Fault Refusal :=
  next (timed s fun s => timeDownSlot s p)

/-- MARKER_REQUEST_RX (R315). A received MARKER REQUEST is stamped and answered with MARKER RESPONSE. -/
def execMarkerRequestRx (p : Nat) (seq : Nat) (time : Int) (phi : Int) (s : State) : Host.Outcome State Fault Refusal :=
  next (timed s fun s => markerRequest s p seq time phi)

/-- MARKER_RESPONSE_RX (R315). A received MARKER RESPONSE is stamped t4. -/
def execMarkerResponseRx (p : Nat) (seq : Nat) (time : Int) (s : State) : Host.Outcome State Fault Refusal :=
  next (timed s fun s => markerResponse s p seq time)

/-- TIMING_FOLLOW_UP_RX (R316). A TIMING_FOLLOW_UP completes an exchange, updating MEAN_DELAY and the offset. -/
def execTimingFollowUpRx (p : Nat) (d : Datum) (phi : Int) (s : State) : Host.Outcome State Fault Refusal :=
  next (timed s fun s => fabFrameOf p 0 0x10 0 0 d serveRemote (s.setPort p fun x => { x with phi := phi }))

/-- EXCHANGE_FOLLOW_UP_TIMEOUT (R315). A follow-up not arriving within two slot frames discards the exchange. -/
def execExchangeFollowUpTimeout (p : Nat) (s : State) : Host.Outcome State Fault Refusal :=
  next (timed s fun s => exchangeTimeout s p)

/-- TIME_DOWN_RX (R307). A received TIME_DOWN refreshes root and ROOT_SEQ. -/
def execTimeDownRx (p : Nat) (d : Datum) (s : State) : Host.Outcome State Fault Refusal :=
  next (timed s fun s => fabFrameOf p 0 0x11 0 0 d serveRemote s)

/-- OD_REQUEST_RX (R323). E15 serves a remote object request, from its store if repeated. -/
def execOdRequestRx (p : Nat) (src : Nat) (d : Datum) (s : State) : Host.Outcome State Fault Refusal :=
  next (timed s fun s => fabFrameOf p (if d.len ≤ 82 then 1 else 3) 0x20 (s.fb 0x0A) src d serveRemote s)

/-- OD_RESPONSE_RX (R324). A remote response completes a request slot DONE or FAILED. -/
def execOdResponseRx (p : Nat) (src : Nat) (d : Datum) (s : State) : Host.Outcome State Fault Refusal :=
  next (timed s fun s => fabFrameOf p (if d.len ≤ 76 then 1 else 3) 0x21 (s.fb 0x0A) src d serveRemote s)

/-- STAMP_BATCH_RX (R325). A received STAMP_BATCH frame is consumed at its destination. -/
def execStampBatchRx (p : Nat) (src : Nat) (d : Datum) (s : State) : Host.Outcome State Fault Refusal :=
  next (timed s fun s => fabFrameOf p 2 0x30 (s.fb 0x0A) src d serveRemote s)

/-- REQUEST_READ (R324). Request slot COMMAND READ sends a remote read. -/
def execRequestRead (via : Iface) (r : Nat) (s : State) : Host.Outcome State Fault Refusal :=
  next (live s fun s => namedCommand s via 0x3820 4 r 5 1)

/-- REQUEST_WRITE (R324). Request slot COMMAND WRITE sends a remote write. -/
def execRequestWrite (via : Iface) (r : Nat) (s : State) : Host.Outcome State Fault Refusal :=
  next (live s fun s => namedCommand s via 0x3820 4 r 5 2)

/-- REQUEST_CANCEL (R324). Request slot COMMAND CANCEL returns the slot to IDLE. -/
def execRequestCancel (via : Iface) (r : Nat) (s : State) : Host.Outcome State Fault Refusal :=
  next (live s fun s => namedCommand s via 0x3820 4 r 5 3)

/-- REQUEST_TIMEOUT (R324). A request attempt's TIMEOUT expires and it is resent or fails. -/
def execRequestTimeout (r : Nat) (s : State) : Host.Outcome State Fault Refusal :=
  next (timed s fun s => requestTimeout serveRemote s r)

/-- BLEND_MEASURE_DONE (R326). The winning end averages 64 exchanges and sends BLEND_PROPOSAL. -/
def execBlendMeasureDone (s : State) : Host.Outcome State Fault Refusal :=
  next (timed s fun s => blendMeasured s)

/-- BLEND_PROPOSAL_RX (R327). The winning root accepts a proposal and broadcasts BLEND_ANNOUNCE. -/
def execBlendProposalRx (p : Nat) (d : Datum) (s : State) : Host.Outcome State Fault Refusal :=
  next (timed s fun s => fabFrameOf p 1 8 0 0 d serveRemote s)

/-- BLEND_ANNOUNCE_RX (R327). A losing device records the blend and enters ANNOUNCED, acting at once if late. -/
def execBlendAnnounceRx (p : Nat) (dest : Nat) (d : Datum) (s : State) : Host.Outcome State Fault Refusal :=
  next (timed s fun s => fabFrameOf p 1 9 dest 0 d serveRemote s)

/-- BLEND_INSTANT (R328). The losing counter reaches INSTANT_L and begins the pour or steps. -/
def execBlendInstant (s : State) : Host.Outcome State Fault Refusal :=
  next (timed s fun s => blendInstant s)

/-- BLEND_POUR_DONE (R331). The blend pour ends and the device waits for the next slot-frame boundary. -/
def execBlendPourDone (s : State) : Host.Outcome State Fault Refusal :=
  next (timed s fun s => blendPoured s)

/-- BLEND_END (R331). At the boundary after the pour or 1 s after the step the device adopts the winning root. -/
def execBlendEnd (s : State) : Host.Outcome State Fault Refusal :=
  next (timed s fun s => blendEnd s)

/-- BLEND_ALIGN (R329). Every APLL concerned past RETURN_HOLD, BLEND_ALIGN_GROUPS is written to ALIGN_GROUPS. -/
def execBlendAlign (s : State) : Host.Outcome State Fault Refusal :=
  next (timed s fun s => blendAlign s)

/-- OD_STORE_ENTRY_EXPIRY (R323). A remote-access store entry unused for 45 s expires, and a request waiting for a free entry is then applied. -/
def execOdStoreEntryExpiry (s : State) : Host.Outcome State Fault Refusal :=
  next (timed s fun s => odExpiry serveRemote s)

end Sys2Proof.Machine
end

