-- ==== Sys2Proof/Machine/RowsFault.lean ====
section
/-! DEFINITION. What each command does, one definition for each row of the table: the fault collector (chapter 14). -/

namespace Sys2Proof.Machine

/-- FAULT_MESSAGE (R425). The collector takes a fault message, classifies it, reacts and hands it to the listeners. -/
def execFaultMessage (s : State) : Host.Outcome State Fault Refusal :=
  next (live s fun s => faultMessage s)

/-- INJECT (R441). A write of INJECT passes the message through the collector as if from its source. -/
def execInject (via : Iface) (d : Datum) (s : State) : Host.Outcome State Fault Refusal :=
  next (live s fun s => namedWrite s via 0x2200 1 0 0x0B d)

/-- UNACK_W1C_WRITE (R427). A write of 1 to an unacknowledged bit acknowledges that source at that level. -/
def execUnackW1cWrite (via : Iface) (level : Nat) (w : Nat) (d : Datum) (s : State) : Host.Outcome State Fault Refusal :=
  next (live s fun s => if 1 ≤ level ∧ level ≤ 3 ∧ w < 32 then namedWrite s via 0x2202 4 level (w + 1) d else s)

/-- ACK_ALL (R427). Collector COMMAND ACK_ALL acknowledges every source at every level. -/
def execAckAll (via : Iface) (s : State) : Host.Outcome State Fault Refusal :=
  next (live s fun s => namedCommand s via 0x2200 1 0 0x0A 1)

/-- RECOVER (R439). Collector COMMAND RECOVER ends the fault state at once. -/
def execRecover (via : Iface) (s : State) : Host.Outcome State Fault Refusal :=
  next (live s fun s => namedCommand s via 0x2200 1 0 0x0A 2)

/-- CLEAR_STICKY (R442). Collector COMMAND CLEAR_STICKY zeroes the sticky bits. -/
def execClearSticky (via : Iface) (s : State) : Host.Outcome State Fault Refusal :=
  next (live s fun s => namedCommand s via 0x2200 1 0 0x0A 3)

/-- COLLECTOR_CLEAR_COUNTERS (R442). Collector COMMAND CLEAR_COUNTERS zeroes the collector and source counts. -/
def execCollectorClearCounters (via : Iface) (s : State) : Host.Outcome State Fault Refusal :=
  next (live s fun s => namedCommand s via 0x2200 1 0 0x0A 4)

/-- QUIET_PERIOD_EXPIRY (R440). The quiet period runs out and the device leaves the fault state. -/
def execQuietPeriodExpiry (s : State) : Host.Outcome State Fault Refusal :=
  next (live s fun s => quietExpiry s)

/-- SHADOW_EXPIRY (R432). A reaction shadow's 10 us ends. -/
def execShadowExpiry (s : State) : Host.Outcome State Fault Refusal :=
  next (live s fun s => shadowExpiry s)

/-- SOURCE_CONFIG_WRITE (R426). A write of a source CONFIG sets its reaction and clears its count history. -/
def execSourceConfigWrite (via : Iface) (d : Datum) (s : State) : Host.Outcome State Fault Refusal :=
  next (live s fun s => namedWrite s via 0x2210 1 0 2 d)

/-- SOURCE_SELECT_WRITE (R444). A write of SOURCE_SELECT refreshes COUNTS and STATE. -/
def execSourceSelectWrite (via : Iface) (d : Datum) (s : State) : Host.Outcome State Fault Refusal :=
  next (live s fun s => namedWrite s via 0x2210 1 0 1 d)

/-- FABRIC_LISTENER_SEND (R436). The fabric listener writes a queued record to FABRIC_DEST with retries. -/
def execFabricListenerSend (s : State) : Host.Outcome State Fault Refusal :=
  next (live s fun s => fabricListenerSend s)

/-- INBOX_WRITE (R445). A write of INBOX_WRITE appends a fault record to the inbox. -/
def execInboxWrite (via : Iface) (d : Datum) (s : State) : Host.Outcome State Fault Refusal :=
  next (live s fun s => namedWrite s via 0x2230 1 0 1 d)

/-- INBOX_READ (R445). A read of INBOX_READ pops the oldest inbox record. -/
def execInboxRead (via : Iface) (s : State) : Host.Outcome State Fault Refusal :=
  next (live s fun s => namedRead s via 0x2230 1 0 2)

/-- DIE_TEMP_REFRESH (R424). Every 1 ms die temperatures refresh and DIE_TEMP_HIGH may be sent. -/
def execDieTempRefresh (temps : List Int) (s : State) : Host.Outcome State Fault Refusal :=
  next (live s fun s => dieTemps s temps)

end Sys2Proof.Machine
end

