-- ==== Sys2Proof/Machine/RowsHoldover.lean ====
section
/-! DEFINITION. What each command does, one definition for each row of the table: holdover and the carafe (chapter 06). -/

namespace Sys2Proof.Machine

/-- CARAFE_SECOND (R190). At each carafe second S forms a sample of mean FREQ_CONTROL and temperature per DPLL. -/
def execCarafeSecond (s : State) : Host.Outcome State Fault Refusal :=
  next (live s fun s => carafeSecond s)

/-- CARAFE_SAMPLE_ARRIVES (R191). A carafe sample reaches H and is recorded valid or invalid in tier 1 and tier 2. -/
def execCarafeSampleArrives (k : Nat) (s : State) : Host.Outcome State Fault Refusal :=
  next (live s fun s => carafeArrive s k)

/-- HOLDOVER_PREPARE (R196). At each carafe second E13 prepares a holdover value and sends it to the DPLL island. -/
def execHoldoverPrepare (k : Nat) (s : State) : Host.Outcome State Fault Refusal :=
  next (live s fun s => holdPrepare s k)

/-- PREPARED_VALUE_ARRIVES (R197). A prepared holdover value reaches the DPLL island and replaces the previous one. -/
def execPreparedValueArrives (k : Nat) (s : State) : Host.Outcome State Fault Refusal :=
  next (live s fun s => holdPrepArrive s k)

/-- HOLDOVER_CORRECTION (R198). Every carafe second in HOLDOVER E13 sends a corrected holdover value. -/
def execHoldoverCorrection (k : Nat) (s : State) : Host.Outcome State Fault Refusal :=
  next (live s fun s => holdCorrect s k)

/-- HOLDOVER_ALARM (R203). ELAPSED reaches HOLDOVER_ALARM and the alarm is set and sent once. -/
def execHoldoverAlarm (k : Nat) (s : State) : Host.Outcome State Fault Refusal :=
  next (live s fun s => holdAlarm s k)

/-- FIT (R200). Holdover COMMAND FIT queues a model fit for the DPLL. -/
def execFit (via : Iface) (k : Nat) (s : State) : Host.Outcome State Fault Refusal :=
  next (live s fun s => namedCommand s via 0x3430 16 k 0x0E 1)

/-- FIT_INTERVAL_TIMER (R200). Every FIT_INTERVAL seconds an automatic fit is queued. -/
def execFitIntervalTimer (k : Nat) (s : State) : Host.Outcome State Fault Refusal :=
  next (live s fun s => fitTimer s k)

/-- FIT_COMPLETE (R199). A model fit ends, publishing the model or setting FIT_FAILED. -/
def execFitComplete (k : Nat) (s : State) : Host.Outcome State Fault Refusal :=
  next (live s fun s => fitComplete s k)

/-- CLEAR_CARAFE (R207). Holdover COMMAND CLEAR_CARAFE empties both tiers and sets CARAFE_CLEARED. -/
def execClearCarafe (via : Iface) (k : Nat) (s : State) : Host.Outcome State Fault Refusal :=
  next (live s fun s => namedCommand s via 0x3430 16 k 0x0E 2)

/-- CLEAR_MODEL (R201). Holdover COMMAND CLEAR_MODEL zeroes the model and MODEL_VALID. -/
def execClearModel (via : Iface) (k : Nat) (s : State) : Host.Outcome State Fault Refusal :=
  next (live s fun s => namedCommand s via 0x3430 16 k 0x0E 3)

/-- CARAFE_WRITE (R194). A write of CARAFE restores tier 2 from a copy while the DPLL is disabled. -/
def execCarafeWrite (via : Iface) (k : Nat) (d : Datum) (s : State) : Host.Outcome State Fault Refusal :=
  next (live s fun s => namedWrite s via 0x3430 16 k 0x1F d)

/-- MODEL_VALID_WRITE (R201). A write of MODEL_VALID puts a restored model in force from the next entry. -/
def execModelValidWrite (via : Iface) (k : Nat) (d : Datum) (s : State) : Host.Outcome State Fault Refusal :=
  next (live s fun s => namedWrite s via 0x3430 16 k 0x20 d)

/-- HOST_TEMP_WRITE (R192). A write of HOST_TEMP supplies the carafe temperature and clears staleness. -/
def execHostTempWrite (via : Iface) (k : Nat) (d : Datum) (s : State) : Host.Outcome State Fault Refusal :=
  next (live s fun s => namedWrite s via 0x3430 16 k 0x0A d)

/-- TEMP_STALE_TIMER (R192). HOST_TEMP not written for 10 s sets TEMP_STALE. -/
def execTempStaleTimer (k : Nat) (s : State) : Host.Outcome State Fault Refusal :=
  next (live s fun s => tempStale s k)

/-- BASE_CHANGE_TO_MXO (R218). SOSC absent moves the bypass clock and S system clock base to the MXO, clearing carafes and relocking the reference. -/
def execBaseChangeToMxo (s : State) : Host.Outcome State Fault Refusal :=
  next (live s fun s => baseToMxo s)

/-- BASE_CHANGE_TO_SOSC (R218). SOSC present for 10 s moves the bypass clock and S base back to SOSC, clearing carafes and relocking the reference. -/
def execBaseChangeToSosc (s : State) : Host.Outcome State Fault Refusal :=
  next (live s fun s => baseToSosc s)

end Sys2Proof.Machine
end

