-- ==== Sys2Proof/Machine/RowsHost.lean ====
section
/-! DEFINITION. What each command does, one definition for each row of the table: the object dictionary as the buses reach it (chapter 02). -/

namespace Sys2Proof.Machine

/-- OBJECT_WRITE (R489). A host or remote write to an entry that has no row of its own is checked in the order of R489 and, if accepted, posted and journalled. -/
def execObjectWrite (via : Iface) (index : Nat) (sub : Nat) (d : Datum) (s : State) : Host.Outcome State Fault Refusal :=
  next (live s fun s => objectWrite s via index sub d)

/-- WRITE_TAKES_EFFECT (R20). A posted write reaches its target island and takes effect, decrementing the interface's pending count. -/
def execWriteTakesEffect (via : Iface) (isl : Nat) (s : State) : Host.Outcome State Fault Refusal :=
  next (live s fun s => effectOf s via isl)

/-- HISTORY_W1C_WRITE (R89). A w1c write to a HISTORY entry clears the written bits unless an event sets them in the same cycle. -/
def execHistoryW1cWrite (via : Iface) (index : Nat) (sub : Nat) (d : Datum) (s : State) : Host.Outcome State Fault Refusal :=
  next (live s fun s => if histMask index ≠ 0 ∧ sub = 2 ∧ viaOn s via then writeNow s via index sub d else s)

/-- PARALLEL_READ_HALF0 (R57). A parallel-bus read of half 0 of a 32-bit entry captures the value into the read latch. -/
def execParallelReadHalf0 (index : Nat) (sub : Nat) (s : State) : Host.Outcome State Fault Refusal :=
  next (live s fun s => busRead s index sub false)

/-- PARALLEL_READ_HALF1 (R57). A parallel-bus read of half 1 returns latched bits or captures the value afresh. -/
def execParallelReadHalf1 (index : Nat) (sub : Nat) (s : State) : Host.Outcome State Fault Refusal :=
  next (live s fun s => busRead s index sub true)

/-- PARALLEL_WRITE_HALF0 (R58). A parallel-bus write to half 0 of a 32-bit entry is held in the write latch. -/
def execParallelWriteHalf0 (index : Nat) (sub : Nat) (hd : Nat) (s : State) : Host.Outcome State Fault Refusal :=
  next (live s fun s => busWriteLow s index sub hd)

/-- PARALLEL_WRITE_HALF1 (R58). A parallel-bus write to half 1 joins the latched half and posts one 32-bit write, or is refused. -/
def execParallelWriteHalf1 (index : Nat) (sub : Nat) (hd : Nat) (s : State) : Host.Outcome State Fault Refusal :=
  next (live s fun s => busWriteHigh s index sub hd)

/-- SPI_READ (R62). An SPI READ frame captures the value at byte 3 and returns it. -/
def execSpiRead (index : Nat) (sub : Nat) (n : Nat) (s : State) : Host.Outcome State Fault Refusal :=
  next (live s fun s => spiRead s index sub n)

/-- SPI_WRITE (R62). An SPI WRITE frame posts its data at the rising edge of SPI_CS_N or is refused for length. -/
def execSpiWrite (index : Nat) (sub : Nat) (d : Datum) (s : State) : Host.Outcome State Fault Refusal :=
  next (live s fun s => spiWrite s index sub d)

/-- SPI_STATUS (R63). An SPI STATUS frame returns the status byte in every byte. -/
def execSpiStatus (n : Nat) (s : State) : Host.Outcome State Fault Refusal :=
  next (live s fun s => spiStatusFrame s n)

/-- SPI_INVALID_FRAME (R62). An unknown opcode or a frame ended mid-byte is discarded with 0504 0001h. -/
def execSpiInvalidFrame (index : Nat) (sub : Nat) (s : State) : Host.Outcome State Fault Refusal :=
  next (live s fun s => spiInvalid s index sub)

/-- OPEN_READ (R66). Stream COMMAND OPEN_READ captures the target's value and sets STATE READING. -/
def execOpenRead (spi : Bool) (s : State) : Host.Outcome State Fault Refusal :=
  next (live s fun s => streamDo s spi 1)

/-- OPEN_WRITE (R66). Stream COMMAND OPEN_WRITE checks LENGTH against the target and sets STATE WRITING. -/
def execOpenWrite (spi : Bool) (s : State) : Host.Outcome State Fault Refusal :=
  next (live s fun s => streamDo s spi 2)

/-- CLOSE (R67). Stream COMMAND CLOSE abandons the transfer and leaves STATE CLOSED. -/
def execClose (spi : Bool) (s : State) : Host.Outcome State Fault Refusal :=
  next (live s fun s => streamDo s spi 3)

/-- STREAM_DATA_READ (R66). A read of stream DATA returns the next two bytes and ends in DONE past LENGTH. -/
def execStreamDataRead (spi : Bool) (n : Nat) (s : State) : Host.Outcome State Fault Refusal :=
  next (live s fun s => streamGet s spi n)

/-- STREAM_DATA_WRITE (R66). A write of stream DATA appends two bytes and posts the whole write when POSITION reaches LENGTH. -/
def execStreamDataWrite (spi : Bool) (d : Datum) (s : State) : Host.Outcome State Fault Refusal :=
  next (live s fun s => streamPut s spi d)

/-- DEVICE_RESET (R53). COMMAND DEVICE_RESET commits its journal record and resets the device with cause SOFTWARE. -/
def execDeviceReset (via : Iface) (s : State) : Host.Outcome State Fault Refusal :=
  next (live s fun s => namedCommand s via 0x2001 1 0 2 0x5A)

/-- CLEAR_ERROR_LIST (R72). Writing 0 to 1003h.00 clears the pre-defined error field. -/
def execClearErrorList (via : Iface) (d : Datum) (s : State) : Host.Outcome State Fault Refusal :=
  next (live s fun s => namedWrite s via 0x1003 1 0 0 d)

/-- STORE_PARAMETERS (R73). Writing save to 1010h captures the parameter images and requests a store. -/
def execStoreParameters (via : Iface) (sub : Nat) (d : Datum) (s : State) : Host.Outcome State Fault Refusal :=
  next (live s fun s => namedWrite s via 0x1010 1 0 sub d)

/-- RESTORE_DEFAULT_PARAMETERS (R73). Writing load to 1011h flags the images to be emptied at the next reset and requests a store. -/
def execRestoreDefaultParameters (via : Iface) (sub : Nat) (d : Datum) (s : State) : Host.Outcome State Fault Refusal :=
  next (live s fun s => namedWrite s via 0x1011 1 0 sub d)

/-- PROGRAM_DATA_WRITE (R385). Writing 1F50h program data passes chunks through the DOWNLOAD slots into the image not running. -/
def execProgramDataWrite (via : Iface) (d : Datum) (s : State) : Host.Outcome State Fault Refusal :=
  next (live s fun s => namedWrite s via 0x1F50 1 0 1 d)

/-- PROGRAM_START (R385). Program control START validates the downloaded image and marks it for the next reset. -/
def execProgramStart (via : Iface) (s : State) : Host.Outcome State Fault Refusal :=
  next (live s fun s => namedCommand s via 0x1F51 1 0 1 1)

/-- PROGRAM_STOP (R385). Program control STOP abandons the download and makes the image INVALID. -/
def execProgramStop (via : Iface) (s : State) : Host.Outcome State Fault Refusal :=
  next (live s fun s => namedCommand s via 0x1F51 1 0 1 0)

/-- PROGRAM_CLEAR (R385). Program control CLEAR erases the image header and makes it EMPTY. -/
def execProgramClear (via : Iface) (s : State) : Host.Outcome State Fault Refusal :=
  next (live s fun s => namedCommand s via 0x1F51 1 0 1 3)

/-- JOURNAL_COMMIT_TIMER (R387). 1 s after its first record a staged journal or event-log page is committed. -/
def execJournalCommitTimer (log : Bool) (s : State) : Host.Outcome State Fault Refusal :=
  next (live s fun s => logTimer s log)

end Sys2Proof.Machine
end

