-- ==== Sys2Proof/Machine/RowsLink.lean ====
section
/-! DEFINITION. What each command does, one definition for each row of the table: the die links, the mirrors and the conservation snapshot (chapter 01). -/

namespace Sys2Proof.Machine

/-- DIE_LINK_WORD_RECEIVED (R30). A die-link receiver takes a word, checks its parity and accepts it or refuses it and discards what follows. -/
def execDieLinkWordReceived (p : Path) (pos : Nat) (word : Nat) (parity : Bool) (s : State) : Host.Outcome State Fault Refusal :=
  next (live s fun s => pathWord s pos word parity p)

/-- LINK_REPLAY (R30). The sender replays a refused word and every word after it in original order. -/
def execLinkReplay (p : Path) (s : State) : Host.Outcome State Fault Refusal :=
  next (live s fun s => replayPath s p)

/-- LINK_ACK_RECEIVED (R29). A cumulative acknowledgement frees retained-buffer positions so the sender may send new words. -/
def execLinkAckReceived (p : Path) (n : Nat) (s : State) : Host.Outcome State Fault Refusal :=
  next (live s fun s => ackPath s n p)

/-- LINK_TRAINING_ATTEMPT_END (R32). A training attempt ends; on success the link is UP and resumes from the oldest unacknowledged word. -/
def execLinkTrainingAttemptEnd (l : Nat) (ok : Bool) (s : State) : Host.Outcome State Fault Refusal :=
  next (live s fun s => linkAttempt s l ok)

/-- LINK_DOWN_RETRY_TIMER (R33). Every 100 ms a DOWN link makes a further training attempt. -/
def execLinkDownRetryTimer (l : Nat) (ok : Bool) (s : State) : Host.Outcome State Fault Refusal :=
  next (live s fun s => linkRetryDown s l ok)

/-- LINK_RETRAIN (R37). COMMAND RETRAIN sends an UP die link into TRAINING. -/
def execLinkRetrain (via : Iface) (l : Nat) (s : State) : Host.Outcome State Fault Refusal :=
  next (live s fun s => namedCommand s via 0x2020 13 l 0x0C 1)

/-- LINK_CLEAR_COUNTERS (R36). COMMAND CLEAR_COUNTERS zeroes the link counters while keeping both word balances. -/
def execLinkClearCounters (via : Iface) (l : Nat) (s : State) : Host.Outcome State Fault Refusal :=
  next (live s fun s => namedCommand s via 0x2020 13 l 0x0C 2)

/-- ERROR_INJECT_SINGLE (R37). ERROR_INJECT SINGLE makes the forward receiver refuse the next word once. -/
def execErrorInjectSingle (via : Iface) (l : Nat) (s : State) : Host.Outcome State Fault Refusal :=
  next (live s fun s => namedCommand s via 0x2020 13 l 0x0D 1)

/-- ERROR_INJECT_EXHAUST (R37). ERROR_INJECT EXHAUST makes the forward receiver refuse the next word and its three replays. -/
def execErrorInjectExhaust (via : Iface) (l : Nat) (s : State) : Host.Outcome State Fault Refusal :=
  next (live s fun s => namedCommand s via 0x2020 13 l 0x0D 2)

/-- ERROR_INJECT_SINGLE_REVERSE (R37). ERROR_INJECT SINGLE_REVERSE makes the reverse receiver refuse the next word once. -/
def execErrorInjectSingleReverse (via : Iface) (l : Nat) (s : State) : Host.Outcome State Fault Refusal :=
  next (live s fun s => namedCommand s via 0x2020 13 l 0x0D 3)

/-- ERROR_INJECT_EXHAUST_REVERSE (R37). ERROR_INJECT EXHAUST_REVERSE makes the reverse receiver refuse the next word and its replays. -/
def execErrorInjectExhaustReverse (via : Iface) (l : Nat) (s : State) : Host.Outcome State Fault Refusal :=
  next (live s fun s => namedCommand s via 0x2020 13 l 0x0D 4)

/-- ERROR_INJECT_OFF (R37). A write of OFF to ERROR_INJECT cancels an injection that has not yet acted. -/
def execErrorInjectOff (via : Iface) (l : Nat) (s : State) : Host.Outcome State Fault Refusal :=
  next (live s fun s => namedCommand s via 0x2020 13 l 0x0D 0)

/-- MIRROR_REFRESH (R24). A status or counter record from S or a C die arrives and refreshes its hub mirror as a whole. -/
def execMirrorRefresh (index : Nat) (s : State) : Host.Outcome State Fault Refusal :=
  next (live s fun s => mirrorRefresh s index)

/-- SNAP_CHANNEL_WRITE (R45). A write to SNAP_CHANNEL latches hub counters and sends a latch request to the channel's C die. -/
def execSnapChannelWrite (via : Iface) (d : Datum) (s : State) : Host.Outcome State Fault Refusal :=
  next (live s fun s => namedWrite s via 0x2030 1 0 1 d)

/-- SNAPSHOT_LATCH_ARRIVES (R45). The latch request reaches the slice, which latches its counters and places a marker in the stamp stream. -/
def execSnapshotLatchArrives (s : State) : Host.Outcome State Fault Refusal :=
  next (live s fun s => snapLatch s)

/-- SNAPSHOT_MARKER_ARRIVES (R45). The snapshot marker reaches H, which publishes the snapshot and increments SNAP_GEN. -/
def execSnapshotMarkerArrives (s : State) : Host.Outcome State Fault Refusal :=
  next (live s fun s => snapMarker s)

end Sys2Proof.Machine
end

