-- ==== Sys2Proof/Machine/RowsMeasure.lean ====
section
/-! DEFINITION. What each command does, one definition for each row of the table: channel slices, stamps, gates and the measurement time base (chapter 03). -/

namespace Sys2Proof.Machine

/-- CHANNEL_EDGE (R97). An input edge reaches the decimator, which keeps or drops it and the TDC captures kept edges. -/
def execChannelEdge (n : Nat) (falling : Bool) (coarse : Nat) (bin : Nat) (frac : Nat) (s : State) : Host.Outcome State Fault Refusal :=
  next (live s fun s => edgeArrives s n falling coarse bin frac)

/-- STAMP_INGEST (R44). H takes a stamp from a die link, converts it to STAMP96 and writes it into the stamp buffer, offering it to every consumer. -/
def execStampIngest (n : Nat) (replays : Nat) (taken : Bool) (s : State) : Host.Outcome State Fault Refusal :=
  next (live s fun s => stampIngest s n replays taken)

/-- WATERMARK_RECEIVED (R117). A die's watermark arrives at H and closing gates whose deadline it passes enter DONE. -/
def execWatermarkReceived (c : Nat) (raw : Int) (lag : Nat) (s : State) : Host.Outcome State Fault Refusal :=
  next (live s fun s => watermark s c raw lag)

/-- STAMP_POP (R107). A read of STAMP_W0 or STAMP pops the oldest unread stamp of the channel into the interface's latch. -/
def execStampPop (via : Iface) (n : Nat) (whole : Bool) (s : State) : Host.Outcome State Fault Refusal :=
  next (live s fun s => namedRead s via 0x3200 96 n (if whole then 0x0E else 0x0B))

/-- CHANNEL_ROLE_WRITE (R95). A write of ROLE changes a channel's use, restarting its decimator or putting cupping in UNUSED. -/
def execChannelRoleWrite (via : Iface) (n : Nat) (d : Datum) (s : State) : Host.Outcome State Fault Refusal :=
  next (live s fun s => namedWrite s via 0x3000 96 n 1 d)

/-- EXPORT_FLUSH_TIMER (R108). FLUSH_TIME after its first record an export frame is sent. -/
def execExportFlushTimer (fab : Bool) (s : State) : Host.Outcome State Fault Refusal :=
  next (live s fun s => exportSend s fab)

/-- RATE_SECOND (R109). At each whole second RATE publishes the stamps captured in the last second. -/
def execRateSecond (s : State) : Host.Outcome State Fault Refusal :=
  next (live s fun s => wholeSecondEnd s)

/-- GATE_ARM (R113). Gate COMMAND ARM checks the configuration and puts the gate in ARMED. -/
def execGateArm (via : Iface) (g : Nat) (s : State) : Host.Outcome State Fault Refusal :=
  next (live s fun s => namedCommand s via 0x3300 24 g 6 1)

/-- GATE_ABORT (R111). Gate COMMAND ABORT ends an active gate with END_CAUSE ABORT. -/
def execGateAbort (via : Iface) (g : Nat) (s : State) : Host.Outcome State Fault Refusal :=
  next (live s fun s => namedCommand s via 0x3300 24 g 6 2)

/-- GATE_DEADLINE (R116). The time island's view passes t_start + WINDOW_CLOSE or GATE_TIME and the gate enters CLOSING with END_CAUSE WINDOW. -/
def execGateDeadline (g : Nat) (s : State) : Host.Outcome State Fault Refusal :=
  next (live s fun s => gateDeadline s g)

/-- SOSC_ABSENT (R123). No SOSC edge for 1 us makes SOSC absent. -/
def execSoscAbsent (s : State) : Host.Outcome State Fault Refusal :=
  next (live s fun s => soscAbsent s)

/-- TIMEBASE_FALLBACK (R123). The measurement time base changes to the MXO, sets FALLBACK and ends MEASUREMENT gates with TB_CHANGE. -/
def execTimebaseFallback (s : State) : Host.Outcome State Fault Refusal :=
  next (live s fun s => tbFallback s)

/-- TIMEBASE_SOSC_RETURN (R123). SOSC present without a break for 10 s returns the time base to SOSC. -/
def execTimebaseSoscReturn (s : State) : Host.Outcome State Fault Refusal :=
  next (live s fun s => tbReturn s)

/-- TIMEBASE_SOURCE_WRITE (R123). A write of 2601h.01 selects MXO or SOSC for the measurement time base. -/
def execTimebaseSourceWrite (via : Iface) (d : Datum) (s : State) : Host.Outcome State Fault Refusal :=
  next (live s fun s => namedWrite s via 0x2601 1 0 1 d)

/-- SOSC_HZ_WRITE (R125). A write of SOSC_HZ is refused while SOSC is the base, otherwise waits for the next SOSC adoption. -/
def execSoscHzWrite (via : Iface) (d : Datum) (s : State) : Host.Outcome State Fault Refusal :=
  next (live s fun s => namedWrite s via 0x2601 1 0 2 d)

/-- DATE_NOW (R126). Model COMMAND DATE_NOW writes the current TC0 seconds to ADJUST_SECONDS. -/
def execDateNow (via : Iface) (sosc : Bool) (s : State) : Host.Outcome State Fault Refusal :=
  next (live s fun s => namedCommand s via 0x2602 2 (b2n sosc) 5 1)

/-- TIMEBASE_MODEL_EVAL (R126). Every 1 s the time-base model is evaluated and EFFECTIVE published. -/
def execTimebaseModelEval (s : State) : Host.Outcome State Fault Refusal :=
  next (live s fun s => tbEval s)

/-- SOSC_PRESENT (R123). SOSC edges return after an absence, SOSC_PRESENT sets and the 10 s presence counts of R123, R159 and R218 start. -/
def execSoscPresent (s : State) : Host.Outcome State Fault Refusal :=
  next (live s fun s => soscPresent s)

end Sys2Proof.Machine
end

