-- ==== Sys2Proof/Machine/RowsPtp.lean ====
section
/-! DEFINITION. What each command does, one definition for each row of the table: PTP sessions and Ethernet ports (chapter 08). -/

namespace Sys2Proof.Machine

/-- CONTEXT_STATE_CHANGE (R272). A session context's intrinsic state changes and offsets, counters and DPLLs react. -/
def execContextStateChange (c : Nat) (s : State) : Host.Outcome State Fault Refusal :=
  next (timed s fun s => ctxRefresh s c)

/-- OFFSET_TIMEOUT (R272). No valid offset for OFFSET_TIMEOUT disqualifies the context and sends PTP_TIMEOUT. -/
def execOffsetTimeout (c : Nat) (s : State) : Host.Outcome State Fault Refusal :=
  next (timed s fun s => offsetTimeout s c)

/-- CONTEXT_QUALIFY_TIME (R272). Valid offsets for QUALIFY_TIME make the context QUALIFIED. -/
def execContextQualifyTime (c : Nat) (s : State) : Host.Outcome State Fault Refusal :=
  next (timed s fun s => ctxQualify s c)

/-- PTP_SYNC_RX (R271). A received Sync is stamped and used in offset formation. -/
def execPtpSyncRx (c : Nat) (m : PtpMsg) (s : State) : Host.Outcome State Fault Refusal :=
  next (timed s fun s => syncRx s c m)

/-- PTP_FOLLOW_UP_RX (R271). A received Follow_Up supplies precise time for an offset. -/
def execPtpFollowUpRx (c : Nat) (m : PtpMsg) (s : State) : Host.Outcome State Fault Refusal :=
  next (timed s fun s => followUpRx s c m)

/-- PTP_DELAY_REQ_RX (R271). A received Delay_Req is answered by a master context. -/
def execPtpDelayReqRx (c : Nat) (m : PtpMsg) (s : State) : Host.Outcome State Fault Refusal :=
  next (timed s fun s => delayReqRx s c m)

/-- PTP_DELAY_RESP_RX (R271). A received Delay_Resp completes a path-delay measurement and may form an offset. -/
def execPtpDelayRespRx (c : Nat) (m : PtpMsg) (s : State) : Host.Outcome State Fault Refusal :=
  next (timed s fun s => delayRespRx s c m)

/-- PTP_PDELAY_REQ_RX (R264). A received Pdelay_Req is answered one-step or two-step. -/
def execPtpPdelayReqRx (c : Nat) (m : PtpMsg) (s : State) : Host.Outcome State Fault Refusal :=
  next (timed s fun s => pdelayReqRx s c m)

/-- PTP_PDELAY_RESP_RX (R271). A received Pdelay_Resp or its follow-up completes a peer-delay measurement. -/
def execPtpPdelayRespRx (c : Nat) (m : PtpMsg) (s : State) : Host.Outcome State Fault Refusal :=
  next (timed s fun s => pdelayRespRx s c m)

/-- PTP_ANNOUNCE_RX (R262). A received Announce feeds the BMCA of the port context. -/
def execPtpAnnounceRx (c : Nat) (a : Announce) (s : State) : Host.Outcome State Fault Refusal :=
  next (timed s fun s => announceRx s c a)

/-- PTP_SIGNALING_RX (R270). A received Signaling message carries unicast negotiation requests, grants or cancels. -/
def execPtpSignalingRx (c : Nat) (g : Signal) (s : State) : Host.Outcome State Fault Refusal :=
  next (timed s fun s => signalingRx s c g)

/-- PTP_SYNC_INTERVAL (R267). The Sync interval of a master context expires and Sync is sent. -/
def execPtpSyncInterval (c : Nat) (s : State) : Host.Outcome State Fault Refusal :=
  next (timed s fun s => syncInterval s c)

/-- PTP_DELAY_REQ_INTERVAL (R267). The delay-request interval expires and Delay_Req or Pdelay_Req is sent. -/
def execPtpDelayReqInterval (c : Nat) (s : State) : Host.Outcome State Fault Refusal :=
  next (timed s fun s => delayInterval s c)

/-- PTP_ANNOUNCE_INTERVAL (R267). The Announce interval expires and Announce is sent. -/
def execPtpAnnounceInterval (c : Nat) (s : State) : Host.Outcome State Fault Refusal :=
  next (timed s fun s => announceInterval s c)

/-- ANNOUNCE_RECEIPT_TIMEOUT (R278). Announce receipt timeout reruns BMCA and sends PTP_TIMEOUT. -/
def execAnnounceReceiptTimeout (c : Nat) (s : State) : Host.Outcome State Fault Refusal :=
  next (timed s fun s => announceTimeout s c)

/-- GRANT_EXPIRY (R270). A unicast grant expires and its pool context returns to FREE. -/
def execGrantExpiry (c : Nat) (s : State) : Host.Outcome State Fault Refusal :=
  next (timed s fun s => grantExpiry s c)

/-- GRANT_RENEWAL_TIMER (R270). A slave-side grant with a quarter left is renewed. -/
def execGrantRenewalTimer (c : Nat) (s : State) : Host.Outcome State Fault Refusal :=
  next (timed s fun s => grantRenewal s c)

/-- ARP_NDP_RX (R263). A received ARP or IPv6 neighbour solicitation is answered. -/
def execArpNdpRx (p : Nat) (target : Nat) (d : Datum) (s : State) : Host.Outcome State Fault Refusal :=
  next (timed s fun s => arpRx s p target d)

/-- PEER_RESOLVE_TIMER (R263). Every 60 s unicast peers are resolved again. -/
def execPeerResolveTimer (s : State) : Host.Outcome State Fault Refusal :=
  next (timed s fun s => peerResolve s)

/-- ETH_OTHER_FRAME_RX (R263). A non-PTP, non-ARP, non-NDP frame is counted in RX_OTHER and dropped. -/
def execEthOtherFrameRx (p : Nat) (bad : Bool) (s : State) : Host.Outcome State Fault Refusal :=
  next (timed s fun s => ethOther s p bad)

/-- PASSTHROUGH_FRAME (R266). A frame is forwarded between ETH0 and ETH1 with residence time corrected. -/
def execPassthroughFrame (p : Nat) (bad : Bool) (residence : Int) (full : Bool) (d : Datum) (s : State) : Host.Outcome State Fault Refusal :=
  next (timed s fun s => passFrame s p bad residence full d)

/-- ETH_LINK_CHANGE (R278). An Ethernet port's LINK changes and ETH_LINK_DOWN is sent on loss. -/
def execEthLinkChange (p : Nat) (up : Bool) (s : State) : Host.Outcome State Fault Refusal :=
  next (timed s fun s => ethLink s p up)

/-- RX_RECORD_WRITE (R265). Host writes a virtual-port RX record, which is refused or handed to the port context. -/
def execRxRecordWrite (via : Iface) (d : Datum) (s : State) : Host.Outcome State Fault Refusal :=
  next (live s fun s => namedWrite s via 0x3612 1 0 2 d)

/-- TX_RECORD_POP (R265). A read of TX_RECORD pops the oldest virtual-port TX record. -/
def execTxRecordPop (via : Iface) (s : State) : Host.Outcome State Fault Refusal :=
  next (live s fun s => namedRead s via 0x3612 1 0 3)

/-- TX_STAMP_WRITE (R265). Host writes a TX_STAMP for a virtual-port frame. -/
def execTxStampWrite (via : Iface) (d : Datum) (s : State) : Host.Outcome State Fault Refusal :=
  next (live s fun s => namedWrite s via 0x3612 1 0 4 d)

/-- TX_STAMP_MISSING (R265). 100 ms without TX_STAMP counts STAMP_MISSING. -/
def execTxStampMissing (c : Nat) (s : State) : Host.Outcome State Fault Refusal :=
  next (timed s fun s => txStampMissing s c)

/-- CONTEXT_CONFIG_WRITE (R268). A write of context CONFIG sets its kind and parameters while disabled. -/
def execContextConfigWrite (via : Iface) (c : Nat) (d : Datum) (s : State) : Host.Outcome State Fault Refusal :=
  next (live s fun s => namedWrite s via 0x3700 256 c 5 d)

/-- CONTEXT_ENABLE_WRITE (R398). A write of context ENABLE assigns an engine or makes the context UNUSED. -/
def execContextEnableWrite (via : Iface) (c : Nat) (d : Datum) (s : State) : Host.Outcome State Fault Refusal :=
  next (live s fun s => namedWrite s via 0x3700 256 c 6 d)

/-- OFFSET_IN_WRITE (R271). A write of OFFSET_IN delivers one SERVO offset. -/
def execOffsetInWrite (via : Iface) (c : Nat) (d : Datum) (s : State) : Host.Outcome State Fault Refusal :=
  next (live s fun s => namedWrite s via 0x3700 256 c 8 d)

/-- CONTEXT_CLEAR_COUNTERS (R274). Context COMMAND CLEAR_COUNTERS zeroes the context counters. -/
def execContextClearCounters (via : Iface) (c : Nat) (s : State) : Host.Outcome State Fault Refusal :=
  next (live s fun s => namedCommand s via 0x3700 256 c 9 1)

/-- CONTEXT_RESTART (R274). Context COMMAND RESTART returns the port state to INITIALIZING. -/
def execContextRestart (via : Iface) (c : Nat) (s : State) : Host.Outcome State Fault Refusal :=
  next (live s fun s => namedCommand s via 0x3700 256 c 9 2)

/-- PASSTHROUGH_WRITE (R266). A write of PASSTHROUGH turns the transparent clock on or off. -/
def execPassthroughWrite (via : Iface) (d : Datum) (s : State) : Host.Outcome State Fault Refusal :=
  next (live s fun s => namedWrite s via 0x3610 1 0 5 d)

/-- PRE_MASTER_QUALIFICATION_TIMEOUT (R262). A port context in PRE_MASTER reaches the end of its IEEE 1588 qualification timeout and enters MASTER. -/
def execPreMasterQualificationTimeout (c : Nat) (s : State) : Host.Outcome State Fault Refusal :=
  next (timed s fun s => preMasterEnd s c)

end Sys2Proof.Machine
end

