-- ==== Sys2Proof/Machine/RowsStore.lean ====
section
/-! DEFINITION. What each command does, one definition for each row of the table: the nonvolatile store (chapter 12). -/

namespace Sys2Proof.Machine

/-- STORE (R369). Store COMMAND STORE requests a store of the shadow region. -/
def execStore (via : Iface) (s : State) : Host.Outcome State Fault Refusal :=
  next (live s fun s => namedCommand s via 0x2300 1 0 5 1)

/-- SCRUB_NOW (R380). Store COMMAND SCRUB_NOW starts a scrub pass. -/
def execScrubNow (via : Iface) (s : State) : Host.Outcome State Fault Refusal :=
  next (live s fun s => namedCommand s via 0x2300 1 0 5 2)

/-- SCRUB_READ (R380). The paced scrub reads a group and rewrites or flags it. -/
def execScrubRead (g : Nat) (decayed : List (Nat × Nat)) (last : Bool) (s : State) : Host.Outcome State Fault Refusal :=
  next (live s fun s => scrubRead s g decayed last)

/-- STORE_START (R371). A requested store reaches its turn, passes the energy check and starts. -/
def execStoreStart (s : State) : Host.Outcome State Fault Refusal :=
  next (live s fun s => storeStart s)

/-- STORE_COMPLETE (R369). A store completes and STORE_COUNT increases. -/
def execStoreComplete (s : State) : Host.Outcome State Fault Refusal :=
  next (live s fun s => storeComplete s)

/-- COMMIT_START (R375). A commit reaches its turn and runs its energy check and sealed copy. -/
def execCommitStart (s : State) : Host.Outcome State Fault Refusal :=
  next (live s fun s => commitStart s)

/-- COMMIT_COMPLETE (R375). A commit marks its seal CLEARED and the write counts move. -/
def execCommitComplete (s : State) : Host.Outcome State Fault Refusal :=
  next (live s fun s => commitComplete s)

/-- ENERGY_RECHECK_TIMER (R371). A device commit waiting on energy is checked again after 10 ms. -/
def execEnergyRecheckTimer (s : State) : Host.Outcome State Fault Refusal :=
  next (live s fun s => energyRecheck s)

/-- VHOLD_SAMPLE (R371). Every 10 us VHOLD is measured and E_avail updated. -/
def execVholdSample (mv : Nat) (s : State) : Host.Outcome State Fault Refusal :=
  next (live s fun s => vholdSample s mv)

/-- WRITE_DATA (R373). A WRITE_DATA write places bytes into HOST slots after the checks of R373. -/
def execWriteData (via : Iface) (d : Datum) (s : State) : Host.Outcome State Fault Refusal :=
  next (live s fun s => namedWrite s via 0x2310 1 0 4 d)

/-- HOST_COMMIT (R374). Host window COMMAND COMMIT commits every HOST page in one commit. -/
def execHostCommit (via : Iface) (s : State) : Host.Outcome State Fault Refusal :=
  next (live s fun s => namedCommand s via 0x2310 1 0 5 1)

/-- HOST_DISCARD (R374). Host window COMMAND DISCARD rolls the HOST pages back. -/
def execHostDiscard (via : Iface) (s : State) : Host.Outcome State Fault Refusal :=
  next (live s fun s => namedCommand s via 0x2310 1 0 5 2)

/-- HOST_TIMEOUT (R374). HOST_TIMEOUT without write or commit rolls the HOST pages back. -/
def execHostTimeout (s : State) : Host.Outcome State Fault Refusal :=
  next (live s fun s => hostTimeout s)

/-- PFAIL_FALL (R377). PFAIL_N low for 2 us starts the power-fail sequence. -/
def execPfailFall (s : State) : Host.Outcome State Fault Refusal :=
  next (pfailDown s)

/-- PFAIL_RISE (R377). PFAIL_N returning high with supplies in range lifts the power-fail refusals. -/
def execPfailRise (s : State) : Host.Outcome State Fault Refusal :=
  next (pfailUp s)

/-- RECORD_DATA_WRITE (R383). A RECORD_DATA write commits the unserved copy with SEQ + 1. -/
def execRecordDataWrite (via : Iface) (d : Datum) (s : State) : Host.Outcome State Fault Refusal :=
  next (live s fun s => namedWrite s via 0x2320 1 0 2 d)

/-- RECORD_ERASE (R383). Record COMMAND ERASE writes both copies to 0xFF. -/
def execRecordErase (via : Iface) (s : State) : Host.Outcome State Fault Refusal :=
  next (live s fun s => namedCommand s via 0x2320 1 0 5 1)

/-- RECORD_REPAIR (R383). Record COMMAND REPAIR copies the served copy into the other with SEQ + 1. -/
def execRecordRepair (via : Iface) (s : State) : Host.Outcome State Fault Refusal :=
  next (live s fun s => namedCommand s via 0x2320 1 0 5 2)

/-- RECORD_SELECT_WRITE (R393). A write of RECORD_SELECT refreshes RECORD_STATE and RECORD_SEQ. -/
def execRecordSelectWrite (via : Iface) (d : Datum) (s : State) : Host.Outcome State Fault Refusal :=
  next (live s fun s => namedWrite s via 0x2320 1 0 1 d)

/-- RECORD_TIE (R382). Two valid copies with equal SEQ and different contents resolve to copy A and send NVM_RECORD_TIE. -/
def execRecordTie (r : Nat) (s : State) : Host.Outcome State Fault Refusal :=
  next (live s fun s => recordRead s r)

end Sys2Proof.Machine
end

