-- ==== Sys2Proof/Machine/RowsSynth.lean ====
section
/-! DEFINITION. What each command does, one definition for each row of the table: APLLs, ramps and outputs (chapter 07). -/

namespace Sys2Proof.Machine

/-- REF_RELOCK_COMPLETE (R210). The APLL reference multiplier relocks and every enabled APLL enters LOCKING. -/
def execRefRelockComplete (s : State) : Host.Outcome State Fault Refusal :=
  next (live s fun s => refRelocked s)

/-- APLL_ENABLE_WRITE (R217). A write of APLL ENABLE starts LOCKING after R211 checks or turns the APLL OFF after change-over. -/
def execApllEnableWrite (via : Iface) (j : Nat) (d : Datum) (s : State) : Host.Outcome State Fault Refusal :=
  next (live s fun s => namedWrite s via 0x3500 8 j 5 d)

/-- APLL_RELOCK (R217). APLL COMMAND RELOCK returns the APLL to LOCKING with band selection. -/
def execApllRelock (via : Iface) (j : Nat) (s : State) : Host.Outcome State Fault Refusal :=
  next (live s fun s => namedCommand s via 0x3500 8 j 0x12 1)

/-- APLL_CLEAR_COUNTERS (R237). APLL COMMAND CLEAR_COUNTERS zeroes LOCK_LOSSES and CHANGEOVERS. -/
def execApllClearCounters (via : Iface) (j : Nat) (s : State) : Host.Outcome State Fault Refusal :=
  next (live s fun s => namedCommand s via 0x3500 8 j 0x12 2)

/-- BAND_SELECT_DONE (R217). VCO band selection ends and lock counting begins. -/
def execBandSelectDone (j : Nat) (band : Nat) (s : State) : Host.Outcome State Fault Refusal :=
  next (live s fun s => bandKept s j band)

/-- LOCK_WINDOW_END (R216). A lock-counter window ends, passing or failing, and may declare lock or loss of lock. -/
def execLockWindowEnd (j : Nat) (count : Nat) (s : State) : Host.Outcome State Fault Refusal :=
  next (live s fun s => lockWindow s j count)

/-- LOCKING_TIMEOUT (R217). 10 ms in LOCKING without lock repeats band selection. -/
def execLockingTimeout (j : Nat) (s : State) : Host.Outcome State Fault Refusal :=
  next (live s fun s => lockingTimeout s j)

/-- RETURN_HOLD_EXPIRY (R219). RETURN_HOLD after LOCKED passes and outputs change back to the APLL source, set UNALIGNED. -/
def execReturnHoldExpiry (j : Nat) (s : State) : Host.Outcome State Fault Refusal :=
  next (live s fun s => returnHoldEnd s j)

/-- RAMP_START (R224). Ramp COMMAND START is checked and the ramp runs from the next update. -/
def execRampStart (via : Iface) (j : Nat) (s : State) : Host.Outcome State Fault Refusal :=
  next (live s fun s => namedCommand s via 0x3508 8 j 3 1)

/-- RAMP_STOP (R225). Ramp COMMAND STOP ends a ONCE ramp or lets the cycle complete. -/
def execRampStop (via : Iface) (j : Nat) (s : State) : Host.Outcome State Fault Refusal :=
  next (live s fun s => namedCommand s via 0x3508 8 j 3 2)

/-- RAMP_CLEAR (R225). Ramp COMMAND CLEAR sets N_RAMP to 0 at the next update. -/
def execRampClear (via : Iface) (j : Nat) (s : State) : Host.Outcome State Fault Refusal :=
  next (live s fun s => namedCommand s via 0x3508 8 j 3 3)

/-- RAMP_SEGMENT_END (R223). A ramp segment's duration expires and the next segment, cycle or end follows. -/
def execRampSegmentEnd (j : Nat) (s : State) : Host.Outcome State Fault Refusal :=
  next (live s fun s => rampSegmentEnd s j)

/-- OUT_SOURCE_WRITE (R227). A write of OUT_SOURCE changes the output source glitch-free. -/
def execOutSourceWrite (via : Iface) (n : Nat) (d : Datum) (s : State) : Host.Outcome State Fault Refusal :=
  next (live s fun s => namedWrite s via 0x3000 96 n 0x0A d)

/-- OUT_DIVIDER_WRITE (R228). A write of OUT_DIVIDER takes effect at the next rising output edge. -/
def execOutDividerWrite (via : Iface) (n : Nat) (d : Datum) (s : State) : Host.Outcome State Fault Refusal :=
  next (live s fun s => namedWrite s via 0x3000 96 n 0x0B d)

/-- OUT_ENABLE_WRITE (R230). A write of OUT_ENABLE starts or stops the output glitch-free. -/
def execOutEnableWrite (via : Iface) (n : Nat) (d : Datum) (s : State) : Host.Outcome State Fault Refusal :=
  next (live s fun s => namedWrite s via 0x3000 96 n 0x0E d)

/-- ALIGN_OUTPUT (R234). A write of ALIGN_OUTPUT reloads one output's divider to the next aligned cycle. -/
def execAlignOutput (via : Iface) (d : Datum) (s : State) : Host.Outcome State Fault Refusal :=
  next (live s fun s => namedWrite s via 0x2630 1 0 5 d)

/-- ALIGN_GROUPS (R234). A write of ALIGN_GROUPS aligns every eligible output of the named groups. -/
def execAlignGroups (via : Iface) (d : Datum) (s : State) : Host.Outcome State Fault Refusal :=
  next (live s fun s => namedWrite s via 0x2630 1 0 6 d)

/-- ALIGNED_EDGE (R234). An output reaches its first aligned rising edge and UNALIGNED clears. -/
def execAlignedEdge (n : Nat) (s : State) : Host.Outcome State Fault Refusal :=
  next (live s fun s => alignedEdge s n)

end Sys2Proof.Machine
end

