-- ==== Sys2Proof/Machine/RowsTime.lean ====
section
/-! DEFINITION. What each command does, one definition for each row of the table: time counters and scheduled actions (chapters 08 and 09). -/

namespace Sys2Proof.Machine

/-- SET_TIME (R246). A write of SET_TIME steps the counter at the first tick after it takes effect. -/
def execSetTime (via : Iface) (t : Nat) (d : Datum) (s : State) : Host.Outcome State Fault Refusal :=
  next (live s fun s => namedWrite s via 0x3600 4 t 6 d)

/-- TC_TAMP (R255). A write of counter TAMP steps the counter at the first tick. -/
def execTcTamp (via : Iface) (t : Nat) (d : Datum) (s : State) : Host.Outcome State Fault Refusal :=
  next (live s fun s => namedWrite s via 0x3600 4 t 0x0F d)

/-- POUR_AMOUNT_WRITE (R256). A write of POUR_AMOUNT adds to the counter pour delivered at POUR_RATE. -/
def execPourAmountWrite (via : Iface) (t : Nat) (d : Datum) (s : State) : Host.Outcome State Fault Refusal :=
  next (live s fun s => namedWrite s via 0x3600 4 t 0x10 d)

/-- POUR_ABORT (R256). Counter COMMAND POUR_ABORT withdraws the pour remainder. -/
def execPourAbort (via : Iface) (t : Nat) (s : State) : Host.Outcome State Fault Refusal :=
  next (live s fun s => namedCommand s via 0x3600 4 t 0x12 1)

/-- TC_POUR_DONE (R256). The counter's POUR_OUTSTANDING reaches 0 and POUR_DONE is set. -/
def execTcPourDone (t : Nat) (s : State) : Host.Outcome State Fault Refusal :=
  next (timed s fun s => tcPourDone s t)

/-- INCREMENT_WRITE (R248). A write of INCREMENT in SWI sets the rate from the next tick. -/
def execIncrementWrite (via : Iface) (t : Nat) (d : Datum) (s : State) : Host.Outcome State Fault Refusal :=
  next (live s fun s => namedWrite s via 0x3600 4 t 9 d)

/-- DISCIPLINE_SWI (R249). DISCIPLINE SWI keeps the last rate as INCREMENT. -/
def execDisciplineSwi (via : Iface) (t : Nat) (s : State) : Host.Outcome State Fault Refusal :=
  next (live s fun s => namedCommand s via 0x3600 4 t 7 0)

/-- DISCIPLINE_HWS (R252). DISCIPLINE HWS puts the counter in NO_MASTER under the hardware servo. -/
def execDisciplineHws (via : Iface) (t : Nat) (s : State) : Host.Outcome State Fault Refusal :=
  next (live s fun s => namedCommand s via 0x3600 4 t 7 1)

/-- DISCIPLINE_TIED (R249). DISCIPLINE TIED ties the counter to its DPLL with a tie step. -/
def execDisciplineTied (via : Iface) (t : Nat) (s : State) : Host.Outcome State Fault Refusal :=
  next (live s fun s => namedCommand s via 0x3600 4 t 7 2)

/-- TIE_INCREMENT_ARRIVES (R249). The DPLL's timeline increment arrives and the tied counter spreads it, catching up if late. -/
def execTieIncrementArrives (t : Nat) (s : State) : Host.Outcome State Fault Refusal :=
  next (timed s fun s => tieArrive s t)

/-- HWS_OFFSET (R251). A valid offset reaches an HWS counter, which steps or runs its servo. -/
def execHwsOffset (t : Nat) (s : State) : Host.Outcome State Fault Refusal :=
  next (timed s fun s => hwsOffset s t)

/-- PULSE_INSTANT (R259). The counter reaches a pulse instant and the generator carries it to S and the C dies. -/
def execPulseInstant (t : Nat) (s : State) : Host.Outcome State Fault Refusal :=
  next (timed s fun s => pulseInstant s t)

/-- ENTRY_WRITE (R279). A 40-byte ENTRY write defines a scheduled action while it is not ARMED. -/
def execEntryWrite (via : Iface) (e : Nat) (d : Datum) (s : State) : Host.Outcome State Fault Refusal :=
  next (live s fun s => namedWrite s via 0x3620 4 (e / 16) (5 + e % 16) d)

/-- ARM (R282). A write of ARM arms the named entries or refuses them all. -/
def execArm (via : Iface) (b : Nat) (d : Datum) (s : State) : Host.Outcome State Fault Refusal :=
  next (live s fun s => namedWrite s via 0x3620 4 b 0x25 d)

/-- DISARM (R282). A write of DISARM returns named ARMED entries to IDLE. -/
def execDisarm (via : Iface) (b : Nat) (d : Datum) (s : State) : Host.Outcome State Fault Refusal :=
  next (live s fun s => namedWrite s via 0x3620 4 b 0x26 d)

/-- ACTION_DUE (R283). An occurrence's counter reaches its instant and the target on H runs, or the occurrence is late, dropped or skipped. -/
def execActionDue (e : Nat) (s : State) : Host.Outcome State Fault Refusal :=
  next (timed s fun s => actionDue s e)

/-- ACTION_DISPATCH (R285). 1 us before their instant EDGE and ALIGN actions are dispatched on the pulse line. -/
def execActionDispatch (e : Nat) (s : State) : Host.Outcome State Fault Refusal :=
  next (timed s fun s => actionDispatch s e)

/-- EDGE_ACTION_FIRES (R289). An EDGE action reaches its channel and applies its overlay at the instant. -/
def execEdgeActionFires (e : Nat) (s : State) : Host.Outcome State Fault Refusal :=
  next (timed s fun s => edgeFires s e)

/-- SCHED_DPLL_ACTION_ARRIVES (R285). A DPLL_COMMAND or DPLL_TAMP action reaches S and acts at the next update. -/
def execSchedDpllActionArrives (e : Nat) (s : State) : Host.Outcome State Fault Refusal :=
  next (timed s fun s => schedArrives s e)

end Sys2Proof.Machine
end

