-- ==== Sys2Proof/Machine/Dispatch.lean ====
section
/-! DEFINITION. Dispatch: each command to its meaning. -/

namespace Sys2Proof.Machine

/-- What a command does to everything but the queue. -/
def exec (i : Instr) (s : State) : Host.Outcome State Fault Refusal :=
  match i with
  | .objectWrite via index sub d => Sys2Proof.Machine.execObjectWrite via index sub d s
  | .writeTakesEffect via isl => Sys2Proof.Machine.execWriteTakesEffect via isl s
  | .historyW1cWrite via index sub d => Sys2Proof.Machine.execHistoryW1cWrite via index sub d s
  | .dieLinkWordReceived p pos word parity => Sys2Proof.Machine.execDieLinkWordReceived p pos word parity s
  | .linkReplay p => Sys2Proof.Machine.execLinkReplay p s
  | .linkAckReceived p n => Sys2Proof.Machine.execLinkAckReceived p n s
  | .linkTrainingAttemptEnd l ok => Sys2Proof.Machine.execLinkTrainingAttemptEnd l ok s
  | .linkDownRetryTimer l ok => Sys2Proof.Machine.execLinkDownRetryTimer l ok s
  | .linkRetrain via l => Sys2Proof.Machine.execLinkRetrain via l s
  | .linkClearCounters via l => Sys2Proof.Machine.execLinkClearCounters via l s
  | .errorInjectSingle via l => Sys2Proof.Machine.execErrorInjectSingle via l s
  | .errorInjectExhaust via l => Sys2Proof.Machine.execErrorInjectExhaust via l s
  | .errorInjectSingleReverse via l => Sys2Proof.Machine.execErrorInjectSingleReverse via l s
  | .errorInjectExhaustReverse via l => Sys2Proof.Machine.execErrorInjectExhaustReverse via l s
  | .errorInjectOff via l => Sys2Proof.Machine.execErrorInjectOff via l s
  | .mirrorRefresh index => Sys2Proof.Machine.execMirrorRefresh index s
  | .channelEdge n falling coarse bin frac => Sys2Proof.Machine.execChannelEdge n falling coarse bin frac s
  | .stampIngest n replays taken => Sys2Proof.Machine.execStampIngest n replays taken s
  | .snapChannelWrite via d => Sys2Proof.Machine.execSnapChannelWrite via d s
  | .snapshotLatchArrives => Sys2Proof.Machine.execSnapshotLatchArrives s
  | .snapshotMarkerArrives => Sys2Proof.Machine.execSnapshotMarkerArrives s
  | .watermarkReceived c raw lag => Sys2Proof.Machine.execWatermarkReceived c raw lag s
  | .parallelReadHalf0 index sub => Sys2Proof.Machine.execParallelReadHalf0 index sub s
  | .parallelReadHalf1 index sub => Sys2Proof.Machine.execParallelReadHalf1 index sub s
  | .parallelWriteHalf0 index sub hd => Sys2Proof.Machine.execParallelWriteHalf0 index sub hd s
  | .parallelWriteHalf1 index sub hd => Sys2Proof.Machine.execParallelWriteHalf1 index sub hd s
  | .spiRead index sub n => Sys2Proof.Machine.execSpiRead index sub n s
  | .spiWrite index sub d => Sys2Proof.Machine.execSpiWrite index sub d s
  | .spiStatus n => Sys2Proof.Machine.execSpiStatus n s
  | .spiInvalidFrame index sub => Sys2Proof.Machine.execSpiInvalidFrame index sub s
  | .openRead spi => Sys2Proof.Machine.execOpenRead spi s
  | .openWrite spi => Sys2Proof.Machine.execOpenWrite spi s
  | .close_ spi => Sys2Proof.Machine.execClose spi s
  | .streamDataRead spi n => Sys2Proof.Machine.execStreamDataRead spi n s
  | .streamDataWrite spi d => Sys2Proof.Machine.execStreamDataWrite spi d s
  | .deviceReset via => Sys2Proof.Machine.execDeviceReset via s
  | .nmtStartRemoteNode node => Sys2Proof.Machine.execNmtStartRemoteNode node s
  | .nmtStopRemoteNode node => Sys2Proof.Machine.execNmtStopRemoteNode node s
  | .nmtEnterPreOperational node => Sys2Proof.Machine.execNmtEnterPreOperational node s
  | .nmtResetCommunication node => Sys2Proof.Machine.execNmtResetCommunication node s
  | .nmtResetNode node => Sys2Proof.Machine.execNmtResetNode node s
  | .lssSwitchStateGlobal configuration => Sys2Proof.Machine.execLssSwitchStateGlobal configuration s
  | .lssSwitchStateSelective vendor product revision serial => Sys2Proof.Machine.execLssSwitchStateSelective vendor product revision serial s
  | .lssConfigureNodeId node => Sys2Proof.Machine.execLssConfigureNodeId node s
  | .lssConfigureBitTiming selector rate => Sys2Proof.Machine.execLssConfigureBitTiming selector rate s
  | .lssActivateBitTiming delay => Sys2Proof.Machine.execLssActivateBitTiming delay s
  | .lssStoreConfiguration => Sys2Proof.Machine.execLssStoreConfiguration s
  | .lssInquireIdentity what => Sys2Proof.Machine.execLssInquireIdentity what s
  | .lssIdentifyRemoteSlave vendor product revLo revHi serLo serHi => Sys2Proof.Machine.execLssIdentifyRemoteSlave vendor product revLo revHi serLo serHi s
  | .lssIdentifyNonConfigured => Sys2Proof.Machine.execLssIdentifyNonConfigured s
  | .sdoDownload usdo index sub x => Sys2Proof.Machine.execSdoDownload usdo index sub x s
  | .sdoUpload usdo index sub block => Sys2Proof.Machine.execSdoUpload usdo index sub block s
  | .sdoSegment usdo seg => Sys2Proof.Machine.execSdoSegment usdo seg s
  | .sdoTimeout usdo => Sys2Proof.Machine.execSdoTimeout usdo s
  | .syncReceived counter => Sys2Proof.Machine.execSyncReceived counter s
  | .tpdoTransmit p => Sys2Proof.Machine.execTpdoTransmit p s
  | .tpdoEventTimer p => Sys2Proof.Machine.execTpdoEventTimer p s
  | .rpdoReceived p d => Sys2Proof.Machine.execRpdoReceived p d s
  | .emcyTransmit => Sys2Proof.Machine.execEmcyTransmit s
  | .heartbeatTimer => Sys2Proof.Machine.execHeartbeatTimer s
  | .clearErrorList via d => Sys2Proof.Machine.execClearErrorList via d s
  | .storeParameters via sub d => Sys2Proof.Machine.execStoreParameters via sub d s
  | .restoreDefaultParameters via sub d => Sys2Proof.Machine.execRestoreDefaultParameters via sub d s
  | .programDataWrite via d => Sys2Proof.Machine.execProgramDataWrite via d s
  | .programStart via => Sys2Proof.Machine.execProgramStart via s
  | .programStop via => Sys2Proof.Machine.execProgramStop via s
  | .programClear via => Sys2Proof.Machine.execProgramClear via s
  | .journalCommitTimer log => Sys2Proof.Machine.execJournalCommitTimer log s
  | .stampPop via n whole => Sys2Proof.Machine.execStampPop via n whole s
  | .channelRoleWrite via n d => Sys2Proof.Machine.execChannelRoleWrite via n d s
  | .exportFlushTimer fab => Sys2Proof.Machine.execExportFlushTimer fab s
  | .rateSecond => Sys2Proof.Machine.execRateSecond s
  | .gateArm via g => Sys2Proof.Machine.execGateArm via g s
  | .gateAbort via g => Sys2Proof.Machine.execGateAbort via g s
  | .gateDeadline g => Sys2Proof.Machine.execGateDeadline g s
  | .soscAbsent => Sys2Proof.Machine.execSoscAbsent s
  | .timebaseFallback => Sys2Proof.Machine.execTimebaseFallback s
  | .timebaseSoscReturn => Sys2Proof.Machine.execTimebaseSoscReturn s
  | .timebaseSourceWrite via d => Sys2Proof.Machine.execTimebaseSourceWrite via d s
  | .soscHzWrite via d => Sys2Proof.Machine.execSoscHzWrite via d s
  | .dateNow via sosc => Sys2Proof.Machine.execDateNow via sosc s
  | .timebaseModelEval => Sys2Proof.Machine.execTimebaseModelEval s
  | .cuppingEnableWrite via n d => Sys2Proof.Machine.execCuppingEnableWrite via n d s
  | .requalify via n => Sys2Proof.Machine.execRequalify via n s
  | .disqualify via n => Sys2Proof.Machine.execDisqualify via n s
  | .restartStats via n => Sys2Proof.Machine.execRestartStats via n s
  | .sampleIntervalEnd n => Sys2Proof.Machine.execSampleIntervalEnd n s
  | .losDeclared n => Sys2Proof.Machine.execLosDeclared n s
  | .losSignalArrives n => Sys2Proof.Machine.execLosSignalArrives n s
  | .freqWindowEnd n => Sys2Proof.Machine.execFreqWindowEnd n s
  | .driftBinEnd n => Sys2Proof.Machine.execDriftBinEnd n s
  | .mtieStep n idx => Sys2Proof.Machine.execMtieStep n idx s
  | .tdevBlockEnd n idx => Sys2Proof.Machine.execTdevBlockEnd n idx s
  | .cupEvaluation n => Sys2Proof.Machine.execCupEvaluation n s
  | .qualifyTimeExpiry n => Sys2Proof.Machine.execQualifyTimeExpiry n s
  | .losClearTimeExpiry n => Sys2Proof.Machine.execLosClearTimeExpiry n s
  | .cupStateArrives n => Sys2Proof.Machine.execCupStateArrives n s
  | .dpllUpdate k samples => Sys2Proof.Machine.execDpllUpdate k samples s
  | .wtrExpiry k e => Sys2Proof.Machine.execWtrExpiry k e s
  | .holdOffExpiry k => Sys2Proof.Machine.execHoldOffExpiry k s
  | .acqTimeout k => Sys2Proof.Machine.execAcqTimeout k s
  | .dpllEnableWrite via k d => Sys2Proof.Machine.execDpllEnableWrite via k d s
  | .switchModeWrite via k d => Sys2Proof.Machine.execSwitchModeWrite via k d s
  | .candidateWrite via k e d => Sys2Proof.Machine.execCandidateWrite via k e d s
  | .openLoop via k => Sys2Proof.Machine.execOpenLoop via k s
  | .closeLoop via k => Sys2Proof.Machine.execCloseLoop via k s
  | .forceFreerun via k => Sys2Proof.Machine.execForceFreerun via k s
  | .forceHoldover via k => Sys2Proof.Machine.execForceHoldover via k s
  | .release via k => Sys2Proof.Machine.execRelease via k s
  | .clearWtr via k => Sys2Proof.Machine.execClearWtr via k s
  | .dpllTamp via k d => Sys2Proof.Machine.execDpllTamp via k d s
  | .swFfoWrite via k d => Sys2Proof.Machine.execSwFfoWrite via k d s
  | .faultHoldArrives k => Sys2Proof.Machine.execFaultHoldArrives k s
  | .faultHoldRemoved k => Sys2Proof.Machine.execFaultHoldRemoved k s
  | .carafeSecond => Sys2Proof.Machine.execCarafeSecond s
  | .carafeSampleArrives k => Sys2Proof.Machine.execCarafeSampleArrives k s
  | .holdoverPrepare k => Sys2Proof.Machine.execHoldoverPrepare k s
  | .preparedValueArrives k => Sys2Proof.Machine.execPreparedValueArrives k s
  | .holdoverCorrection k => Sys2Proof.Machine.execHoldoverCorrection k s
  | .holdoverAlarm k => Sys2Proof.Machine.execHoldoverAlarm k s
  | .fit via k => Sys2Proof.Machine.execFit via k s
  | .fitIntervalTimer k => Sys2Proof.Machine.execFitIntervalTimer k s
  | .fitComplete k => Sys2Proof.Machine.execFitComplete k s
  | .clearCarafe via k => Sys2Proof.Machine.execClearCarafe via k s
  | .clearModel via k => Sys2Proof.Machine.execClearModel via k s
  | .carafeWrite via k d => Sys2Proof.Machine.execCarafeWrite via k d s
  | .modelValidWrite via k d => Sys2Proof.Machine.execModelValidWrite via k d s
  | .hostTempWrite via k d => Sys2Proof.Machine.execHostTempWrite via k d s
  | .tempStaleTimer k => Sys2Proof.Machine.execTempStaleTimer k s
  | .baseChangeToMxo => Sys2Proof.Machine.execBaseChangeToMxo s
  | .baseChangeToSosc => Sys2Proof.Machine.execBaseChangeToSosc s
  | .refRelockComplete => Sys2Proof.Machine.execRefRelockComplete s
  | .apllEnableWrite via j d => Sys2Proof.Machine.execApllEnableWrite via j d s
  | .apllRelock via j => Sys2Proof.Machine.execApllRelock via j s
  | .apllClearCounters via j => Sys2Proof.Machine.execApllClearCounters via j s
  | .bandSelectDone j band => Sys2Proof.Machine.execBandSelectDone j band s
  | .lockWindowEnd j count => Sys2Proof.Machine.execLockWindowEnd j count s
  | .lockingTimeout j => Sys2Proof.Machine.execLockingTimeout j s
  | .returnHoldExpiry j => Sys2Proof.Machine.execReturnHoldExpiry j s
  | .rampStart via j => Sys2Proof.Machine.execRampStart via j s
  | .rampStop via j => Sys2Proof.Machine.execRampStop via j s
  | .rampClear via j => Sys2Proof.Machine.execRampClear via j s
  | .rampSegmentEnd j => Sys2Proof.Machine.execRampSegmentEnd j s
  | .outSourceWrite via n d => Sys2Proof.Machine.execOutSourceWrite via n d s
  | .outDividerWrite via n d => Sys2Proof.Machine.execOutDividerWrite via n d s
  | .outEnableWrite via n d => Sys2Proof.Machine.execOutEnableWrite via n d s
  | .alignOutput via d => Sys2Proof.Machine.execAlignOutput via d s
  | .alignGroups via d => Sys2Proof.Machine.execAlignGroups via d s
  | .alignedEdge n => Sys2Proof.Machine.execAlignedEdge n s
  | .setTime via t d => Sys2Proof.Machine.execSetTime via t d s
  | .tcTamp via t d => Sys2Proof.Machine.execTcTamp via t d s
  | .pourAmountWrite via t d => Sys2Proof.Machine.execPourAmountWrite via t d s
  | .pourAbort via t => Sys2Proof.Machine.execPourAbort via t s
  | .tcPourDone t => Sys2Proof.Machine.execTcPourDone t s
  | .incrementWrite via t d => Sys2Proof.Machine.execIncrementWrite via t d s
  | .disciplineSwi via t => Sys2Proof.Machine.execDisciplineSwi via t s
  | .disciplineHws via t => Sys2Proof.Machine.execDisciplineHws via t s
  | .disciplineTied via t => Sys2Proof.Machine.execDisciplineTied via t s
  | .tieIncrementArrives t => Sys2Proof.Machine.execTieIncrementArrives t s
  | .hwsOffset t => Sys2Proof.Machine.execHwsOffset t s
  | .pulseInstant t => Sys2Proof.Machine.execPulseInstant t s
  | .contextStateChange c => Sys2Proof.Machine.execContextStateChange c s
  | .offsetTimeout c => Sys2Proof.Machine.execOffsetTimeout c s
  | .contextQualifyTime c => Sys2Proof.Machine.execContextQualifyTime c s
  | .ptpSyncRx c m => Sys2Proof.Machine.execPtpSyncRx c m s
  | .ptpFollowUpRx c m => Sys2Proof.Machine.execPtpFollowUpRx c m s
  | .ptpDelayReqRx c m => Sys2Proof.Machine.execPtpDelayReqRx c m s
  | .ptpDelayRespRx c m => Sys2Proof.Machine.execPtpDelayRespRx c m s
  | .ptpPdelayReqRx c m => Sys2Proof.Machine.execPtpPdelayReqRx c m s
  | .ptpPdelayRespRx c m => Sys2Proof.Machine.execPtpPdelayRespRx c m s
  | .ptpAnnounceRx c a => Sys2Proof.Machine.execPtpAnnounceRx c a s
  | .ptpSignalingRx c g => Sys2Proof.Machine.execPtpSignalingRx c g s
  | .ptpSyncInterval c => Sys2Proof.Machine.execPtpSyncInterval c s
  | .ptpDelayReqInterval c => Sys2Proof.Machine.execPtpDelayReqInterval c s
  | .ptpAnnounceInterval c => Sys2Proof.Machine.execPtpAnnounceInterval c s
  | .announceReceiptTimeout c => Sys2Proof.Machine.execAnnounceReceiptTimeout c s
  | .grantExpiry c => Sys2Proof.Machine.execGrantExpiry c s
  | .grantRenewalTimer c => Sys2Proof.Machine.execGrantRenewalTimer c s
  | .arpNdpRx p target d => Sys2Proof.Machine.execArpNdpRx p target d s
  | .peerResolveTimer => Sys2Proof.Machine.execPeerResolveTimer s
  | .ethOtherFrameRx p bad => Sys2Proof.Machine.execEthOtherFrameRx p bad s
  | .passthroughFrame p bad residence full d => Sys2Proof.Machine.execPassthroughFrame p bad residence full d s
  | .ethLinkChange p up => Sys2Proof.Machine.execEthLinkChange p up s
  | .rxRecordWrite via d => Sys2Proof.Machine.execRxRecordWrite via d s
  | .txRecordPop via => Sys2Proof.Machine.execTxRecordPop via s
  | .txStampWrite via d => Sys2Proof.Machine.execTxStampWrite via d s
  | .txStampMissing c => Sys2Proof.Machine.execTxStampMissing c s
  | .contextConfigWrite via c d => Sys2Proof.Machine.execContextConfigWrite via c d s
  | .contextEnableWrite via c d => Sys2Proof.Machine.execContextEnableWrite via c d s
  | .offsetInWrite via c d => Sys2Proof.Machine.execOffsetInWrite via c d s
  | .contextClearCounters via c => Sys2Proof.Machine.execContextClearCounters via c s
  | .contextRestart via c => Sys2Proof.Machine.execContextRestart via c s
  | .passthroughWrite via d => Sys2Proof.Machine.execPassthroughWrite via d s
  | .entryWrite via e d => Sys2Proof.Machine.execEntryWrite via e d s
  | .arm via b d => Sys2Proof.Machine.execArm via b d s
  | .disarm via b d => Sys2Proof.Machine.execDisarm via b d s
  | .actionDue e => Sys2Proof.Machine.execActionDue e s
  | .actionDispatch e => Sys2Proof.Machine.execActionDispatch e s
  | .edgeActionFires e => Sys2Proof.Machine.execEdgeActionFires e s
  | .schedDpllActionArrives e => Sys2Proof.Machine.execSchedDpllActionArrives e s
  | .fabModeWrite via p d => Sys2Proof.Machine.execFabModeWrite via p d s
  | .txApllWrite via p d => Sys2Proof.Machine.execTxApllWrite via p d s
  | .fabTrainingAttemptEnd p ok x => Sys2Proof.Machine.execFabTrainingAttemptEnd p ok x s
  | .fabTrainingRetryTimer p => Sys2Proof.Machine.execFabTrainingRetryTimer p s
  | .fabBerFail p => Sys2Proof.Machine.execFabBerFail p s
  | .fabHelloTimeout p => Sys2Proof.Machine.execFabHelloTimeout p s
  | .fabPortRetrain via p => Sys2Proof.Machine.execFabPortRetrain via p s
  | .fabPortClearCounters via p => Sys2Proof.Machine.execFabPortClearCounters via p s
  | .txReferenceChange p => Sys2Proof.Machine.execTxReferenceChange p s
  | .creditRx p cls freed => Sys2Proof.Machine.execCreditRx p cls freed s
  | .creditReportTimer => Sys2Proof.Machine.execCreditReportTimer s
  | .fabFrameRx p f bad => Sys2Proof.Machine.execFabFrameRx p f bad s
  | .helloRx p d => Sys2Proof.Machine.execHelloRx p d s
  | .helloTimer => Sys2Proof.Machine.execHelloTimer s
  | .rootSeqTimer => Sys2Proof.Machine.execRootSeqTimer s
  | .rootTimeout => Sys2Proof.Machine.execRootTimeout s
  | .routeUpdateRx p d => Sys2Proof.Machine.execRouteUpdateRx p d s
  | .routeUpdateTimer => Sys2Proof.Machine.execRouteUpdateTimer s
  | .routeExpiry p addr => Sys2Proof.Machine.execRouteExpiry p addr s
  | .routeRebuildDone => Sys2Proof.Machine.execRouteRebuildDone s
  | .pendingFrameExpiry => Sys2Proof.Machine.execPendingFrameExpiry s
  | .addressRequestRx p d => Sys2Proof.Machine.execAddressRequestRx p d s
  | .addressGrantRx p d => Sys2Proof.Machine.execAddressGrantRx p d s
  | .addressRetryTimer => Sys2Proof.Machine.execAddressRetryTimer s
  | .addressHoldExpiry ident => Sys2Proof.Machine.execAddressHoldExpiry ident s
  | .discoveryDone => Sys2Proof.Machine.execDiscoveryDone s
  | .rediscover via => Sys2Proof.Machine.execRediscover via s
  | .fabClearCounters via => Sys2Proof.Machine.execFabClearCounters via s
  | .slotFrameBoundary => Sys2Proof.Machine.execSlotFrameBoundary s
  | .slotTableCommit via p => Sys2Proof.Machine.execSlotTableCommit via p s
  | .linkTimingSlot p => Sys2Proof.Machine.execLinkTimingSlot p s
  | .timeDownSlot p => Sys2Proof.Machine.execTimeDownSlot p s
  | .markerRequestRx p seq time phi => Sys2Proof.Machine.execMarkerRequestRx p seq time phi s
  | .markerResponseRx p seq time => Sys2Proof.Machine.execMarkerResponseRx p seq time s
  | .timingFollowUpRx p d phi => Sys2Proof.Machine.execTimingFollowUpRx p d phi s
  | .exchangeFollowUpTimeout p => Sys2Proof.Machine.execExchangeFollowUpTimeout p s
  | .timeDownRx p d => Sys2Proof.Machine.execTimeDownRx p d s
  | .odRequestRx p src d => Sys2Proof.Machine.execOdRequestRx p src d s
  | .odResponseRx p src d => Sys2Proof.Machine.execOdResponseRx p src d s
  | .stampBatchRx p src d => Sys2Proof.Machine.execStampBatchRx p src d s
  | .requestRead via r => Sys2Proof.Machine.execRequestRead via r s
  | .requestWrite via r => Sys2Proof.Machine.execRequestWrite via r s
  | .requestCancel via r => Sys2Proof.Machine.execRequestCancel via r s
  | .requestTimeout r => Sys2Proof.Machine.execRequestTimeout r s
  | .blendMeasureDone => Sys2Proof.Machine.execBlendMeasureDone s
  | .blendProposalRx p d => Sys2Proof.Machine.execBlendProposalRx p d s
  | .blendAnnounceRx p dest d => Sys2Proof.Machine.execBlendAnnounceRx p dest d s
  | .blendInstant => Sys2Proof.Machine.execBlendInstant s
  | .blendPourDone => Sys2Proof.Machine.execBlendPourDone s
  | .blendEnd => Sys2Proof.Machine.execBlendEnd s
  | .blendAlign => Sys2Proof.Machine.execBlendAlign s
  | .calStepStart d rate => Sys2Proof.Machine.execCalStepStart d rate s
  | .calHandoverCut d mismatch => Sys2Proof.Machine.execCalHandoverCut d mismatch s
  | .calPassComplete d hist => Sys2Proof.Machine.execCalPassComplete d hist s
  | .calPassTimeout d => Sys2Proof.Machine.execCalPassTimeout d s
  | .calProcessingDone d trims => Sys2Proof.Machine.execCalProcessingDone d trims s
  | .calOffsetsDone d offsets table residual => Sys2Proof.Machine.execCalOffsetsDone d offsets table residual s
  | .calLinkAbandonTimer d => Sys2Proof.Machine.execCalLinkAbandonTimer d s
  | .sweepNow via => Sys2Proof.Machine.execSweepNow via s
  | .saveShadow via => Sys2Proof.Machine.execSaveShadow via s
  | .restoreShadow via => Sys2Proof.Machine.execRestoreShadow via s
  | .calEnableWrite via d => Sys2Proof.Machine.execCalEnableWrite via d s
  | .sliceRecordWrite via c idx d => Sys2Proof.Machine.execSliceRecordWrite via c idx d s
  | .outputRecordWrite via c idx d => Sys2Proof.Machine.execOutputRecordWrite via c idx d s
  | .outputTracking n err => Sys2Proof.Machine.execOutputTracking n err s
  | .branchTrimStep c move err => Sys2Proof.Machine.execBranchTrimStep c move err s
  | .apllTrimStep j amp gain margin => Sys2Proof.Machine.execApllTrimStep j amp gain margin s
  | .laneAdaptStep l ctle dfe1 dfe2 => Sys2Proof.Machine.execLaneAdaptStep l ctle dfe1 dfe2 s
  | .eyeMonitor l width => Sys2Proof.Machine.execEyeMonitor l width s
  | .store via => Sys2Proof.Machine.execStore via s
  | .scrubNow via => Sys2Proof.Machine.execScrubNow via s
  | .scrubRead g decayed last => Sys2Proof.Machine.execScrubRead g decayed last s
  | .storeStart => Sys2Proof.Machine.execStoreStart s
  | .storeComplete => Sys2Proof.Machine.execStoreComplete s
  | .commitStart => Sys2Proof.Machine.execCommitStart s
  | .commitComplete => Sys2Proof.Machine.execCommitComplete s
  | .energyRecheckTimer => Sys2Proof.Machine.execEnergyRecheckTimer s
  | .vholdSample mv => Sys2Proof.Machine.execVholdSample mv s
  | .writeData via d => Sys2Proof.Machine.execWriteData via d s
  | .hostCommit via => Sys2Proof.Machine.execHostCommit via s
  | .hostDiscard via => Sys2Proof.Machine.execHostDiscard via s
  | .hostTimeout => Sys2Proof.Machine.execHostTimeout s
  | .pfailFall => Sys2Proof.Machine.execPfailFall s
  | .pfailRise => Sys2Proof.Machine.execPfailRise s
  | .recordDataWrite via d => Sys2Proof.Machine.execRecordDataWrite via d s
  | .recordErase via => Sys2Proof.Machine.execRecordErase via s
  | .recordRepair via => Sys2Proof.Machine.execRecordRepair via s
  | .recordSelectWrite via d => Sys2Proof.Machine.execRecordSelectWrite via d s
  | .recordTie r => Sys2Proof.Machine.execRecordTie r s
  | .engineWatchdog e => Sys2Proof.Machine.execEngineWatchdog e s
  | .engineRestartDone e => Sys2Proof.Machine.execEngineRestartDone e s
  | .engineOverload e load => Sys2Proof.Machine.execEngineOverload e load s
  | .contextStoreRequest reqs => Sys2Proof.Machine.execContextStoreRequest reqs s
  | .requesterAged q => Sys2Proof.Machine.execRequesterAged q s
  | .lockRequest q id => Sys2Proof.Machine.execLockRequest q id s
  | .lockRelease q abort => Sys2Proof.Machine.execLockRelease q abort s
  | .holdLimitExpiry => Sys2Proof.Machine.execHoldLimitExpiry s
  | .arbiterSnapshot via => Sys2Proof.Machine.execArbiterSnapshot via s
  | .arbiterClearCounters via => Sys2Proof.Machine.execArbiterClearCounters via s
  | .assignWrite via d => Sys2Proof.Machine.execAssignWrite via d s
  | .classWrite via q d => Sys2Proof.Machine.execClassWrite via q d s
  | .faultMessage => Sys2Proof.Machine.execFaultMessage s
  | .inject via d => Sys2Proof.Machine.execInject via d s
  | .unackW1cWrite via level w d => Sys2Proof.Machine.execUnackW1cWrite via level w d s
  | .ackAll via => Sys2Proof.Machine.execAckAll via s
  | .recover via => Sys2Proof.Machine.execRecover via s
  | .clearSticky via => Sys2Proof.Machine.execClearSticky via s
  | .collectorClearCounters via => Sys2Proof.Machine.execCollectorClearCounters via s
  | .quietPeriodExpiry => Sys2Proof.Machine.execQuietPeriodExpiry s
  | .shadowExpiry => Sys2Proof.Machine.execShadowExpiry s
  | .sourceConfigWrite via d => Sys2Proof.Machine.execSourceConfigWrite via d s
  | .sourceSelectWrite via d => Sys2Proof.Machine.execSourceSelectWrite via d s
  | .fabricListenerSend => Sys2Proof.Machine.execFabricListenerSend s
  | .inboxWrite via d => Sys2Proof.Machine.execInboxWrite via d s
  | .inboxRead via => Sys2Proof.Machine.execInboxRead via s
  | .dieTempRefresh temps => Sys2Proof.Machine.execDieTempRefresh temps s
  | .supplyValidChange rail valid coreLost isSealed => Sys2Proof.Machine.execSupplyValidChange rail valid coreLost isSealed s
  | .rstNLow held => Sys2Proof.Machine.execRstNLow held s
  | .jtagResetInstruction held => Sys2Proof.Machine.execJtagResetInstruction held s
  | .resetAssert => Sys2Proof.Machine.execResetAssert s
  | .resetRelease => Sys2Proof.Machine.execResetRelease s
  | .bootClocksDone mode nid sosc => Sys2Proof.Machine.execBootClocksDone mode nid sosc s
  | .bootRecoveryDone => Sys2Proof.Machine.execBootRecoveryDone s
  | .bootFirmwareDone => Sys2Proof.Machine.execBootFirmwareDone s
  | .bootRestoreDone => Sys2Proof.Machine.execBootRestoreDone s
  | .bootCalibrationDone => Sys2Proof.Machine.execBootCalibrationDone s
  | .bootChannelsDone => Sys2Proof.Machine.execBootChannelsDone s
  | .bootSynthesisDone => Sys2Proof.Machine.execBootSynthesisDone s
  | .bootDone => Sys2Proof.Machine.execBootDone s
  | .canErrorStateChange passive busOff => Sys2Proof.Machine.execCanErrorStateChange passive busOff s
  | .soscPresent => Sys2Proof.Machine.execSoscPresent s
  | .preMasterQualificationTimeout c => Sys2Proof.Machine.execPreMasterQualificationTimeout c s
  | .odStoreEntryExpiry => Sys2Proof.Machine.execOdStoreEntryExpiry s

end Sys2Proof.Machine
end

