-- ==== Sys2Proof/Machine/Frames.lean ====
section
/-! DEFINITION. What a command may touch: for every row the parts of the state, and for many the indices of the dictionary. The statements
about what stays as it was are made in these terms. -/

namespace Sys2Proof.Machine

/-- The parts of the state, one for each block of the device, and the dictionary with its two halves. -/
inductive Part where
  /-- model time -/
  | now
  /-- the dictionary in the hub -/
  | od
  /-- registers on S and the C dies -/
  | dr
  /-- what was sent -/
  | out
  /-- the counter of free values -/
  | free
  /-- fault messages on their way -/
  | faultIn
  /-- the links -/
  | link
  /-- slices, gates and the measurement time base -/
  | chan
  /-- the time counters -/
  | tcs
  /-- cupping -/
  | cups
  /-- DPLLs and carafes -/
  | dp
  /-- contexts -/
  | ctxs
  /-- the Ethernet ports and PTP -/
  | ptp
  /-- APLLs and outputs -/
  | ap
  /-- scheduled actions -/
  | sched
  /-- engines that restart -/
  | engDown
  /-- the arbiter -/
  | eng
  /-- the fabric -/
  | fab
  /-- calibration -/
  | cal
  /-- the store -/
  | nv
  /-- the fault collector -/
  | col
  /-- CANopen -/
  | can
  /-- the host interfaces -/
  | host
  /-- the boot -/
  | boot
  /-- a reset that is due -/
  | resetReq
deriving DecidableEq, Repr

/-- Every part. -/
def Part.all : List Part :=
  [.now, .od, .dr, .out, .free, .faultIn, .link, .chan, .tcs, .cups, .dp, .ctxs, .ptp, .ap, .sched, .engDown, .eng, .fab, .cal, .nv, .col, .can,
  .host, .boot, .resetReq]

/-- A part is the same in two states. -/
def Part.same (s t : State) : Part → Prop
  | .now => t.now = s.now
  | .od => t.od = s.od
  | .dr => t.dr = s.dr
  | .out => t.out = s.out
  | .free => t.free = s.free
  | .faultIn => t.faultIn = s.faultIn
  | .link => t.link = s.link
  | .chan => t.chan = s.chan
  | .tcs => t.tcs = s.tcs
  | .cups => t.cups = s.cups
  | .dp => t.dp = s.dp
  | .ctxs => t.ctxs = s.ctxs
  | .ptp => t.ptp = s.ptp
  | .ap => t.ap = s.ap
  | .sched => t.sched = s.sched
  | .engDown => t.engDown = s.engDown
  | .eng => t.eng = s.eng
  | .fab => t.fab = s.fab
  | .cal => t.cal = s.cal
  | .nv => t.nv = s.nv
  | .col => t.col = s.col
  | .can => t.can = s.can
  | .host => t.host = s.host
  | .boot => t.boot = s.boot
  | .resetReq => t.resetReq = s.resetReq

/-- The parts that a command may touch: all others stay as they are, and so does the queue. A write that follows others of its interface to
the same island takes effect after them (R20), so it may touch what they touch. -/
def touched : Instr → List Part
  | .dieLinkWordReceived _ _ _ _ =>
      [.od, .dr, .faultIn, .link]
  | .linkReplay _ | .linkAckReceived _ _ =>
      [.od, .dr, .link]
  | .linkTrainingAttemptEnd _ _ | .linkDownRetryTimer _ _ =>
      [.od, .dr, .faultIn, .link, .chan, .cups, .ap, .col, .boot, .resetReq]
  | .mirrorRefresh _ | .snapshotLatchArrives | .snapshotMarkerArrives =>
      [.od, .dr, .faultIn, .link, .chan]
  | .channelEdge _ _ _ _ _ =>
      [.od, .dr, .chan]
  | .stampIngest _ _ _ =>
      [.od, .dr, .out, .faultIn, .link, .chan, .cups, .fab, .col, .boot, .resetReq]
  | .watermarkReceived _ _ _ =>
      [.od, .dr, .faultIn, .link, .chan, .boot, .resetReq]
  | .spiStatus _ | .lssInquireIdentity _ | .lssIdentifyRemoteSlave _ _ _ _ _ _ | .lssIdentifyNonConfigured | .heartbeatTimer | .peerResolveTimer =>
      [.out]
  | .spiInvalidFrame _ _ =>
      [.od, .out]
  | .nmtStartRemoteNode _ | .nmtStopRemoteNode _ | .nmtEnterPreOperational _ | .lssActivateBitTiming _ =>
      [.can]
  | .nmtResetCommunication _ | .lssSwitchStateGlobal _ =>
      [.out, .can, .host]
  | .nmtResetNode _ =>
      [.out, .can, .host, .resetReq]
  | .lssSwitchStateSelective _ _ _ _ | .tpdoTransmit _ | .tpdoEventTimer _ =>
      [.out, .can]
  | .lssConfigureNodeId _ | .lssConfigureBitTiming _ _ | .lssStoreConfiguration =>
      [.out, .nv, .can]
  | .sdoDownload _ _ _ _ | .sdoSegment _ _ =>
      [.od, .out, .faultIn, .nv, .can, .host]
  | .sdoUpload _ _ _ _ =>
      [.od, .out, .faultIn, .chan, .ptp, .nv, .col, .can, .host]
  | .sdoTimeout _ =>
      [.od, .out, .can, .host]
  | .syncReceived _ | .canErrorStateChange _ _ =>
      [.od, .can]
  | .rpdoReceived _ _ =>
      [.od, .faultIn, .nv, .host]
  | .emcyTransmit =>
      [.out, .col, .can]
  | .journalCommitTimer _ | .pfailRise =>
      [.nv]
  | .stampPop _ _ _ | .txRecordPop _ | .inboxRead _ =>
      [.od, .out, .faultIn, .chan, .ptp, .nv, .col, .host]
  | .exportFlushTimer _ =>
      [.od, .out, .faultIn, .chan, .fab, .col]
  | .rateSecond =>
      [.dr, .chan, .ctxs]
  | .gateDeadline _ =>
      [.od, .chan]
  | .soscAbsent | .soscPresent =>
      [.chan]
  | .timebaseFallback | .timebaseSoscReturn =>
      [.od, .faultIn, .chan, .cups, .cal, .boot, .resetReq]
  | .timebaseModelEval | .ethOtherFrameRx _ _ | .discoveryDone | .blendPourDone | .laneAdaptStep _ _ _ _ =>
      [.od]
  | .sampleIntervalEnd _ =>
      [.od, .cups]
  | .losDeclared _ | .cupEvaluation _ | .losClearTimeExpiry _ =>
      [.od, .faultIn, .chan, .cups, .boot, .resetReq]
  | .losSignalArrives _ | .cupStateArrives _ | .faultHoldArrives _ | .faultHoldRemoved _ | .carafeSampleArrives _ | .preparedValueArrives _
  | .holdoverCorrection _ =>
      [.od, .dr, .faultIn, .link, .dp]
  | .freqWindowEnd _ | .driftBinEnd _ | .mtieStep _ _ | .tdevBlockEnd _ _ =>
      [.od, .faultIn, .chan, .cups, .eng, .boot, .resetReq]
  | .qualifyTimeExpiry _ =>
      [.od, .faultIn, .cups, .boot, .resetReq]
  | .dpllUpdate _ _ =>
      [.od, .dr, .out, .faultIn, .link, .tcs, .dp, .ctxs, .ap, .sched, .fab, .boot, .resetReq]
  | .wtrExpiry _ _ =>
      [.dr, .dp]
  | .holdOffExpiry _ | .carafeSecond =>
      [.dp]
  | .acqTimeout _ =>
      [.faultIn, .dp]
  | .holdoverPrepare _ | .fitIntervalTimer _ | .tempStaleTimer _ =>
      [.od, .dp]
  | .holdoverAlarm _ | .ethLinkChange _ _ =>
      [.od, .faultIn, .dp]
  | .fitComplete _ =>
      [.od, .free, .faultIn, .dp]
  | .baseChangeToMxo =>
      [.od, .dr, .faultIn, .dp, .ap]
  | .baseChangeToSosc =>
      [.od, .dr, .faultIn, .chan, .dp, .ap]
  | .refRelockComplete | .lockingTimeout _ | .rampSegmentEnd _ =>
      [.dr, .ap]
  | .bandSelectDone _ _ =>
      [.od, .dr, .ap]
  | .lockWindowEnd _ _ =>
      [.dr, .faultIn, .ap]
  | .returnHoldExpiry _ =>
      [.dr, .ap, .boot]
  | .alignedEdge _ =>
      [.ap]
  | .tcPourDone _ =>
      [.od, .tcs]
  | .tieIncrementArrives _ =>
      [.od, .dr, .faultIn, .link, .tcs]
  | .hwsOffset _ =>
      [.od, .faultIn, .tcs, .sched]
  | .pulseInstant _ =>
      [.out, .tcs, .ap]
  | .contextStateChange _ =>
      [.od, .faultIn, .tcs]
  | .offsetTimeout _ | .contextQualifyTime _ | .ptpAnnounceRx _ _ | .announceReceiptTimeout _ | .preMasterQualificationTimeout _ =>
      [.od, .faultIn, .tcs, .ctxs]
  | .ptpSyncRx _ _ | .ptpFollowUpRx _ _ | .ptpDelayRespRx _ _ | .ptpPdelayRespRx _ _ =>
      [.od, .faultIn, .tcs, .dp, .ctxs, .sched]
  | .ptpDelayReqRx _ _ =>
      [.od, .out, .free, .ptp]
  | .ptpPdelayReqRx _ _ | .ptpSyncInterval _ | .ptpDelayReqInterval _ | .ptpAnnounceInterval _ | .grantRenewalTimer _ =>
      [.od, .out, .free, .ctxs, .ptp]
  | .ptpSignalingRx _ _ =>
      [.od, .out, .free, .faultIn, .tcs, .ctxs, .ptp]
  | .grantExpiry _ | .txStampMissing _ =>
      [.od, .ctxs]
  | .arpNdpRx _ _ _ =>
      [.out, .ctxs]
  | .passthroughFrame _ _ _ _ _ =>
      [.od, .out, .free, .faultIn, .tcs, .dp, .ctxs, .ptp, .sched]
  | .actionDue _ =>
      [.od, .out, .faultIn, .chan, .tcs, .ap, .sched, .boot, .resetReq]
  | .actionDispatch _ =>
      [.out, .sched]
  | .edgeActionFires _ =>
      [.od, .faultIn, .ap, .sched]
  | .schedDpllActionArrives _ =>
      [.od, .dr, .faultIn, .link, .dp, .sched]
  | .fabTrainingAttemptEnd _ _ _ | .fabBerFail _ | .fabHelloTimeout _ | .txReferenceChange _ =>
      [.od, .out, .faultIn, .tcs, .dp, .ctxs, .fab]
  | .fabTrainingRetryTimer _ | .rootSeqTimer | .routeExpiry _ _ | .addressHoldExpiry _ | .markerResponseRx _ _ _ | .exchangeFollowUpTimeout _ =>
      [.fab]
  | .creditRx _ _ _ | .creditReportTimer | .helloTimer | .routeUpdateTimer | .linkTimingSlot _ | .timeDownSlot _ | .markerRequestRx _ _ _ _ =>
      [.out, .fab]
  | .rootTimeout | .blendEnd =>
      [.od, .out, .faultIn, .tcs, .ctxs, .fab]
  | .routeRebuildDone | .pendingFrameExpiry | .addressRetryTimer =>
      [.od, .out, .faultIn, .fab]
  | .slotFrameBoundary =>
      [.od, .fab]
  | .blendMeasureDone =>
      [.od, .out, .fab]
  | .blendInstant =>
      [.od, .dr, .faultIn, .tcs, .dp, .ap, .sched, .fab]
  | .blendAlign =>
      [.ap, .fab]
  | .calStepStart _ _ | .calHandoverCut _ _ | .calPassComplete _ _ | .calPassTimeout _ | .calProcessingDone _ _ | .calOffsetsDone _ _ _ _
  | .calLinkAbandonTimer _ =>
      [.od, .faultIn, .chan, .cal]
  | .outputTracking _ _ | .eyeMonitor _ _ =>
      [.od, .faultIn, .cal]
  | .branchTrimStep _ _ _ =>
      [.od, .dr]
  | .apllTrimStep _ _ _ _ =>
      [.od, .dr, .faultIn]
  | .scrubRead _ _ _ | .storeStart | .commitStart | .energyRecheckTimer | .pfailFall | .recordTie _ =>
      [.od, .faultIn, .nv]
  | .storeComplete =>
      [.od, .nv, .boot, .resetReq]
  | .commitComplete =>
      [.od, .faultIn, .nv, .resetReq]
  | .vholdSample _ | .hostTimeout =>
      [.od, .nv]
  | .engineWatchdog _ =>
      [.od, .faultIn, .dp, .engDown, .eng, .resetReq]
  | .engineRestartDone _ =>
      [.od, .out, .faultIn, .chan, .cups, .dp, .engDown, .eng, .fab, .boot, .resetReq]
  | .engineOverload _ _ | .lockRequest _ _ | .holdLimitExpiry =>
      [.od, .faultIn, .eng]
  | .contextStoreRequest _ | .lockRelease _ _ =>
      [.od, .eng]
  | .requesterAged _ =>
      [.eng]
  | .faultMessage =>
      Part.all.filter (· ∉ [.now, .free, .ptp, .cal, .can, .host])
  | .quietPeriodExpiry =>
      [.od, .ap, .col]
  | .shadowExpiry =>
      [.col]
  | .fabricListenerSend =>
      [.od, .out, .faultIn, .fab, .col]
  | .dieTempRefresh _ =>
      [.od, .faultIn, .dp, .col]
  | .supplyValidChange _ _ _ _ =>
      [.nv, .boot, .resetReq]
  | .rstNLow _ | .jtagResetInstruction _ =>
      [.boot, .resetReq]
  | .resetAssert =>
      Part.all.filter (· ∉ [.now, .free])
  | .resetRelease =>
      [.od, .nv, .host, .boot, .resetReq]
  | .bootClocksDone _ _ _ =>
      [.od, .chan, .dp, .boot]
  | .bootRecoveryDone =>
      [.od, .faultIn, .cal, .nv, .boot]
  | .bootFirmwareDone =>
      [.od, .faultIn, .nv, .can, .boot]
  | .bootRestoreDone =>
      [.od, .faultIn, .chan, .ctxs, .cal, .nv, .col, .can, .boot]
  | .bootCalibrationDone =>
      [.od, .free, .link, .chan, .ap, .cal, .boot]
  | .bootChannelsDone =>
      [.od, .dr, .faultIn, .chan, .cups, .ap, .nv, .boot, .resetReq]
  | .bootSynthesisDone =>
      [.od, .boot]
  | .bootDone =>
      [.od, .out, .faultIn, .tcs, .dp, .ctxs, .ap, .sched, .fab, .cal, .nv, .col, .can, .boot]
  | .objectWrite _ _ _ _ | .writeTakesEffect _ _ | .historyW1cWrite _ _ _ _ | .linkRetrain _ _ | .linkClearCounters _ _ | .errorInjectSingle _ _
  | .errorInjectExhaust _ _ | .errorInjectSingleReverse _ _ | .errorInjectExhaustReverse _ _ | .errorInjectOff _ _ | .snapChannelWrite _ _
  | .parallelReadHalf0 _ _ | .parallelReadHalf1 _ _ | .parallelWriteHalf0 _ _ _ | .parallelWriteHalf1 _ _ _ | .spiRead _ _ _ | .spiWrite _ _ _
  | .openRead _ | .openWrite _ | .close_ _ | .streamDataRead _ _ | .streamDataWrite _ _ | .deviceReset _ | .clearErrorList _ _
  | .storeParameters _ _ _ | .restoreDefaultParameters _ _ _ | .programDataWrite _ _ | .programStart _ | .programStop _ | .programClear _
  | .channelRoleWrite _ _ _ | .gateArm _ _ | .gateAbort _ _ | .timebaseSourceWrite _ _ | .soscHzWrite _ _ | .dateNow _ _ | .cuppingEnableWrite _ _ _
  | .requalify _ _ | .disqualify _ _ | .restartStats _ _ | .dpllEnableWrite _ _ _ | .switchModeWrite _ _ _ | .candidateWrite _ _ _ _ | .openLoop _ _
  | .closeLoop _ _ | .forceFreerun _ _ | .forceHoldover _ _ | .release _ _ | .clearWtr _ _ | .dpllTamp _ _ _ | .swFfoWrite _ _ _ | .fit _ _
  | .clearCarafe _ _ | .clearModel _ _ | .carafeWrite _ _ _ | .modelValidWrite _ _ _ | .hostTempWrite _ _ _ | .apllEnableWrite _ _ _ | .apllRelock _ _
  | .apllClearCounters _ _ | .rampStart _ _ | .rampStop _ _ | .rampClear _ _ | .outSourceWrite _ _ _ | .outDividerWrite _ _ _ | .outEnableWrite _ _ _
  | .alignOutput _ _ | .alignGroups _ _ | .setTime _ _ _ | .tcTamp _ _ _ | .pourAmountWrite _ _ _ | .pourAbort _ _ | .incrementWrite _ _ _
  | .disciplineSwi _ _ | .disciplineHws _ _ | .disciplineTied _ _ | .rxRecordWrite _ _ | .txStampWrite _ _ | .contextConfigWrite _ _ _
  | .contextEnableWrite _ _ _ | .offsetInWrite _ _ _ | .contextClearCounters _ _ | .contextRestart _ _ | .passthroughWrite _ _ | .entryWrite _ _ _
  | .arm _ _ _ | .disarm _ _ _ | .fabModeWrite _ _ _ | .txApllWrite _ _ _ | .fabPortRetrain _ _ | .fabPortClearCounters _ _ | .fabFrameRx _ _ _
  | .helloRx _ _ | .routeUpdateRx _ _ | .addressRequestRx _ _ | .addressGrantRx _ _ | .rediscover _ | .fabClearCounters _ | .slotTableCommit _ _
  | .timingFollowUpRx _ _ _ | .timeDownRx _ _ | .odRequestRx _ _ _ | .odResponseRx _ _ _ | .stampBatchRx _ _ _ | .requestRead _ _ | .requestWrite _ _
  | .requestCancel _ _ | .requestTimeout _ | .blendProposalRx _ _ | .blendAnnounceRx _ _ _ | .sweepNow _ | .saveShadow _ | .restoreShadow _
  | .calEnableWrite _ _ | .sliceRecordWrite _ _ _ _ | .outputRecordWrite _ _ _ _ | .store _ | .scrubNow _ | .writeData _ _ | .hostCommit _
  | .hostDiscard _ | .recordDataWrite _ _ | .recordErase _ | .recordRepair _ | .recordSelectWrite _ _ | .arbiterSnapshot _ | .arbiterClearCounters _
  | .assignWrite _ _ | .classWrite _ _ _ | .inject _ _ | .unackW1cWrite _ _ _ _ | .ackAll _ | .recover _ | .clearSticky _ | .collectorClearCounters _
  | .sourceConfigWrite _ _ | .sourceSelectWrite _ _ | .inboxWrite _ _ | .odStoreEntryExpiry =>
      Part.all.filter (· ≠ .now)

/-- The write that a command is, where it is the write of one entry and names an instance that exists: the interface, the index, the
subindex and the bytes written. -/
def entryWrite : Instr → Option (Iface × Nat × Nat × Datum)
  | .linkRetrain via l => if l < 13 then some (via, 0x2020 + l, 0x0C, ⟨1, 1⟩) else none
  | .linkClearCounters via l => if l < 13 then some (via, 0x2020 + l, 0x0C, ⟨1, 2⟩) else none
  | .errorInjectSingle via l => if l < 13 then some (via, 0x2020 + l, 0x0D, ⟨1, 1⟩) else none
  | .errorInjectExhaust via l => if l < 13 then some (via, 0x2020 + l, 0x0D, ⟨1, 2⟩) else none
  | .errorInjectSingleReverse via l => if l < 13 then some (via, 0x2020 + l, 0x0D, ⟨1, 3⟩) else none
  | .errorInjectExhaustReverse via l => if l < 13 then some (via, 0x2020 + l, 0x0D, ⟨1, 4⟩) else none
  | .errorInjectOff via l => if l < 13 then some (via, 0x2020 + l, 0x0D, ⟨1, 0⟩) else none
  | .snapChannelWrite via d => some (via, 0x2030, 1, d)
  | .deviceReset via => some (via, 0x2001, 2, ⟨1, 0x5A⟩)
  | .clearErrorList via d => some (via, 0x1003, 0, d)
  | .storeParameters via sub d => some (via, 0x1010, sub, d)
  | .restoreDefaultParameters via sub d => some (via, 0x1011, sub, d)
  | .programDataWrite via d => some (via, 0x1F50, 1, d)
  | .programStart via => some (via, 0x1F51, 1, ⟨1, 1⟩)
  | .programStop via => some (via, 0x1F51, 1, ⟨1, 0⟩)
  | .programClear via => some (via, 0x1F51, 1, ⟨1, 3⟩)
  | .channelRoleWrite via n d => if n < 96 then some (via, 0x3000 + n, 1, d) else none
  | .gateArm via g => if g < 24 then some (via, 0x3300 + g, 6, ⟨1, 1⟩) else none
  | .gateAbort via g => if g < 24 then some (via, 0x3300 + g, 6, ⟨1, 2⟩) else none
  | .timebaseSourceWrite via d => some (via, 0x2601, 1, d)
  | .soscHzWrite via d => some (via, 0x2601, 2, d)
  | .dateNow via sosc => some (via, 0x2602 + b2n sosc, 5, ⟨1, 1⟩)
  | .cuppingEnableWrite via n d => if n < 96 then some (via, 0x3100 + n, 5, d) else none
  | .requalify via n => if n < 96 then some (via, 0x3100 + n, 8, ⟨1, 1⟩) else none
  | .disqualify via n => if n < 96 then some (via, 0x3100 + n, 8, ⟨1, 2⟩) else none
  | .restartStats via n => if n < 96 then some (via, 0x3100 + n, 8, ⟨1, 3⟩) else none
  | .dpllEnableWrite via k d => if k < 16 then some (via, 0x3400 + k, 1, d) else none
  | .switchModeWrite via k d => if k < 16 then some (via, 0x3400 + k, 2, d) else none
  | .candidateWrite via k e d => if e < 16 then some (via, 0x3410 + k, e + 1, d) else none
  | .openLoop via k => if k < 16 then some (via, 0x3400 + k, 0x18, ⟨1, 1⟩) else none
  | .closeLoop via k => if k < 16 then some (via, 0x3400 + k, 0x18, ⟨1, 2⟩) else none
  | .forceFreerun via k => if k < 16 then some (via, 0x3400 + k, 0x18, ⟨1, 3⟩) else none
  | .forceHoldover via k => if k < 16 then some (via, 0x3400 + k, 0x18, ⟨1, 4⟩) else none
  | .release via k => if k < 16 then some (via, 0x3400 + k, 0x18, ⟨1, 5⟩) else none
  | .clearWtr via k => if k < 16 then some (via, 0x3400 + k, 0x18, ⟨1, 6⟩) else none
  | .dpllTamp via k d => if k < 16 then some (via, 0x3400 + k, 0x17, d) else none
  | .swFfoWrite via k d => if k < 16 then some (via, 0x3400 + k, 0x16, d) else none
  | .fit via k => if k < 16 then some (via, 0x3430 + k, 0x0E, ⟨1, 1⟩) else none
  | .clearCarafe via k => if k < 16 then some (via, 0x3430 + k, 0x0E, ⟨1, 2⟩) else none
  | .clearModel via k => if k < 16 then some (via, 0x3430 + k, 0x0E, ⟨1, 3⟩) else none
  | .carafeWrite via k d => if k < 16 then some (via, 0x3430 + k, 0x1F, d) else none
  | .modelValidWrite via k d => if k < 16 then some (via, 0x3430 + k, 0x20, d) else none
  | .hostTempWrite via k d => if k < 16 then some (via, 0x3430 + k, 0x0A, d) else none
  | .apllEnableWrite via j d => if j < 8 then some (via, 0x3500 + j, 5, d) else none
  | .apllRelock via j => if j < 8 then some (via, 0x3500 + j, 0x12, ⟨1, 1⟩) else none
  | .apllClearCounters via j => if j < 8 then some (via, 0x3500 + j, 0x12, ⟨1, 2⟩) else none
  | .rampStart via j => if j < 8 then some (via, 0x3508 + j, 3, ⟨1, 1⟩) else none
  | .rampStop via j => if j < 8 then some (via, 0x3508 + j, 3, ⟨1, 2⟩) else none
  | .rampClear via j => if j < 8 then some (via, 0x3508 + j, 3, ⟨1, 3⟩) else none
  | .outSourceWrite via n d => if n < 96 then some (via, 0x3000 + n, 0x0A, d) else none
  | .outDividerWrite via n d => if n < 96 then some (via, 0x3000 + n, 0x0B, d) else none
  | .outEnableWrite via n d => if n < 96 then some (via, 0x3000 + n, 0x0E, d) else none
  | .alignOutput via d => some (via, 0x2630, 5, d)
  | .alignGroups via d => some (via, 0x2630, 6, d)
  | .setTime via t d => if t < 4 then some (via, 0x3600 + t, 6, d) else none
  | .tcTamp via t d => if t < 4 then some (via, 0x3600 + t, 0x0F, d) else none
  | .pourAmountWrite via t d => if t < 4 then some (via, 0x3600 + t, 0x10, d) else none
  | .pourAbort via t => if t < 4 then some (via, 0x3600 + t, 0x12, ⟨1, 1⟩) else none
  | .incrementWrite via t d => if t < 4 then some (via, 0x3600 + t, 9, d) else none
  | .disciplineSwi via t => if t < 4 then some (via, 0x3600 + t, 7, ⟨1, 0⟩) else none
  | .disciplineHws via t => if t < 4 then some (via, 0x3600 + t, 7, ⟨1, 1⟩) else none
  | .disciplineTied via t => if t < 4 then some (via, 0x3600 + t, 7, ⟨1, 2⟩) else none
  | .rxRecordWrite via d => some (via, 0x3612, 2, d)
  | .txStampWrite via d => some (via, 0x3612, 4, d)
  | .contextConfigWrite via c d => if c < 256 then some (via, 0x3700 + c, 5, d) else none
  | .contextEnableWrite via c d => if c < 256 then some (via, 0x3700 + c, 6, d) else none
  | .offsetInWrite via c d => if c < 256 then some (via, 0x3700 + c, 8, d) else none
  | .contextClearCounters via c => if c < 256 then some (via, 0x3700 + c, 9, ⟨1, 1⟩) else none
  | .contextRestart via c => if c < 256 then some (via, 0x3700 + c, 9, ⟨1, 2⟩) else none
  | .passthroughWrite via d => some (via, 0x3610, 5, d)
  | .entryWrite via e d => if e / 16 < 4 then some (via, 0x3620 + e / 16, 5 + e % 16, d) else none
  | .arm via b d => if b < 4 then some (via, 0x3620 + b, 0x25, d) else none
  | .disarm via b d => if b < 4 then some (via, 0x3620 + b, 0x26, d) else none
  | .fabModeWrite via p d => if p < 4 then some (via, 0x3804 + p, 1, d) else none
  | .txApllWrite via p d => if p < 4 then some (via, 0x3804 + p, 4, d) else none
  | .fabPortRetrain via p => if p < 4 then some (via, 0x3804 + p, 0x11, ⟨1, 1⟩) else none
  | .fabPortClearCounters via p => if p < 4 then some (via, 0x3804 + p, 0x11, ⟨1, 2⟩) else none
  | .rediscover via => some (via, 0x3800, 0x14, ⟨1, 1⟩)
  | .fabClearCounters via => some (via, 0x3800, 0x14, ⟨1, 2⟩)
  | .slotTableCommit via p => if p < 4 then some (via, 0x3808 + p, 3, ⟨1, 1⟩) else none
  | .requestRead via r => if r < 4 then some (via, 0x3820 + r, 5, ⟨1, 1⟩) else none
  | .requestWrite via r => if r < 4 then some (via, 0x3820 + r, 5, ⟨1, 2⟩) else none
  | .requestCancel via r => if r < 4 then some (via, 0x3820 + r, 5, ⟨1, 3⟩) else none
  | .sweepNow via => some (via, 0x2500, 0x0C, ⟨1, 1⟩)
  | .saveShadow via => some (via, 0x2500, 0x0C, ⟨1, 2⟩)
  | .restoreShadow via => some (via, 0x2500, 0x0C, ⟨1, 3⟩)
  | .calEnableWrite via d => some (via, 0x2500, 5, d)
  | .sliceRecordWrite via c i d => if i < 17 then some (via, 0x2510 + c, i + 1, d) else none
  | .outputRecordWrite via c i d => if i < 16 then some (via, 0x2520 + c, i + 1, d) else none
  | .store via => some (via, 0x2300, 5, ⟨1, 1⟩)
  | .scrubNow via => some (via, 0x2300, 5, ⟨1, 2⟩)
  | .writeData via d => some (via, 0x2310, 4, d)
  | .hostCommit via => some (via, 0x2310, 5, ⟨1, 1⟩)
  | .hostDiscard via => some (via, 0x2310, 5, ⟨1, 2⟩)
  | .recordDataWrite via d => some (via, 0x2320, 2, d)
  | .recordErase via => some (via, 0x2320, 5, ⟨1, 1⟩)
  | .recordRepair via => some (via, 0x2320, 5, ⟨1, 2⟩)
  | .recordSelectWrite via d => some (via, 0x2320, 1, d)
  | .arbiterSnapshot via => some (via, 0x2400, 8, ⟨1, 1⟩)
  | .arbiterClearCounters via => some (via, 0x2400, 8, ⟨1, 2⟩)
  | .assignWrite via d => some (via, 0x2420, 1, d)
  | .classWrite via q d => if q < 24 then some (via, 0x2430 + q, 1, d) else none
  | .inject via d => some (via, 0x2200, 0x0B, d)
  | .unackW1cWrite via level w d => if 1 ≤ level ∧ level ≤ 3 ∧ w < 32 then some (via, 0x2202 + level, w + 1, d) else none
  | .ackAll via => some (via, 0x2200, 0x0A, ⟨1, 1⟩)
  | .recover via => some (via, 0x2200, 0x0A, ⟨1, 2⟩)
  | .clearSticky via => some (via, 0x2200, 0x0A, ⟨1, 3⟩)
  | .collectorClearCounters via => some (via, 0x2200, 0x0A, ⟨1, 4⟩)
  | .sourceConfigWrite via d => some (via, 0x2210, 2, d)
  | .sourceSelectWrite via d => some (via, 0x2210, 1, d)
  | .inboxWrite via d => some (via, 0x2230, 1, d)
  | _ => none

/-- The parts that a write touches that is accepted while no earlier one waits. The store is among them: it holds the change journal (R15). -/
def writeTouched : Instr → List Part
  | .linkRetrain _ _ | .linkClearCounters _ _ | .errorInjectSingle _ _ | .errorInjectExhaust _ _ | .errorInjectSingleReverse _ _
  | .errorInjectExhaustReverse _ _ | .errorInjectOff _ _ =>
      [.od, .dr, .link, .nv]
  | .snapChannelWrite _ _ | .dpllEnableWrite _ _ _ | .swFfoWrite _ _ _ | .outputRecordWrite _ _ _ _ =>
      [.od, .link, .nv]
  | .deviceReset _ | .restoreDefaultParameters _ _ _ | .store _ | .scrubNow _ | .recordErase _ =>
      [.nv]
  | .clearErrorList _ _ | .storeParameters _ _ _ | .programStop _ | .programClear _ | .dateNow _ _ | .modelValidWrite _ _ _ | .incrementWrite _ _ _
  | .contextClearCounters _ _ | .passthroughWrite _ _ | .entryWrite _ _ _ | .fabPortClearCounters _ _ | .fabClearCounters _ | .requestCancel _ _
  | .arbiterSnapshot _ | .assignWrite _ _ | .unackW1cWrite _ _ _ _ | .ackAll _ | .clearSticky _ | .sourceSelectWrite _ _ =>
      [.od, .nv]
  | .programDataWrite _ _ | .programStart _ | .writeData _ _ | .hostCommit _ | .hostDiscard _ | .recordDataWrite _ _ | .recordRepair _
  | .recordSelectWrite _ _ | .classWrite _ _ _ =>
      [.od, .faultIn, .nv]
  | .channelRoleWrite _ _ _ =>
      [.od, .faultIn, .link, .chan, .cups, .ap, .cal, .nv, .boot, .resetReq]
  | .gateArm _ _ | .gateAbort _ _ =>
      [.od, .chan, .nv, .boot, .resetReq]
  | .timebaseSourceWrite _ _ =>
      [.od, .faultIn, .chan, .cups, .cal, .nv, .boot, .resetReq]
  | .soscHzWrite _ _ =>
      [.od, .chan, .nv]
  | .cuppingEnableWrite _ _ _ | .requalify _ _ | .disqualify _ _ | .restartStats _ _ =>
      [.od, .faultIn, .chan, .cups, .nv, .boot, .resetReq]
  | .switchModeWrite _ _ _ | .candidateWrite _ _ _ _ | .openLoop _ _ | .closeLoop _ _ | .forceFreerun _ _ | .forceHoldover _ _ | .release _ _
  | .clearWtr _ _ | .dpllTamp _ _ _ =>
      [.od, .link, .dp, .nv]
  | .fit _ _ | .clearCarafe _ _ | .clearModel _ _ | .carafeWrite _ _ _ | .hostTempWrite _ _ _ =>
      [.od, .dp, .nv]
  | .apllEnableWrite _ _ _ =>
      [.od, .dr, .faultIn, .link, .ap, .nv]
  | .apllRelock _ _ | .apllClearCounters _ _ | .rampStart _ _ | .rampStop _ _ | .rampClear _ _ =>
      [.od, .dr, .link, .ap, .nv]
  | .outSourceWrite _ _ _ | .outDividerWrite _ _ _ | .outEnableWrite _ _ _ | .alignOutput _ _ | .alignGroups _ _ =>
      [.od, .link, .ap, .nv]
  | .setTime _ _ _ | .tcTamp _ _ _ | .pourAmountWrite _ _ _ | .pourAbort _ _ =>
      [.tcs, .nv]
  | .disciplineSwi _ _ | .disciplineHws _ _ =>
      [.od, .tcs, .nv]
  | .disciplineTied _ _ =>
      [.od, .faultIn, .tcs, .dp, .sched, .nv]
  | .rxRecordWrite _ _ =>
      [.od, .out, .free, .faultIn, .tcs, .dp, .ctxs, .ptp, .sched, .nv]
  | .txStampWrite _ _ =>
      [.od, .out, .free, .ctxs, .ptp, .nv]
  | .contextConfigWrite _ _ _ =>
      [.od, .ctxs, .nv]
  | .contextEnableWrite _ _ _ | .contextRestart _ _ =>
      [.od, .faultIn, .tcs, .ctxs, .nv]
  | .offsetInWrite _ _ _ =>
      [.od, .faultIn, .tcs, .dp, .ctxs, .sched, .nv]
  | .arm _ _ _ | .disarm _ _ _ =>
      [.sched, .nv]
  | .fabModeWrite _ _ _ | .txApllWrite _ _ _ | .fabPortRetrain _ _ =>
      [.od, .out, .faultIn, .tcs, .dp, .ctxs, .fab, .nv]
  | .rediscover _ =>
      [.od, .out, .faultIn, .fab, .nv]
  | .slotTableCommit _ _ =>
      [.od, .fab, .nv]
  | .requestRead _ _ | .requestWrite _ _ =>
      Part.all.filter (· ≠ .now)
  | .sweepNow _ | .saveShadow _ | .calEnableWrite _ _ =>
      [.od, .cal, .nv]
  | .restoreShadow _ =>
      [.od, .chan, .cal, .nv]
  | .sliceRecordWrite _ _ _ _ =>
      [.od, .link, .chan, .cal, .nv]
  | .arbiterClearCounters _ =>
      [.od, .eng, .nv]
  | .inject _ _ =>
      Part.all.filter (· ∉ [.now, .free, .ptp, .cal, .can, .host])
  | .recover _ =>
      [.od, .ap, .nv, .col]
  | .collectorClearCounters _ | .inboxWrite _ _ =>
      [.od, .nv, .col]
  | .sourceConfigWrite _ _ =>
      [.nv, .col]
  | _ => Part.all

/-- The objects that a command may touch, as ranges of indices: a first index and how many. None where nothing is said. -/
def objectsTouched : Instr → Option (List (Nat × Nat))
  | .dieLinkWordReceived _ _ _ _ | .linkReplay _ | .linkAckReceived _ _ => some [(0x2018, 1), (0x2020, 13), (0x202F, 1)]
  | .snapshotLatchArrives | .losSignalArrives _ | .cupStateArrives _ | .faultHoldArrives _ | .faultHoldRemoved _ | .preparedValueArrives _ => some [(0x2018, 1), (0x2020, 13)]
  | .snapshotMarkerArrives => some [(0x2018, 1), (0x2020, 13), (0x2030, 1)]
  | .watermarkReceived _ _ _ => some [(0x2018, 1), (0x2020, 13), (0x3300, 24)]
  | .exportFlushTimer _ => some [(0x2610, 1), (0x3800, 1), (0x3802, 1)]
  | .rateSecond => some [(0x3200, 96)]
  | .gateDeadline g => some [(0x3300 + g, 1)]
  | .timebaseModelEval => some [(0x2602, 2)]
  | .sampleIntervalEnd n | .losDeclared n | .freqWindowEnd n | .driftBinEnd n | .tdevBlockEnd n _ | .cupEvaluation n | .qualifyTimeExpiry n
  | .losClearTimeExpiry n => some [(0x3100 + n, 1)]
  | .wtrExpiry k _ => some [(0x3420 + k, 1)]
  | .carafeSampleArrives k | .holdoverCorrection k => some [(0x2018, 1), (0x2020, 13), (0x3430 + k, 1)]
  | .holdoverPrepare k | .holdoverAlarm k | .tempStaleTimer k => some [(0x3430 + k, 1)]
  | .fitIntervalTimer _ => some [(0x2044, 1)]
  | .refRelockComplete => some [(0x3500, 8)]
  | .bandSelectDone _ _ => some [(0x2530, 1)]
  | .lockWindowEnd j _ | .lockingTimeout j | .returnHoldExpiry j => some [(0x3500 + j, 1)]
  | .rampSegmentEnd j => some [(0x3500 + j, 1), (0x3508 + j, 1)]
  | .tcPourDone t | .hwsOffset t => some [(0x3600 + t, 1)]
  | .tieIncrementArrives t => some [(0x2018, 1), (0x2020, 13), (0x3600 + t, 1)]
  | .contextStateChange c | .offsetTimeout c | .contextQualifyTime c => some [(0x3600, 4), (0x3700 + c, 1)]
  | .ethOtherFrameRx _ _ => some [(0x3611, 1)]
  | .ethLinkChange _ _ => some [(0x3610, 2)]
  | .edgeActionFires e => some [(0x3620 + e / 16, 1)]
  | .schedDpllActionArrives e => some [(0x2018, 1), (0x2020, 13), (0x3620 + e / 16, 1)]
  | .routeRebuildDone => some [(0x2043, 1), (0x3800, 1), (0x3802, 1)]
  | .pendingFrameExpiry => some [(0x3800, 1), (0x3802, 1)]
  | .addressRetryTimer | .discoveryDone => some [(0x2043, 1), (0x3800, 1)]
  | .blendPourDone => some [(0x3801, 1)]
  | .calPassComplete _ _ | .calPassTimeout _ => some [(0x2500, 1)]
  | .scrubRead _ _ _ => some [(0x2300, 1), (0x2303, 1)]
  | .storeStart | .storeComplete => some [(0x2040, 1), (0x2300, 1)]
  | .commitStart | .energyRecheckTimer => some [(0x2041, 1), (0x2300, 1)]
  | .vholdSample _ | .hostTimeout | .pfailFall => some [(0x2300, 1)]
  | .engineOverload e _ => some [(0x2400, 1), (0x2410 + e, 1)]
  | .quietPeriodExpiry => some [(0x2200, 1)]
  | .fabricListenerSend => some [(0x2220, 1), (0x3800, 1), (0x3802, 1)]
  | .dieTempRefresh _ => some [(0x2012, 1)]
  | .resetRelease => some [(0x2000, 1), (0x2046, 1)]
  | .bootClocksDone _ _ _ | .bootSynthesisDone => some [(0x2046, 1)]
  | .bootRecoveryDone => some [(0x2000, 1), (0x2046, 1), (0x2100, 1), (0x2110, 1), (0x2300, 1), (0x2303, 1), (0x2340, 1)]
  | .bootFirmwareDone => some [(0x2000, 1), (0x2046, 1), (0x2300, 1), (0x2303, 1)]
  | .canErrorStateChange _ _ => some [(0x2100, 1)]
  | _ => none

/-- The objects that a write touches beside the one it is addressed to, when it is accepted while no earlier one waits. None where nothing
is said. -/
def objectsWritten : Instr → Option (List (Nat × Nat))
  | .linkRetrain _ _ | .linkClearCounters _ _ | .errorInjectSingle _ _ | .errorInjectExhaust _ _ | .errorInjectSingleReverse _ _
  | .errorInjectExhaustReverse _ _ | .errorInjectOff _ _ | .dpllEnableWrite _ _ _ | .switchModeWrite _ _ _ | .candidateWrite _ _ _ _ | .openLoop _ _
  | .closeLoop _ _ | .forceFreerun _ _ | .forceHoldover _ _ | .release _ _ | .clearWtr _ _ | .dpllTamp _ _ _ | .swFfoWrite _ _ _
  | .apllEnableWrite _ _ _ | .apllRelock _ _ | .apllClearCounters _ _ | .outSourceWrite _ _ _ | .outDividerWrite _ _ _ | .outEnableWrite _ _ _
  | .alignOutput _ _ | .alignGroups _ _ | .sliceRecordWrite _ _ _ _ | .outputRecordWrite _ _ _ _ => some [(0x2018, 1), (0x2020, 13)]
  | .snapChannelWrite _ _ | .clearErrorList _ _ | .gateArm _ _ | .gateAbort _ _ | .soscHzWrite _ _ | .dateNow _ _ | .cuppingEnableWrite _ _ _
  | .requalify _ _ | .disqualify _ _ | .restartStats _ _ | .carafeWrite _ _ _ | .modelValidWrite _ _ _ | .hostTempWrite _ _ _ | .setTime _ _ _
  | .tcTamp _ _ _ | .pourAmountWrite _ _ _ | .pourAbort _ _ | .incrementWrite _ _ _ | .disciplineSwi _ _ | .disciplineHws _ _ | .disciplineTied _ _
  | .contextConfigWrite _ _ _ | .contextClearCounters _ _ | .passthroughWrite _ _ | .entryWrite _ _ _ | .arm _ _ _ | .disarm _ _ _
  | .fabPortClearCounters _ _ | .slotTableCommit _ _ | .saveShadow _ | .store _ | .scrubNow _ | .recordErase _ | .assignWrite _ _ | .recover _
  | .collectorClearCounters _ | .sourceConfigWrite _ _ | .sourceSelectWrite _ _ | .inboxWrite _ _ => some []
  | .programDataWrite _ _ => some [(0x2045, 1), (0x2300, 1), (0x2303, 1)]
  | .programStop _ => some [(0x2300, 1), (0x2045, 1)]
  | .programClear _ => some [(0x2300, 1)]
  | .channelRoleWrite _ n _ => some [(0x2018, 1), (0x2020, 13), (0x3100 + n, 1), (0x2500, 1)]
  | .fit _ _ | .clearCarafe _ _ | .clearModel _ _ => some [(0x2044, 1)]
  | .rampStart _ j | .rampStop _ j | .rampClear _ j => some [(0x2018, 1), (0x2020, 13), (0x3500 + j, 1)]
  | .offsetInWrite _ _ _ | .contextRestart _ _ => some [(0x3600, 4)]
  | .fabClearCounters _ => some [(0x3802, 1), (0x3804, 4)]
  | .sweepNow _ | .calEnableWrite _ _ => some [(0x2042, 1)]
  | .writeData _ _ | .hostCommit _ | .hostDiscard _ | .recordDataWrite _ _ | .recordRepair _ | .recordSelectWrite _ _ => some [(0x2300, 1), (0x2303, 1)]
  | .arbiterSnapshot _ => some [(0x2430, 24)]
  | .arbiterClearCounters _ => some [(0x2410, 16)]
  | .classWrite _ _ _ => some [(0x2400, 1)]
  | .clearSticky _ => some [(0x2202, 1)]
  | _ => none

/-- Is an index in one of the ranges? -/
def inObjects (l : List (Nat × Nat)) (index : Nat) : Bool := l.any fun r => decide (r.1 ≤ index ∧ index < r.1 + r.2)

end Sys2Proof.Machine
end

