-- ==== Sys2Proof/WellFormed.lean ====
section
/-! DEFINITION. Well-formed commands: every operand names something that the device has, and every value fits its width. -/

namespace Sys2Proof

/-- The number that the bytes of a value spell fits its length. -/
def Datum.wf (d : Datum) : Bool := decide (d.val < 256 ^ d.len)

/-- An interface: an RPDO has a number 0 to 7, a fabric requester a 12-bit address. -/
def Iface.wf : Iface → Bool
  | .parallel => true
  | .spi => true
  | .canSdo => true
  | .canUsdo => true
  | .canPdo p => decide (p < 8)
  | .canLss => true
  | .fabric a => decide (a < 4096)

/-- A path: one of the 13 die links, or a hub internal path. -/
def Path.wf : Path → Bool
  | .link l _ => decide (l < 13)
  | .hub p => decide (p < 28)

/-- A download request carries bytes, or announces a length. -/
def Xfer.wf : Xfer → Bool
  | .whole d => d.wf
  | .segmented _ => true
  | .block _ _ => true

/-- What follows in a transfer. -/
def Seg.wf : Seg → Bool
  | .down _ d _ => d.wf
  | .up _ => true
  | .sub seqno d _ => decide (seqno < 128) && d.wf
  | .blockEnd _ pad => decide (pad < 8)
  | .ackBlock _ blksize => decide (blksize < 128)
  | .bad => true
  | .abort => true

/-- A fabric frame: the fields of its header fit them. -/
def FabFrame.wf (f : FabFrame) : Bool :=
  decide (f.version < 16) && decide (f.cls < 16) && decide (f.type_ < 256) && decide (f.dest < 4096) && decide (f.src < 4096)
    && decide (f.hops < 256) && f.payload.wf

/-- Is a command well-formed? -/
def Instr.wf : Instr → Bool
  | .objectWrite via index sub d => via.wf && decide (index < 65536) && decide (sub < 256) && d.wf
  | .writeTakesEffect via isl => via.wf && decide (isl < 148)
  | .historyW1cWrite via index sub d => via.wf && decide (index < 65536) && decide (sub < 256) && d.wf
  | .dieLinkWordReceived p pos word _ => p.wf && decide (pos < 64) && decide (word < 2 ^ 32)
  | .linkReplay p => p.wf
  | .linkAckReceived p n => p.wf && decide (n ≤ 64)
  | .linkTrainingAttemptEnd l _ => decide (l < 13)
  | .linkDownRetryTimer l _ => decide (l < 13)
  | .linkRetrain via l => via.wf && decide (l < 13)
  | .linkClearCounters via l => via.wf && decide (l < 13)
  | .errorInjectSingle via l => via.wf && decide (l < 13)
  | .errorInjectExhaust via l => via.wf && decide (l < 13)
  | .errorInjectSingleReverse via l => via.wf && decide (l < 13)
  | .errorInjectExhaustReverse via l => via.wf && decide (l < 13)
  | .errorInjectOff via l => via.wf && decide (l < 13)
  | .mirrorRefresh index => decide (index < 65536)
  | .channelEdge n _ _ bin frac => decide (n < 96) && decide (bin < 512) && decide (frac < 262144)
  | .stampIngest n _ _ => decide (n < 96)
  | .snapChannelWrite via d => via.wf && d.wf
  | .snapshotLatchArrives => true
  | .snapshotMarkerArrives => true
  | .watermarkReceived c _ _ => decide (c < 6)
  | .parallelReadHalf0 index sub => decide (index < 65536) && decide (sub < 256)
  | .parallelReadHalf1 index sub => decide (index < 65536) && decide (sub < 256)
  | .parallelWriteHalf0 index sub hd => decide (index < 65536) && decide (sub < 256) && decide (hd < 65536)
  | .parallelWriteHalf1 index sub hd => decide (index < 65536) && decide (sub < 256) && decide (hd < 65536)
  | .spiRead index sub _ => decide (index < 65536) && decide (sub < 256)
  | .spiWrite index sub d => decide (index < 65536) && decide (sub < 256) && d.wf
  | .spiStatus _ => true
  | .spiInvalidFrame index sub => decide (index < 65536) && decide (sub < 256)
  | .openRead _ => true
  | .openWrite _ => true
  | .close_ _ => true
  | .streamDataRead _ _ => true
  | .streamDataWrite _ d => d.wf
  | .deviceReset via => via.wf
  | .nmtStartRemoteNode node => decide (node < 256)
  | .nmtStopRemoteNode node => decide (node < 256)
  | .nmtEnterPreOperational node => decide (node < 256)
  | .nmtResetCommunication node => decide (node < 256)
  | .nmtResetNode node => decide (node < 256)
  | .lssSwitchStateGlobal _ => true
  | .lssSwitchStateSelective vendor product revision serial => decide (vendor < 2 ^ 32) && decide (product < 2 ^ 32) && decide (revision < 2 ^ 32) && decide (serial < 2 ^ 32)
  | .lssConfigureNodeId node => decide (node < 256)
  | .lssConfigureBitTiming selector rate => decide (selector < 256) && decide (rate < 256)
  | .lssActivateBitTiming _ => true
  | .lssStoreConfiguration => true
  | .lssInquireIdentity what => decide (what < 5)
  | .lssIdentifyRemoteSlave vendor product revLo revHi serLo serHi => decide (vendor < 2 ^ 32) && decide (product < 2 ^ 32) && decide (revLo < 2 ^ 32) && decide (revHi < 2 ^ 32) && decide (serLo < 2 ^ 32) && decide (serHi < 2 ^ 32)
  | .lssIdentifyNonConfigured => true
  | .sdoDownload _ index sub x => decide (index < 65536) && decide (sub < 256) && x.wf
  | .sdoUpload _ index sub _ => decide (index < 65536) && decide (sub < 256)
  | .sdoSegment _ seg => seg.wf
  | .sdoTimeout _ => true
  | .syncReceived counter => decide (counter < 256)
  | .tpdoTransmit p => decide (p < 8)
  | .tpdoEventTimer p => decide (p < 8)
  | .rpdoReceived p d => decide (p < 8) && d.wf
  | .emcyTransmit => true
  | .heartbeatTimer => true
  | .clearErrorList via d => via.wf && d.wf
  | .storeParameters via sub d => via.wf && decide (sub < 256) && d.wf
  | .restoreDefaultParameters via sub d => via.wf && decide (sub < 256) && d.wf
  | .programDataWrite via d => via.wf && d.wf
  | .programStart via => via.wf
  | .programStop via => via.wf
  | .programClear via => via.wf
  | .journalCommitTimer _ => true
  | .stampPop via n _ => via.wf && decide (n < 96)
  | .channelRoleWrite via n d => via.wf && decide (n < 96) && d.wf
  | .exportFlushTimer _ => true
  | .rateSecond => true
  | .gateArm via g => via.wf && decide (g < 24)
  | .gateAbort via g => via.wf && decide (g < 24)
  | .gateDeadline g => decide (g < 24)
  | .soscAbsent => true
  | .timebaseFallback => true
  | .timebaseSoscReturn => true
  | .timebaseSourceWrite via d => via.wf && d.wf
  | .soscHzWrite via d => via.wf && d.wf
  | .dateNow via _ => via.wf
  | .timebaseModelEval => true
  | .cuppingEnableWrite via n d => via.wf && decide (n < 96) && d.wf
  | .requalify via n => via.wf && decide (n < 96)
  | .disqualify via n => via.wf && decide (n < 96)
  | .restartStats via n => via.wf && decide (n < 96)
  | .sampleIntervalEnd n => decide (n < 96)
  | .losDeclared n => decide (n < 96)
  | .losSignalArrives n => decide (n < 96)
  | .freqWindowEnd n => decide (n < 96)
  | .driftBinEnd n => decide (n < 96)
  | .mtieStep n i => decide (n < 96) && decide (i < 5)
  | .tdevBlockEnd n i => decide (n < 96) && decide (i < 5)
  | .cupEvaluation n => decide (n < 96)
  | .qualifyTimeExpiry n => decide (n < 96)
  | .losClearTimeExpiry n => decide (n < 96)
  | .cupStateArrives n => decide (n < 96)
  | .dpllUpdate k samples => decide (k < 16) && (samples.all fun x => decide (x.entry < 16))
  | .wtrExpiry k e => decide (k < 16) && decide (e < 16)
  | .holdOffExpiry k => decide (k < 16)
  | .acqTimeout k => decide (k < 16)
  | .dpllEnableWrite via k d => via.wf && decide (k < 16) && d.wf
  | .switchModeWrite via k d => via.wf && decide (k < 16) && d.wf
  | .candidateWrite via k e d => via.wf && decide (k < 16) && decide (e < 16) && d.wf
  | .openLoop via k => via.wf && decide (k < 16)
  | .closeLoop via k => via.wf && decide (k < 16)
  | .forceFreerun via k => via.wf && decide (k < 16)
  | .forceHoldover via k => via.wf && decide (k < 16)
  | .release via k => via.wf && decide (k < 16)
  | .clearWtr via k => via.wf && decide (k < 16)
  | .dpllTamp via k d => via.wf && decide (k < 16) && d.wf
  | .swFfoWrite via k d => via.wf && decide (k < 16) && d.wf
  | .faultHoldArrives k => decide (k < 16)
  | .faultHoldRemoved k => decide (k < 16)
  | .carafeSecond => true
  | .carafeSampleArrives k => decide (k < 16)
  | .holdoverPrepare k => decide (k < 16)
  | .preparedValueArrives k => decide (k < 16)
  | .holdoverCorrection k => decide (k < 16)
  | .holdoverAlarm k => decide (k < 16)
  | .fit via k => via.wf && decide (k < 16)
  | .fitIntervalTimer k => decide (k < 16)
  | .fitComplete k => decide (k < 16)
  | .clearCarafe via k => via.wf && decide (k < 16)
  | .clearModel via k => via.wf && decide (k < 16)
  | .carafeWrite via k d => via.wf && decide (k < 16) && d.wf
  | .modelValidWrite via k d => via.wf && decide (k < 16) && d.wf
  | .hostTempWrite via k d => via.wf && decide (k < 16) && d.wf
  | .tempStaleTimer k => decide (k < 16)
  | .baseChangeToMxo => true
  | .baseChangeToSosc => true
  | .refRelockComplete => true
  | .apllEnableWrite via j d => via.wf && decide (j < 8) && d.wf
  | .apllRelock via j => via.wf && decide (j < 8)
  | .apllClearCounters via j => via.wf && decide (j < 8)
  | .bandSelectDone j band => decide (j < 8) && decide (band < 64)
  | .lockWindowEnd j _ => decide (j < 8)
  | .lockingTimeout j => decide (j < 8)
  | .returnHoldExpiry j => decide (j < 8)
  | .rampStart via j => via.wf && decide (j < 8)
  | .rampStop via j => via.wf && decide (j < 8)
  | .rampClear via j => via.wf && decide (j < 8)
  | .rampSegmentEnd j => decide (j < 8)
  | .outSourceWrite via n d => via.wf && decide (n < 96) && d.wf
  | .outDividerWrite via n d => via.wf && decide (n < 96) && d.wf
  | .outEnableWrite via n d => via.wf && decide (n < 96) && d.wf
  | .alignOutput via d => via.wf && d.wf
  | .alignGroups via d => via.wf && d.wf
  | .alignedEdge n => decide (n < 96)
  | .setTime via t d => via.wf && decide (t < 4) && d.wf
  | .tcTamp via t d => via.wf && decide (t < 4) && d.wf
  | .pourAmountWrite via t d => via.wf && decide (t < 4) && d.wf
  | .pourAbort via t => via.wf && decide (t < 4)
  | .tcPourDone t => decide (t < 4)
  | .incrementWrite via t d => via.wf && decide (t < 4) && d.wf
  | .disciplineSwi via t => via.wf && decide (t < 4)
  | .disciplineHws via t => via.wf && decide (t < 4)
  | .disciplineTied via t => via.wf && decide (t < 4)
  | .tieIncrementArrives t => decide (t < 4)
  | .hwsOffset t => decide (t < 4)
  | .pulseInstant t => decide (t < 4)
  | .contextStateChange c => decide (c < 256)
  | .offsetTimeout c => decide (c < 256)
  | .contextQualifyTime c => decide (c < 256)
  | .ptpSyncRx c _ => decide (c < 256)
  | .ptpFollowUpRx c _ => decide (c < 256)
  | .ptpDelayReqRx c _ => decide (c < 256)
  | .ptpDelayRespRx c _ => decide (c < 256)
  | .ptpPdelayReqRx c _ => decide (c < 256)
  | .ptpPdelayRespRx c _ => decide (c < 256)
  | .ptpAnnounceRx c _ => decide (c < 256)
  | .ptpSignalingRx c _ => decide (c < 256)
  | .ptpSyncInterval c => decide (c < 256)
  | .ptpDelayReqInterval c => decide (c < 256)
  | .ptpAnnounceInterval c => decide (c < 256)
  | .announceReceiptTimeout c => decide (c < 256)
  | .grantExpiry c => decide (c < 256)
  | .grantRenewalTimer c => decide (c < 256)
  | .arpNdpRx p _ d => decide (p < 2) && d.wf
  | .peerResolveTimer => true
  | .ethOtherFrameRx p _ => decide (p < 2)
  | .passthroughFrame p _ _ _ d => decide (p < 2) && d.wf
  | .ethLinkChange p _ => decide (p < 2)
  | .rxRecordWrite via d => via.wf && d.wf
  | .txRecordPop via => via.wf
  | .txStampWrite via d => via.wf && d.wf
  | .txStampMissing c => decide (c < 256)
  | .contextConfigWrite via c d => via.wf && decide (c < 256) && d.wf
  | .contextEnableWrite via c d => via.wf && decide (c < 256) && d.wf
  | .offsetInWrite via c d => via.wf && decide (c < 256) && d.wf
  | .contextClearCounters via c => via.wf && decide (c < 256)
  | .contextRestart via c => via.wf && decide (c < 256)
  | .passthroughWrite via d => via.wf && d.wf
  | .entryWrite via e d => via.wf && decide (e < 64) && d.wf
  | .arm via b d => via.wf && decide (b < 4) && d.wf
  | .disarm via b d => via.wf && decide (b < 4) && d.wf
  | .actionDue e => decide (e < 64)
  | .actionDispatch e => decide (e < 64)
  | .edgeActionFires e => decide (e < 64)
  | .schedDpllActionArrives e => decide (e < 64)
  | .fabModeWrite via p d => via.wf && decide (p < 4) && d.wf
  | .txApllWrite via p d => via.wf && decide (p < 4) && d.wf
  | .fabTrainingAttemptEnd p _ _ => decide (p < 4)
  | .fabTrainingRetryTimer p => decide (p < 4)
  | .fabBerFail p => decide (p < 4)
  | .fabHelloTimeout p => decide (p < 4)
  | .fabPortRetrain via p => via.wf && decide (p < 4)
  | .fabPortClearCounters via p => via.wf && decide (p < 4)
  | .txReferenceChange p => decide (p < 4)
  | .creditRx p cls _ => decide (p < 4) && decide (cls < 4)
  | .creditReportTimer => true
  | .fabFrameRx p f _ => decide (p < 4) && f.wf
  | .helloRx p d => decide (p < 4) && d.wf
  | .helloTimer => true
  | .rootSeqTimer => true
  | .rootTimeout => true
  | .routeUpdateRx p d => decide (p < 4) && d.wf
  | .routeUpdateTimer => true
  | .routeExpiry p addr => decide (p < 4) && decide (addr < 4096)
  | .routeRebuildDone => true
  | .pendingFrameExpiry => true
  | .addressRequestRx p d => decide (p < 4) && d.wf
  | .addressGrantRx p d => decide (p < 4) && d.wf
  | .addressRetryTimer => true
  | .addressHoldExpiry ident => decide (ident < 2 ^ 64)
  | .discoveryDone => true
  | .rediscover via => via.wf
  | .fabClearCounters via => via.wf
  | .slotFrameBoundary => true
  | .slotTableCommit via p => via.wf && decide (p < 4)
  | .linkTimingSlot p => decide (p < 4)
  | .timeDownSlot p => decide (p < 4)
  | .markerRequestRx p _ _ _ => decide (p < 4)
  | .markerResponseRx p _ _ => decide (p < 4)
  | .timingFollowUpRx p d _ => decide (p < 4) && d.wf
  | .exchangeFollowUpTimeout p => decide (p < 4)
  | .timeDownRx p d => decide (p < 4) && d.wf
  | .odRequestRx p src d => decide (p < 4) && decide (src < 4096) && d.wf
  | .odResponseRx p src d => decide (p < 4) && decide (src < 4096) && d.wf
  | .stampBatchRx p src d => decide (p < 4) && decide (src < 4096) && d.wf
  | .requestRead via r => via.wf && decide (r < 4)
  | .requestWrite via r => via.wf && decide (r < 4)
  | .requestCancel via r => via.wf && decide (r < 4)
  | .requestTimeout r => decide (r < 4)
  | .blendMeasureDone => true
  | .blendProposalRx p d => decide (p < 4) && d.wf
  | .blendAnnounceRx p dest d => decide (p < 4) && decide (dest < 4096) && d.wf
  | .blendInstant => true
  | .blendPourDone => true
  | .blendEnd => true
  | .blendAlign => true
  | .calStepStart d _ => decide (d < 6)
  | .calHandoverCut d _ => decide (d < 6)
  | .calPassComplete d _ => decide (d < 6)
  | .calPassTimeout d => decide (d < 6)
  | .calProcessingDone d _ => decide (d < 6)
  | .calOffsetsDone d _ _ _ => decide (d < 6)
  | .calLinkAbandonTimer d => decide (d < 6)
  | .sweepNow via => via.wf
  | .saveShadow via => via.wf
  | .restoreShadow via => via.wf
  | .calEnableWrite via d => via.wf && d.wf
  | .sliceRecordWrite via c i d => via.wf && decide (c < 6) && decide (i < 17) && d.wf
  | .outputRecordWrite via c i d => via.wf && decide (c < 6) && decide (i < 16) && d.wf
  | .outputTracking n _ => decide (n < 96)
  | .branchTrimStep c _ _ => decide (c < 6)
  | .apllTrimStep j _ _ _ => decide (j < 8)
  | .laneAdaptStep l _ _ _ => decide (l < 6)
  | .eyeMonitor l width => decide (l < 6) && decide (width ≤ 10000)
  | .store via => via.wf
  | .scrubNow via => via.wf
  | .scrubRead _ _ _ => true
  | .storeStart => true
  | .storeComplete => true
  | .commitStart => true
  | .commitComplete => true
  | .energyRecheckTimer => true
  | .vholdSample _ => true
  | .writeData via d => via.wf && d.wf
  | .hostCommit via => via.wf
  | .hostDiscard via => via.wf
  | .hostTimeout => true
  | .pfailFall => true
  | .pfailRise => true
  | .recordDataWrite via d => via.wf && d.wf
  | .recordErase via => via.wf
  | .recordRepair via => via.wf
  | .recordSelectWrite via d => via.wf && d.wf
  | .recordTie r => decide (r < 1024)
  | .engineWatchdog e => decide (e < 16)
  | .engineRestartDone e => decide (e < 16)
  | .engineOverload e _ => decide (e < 16)
  | .contextStoreRequest reqs => (reqs.all fun x => decide (x.q < 24) && decide (x.ctx < 256) && decide (x.line < 8))
  | .requesterAged q => decide (q < 24)
  | .lockRequest q id => decide (q < 24) && decide (id < 272)
  | .lockRelease q _ => decide (q < 24)
  | .holdLimitExpiry => true
  | .arbiterSnapshot via => via.wf
  | .arbiterClearCounters via => via.wf
  | .assignWrite via d => via.wf && d.wf
  | .classWrite via q d => via.wf && decide (q < 24) && d.wf
  | .faultMessage => true
  | .inject via d => via.wf && d.wf
  | .unackW1cWrite via level w d => via.wf && decide (1 ≤ level ∧ level ≤ 3) && decide (w < 32) && d.wf
  | .ackAll via => via.wf
  | .recover via => via.wf
  | .clearSticky via => via.wf
  | .collectorClearCounters via => via.wf
  | .quietPeriodExpiry => true
  | .shadowExpiry => true
  | .sourceConfigWrite via d => via.wf && d.wf
  | .sourceSelectWrite via d => via.wf && d.wf
  | .fabricListenerSend => true
  | .inboxWrite via d => via.wf && d.wf
  | .inboxRead via => via.wf
  | .dieTempRefresh _ => true
  | .supplyValidChange rail _ _ _ => decide (rail < 11)
  | .rstNLow _ => true
  | .jtagResetInstruction _ => true
  | .resetAssert => true
  | .resetRelease => true
  | .bootClocksDone mode nid _ => decide (mode < 8) && decide (nid < 128)
  | .bootRecoveryDone => true
  | .bootFirmwareDone => true
  | .bootRestoreDone => true
  | .bootCalibrationDone => true
  | .bootChannelsDone => true
  | .bootSynthesisDone => true
  | .bootDone => true
  | .canErrorStateChange _ _ => true
  | .soscPresent => true
  | .preMasterQualificationTimeout c => decide (c < 256)
  | .odStoreEntryExpiry => true

end Sys2Proof
end

