-- ==== Sys2Proof/Safety.lean ====
section
/-! DEFINITION. What counts as a sound state and a safe run, in the terms that claims use. -/

namespace Sys2Proof.Machine

/-- A step that goes on: the next state, no fault and no refusal. -/
def Completes (s : State) : Prop := ∃ t, step s = .next t

/-- Every command that waits is well-formed. -/
def QueueWf (s : State) : Prop := ∀ c ∈ s.pending, c.wf = true

/-- The dictionary in its canonical form: keys strictly rising, no entry equal to its default; in the hub and on the dies. -/
def DictWf (s : State) : Prop := storeWf defaultOf s.od = true ∧ storeWf defaultOf s.dr = true

/-- The main array in its canonical form: addresses strictly rising, no byte equal to what an unlisted address reads as. -/
def ArrayWf (s : State) : Prop := storeWf (fun _ => (255 : Byte)) s.nv.cells = true

/-- The device has its units, no more and no fewer (R1, R3): 13 die links and the hub's internal paths, 96 channels, 24 gates, 4 counters,
16 DPLLs with their carafes, 256 contexts, 8 APLLs, 64 actions, 24 requesters of the context store, 6 C dies with 96 outputs, 39 fault sources, 4 fabric ports and 4 remote-access slots. -/
structure ShapeWf (s : State) : Prop where
  links : s.link.links.length = 13
  hubPaths : s.link.hubPaths.length = 28
  throttled : s.link.throttled.length = 6
  chans : s.chan.chans.length = 96
  gates : s.chan.gates.length = 24
  tcs : s.tcs.length = 4
  cups : s.cups.length = 96
  dplls : s.dp.dplls.length = 16
  carafes : s.dp.carafes.length = 16
  ctxs : s.ctxs.length = 256
  aplls : s.ap.aplls.length = 8
  outs : s.ap.outs.length = 96
  entries : s.sched.entries.length = 64
  requesters : s.eng.requesters.length = 24
  dies : s.cal.dies.length = 6
  outCals : s.cal.outs.length = 96
  sources : s.col.sources.length = 39
  ports : s.fab.ports.length = 4
  slots : s.fab.slots.length = 4

/-- The retained buffer of a path and its counters (R29, R36): at most 64 words, those that the receiver has accepted among them, and
SENT less ACCEPTED modulo 2^32 the number retained. -/
def PathOk (d : PathDir) : Prop :=
  d.ahead ≤ d.retained.length ∧ d.retained.length ≤ 64 ∧ cut 32 (d.accepted + d.retained.length) = d.sent

/-- The word balance of every die link, in both directions (R36). -/
def LinkBalance (s : State) : Prop := ∀ k ∈ s.link.links, PathOk k.fwd ∧ PathOk k.rev

/-- The stamps of a channel (R5, R44): every captured one was delivered, dropped at the slice or at the hub, or is in the slice FIFO. -/
def ChanOk (c : Chan) : Prop := c.captured = c.delivered + c.dropSlice + c.dropHub + fifoCount c.fifo

/-- The stamp balance of every channel (R5). -/
def StampBalance (s : State) : Prop := ∀ c ∈ s.chan.chans, ChanOk c

/-- Stamps only: no snapshot marker. -/
def noMarker (l : List FifoItem) : Bool := l.all fun x => match x with | .stamp _ => true | .marker => false

/-- The channel that a snapshot counts, as the snapshot stands (R45): before the slice has latched, H has latched what it had delivered and
dropped but for what it has held since; after that, the slice's CAPTURED is what H latched, what the slice had dropped, what H has held
since, and the stamps that still lie ahead of the marker. -/
def SnapOk (p : Snap) (c : Chan) : Prop :=
  match p.slice with
  | none => noMarker c.fifo = true ∧ p.delivered + p.dropHub + p.held = c.delivered + c.dropHub
  | some (cap, dropS) => ∃ pre post, c.fifo = pre ++ FifoItem.marker :: post ∧ noMarker pre = true ∧ noMarker post = true ∧
      cap = p.delivered + p.dropHub + dropS + p.held + pre.length

/-- Markers stand nowhere but in the FIFO of the channel under snapshot, and its counts are in balance (R45). -/
def SnapBalance (s : State) : Prop :=
  ∀ n c, s.chan.chans[n]? = some c →
    match s.link.snap with
    | none => noMarker c.fifo = true
    | some p => if p.chan = n then SnapOk p c else noMarker c.fifo = true

/-- The write counts of a shadow region (R389). -/
def DevOk (d : DevState) : Prop := d.accepted = d.committed + d.rolledBack + d.pending

/-- The balance of writes accepted into the page buffer, as the SRAM counts them and as the shadow array holds them (R5, R389). -/
def WriteBalance (s : State) : Prop := DevOk s.nv.sram.dev ∧ ∀ x ∈ s.nv.array, DevOk x.dev

/-- Out of reset (R451): commands meet a device that runs or boots. -/
abbrev Live (s : State) : Prop := s.boot.inReset = false

/-- Out of reset and past the last step of the boot (R453). -/
abbrev Runs (s : State) : Prop := s.boot.inReset = false ∧ s.boot.booting = false

/-- Nothing waits at the host port: no write that is posted or held back, no request of another device. -/
abbrev QuietPort (s : State) : Prop := s.host.posted = [] ∧ s.host.stalled = [] ∧ s.host.holding = none ∧ s.fab.waiting = []

/-- The state once a write has been accepted: it is in the change journal (R15). -/
def journalled (s : State) (via : Iface) (index sub : Nat) (d : Datum) : State := (hostAccept s via index sub d).2

/-- A transfer comes through over link `l`, from H's end if `rev` (R30, R493): the link is UP, and nothing that it owes stands in its way. -/
abbrev Crosses (s : State) (l : Nat) (rev : Bool) (ws : List Nat) : Prop := (carry s l rev ws 0).1 = true

/-- A fault message reaches the collector: from H, or as a record over a link that is UP and replays no word (R18, R425, R430, R493). -/
abbrev Comes (s : State) (m : Msg) : Prop :=
  messageComes s m = true ∧
    ((linkOfDie (m.word / 2 ^ 29)).all fun l => (carry s l false (transferWords 0 ⟨4, m.word⟩) 0).1) = true

/-- A transfer from H to a die: does it come through, and the state after it (R27, R493). H itself is reached over no link. -/
def crossed (s : State) (die : Nat) (ws : List Nat) : Bool × State :=
  match linkOfDie die with
  | none => (true, s)
  | some l => let r := carry s l true ws 0; (r.1, r.2.2)

/-- An accepted write on its way to the die of its entry. -/
def crossing (s : State) (via : Iface) (index sub : Nat) (d : Datum) : Bool × State :=
  crossed (journalled s via index sub d) (dieOf index sub) (transferWords (key index sub) d)

/-- The state in which an accepted write takes effect: journalled, and come over the die link if its entry lives on another die (R20, R27). -/
def arrived (s : State) (via : Iface) (index sub : Nat) (d : Datum) : State := (crossing s via index sub d).2

/-- A write that no rule refuses (R489) by an interface that is on, while nothing else waits at the host port; its journal record is staged at
once (R387), and its words come over the die link (R493). -/
abbrev Accepts (s : State) (via : Iface) (index sub : Nat) (d : Datum) : Prop :=
  Live s ∧ viaOn s via = true ∧ (writeRefuse s via index sub d).1 = 0 ∧ QuietPort s ∧
    recordStaged (journalled s via index sub d) (ticketOf s (journalled s via index sub d)) = true ∧
    (crossing s via index sub d).1 = true

/-- E12 hears of channel n, which is under cupping, and neither a command nor the fall of its link waits for an evaluation: no evaluation
restarts its statistics (R132, R140, R141). -/
abbrev CupSteady (s : State) (n : Nat) : Prop :=
  engineUp s 12 = true ∧ underCupping s n = true ∧ cupHears s n = true ∧ (s.cupAt n).st ≠ 0 ∧ (s.cupAt n).cmds = [] ∧ (s.cupAt n).fell = false ∧
    ¬((s.cupAt n).st = 1 ∧ (s.cupAt n).cause = 2)

/-- Every invariant at once: canonical forms, numbers of units, and the balances. -/
structure Sound (s : State) : Prop where
  dict : DictWf s
  array : ArrayWf s
  shape : ShapeWf s
  links : LinkBalance s
  stamps : StampBalance s
  snap : SnapBalance s
  writes : WriteBalance s

/-- A run of `n` steps that goes on to its end. -/
def RunsFor (n : Nat) (s : State) : Prop := ∃ t, Sys2Proof.core.run n s = .next t

end Sys2Proof.Machine
end

