-- ==== Sys2Proof/Certificates/Slice0/Obligations.lean ====
section
/-! DEFINITION. The statements for the provers. -/

open Sys2Proof Sys2Proof.Machine

/-- Log entry 1: a step takes the command at the front of the queue and its outcome is that of exec on the state with the rest of the queue, for every command and state; on an empty queue it goes on. -/
def Obligations.StepRunsTheFrontCommand : Prop :=
  (∀ (c : Instr) (r : List Instr) (s : State), s.pending = c :: r → step s = exec c { s with pending := r }) ∧
    (∀ (c : Instr) (s : State), step (s.command c) = exec c s) ∧
    (∀ s : State, s.pending = [] → step s = .next (idleTick s))

/-- R29, R30, R31, R493 on a die link that is UP: an acknowledgement that covers accepted words takes them out of the retained buffer, oldest first, and counts them; a word whose parity is right at the expected position is accepted, once; one whose parity is wrong there is refused and stays outstanding, and when its third replay fails too the link is in TRAINING and the die at the receiving end has told the collector; the replay by the sender ends the refusal. -/
def Obligations.LinkWordsAreAcceptedOnce : Prop :=
  ∀ (s : State) (l pos word n : Nat) (rev parity : Bool), Live s → ShapeWf s → l < 13 → s.linkUp l = true →
    let d := (s.linkAt l).dir rev
    (n ≤ d.ahead → 
      ∃ t, exec (.linkAckReceived (.link l rev) n) s = .next t ∧ t.linkUp l = true ∧ ((t.linkAt l).dir rev).retained = d.retained.drop n ∧
        ((t.linkAt l).dir rev).accepted = (d.accepted + n) % 2 ^ 32 ∧ ((t.linkAt l).dir rev).sent = d.sent ∧
        (t.linkAt l).dir (!rev) = (s.linkAt l).dir (!rev)) ∧
    (pos = (d.head + d.ahead) % 64 → d.ahead < d.retained.length → d.awaiting = false → d.inject = 0 → parityOk word parity = true → 
      ∃ t, exec (.dieLinkWordReceived (.link l rev) pos word parity) s = .next t ∧ t.linkUp l = true ∧ ((t.linkAt l).dir rev).ahead = d.ahead + 1 ∧
        ((t.linkAt l).dir rev).retained.length = d.retained.length ∧ ((t.linkAt l).dir rev).refused = d.refused) ∧
    (pos = (d.head + d.ahead) % 64 → d.ahead < d.retained.length → d.awaiting = false → parityOk word parity = false → d.refusals < 3 → 
      ∃ t, exec (.dieLinkWordReceived (.link l rev) pos word parity) s = .next t ∧ t.linkUp l = true ∧ ((t.linkAt l).dir rev).awaiting = true ∧
        ((t.linkAt l).dir rev).ahead = d.ahead ∧ ((t.linkAt l).dir rev).retained = d.retained ∧
        ((t.linkAt l).dir rev).refused = (d.refused + 1) % 2 ^ 32) ∧
    (pos = (d.head + d.ahead) % 64 → d.ahead < d.retained.length → d.awaiting = false → parityOk word parity = false → d.refusals = 3 → 
      ∃ t, exec (.dieLinkWordReceived (.link l rev) pos word parity) s = .next t ∧ (t.linkAt l).state = .training ∧
        ((t.linkAt l).dir rev).retained = d.retained ∧ t.faultIn = s.faultIn ++ [⟨faultWord (receivingDie l rev) 0 1 l, s.now⟩]) ∧
    (d.awaiting = true → 
      ∃ t, exec (.linkReplay (.link l rev)) s = .next t ∧ ((t.linkAt l).dir rev).awaiting = false ∧ ((t.linkAt l).dir rev).retained = d.retained ∧
        ((t.linkAt l).dir rev).replays = (d.replays + 1) % 2 ^ 32)

/-- R32, R33: a link that is not UP comes back by a training attempt that succeeds, with its retained words and no refusal outstanding; the first and the second attempt that fail in a row leave it in TRAINING and send nothing, the third puts it in DOWN and LINK_DOWN goes out once, from the die at the forward receiving end; a link that is DOWN comes back by the attempt of every 100 ms. -/
def Obligations.TrainingKeepsTheRetainedWords : Prop :=
  ∀ (s : State) (l : Nat), Live s → ShapeWf s → l < 13 →
    ((s.linkAt l).state = .training → 
      ∃ t, exec (.linkTrainingAttemptEnd l true) s = .next t ∧ t.linkUp l = true ∧ (t.linkAt l).fwd.retained = (s.linkAt l).fwd.retained ∧
        (t.linkAt l).rev.retained = (s.linkAt l).rev.retained ∧ (t.linkAt l).fwd.awaiting = false ∧ (t.linkAt l).rev.awaiting = false) ∧
    ((s.linkAt l).state = .training → (s.linkAt l).fails < 2 → 
      ∃ t, exec (.linkTrainingAttemptEnd l false) s = .next t ∧ (t.linkAt l).state = .training ∧ (t.linkAt l).fails = (s.linkAt l).fails + 1 ∧
        t.faultIn = s.faultIn) ∧
    ((s.linkAt l).state = .training → (s.linkAt l).fails = 2 → 
      ∃ t, exec (.linkTrainingAttemptEnd l false) s = .next t ∧ (t.linkAt l).state = .down ∧ (t.linkAt l).fwd.retained = (s.linkAt l).fwd.retained ∧
        (t.linkAt l).rev.retained = (s.linkAt l).rev.retained ∧
        t.faultIn.take (s.faultIn.length + 1) = s.faultIn ++ [⟨faultWord (if l < 7 then 0 else 1) 0 2 l, s.now⟩]) ∧
    ((s.linkAt l).state = .down → 
      ∃ t, exec (.linkDownRetryTimer l true) s = .next t ∧ t.linkUp l = true ∧ (t.linkAt l).fwd.retained = (s.linkAt l).fwd.retained ∧
        (t.linkAt l).rev.retained = (s.linkAt l).rev.retained)

/-- R36, R37 on 2020h+L: RETRAIN takes an UP link into TRAINING with its retained words; CLEAR_COUNTERS sets what was sent to what is retained and every other count to 0, in both directions in one instant; ERROR_INJECT makes the receiver of its direction refuse one word (SINGLE), or one word four times (EXHAUST), and OFF withdraws what has not acted. -/
def Obligations.LinkCommandsAct : Prop :=
  ∀ (s : State) (via : Iface) (l : Nat), ShapeWf s → l < 13 →
    (Accepts s via (0x2020 + l) 0x0C ⟨1, 1⟩ → s.linkUp l = true → 
      ∃ t, exec (.linkRetrain via l) s = .next t ∧ (t.linkAt l).state = .training ∧ (t.linkAt l).fwd.retained = (s.linkAt l).fwd.retained ∧
        (t.linkAt l).rev.retained = (s.linkAt l).rev.retained) ∧
    (Accepts s via (0x2020 + l) 0x0C ⟨1, 2⟩ → 
      ∃ t, exec (.linkClearCounters via l) s = .next t ∧
        (t.linkAt l).fwd = { (s.linkAt l).fwd with sent := (s.linkAt l).fwd.retained.length, accepted := 0, refused := 0, replays := 0, exhausted := 0 } ∧ (t.linkAt l).rev = { (s.linkAt l).rev with sent := (s.linkAt l).rev.retained.length, accepted := 0, refused := 0, replays := 0, exhausted := 0 } ∧ (t.linkAt l).retrains = 0 ∧ (t.linkAt l).lastRetrain = 0) ∧
    (Accepts s via (0x2020 + l) 0x0D ⟨1, 1⟩ → 
      ∃ t, exec (.errorInjectSingle via l) s = .next t ∧ (t.linkAt l).fwd.inject = 1 ∧ (t.linkAt l).rev.inject = 0 ∧ (t.linkAt l).errorInject = 1) ∧
    (Accepts s via (0x2020 + l) 0x0D ⟨1, 2⟩ → 
      ∃ t, exec (.errorInjectExhaust via l) s = .next t ∧ (t.linkAt l).fwd.inject = 4 ∧ (t.linkAt l).rev.inject = 0 ∧ (t.linkAt l).errorInject = 2) ∧
    (Accepts s via (0x2020 + l) 0x0D ⟨1, 3⟩ → 
      ∃ t, exec (.errorInjectSingleReverse via l) s = .next t ∧ (t.linkAt l).fwd.inject = 0 ∧ (t.linkAt l).rev.inject = 1 ∧
        (t.linkAt l).errorInject = 3) ∧
    (Accepts s via (0x2020 + l) 0x0D ⟨1, 4⟩ → 
      ∃ t, exec (.errorInjectExhaustReverse via l) s = .next t ∧ (t.linkAt l).fwd.inject = 0 ∧ (t.linkAt l).rev.inject = 4 ∧
        (t.linkAt l).errorInject = 4) ∧
    (Accepts s via (0x2020 + l) 0x0D ⟨1, 0⟩ → 
      ∃ t, exec (.errorInjectOff via l) s = .next t ∧ (t.linkAt l).fwd.inject = 0 ∧ (t.linkAt l).rev.inject = 0 ∧ (t.linkAt l).errorInject = 0)

/-- R45, R46 with the balance of R44 in force: the write of SNAP_CHANNEL latches the counters that the hub holds and makes SNAP_STATE BUSY; at the slice CAPTURED and DROP_SLICE are latched and the marker takes its place behind every stamp captured so far; and when the marker reaches H the snapshot is published: SNAP_GEN counts, SNAP_STATE is DONE, the values are those latched, and CAPTURED = DELIVERED + DROP_SLICE + DROP_HUB + HELD. -/
def Obligations.SnapshotIsInBalance : Prop :=
  ∀ (s : State),
    (∀ (via : Iface) (n : Nat), n < 96 → (s.linkAt (dieOfChan n)).state ≠ .down → Accepts s via 0x2030 1 ⟨1, n⟩ → 
      ∃ t, exec (.snapChannelWrite via ⟨1, n⟩) s = .next t ∧ t.rd (key 0x2030 0x0C) = 1 ∧ t.rd (key 0x2030 1) = n ∧
        t.link.snap = some { chan := n, delivered := (s.chanAt n).delivered, dropHub := (s.chanAt n).dropHub }) ∧
    (∀ (p : Snap), Live s → ShapeWf s → p.chan < 96 → s.link.snap = some p → p.slice = none → Crosses s (dieOfChan p.chan) true (oneWord 3 p.chan) → 
      ∃ t, exec (.snapshotLatchArrives) s = .next t ∧
        t.link.snap = some { p with slice := some ((s.chanAt p.chan).captured, (s.chanAt p.chan).dropSlice) } ∧
        (t.chanAt p.chan).fifo = (s.chanAt p.chan).fifo ++ [.marker]) ∧
    (∀ (p : Snap) (captured dropSlice : Nat) (r : List FifoItem), Live s → SnapBalance s → p.chan < 96 → ShapeWf s → s.link.snap = some p →
        p.slice = some (captured, dropSlice) → (s.chanAt p.chan).fifo = .marker :: r → Crosses s (dieOfChan p.chan) false (oneWord 4 p.chan) → 
      ∃ t, exec (.snapshotMarkerArrives) s = .next t ∧ t.rd (key 0x2030 0x0C) = 2 ∧ t.link.snap = none ∧
        t.rd (key 0x2030 2) = (s.rd (key 0x2030 2) + 1) % 2 ^ 16 ∧ t.rd (key 0x2030 3) + 2 ^ 32 * t.rd (key 0x2030 4) = captured % 2 ^ 64 ∧
        t.rd (key 0x2030 5) + 2 ^ 32 * t.rd (key 0x2030 6) = p.delivered % 2 ^ 64 ∧
        t.rd (key 0x2030 7) + 2 ^ 32 * t.rd (key 0x2030 8) = dropSlice % 2 ^ 64 ∧
        t.rd (key 0x2030 9) + 2 ^ 32 * t.rd (key 0x2030 0x0A) = p.dropHub % 2 ^ 64 ∧ t.rd (key 0x2030 0x0B) = p.held % 2 ^ 32 ∧
        captured = p.delivered + dropSlice + p.dropHub + p.held)

/-- R24, R186: at a refresh that comes over link 6 every entry of the status record of a DPLL, 3420h+k.05 to .1C, takes at once the value it has on S, what S holds stays, and no entry of another object changes but those of the link that the words crossed, 2018h and 2026h. -/
def Obligations.MirrorsRefreshWhole : Prop :=
  ∀ (s : State) (k : Nat), Live s → k < 16 →
    Crosses s 6 false (transferWords (key (0x3420 + k) 0)
      (packed ((mirrored (0x3420 + k)).map fun sub => (widthOf (0x3420 + k) sub, dieValue s (0x3420 + k) sub)))) →
    ∃ t, exec (.mirrorRefresh (0x3420 + k)) s = .next t ∧ t.dr = s.dr ∧
      (∀ sub, 5 ≤ sub → sub ≤ 0x1C → t.rd (key (0x3420 + k) sub) = s.drd (key (0x3420 + k) sub)) ∧
      (∀ index sub, sub < 256 → index ≠ 0x3420 + k → index ≠ 0x2018 → index ≠ 0x2026 → t.rd (key index sub) = s.rd (key index sub))

/-- R20, R22, R60, R88, R489: a write that no rule refuses is journalled and waits behind the earlier ones; one that is refused changes nothing but the record of the error of its interface, ERR_PARALLEL and the count, and is not journalled; a posted write of a MASK takes effect with its reserved bits ignored and waits no more; and a w1c write of a HISTORY held in the hub clears the bits written as 1, those and no others. -/
def Obligations.WritesArePostedRefusedAndTaken : Prop :=
  ∀ (s : State) (via : Iface) (index sub : Nat) (d : Datum), Live s →
    (viaOn s via = true → (writeRefuse s via index sub d).1 = 0 → index ≠ 0x2310 → pendingCount s (ifaceClass via) < 1024 → s.host.holding = none →
        s.host.stalled = [] → streamSelf index sub = false → 
      ∃ t, exec (.objectWrite via index sub d) s = .next t ∧
        t.host.posted = s.host.posted ++ [⟨via, index, sub, d, ticketOf s (journalled s via index sub d), false⟩] ∧ t.od = s.od) ∧
    (viaOn s .parallel = true → (writeRefuse s .parallel index sub d).1 ≠ 0 → index ≠ 0x2310 → pendingCount s 0 < 1024 → streamSelf index sub = false → 
      ∃ t, exec (.objectWrite .parallel index sub d) s = .next t ∧ t.host = s.host ∧ t.nv = s.nv ∧
        t.rd (key 0x2101 1) = (writeRefuse s .parallel index sub d).1 % 2 ^ 32 ∧
        t.rd (key 0x2101 2) = index % 2 ^ 16 * 2 ^ 16 + sub % 2 ^ 8 * 2 ^ 8 ∧ t.rd (key 0x2101 3) = (s.rd (key 0x2101 3) + 1) % 2 ^ 32 ∧
        bit (t.rd (key 0x2100 2)) 0 = true) ∧
    (histMask index ≠ 0 → s.host.posted = [⟨via, index, 3, d, 0, false⟩] → s.host.holding = none → dieReachable s (dieOf index 3) = true → 
      ∃ t, exec (.writeTakesEffect via (islandOf index 3)) s = .next t ∧ t.host.posted = [] ∧ t.rd (key index 3) = d.val &&& histMask index) ∧
    (histMask index ≠ 0 → dieOf index 2 = 0 → Accepts s via index 2 d → 
      ∃ t, exec (.historyW1cWrite via index 2 d) s = .next t ∧ t.rd (key index 2) = clearBits (s.rd (key index 2)) d.val ∧ t.dr = s.dr)

/-- R57, R58, R62, R63: a read of half 0 of a 32-bit entry captures the value and returns its low half, and the high half comes from the latch; a half 0 that is written is held and does nothing more, and half 1 joins it into one write; an SPI READ frame returns the status byte, four zeros and the value, bytes beyond its size as 0; a WRITE frame posts its bytes; a STATUS frame repeats the status byte; any other frame is recorded with 0504 0001h. -/
def Obligations.BusesReachTheDictionary : Prop :=
  ∀ (s : State) (index sub n hd : Nat), Live s →
    (busOn s 0 = true → halfBytes index sub = some 4 → (readEntry s .parallel index sub).1 = 0 → 
      ∃ t, exec (.parallelReadHalf0 index sub) s = .next t ∧ t.host.readLatch = some (key index sub, (readEntry s .parallel index sub).2.1.val, 0) ∧
        t.out.head? = some (.bus ((readEntry s .parallel index sub).2.1.val % 65536))) ∧
    (∀ (v x : Nat), busOn s 0 = true → halfBytes index sub = some 4 → s.host.readLatch = some (key index sub, v, x) → 
      ∃ t, exec (.parallelReadHalf1 index sub) s = .next t ∧ t.out = .bus (v / 65536 % 65536) :: s.out ∧ t.host = s.host ∧ t.od = s.od) ∧
    (busOn s 0 = true → halfBytes index sub = some 4 → s.host.writeLatch = none → 
      ∃ t, exec (.parallelWriteHalf0 index sub hd) s = .next t ∧ t.host.writeLatch = some (key index sub, hd % 65536, 0) ∧
        t.host.posted = s.host.posted ∧ t.od = s.od ∧ t.nv = s.nv) ∧
    (∀ (low x : Nat), busOn s 0 = true → halfBytes index sub = some 4 → s.host.writeLatch = some (key index sub, low, x) → low < 65536 →
        streamSelf index sub = false → index ≠ 0x2310 → pendingCount s 0 < 1024 →
        (writeRefuse (s.setHost fun h => { h with writeLatch := none }) .parallel index sub ⟨4, low + hd % 65536 * 65536⟩).1 = 0 → 
      ∃ t, exec (.parallelWriteHalf1 index sub hd) s = .next t ∧ t.host.writeLatch = none ∧
        t.host.posted = s.host.posted ++ [⟨.parallel, index, sub, ⟨4, low + hd % 65536 * 65536⟩, ticketOf s (journalled s .parallel index sub ⟨4, low + hd % 65536 * 65536⟩), false⟩]) ∧
    (busOn s 1 = true → streamData index sub = none → (readBase s .spi index sub).1 = 0 → (readBase s .spi index sub).2.1.len ≤ 512 → 
      ∃ t, exec (.spiRead index sub n) s = .next t ∧
        t.out.head? = some (.spi ([spiStatus s, 0, 0, 0, 0] ++ (List.range n).map fun i => if i < (readBase s .spi index sub).2.1.len then byteAt (readBase s .spi index sub).2.1.val i else 0))) ∧
    (∀ (d : Datum), busOn s 1 = true → (writeRefuse s .spi index sub d).1 = 0 → index ≠ 0x2310 → pendingCount s 1 < 1024 → s.host.holding = none →
        streamSelf index sub = false → 
      ∃ t, exec (.spiWrite index sub d) s = .next t ∧
        t.host.posted = s.host.posted ++ [⟨.spi, index, sub, d, ticketOf s (journalled s .spi index sub d), false⟩] ∧
        t.out.head? = some (.spi ([spiStatus s, 0, 0, 0] ++ List.replicate d.len 0))) ∧
    (busOn s 1 = true → 
      ∃ t, exec (.spiStatus n) s = .next t ∧ t = s.send (.spi (List.replicate n (spiStatus s)))) ∧
    (busOn s 1 = true → 
      ∃ t, exec (.spiInvalidFrame index sub) s = .next t ∧ t.rd (key 0x2101 4) = 0x05040001 ∧
        t.rd (key 0x2101 6) = (s.rd (key 0x2101 6) + 1) % 2 ^ 32 ∧ bit (t.rd (key 0x2100 2)) 1 = true ∧ t.host = s.host)

/-- R65, R66, R67 on 2102h (parallel bus) and 2103h (SPI): OPEN_READ captures the value of TARGET, shows its size in LENGTH and makes STATE READING with POSITION 0; OPEN_WRITE makes it WRITING; CLOSE makes it CLOSED in every state and posts nothing; DATA moves POSITION by the bytes read or written, and a write before the last posts nothing. -/
def Obligations.StreamObjectsTransfer : Prop :=
  ∀ (s : State) (spi : Bool), Live s → s.host.streams.length = 2 → streamOn s spi = true → QuietPort s →
    (Accepts s (streamVia spi) (0x2102 + b2n spi) 5 ⟨1, 1⟩ → (s.streamAt (b2n spi)).state = 0 →
        streamSelf (streamTarget s (b2n spi)).1 (streamTarget s (b2n spi)).2 = false →
        (readBase s (streamVia spi) (streamTarget s (b2n spi)).1 (streamTarget s (b2n spi)).2).1 = 0 → 
      ∃ t, exec (.openRead spi) s = .next t ∧ (t.streamAt (b2n spi)).state = 1 ∧ (t.streamAt (b2n spi)).position = 0 ∧
        t.rd (key (0x2102 + b2n spi) 2) = (readBase s (streamVia spi) (streamTarget s (b2n spi)).1 (streamTarget s (b2n spi)).2).2.1.len) ∧
    (Accepts s (streamVia spi) (0x2102 + b2n spi) 5 ⟨1, 2⟩ → openWriteRefuse s (b2n spi) = 0 → 
      ∃ t, exec (.openWrite spi) s = .next t ∧ (t.streamAt (b2n spi)).state = 2 ∧ (t.streamAt (b2n spi)).position = 0 ∧ t.host.posted = s.host.posted) ∧
    (Accepts s (streamVia spi) (0x2102 + b2n spi) 5 ⟨1, 3⟩ → 
      ∃ t, exec (.close_ spi) s = .next t ∧ t.streamAt (b2n spi) = {} ∧ t.host.posted = s.host.posted) ∧
    (∀ (n : Nat), spi = false → openRefuse s 0x2102 3 = 0 → (s.streamAt 0).state = 1 → (s.streamAt 0).position + 2 < s.rd (key 0x2102 2) →
        (s.streamAt 0).base ≤ (s.streamAt 0).position → (s.streamAt 0).position + 2 ≤ (s.streamAt 0).base + (s.streamAt 0).block.len → 
      ∃ t, exec (.streamDataRead false n) s = .next t ∧ (t.streamAt 0).position = (s.streamAt 0).position + 2 ∧ (t.streamAt 0).state = 1) ∧
    (∀ (d : Datum), spi = true → openRefuse s 0x2103 3 = 0 → pendingCount s 1 < 1024 → (s.streamAt 1).state = 2 →
        (s.streamAt 1).position + d.len < s.rd (key 0x2103 2) → 
      ∃ t, exec (.streamDataWrite true d) s = .next t ∧ (t.streamAt 1).position = (s.streamAt 1).position + d.len ∧ (t.streamAt 1).state = 2 ∧
        t.host.posted = s.host.posted)

/-- R53, R72, R73, R83, R385: the write of DEVICE_RESET asks for the commit of its journal record, after which the device resets; 1003h.00 written with 0 empties the error list; "save" captures both images and asks for a store; "load" marks all parameters for their defaults and asks for a store; program data start a download into the image that does not run; START without a download verifies that image, and marks it INVALID where it is not sound; STOP ends a download and leaves the image INVALID; CLEAR leaves it EMPTY; and a staged journal or event-log page is committed when its second is over. -/
def Obligations.SystemEntriesAct : Prop :=
  ∀ (s : State) (via : Iface),
    (Accepts s via 0x2001 2 ⟨1, 0x5A⟩ → 
      ∃ t, exec (.deviceReset via) s = .next t ∧ t.nv.swReset = true ∧ Job.journal ∈ t.nv.queue) ∧
    (Accepts s via 0x1003 0 ⟨1, 0⟩ → 
      ∃ t, exec (.clearErrorList via ⟨1, 0⟩) s = .next t ∧ t.rd (key 0x1003 0) = 0 ∧ t.rd (key 0x1003 1) = 0 ∧ t.rd (key 0x1003 16) = 0) ∧
    (∀ (d : Datum), Accepts s via 0x1010 1 d → imageBytes (makeImage (journalled s via 0x1010 1 d) true) ≤ 1792 →
        imageBytes (makeImage (journalled s via 0x1010 1 d) false) ≤ 34816 → 
      ∃ t, exec (.storeParameters via 1 d) s = .next t ∧ t.nv.sram.comm = makeImage (journalled s via 0x1010 1 d) true ∧
        t.nv.sram.app = makeImage (journalled s via 0x1010 1 d) false ∧ Job.store ∈ t.nv.queue) ∧
    (∀ (d : Datum), Accepts s via 0x1011 1 d → 
      ∃ t, exec (.restoreDefaultParameters via 1 d) s = .next t ∧ t.nv.sram.loadAll = true ∧ Job.store ∈ t.nv.queue ∧ t.od = s.od) ∧
    (∀ (d : Datum), Accepts s via 0x1F50 1 d → s.nv.download = none → d.len < 1024 → 
      ∃ t, exec (.programDataWrite via d) s = .next t ∧
        t.nv.download = some { by_ := via, received := d.len, rest := ⟨d.len, d.val % 2 ^ (8 * d.len)⟩ } ∧ t.nv.flash = 1 ∧ t.rd (key 0x2045 1) = 1 ∧
        t.rd (key 0x2045 3) = d.len) ∧
    (Accepts s via 0x1F51 1 ⟨1, 1⟩ → s.nv.download = none → s.nv.sram.dev.images.length = 2 → downloadTarget s < 2 → s.nv.decay = [] →
        imageSound (journalled s via 0x1F51 1 ⟨1, 1⟩ |>.put (key 0x1F51 1) 1) (downloadTarget s) = false → 
      ∃ t, exec (.programStart via) s = .next t ∧ t.rd (key 0x2045 1) = 3 ∧ t.nv.sram.dev.images.getD (downloadTarget s) 0 = 3 ∧
        t.nv.sram.dev.bootImage = s.nv.sram.dev.bootImage) ∧
    (Accepts s via 0x1F51 1 ⟨1, 0⟩ → s.nv.download ≠ none → s.nv.sram.dev.images.length = 2 → downloadTarget s < 2 → 
      ∃ t, exec (.programStop via) s = .next t ∧ t.nv.download = none ∧ t.rd (key 0x2045 1) = 4 ∧
        t.nv.sram.dev.images.getD (downloadTarget s) 0 = 3 ∧ t.nv.flash = 0) ∧
    (Accepts s via 0x1F51 1 ⟨1, 3⟩ → s.nv.sram.dev.images.length = 2 → downloadTarget s < 2 → 
      ∃ t, exec (.programClear via) s = .next t ∧ t.nv.download = none ∧ t.nv.sram.dev.images.getD (downloadTarget s) 0 = 0 ∧
        Job.commit .download 1 ∈ t.nv.queue) ∧
    (∀ (log : Bool), Live s → (s.ring log).staged ≠ [] → 
      ∃ t, exec (.journalCommitTimer log) s = .next t ∧ (if log then Job.eventLog else Job.journal) ∈ t.nv.queue)

/-- R68, R69, R71, R72: the NMT commands change the NMT state of the node and nothing else of the device; Reset Communication takes the settings of 2104h and leaves every timing function as it is; Reset Node does the same, or with NMT_RESET_ACTION FULL asks for a reset of the device with cause NMT_FULL; a heartbeat carries the NMT state; and BUS_OFF_ENTERED shows in the HISTORY of 2100h. -/
def Obligations.NetworkManagementTouchesTheNodeOnly : Prop :=
  ∀ (s : State), Live s →
    (nmtMine s 0 = true → 
      ∃ t, exec (.nmtStartRemoteNode 0) s = .next t ∧ t = s.setCan fun c => { c with nmt := 2 }) ∧
    (nmtMine s 0 = true → 
      ∃ t, exec (.nmtStopRemoteNode 0) s = .next t ∧ t = s.setCan fun c => { c with nmt := 0 }) ∧
    (nmtMine s 0 = true → 
      ∃ t, exec (.nmtEnterPreOperational 0) s = .next t ∧ t = s.setCan fun c => { c with nmt := 1 }) ∧
    (nmtMine s 0 = true → s.can.pendingNode = none → 
      ∃ t, exec (.nmtResetCommunication 0) s = .next t ∧ t.can.nmt = 1 ∧ t.can.node = s.can.node ∧ t.can.nominal = s.rd (key 0x2104 3) ∧
        t.can.data = s.rd (key 0x2104 4) ∧ (t.can.fd = (s.rd (key 0x2104 5) == 1)) ∧ t.od = s.od ∧ t.dp = s.dp ∧ t.ap = s.ap ∧ t.tcs = s.tcs ∧
        t.chan = s.chan) ∧
    (nmtMine s 0 = true → s.rd (key 0x2104 6) = 1 → 
      ∃ t, exec (.nmtResetNode 0) s = .next t ∧ t.resetReq = some (dueCause s.resetReq 4)) ∧
    (nmtMine s 0 = true → s.rd (key 0x2104 6) = 0 → s.can.pendingNode = none → 
      ∃ t, exec (.nmtResetNode 0) s = .next t ∧ t.resetReq = s.resetReq ∧ t.can.nmt = 1 ∧ t.dp = s.dp ∧ t.ap = s.ap ∧ t.tcs = s.tcs) ∧
    (nodeOk s = true → s.rd (key 0x1017 0) ≠ 0 → s.can.nmt ≠ 3 → 
      ∃ t, exec (.heartbeatTimer) s = .next t ∧ t = s.send (.can (0x700 + s.can.node) ⟨1, nmtCode s.can.nmt⟩)) ∧
    (∀ (passive busOff : Bool), 
      ∃ t, exec (.canErrorStateChange passive busOff) s = .next t ∧ t.can = { s.can with passive := passive, busOff := busOff } ∧ (busOff = true →
        s.can.busOff = false → bit (t.rd (key 0x2100 2)) 4 = true))

/-- R70: a slave that is on the bus enters and leaves the configuration state, globally or by its identity; in it, it takes a node-ID and a bit timing, activates the timing, stores both in the shadow region with a store asked for, and answers with its identity and node-ID; it answers to its range of identities, and as a slave without a node-ID. -/
def Obligations.LssServicesAnswer : Prop :=
  ∀ (s : State), Live s → canOn s = true →
    (∃ t, exec (.lssSwitchStateGlobal true) s = .next t ∧ t = s.setCan fun c => { c with lss := true }) ∧
    (∃ t, exec (.lssSwitchStateSelective (identityOf s 1) (identityOf s 2) (identityOf s 3) (identityOf s 4)) s = .next t ∧ t.can.lss = true ∧
        t.out = .can 0x7E4 ⟨8, 0x44⟩ :: s.out) ∧
    (∀ (n : Nat), s.can.lss = true → 1 ≤ n → n ≤ 127 → 
      ∃ t, exec (.lssConfigureNodeId n) s = .next t ∧ t.can.pendingNode = some n ∧ t.can.node = s.can.node ∧ t.out = .can 0x7E4 ⟨8, 0x11⟩ :: s.out) ∧
    (∀ (rate : Nat), s.can.lss = true → rate ≤ 4 → 
      ∃ t, exec (.lssConfigureBitTiming 0 rate) s = .next t ∧ t.can.pendingTiming = some (0, rate) ∧ t.can.nominal = s.can.nominal ∧
        t.out = .can 0x7E4 ⟨8, 0x13⟩ :: s.out) ∧
    (∀ (delay rate : Nat), s.can.lss = true → s.can.pendingTiming = some (0, rate) → 
      ∃ t, exec (.lssActivateBitTiming delay) s = .next t ∧ t = s.setCan fun c => { c with nominal := 4 - rate }) ∧
    (∀ (n : Nat), s.can.lss = true → s.can.pendingNode = some n → 
      ∃ t, exec (.lssStoreConfiguration) s = .next t ∧ t.nv.sram.dev.lssNode = some n ∧ Job.store ∈ t.nv.queue ∧ t.out = .can 0x7E4 ⟨8, 0x17⟩ :: s.out) ∧
    (s.can.lss = true → 
      ∃ t, exec (.lssInquireIdentity 0x5E) s = .next t ∧ t = s.send (.can 0x7E4 ⟨8, 0x5E + s.can.node * 256⟩)) ∧
    (∃ t, exec (.lssIdentifyRemoteSlave (identityOf s 1) (identityOf s 2) (identityOf s 3) (identityOf s 3) (identityOf s 4) (identityOf s 4)) s = .next t ∧ t = s.send (.can 0x7E4 ⟨8, 0x4F⟩)) ∧
    (s.can.node = 0xFF → 
      ∃ t, exec (.lssIdentifyNonConfigured) s = .next t ∧ t = s.send (.can 0x7E4 ⟨8, 0x50⟩))

/-- R74, R75, R77, R78, R79: a whole SDO download that no rule refuses is posted and confirmed, one that is refused is answered with the code, which is recorded; an upload of up to 4 bytes is answered with the value; a segment of an upload carries the next bytes; 1000 ms without a segment abort the transfer with 0504 0000h, recorded; SYNC makes a synchronous TPDO sample its entries, and the queued values go out; the event timer sends a TPDO; an RPDO posts one write for each mapped entry, or is discarded as short with PDO_SHORT; and the oldest EMCY goes out. -/
def Obligations.CanopenTransfersAndPdos : Prop :=
  ∀ (s : State) (p : Nat), Live s →
    (∀ (usdo : Bool) (index sub : Nat) (d : Datum), sdoOn s = true → engineUp s 15 = true → s.sdoAt usdo = none → (usdo = true → s.can.fd = true) →
        (writeRefuse s (sdoVia usdo) index sub d).1 = 0 → index ≠ 0x2310 → streamSelf index sub = false → pendingCount s 2 < 1024 →
        s.host.stalled = [] → 
      ∃ t, exec (.sdoDownload usdo index sub (.whole d)) s = .next t ∧ t.out.head? = some (.answer (sdoVia usdo) index sub 0 {}) ∧
        t.host.posted = s.host.posted ++ [⟨sdoVia usdo, index, sub, d, ticketOf s (journalled s (sdoVia usdo) index sub d), false⟩]) ∧
    (∀ (usdo : Bool) (index sub : Nat) (d : Datum), sdoOn s = true → engineUp s 15 = true → s.sdoAt usdo = none → (usdo = true → s.can.fd = true) →
        (writeRefuse s (sdoVia usdo) index sub d).1 ≠ 0 → index ≠ 0x2310 → streamSelf index sub = false → pendingCount s 2 < 1024 →
        s.host.stalled = [] → 
      ∃ t, exec (.sdoDownload usdo index sub (.whole d)) s = .next t ∧
        t.out.head? = some (.answer (sdoVia usdo) index sub (writeRefuse s (sdoVia usdo) index sub d).1 {}) ∧ t.host.posted = s.host.posted ∧
        t.rd (key 0x2101 7) = (writeRefuse s (sdoVia usdo) index sub d).1 % 2 ^ 32) ∧
    (∀ (usdo : Bool) (index sub : Nat), sdoOn s = true → engineUp s 15 = true → s.sdoAt usdo = none → (usdo = true → s.can.fd = true) →
        (readEntry s (sdoVia usdo) index sub).1 = 0 → (readEntry s (sdoVia usdo) index sub).2.1.len ≤ 4 → 
      ∃ t, exec (.sdoUpload usdo index sub none) s = .next t ∧
        t.out.head? = some (.answer (sdoVia usdo) index sub 0 (readEntry s (sdoVia usdo) index sub).2.1)) ∧
    (∀ (x : Transfer), sdoOn s = true → engineUp s 15 = true → s.sdoAt false = some x → x.upload = true → x.block = none → 
      ∃ t, exec (.sdoSegment false (.up x.toggle)) s = .next t ∧
        t.out.head? = some (.answer .canSdo x.index x.sub 0 ⟨min 7 (x.data.len - x.sent), bytesAt x.data.val x.sent (min 7 (x.data.len - x.sent))⟩)) ∧
    (∀ (x : Transfer), s.sdoAt false = some x → 
      ∃ t, exec (.sdoTimeout false) s = .next t ∧ t.sdoAt false = none ∧ t.out = .answer .canSdo x.index x.sub 0x05040000 {} :: s.out ∧
        t.rd (key 0x2101 7) = 0x05040000 ∧ t.rd (key 0x2101 9) = (s.rd (key 0x2101 9) + 1) % 2 ^ 32 ∧ bit (t.rd (key 0x2100 2)) 2 = true) ∧
    (s.can.tpdos.length = 8 → pdoOn s 0x1800 = true → tpdoType s 0 = 1 → (s.tpdoAt 0).queued = none → 
      ∃ t, exec (.syncReceived 0) s = .next t ∧ (t.tpdoAt 0).queued = some (tpdoValue s 0)) ∧
    (∀ (d : Datum), p < 8 → s.can.tpdos.length = 8 → pdoOn s (0x1800 + p) = true → (s.tpdoAt p).queued = some d → 
      ∃ t, exec (.tpdoTransmit p) s = .next t ∧ t.out = .can (s.rd (key (0x1800 + p) 1) % 2 ^ 29) d :: s.out ∧ (t.tpdoAt p).queued = none) ∧
    (p < 8 → pdoOn s (0x1800 + p) = true → 254 ≤ tpdoType s p → s.rd (key (0x1800 + p) 5) ≠ 0 → (s.tpdoAt p).lastAt = none → 
      ∃ t, exec (.tpdoEventTimer p) s = .next t ∧ t.out = .can (s.rd (key (0x1800 + p) 1) % 2 ^ 29) (tpdoValue s p) :: s.out) ∧
    (∀ (d : Datum) (e : Nat × Nat × Nat), p < 8 → pdoOn s (0x1400 + p) = true → mapping s (0x1600 + p) = [e] → e.2.2 ≤ d.len →
        (writeRefuse s (.canPdo p) e.1 e.2.1 ⟨e.2.2, bytesAt d.val 0 e.2.2⟩).1 = 0 → e.1 ≠ 0x2310 → pendingCount s 2 < 1024 →
        streamSelf e.1 e.2.1 = false → 
      ∃ t, exec (.rpdoReceived p d) s = .next t ∧
        t.host.posted = s.host.posted ++ [⟨.canPdo p, e.1, e.2.1, ⟨e.2.2, bytesAt d.val 0 e.2.2⟩, ticketOf s (journalled s (.canPdo p) e.1 e.2.1 ⟨e.2.2, bytesAt d.val 0 e.2.2⟩), false⟩]) ∧
    (∀ (d : Datum) (e : Nat × Nat × Nat), p < 8 → pdoOn s (0x1400 + p) = true → mapping s (0x1600 + p) = [e] → d.len < e.2.2 → 
      ∃ t, exec (.rpdoReceived p d) s = .next t ∧ bit (t.rd (key 0x2100 2)) 6 = true ∧ t.host = s.host) ∧
    (∀ (e : Nat × Bool) (r : List (Nat × Bool)), s.col.emcy = e :: r → nodeOk s = true → s.can.nmt = 1 → entryValue s 0x1014 0 < 2 ^ 31 →
        s.can.emcyAt = none → 
      ∃ t, exec (.emcyTransmit) s = .next t ∧ t.col.emcy = r ∧ t.out = .can (entryValue s 0x1014 0 % 2 ^ 29) ⟨8, e.1⟩ :: s.out)

/-- R93, R97, R98, R100, R103, R109 for a rising edge at an INPUT with the prescaler bypassed and EDGE RISING: the first one after a restart is captured with RESTART and the low 16 bits of the capture count as its sequence; one that comes before the N-th is counted and no more; one that the TDC is not ready for is skipped, which SKIPS counts; and a capture that finds 64 stamps in the FIFO is dropped and counted in DROP_SLICE. A write of ROLE restarts the decimator, and at the whole second RATE is what was captured in it. -/
def Obligations.EdgesAreCapturedDroppedOrSkipped : Prop :=
  ∀ (s : State) (n : Nat), Live s → ShapeWf s → n < 96 →
    (∀ (coarse bin frac : Nat), bootPast s 5 = true → s.chCfg n 1 = 1 → s.chCfg n 5 = 0 → s.chCfg n 6 = 0 → (s.chanAt n).fresh = true →
        (s.chanAt n).late = false → (s.chanAt n).los = false → (s.chanAt n).lastKept = none → fifoCount (s.chanAt n).fifo < 64 → 
      ∃ t, exec (.channelEdge n false coarse bin frac) s = .next t ∧ ∃ x, (t.chanAt n).fifo = (s.chanAt n).fifo ++ [.stamp x] ∧ x.chan = n ∧
        x.falling = false ∧ x.seq = (s.chanAt n).captured % 2 ^ 16 ∧ bit x.flags 7 = true ∧ bit x.flags 1 = false ∧ x.tc = s.chCfg n 8 ∧
        (t.chanAt n).captured = (s.chanAt n).captured + 1 ∧ (t.chanAt n).dropSlice = (s.chanAt n).dropSlice ∧ (t.chanAt n).fresh = false ∧ t.od = s.od) ∧
    (∀ (coarse bin frac : Nat), bootPast s 5 = true → s.chCfg n 1 = 1 → s.chCfg n 5 = 0 → s.chCfg n 6 = 0 → (s.chanAt n).fresh = true →
        (s.chanAt n).los = false → (s.chanAt n).lastKept = none → 64 ≤ fifoCount (s.chanAt n).fifo → 
      ∃ t, exec (.channelEdge n false coarse bin frac) s = .next t ∧ (t.chanAt n).fifo = (s.chanAt n).fifo ∧
        (t.chanAt n).captured = (s.chanAt n).captured + 1 ∧ (t.chanAt n).dropSlice = (s.chanAt n).dropSlice + 1) ∧
    (∀ (coarse bin frac : Nat), bootPast s 5 = true → s.chCfg n 1 = 1 → s.chCfg n 5 = 0 → s.chCfg n 6 = 0 → (s.chanAt n).fresh = false →
        (s.chanAt n).late = false → (s.chanAt n).count + 1 < decimation s n → 
      ∃ t, exec (.channelEdge n false coarse bin frac) s = .next t ∧ (t.chanAt n).fifo = (s.chanAt n).fifo ∧
        (t.chanAt n).captured = (s.chanAt n).captured ∧ (t.chanAt n).count = (s.chanAt n).count + 1) ∧
    (∀ (coarse bin frac : Nat) (r : Int), bootPast s 5 = true → s.chCfg n 1 = 1 → s.chCfg n 5 = 0 → s.chCfg n 6 = 0 → edgeDue s n = true →
        (s.chanAt n).late = false → (s.chanAt n).lastKept = some r → edgeTime s n false coarse bin < r + 4 * 65536 → 
      ∃ t, exec (.channelEdge n false coarse bin frac) s = .next t ∧ (t.chanAt n).fifo = (s.chanAt n).fifo ∧
        (t.chanAt n).captured = (s.chanAt n).captured ∧ (t.chanAt n).dropSlice = (s.chanAt n).dropSlice ∧ (t.chanAt n).late = true ∧
        t.drd (key (0x3200 + n) 8) = (s.drd (key (0x3200 + n) 8) + 1) % 2 ^ 32) ∧
    (∀ (via : Iface) (d : Datum), Accepts s via (0x3000 + n) 1 d → bootPast s 5 = true → 
      ∃ t, exec (.channelRoleWrite via n d) s = .next t ∧ t.rd (key (0x3000 + n) 1) = d.val ∧ (t.chanAt n).fresh = true ∧
        (t.chanAt n).captured = (s.chanAt n).captured) ∧
    (∃ t, exec (.rateSecond) s = .next t ∧ t.drd (key (0x3200 + n) 9) = (s.chanAt n).second % 2 ^ 32 ∧ (t.chanAt n).second = 0)

/-- R44, R105, R106, R107, R108: the next stamp of the FIFO is counted as delivered and stands in the stamp buffer offered to the consumers that CONSUMERS names, or is counted in DROP_HUB while cupping holds the next free position; a read of STAMP_W0 or STAMP takes the oldest unread stamp of the channel into the latch of the interface, and all ones from an empty queue; and FLUSH_TIME after its first record an Ethernet export frame goes out with the next sequence, FRAMES_SENT counts and the losses start anew. -/
def Obligations.StampsReachTheirConsumers : Prop :=
  ∀ (s : State) (n : Nat), Live s → ShapeWf s → n < 96 →
    (∀ (replays : Nat) (x : Stamp) (r : List FifoItem) (gr : Ingest), linkDrains s (dieOfChan n) = true → (s.chanAt n).fifo = .stamp x :: r →
        ingestGrant s (dieOfChan n) = .granted gr → (carry s (dieOfChan n) false (stampRecord n x.seq) replays).1 = true → hubFull s = false → 
      ∃ t, exec (.stampIngest n replays false) s = .next t ∧ (t.chanAt n).fifo = r ∧ (t.chanAt n).delivered = (s.chanAt n).delivered + 1 ∧
        (t.chanAt n).dropHub = (s.chanAt n).dropHub ∧ (t.chanAt n).lastSeq = x.seq ∧ (s.fb 0x12 = 0 →
        t.rd (key (0x3200 + n) 0x0A) = stampWords (deliveredStamp s n x (carry s (dieOfChan n) false (stampRecord n x.seq) replays).2.1))) ∧
    (∀ (replays : Nat) (x : Stamp) (r : List FifoItem) (gr : Ingest), linkDrains s (dieOfChan n) = true → (s.chanAt n).fifo = .stamp x :: r →
        ingestGrant s (dieOfChan n) = .granted gr → (carry s (dieOfChan n) false (stampRecord n x.seq) replays).1 = true → hubFull s = true → 
      ∃ t, exec (.stampIngest n replays false) s = .next t ∧ (t.chanAt n).fifo = r ∧ (t.chanAt n).delivered = (s.chanAt n).delivered ∧
        (t.chanAt n).dropHub = (s.chanAt n).dropHub + 1 ∧ t.chan.ring = s.chan.ring) ∧
    (∀ (via : Iface) (whole : Bool) (x : Stamp), viaOn s via = true → s.boot.open_ = true → oldestUnread s.chan.ring n = some x → 
      ∃ t, exec (.stampPop via n whole) s = .next t ∧ stampLatch t (ifaceLatch via) n = stampWords x ∧ t.chan.ring = markRead s.chan.ring n ∧
        t.chan.chans = s.chan.chans) ∧
    (∀ (via : Iface) (whole : Bool), viaOn s via = true → s.boot.open_ = true → oldestUnread s.chan.ring n = none → 
      ∃ t, exec (.stampPop via n whole) s = .next t ∧ stampLatch t (ifaceLatch via) n = 2 ^ 96 - 1 ∧ t.chan.ring = s.chan.ring) ∧
    (exportOpen s false = true → (exportRecords s false).1 ≠ [] → 
      ∃ t, exec (.exportFlushTimer false) s = .next t ∧ t.out.length = s.out.length + 1 ∧
        t.chan.eth = { sequence := (s.chan.eth.sequence + 1) % 2 ^ 32, lost := 0 } ∧ t.rd (key 0x2610 5) = (s.rd (key 0x2610 5) + 1) % 2 ^ 32)

/-- R111, R115, R116, R117: ARM makes the gate ARMED, its earlier results discarded, where the start is a channel, and OPEN at once with ARM_INSTANT; the deadline closes an OPEN interval gate with END_CAUSE WINDOW at t_start + WINDOW_CLOSE; the watermark of the die of its sources that lies at or past the deadline makes it DONE, with RESULT_VALID and HISTORY DONE; and ABORT makes it DONE with END_CAUSE ABORT and its stops kept. -/
def Obligations.GatesRunToDone : Prop :=
  ∀ (s : State) (g : Nat), Live s → ShapeWf s → g < 24 →
    (∀ (via : Iface), Accepts s via (0x3300 + g) 6 ⟨1, 1⟩ → s.gateCfg g 8 < 96 → 
      ∃ t, exec (.gateArm via g) s = .next t ∧ (t.gateAt g).state = .armed ∧ (t.gateAt g).stops = [] ∧ (t.gateAt g).early = 0 ∧
        t.rd (key (0x3300 + g) 1) = 1 ∧ t.rd (key (0x3300 + g) 0x21) = 0) ∧
    (∀ (via : Iface), Accepts s via (0x3300 + g) 6 ⟨1, 1⟩ → s.gateCfg g 8 = 0x7E → 
      ∃ t, exec (.gateArm via g) s = .next t ∧ (t.gateAt g).state = .open_ ∧ (t.gateAt g).start = gateNow s g ∧ t.rd (key (0x3300 + g) 1) = 2) ∧
    (∀ (via : Iface), Accepts s via (0x3300 + g) 6 ⟨1, 2⟩ → gateBusy (s.gateAt g) = true → 
      ∃ t, exec (.gateAbort via g) s = .next t ∧ (t.gateAt g).state = .done ∧ (t.gateAt g).cause = 3 ∧ (t.gateAt g).stops = (s.gateAt g).stops ∧
        t.rd (key (0x3300 + g) 0x1F) = 3 ∧ t.rd (key (0x3300 + g) 2) = s.rd (key (0x3300 + g) 2) ||| 3) ∧
    ((s.gateAt g).state = .open_ → gateIsFreq s g = false → 
      ∃ t, exec (.gateDeadline g) s = .next t ∧ (t.gateAt g).state = .closing ∧ (t.gateAt g).cause = 1 ∧
        (t.gateAt g).deadline = (s.gateAt g).start + (s.gateCfg g 0x1A * 65536 : Nat) ∧ (t.gateAt g).stops = (s.gateAt g).stops) ∧
    (∀ (c : Nat) (raw : Int) (lag : Nat), c < 6 → Crosses s c false (oneWord 5 c) → (s.gateAt g).state = .closing → gateIsFreq s g = false →
        (∀ e ∈ gateDies s g, e = c) →
        (s.gateAt g).deadline ≤ (if s.gateCfg g 7 = 1 then before ((tcNow s (gateTc s g) : Int) - lag) (((unsent s c).filter fun x : Stamp => x.tc == gateTc s g).map fun x : Stamp => (x.time : Int)) else before raw ((unsent s c).map fun x : Stamp => x.raw)) → 
      ∃ t, exec (.watermarkReceived c raw lag) s = .next t ∧ (t.gateAt g).state = .done ∧ (t.gateAt g).cause = (s.gateAt g).cause ∧
        (t.gateAt g).valid = true ∧ (t.gateAt g).stops = (s.gateAt g).stops ∧ bit (t.rd (key (0x3300 + g) 2)) 0 = true)

/-- R123, R125, R126: the SOSC becomes absent and present, each presence starting the counts of 10 s; while it is absent the base in use falls back to the MXO, FALLBACK and FALLBACK_ENTERED show, and it returns once the SOSC has been present for 10 s; a write of MXO puts the MXO into use at once and clears FALLBACK; a write of SOSC before the 10 s leaves the MXO in use with FALLBACK set; an accepted SOSC_HZ waits for the next adoption and restarts the count; DATE_NOW writes the TC0 seconds to ADJUST_SECONDS; and an evaluation publishes STATIC_OFFSET while TC0 is unset. -/
def Obligations.MeasurementTimeBaseFollowsTheSosc : Prop :=
  ∀ (s : State) (via : Iface), Live s → ShapeWf s →
    (∃ t, exec (.soscAbsent) s = .next t ∧ t = s.setBase fun b => { b with sosc := false, soscTen := false }) ∧
    (s.chan.base.sosc = false → 
      ∃ t, exec (.soscPresent) s = .next t ∧ t = s.setBase fun b => { b with sosc := true, soscTen := false, soscSince := s.now }) ∧
    (s.chan.base.inUse = true → s.chan.base.sosc = false → 
      ∃ t, exec (.timebaseFallback) s = .next t ∧ t.chan.base.inUse = false ∧ t.chan.base.fallback = true ∧ bit (t.rd (key 0x2600 2)) 0 = true) ∧
    (s.chan.base.inUse = false → s.chan.base.sosc = true → s.rd (key 0x2601 1) = 1 → 
      ∃ t, exec (.timebaseSoscReturn) s = .next t ∧ t.chan.base.inUse = true ∧ t.chan.base.fallback = false ∧ t.chan.base.soscTen = true ∧
        bit (t.rd (key 0x2600 2)) 1 = true) ∧
    (Accepts s via 0x2601 1 ⟨1, 0⟩ → 
      ∃ t, exec (.timebaseSourceWrite via ⟨1, 0⟩) s = .next t ∧ t.chan.base.inUse = false ∧ t.chan.base.fallback = false ∧ t.rd (key 0x2601 1) = 0) ∧
    (Accepts s via 0x2601 1 ⟨1, 1⟩ → s.chan.base.inUse = false → s.chan.base.soscTen = false → 
      ∃ t, exec (.timebaseSourceWrite via ⟨1, 1⟩) s = .next t ∧ t.chan.base.inUse = false ∧ t.chan.base.fallback = true ∧
        bit (t.rd (key 0x2600 2)) 0 = true ∧ t.rd (key 0x2601 1) = 1) ∧
    (Accepts s via 0x2601 1 ⟨1, 1⟩ → s.chan.base.inUse = false → s.chan.base.soscTen = true → 
      ∃ t, exec (.timebaseSourceWrite via ⟨1, 1⟩) s = .next t ∧ t.chan.base.inUse = true ∧ t.chan.base.fallback = false ∧ t.rd (key 0x2601 1) = 1) ∧
    (∀ (d : Datum), Accepts s via 0x2601 2 d → 
      ∃ t, exec (.soscHzWrite via d) s = .next t ∧ t.rd (key 0x2601 2) = d.val ∧ t.chan.base.hzPending = true ∧
        t.chan.base.hzInUse = s.chan.base.hzInUse ∧ t.chan.base.soscSince = s.now) ∧
    (∀ (sosc : Bool), Accepts s via (0x2602 + b2n sosc) 5 ⟨1, 1⟩ → 
      ∃ t, exec (.dateNow via sosc) s = .next t ∧ t.rd (key (0x2602 + b2n sosc) 3) = tcNow s 0 / 65536000000000 % 2 ^ 48) ∧
    (∀ (sosc : Bool), (s.tcAt 0).unset = true → 
      ∃ t, exec (.timebaseModelEval) s = .next t ∧ t.rd (key (0x2602 + b2n sosc) 4) = s.rd (key (0x2602 + b2n sosc) 1) % 2 ^ 48)

/-- R127, R132, R140: ENABLE 1 on an INPUT takes the channel from UNUSED to QUALIFYING with its statistics and its decimator restarted, and ENABLE 0 takes it to UNUSED; REQUALIFY does the restart from every state but UNUSED, with cause NONE; DISQUALIFY takes it to DISQUALIFIED with cause MANUAL and REF_DISQUALIFIED goes to the collector; RESTART_STATS restarts the statistics and changes neither the state nor the decimator; and in UNUSED a command has no effect on the state. -/
def Obligations.CuppingCommandsAct : Prop :=
  ∀ (s : State) (via : Iface) (n : Nat), Live s → ShapeWf s → n < 96 →
    (Accepts s via (0x3100 + n) 5 ⟨1, 1⟩ → engineUp s 12 = true → s.chCfg n 1 = 1 → (s.cupAt n).st = 0 → bootPast s 5 = true → 
      ∃ t, exec (.cuppingEnableWrite via n ⟨1, 1⟩) s = .next t ∧ t.rd (key (0x3100 + n) 0x22) = 2 ∧ t.rd (key (0x3100 + n) 0x23) = 0 ∧
        (t.cupAt n).t0 = none ∧ (t.chanAt n).fresh = true ∧ t.rd (key (0x3100 + n) 5) = 1) ∧
    (Accepts s via (0x3100 + n) 5 ⟨1, 0⟩ → engineUp s 12 = true → (s.cupAt n).st ≠ 0 → bootPast s 5 = true → 
      ∃ t, exec (.cuppingEnableWrite via n ⟨1, 0⟩) s = .next t ∧ t.rd (key (0x3100 + n) 0x22) = 0 ∧ t.rd (key (0x3100 + n) 0x23) = 0 ∧
        t.rd (key (0x3100 + n) 5) = 0 ∧ bit (t.rd (key (0x3100 + n) 2)) 6 = true) ∧
    (Accepts s via (0x3100 + n) 8 ⟨1, 1⟩ → engineUp s 12 = true → underCupping s n = true → (s.cupAt n).cmds = [] → (s.cupAt n).st ≠ 0 →
        ((s.cupAt n).st = 1 ∨ (s.chanAt n).los = false ∧ (s.cupAt n).fell = false) → 
      ∃ t, exec (.requalify via n) s = .next t ∧ t.rd (key (0x3100 + n) 0x22) = 2 ∧ t.rd (key (0x3100 + n) 0x23) = 0 ∧ (t.cupAt n).t0 = none ∧
        (t.chanAt n).fresh = true ∧ bit (t.rd (key (0x3100 + n) 2)) 8 = true ∧ bit (t.rd (key (0x3100 + n) 2)) 2 = true) ∧
    (Accepts s via (0x3100 + n) 8 ⟨1, 2⟩ → engineUp s 12 = true → underCupping s n = true → (s.cupAt n).cmds = [] → (s.cupAt n).st ≠ 0 →
        ((s.cupAt n).st = 1 ∨ (s.chanAt n).los = false ∧ (s.cupAt n).fell = false) → 
      ∃ t, exec (.disqualify via n) s = .next t ∧ t.rd (key (0x3100 + n) 0x22) = 1 ∧ t.rd (key (0x3100 + n) 0x23) = 4 ∧
        t.faultIn = s.faultIn ++ [⟨faultWord 0 1 5 n, s.now⟩] ∧ t.chan = s.chan) ∧
    (Accepts s via (0x3100 + n) 8 ⟨1, 3⟩ → engineUp s 12 = true → underCupping s n = true → (s.cupAt n).cmds = [] → (s.cupAt n).st ≠ 0 →
        ((s.cupAt n).st = 1 ∨ (s.chanAt n).los = false ∧ (s.cupAt n).fell = false) → 
      ∃ t, exec (.restartStats via n) s = .next t ∧ t.rd (key (0x3100 + n) 0x22) = (s.cupAt n).st ∧ (t.cupAt n).st = (s.cupAt n).st ∧
        (t.cupAt n).t0 = none ∧ (t.cupAt n).freqFormed = false ∧ t.chan = s.chan ∧ t.rd (key (0x3100 + n) 0x27) = 0xFFFFFFFF ∧
        bit (t.rd (key (0x3100 + n) 2)) 8 = true) ∧
    (Accepts s via (0x3100 + n) 8 ⟨1, 1⟩ → (s.cupAt n).st = 0 → 
      ∃ t, exec (.requalify via n) s = .next t ∧ t.od = s.od ∧ t.cups = s.cups ∧ t.chan = s.chan)

/-- R133, R137, R140, R141, R143, R144: LOS counts and, in one evaluation, takes a usable channel to DISQUALIFIED with cause LOS and score 0; an evaluation of a formed score gives 255 less the three penalties, held at 0, and takes a QUALIFIED channel whose score lies below DEGRADE_BELOW but not below DISQUALIFY_BELOW to DEGRADED, with its cause kept and REF_DEGRADED sent; QUALIFY_TIME at the threshold gives QUALIFIED; LOS_CLEAR_TIME without LOS gives QUALIFYING with both restarts and the cause kept; and S learns LOS over the S–C link of the die, and state and score over link 6. -/
def Obligations.CupScoreAndStateFollowR140 : Prop :=
  ∀ (s : State) (n : Nat), Live s → ShapeWf s → n < 96 →
    (engineUp s 12 = true → underCupping s n = true → cupHears s n = true → (s.chanAt n).los = false → 2 ≤ (s.cupAt n).st → 
      ∃ t, exec (.losDeclared n) s = .next t ∧ (t.chanAt n).los = true ∧ t.rd (key (0x3100 + n) 0x31) = ((s.cupAt n).losCount + 1) % 2 ^ 32 ∧
        t.rd (key (0x3100 + n) 0x22) = 1 ∧ t.rd (key (0x3100 + n) 0x23) = 1 ∧ t.rd (key (0x3100 + n) 0x24) = 0 ∧
        t.faultIn = s.faultIn ++ [⟨faultWord 0 1 3 n, s.now⟩, ⟨faultWord 0 1 5 n, s.now⟩]) ∧
    (CupSteady s n → scoreFormed s n = true → (s.chanAt n).los = false → (s.cupAt n).outOfRange = false → 
      ∃ t, exec (.cupEvaluation n) s = .next t ∧
        t.rd (key (0x3100 + n) 0x24) = 255 - (if (s.cupAt n).freqFlag then s.cupReg n 0x0E else 0) - min 255 (s.cupReg n 0x11 * absI (s.cupAt n).drift / s.cupReg n 0x10) - penaltyW s n) ∧
    (CupSteady s n → scoreFormed s n = true → (s.chanAt n).los = false → (s.cupAt n).st = 3 → cupScore s n < s.cupReg n 0x1F →
        s.cupReg n 0x20 ≤ cupScore s n → 
      ∃ t, exec (.cupEvaluation n) s = .next t ∧ t.rd (key (0x3100 + n) 0x22) = 4 ∧ t.rd (key (0x3100 + n) 0x23) = (s.cupAt n).cause % 256 ∧
        t.faultIn = s.faultIn ++ [⟨faultWord 0 1 4 n, s.now⟩] ∧ bit (t.rd (key (0x3100 + n) 2)) 4 = true) ∧
    (engineUp s 12 = true → qualCond s n = true → 100 * s.cupReg n 0x21 ≤ (s.cupAt n).qualRun → 
      ∃ t, exec (.qualifyTimeExpiry n) s = .next t ∧ t.rd (key (0x3100 + n) 0x22) = 3 ∧ t.rd (key (0x3100 + n) 0x23) = 0 ∧
        bit (t.rd (key (0x3100 + n) 2)) 3 = true) ∧
    (engineUp s 12 = true → cupHears s n = true → (s.cupAt n).st = 1 → (s.cupAt n).cause = 1 → (s.chanAt n).los = false →
        100 * s.cupReg n 0x0A ≤ (s.cupAt n).clearRun → 
      ∃ t, exec (.losClearTimeExpiry n) s = .next t ∧ t.rd (key (0x3100 + n) 0x22) = 2 ∧ t.rd (key (0x3100 + n) 0x23) = 1 ∧ (t.cupAt n).t0 = none ∧
        (t.chanAt n).fresh = true) ∧
    (Crosses s (dieOfChan n + 7) false (transferWords (key (0x3100 + n) 1) ⟨4, b2n (s.chanAt n).los⟩) → 
      ∃ t, exec (.losSignalArrives n) s = .next t ∧ t.dp = { s.dp with chanLos := s.dp.chanLos.set n (s.chanAt n).los } ∧ t.cups = s.cups) ∧
    (Crosses s 6 true (transferWords (key (0x3100 + n) 0x22) ⟨4, (s.cupAt n).st + (s.cupAt n).score * 2 ^ 8⟩) → 
      ∃ t, exec (.cupStateArrives n) s = .next t ∧
        t.dp = { s.dp with chanState := s.dp.chanState.set n (s.cupAt n).st, chanScore := s.dp.chanScore.set n (s.cupAt n).score } ∧ t.cups = s.cups)

/-- R132, R134, R135, R136: an interval without a stamp counts in SAMPLES_MISSING; a frequency window publishes the slope between its first and last sample in FREQ_OFFSET and sets the flag above FREQ_BAD; a drift bin publishes the least squares slope; a step of τ/10 publishes the largest peak to peak of its windows; and a block publishes TDEV once four differences exist, and not before. While E12 restarts a result waits. -/
def Obligations.CuppingMonitorsPublish : Prop :=
  ∀ (s : State) (n : Nat), Live s → ShapeWf s → n < 96 → underCupping s n = true →
    (∃ t, exec (.sampleIntervalEnd n) s = .next t ∧ t = (s.setCup n fun c => { c with missing := c.missing + 1 }).hist (0x3100 + n) (2 ^ 9) ∧
        (t.cupAt n).missing = (s.cupAt n).missing + 1 ∧ bit (t.rd (key (0x3100 + n) 2)) 9 = true) ∧
    (∀ (a b : CupSample) (w : List CupSample), CupSteady s n →
        ((s.cupAt n).samples.filter fun p => decide ((s.cupAt n).freqBase + (s.cupAt n).freqWin * freqN s n ≤ p.m ∧
        p.m ≤ (s.cupAt n).freqBase + (s.cupAt n).freqWin * freqN s n + freqN s n)) = a :: w → w.getLast? = some b → a.t < b.t → 
      ∃ t, exec (.freqWindowEnd n) s = .next t ∧ t.rdI 32 (key (0x3100 + n) 0x25) = satI 32 (qd ((b.x - a.x) * 10 ^ 12) (b.t - a.t).toNat).round ∧
        (t.cupAt n).freq = satI 32 (qd ((b.x - a.x) * 10 ^ 12) (b.t - a.t).toNat).round ∧ (t.cupAt n).freqFormed = true ∧
        (t.cupAt n).freqWin = (s.cupAt n).freqWin + 1 ∧ ((qi (s.cupReg n 0x0C : Nat)).lt (qd ((b.x - a.x) * 10 ^ 12) (b.t - a.t).toNat).abs = true →
        (t.cupAt n).freqFlag = true)) ∧
    (engineUp s 12 = false → 
      ∃ t, exec (.freqWindowEnd n) s = .next t ∧ t = s.setEng fun x => { x with held := x.held ++ [(1, n, 0)] }) ∧
    (∀ (slope : Int), CupSteady s n → driftSlope ((s.cupAt n).samples.filter fun p => decide ((s.cupAt n).driftBase ≤ p.t ∧
        (s.cupAt n).driftBase + ((s.cupAt n).driftBin + 1) * ((s.cupReg n 0x0F * second16 : Nat) / 16) - (s.cupReg n 0x0F * second16 : Nat) ≤ p.t ∧
        p.t ≤ (s.cupAt n).driftBase + ((s.cupAt n).driftBin + 1) * ((s.cupReg n 0x0F * second16 : Nat) / 16))) = some slope → 
      ∃ t, exec (.driftBinEnd n) s = .next t ∧ t.rdI 32 (key (0x3100 + n) 0x26) = satI 32 slope ∧ (t.cupAt n).driftFormed = true ∧
        (t.cupAt n).driftBin = (s.cupAt n).driftBin + 1) ∧
    (∀ (i : Nat) (v : Int), CupSteady s n → i < 5 → (s.cupAt n).mtieStep.length = 5 → (i = 0 → cupPps s n = false) →
        mtieValue (s.cupAt n).samples i ((s.cupAt n).mtieStep.getD i 0 + 1) = some v → 
      ∃ t, exec (.mtieStep n i) s = .next t ∧ t.rd (key (0x3100 + n) (0x27 + i)) = wanderPs (qi v) ∧
        (t.cupAt n).mtieStep.getD i 0 = (s.cupAt n).mtieStep.getD i 0 + 1) ∧
    (∀ (i : Nat), CupSteady s n → i < 5 → (i = 0 → cupPps s n = false) →
        4 ≤ (secondDiffs (s.cupAt n).samples i 32 ((s.cupAt n).tdevBlock.getD i 0)).length → 
      ∃ t, exec (.tdevBlockEnd n i) s = .next t ∧
        t.rd (key (0x3100 + n) (0x2C + i)) = wanderPs (sqrt64 (((secondDiffs (s.cupAt n).samples i 32 ((s.cupAt n).tdevBlock.getD i 0)).foldl (fun a v => a.add (v.mul v)) (qi 0)).div (qi (6 * (secondDiffs (s.cupAt n).samples i 32 ((s.cupAt n).tdevBlock.getD i 0)).length : Nat))))) ∧
    (∀ (i : Nat), CupSteady s n → i < 5 → (s.cupAt n).tdevBlock.length = 5 →
        (secondDiffs (s.cupAt n).samples i 32 ((s.cupAt n).tdevBlock.getD i 0)).length < 4 → 
      ∃ t, exec (.tdevBlockEnd n i) s = .next t ∧ t.od = s.od ∧ (t.cupAt n).tdev = (s.cupAt n).tdev ∧
        (t.cupAt n).tdevBlock.getD i 0 = (s.cupAt n).tdevBlock.getD i 0 + 1)

/-- R149, R157, R161, R165, R166, R172, R180, R182: a command, a tamp, a candidate word and a change of SWITCH_MODE take effect at the next update and move nothing before it; SW_FFO stands for it; the expiry of a wait-to-restore timer ends it with HISTORY bit 30; the expiry of a hold-off leaves no entry selected; ACQ_TIMEOUT starts the candidate’s timer again and DPLL_ACQ_TIMEOUT goes out; and a fault hold, set or removed, reaches the DPLL over link 6. -/
def Obligations.DpllCommandsWaitForTheUpdate : Prop :=
  ∀ (s : State) (via : Iface) (k : Nat), Live s → ShapeWf s → k < 16 →
    (∀ (d : Datum), Accepts s via (0x3400 + k) 1 d → 
      ∃ t, exec (.dpllEnableWrite via k d) s = .next t ∧ t.rd (key (0x3400 + k) 1) = d.val ∧ t.dp = s.dp) ∧
    (∀ (d : Datum), Accepts s via (0x3400 + k) 2 d → 
      ∃ t, exec (.switchModeWrite via k d) s = .next t ∧ t.rd (key (0x3400 + k) 2) = d.val ∧ (t.dpllAt k).holdoff = none ∧
        (t.dpllAt k).modeNew = true ∧ (t.dpllAt k).state = (s.dpllAt k).state) ∧
    (∀ (e : Nat) (d : Datum), e < 16 → (s.dpllAt k).wtr.length = 16 → Accepts s via (0x3410 + k) (e + 1) d → d.val % 65536 ≠ candSource s k e → 
      ∃ t, exec (.candidateWrite via k e d) s = .next t ∧ candWord t k e = d.val % 2 ^ 22 ∧ (t.dpllAt k).wordsNew = true ∧
        (t.dpllAt k).wtr.getD e none = none ∧ (t.dpllAt k).state = (s.dpllAt k).state) ∧
    (Accepts s via (0x3400 + k) 0x18 ⟨1, 1⟩ → 
      ∃ t, exec (.openLoop via k) s = .next t ∧ (t.dpllAt k).cmds = (s.dpllAt k).cmds ++ [1] ∧ t.dr = s.dr ∧ (t.dpllAt k).state = (s.dpllAt k).state) ∧
    (Accepts s via (0x3400 + k) 0x18 ⟨1, 2⟩ → 
      ∃ t, exec (.closeLoop via k) s = .next t ∧ (t.dpllAt k).cmds = (s.dpllAt k).cmds ++ [2] ∧ t.dr = s.dr ∧ (t.dpllAt k).state = (s.dpllAt k).state) ∧
    (Accepts s via (0x3400 + k) 0x18 ⟨1, 3⟩ → 
      ∃ t, exec (.forceFreerun via k) s = .next t ∧ (t.dpllAt k).cmds = (s.dpllAt k).cmds ++ [3] ∧ t.dr = s.dr ∧
        (t.dpllAt k).state = (s.dpllAt k).state) ∧
    (Accepts s via (0x3400 + k) 0x18 ⟨1, 4⟩ → 
      ∃ t, exec (.forceHoldover via k) s = .next t ∧ (t.dpllAt k).cmds = (s.dpllAt k).cmds ++ [4] ∧ t.dr = s.dr ∧
        (t.dpllAt k).state = (s.dpllAt k).state) ∧
    (Accepts s via (0x3400 + k) 0x18 ⟨1, 5⟩ → 
      ∃ t, exec (.release via k) s = .next t ∧ (t.dpllAt k).cmds = (s.dpllAt k).cmds ++ [5] ∧ t.dr = s.dr ∧ (t.dpllAt k).state = (s.dpllAt k).state) ∧
    (Accepts s via (0x3400 + k) 0x18 ⟨1, 6⟩ → 
      ∃ t, exec (.clearWtr via k) s = .next t ∧ (t.dpllAt k).cmds = (s.dpllAt k).cmds ++ [6] ∧ t.dr = s.dr ∧ (t.dpllAt k).state = (s.dpllAt k).state) ∧
    (∀ (d : Datum), Accepts s via (0x3400 + k) 0x17 d → 
      ∃ t, exec (.dpllTamp via k d) s = .next t ∧ (t.dpllAt k).tampReq = (s.dpllAt k).tampReq ++ [toI 64 d.val] ∧
        (t.dpllAt k).offset = (s.dpllAt k).offset ∧ t.dr = s.dr) ∧
    (∀ (d : Datum), Accepts s via (0x3400 + k) 0x16 d → 
      ∃ t, exec (.swFfoWrite via k d) s = .next t ∧ t.rd (key (0x3400 + k) 0x16) = d.val ∧ t.dp = s.dp) ∧
    (∀ (e : Nat), candWaiting s k e = true → 
      ∃ t, exec (.wtrExpiry k e) s = .next t ∧ (t.dpllAt k).wtr = (s.dpllAt k).wtr.set e none ∧ bit (t.drd (key (0x3420 + k) 2)) 30 = true ∧
        t.od = s.od) ∧
    ((s.dpllAt k).holdoff ≠ none → s.dpCfg k 2 ≠ 2 → 
      ∃ t, exec (.holdOffExpiry k) s = .next t ∧ (t.dpllAt k).holdoff = none ∧ (t.dpllAt k).sel = none ∧ (t.dpllAt k).state = (s.dpllAt k).state) ∧
    (∀ (e : Nat), (s.dpllAt k).state = .acquiring → s.dpCfg k 0x14 ≠ 0 → (s.dpllAt k).acqReq = false → (s.dpllAt k).sel = some e → s.dpCfg k 5 ≠ 0 → 
      ∃ t, exec (.acqTimeout k) s = .next t ∧ (t.dpllAt k).acqReq = true ∧
        (t.dpllAt k).wtr = (s.dpllAt k).wtr.set e (some (s.now + s.dpCfg k 5 * 1000000000)) ∧ t.faultIn = s.faultIn ++ [⟨faultWord 1 1 0x0B k, s.now⟩]) ∧
    (Crosses s 6 true (transferWords (key (0x3420 + k) 1) ⟨1, 1⟩) → bit s.col.holds k = true → 
      ∃ t, exec (.faultHoldArrives k) s = .next t ∧ (t.dpllAt k).faultReq = true ∧ (t.dpllAt k).state = (s.dpllAt k).state ∧
        (t.dpllAt k).faultHold = (s.dpllAt k).faultHold) ∧
    (Crosses s 6 true (transferWords (key (0x3420 + k) 1) ⟨1, 0⟩) → bit s.col.holds k = false → 
      ∃ t, exec (.faultHoldRemoved k) s = .next t ∧ (t.dpllAt k).faultReq = false ∧ (t.dpllAt k).state = (s.dpllAt k).state ∧
        (t.dpllAt k).faultHold = (s.dpllAt k).faultHold)

/-- R166, R169, R170, R171, R173, R176, R182, R183 in one update: ENABLE 0 gives FREERUN with cause DISABLED and the rest of a pour withdrawn; OPEN_LOOP gives SOFTWARE; FORCE_HOLDOVER gives HOLDOVER with a command hold, and a fault hold gives HOLDOVER with cause FAULT, where the carafe serves; RELEASE and the end of a fault hold let the DPLL go on; a selected candidate that is no longer usable gives HOLDOVER with the hold-off started, or FREERUN with cause HISTORY_SHORT where the carafe cannot serve; and in FREERUN the one candidate that is selectable is acquired, while a hold keeps the DPLL there. -/
def Obligations.DpllTransitionsFollowR169 : Prop :=
  ∀ (s : State) (k : Nat) (samples : List PhaseSample), Runs s → ShapeWf s → k < 16 →
    ((s.dpllAt k).enabled = true → s.dpCfg k 1 = 0 → 
      ∃ t, exec (.dpllUpdate k samples) s = .next t ∧ (t.dpllAt k).state = .freerun ∧ (t.dpllAt k).lastCause = 25 ∧ (t.dpllAt k).po = 0 ∧
        (t.dpllAt k).withdrawn = (s.dpllAt k).withdrawn + (s.dpllAt k).po ∧ (t.dpllAt k).transitions = (s.dpllAt k).transitions + 1 ∧
        (t.dpllAt k).cmdHold = false ∧ bit (t.drd (key (0x3420 + k) 2)) 25 = true) ∧
    ((s.dpllAt k).enabled = true → s.dpCfg k 1 = 1 → (s.dpllAt k).faultReq = false → (s.dpllAt k).faultHold = false → (s.dpllAt k).cmdHold = false →
        (s.dpllAt k).cmds = [1] → (s.dpllAt k).state ≠ .software → 
      ∃ t, exec (.dpllUpdate k samples) s = .next t ∧ (t.dpllAt k).state = .software ∧ (t.dpllAt k).lastCause = 23 ∧
        (t.dpllAt k).lastFrom = (s.dpllAt k).state ∧ (t.dpllAt k).po = 0 ∧ (t.dpllAt k).withdrawn = (s.dpllAt k).withdrawn + (s.dpllAt k).po) ∧
    ((s.dpllAt k).enabled = true → s.dpCfg k 1 = 1 → (s.dpllAt k).faultReq = false → (s.dpllAt k).faultHold = false → (s.dpllAt k).cmds = [3] →
        (s.dpllAt k).state ≠ .freerun → 
      ∃ t, exec (.dpllUpdate k samples) s = .next t ∧ (t.dpllAt k).state = .freerun ∧ (t.dpllAt k).lastCause = 22 ∧ (t.dpllAt k).cmdHold = true ∧
        (t.dpllAt k).po = 0) ∧
    ((s.dpllAt k).enabled = true → s.dpCfg k 1 = 1 → (s.dpllAt k).faultReq = false → (s.dpllAt k).faultHold = false → (s.dpllAt k).cmds = [4] →
        (s.dpllAt k).state.tracks = true → carafeServes s k = true → 
      ∃ t, exec (.dpllUpdate k samples) s = .next t ∧ (t.dpllAt k).state = .holdover ∧ (t.dpllAt k).lastCause = 22 ∧ (t.dpllAt k).cmdHold = true ∧
        (t.dpllAt k).holdoff = none) ∧
    ((s.dpllAt k).enabled = true → s.dpCfg k 1 = 1 → (s.dpllAt k).faultReq = true → (s.dpllAt k).faultHold = false → (s.dpllAt k).state.tracks = true →
        carafeServes s k = true → 
      ∃ t, exec (.dpllUpdate k samples) s = .next t ∧ (t.dpllAt k).state = .holdover ∧ (t.dpllAt k).lastCause = 20 ∧ (t.dpllAt k).faultHold = true) ∧
    (∀ (e : Nat), (s.dpllAt k).enabled = true → s.dpCfg k 1 = 1 → (s.dpllAt k).faultReq = false → (s.dpllAt k).faultHold = false →
        (s.dpllAt k).cmdHold = true → (s.dpllAt k).cmds = [5] → (s.dpllAt k).state = .freerun → (s.dpllAt k).holdoff = none → s.dpCfg k 2 = 0 →
        e < 16 → (∀ i, i < 16 → (candFit s k i = true ↔ i = e)) → 
      ∃ t, exec (.dpllUpdate k samples) s = .next t ∧ (t.dpllAt k).state = .acquiring ∧ (t.dpllAt k).sel = some e ∧ (t.dpllAt k).lastCause = 22 ∧
        (t.dpllAt k).cmdHold = false) ∧
    (∀ (c : Nat), (s.dpllAt k).enabled = true → s.dpCfg k 1 = 1 → (s.dpllAt k).faultReq = false → (s.dpllAt k).faultHold = false →
        (s.dpllAt k).cmdHold = false → (s.dpllAt k).cmds = [] → (s.dpllAt k).state.tracks = true → (s.dpllAt k).sel = some c →
        candUsable s k c = false → s.dpCfg k 2 ≠ 2 → s.dpCfg k 6 ≠ 0 → carafeServes s k = true → 
      ∃ t, exec (.dpllUpdate k samples) s = .next t ∧ (t.dpllAt k).state = .holdover ∧ (t.dpllAt k).lastCause = 10 ∧
        (t.dpllAt k).lastFrom = (s.dpllAt k).state ∧ (t.dpllAt k).holdoff = some (s.now + s.dpCfg k 6 * 1000000) ∧ (t.dpllAt k).sel = some c ∧
        (t.dpllAt k).withdrawn = (s.dpllAt k).withdrawn + (s.dpllAt k).po) ∧
    (∀ (c : Nat), (s.dpllAt k).enabled = true → s.dpCfg k 1 = 1 → (s.dpllAt k).faultReq = false → (s.dpllAt k).faultHold = false →
        (s.dpllAt k).cmdHold = false → (s.dpllAt k).cmds = [] → (s.dpllAt k).state.tracks = true → (s.dpllAt k).sel = some c →
        candUsable s k c = false → s.dpCfg k 2 ≠ 2 → carafeServes s k = false → 
      ∃ t, exec (.dpllUpdate k samples) s = .next t ∧ (t.dpllAt k).state = .freerun ∧ (t.dpllAt k).lastCause = 18 ∧
        (t.dpllAt k).lastFrom = (s.dpllAt k).state ∧ (t.dpllAt k).transitions = (s.dpllAt k).transitions + 1 ∧
        bit (t.drd (key (0x3420 + k) 2)) 10 = true ∧ bit (t.drd (key (0x3420 + k) 2)) 18 = true ∧ bit (t.drd (key (0x3420 + k) 2)) 0 = true) ∧
    (∀ (e : Nat), (s.dpllAt k).enabled = true → s.dpCfg k 1 = 1 → (s.dpllAt k).faultReq = false → (s.dpllAt k).faultHold = false →
        (s.dpllAt k).cmdHold = false → (s.dpllAt k).cmds = [] → (s.dpllAt k).state = .freerun → (s.dpllAt k).holdoff = none → s.dpCfg k 2 = 0 →
        e < 16 → (∀ i, i < 16 → (candFit s k i = true ↔ i = e)) → 
      ∃ t, exec (.dpllUpdate k samples) s = .next t ∧ (t.dpllAt k).state = .acquiring ∧ (t.dpllAt k).sel = some e ∧ (t.dpllAt k).lastCause = 6) ∧
    ((s.dpllAt k).enabled = true → s.dpCfg k 1 = 1 → dpHeld (s.dpllAt k) = true → (s.dpllAt k).faultReq = (s.dpllAt k).faultHold →
        (s.dpllAt k).cmds = [] → ((s.dpllAt k).state = .freerun ∨ (s.dpllAt k).state = .holdover) → 
      ∃ t, exec (.dpllUpdate k samples) s = .next t ∧ (t.dpllAt k).state = (s.dpllAt k).state ∧ (t.dpllAt k).transitions = (s.dpllAt k).transitions)

/-- R166, R173, R175, R178, R180 over every update of every DPLL, whatever its state: what the output has been given beyond the loop filter, APPLIED, and LEDGER move by the same amount, so that a balance that held goes on holding; TRANSITIONS grows by at most 1; POURS and REDIRECTS together grow by at most 1; and the tamps that have reached the update are counted and stand in OFFSET, with the blend steps of a reference that is no FABRIC_PARTNER. -/
def Obligations.DpllLedgerAndOneTransition : Prop :=
  ∀ (s : State) (k : Nat) (samples : List PhaseSample), Runs s → ShapeWf s → k < 16 →
    ∃ t, exec (.dpllUpdate k samples) s = .next t ∧
      (t.dpllAt k).applied - dpLedger (t.dpllAt k) = (s.dpllAt k).applied - dpLedger (s.dpllAt k) ∧
      (t.dpllAt k).transitions ≤ (s.dpllAt k).transitions + 1 ∧ (s.dpllAt k).transitions ≤ (t.dpllAt k).transitions ∧
      (t.dpllAt k).pours + (t.dpllAt k).redirects ≤ (s.dpllAt k).pours + (s.dpllAt k).redirects + 1 ∧
      (t.dpllAt k).tamps = (s.dpllAt k).tamps + (s.dpllAt k).tampReq.length ∧ (t.dpllAt k).tampReq = [] ∧
      ((s.dpllAt k).blendReq = 0 → (s.dpllAt k).blendLeft = 0 →
        (t.dpllAt k).offset = (s.dpllAt k).offset + sumI (s.dpllAt k).tampReq)

/-- R189, R190, R191, R196, R197: each carafe second advances the ring of every DPLL by an entry that stands invalid until its sample comes, and sends the sample, marked valid only where the DPLL stood LOCKED and sound throughout; a sample that arrives within 2 s of the end of its second fills its entry, a later one leaves it invalid; at a second E13 prepares a value, valid where the weight of its window reaches MIN_VALID, and the island takes the value last sent. -/
def Obligations.CarafeRecordsAndPrepares : Prop :=
  ∀ (s : State) (k : Nat), Live s → ShapeWf s → k < 16 →
    (∃ t, exec (.carafeSecond) s = .next t ∧ t.dp.second = s.dp.second + 1 ∧ (t.carafeAt k).tier1.head? = some { at_ := s.dp.second } ∧
        (t.carafeAt k).tier1.length = min 1024 ((s.carafeAt k).tier1.length + 1) ∧ ∃ x, (t.carafeAt k).sent = (s.carafeAt k).sent ++ [x] ∧
        x.second = s.dp.second ∧ x.valid = ((s.dpllAt k).secOk && (s.dpllAt k).state == .locked) ∧ x.at_ = s.now ∧ (t.dpllAt k).secOk = true) ∧
    (∀ (x : CarSample) (r : List CarSample), (s.carafeAt k).sent = x :: r →
        Crosses s 6 false (transferWords (key (0x3430 + k) 0x1F) ⟨8, carWord { ffo := some x.ffo, temp := x.temp }⟩) → 
      ∃ t, exec (.carafeSampleArrives k) s = .next t ∧ (t.carafeAt k).sent = r ∧ (∀ e, e ∈ (t.carafeAt k).tier1 → e.at_ = x.second →
        e.ffo = (if x.valid = true ∧ s.now ≤ x.at_ + 2000000000 then some x.ffo else none) ∧ e.temp = x.temp) ∧
        t.rd (key (0x3430 + k) 0x1D) = validCount (t.carafeAt k).tier1) ∧
    (engineUp s 13 = true → 
      ∃ t, exec (.holdoverPrepare k) s = .next t ∧ ∃ p, (t.carafeAt k).prepSent = some p ∧ p.second = s.dp.second ∧
        p.weight = ((window s k s.dp.second).map (·.w)).sum ∧ (p.valid = true ↔ s.hoCfg k 7 ≤ p.weight) ∧ (t.carafeAt k).prep = (s.carafeAt k).prep) ∧
    (∀ (p : Prep), (s.carafeAt k).prepSent = some p → Crosses s 6 true (transferWords (key (0x3430 + k) 0x17) ⟨6, ofI 48 p.mean.round⟩) → 
      ∃ t, exec (.preparedValueArrives k) s = .next t ∧ (t.carafeAt k).prep = some p ∧ (t.carafeAt k).visit = (s.carafeAt k).visit)

/-- R192, R195, R198, R203, R218: each second of a visit E13 sends the value of R198, which HOLDOVER_FFO shows, and keeps the value of a visit that a base change has frozen; HOLDOVER_ALARM is set and sent once; HOST_TEMP stands, is no longer stale and comes into force where TEMP_SOURCE is HOST; 10 s without it show TEMP_STALE; and a change of the base clears the carafes of every DPLL, freezes the visit, and puts the APLL reference to relock, with a SOSC_HZ that waits taken at the return. -/
def Obligations.HoldoverVisitsAndTemperatures : Prop :=
  ∀ (s : State) (k : Nat), Live s → ShapeWf s → k < 16 →
    (∀ (v : Visit), engineUp s 13 = true → (s.carafeAt k).visit = some v → v.frozen = false →
        Crosses s 6 true (transferWords (key (0x3430 + k) 0x16) ⟨6, ofI 48 (visitY s k v s.dp.second)⟩) → 
      ∃ t, exec (.holdoverCorrection k) s = .next t ∧ (t.carafeAt k).corr = some (visitY s k v s.dp.second) ∧
        t.rdI 48 (key (0x3430 + k) 0x16) = visitY s k v s.dp.second ∧ t.rd (key (0x3430 + k) 0x1B) = min (2 ^ 32 - 1) (s.dp.second - v.entry)) ∧
    (∀ (v : Visit), engineUp s 13 = true → (s.carafeAt k).visit = some v → v.frozen = true →
        Crosses s 6 true (transferWords (key (0x3430 + k) 0x16) ⟨6, ofI 48 v.y⟩) → 
      ∃ t, exec (.holdoverCorrection k) s = .next t ∧ (t.carafeAt k).corr = some v.y ∧ (t.carafeAt k).visit = some v) ∧
    (∀ (v : Visit), (s.carafeAt k).visit = some v → v.alarm = false → s.hoCfg k 0x21 ≠ 0 → s.hoCfg k 0x21 ≤ s.dp.second - v.entry → 
      ∃ t, exec (.holdoverAlarm k) s = .next t ∧ t.faultIn = s.faultIn ++ [⟨faultWord 0 2 0x0C k, s.now⟩] ∧
        bit (t.rd (key (0x3430 + k) 2)) 7 = true ∧ (t.carafeAt k).visit = some { v with alarm := true }) ∧
    (∀ (v : Visit), (s.carafeAt k).visit = some v → v.alarm = true → 
      ∃ t, exec (.holdoverAlarm k) s = .next t ∧ t = s) ∧
    (∀ (via : Iface) (d : Datum), Accepts s via (0x3430 + k) 0x0A d → 
      ∃ t, exec (.hostTempWrite via k d) s = .next t ∧ t.rd (key (0x3430 + k) 0x0A) = d.val ∧ (t.carafeAt k).stale = false ∧
        (t.carafeAt k).hostSet = true ∧ (t.carafeAt k).hostOld = false ∧ (s.hoCfg k 9 = 1 → (t.carafeAt k).lastTemp = some (toI 16 d.val))) ∧
    (s.hoCfg k 9 = 1 → (s.carafeAt k).stale = false → 
      ∃ t, exec (.tempStaleTimer k) s = .next t ∧ (t.carafeAt k).hostOld = true ∧ (t.carafeAt k).stale = true ∧ (t.carafeAt k).staleSeen = true ∧
        bit (t.rd (key (0x3430 + k) 2)) 6 = true) ∧
    (s.dp.mxo = false → s.chan.base.sosc = false → 
      ∃ t, exec (.baseChangeToMxo) s = .next t ∧ t.dp.mxo = true ∧ (t.carafeAt k).tier1 = [] ∧ (t.carafeAt k).tier2 = [] ∧
        bit (t.rd (key (0x3430 + k) 2)) 5 = true ∧ t.ap.relocking = true ∧ (∀ v, (t.carafeAt k).visit = some v → v.frozen = true)) ∧
    (s.dp.mxo = true → s.chan.base.sosc = true → 
      ∃ t, exec (.baseChangeToSosc) s = .next t ∧ t.dp.mxo = false ∧ (t.carafeAt k).tier1 = [] ∧ (t.carafeAt k).tier2 = [] ∧ t.ap.relocking = true ∧
        t.chan.base.hzPending = false ∧ (s.chan.base.hzPending = true → t.chan.base.hzInUse = s.rd (key 0x2601 2)))

/-- R194, R199, R200, R201, R207: FIT, and the timer of automatic fits while MODEL_ENABLE is not 0, start a fit where none runs or waits, shown in 2044h; a fit that finds fewer than 64 valid slots fails, with FIT_FAILED, 2044h FAILED with RESULT 0800 0024h and MODEL_FIT_FAILED sent, and leaves the model as it was; one with 64 or more sets MODEL_VALID and FIT_DONE and publishes FIT_SLOTS; CLEAR_CARAFE empties both tiers; CLEAR_MODEL sets the model to 0 but for T0; a copy written to CARAFE discards tier 1; and MODEL_VALID takes the value written. -/
def Obligations.FitsAndModels : Prop :=
  ∀ (s : State) (via : Iface) (k : Nat), Live s → ShapeWf s → k < 16 →
    (Accepts s via (0x3430 + k) 0x0E ⟨1, 1⟩ → engineUp s 13 = true → s.dp.fitNow = none → (∀ i, i < 16 → (s.carafeAt i).fitWait = false) → 
      ∃ t, exec (.fit via k) s = .next t ∧ t.dp.fitNow = some k ∧ t.rd (key 0x2044 1) = 1 ∧ t.rd (key 0x2044 6) = k ∧ (t.carafeAt k).fitWait = false) ∧
    (s.hoCfg k 8 ≠ 0 → s.hoCfg k 0x0B ≠ 0 → engineUp s 13 = true → s.dp.fitNow = none → (∀ i, i < 16 → (s.carafeAt i).fitWait = false) → 
      ∃ t, exec (.fitIntervalTimer k) s = .next t ∧ t.dp.fitNow = some k ∧ t.rd (key 0x2044 1) = 1 ∧ t.rd (key 0x2044 6) = k ∧
        (t.carafeAt k).fitWait = false) ∧
    (s.dp.fitNow = some k → (fitSlots s k).length < 64 → (∀ i, i < 16 → (s.carafeAt i).fitWait = false) → 
      ∃ t, exec (.fitComplete k) s = .next t ∧ t.dp.fitNow = none ∧ t.rd (key 0x2044 1) = 3 ∧ t.rd (key 0x2044 5) = 0x08000024 ∧
        bit (t.rd (key (0x3430 + k) 2)) 4 = true ∧ t.faultIn = s.faultIn ++ [⟨faultWord 0 2 0x0E k, s.now⟩] ∧
        t.rd (key (0x3430 + k) 0x0F) = s.rd (key (0x3430 + k) 0x0F) ∧ t.rd (key (0x3430 + k) 0x20) = s.rd (key (0x3430 + k) 0x20)) ∧
    (s.dp.fitNow = some k → 64 ≤ (fitSlots s k).length → (∀ i, i < 16 → (s.carafeAt i).fitWait = false) → 
      ∃ t, exec (.fitComplete k) s = .next t ∧ t.dp.fitNow = none ∧ t.rd (key 0x2044 1) = 2 ∧ t.rd (key (0x3430 + k) 0x20) = 1 ∧
        t.rd (key (0x3430 + k) 0x15) = (fitSlots s k).length ∧ bit (t.rd (key (0x3430 + k) 2)) 3 = true ∧ t.faultIn = s.faultIn) ∧
    (Accepts s via (0x3430 + k) 0x0E ⟨1, 2⟩ → 
      ∃ t, exec (.clearCarafe via k) s = .next t ∧ (t.carafeAt k).tier1 = [] ∧ (t.carafeAt k).tier2 = [] ∧
        (t.carafeAt k).visit = (s.carafeAt k).visit ∧ t.rd (key (0x3430 + k) 0x1D) = 0 ∧ t.rd (key (0x3430 + k) 0x1E) = 0 ∧
        bit (t.rd (key (0x3430 + k) 2)) 5 = true) ∧
    (Accepts s via (0x3430 + k) 0x0E ⟨1, 3⟩ → 
      ∃ t, exec (.clearModel via k) s = .next t ∧ t.rd (key (0x3430 + k) 0x0F) = 0 ∧ t.rd (key (0x3430 + k) 0x10) = 0 ∧
        t.rd (key (0x3430 + k) 0x11) = 0 ∧ t.rd (key (0x3430 + k) 0x13) = 0 ∧ t.rd (key (0x3430 + k) 0x20) = 0 ∧
        t.rd (key (0x3430 + k) 0x12) = s.rd (key (0x3430 + k) 0x12) ∧ t.dp = s.dp) ∧
    (∀ (d : Datum), Accepts s via (0x3430 + k) 0x1F d → 
      ∃ t, exec (.carafeWrite via k d) s = .next t ∧ (t.carafeAt k).tier1 = [] ∧ (∀ e, e ∈ (t.carafeAt k).tier2 → e.at_ ≤ s.dp.second / 64) ∧
        t.rd (key (0x3430 + k) 0x1D) = 0) ∧
    (∀ (d : Datum), Accepts s via (0x3430 + k) 0x20 d → 
      ∃ t, exec (.modelValidWrite via k d) s = .next t ∧ t.rd (key (0x3430 + k) 0x20) = d.val ∧ t.dp = s.dp)

/-- R210, R216, R217, R219, R220: ENABLE 1 takes an APLL that is OFF to LOCKING with band selection and publishes F_SOURCE, and ENABLE 0 to OFF, over to bypass; RELOCK takes it to LOCKING with band selection; after band selection the windows count; the LOCK_K-th window in a row that passes gives LOCKED, aligned to the timeline with no step outstanding; the UNLOCK_FAILS-th that fails gives LOCKING with LOCK_LOSSES counted and APLL_LOCK_LOST sent; 10 ms without lock repeat the selection; the end of the relocking takes INPUT_LOST to LOCKING; RETURN_HOLD over, its outputs are back on the source, those that divide unaligned; and CLEAR_COUNTERS sets the counters to 0. -/
def Obligations.ApllStatesFollowR217 : Prop :=
  ∀ (s : State) (via : Iface) (j : Nat), Live s → ShapeWf s → j < 8 →
    (Accepts s via (0x3500 + j) 5 ⟨1, 1⟩ → bootPast s 5 = true → s.apCfg j 5 = 0 → s.ap.relocking = false → (s.apllAt j).state = .off → 
      ∃ t, exec (.apllEnableWrite via j ⟨1, 1⟩) s = .next t ∧ (t.apllAt j).state = .locking ∧ (t.apllAt j).counting = false ∧
        (t.apllAt j).aligned = false ∧ t.drd (key (0x3500 + j) 0x13) = 1 ∧ t.rd (key (0x3500 + j) 5) = 1 ∧ t.drd (key (0x3500 + j) 0x14) = fSource s j) ∧
    (Accepts s via (0x3500 + j) 5 ⟨1, 0⟩ → bootPast s 5 = true → apllReturned s j = true → 
      ∃ t, exec (.apllEnableWrite via j ⟨1, 0⟩) s = .next t ∧ (t.apllAt j).state = .off ∧ (t.apllAt j).aligned = false ∧
        (t.apllAt j).returned = false ∧ t.drd (key (0x3500 + j) 0x13) = 0 ∧ t.rd (key (0x3500 + j) 5) = 0 ∧
        (t.apllAt j).changeovers = (s.apllAt j).changeovers + 1 ∧ bit (t.drd (key (0x3500 + j) 2)) 4 = true) ∧
    (Accepts s via (0x3500 + j) 0x12 ⟨1, 1⟩ → (s.apllAt j).state = .locked → 
      ∃ t, exec (.apllRelock via j) s = .next t ∧ (t.apllAt j).state = .locking ∧ (t.apllAt j).counting = false ∧ (t.apllAt j).aligned = false ∧
        t.drd (key (0x3500 + j) 0x13) = 1) ∧
    (Accepts s via (0x3500 + j) 0x12 ⟨1, 2⟩ → 
      ∃ t, exec (.apllClearCounters via j) s = .next t ∧ (t.apllAt j) = { (s.apllAt j) with lockLosses := 0, changeovers := 0 } ∧
        t.drd (key (0x3500 + j) 0x17) = 0 ∧ t.drd (key (0x3500 + j) 0x19) = 0) ∧
    (∀ (band : Nat), (s.apllAt j).state = .locking → 
      ∃ t, exec (.bandSelectDone j band) s = .next t ∧ (t.apllAt j).counting = true ∧ (t.apllAt j).passes = 0 ∧ (t.apllAt j).state = .locking) ∧
    (∀ (count : Nat), (s.apllAt j).state = .locking → (s.apllAt j).counting = true →
        ((qi count).sub (expectedCount s j)).abs.le (qi (s.apCfg j 0x0D : Nat)) = true → s.apCfg j 0x0E ≤ (s.apllAt j).passes + 1 → 
      ∃ t, exec (.lockWindowEnd j count) s = .next t ∧ (t.apllAt j).state = .locked ∧ (t.apllAt j).aligned = true ∧ (t.apllAt j).step = 0 ∧
        (t.apllAt j).returned = false ∧ t.drd (key (0x3500 + j) 0x13) = 2 ∧ bit (t.drd (key (0x3500 + j) 2)) 0 = true) ∧
    (∀ (count : Nat), (s.apllAt j).state = .locked → ((qi count).sub (expectedCount s j)).abs.le (qi (s.apCfg j 0x0D : Nat)) = false →
        s.apCfg j 0x0F ≤ (s.apllAt j).fails + 1 → 
      ∃ t, exec (.lockWindowEnd j count) s = .next t ∧ (t.apllAt j).state = .locking ∧ (t.apllAt j).counting = true ∧ (t.apllAt j).aligned = false ∧
        (t.apllAt j).lockLosses = (s.apllAt j).lockLosses + 1 ∧ t.drd (key (0x3500 + j) 0x13) = 1 ∧
        t.faultIn = s.faultIn ++ [⟨faultWord 1 2 0x0F (0x10 + j), s.now⟩] ∧ bit (t.drd (key (0x3500 + j) 2)) 1 = true) ∧
    ((s.apllAt j).state = .locking → 
      ∃ t, exec (.lockingTimeout j) s = .next t ∧ (t.apllAt j).state = .locking ∧ (t.apllAt j).counting = false ∧ (t.apllAt j).passes = 0) ∧
    (s.ap.relocking = true → (s.apllAt j).state = .inputLost → 
      ∃ t, exec (.refRelockComplete) s = .next t ∧ t.ap.relocking = false ∧ (t.apllAt j).state = .locking ∧ t.drd (key (0x3500 + j) 0x13) = 1 ∧
        bit (t.drd (key (0x3500 + j) 2)) 3 = true) ∧
    ((s.apllAt j).state = .locked → (s.apllAt j).returned = false → 
      ∃ t, exec (.returnHoldExpiry j) s = .next t ∧ (t.apllAt j).returned = true ∧ (t.apllAt j).changeovers = (s.apllAt j).changeovers + 1 ∧
        bit (t.drd (key (0x3500 + j) 2)) 5 = true ∧ (∀ n, n < 96 → s.chCfg n 0x0A = j → 1 < s.chCfg n 0x0B → (t.outAt n).unaligned = true))

/-- R223, R224, R225, R238: START and CLEAR wait for the next update and leave the ramp as it is; STOP under ONCE ends the ramp with its value, and under REPEAT and TRIANGLE lets the cycle complete; the end of a segment goes to the next one, from the last one of a TRIANGLE to the reversed half, from the last one of ONCE to ENDED with RAMP_ENDED and CYCLES counted, and from a cycle of REPEAT to its first segment. -/
def Obligations.RampProfilesRun : Prop :=
  ∀ (s : State) (via : Iface) (j : Nat), Live s → ShapeWf s → j < 8 →
    (Accepts s via (0x3508 + j) 3 ⟨1, 1⟩ → 
      ∃ t, exec (.rampStart via j) s = .next t ∧ (t.apllAt j) = { (s.apllAt j) with startReq := true } ∧ t.dr = s.dr) ∧
    (Accepts s via (0x3508 + j) 3 ⟨1, 2⟩ → s.rampCfg j 1 = 0 → (s.apllAt j).ramp = .running → 
      ∃ t, exec (.rampStop via j) s = .next t ∧ (t.apllAt j).ramp = .ended ∧ (t.apllAt j).nRamp = (s.apllAt j).nRamp ∧
        t.drd (key (0x3508 + j) 4) = 3 ∧ bit (t.drd (key (0x3500 + j) 2)) 8 = true) ∧
    (Accepts s via (0x3508 + j) 3 ⟨1, 2⟩ → s.rampCfg j 1 ≠ 0 → (s.apllAt j).ramp = .running → 
      ∃ t, exec (.rampStop via j) s = .next t ∧ (t.apllAt j).ramp = .stopping ∧ (t.apllAt j).nRamp = (s.apllAt j).nRamp ∧
        (t.apllAt j).seg = (s.apllAt j).seg ∧ t.drd (key (0x3508 + j) 4) = 2) ∧
    (Accepts s via (0x3508 + j) 3 ⟨1, 3⟩ → 
      ∃ t, exec (.rampClear via j) s = .next t ∧ (t.apllAt j) = { (s.apllAt j) with clearReq := true } ∧ t.dr = s.dr) ∧
    (((s.apllAt j).ramp = .running ∨ (s.apllAt j).ramp = .stopping) → (s.apllAt j).state = .locked →
        s.rampCfg j (0x19 + (s.apllAt j).seg) ≤ (s.apllAt j).segTime → (s.apllAt j).reversed = false → (s.apllAt j).seg + 1 < s.rampCfg j 2 → 
      ∃ t, exec (.rampSegmentEnd j) s = .next t ∧ (t.apllAt j).seg = (s.apllAt j).seg + 1 ∧ (t.apllAt j).segTime = 0 ∧
        (t.apllAt j).ramp = (s.apllAt j).ramp ∧ t.drd (key (0x3508 + j) 5) = (s.apllAt j).seg + 1) ∧
    (((s.apllAt j).ramp = .running ∨ (s.apllAt j).ramp = .stopping) → (s.apllAt j).state = .locked →
        s.rampCfg j (0x19 + (s.apllAt j).seg) ≤ (s.apllAt j).segTime → (s.apllAt j).reversed = false → s.rampCfg j 2 ≤ (s.apllAt j).seg + 1 →
        s.rampCfg j 1 = 2 → 
      ∃ t, exec (.rampSegmentEnd j) s = .next t ∧ (t.apllAt j).reversed = true ∧ (t.apllAt j).seg = (s.apllAt j).seg ∧ (t.apllAt j).segTime = 0 ∧
        (t.apllAt j).cycles = (s.apllAt j).cycles) ∧
    (((s.apllAt j).ramp = .running ∨ (s.apllAt j).ramp = .stopping) → (s.apllAt j).state = .locked →
        s.rampCfg j (0x19 + (s.apllAt j).seg) ≤ (s.apllAt j).segTime → (s.apllAt j).reversed = false → s.rampCfg j 2 ≤ (s.apllAt j).seg + 1 →
        s.rampCfg j 1 = 0 → 
      ∃ t, exec (.rampSegmentEnd j) s = .next t ∧ (t.apllAt j).ramp = .ended ∧ (t.apllAt j).cycles = (s.apllAt j).cycles + 1 ∧
        (t.apllAt j).nRamp = (s.apllAt j).nRamp ∧ t.drd (key (0x3508 + j) 4) = 3 ∧ bit (t.drd (key (0x3500 + j) 2)) 8 = true) ∧
    (((s.apllAt j).ramp = .running ∨ (s.apllAt j).ramp = .stopping) → (s.apllAt j).state = .locked →
        s.rampCfg j (0x19 + (s.apllAt j).seg) ≤ (s.apllAt j).segTime → (s.apllAt j).reversed = false → s.rampCfg j 2 ≤ (s.apllAt j).seg + 1 →
        s.rampCfg j 1 = 1 → (s.apllAt j).ramp = .running → 
      ∃ t, exec (.rampSegmentEnd j) s = .next t ∧ (t.apllAt j).ramp = .running ∧ (t.apllAt j).seg = 0 ∧
        (t.apllAt j).cycles = (s.apllAt j).cycles + 1 ∧ (t.apllAt j).segTime = 0)

/-- R227, R228, R230, R233, R234: a write of OUT_SOURCE or OUT_DIVIDER with a divider above 1 loses the alignment, and with a divider of 1 leaves it; OUT_ENABLE starts and stops the output and leaves its alignment; ALIGN_OUTPUT and ALIGN_GROUPS reload the dividers of the eligible outputs they name, which divide, and touch no other output; and UNALIGNED clears at the first aligned edge. -/
def Obligations.OutputPathsAlign : Prop :=
  ∀ (s : State) (via : Iface) (n : Nat), Live s → ShapeWf s → n < 96 →
    (∀ (d : Datum), Accepts s via (0x3000 + n) 0x0A d → bootPast s 5 = true → 
      ∃ t, exec (.outSourceWrite via n d) s = .next t ∧ t.rd (key (0x3000 + n) 0x0A) = d.val ∧
        (t.outAt n).unaligned = (s.chCfg n 0x0E == 1 && decide (1 < s.chCfg n 0x0B) || (s.outAt n).unaligned) ∧
        (t.outAt n).running = (s.outAt n).running) ∧
    (∀ (d : Datum), Accepts s via (0x3000 + n) 0x0B d → bootPast s 5 = true → 
      ∃ t, exec (.outDividerWrite via n d) s = .next t ∧ t.rd (key (0x3000 + n) 0x0B) = d.val ∧
        (t.outAt n).unaligned = (decide (1 < d.val) || (s.outAt n).unaligned)) ∧
    (∀ (d : Datum), Accepts s via (0x3000 + n) 0x0E d → bootPast s 5 = true → 
      ∃ t, exec (.outEnableWrite via n d) s = .next t ∧ t.rd (key (0x3000 + n) 0x0E) = d.val ∧ (t.outAt n).running = (d.val == 1) ∧
        (t.outAt n).unaligned = (s.outAt n).unaligned ∧ (t.outAt n).forced = (s.outAt n).forced) ∧
    (Accepts s via 0x2630 5 ⟨1, n⟩ → 1 < s.chCfg n 0x0B → alignEligible s n = true → 
      ∃ t, exec (.alignOutput via ⟨1, n⟩) s = .next t ∧
        t.outAt n = { s.outAt n with aligning := true, waiting := false, reached := false, lead := alignLead s n } ∧ (∀ m, m ≠ n →
        t.outAt m = s.outAt m) ∧ t.dr = s.dr) ∧
    (∀ (d : Datum), Accepts s via 0x2630 6 d → 
      ∃ t, exec (.alignGroups via d) s = .next t ∧ t.outAt n = (if bit d.val (s.chCfg n 0x11) = true ∧ 1 < s.chCfg n 0x0B ∧
        alignEligible s n = true then { s.outAt n with aligning := true, waiting := false, reached := false, lead := alignLead s n } else s.outAt n) ∧ t.dr = s.dr) ∧
    ((s.outAt n).reached = true → outOnBypass s n = false → 
      ∃ t, exec (.alignedEdge n) s = .next t ∧ (t.outAt n).unaligned = false ∧ (t.outAt n).reached = false ∧ t.od = s.od ∧ t.dr = s.dr)

/-- R246, R248, R249, R252, R255, R256: SET_TIME and TAMP wait for the next tick and move nothing before it; POUR_AMOUNT adds to POUR_REQUESTED and POUR_OUTSTANDING; POUR_ABORT adds the remainder to POUR_WITHDRAWN and leaves none; POUR_DONE is set when nothing is outstanding; INCREMENT takes the written rate; SWI leaves the servo and clears OFFSET, keeping the rate of the last update where the counter was TIED, without a step; HWS starts in NO_MASTER with OFFSET 0 and the integrator at the current INCREMENT; and TIED withdraws the pour, sets TIE_SECONDS to the rounded difference and steps the counter by what is left, into TAMP_TOTAL. No other counter moves. -/
def Obligations.CounterRequestsAndDisciplines : Prop :=
  ∀ (s : State) (via : Iface) (i : Nat), Live s → ShapeWf s → i < 4 →
    (∀ (d : Datum), Accepts s via (0x3600 + i) 6 d → 
      ∃ t, exec (.setTime via i d) s = .next t ∧ (t.tcAt i) = { (s.tcAt i) with reqs := (s.tcAt i).reqs ++ [.set (ofTime80 d.val)] } ∧ (∀ u, u ≠ i →
        t.tcAt u = s.tcAt u) ∧ t.od = s.od ∧ t.dr = s.dr) ∧
    (∀ (d : Datum), Accepts s via (0x3600 + i) 0x0F d → 
      ∃ t, exec (.tcTamp via i d) s = .next t ∧ (t.tcAt i) = { (s.tcAt i) with reqs := (s.tcAt i).reqs ++ [.tamp (toI 64 d.val)] } ∧ (∀ u, u ≠ i →
        t.tcAt u = s.tcAt u) ∧ t.od = s.od ∧ t.dr = s.dr) ∧
    (∀ (d : Datum), Accepts s via (0x3600 + i) 0x10 d → 
      ∃ t, exec (.pourAmountWrite via i d) s = .next t ∧ (t.tcAt i).requested = (s.tcAt i).requested + toI 64 d.val ∧
        (t.tcAt i).po = (s.tcAt i).po + toI 64 d.val ∧ (t.tcAt i).withdrawn = (s.tcAt i).withdrawn ∧ (t.tcAt i).val = (s.tcAt i).val ∧
        (t.tcAt i).offset = (s.tcAt i).offset ∧ (∀ u, u ≠ i → t.tcAt u = s.tcAt u) ∧ t.od = s.od) ∧
    (Accepts s via (0x3600 + i) 0x12 ⟨1, 1⟩ → 
      ∃ t, exec (.pourAbort via i) s = .next t ∧
        (t.tcAt i) = { (s.tcAt i) with withdrawn := (s.tcAt i).withdrawn + (s.tcAt i).po, po := 0, pourAcc := 0, pouring := false } ∧ (∀ u, u ≠ i →
        t.tcAt u = s.tcAt u) ∧ t.od = s.od) ∧
    (Runs s → (s.tcAt i).pouring = true → (s.tcAt i).po = 0 → 
      ∃ t, exec (.tcPourDone i) s = .next t ∧ (t.tcAt i) = { (s.tcAt i) with pouring := false } ∧ bit (t.rd (key (0x3600 + i) 2)) 4 = true ∧
        (∀ u, u ≠ i → t.tcAt u = s.tcAt u)) ∧
    (∀ (d : Datum), Accepts s via (0x3600 + i) 9 d → 
      ∃ t, exec (.incrementWrite via i d) s = .next t ∧ t.rd (key (0x3600 + i) 9) = d.val ∧ t.tcs = s.tcs ∧ t.dr = s.dr) ∧
    (Accepts s via (0x3600 + i) 7 ⟨1, 0⟩ → s.boot.booting = false → 
      ∃ t, exec (.disciplineSwi via i) s = .next t ∧ t.rd (key (0x3600 + i) 7) = 0 ∧
        t.rd (key (0x3600 + i) 9) = (if tcTied s i then tieRate (s.tcAt i) else s.rd (key (0x3600 + i) 9)) ∧ (t.tcAt i).hws = .notHws ∧
        (t.tcAt i).offset = 0 ∧ (t.tcAt i).val = (s.tcAt i).val ∧ (t.tcAt i).stepGen = (s.tcAt i).stepGen ∧
        (t.tcAt i).tampTotal = (s.tcAt i).tampTotal ∧ (∀ u, u ≠ i → t.tcAt u = s.tcAt u)) ∧
    (Accepts s via (0x3600 + i) 7 ⟨1, 1⟩ → s.boot.booting = false → tcHws s i = false → 
      ∃ t, exec (.disciplineHws via i) s = .next t ∧ t.rd (key (0x3600 + i) 7) = 1 ∧
        t.rd (key (0x3600 + i) 9) = (if tcTied s i then tieRate (s.tcAt i) else s.rd (key (0x3600 + i) 9)) ∧ (t.tcAt i).hws = .noMaster ∧
        (t.tcAt i).offset = 0 ∧ (t.tcAt i).settle = 0 ∧ (t.tcAt i).integ = integOf (t.rd (key (0x3600 + i) 9)) ∧ (t.tcAt i).val = (s.tcAt i).val ∧
        (∀ u, u ≠ i → t.tcAt u = s.tcAt u)) ∧
    (Accepts s via (0x3600 + i) 7 ⟨1, 2⟩ → s.boot.booting = false → tcTied s i = false → 
      let diff : Int := ((s.tcAt i).val : Int) - (timelineNow s (s.dpllAt (s.tcReg i 8))).1
      let secs := (qd diff (1000000000 * 2 ^ 48)).round
      let x := secs * (1000000000 * 2 ^ 48) - diff
      ∃ t, exec (.disciplineTied via i) s = .next t ∧ t.rd (key (0x3600 + i) 7) = 2 ∧ (t.tcAt i).hws = .notHws ∧ (t.tcAt i).offset = 0 ∧
        (t.tcAt i).po = 0 ∧ (t.tcAt i).withdrawn = (s.tcAt i).withdrawn + (s.tcAt i).po ∧ (t.tcAt i).tieSeconds = secs ∧
        (t.tcAt i).tampTotal = (s.tcAt i).tampTotal + roundDiv x (2 ^ 32) ∧ (t.tcAt i).applied = (s.tcAt i).applied + roundDiv x (2 ^ 32) ∧
        (t.tcAt i).stepGen = (if x = 0 then (s.tcAt i).stepGen else cut 16 ((s.tcAt i).stepGen + 1)) ∧ (x ≠ 0 →
        (t.tcAt i).val = ((((s.tcAt i).val : Int) + x) % (tcModulus : Nat)).toNat) ∧ (∀ u, u ≠ i → t.tcAt u = s.tcAt u))

/-- R242, R243, R246, R254, R255, R256 (the tick as the step on an empty queue is log entry 1): at every tick a counter that is not TIED adds its increment to nanoseconds and fraction, carrying into the seconds; a waiting SET_TIME then sets it, clears TIME_UNSET and adds the step to TAMP_TOTAL; a waiting tamp steps it by its amount, which in HWS stands in OFFSET too; and a pour moves it by what the tick delivers, which in HWS stands in OFFSET too. -/
def Obligations.IdleTickMovesTheCounters : Prop :=
  ∀ (s : State) (i : Nat), s.pending = [] → Live s → ShapeWf s → i < 4 → tcTied s i = false →
    let c := s.tcAt i
    let v := (c.val + s.tcReg i 9) % tcModulus
    ∃ t, step s = .next t ∧ t.now = s.now + 4 ∧
      (c.po = 0 → c.blendLeft = 0 → c.reqs = [] → t.tcAt i = { c with val := v }) ∧
      (∀ x : Nat, c.po = 0 → c.blendLeft = 0 → c.reqs = [.set x] → x < 2 ^ 48 * 1000000000 * 65536 →
        tcNow t i = x ∧ (t.tcAt i).unset = false ∧ (t.tcAt i).reqs = [] ∧
          (t.tcAt i).tampTotal = c.tampTotal + roundDiv ((x * 2 ^ 32 : Nat) - (v : Int)) (2 ^ 32) ∧ (t.tcAt i).offset = c.offset) ∧
      (∀ x : Int, c.po = 0 → c.blendLeft = 0 → c.reqs = [.tamp x] → x ≠ 0 →
        (t.tcAt i).val = (((v : Int) + x * 2 ^ 32) % (tcModulus : Nat)).toNat ∧ (t.tcAt i).unset = c.unset ∧ (t.tcAt i).reqs = [] ∧
          (t.tcAt i).tampTotal = c.tampTotal + x ∧ (t.tcAt i).stepGen = cut 16 (c.stepGen + 1) ∧ (t.tcAt i).steps = cut 32 (c.steps + 1) ∧
          (t.tcAt i).offset = (if tcHws s i then c.offset + x else c.offset)) ∧
      (c.po ≠ 0 → c.blendLeft = 0 → c.reqs = [] →
        let dp := towardZero c.po (tickSlope (s.tcReg i 0x11) c.pourAcc).1
        (t.tcAt i).val = (((v : Int) + dp * 2 ^ 32) % (tcModulus : Nat)).toNat ∧ (t.tcAt i).po = c.po - dp ∧
          (t.tcAt i).requested = c.requested ∧ (t.tcAt i).withdrawn = c.withdrawn ∧ (t.tcAt i).tampTotal = c.tampTotal ∧
          (t.tcAt i).offset = (if tcHws s i then c.offset + dp else c.offset))

/-- R249, R251, R252, R254, R259: an increment that arrives in time waits for its microsecond; one that was late is taken up within 16 us and clears TIE_LATE with TC_TIE_LATE; offsets that are not valid restart the count; valid ones are counted until SETTLE_COUNT from one master, with INCREMENT left as it is; while TRACKING an offset beyond STEP_THRESHOLD, or one at an unset counter, steps the counter by e into TAMP_TOTAL and leaves the servo, and any other gives the INCREMENT of the servo formula with no step; a change of master while TRACKING goes to LAST_RATE; and at a pulse instant the generator sends the instant and its index. -/
def Obligations.CountersTieTrackAndPulse : Prop :=
  ∀ (s : State) (i : Nat), Runs s → ShapeWf s → i < 4 →
    (∀ (x : Int × Int) (r : List (Int × Int)), tcTied s i = true → (s.tcAt i).tieSent = x :: r →
        Crosses s 6 false (transferWords (key (0x3600 + i) 9) ⟨8, ofI 64 x.1⟩) → (s.tcAt i).tieOwed = [] → 
      ∃ t, exec (.tieIncrementArrives i) s = .next t ∧ (t.tcAt i) = { (s.tcAt i) with tieSent := r, tieNext := (s.tcAt i).tieNext ++ [x] } ∧
        (∀ u, u ≠ i → t.tcAt u = s.tcAt u) ∧ t.dp = s.dp) ∧
    (∀ (x : Int × Int) (r : List (Int × Int)) (p : Int), tcTied s i = true → (s.tcAt i).tieSent = x :: r →
        Crosses s 6 false (transferWords (key (0x3600 + i) 9) ⟨8, ofI 64 x.1⟩) → (s.tcAt i).tieOwed = [p] → 
      ∃ t, exec (.tieIncrementArrives i) s = .next t ∧ (t.tcAt i).tieOwed = [] ∧ (t.tcAt i).tieSent = r ∧
        (t.tcAt i).catch48 = (s.tcAt i).catch48 + (x.1 - p) ∧
        (t.tcAt i).catchLeft = (if (s.tcAt i).catchLeft = 0 then 4000 else (s.tcAt i).catchLeft) ∧ bit (t.rd (key (0x3600 + i) 2)) 6 = true ∧
        t.faultIn = s.faultIn ++ [⟨faultWord 0 3 0x15 (0x100 + i), s.now⟩] ∧ (∀ u, u ≠ i → t.tcAt u = s.tcAt u)) ∧
    (∀ (o : TcOffset) (r : List TcOffset), tcHws s i = true → (s.tcAt i).offsets = o :: r → o.valid = false → 
      ∃ t, exec (.hwsOffset i) s = .next t ∧ (t.tcAt i) = { (s.tcAt i) with offsets := r, settle := 0 } ∧ (∀ u, u ≠ i → t.tcAt u = s.tcAt u) ∧
        t.od = s.od) ∧
    (∀ (o : TcOffset) (r : List TcOffset), tcHws s i = true → (s.tcAt i).offsets = o :: r → o.valid = true →
        ((s.tcAt i).hws = .noMaster ∨ (s.tcAt i).hws = .lastRate) → (s.tcAt i).master = o.master → (s.tcAt i).settle + 1 < s.tcReg i 0x0E → 
      ∃ t, exec (.hwsOffset i) s = .next t ∧ (t.tcAt i).settle = (s.tcAt i).settle + 1 ∧ (t.tcAt i).lastError = o.offset + (s.tcAt i).offset ∧
        (t.tcAt i).hws = (s.tcAt i).hws ∧ (t.tcAt i).val = (s.tcAt i).val ∧ (t.tcAt i).offset = (s.tcAt i).offset ∧ (∀ u, u ≠ i →
        t.tcAt u = s.tcAt u) ∧ t.od = s.od) ∧
    (∀ (o : TcOffset) (r : List TcOffset), tcHws s i = true → (s.tcAt i).offsets = o :: r → o.valid = true →
        ((s.tcAt i).hws = .noMaster ∨ (s.tcAt i).hws = .lastRate) → (s.tcAt i).master = o.master → s.tcReg i 0x0E ≤ (s.tcAt i).settle + 1 → 
      ∃ t, exec (.hwsOffset i) s = .next t ∧ (t.tcAt i).hws = .tracking ∧ bit (t.rd (key (0x3600 + i) 2)) 2 = true ∧
        (t.tcAt i).offset = (s.tcAt i).offset ∧ (t.tcAt i).unset = false ∧ (∀ u, u ≠ i → t.tcAt u = s.tcAt u)) ∧
    (∀ (o : TcOffset) (r : List TcOffset), tcHws s i = true → (s.tcAt i).offsets = o :: r → o.valid = true → (s.tcAt i).hws = .tracking →
        (s.tcAt i).master = o.master → ((s.tcAt i).unset = true ∨ s.tcReg i 0x0D * 65536 < absI (o.offset + (s.tcAt i).offset)) → 
      let e := o.offset + (s.tcAt i).offset
      ∃ t, exec (.hwsOffset i) s = .next t ∧ (t.tcAt i).tampTotal = (s.tcAt i).tampTotal + e ∧
        (t.tcAt i).stepGen = (if e = 0 then (s.tcAt i).stepGen else cut 16 ((s.tcAt i).stepGen + 1)) ∧ (t.tcAt i).unset = false ∧
        (t.tcAt i).offset = (s.tcAt i).offset ∧ (t.tcAt i).integ = (s.tcAt i).integ ∧ t.rd (key (0x3600 + i) 9) = s.rd (key (0x3600 + i) 9) ∧
        (∀ u, u ≠ i → t.tcAt u = s.tcAt u)) ∧
    (∀ (o : TcOffset) (r : List TcOffset) (p : Int), tcHws s i = true → (s.tcAt i).offsets = o :: r → o.valid = true → (s.tcAt i).hws = .tracking →
        (s.tcAt i).master = o.master → (s.tcAt i).unset = false → absI (o.offset + (s.tcAt i).offset) ≤ s.tcReg i 0x0D * 65536 →
        (s.tcAt i).lastMeas = some p → p < o.meas → 
      let e := o.offset + (s.tcAt i).offset
      ∃ t, exec (.hwsOffset i) s = .next t ∧
        t.rd (key (0x3600 + i) 9) = (servo (s.tcReg i 0x0B) (s.tcReg i 0x0C) (qd (o.meas - p) 65536000000000) (s.tcAt i).integ e).2.1 ∧
        (t.tcAt i).val = (s.tcAt i).val ∧ (t.tcAt i).stepGen = (s.tcAt i).stepGen ∧ (t.tcAt i).tampTotal = (s.tcAt i).tampTotal ∧
        (t.tcAt i).offset = (s.tcAt i).offset ∧ (t.tcAt i).lastMeas = some o.meas ∧ (t.tcAt i).lastError = e ∧ (∀ u, u ≠ i → t.tcAt u = s.tcAt u)) ∧
    (∀ (o : TcOffset) (r : List TcOffset), tcHws s i = true → (s.tcAt i).offsets = o :: r → o.valid = true → (s.tcAt i).hws = .tracking →
        (s.tcAt i).master ≠ o.master → 1 < s.tcReg i 0x0E → 
      ∃ t, exec (.hwsOffset i) s = .next t ∧ (t.tcAt i).hws = .lastRate ∧ (t.tcAt i).settle = 1 ∧
        (t.tcAt i).lastRates = cut 32 ((s.tcAt i).lastRates + 1) ∧ (t.tcAt i).master = o.master ∧ bit (t.rd (key (0x3600 + i) 2)) 1 = true ∧
        bit (t.rd (key (0x3600 + i) 2)) 3 = true ∧ t.rd (key (0x3600 + i) 9) = s.rd (key (0x3600 + i) 9) ∧ (t.tcAt i).val = (s.tcAt i).val ∧
        ⟨faultWord 0 3 0x14 (0x100 + i), s.now⟩ ∈ t.faultIn ∧ (∀ u, u ≠ i → t.tcAt u = s.tcAt u)) ∧
    (∀ (period phase a : Nat), period = s.tcReg i 0x13 → phase = s.tcReg i 0x14 → period ≠ 0 → phase ≤ tcNow s i / 65536 → (s.tcAt i).pulseAt < a →
        a = pulseFloor period phase (tcNow s i / 65536) → 
      ∃ t, exec (.pulseInstant i) s = .next t ∧ t.out = .pulse i (a * 65536) (cut 32 ((a - phase) / period)) :: s.out ∧
        (t.tcAt i) = { (s.tcAt i) with pulsePeriod := period, pulsePhase := phase, pulseAt := a, pulseWidth := s.tcReg i 0x15 } ∧ (∀ n, n < 96 →
        s.chCfg n 0x0A ≠ 0x10 + i → t.outAt n = s.outAt n) ∧ (∀ u, u ≠ i → t.tcAt u = s.tcAt u) ∧ t.od = s.od)

/-- R279, R281, R282, R283, R284, R285, R286, R288, R289, R292: an ENTRY write stores the record and arms nothing; ARM arms every named entry with a cleared result and leaves the others; DISARM returns named ARMED entries to IDLE and ignores others; an occurrence that is not due is left; one due under DROP that is late is discarded, counted and told; a CAPTURE reads its counter, a TC_TAMP waits for the next tick, a DPLL action goes to S with the entry done; EDGE and ALIGN go out on the pulse line 1 us ahead; an EDGE that fires sets the overlay, or is refused with 0800 0021h where OUT_ENABLE is 1, and counts as a run either way; and DPLL_TAMP waits at its DPLL for the next update. -/
def Obligations.ScheduledActionsRun : Prop :=
  ∀ (s : State) (via : Iface) (e : Nat), Live s → ShapeWf s → e < 64 →
    (∀ (d : Datum), Accepts s via (0x3620 + e / 16) (5 + e % 16) d → 
      ∃ t, exec (.entryWrite via e d) s = .next t ∧ schedRec t e = d.val ∧ t.sched = s.sched ∧ t.tcs = s.tcs ∧ t.out = s.out) ∧
    (∀ (b : Nat) (d : Datum), b < 4 → Accepts s via (0x3620 + b) 0x25 d → 
      ∃ t, exec (.arm via b d) s = .next t ∧ (∀ i, i < 16 →
        t.schedAt (16 * b + i) = if bit d.val i then { state := 1, since := (tcNow s (recCounter (schedRec s (16 * b + i))) : Nat) } else s.schedAt (16 * b + i)) ∧ t.tcs = s.tcs ∧ t.od = s.od ∧ t.out = s.out) ∧
    (∀ (b : Nat) (d : Datum), b < 4 → Accepts s via (0x3620 + b) 0x26 d → 
      ∃ t, exec (.disarm via b d) s = .next t ∧ (∀ i, i < 16 → t.schedAt (16 * b + i) = if bit d.val i ∧
        (s.schedAt (16 * b + i)).state = 1 then { s.schedAt (16 * b + i) with state := 0, sent := false, due := false } else s.schedAt (16 * b + i)) ∧ t.tcs = s.tcs ∧ t.od = s.od ∧ t.sched.flights = s.sched.flights) ∧
    (Runs s → (∀ i, i < e → dueNow s i = false ∧ alignFlight s i = none) → alignFlight s e = none → (s.schedAt e).due = false →
        tcNow s (recCounter (schedRec s e)) < schedInstant s e → 
      ∃ t, exec (.actionDue e) s = .next t ∧ t = s) ∧
    (Runs s → (∀ i, i < e → dueNow s i = false ∧ alignFlight s i = none) → alignFlight s e = none → dueNow s e = true → schedLate s e = true →
        recDrop (schedRec s e) = true → recPeriod (schedRec s e) = 0 → 
      ∃ t, exec (.actionDue e) s = .next t ∧ (t.schedAt e).state = 2 ∧ (t.schedAt e).drops = cut 32 ((s.schedAt e).drops + 1) ∧
        (t.schedAt e).runs = (s.schedAt e).runs ∧ bit (t.schedAt e).flags 1 = true ∧ bit (t.rd (key (0x3620 + e / 16) 2)) (16 + e % 16) = true ∧
        t.faultIn = s.faultIn ++ [⟨faultWord 0 6 0x1B (0x400 + e), s.now⟩] ∧ t.tcs = s.tcs ∧ (∀ f, f ≠ e → t.schedAt f = s.schedAt f)) ∧
    (Runs s → (∀ i, i < e → dueNow s i = false ∧ alignFlight s i = none) → alignFlight s e = none → dueNow s e = true → schedLate s e = false →
        recTarget (schedRec s e) = 5 → recPeriod (schedRec s e) = 0 → 
      ∃ t, exec (.actionDue e) s = .next t ∧ (t.schedAt e).state = 2 ∧ (t.schedAt e).runs = cut 32 ((s.schedAt e).runs + 1) ∧
        (t.schedAt e).captured = time12 (if (s.schedAt e).due then (s.schedAt e).seen else tcNow s (recArg (schedRec s e))) ∧
        bit (t.schedAt e).flags 0 = bit (s.schedAt e).flags 0 ∧ (t.schedAt e).code = (s.schedAt e).code ∧
        bit (t.rd (key (0x3620 + e / 16) 2)) (0 + e % 16) = true ∧ t.faultIn = s.faultIn ∧ t.tcs = s.tcs ∧ (∀ f, f ≠ e → t.schedAt f = s.schedAt f)) ∧
    (∀ (a : Nat), Runs s → (∀ i, i < e → dueNow s i = false ∧ alignFlight s i = none) → alignFlight s e = none → dueNow s e = true →
        schedLate s e = false → recTarget (schedRec s e) = 6 → a = recArg (schedRec s e) → a < 4 → tcTied s a = false → 
      ∃ t, exec (.actionDue e) s = .next t ∧ (t.schedAt e).runs = cut 32 ((s.schedAt e).runs + 1) ∧
        t.tcAt a = { s.tcAt a with reqs := (s.tcAt a).reqs ++ [.tamp (toI 64 (recValue (schedRec s e)))] } ∧
        bit (t.rd (key (0x3620 + e / 16) 2)) (0 + e % 16) = true ∧ (∀ f, f ≠ e → t.schedAt f = s.schedAt f)) ∧
    (∀ (a : Nat), Runs s → (∀ i, i < e → dueNow s i = false ∧ alignFlight s i = none) → alignFlight s e = none → dueNow s e = true →
        schedLate s e = false → recTarget (schedRec s e) = 6 → a = recArg (schedRec s e) → tcTied s a = true →
        wholeSecond (toI 64 (recValue (schedRec s e))) = false → 
      ∃ t, exec (.actionDue e) s = .next t ∧ (t.schedAt e).runs = cut 32 ((s.schedAt e).runs + 1) ∧ (t.schedAt e).code = 0x06090030 ∧
        bit (t.schedAt e).flags 2 = true ∧ t.tcs = s.tcs ∧ bit (t.rd (key (0x3620 + e / 16) 2)) (16 + e % 16) = true ∧
        ⟨faultWord 0 6 0x1C (0x400 + e), s.now⟩ ∈ t.faultIn ∧ (∀ f, f ≠ e → t.schedAt f = s.schedAt f)) ∧
    (Runs s → (∀ i, i < e → dueNow s i = false ∧ alignFlight s i = none) → alignFlight s e = none → dueNow s e = true → schedLate s e = false →
        7 ≤ recTarget (schedRec s e) → 
      ∃ t, exec (.actionDue e) s = .next t ∧
        t.sched.toS = s.sched.toS ++ [{ entry := e, rec_ := schedRec s e, instant := schedInstant s e, late := false }] ∧
        (t.schedAt e).runs = cut 32 ((s.schedAt e).runs + 1) ∧ bit (t.rd (key (0x3620 + e / 16) 2)) (0 + e % 16) = true ∧ t.dp = s.dp ∧ (∀ f, f ≠ e →
        t.schedAt f = s.schedAt f)) ∧
    (Runs s → (s.schedAt e).state = 1 → (s.schedAt e).sent = false → 1 ≤ recTarget (schedRec s e) → recTarget (schedRec s e) ≤ 3 →
        schedInstant s e ≤ tcNow s (recCounter (schedRec s e)) + 65536000 → recDrop (schedRec s e) = false → 
      ∃ t, exec (.actionDispatch e) s = .next t ∧ t.out = .dispatch e (schedInstant s e) :: s.out ∧
        (t.schedAt e) = { (s.schedAt e) with sent := true, due := false } ∧
        t.sched.flights = s.sched.flights ++ [{ entry := e, rec_ := schedRec s e, instant := schedInstant s e, late := schedLate s e, passed := (s.schedAt e).passed || decide ((schedInstant s e : Int) < (s.schedAt e).since) }] ∧ t.ap = s.ap ∧ t.od = s.od ∧ (∀ f, f ≠ e → t.schedAt f = s.schedAt f)) ∧
    (∀ (f : Flight) (r : List Flight) (n v : Nat), 
      let at_ := s.now * 65536 - (if f.passed = true then 0 else tcNow s (recCounter f.rec_) - f.instant) + fineUnits (s.chCfg n 0x0D)
      Runs s → takeFlight e s.sched.flights = some (f, r) → recTarget f.rec_ = 1 → f.instant ≤ tcNow s (recCounter f.rec_) → f.entry = e →
        n = recArg f.rec_ → n < 96 → v = recValue f.rec_ → (s.chCfg n 1 = 2 ∨ s.chCfg n 1 = 3) → s.chCfg n 0x0E = 0 → (s.outAt n).forced = false →
        ((s.outAt n).pulseFrom = at_ → (s.outAt n).edgeBy ≤ e) → 
      ∃ t, exec (.edgeActionFires e) s = .next t ∧ (t.outAt n).overlay = (if v % 4 = 0 then 2 else if v % 4 = 1 then 1 else 0) ∧
        (t.outAt n).pulseFrom = at_ ∧ (t.outAt n).pulseEnd = at_ + v / 2 ^ 32 * 65536 ∧ (t.schedAt e).runs = cut 32 ((s.schedAt e).runs + 1) ∧
        bit (t.rd (key (0x3620 + e / 16) 2)) (0 + e % 16) = true ∧ t.sched.flights = r ∧ (∀ u, u ≠ n → t.outAt u = s.outAt u)) ∧
    (∀ (f : Flight) (r : List Flight) (n : Nat), Runs s → takeFlight e s.sched.flights = some (f, r) → recTarget f.rec_ = 1 →
        f.instant ≤ tcNow s (recCounter f.rec_) → f.entry = e → n = recArg f.rec_ → n < 96 → s.chCfg n 0x0E = 1 → 
      ∃ t, exec (.edgeActionFires e) s = .next t ∧ t.ap = s.ap ∧ (t.schedAt e).runs = cut 32 ((s.schedAt e).runs + 1) ∧
        (t.schedAt e).code = 0x08000021 ∧ bit (t.schedAt e).flags 2 = true ∧ bit (t.rd (key (0x3620 + e / 16) 2)) (16 + e % 16) = true) ∧
    (∀ (f : Flight) (r : List Flight) (k : Nat), Runs s → takeFlight e s.sched.toS = some (f, r) →
        Crosses s 6 true (transferWords (key (0x3400 + k) 0x17) ⟨8, recValue f.rec_⟩) → recTarget f.rec_ = 8 → k = recArg f.rec_ → k < 16 → 
      ∃ t, exec (.schedDpllActionArrives e) s = .next t ∧ t.sched.toS = r ∧ t.sched.atS = s.sched.atS ++ [f] ∧
        (t.dpllAt k).tampReq = (s.dpllAt k).tampReq ++ [toI 64 (recValue f.rec_)] ∧ t.sched.entries = s.sched.entries) ∧
    (∀ (f : Flight) (r : List Flight) (k c : Nat), Runs s → takeFlight e s.sched.toS = some (f, r) →
        Crosses s 6 true (transferWords (key (0x3400 + k) 0x18) ⟨8, recValue f.rec_⟩) → recTarget f.rec_ = 7 → k = recArg f.rec_ → k < 16 →
        c = recValue f.rec_ → 1 ≤ c → c ≤ 6 → dpCommandRefuse s k c (s.dpCfg k 1) = 0 → 
      ∃ t, exec (.schedDpllActionArrives e) s = .next t ∧ t.sched.toS = r ∧ (t.dpllAt k).cmds = (s.dpllAt k).cmds ++ [c] ∧
        t.sched.entries = s.sched.entries)

/-- R251, R252, R268, R271, R272, R274, R278: CONFIG takes the 64 bytes and leaves a context as never enabled; ENABLE 1 starts a port in INITIALIZING with an engine, ENABLE 0 makes the context UNUSED at once; a write of OFFSET_IN that is not BAD forms one valid offset in the record, counts it, and sends it to the HWS counters that use the context, and a BAD one disqualifies; no valid offset for OFFSET_TIMEOUT disqualifies, counts and tells; valid offsets for QUALIFY_TIME qualify; the state read is the one that the conditions give; CLEAR_COUNTERS sets the 16 counters to 0; and RESTART puts the port state to INITIALIZING. -/
def Obligations.ContextsDeliverOffsets : Prop :=
  ∀ (s : State) (via : Iface) (c : Nat), Live s → ShapeWf s → c < 256 →
    (∀ (d : Datum), Accepts s via (0x3700 + c) 5 d → 
      ∃ t, exec (.contextConfigWrite via c d) s = .next t ∧ t.rd (key (0x3700 + c) 7) % 2 ^ 512 = unreserved (0x3700 + c) 5 d.val % 2 ^ 512 ∧
        cxPortState t c = (if cxPtp t c = true then 3 else 0) ∧ cxRef t c = 0 ∧
        t.ctxRec c 66 2 = (if cxPtp t c = true then portNumber (cxPort t c) else 0) ∧ (t.ctxAt c) = {} ∧
        t.rd (key (0x3700 + c) 6) = s.rd (key (0x3700 + c) 6) ∧ (∀ x, x ≠ c → t.ctxAt x = s.ctxAt x) ∧ t.tcs = s.tcs ∧ t.out = s.out) ∧
    (Accepts s via (0x3700 + c) 6 ⟨1, 1⟩ → s.boot.booting = false → cxEnabled s c = false → 
      ∃ t, exec (.contextEnableWrite via c ⟨1, 1⟩) s = .next t ∧ cxEnabled t c = true ∧
        cxPortState t c = (if cxPtp s c then (if s.tcReg (cxCounter s c) 0x22 = 1 then 1 else 3) else 0) ∧ (t.ctxAt c).engine ≠ none ∧
        (t.ctxAt c).delays = [] ∧ t.ctxRec c 146 2 = 0) ∧
    (Accepts s via (0x3700 + c) 6 ⟨1, 0⟩ → s.boot.booting = false → cxEnabled s c = true → 
      ∃ t, exec (.contextEnableWrite via c ⟨1, 0⟩) s = .next t ∧ cxEnabled t c = false ∧ cxRef t c = 0 ∧ (t.ctxAt c).engine = none) ∧
    (∀ (d : Datum), Accepts s via (0x3700 + c) 8 d → cxKind s c = 4 → cxEnabled s c = true → bit (byteAt d.val 20) 1 = false →
        bytesAt d.val 18 2 = s.ctxRec c 98 2 → 
      ∃ t, exec (.offsetInWrite via c d) s = .next t ∧ t.ctxRec c 128 8 = bytesAt d.val 0 8 ∧ t.ctxRec c 146 2 = 1 ∧
        t.ctxRec c 164 4 = (s.ctxRec c 164 4 + 1) % 2 ^ 32 ∧ (t.ctxAt c).bad = false ∧ (t.ctxAt c).timedOut = false ∧
        t.ctxRec c 98 2 = bytesAt d.val 18 2 ∧ cxRef t c = (if (s.ctxAt c).qualified = false then 2 else if bit (byteAt d.val 20) 0 then 4 else 3) ∧
        (∀ i, i < 4 → hwsUses s i c = true →
        (t.tcAt i).offsets = (s.tcAt i).offsets ++ [⟨toI 64 (bytesAt d.val 0 8), (ofTime80 (bytesAt d.val 8 10) : Nat), c, masterOf s i c, true⟩])) ∧
    (∀ (d : Datum), Accepts s via (0x3700 + c) 8 d → cxKind s c = 4 → cxEnabled s c = true → bit (byteAt d.val 20) 1 = true → 
      ∃ t, exec (.offsetInWrite via c d) s = .next t ∧ cxRef t c = 1 ∧ (t.ctxAt c).running = false ∧ (t.ctxAt c).qualified = false ∧
        t.ctxRec c 146 2 = 0 ∧ t.dp = s.dp) ∧
    (Runs s → 
      ∃ t, exec (.contextStateChange c) s = .next t ∧ cxRef t c = ctxDesired s c ∧ t.ctxs = s.ctxs ∧ (ctxDesired s c ≠ cxRef s c →
        bit (t.rd (key (0x3700 + c) 2)) 0 = true)) ∧
    (Runs s → cxEnabled s c = true → cxKind s c ≠ 0 → (s.ctxAt c).timedOut = false → 
      ∃ t, exec (.offsetTimeout c) s = .next t ∧ cxRef t c = 1 ∧ t.ctxRec c 244 4 = (s.ctxRec c 244 4 + 1) % 2 ^ 32 ∧
        bit (t.rd (key (0x3700 + c) 2)) 3 = true ∧ ⟨faultWord 0 4 0x17 (0x200 + c), s.now⟩ ∈ t.faultIn ∧
        (t.ctxAt c) = { (s.ctxAt c) with timedOut := true, running := false, qualified := false } ∧ (∀ x, x ≠ c → t.ctxAt x = s.ctxAt x)) ∧
    (Runs s → cxEnabled s c = true → cxKind s c = 1 → (s.ctxAt c).running = true → (s.ctxAt c).timedOut = false → cxRef s c = 2 → cxPortState s c = 9 →
        s.ctxRec c 89 1 < s.ctxRec c 15 1 → 
      ∃ t, exec (.contextQualifyTime c) s = .next t ∧ cxRef t c = (if s.ctxRec c 14 1 < s.ctxRec c 89 1 then 4 else 3) ∧
        (t.ctxAt c) = { (s.ctxAt c) with qualified := true } ∧ t.tcs = s.tcs) ∧
    (Accepts s via (0x3700 + c) 9 ⟨1, 1⟩ → 
      ∃ t, exec (.contextClearCounters via c) s = .next t ∧ t.ctxRec c 192 64 = 0 ∧ t.ctxRec c 0 192 = s.ctxRec c 0 192 ∧ t.ctxs = s.ctxs ∧
        t.tcs = s.tcs) ∧
    (Accepts s via (0x3700 + c) 9 ⟨1, 2⟩ → cxPtp s c = true → cxEnabled s c = true → s.tcReg (cxCounter s c) 0x22 = 1 → cxPortState s c ≠ 1 → 
      ∃ t, exec (.contextRestart via c) s = .next t ∧ cxPortState t c = 1 ∧ (t.ctxAt c).foreign = [] ∧ (t.ctxAt c).delays = [] ∧ t.ctxRec c 146 2 = 0)

/-- R262, R263, R264, R267, R270, R271, R273, R278 (what IEEE 1588-2019 fixes and the spec names is log entry 30): a one-step Sync, or a two-step one with its Follow_Up, gives the master-to-slave difference and with a path delay an offset; a Delay_Resp that answers the request in flight, or a peer response, gives a path delay, kept for the last DELAY_FILTER; a master answers Delay_Req and every peer-to-peer port Pdelay_Req; Sync, Delay_Req and Announce go out at their intervals, counted; an Announce is kept as a foreign master; a receipt timeout forgets them, counts and tells; PRE_MASTER ends in MASTER; and unicast grants are held, renewed and lost. -/
def Obligations.PtpMessagesFormOffsets : Prop :=
  ∀ (s : State) (c : Nat), ShapeWf s → c < 256 →
    (∀ (m : PtpMsg), Runs s → ctxLive s c = true → ctxServed s c = true → fromMaster s c m.src = true → m.twoStep = false → 
      ∃ t, exec (.ptpSyncRx c m) s = .next t ∧ (t.ctxAt c).ms = some (ingress s c m - m.stamp - m.corr, ingress s c m) ∧
        t.ctxRec c 216 4 = (s.ctxRec c 216 4 + 1) % 2 ^ 32 ∧ (t.ctxAt c).sync = none ∧ ((s.ctxAt c).delays ≠ [] → cxPortState t c = 9 ∧
        t.ctxRec c 128 8 = ofI 64 (meanDelay (s.ctxAt c) + cxAsym s c - (ingress s c m - m.stamp - m.corr)) ∧ t.ctxRec c 146 2 = 1)) ∧
    (∀ (m : PtpMsg), Runs s → ctxLive s c = true → ctxServed s c = true → fromMaster s c m.src = true → m.twoStep = true → 
      ∃ t, exec (.ptpSyncRx c m) s = .next t ∧ (t.ctxAt c) = { (s.ctxAt c) with sync := some (m.seq, ingress s c m, m.corr) } ∧
        t.ctxRec c 216 4 = (s.ctxRec c 216 4 + 1) % 2 ^ 32 ∧ (∀ x, x ≠ c → t.ctxAt x = s.ctxAt x)) ∧
    (∀ (m : PtpMsg) (t2 corr : Int), Runs s → ctxLive s c = true → ctxServed s c = true → fromMaster s c m.src = true →
        (s.ctxAt c).sync = some (m.seq, t2, corr) → 
      ∃ t, exec (.ptpFollowUpRx c m) s = .next t ∧ (t.ctxAt c).ms = some (t2 - m.stamp - corr - m.corr, t2) ∧ (t.ctxAt c).sync = none ∧
        t.ctxRec c 220 4 = (s.ctxRec c 220 4 + 1) % 2 ^ 32) ∧
    (∀ (m : PtpMsg) (t2 t3 ms : Int), Runs s → ctxLive s c = true → ctxServed s c = true → fromMaster s c m.src = true → cxP2P s c = false →
        (s.ctxAt c).req = some (m.seq, t3) → (s.ctxAt c).ms = some (ms, t2) → 
      ∃ t, exec (.ptpDelayRespRx c m) s = .next t ∧ (t.ctxAt c).req = none ∧
        (t.ctxAt c).delays = ((ms + (m.stamp - t3 - m.corr)) / 2 :: (s.ctxAt c).delays).take (s.ctxRec c 12 1) ∧
        t.ctxRec c 228 4 = (s.ctxRec c 228 4 + 1) % 2 ^ 32) ∧
    (∀ (m : PtpMsg), Runs s → ctxLive s c = true → ctxServed s c = true → portUp s (cxPort s c) = true → cxPort s c < 2 → cxPortState s c = 6 →
        cxP2P s c = false → 
      ∃ t, exec (.ptpDelayReqRx c m) s = .next t ∧ (∃ m, t.out = .eth (cxPort s c) 9 m :: s.out) ∧
        t.ctxRec c 224 4 = (s.ctxRec c 224 4 + 1) % 2 ^ 32 ∧ t.ctxRec c 204 4 = (s.ctxRec c 204 4 + 1) % 2 ^ 32 ∧ t.ctxs = s.ctxs) ∧
    (∀ (m : PtpMsg), Runs s → ctxLive s c = true → ctxServed s c = true → portUp s (cxPort s c) = true → cxPort s c < 2 → cxP2P s c = true →
        cxPortState s c ≠ 1 → 
      ∃ t, exec (.ptpPdelayReqRx c m) s = .next t ∧ t.out.length = s.out.length + (if cxOneStep s c then 1 else 2) ∧
        t.ctxRec c 224 4 = (s.ctxRec c 224 4 + 1) % 2 ^ 32 ∧ t.ctxRec c 204 4 = (s.ctxRec c 204 4 + (if cxOneStep s c then 1 else 2)) % 2 ^ 32 ∧
        t.ctxs = s.ctxs) ∧
    (∀ (m : PtpMsg) (t1 : Int), Runs s → ctxLive s c = true → ctxServed s c = true → cxP2P s c = true → cxProfile s c = 1 → m.followUp = false →
        m.twoStep = false → (s.ctxAt c).req = some (m.seq, t1) → 0 < s.ctxRec c 12 1 → cxPortState s c ≠ 1 → 
      ∃ t, exec (.ptpPdelayRespRx c m) s = .next t ∧ (t.ctxAt c).req = none ∧
        (t.ctxAt c).delays = ((qi ((ingress s c m) - t1)).sub (qi m.corr) |>.mul (qd 1 2)).round :: ((s.ctxAt c).delays.take (s.ctxRec c 12 1 - 1)) ∧
        t.ctxRec c 228 4 = (s.ctxRec c 228 4 + 1) % 2 ^ 32) ∧
    (∀ (m : PtpMsg) (t1 : Int), Runs s → ctxLive s c = true → ctxServed s c = true → cxP2P s c = true → m.followUp = false → m.twoStep = true →
        (s.ctxAt c).req = some (m.seq, t1) → cxPortState s c ≠ 1 → 
      ∃ t, exec (.ptpPdelayRespRx c m) s = .next t ∧ (t.ctxAt c) = { (s.ctxAt c) with presp := some (m.seq, m.stamp, ingress s c m, m.corr) } ∧
        t.ctxRec c 228 4 = (s.ctxRec c 228 4 + 1) % 2 ^ 32) ∧
    (∀ (a : Announce), Runs s → ctxLive s c = true → ctxServed s c = true → (s.ctxAt c).foreign = [] → cxPortState s c = 4 → cxProfile s c ≠ 4 →
        cxRole s c ≠ 1 → (∀ x, x < 256 → x ≠ c → cxEnabled s x = false) → 
      ∃ t, exec (.ptpAnnounceRx c a) s = .next t ∧ (t.ctxAt c).foreign = [⟨a, 1, s.now⟩] ∧ t.ctxRec c 232 4 = (s.ctxRec c 232 4 + 1) % 2 ^ 32) ∧
    (Runs s → ctxLive s c = true → ctxServed s c = true → cxPortState s c = 4 → slaveOnly s c = false → (s.ctxAt c).foreign = [] → (∀ x, x < 256 → x ≠ c →
        cxEnabled s x = false) → 
      ∃ t, exec (.announceReceiptTimeout c) s = .next t ∧ cxPortState t c = 5 ∧ bit (t.rd (key (0x3700 + c) 2)) 2 = true ∧
        ⟨faultWord 0 4 0x17 (0x200 + c), s.now⟩ ∈ t.faultIn ∧ t.ctxRec c 248 4 = (s.ctxRec c 248 4 + 1) % 2 ^ 32) ∧
    (Runs s → ctxLive s c = true → ctxServed s c = true → cxPortState s c = 5 → 
      ∃ t, exec (.preMasterQualificationTimeout c) s = .next t ∧ cxPortState t c = 6 ∧ (t.ctxAt c).delays = []) ∧
    (Runs s → ctxLive s c = true → ctxServed s c = true → portUp s (cxPort s c) = true → cxPort s c < 2 → cxPortState s c = 6 → granted s c 0 = true → 
      ∃ t, exec (.ptpSyncInterval c) s = .next t ∧ t.out.length = s.out.length + (if cxOneStep s c then 1 else 2) ∧
        t.ctxRec c 192 4 = (s.ctxRec c 192 4 + 1) % 2 ^ 32 ∧ (t.ctxAt c).seqSync = cut 16 ((s.ctxAt c).seqSync + 1) ∧ (∀ x, x ≠ c →
        t.ctxAt x = s.ctxAt x)) ∧
    (Runs s → ctxLive s c = true → ctxServed s c = true → portUp s (cxPort s c) = true → cxPort s c < 2 → (cxPortState s c = 8 ∨ cxPortState s c = 9) → 
      ∃ t, exec (.ptpDelayReqInterval c) s = .next t ∧ (∃ m, t.out = .eth (cxPort s c) (if cxP2P s c then 2 else 1) m :: s.out) ∧
        t.ctxRec c 200 4 = (s.ctxRec c 200 4 + 1) % 2 ^ 32 ∧ (t.ctxAt c).req = some ((s.ctxAt c).seqReq, egressTime s c) ∧
        (t.ctxAt c).seqReq = cut 16 ((s.ctxAt c).seqReq + 1) ∧ (∀ x, x ≠ c → t.ctxAt x = s.ctxAt x)) ∧
    (Runs s → ctxLive s c = true → ctxServed s c = true → portUp s (cxPort s c) = true → cxPort s c < 2 → cxPortState s c = 6 → granted s c 11 = true → 
      ∃ t, exec (.ptpAnnounceInterval c) s = .next t ∧ (∃ m, t.out = .eth (cxPort s c) 11 m :: s.out) ∧
        t.ctxRec c 208 4 = (s.ctxRec c 208 4 + 1) % 2 ^ 32 ∧ (t.ctxAt c) = { (s.ctxAt c) with seqAnn := cut 16 ((s.ctxAt c).seqAnn + 1) } ∧
        (∀ x, x ≠ c → t.ctxAt x = s.ctxAt x)) ∧
    (∀ (g : Signal), Runs s → ctxLive s c = true → ctxServed s c = true → cxKind s c = 2 → (s.ctxAt c).pool = false → g.kind = 1 → g.duration ≠ 0 →
        cxPortState s c ≠ 1 → 
      ∃ t, exec (.ptpSignalingRx c g) s = .next t ∧
        (t.ctxAt c).grants = ((s.ctxAt c).grants.filter fun h => h.1 != g.type_) ++ [(g.type_, s.now + g.duration * 1000000000, g.duration)] ∧
        t.ctxRec c 236 4 = (s.ctxRec c 236 4 + 1) % 2 ^ 32 ∧ (∀ x, x ≠ c → t.ctxAt x = s.ctxAt x)) ∧
    (∀ (g : Signal), Runs s → ctxLive s c = true → ctxServed s c = true → cxKind s c = 1 → cxPortState s c = 6 → g.kind = 0 → s.rd (key 0x3610 8) = 0 → 
      ∃ t, exec (.ptpSignalingRx c g) s = .next t ∧ t.rd (key 0x3610 0x0A) = cut 32 (s.rd (key 0x3610 0x0A) + 1) ∧
        ⟨faultWord 0 4 0x18 (0x200 + c), s.now⟩ ∈ t.faultIn ∧ (∀ x, (t.ctxAt x).pool = (s.ctxAt x).pool)) ∧
    (∀ (g : Nat × Nat × Nat), Runs s → (s.ctxAt c).pool = false → firstGrant (s.ctxAt c).grants = some g → 
      ∃ t, exec (.grantExpiry c) s = .next t ∧ (t.ctxAt c).grants = (s.ctxAt c).grants.filter (fun h => h.1 != g.1) ∧
        bit (t.rd (key (0x3700 + c) 2)) 4 = true ∧ (∀ x, x ≠ c → t.ctxAt x = s.ctxAt x)) ∧
    (∀ (g : Nat × Nat × Nat), Runs s → (s.ctxAt c).pool = true → (s.ctxAt c).grants = [g] → 
      ∃ t, exec (.grantExpiry c) s = .next t ∧ (t.ctxAt c) = {} ∧ cxEnabled t c = false ∧ cxKind t c = 0 ∧ (∀ x, x ≠ c → t.ctxAt x = s.ctxAt x)) ∧
    (Runs s → ctxLive s c = true → ctxServed s c = true → portUp s (cxPort s c) = true → cxPort s c < 2 → cxKind s c = 2 → (s.ctxAt c).pool = false →
        cxRole s c = 2 → cxPortState s c ≠ 1 → 
      let n := ([11, 0, 9].filter fun ty => grantWanted s c ty).length
      ∃ t, exec (.grantRenewalTimer c) s = .next t ∧ t.out.length = s.out.length + n ∧ t.ctxRec c 212 4 = (s.ctxRec c 212 4 + n) % 2 ^ 32 ∧
        (t.ctxAt c).seqSig = (if n = 0 then (s.ctxAt c).seqSig else cut 16 ((s.ctxAt c).seqSig + n)) ∧ (∀ x, x ≠ c → t.ctxAt x = s.ctxAt x))

/-- R263, R265, R266, R275, R276, R277, R278: ARP and neighbour solicitation for a port's own address are answered; unicast peers are resolved again; other frames are counted in RX_OTHER and those with errors in RX_ERRORS, and dropped; with PASSTHROUGH ON a frame goes to the other port, an event frame with its residence time added and counted, and one that finds no room is dropped and counted; a LINK change is recorded and its loss told; a TX record is popped once, and the 4 bytes with VPORT 0xFF stand for the empty queue; a TX_STAMP completes the exchange of its TAG, and one that never comes is counted; an RX record of a general message reaches its port context; and PASSTHROUGH takes the written value. -/
def Obligations.EthernetAndVirtualPorts : Prop :=
  ∀ (s : State) (via : Iface) (p c : Nat), Live s → ShapeWf s →
    (∀ (target : Nat) (d : Datum), Runs s → p < 2 → portUp s p = true → target ≠ 0 → (target = s.rd (key 0x3611 (4 + 16 * p)) ∨ target = ipv6Of s p) → 
      ∃ t, exec (.arpNdpRx p target d) s = .next t ∧
        t.out = .eth p 0x100 ⟨6 + d.len, s.rd (key 0x3611 (3 + 16 * p)) % 2 ^ 48 + d.val * 2 ^ 48⟩ :: s.out ∧ t.od = s.od) ∧
    (Runs s → c < 256 → cxKind s c = 2 → cxEnabled s c = true → cxPort s c < 2 → portUp s (cxPort s c) = true → s.ctxRec c 5 1 ≠ 0 → 
      ∃ t, exec (.peerResolveTimer) s = .next t ∧ .eth (cxPort s c) 0x101 ⟨16, s.ctxRec c 16 16⟩ ∈ t.out ∧ t.od = s.od) ∧
    (∀ (target : Nat) (d : Datum), Runs s → c < 256 → p < 2 → portUp s p = true → target ≠ 0 → target ≠ s.rd (key 0x3611 (4 + 16 * p)) →
        target ≠ ipv6Of s p → peerAt s c p target = true → 
      ∃ t, exec (.arpNdpRx p target d) s = .next t ∧ (t.ctxAt c).peerMac = some (d.val % 2 ^ 48) ∧ t.out = s.out ∧ t.od = s.od) ∧
    (∀ (bad : Bool), Runs s → p < 2 → portUp s p = true → (bad = true ∨ s.rd (key 0x3610 5) ≠ 1) → 
      ∃ t, exec (.ethOtherFrameRx p bad) s = .next t ∧
        t.rd (key 0x3611 ((if bad then 0x0D else 0x0C) + 16 * p)) = cut 32 (s.rd (key 0x3611 ((if bad then 0x0D else 0x0C) + 16 * p)) + 1) ∧
        t.out = s.out ∧ t.tcs = s.tcs) ∧
    (∀ (residence : Int) (d : Datum), Runs s → p < 2 → portUp s p = true → s.rd (key 0x3610 5) = 1 → s.rd (key 0x3610 0x0C) < 2 ^ 32 → 
      ∃ t, exec (.passthroughFrame p false residence false d) s = .next t ∧
        t.out.head? = some (.eth (1 - p) 0x200 (if residenceDue d = true then corrected d (counterSpan s (s.rd (key 0x3610 6) % 4) residence) else d)) ∧ t.rd (key 0x3610 0x0C) = cut 32 (s.rd (key 0x3610 0x0C) + b2n (residenceDue d)) ∧ t.rd (key 0x3610 0x0B) = s.rd (key 0x3610 0x0B)) ∧
    (∀ (residence : Int) (full : Bool) (d : Datum), Runs s → p < 2 → portUp s p = true → s.rd (key 0x3610 5) = 1 → 
      ∃ t, exec (.passthroughFrame p true residence full d) s = .next t ∧ t.out = s.out ∧
        t.rd (key 0x3611 (0x0D + 16 * p)) = cut 32 (s.rd (key 0x3611 (0x0D + 16 * p)) + 1) ∧ t.rd (key 0x3610 0x0C) = s.rd (key 0x3610 0x0C)) ∧
    (∀ (residence : Int) (d : Datum), Runs s → p < 2 → portUp s p = true → s.rd (key 0x3610 5) = 1 → 
      ∃ t, exec (.passthroughFrame p false residence true d) s = .next t ∧ t.out = (offerFrame s p d).out ∧
        t.rd (key 0x3610 0x0B) = cut 32 (s.rd (key 0x3610 0x0B) + 1) ∧ bit (t.rd (key 0x3610 2)) 3 = true) ∧
    (∀ (up : Bool), Runs s → p < 2 → portUp s p ≠ up → 2 ≤ s.dp.recSince.length → (up = true → s.rd (key 0x3611 (1 + 16 * p)) ≠ 0) → 
      ∃ t, exec (.ethLinkChange p up) s = .next t ∧ t.rd (key 0x3611 (2 + 16 * p)) = b2n up ∧ bit (t.rd (key 0x3610 2)) p = true ∧
        t.faultIn = s.faultIn ++ (if up then [] else [⟨faultWord 0 5 0x19 (0x300 + p), s.now⟩]) ∧
        t.dp.recSince.getD p none = (if up then some s.now else none) ∧ t.ctxs = s.ctxs) ∧
    (∀ (d : Datum) (r : List Datum), viaOn s via = true → s.ptp.txq = d :: r → dieReachable s 0 = true → s.boot.open_ = true → 
      ∃ t, exec (.txRecordPop via) s = .next t ∧ t.ptp.txq = r ∧ t.ptp.nextTag = s.ptp.nextTag ∧ t.od = s.od ∧ t.ctxs = s.ctxs) ∧
    (∀ (d : Datum) (w : Waiting) (r : List Waiting) (time : Int), c < 256 → Accepts s via 0x3612 4 d → (∀ x, x < 256 →
        (cxPort s x = 0x10 + byteAt d.val 0 ↔ x = c)) → (s.ctxAt c).stamps = w :: r → w.tag = bytesAt d.val 2 2 → w.type_ = 1 →
        time = ((bytesAt d.val 4 6 * 1000000000 + bytesAt d.val 10 4) * 65536 + bytesAt d.val 14 2 : Nat) → 
      ∃ t, exec (.txStampWrite via d) s = .next t ∧ (t.ctxAt c).req = some (w.seq, time) ∧
        (t.ctxAt c).stamps = (s.ctxAt c).stamps.filter (fun y => y.tag != w.tag) ∧ (∀ x, x ≠ c → t.ctxAt x = s.ctxAt x) ∧ t.od = s.od) ∧
    (∀ (w : Waiting) (r : List Waiting), Runs s → c < 256 → (s.ctxAt c).stamps = w :: r → 
      ∃ t, exec (.txStampMissing c) s = .next t ∧ (t.ctxAt c).stamps = r ∧ t.ctxRec c 252 4 = (s.ctxRec c 252 4 + 1) % 2 ^ 32 ∧
        bit (t.rd (key (0x3700 + c) 2)) 5 = true ∧ t.rd (key 0x3612 7) = cut 32 (s.rd (key 0x3612 7) + 1) ∧ bit (t.rd (key 0x3610 2)) 5 = true ∧
        (t.ctxAt c).req = (s.ctxAt c).req) ∧
    (∀ (d : Datum), Accepts s via 0x3612 2 d → msgOffset ⟨bytesAt d.val 2 2, bytesAt d.val 16 (bytesAt d.val 2 2)⟩ = none → 
      ∃ t, exec (.rxRecordWrite via d) s = .next t ∧ t = journalled s via 0x3612 2 d) ∧
    (∀ (d : Datum) (o : Nat), Accepts s via 0x3612 2 d → msgOffset ⟨bytesAt d.val 2 2, bytesAt d.val 16 (bytesAt d.val 2 2)⟩ = some o →
        frameContext s (0x10 + byteAt d.val 0) ⟨bytesAt d.val 2 2, bytesAt d.val 16 (bytesAt d.val 2 2)⟩ o = some c → 
      ∃ t, exec (.rxRecordWrite via d) s = .next t ∧
        t = frameMessage (journalled s via 0x3612 2 d) c ⟨bytesAt d.val 2 2, bytesAt d.val 16 (bytesAt d.val 2 2)⟩ o (if bit (byteAt d.val 1) 0 then some ((((bytesAt d.val 4 6 * 1000000000 + bytesAt d.val 10 4) * 65536 + bytesAt d.val 14 2 : Nat) : Int)) else none)) ∧
    (∀ (d : Datum), Accepts s via 0x3610 5 d → 
      ∃ t, exec (.passthroughWrite via d) s = .next t ∧ t.rd (key 0x3610 5) = d.val ∧ t.ctxs = s.ctxs ∧ t.tcs = s.tcs ∧ t.out = s.out)

/-- R294, R296, R297, R299, R300, R303, R304, R305, R312, R337, R340: MODE ON starts training, MODE OFF leaves UP; a training attempt that succeeds brings the port UP with the neighbour's identity, and a failed one waits for its repeat; BER, a missing HELLO and RETRAIN take a port from UP to TRAINING, told as FAB_LINK_DOWN, and leave one that is not UP; a change of reference sets TX_ON_LOCAL; CREDIT sets the FREED last heard; the reports carry FREED of every class; a frame that is bad is discarded, counted and its cells freed; one whose hops are spent is dropped and counted; a queued frame that credit covers goes out with its cells issued; COMMIT takes SHADOW into the pending table, and the next slot-frame boundary makes it ACTIVE. -/
def Obligations.FabricPortsTrainAndMeter : Prop :=
  ∀ (s : State) (via : Iface) (p : Nat), Live s → ShapeWf s → p < 4 →
    (Accepts s via (0x3804 + p) 1 ⟨1, 1⟩ → s.boot.booting = false → s.fp p 1 = 0 → s.fp p 2 = 0 → 
      ∃ t, exec (.fabModeWrite via p ⟨1, 1⟩) s = .next t ∧ t.fp p 1 = 1 ∧ t.fp p 2 = 1 ∧ (t.portAt p).trying = true ∧ bit (t.fb 2) (12 + p) = true ∧
        (∀ q, q ≠ p → t.portAt q = s.portAt q)) ∧
    (Accepts s via (0x3804 + p) 1 ⟨1, 0⟩ → s.boot.booting = false → s.fp p 1 = 1 → fabUp s p = true → 
      ∃ t, exec (.fabModeWrite via p ⟨1, 0⟩) s = .next t ∧ t.fp p 1 = 0 ∧ t.fp p 2 = 0 ∧ (t.portAt p).trying = false ∧
        ⟨faultWord 0 7 0x1D (0x500 + 4 * p), s.now⟩ ∈ t.faultIn) ∧
    (∀ (d : Datum), Accepts s via (0x3804 + p) 4 d → s.boot.booting = false → d.val = 0xFF → s.fp p 5 = 1 → 
      ∃ t, exec (.txApllWrite via p d) s = .next t ∧ t.fp p 4 = d.val ∧ t.fp p 5 = 1 ∧ t.fp p 2 = s.fp p 2 ∧
        (t.portAt p) = { (s.portAt p) with txApll := d.val } ∧ (∀ q, q ≠ p → t.portAt q = s.portAt q)) ∧
    (∀ (j : Nat), Accepts s via (0x3804 + p) 4 ⟨1, j⟩ → s.boot.booting = false → j < 8 → apllReturned s j = true → s.fp p 5 = 1 → fabUp s p = true → 
      ∃ t, exec (.txApllWrite via p ⟨1, j⟩) s = .next t ∧ t.fp p 4 = j ∧ t.fp p 5 = 0 ∧ t.fp p 2 = 1 ∧
        ⟨faultWord 0 7 0x1D (0x500 + 4 * p), s.now⟩ ∈ t.faultIn ∧ bit (t.fb 2) (12 + p) = true ∧ t.fp p 1 = s.fp p 1 ∧ (t.portAt p).vector = [] ∧
        (t.portAt p).trying = true) ∧
    (∀ (x : FabInit), Runs s → s.fp p 2 = 1 → (s.portAt p).trying = true → 
      ∃ t, exec (.fabTrainingAttemptEnd p true x) s = .next t ∧ t.fp p 2 = 2 ∧ t.fp p 7 = x.id ∧ (t.portAt p).trying = false ∧
        (t.portAt p).lastUp = some (x.id, x.boot) ∧ (t.portAt p).asym = s.rdI 64 (key (0x3804 + p) 6) ∧ bit (t.fb 2) (12 + p) = true ∧
        ((s.rdI 64 (key (0x3804 + p) 6) + x.asym) % 2 ^ 32 ≠ 0 → ⟨faultWord 0 7 0x1F (0x500 + 4 * p), s.now⟩ ∈ t.faultIn)) ∧
    (∀ (x : FabInit) (c : Nat), Runs s → s.fp p 2 = 1 → (s.portAt p).trying = true → (s.portAt p).classes.length = 4 →
        (s.portAt p).lastUp = some (x.id, x.boot) → c < 4 → 
      let ac := (x.classes.getD c []).getD 1 0
      let freed := (x.classes.getD c []).getD 2 0
      let occ := (x.classes.getD c []).getD 3 0
      let lost := cut 32 (((s.portAt p).cls c).issued + 2 ^ 32 - ac % 2 ^ 32)
      ∃ t, exec (.fabTrainingAttemptEnd p true x) s = .next t ∧ ((t.portAt p).cls c).heardFreed = freed ∧
        ((t.portAt p).cls c).wireLost = (if cut 32 (freed + occ) = cut 32 ac ∧
        lost ≤ 48 then cut 32 (((s.portAt p).cls c).wireLost + lost) else ((s.portAt p).cls c).wireLost) ∧ (¬ (cut 32 (freed + occ) = cut 32 ac ∧
        lost ≤ 48) → ⟨faultWord 0 7 0x1E (0x500 + 4 * p + c), s.now⟩ ∈ t.faultIn)) ∧
    (∀ (x : FabInit), Runs s → s.fp p 2 = 1 → (s.portAt p).trying = true → 
      ∃ t, exec (.fabTrainingAttemptEnd p false x) s = .next t ∧ t = s.setPort p fun y => { y with trying := false }) ∧
    (Runs s → s.fp p 2 = 1 → 
      ∃ t, exec (.fabTrainingRetryTimer p) s = .next t ∧ t = s.setPort p fun y => { y with trying := true }) ∧
    (Runs s → fabUp s p = true → 
      ∃ t, exec (.fabBerFail p) s = .next t ∧ t.fp p 2 = 1 ∧ ⟨faultWord 0 7 0x1D (0x500 + 4 * p), s.now⟩ ∈ t.faultIn ∧ bit (t.fb 2) (12 + p) = true ∧
        t.fp p 1 = s.fp p 1 ∧ (t.portAt p).vector = [] ∧ (t.portAt p).trying = true) ∧
    (Runs s → fabUp s p = true → 
      ∃ t, exec (.fabHelloTimeout p) s = .next t ∧ t.fp p 2 = 1 ∧ ⟨faultWord 0 7 0x1D (0x500 + 4 * p), s.now⟩ ∈ t.faultIn ∧
        bit (t.fb 2) (12 + p) = true ∧ t.fp p 1 = s.fp p 1 ∧ (t.portAt p).vector = [] ∧ (t.portAt p).trying = true) ∧
    (Accepts s via (0x3804 + p) 0x11 ⟨1, 1⟩ → fabUp s p = true → 
      ∃ t, exec (.fabPortRetrain via p) s = .next t ∧ t.fp p 2 = 1 ∧ ⟨faultWord 0 7 0x1D (0x500 + 4 * p), s.now⟩ ∈ t.faultIn ∧
        bit (t.fb 2) (12 + p) = true ∧ t.fp p 1 = s.fp p 1 ∧ (t.portAt p).vector = [] ∧ (t.portAt p).trying = true) ∧
    (Accepts s via (0x3804 + p) 0x11 ⟨1, 1⟩ → fabUp s p = false → 
      ∃ t, exec (.fabPortRetrain via p) s = .next t ∧ t = journalled s via (0x3804 + p) 0x11 ⟨1, 1⟩) ∧
    (Accepts s via (0x3804 + p) 0x11 ⟨1, 2⟩ → 
      ∃ t, exec (.fabPortClearCounters via p) s = .next t ∧ t.fp p 0x0C = 0 ∧ t.fp p 0x0D = 0 ∧ t.fp p 0x0E = 0 ∧ t.fp p 0x10 = 0 ∧
        t.fp p 2 = s.fp p 2 ∧ t.fab = s.fab) ∧
    (Runs s → s.fp p 5 = 0 → (s.portAt p).txApll = s.fp p 4 → s.fp p 4 < 8 → (s.apllAt (s.fp p 4)).state ≠ .locked → 
      ∃ t, exec (.txReferenceChange p) s = .next t ∧ t.fp p 5 = 1 ∧ t.fp p 2 = (if fabUp s p then 1 else s.fp p 2)) ∧
    (∀ (cls freed : Nat), Runs s → fabUp s p = true → cls < 4 → fabQueued (s.portAt p) = 0 → (s.portAt p).classes.length = 4 → 
      ∃ t, exec (.creditRx p cls freed) s = .next t ∧ t = s.setPort p fun x => x.setClass cls fun y => { y with heardFreed := cut 32 freed }) ∧
    (∀ (freed : Nat) (x : TxFrame) (a0 a1 a2 a3 : FabClass), Runs s → fabUp s p = true → (s.portAt p).classes = [a0, { a1 with queue := [x] }, a2, a3] →
        a0.queue = [] → a2.queue = [] → a3.queue = [] → x.hold = none → slotCode s p ≠ 3 →
        cut 32 (a1.issued + 2 ^ 32 - cut 32 (cut 32 freed + a1.adj)) + fabCells x.f.payload.len ≤ 256 → 
      ∃ t, exec (.creditRx p 1 freed) s = .next t ∧ t.out = .frame p x.f :: s.out ∧
        ((t.portAt p).cls 1).issued = cut 32 (((s.portAt p).cls 1).issued + fabCells x.f.payload.len) ∧ ((t.portAt p).cls 1).queue = []) ∧
    (∀ (c : Nat), Runs s → fabUp s p = true → c < 4 → 
      ∃ t, exec (.creditReportTimer) s = .next t ∧ .fab p c 0x101 0 ⟨4, cut 32 ((s.portAt p).cls c).freed⟩ ∈ t.out ∧ t.od = s.od) ∧
    (∀ (f : FabFrame), Runs s → fabUp s p = true → f.cls < 4 → (s.portAt p).classes.length = 4 → 
      ∃ t, exec (.fabFrameRx p f true) s = .next t ∧ t.fp p 0x0E = cut 32 (s.fp p 0x0E + 1) ∧
        ((t.portAt p).cls f.cls).accepted = cut 32 (((s.portAt p).cls f.cls).accepted + fabCells f.payload.len) ∧
        ((t.portAt p).cls f.cls).freed = cut 32 (((s.portAt p).cls f.cls).freed + fabCells f.payload.len) ∧
        t.out = .fab p f.cls 0x101 0 ⟨4, ((t.portAt p).cls f.cls).freed⟩ :: s.out ∧ t.tcs = s.tcs ∧ (∀ q, q ≠ p → t.portAt q = s.portAt q)) ∧
    (∀ (f : FabFrame), Runs s → fabUp s p = true → f.version = 1 → f.length = f.payload.len → f.length ≤ 2048 → typeOk f = true → f.cls ≠ 0 → f.cls < 4 →
        (s.portAt p).boundary = false → (s.portAt p).classes.length = 4 → f.dest ≠ 0 → f.dest ≠ s.fb 0x0A → f.dest ≠ 0xFFF → f.hops = 0 → 
      ∃ t, exec (.fabFrameRx p f false) s = .next t ∧ t.rd (key 0x3802 6) = cut 32 (s.rd (key 0x3802 6) + 1) ∧
        ((t.portAt p).cls f.cls).freed = cut 32 (((s.portAt p).cls f.cls).freed + fabCells f.payload.len) ∧ t.fab.pending = s.fab.pending ∧
        t.fp p 0x0E = s.fp p 0x0E) ∧
    (∀ (f : FabFrame), Runs s → fabUp s p = true → f.version = 1 → f.length = f.payload.len → f.length ≤ 2048 → typeOk f = true → f.cls ≠ 0 → f.cls < 4 →
        (s.portAt p).boundary = false → (s.portAt p).classes.length = 4 → f.dest ≠ 0 → f.dest ≠ s.fb 0x0A → f.dest ≠ 0xFFF → f.hops ≠ 0 →
        routeLookup s f.dest = none → s.fab.pending.length < 32 → 
      ∃ t, exec (.fabFrameRx p f false) s = .next t ∧ t.fab.pending = s.fab.pending ++ [{ f := { f with hops := f.hops - 1 }, hold := some p }] ∧
        ((t.portAt p).cls f.cls).freed = ((s.portAt p).cls f.cls).freed ∧ t.od = s.od ∧ t.out = s.out) ∧
    (Accepts s via (0x3808 + p) 3 ⟨1, 1⟩ → 
      ∃ t, exec (.slotTableCommit via p) s = .next t ∧ (t.portAt p) = { (s.portAt p) with pendingTable := some (s.rd (key (0x3808 + p) 2)) } ∧
        t.rd (key (0x3808 + p) 5) = 1 ∧ t.rd (key (0x3808 + p) 1) = s.rd (key (0x3808 + p) 1) ∧ (∀ q, q ≠ p → t.portAt q = s.portAt q)) ∧
    (∀ (v : Nat), Runs s → (s.portAt p).pendingTable = some v → 
      ∃ t, exec (.slotFrameBoundary) s = .next t ∧ (t.portAt p) = { (s.portAt p) with pendingTable := none } ∧ t.rd (key (0x3808 + p) 1) = v ∧
        t.rd (key (0x3808 + p) 5) = 0 ∧ t.rd (key (0x3808 + p) 4) = cut 16 (s.rd (key (0x3808 + p) 4) + 1) ∧ bit (t.fb 2) 11 = true ∧ t.out = s.out)

/-- R307, R310, R311, R312, R313, R314, R334, R340: a HELLO sets the neighbour's identity, address, root and distance; HELLO goes out on an UP port every 10 ms; the root advances ROOT_SEQ; a root whose ROOT_SEQ does not advance is dropped, the election gives another and the change is counted and told; a ROUTE_UPDATE refreshes the vector of its port, and a change or an expiry starts a rebuild; a rebuild swaps the tables and counts; a pending frame that expires counts as NOROUTE; the root grants a free PREFERRED address, a grant for this device is taken, and NO_ADDRESS is told and ends discovery FAILED; REDISCOVER releases the address; an assignment ends at its hold; and discovery ends DONE with TOTAL at DEVICES. -/
def Obligations.FabricElectsRoutesAndAddresses : Prop :=
  ∀ (s : State) (via : Iface) (p : Nat), Live s → ShapeWf s → p < 4 →
    (∀ (d : Datum), Runs s → fabUp s p = true → d.len = 32 → (s.portAt p).classes.length = 4 → 
      ∃ t, exec (.helloRx p d) s = .next t ∧ t.fp p 7 = bytesAt d.val 0 8 ∧ t.fp p 8 = bytesAt d.val 8 2 ∧
        (t.portAt p).nbrRoot = bytesAt d.val 12 8 ∧ (t.portAt p).nbrGrade = bytesAt d.val 20 2 ∧ (t.portAt p).nbrSeq = bytesAt d.val 22 2 ∧
        (t.portAt p).nbrDist = byteAt d.val 24 ∧ (t.portAt p).nbrFlags = byteAt d.val 26 ∧ (t.portAt p).heard = true) ∧
    (Runs s → fabUp s p = true → slotCode s p ≠ 3 → fabQueued (s.portAt p) = 0 → (s.portAt p).classes.length = 4 →
        fabInFlight ((s.portAt p).cls 1) ≤ 255 → 
      ∃ t, exec (.helloTimer) s = .next t ∧
        .frame p { cls := 1, type_ := 1, src := s.fb 0x0A, length := 32, payload := datumOf (helloBytes s p) } ∈ t.out ∧ t.od = s.od) ∧
    (Runs s → isRoot s = true → 
      ∃ t, exec (.rootSeqTimer) s = .next t ∧ t.fab = { s.fab with rootSeq := cut 16 (s.fab.rootSeq + 1) } ∧ t.od = s.od) ∧
    (Runs s → isRoot s = false → 
      ∃ t, exec (.rootTimeout) s = .next t ∧ t.fb 0x0B ≠ s.fb 0x0B ∧ t.fb 0x13 = cut 32 (s.fb 0x13 + 1) ∧ bit (t.fb 2) 0 = true ∧
        ⟨faultWord 0 8 0x20 0x510, s.now⟩ ∈ t.faultIn) ∧
    (∀ (d : Datum), Runs s → fabUp s p = true → d.len = 4 → (s.portAt p).boundary = false → (s.portAt p).classes.length = 4 → 
      ∃ t, exec (.routeUpdateRx p d) s = .next t ∧
        (t.portAt p).vector = ((s.portAt p).vector.filter fun x => x.1 != d.val % 4096) ++ [(d.val % 4096, byteAt d.val 2, s.now)] ∧
        ((t.portAt p).cls 1).freed = cut 32 (((s.portAt p).cls 1).freed + 1) ∧ t.od = s.od ∧ ((s.portAt p).vector = [] → t.fab.rebuilding = true)) ∧
    (Runs s → fabUp s p = true → (s.portAt p).boundary = false → engineUp s 14 = true → 
      ∃ t, exec (.routeUpdateTimer) s = .next t ∧ (t.portAt p).lastUpdate = some s.now ∧ t.od = s.od ∧ t.fab.table = s.fab.table) ∧
    (∀ (addr : Nat), Runs s → (s.portAt p).vector.any (fun x => x.1 == addr) = true → 
      ∃ t, exec (.routeExpiry p addr) s = .next t ∧ (t.portAt p).vector = (s.portAt p).vector.filter (fun y => y.1 != addr) ∧
        t.fab.rebuilding = true ∧ t.fab.table = s.fab.table ∧ t.od = s.od) ∧
    (Runs s → s.fab.rebuilding = true → 
      ∃ t, exec (.routeRebuildDone) s = .next t ∧ t.fab.table = s.fab.back ∧ t.fab.rebuilding = s.fab.again ∧
        t.rd (key 0x3802 1) = cut 32 (s.rd (key 0x3802 1) + 1) ∧ t.rd (key 0x3802 2) = cut 32 (s.rd (key 0x3802 2) + 1) ∧
        t.fb 0x0F = 1 + s.fab.back.length) ∧
    (∀ (x : TxFrame) (r : List TxFrame), Runs s → s.fab.pending = x :: r → 
      ∃ t, exec (.pendingFrameExpiry) s = .next t ∧ t.fab.pending = r ∧ t.rd (key 0x3802 3) = cut 32 (s.rd (key 0x3802 3) + 1) ∧
        t.fab.noroute = some s.now ∧ (s.fab.noroute = none → bit (t.fb 2) 8 = true ∧ t.faultIn = s.faultIn ++ [⟨faultWord 0 8 0x22 0x510, s.now⟩])) ∧
    (∀ (d : Datum), 
      let id := bytesAt d.val 0 8
      let want := bytesAt d.val 8 2
      Runs s → fabUp s p = true → engineUp s 14 = true → isRoot s = true → d.len = 10 → (s.portAt p).boundary = false →
        (s.portAt p).classes.length = 4 → id ≠ identity s → 1 ≤ want → want ≤ 4094 → (s.fab.assigned.all fun a => a.2.1 != want) = true → 
      ∃ t, exec (.addressRequestRx p d) s = .next t ∧ (id, want, s.now) ∈ t.fab.assigned ∧ (id, p) ∈ t.fab.relay ∧ t.fb 0x0A = s.fb 0x0A) ∧
    (∀ (d : Datum), Runs s → fabUp s p = true → engineUp s 14 = true → isRoot s = false → d.len = 10 → (s.portAt p).boundary = false →
        (s.portAt p).classes.length = 4 → bytesAt d.val 0 8 = identity s → bytesAt d.val 8 2 ≠ 0 → bytesAt d.val 8 2 ≠ s.fb 0x0A → 
      ∃ t, exec (.addressGrantRx p d) s = .next t ∧ t.fb 0x0A = bytesAt d.val 8 2 ∧ bit (t.fb 2) 1 = true ∧ t.fab.rebuilding = true ∧
        t.rd (key 0x2043 1) = 1) ∧
    (∀ (d : Datum), Runs s → fabUp s p = true → engineUp s 14 = true → isRoot s = false → d.len = 10 → (s.portAt p).boundary = false →
        (s.portAt p).classes.length = 4 → bytesAt d.val 0 8 = identity s → bytesAt d.val 8 2 = 0 → 
      ∃ t, exec (.addressGrantRx p d) s = .next t ∧ t.fb 0x0A = 0 ∧ bit (t.fb 2) 7 = true ∧ t.rd (key 0x2043 1) = 3 ∧
        t.rd (key 0x2043 5) = 0x08000022 ∧ ⟨faultWord 0 8 0x21 0x510, s.now⟩ ∈ t.faultIn) ∧
    (Runs s → s.fb 0x0A = 0 → engineUp s 14 = true → isRoot s = true → 1 ≤ s.fb 9 → s.fb 9 ≤ 4094 →
        (s.fab.assigned.all fun a => a.2.1 != s.fb 9 || a.1 == identity s) = true → 
      ∃ t, exec (.addressRetryTimer) s = .next t ∧ t.fb 0x0A = s.fb 9 ∧ (identity s, s.fb 9, s.now) ∈ t.fab.assigned) ∧
    (∀ (ident : Nat), Runs s → isRoot s = true → ident ≠ identity s → 
      ∃ t, exec (.addressHoldExpiry ident) s = .next t ∧ t.fab = { s.fab with assigned := s.fab.assigned.filter fun a => a.1 != ident } ∧ t.od = s.od) ∧
    (Runs s → s.rd (key 0x2043 1) = 1 → s.fb 0x0A ≠ 0 → 
      ∃ t, exec (.discoveryDone) s = .next t ∧ t.rd (key 0x2043 1) = 2 ∧ t.rd (key 0x2043 3) = s.fb 0x0F ∧ t.rd (key 0x2043 4) = s.fb 0x0F ∧
        t.rd (key 0x2043 5) = 0 ∧ bit (t.fb 2) 2 = true ∧ t.fab = s.fab) ∧
    (Accepts s via (0x3800 + 0) 0x14 ⟨1, 1⟩ → isRoot s = false → s.fb 0x0A ≠ 0 → 
      ∃ t, exec (.rediscover via) s = .next t ∧ t.fb 0x0A = 0 ∧ bit (t.fb 2) 1 = true ∧ t.fab.rebuilding = true) ∧
    (Accepts s via (0x3800 + 0) 0x14 ⟨1, 2⟩ → 
      ∃ t, exec (.fabClearCounters via) s = .next t ∧ t.rd (key 0x3802 1) = 0 ∧ t.rd (key 0x3802 3) = 0 ∧ t.rd (key 0x3802 5) = 0 ∧
        t.rd (key 0x3802 6) = 0 ∧ t.fp p 0x0C = 0 ∧ t.fp p 0x0E = 0 ∧ t.fp p 0x10 = 0 ∧ t.fab = s.fab)

/-- R315, R316, R322, R323, R324, R325, R326, R327, R328, R329, R331: an exchange stamps t1, t4 and ends with its delay and offset; a marker request is answered with its response and follow-up; a remote request is kept in the store, and a repeat is answered from the store and not applied again; READ, WRITE and CANCEL of a slot set its STATE, as do the response, the abort code of a remote refusal, and the last timeout with 0504 0000h; the winning end proposes the mean of 64 offsets; the losing device records DELTA and INSTANT, and at the instant pours or steps its counter, counted and told; a poured blend settles; its end returns BLEND_STATE to IDLE, counts and joins the winner; and ALIGN follows once every APLL concerned is back. -/
def Obligations.FabricTimeAccessAndBlends : Prop :=
  ∀ (s : State) (via : Iface) (p r : Nat), Live s → ShapeWf s → p < 4 → r < 4 →
    (Runs s → fabUp s p = true → 
      ∃ t, exec (.linkTimingSlot p) s = .next t ∧
        (t.portAt p) = { (s.portAt p) with seq := cut 8 ((s.portAt p).seq + 1), req := some ((s.portAt p).seq, fabNow s, (s.tcAt (fabTc s)).stepGen), t4 := none } ∧ t.out = .fab p 0 0x102 0 ⟨2, (s.portAt p).seq⟩ :: s.out ∧ t.od = s.od ∧ (∀ q, q ≠ p → t.portAt q = s.portAt q)) ∧
    (Runs s → fabRole s p = 2 → slotCode s p ≠ 3 → fabQueued (s.portAt p) = 0 → (s.portAt p).classes.length = 4 → fabInFlight ((s.portAt p).cls 0) ≤ 127 → 
      ∃ t, exec (.timeDownSlot p) s = .next t ∧
        .frame p { cls := 0, type_ := 0x11, src := s.fb 0x0A, length := 12, payload := datumOf (le 8 (s.fb 0x0B) ++ le 2 (s.fb 0x0C) ++ le 2 s.fab.rootSeq) } ∈ t.out ∧ t.od = s.od) ∧
    (∀ (seq : Nat) (time phi : Int), Runs s → fabUp s p = true → 
      ∃ t, exec (.markerRequestRx p seq time phi) s = .next t ∧ (t.portAt p).phi = phi ∧ .fab p 0 0x103 0 ⟨2, cut 8 seq⟩ ∈ t.out ∧ t.od = s.od ∧
        (∀ q, q ≠ p → t.portAt q = s.portAt q)) ∧
    (∀ (seq : Nat) (time t1 : Int) (gen : Nat), Runs s → (s.portAt p).req = some (cut 8 seq, t1, gen) → 
      ∃ t, exec (.markerResponseRx p seq time) s = .next t ∧ t = s.setPort p fun x => { x with t4 := some time }) ∧
    (∀ (d : Datum) (phi t1 t2 t3 t4 : Int), Runs s → fabUp s p = true → (s.portAt p).boundary = false → (s.portAt p).classes.length = 4 → d.len = 36 →
        (s.portAt p).req = some (byteAt d.val 0, t1, (s.tcAt (fabTc s)).stepGen) → (s.portAt p).t4 = some t4 →
        ((s.portAt p).nbrGen = none ∨ (s.portAt p).nbrGen = some (bytesAt d.val 2 2)) → (s.portAt p).delays = [] →
        t2 = ofTime12 (bytesAt d.val 4 12) → t3 = ofTime12 (bytesAt d.val 16 12) → 
      ∃ t, exec (.timingFollowUpRx p d phi) s = .next t ∧ (t.portAt p).req = none ∧
        (t.portAt p).offsets = (((t2 - t1) - ((t2 - t1 + (t4 - t3)) / 2) + (s.portAt p).asym) :: (s.portAt p).offsets).take 64 ∧
        t.rd (key (0x3804 + p) 0x0C) = cut 32 (s.rd (key (0x3804 + p) 0x0C) + 1) ∧
        t.rdI 64 (key (0x3804 + p) 0x0A) = toI 64 (ofI 64 ((t2 - t1 + (t4 - t3)) / 2))) ∧
    (Runs s → 
      ∃ t, exec (.exchangeFollowUpTimeout p) s = .next t ∧ t = s.setPort p fun x => { x with req := none, t4 := none }) ∧
    (∀ (d : Datum), Runs s → fabUp s p = true → (s.portAt p).boundary = false → (s.portAt p).classes.length = 4 → d.len = 12 → 
      ∃ t, exec (.timeDownRx p d) s = .next t ∧ (t.portAt p).nbrRoot = bytesAt d.val 0 8 ∧ (t.portAt p).nbrGrade = bytesAt d.val 8 2 ∧
        (t.portAt p).nbrSeq = bytesAt d.val 10 2 ∧ (t.portAt p).heard = true) ∧
    (∀ (src : Nat) (d : Datum) (y : OdStored), Runs s → fabUp s p = true → (s.portAt p).boundary = false → (s.portAt p).classes.length = 4 →
        engineUp s 15 = true → d.len ≤ 2048 →
        s.fab.store.find? (fun z => z.requester == bytesAt d.val 0 8 && z.chan == bytesAt d.val 8 2 / 8192) = some y → y.boot = bytesAt d.val 16 2 →
        y.reqId = bytesAt d.val 8 2 → 
      ∃ t, exec (.odRequestRx p src d) s = .next t ∧ t.fab.store = s.fab.store.map (fun z => if z.requester = y.requester ∧
        z.chan = y.chan then { z with used := s.now } else z) ∧ t.nv = s.nv ∧ t.tcs = s.tcs) ∧
    (∀ (src : Nat) (d : Datum), Runs s → fabUp s p = true → (s.portAt p).boundary = false → (s.portAt p).classes.length = 4 → engineUp s 15 = true →
        d.len ≤ 2048 → (s.fab.store.any fun z => z.requester == bytesAt d.val 0 8 && z.chan == bytesAt d.val 8 2 / 8192) = false →
        s.fab.store.length < 512 → byteAt d.val 10 = 1 → 
      ∃ t, exec (.odRequestRx p src d) s = .next t ∧
        (t.fab.store.any fun z => z.requester == bytesAt d.val 0 8 && z.chan == bytesAt d.val 8 2 / 8192 && z.boot == bytesAt d.val 16 2 && z.reqId == bytesAt d.val 8 2) = true ∧ t.fab.waiting = s.fab.waiting) ∧
    (∀ (src : Nat) (d : Datum), Runs s → fabUp s p = true → (s.portAt p).boundary = false → (s.portAt p).classes.length = 4 → d.len ≤ 2048 →
        bytesAt d.val 0 2 / 8192 = r → s.rq r 6 = 1 → bytesAt d.val 0 2 % 8192 = (s.slotAt r).count → bytesAt d.val 8 4 = 0 → byteAt d.val 2 = 0x81 → 
      ∃ t, exec (.odResponseRx p src d) s = .next t ∧ t.rq r 6 = 2 ∧ t.rq r 7 = 0 ∧ t.rq r 4 = bytesAt d.val 12 (bytesAt d.val 6 2) ∧
        (t.slotAt r).len = bytesAt d.val 6 2 ∧ bit (t.fb 2) (16 + r) = true) ∧
    (∀ (src : Nat) (d : Datum), Runs s → fabUp s p = true → (s.portAt p).boundary = false → (s.portAt p).classes.length = 4 → d.len ≤ 2048 →
        bytesAt d.val 0 2 / 8192 = r → s.rq r 6 = 1 → bytesAt d.val 0 2 % 8192 = (s.slotAt r).count → bytesAt d.val 8 4 ≠ 0 → 
      ∃ t, exec (.odResponseRx p src d) s = .next t ∧ t.rq r 6 = 3 ∧ t.rq r 7 = bytesAt d.val 8 4 ∧ bit (t.fb 2) (16 + r) = true) ∧
    (∀ (src : Nat) (d : Datum), Runs s → fabUp s p = true → (s.portAt p).boundary = false → (s.portAt p).classes.length = 4 → d.len ≤ 2048 → 
      ∃ t, exec (.stampBatchRx p src d) s = .next t ∧ ((t.portAt p).cls 2).freed = cut 32 (((s.portAt p).cls 2).freed + fabCells d.len) ∧
        t.od = s.od ∧ t.tcs = s.tcs ∧ t.fab.pending = s.fab.pending) ∧
    (Accepts s via (0x3820 + r) 5 ⟨1, 1⟩ → s.rq r 1 ≠ s.fb 0x0A → 
      ∃ t, exec (.requestRead via r) s = .next t ∧ t.rq r 6 = 1 ∧ (t.slotAt r).count = ((s.slotAt r).count + 1) % 8192 ∧ (t.slotAt r).left = s.rq r 9) ∧
    (Accepts s via (0x3820 + r) 5 ⟨1, 2⟩ → s.rq r 1 ≠ s.fb 0x0A → 
      ∃ t, exec (.requestWrite via r) s = .next t ∧ t.rq r 6 = 1 ∧ (t.slotAt r).count = ((s.slotAt r).count + 1) % 8192 ∧
        (t.slotAt r).left = s.rq r 9 ∧ (t.slotAt r).sent.len = 18 + s.rq r 3) ∧
    (Accepts s via (0x3820 + r) 5 ⟨1, 3⟩ → 
      ∃ t, exec (.requestCancel via r) s = .next t ∧ t.rq r 6 = 0 ∧ t.rq r 7 = 0 ∧ t.fab = s.fab) ∧
    (Runs s → s.rq r 6 = 1 → (s.slotAt r).left = 0 → 
      ∃ t, exec (.requestTimeout r) s = .next t ∧ t.rq r 6 = 3 ∧ t.rq r 7 = 0x05040000 ∧ bit (t.fb 2) (16 + r) = true ∧ t.fab = s.fab) ∧
    (Runs s → s.rq r 6 = 1 → (s.slotAt r).left ≠ 0 → s.rq r 1 ≠ s.fb 0x0A → 
      ∃ t, exec (.requestTimeout r) s = .next t ∧ t.rq r 6 = 1 ∧ (t.slotAt r) = { (s.slotAt r) with left := (s.slotAt r).left - 1 }) ∧
    (Runs s → fabUp s p = true → (s.portAt p).boundary = true → (s.portAt p).nbrRoot = s.bl 9 → 64 ≤ (s.portAt p).offsets.length → (∀ q, q < p →
        (s.portAt q).boundary = false) → s.bl 7 = 1 → s.bl 1 ≠ 0 → bit (s.portAt p).nbrFlags 2 = true → 
      ∃ t, exec (.blendMeasureDone) s = .next t ∧ t.bl 7 = 2 ∧ t.bl 0x0A = ofI 64 (-(roundDiv (sumI (s.portAt p).offsets) 64))) ∧
    (∀ (d : Datum), Runs s → fabUp s p = true → (s.portAt p).classes.length = 4 → d.len = 16 → isRoot s = true → s.fab.accepted = [] → s.bl 1 ≠ 0 →
        treePorts s = [] → (∀ q, q < 4 → (s.portAt q).boundary = false) → 
      ∃ t, exec (.blendProposalRx p d) s = .next t ∧ t.fab.accepted.length = 1 ∧ (t.fab.accepted.any fun a => a.1 == bytesAt d.val 0 8) = true ∧
        ((t.portAt p).cls 1).freed = cut 32 (((s.portAt p).cls 1).freed + 1) ∧ t.tcs = s.tcs) ∧
    (∀ (dest : Nat) (d : Datum), Runs s → fabUp s p = true → (s.portAt p).classes.length = 4 → d.len = 41 → (dest = 0 ∨ dest = 0xFFF ∨ dest = s.fb 0x0A) →
        bytesAt d.val 8 8 = s.fb 0x0B → s.bl 7 < 3 → fabNow s ≤ ofTime12 (bytesAt d.val 24 12) → 
      ∃ t, exec (.blendAnnounceRx p dest d) s = .next t ∧ t.bl 7 = 3 ∧ t.bl 8 = 2 ∧ t.bl 9 = bytesAt d.val 0 8 ∧ t.bl 0x0A = bytesAt d.val 16 8 ∧
        t.bl 0x0B = time80 (ofTime12 (bytesAt d.val 24 12)).toNat ∧ t.tcs = s.tcs) ∧
    (∀ (b : Blend), Runs s → s.fab.blend = some b → s.bl 7 = 3 → b.instant ≤ fabNow s → b.step = false → tcTied s (fabTc s) = false → 
      ∃ t, exec (.blendInstant) s = .next t ∧ t.bl 7 = 4 ∧ bit (t.fb 2) 4 = true ∧
        (t.tcAt (fabTc s)).blendLeft = (s.tcAt (fabTc s)).blendLeft + b.delta ∧ (t.tcAt (fabTc s)).blendRate = b.rate ∧
        (t.tcAt (fabTc s)).val = (s.tcAt (fabTc s)).val ∧ ⟨faultWord 0 8 0x23 0x510, s.now⟩ ∈ t.faultIn) ∧
    (∀ (b : Blend), Runs s → s.fab.blend = some b → s.bl 7 = 3 → b.instant ≤ fabNow s → b.step = true → tcTied s (fabTc s) = false → 
      ∃ t, exec (.blendInstant) s = .next t ∧ t.bl 7 = 5 ∧ bit (t.fb 2) 4 = true ∧ t.bl 0x0D = cut 32 (s.bl 0x0D + 1) ∧
        (t.tcAt (fabTc s)).blendTotal = (s.tcAt (fabTc s)).blendTotal + b.delta ∧ (t.tcAt (fabTc s)).unset = false ∧ (b.delta ≠ 0 →
        (t.tcAt (fabTc s)).val = ((((s.tcAt (fabTc s)).val : Int) + b.delta * 2 ^ 32) % (tcModulus : Nat)).toNat) ∧
        ⟨faultWord 0 8 0x24 0x510, s.now⟩ ∈ t.faultIn) ∧
    (Runs s → s.bl 7 = 4 → tcTied s (fabTc s) = false → (s.tcAt (fabTc s)).blendLeft = 0 → 
      ∃ t, exec (.blendPourDone) s = .next t ∧ t.bl 7 = 5 ∧ t.tcs = s.tcs ∧ t.fab = s.fab) ∧
    (∀ (b : Blend), Runs s → s.fab.blend = some b → s.bl 7 = 5 → 
      ∃ t, exec (.blendEnd) s = .next t ∧ t.bl 7 = 0 ∧ t.bl 8 = 0 ∧ t.bl 0x0C = cut 32 (s.bl 0x0C + 1) ∧ t.fab.blend = none ∧ bit (t.fb 2) 5 = true) ∧
    (Runs s → s.fab.alignWait ≠ [] → (s.fab.alignWait.all (apllReturned s)) = true → 
      ∃ t, exec (.blendAlign) s = .next t ∧ t.fab.alignWait = [] ∧ (s.bl 6 = 0 → t.ap = s.ap) ∧ t.od = s.od) ∧
    (∀ (e : OdStored), Runs s → s.fab.store = [e] → s.fab.waiting = [] → 
      ∃ t, exec (.odStoreEntryExpiry) s = .next t ∧ t.fab.store = [] ∧ t.od = s.od)

/-- R343, R344, R345, R346, R347, R348, R349, R355: a step on a slice whose channel needs stamping begins with HANDOVER_OUT, and any other goes to PASS1 in place; the cut tick gives the channel to the spare, whose next stamp carries CAL_STEP; a flat pass is complete, one on OWN that is not flat or times out restarts on AUX, or under OWN_ONLY is abandoned, and one on AUX that is not flat fails the slice; trims move by at most 3 codes; the offsets end in HANDOVER_BACK where the spare serves; the cut tick then brings the new set into force with its step counted; and a step whose link is not UP for 100 ms is abandoned, told, and the same slice comes again. -/
def Obligations.CalibrationStepsRotate : Prop :=
  ∀ (s : State) (d : Nat), Live s → ShapeWf s → d < 6 → (s.dieCal d).slices.length = 17 →
    (∀ (rate : Nat), s.cal.running = true → s.cal.sweep = true → (s.dieCal d).phase = 0 → bit (s.rd (key 0x2500 5)) d = true →
        (s.dieCal d).stopped = false → (s.sliceCal d (s.dieCal d).slice).failed = false → sliceNeeds s d (s.dieCal d).slice = true →
        (s.dieCal d).parked = none → 
      ∃ t, exec (.calStepStart d rate) s = .next t ∧ (t.dieCal d).phase = 1 ∧ (t.dieCal d).rate = rate ∧ (t.dieCal d).slice = (s.dieCal d).slice ∧
        (t.dieCal d).handed = true ∧ (∀ e, e ≠ d → t.dieCal e = s.dieCal e) ∧ t.od = s.od) ∧
    (∀ (rate : Nat), s.cal.running = true → s.cal.sweep = true → (s.dieCal d).phase = 0 → bit (s.rd (key 0x2500 5)) d = true →
        (s.dieCal d).stopped = false → (s.sliceCal d (s.dieCal d).slice).failed = false → sliceNeeds s d (s.dieCal d).slice = false →
        ownOnly (s.rd (key 0x2500 8)) (s.dieCal d).slice = false → 
      ∃ t, exec (.calStepStart d rate) s = .next t ∧ (t.dieCal d).phase = 2 ∧ (t.dieCal d).aux = true ∧ (t.dieCal d).slice = (s.dieCal d).slice ∧
        (∀ e, e ≠ d → t.dieCal e = s.dieCal e) ∧ t.od = s.od) ∧
    (∀ (mismatch : Option Int), (s.dieCal d).phase = 1 → (s.dieCal d).slice < 16 → 
      ∃ t, exec (.calHandoverCut d mismatch) s = .next t ∧
        (t.chanAt (16 * d + (s.dieCal d).slice)) = { s.chanAt (16 * d + (s.dieCal d).slice) with onSpare := true, calStep := true } ∧
        (t.dieCal d).phase = 2 ∧ (t.dieCal d).aux = !(!(s.dieCal d).auxRest && ownUsable s d (s.dieCal d).slice (s.dieCal d).rate) ∧ (∀ e, e ≠ d →
        t.dieCal e = s.dieCal e) ∧ t.od = s.od) ∧
    (∀ (hist : List Nat), ((s.dieCal d).phase = 2 ∨ (s.dieCal d).phase = 3) → (s.dieCal d).processing = false → passFlat hist = true →
        sumN hist = 2 ^ (s.dieCal d).count → 
      ∃ t, exec (.calPassComplete d hist) s = .next t ∧ (t.dieCal d).processing = true ∧ (t.dieCal d).phase = (s.dieCal d).phase ∧ (∀ e, e ≠ d →
        t.dieCal e = s.dieCal e) ∧ t.od = s.od) ∧
    (∀ (hist : List Nat), ((s.dieCal d).phase = 2 ∨ (s.dieCal d).phase = 3) → (s.dieCal d).processing = false → passFlat hist = false →
        sumN hist = 2 ^ (s.dieCal d).count → (s.dieCal d).aux = false → ownOnly (s.dieCal d).policy (s.dieCal d).slice = false → 
      ∃ t, exec (.calPassComplete d hist) s = .next t ∧ (t.dieCal d) = { (s.dieCal d) with aux := true, auxRest := true } ∧ (∀ e, e ≠ d →
        t.dieCal e = s.dieCal e) ∧ t.od = s.od ∧ t.faultIn = s.faultIn) ∧
    (∀ (hist : List Nat), ((s.dieCal d).phase = 2 ∨ (s.dieCal d).phase = 3) → (s.dieCal d).processing = false → passFlat hist = false →
        sumN hist = 2 ^ (s.dieCal d).count → (s.dieCal d).aux = true → (s.dieCal d).slice < 17 → 
      ∃ t, exec (.calPassComplete d hist) s = .next t ∧ (t.sliceCal d (s.dieCal d).slice).failed = true ∧ (t.dieCal d).phase = 0 ∧
        bit (t.rd (key 0x2500 2)) 5 = true ∧ ⟨faultWord (d + 2) 1 0x26 (s.dieCal d).slice, s.now⟩ ∈ t.faultIn ∧
        sliceRec t d (s.dieCal d).slice = sliceRec s d (s.dieCal d).slice) ∧
    (((s.dieCal d).phase = 2 ∨ (s.dieCal d).phase = 3) → (s.dieCal d).processing = false → (s.dieCal d).aux = false →
        ownOnly (s.dieCal d).policy (s.dieCal d).slice = false → 
      ∃ t, exec (.calPassTimeout d) s = .next t ∧ (t.dieCal d) = { (s.dieCal d) with aux := true, auxRest := true } ∧ (∀ e, e ≠ d →
        t.dieCal e = s.dieCal e) ∧ t.od = s.od) ∧
    (((s.dieCal d).phase = 2 ∨ (s.dieCal d).phase = 3) → (s.dieCal d).processing = false → (s.dieCal d).aux = false →
        ownOnly (s.dieCal d).policy (s.dieCal d).slice = true → (s.dieCal d).abandoned = false → 
      ∃ t, exec (.calPassTimeout d) s = .next t ∧ (t.dieCal d).phase = 0 ∧ bit (t.rd (key 0x2500 2)) 4 = true ∧
        ⟨faultWord (d + 2) 1 0x27 (s.dieCal d).slice, s.now⟩ ∈ t.faultIn ∧ (t.dieCal d).slice = (s.dieCal d).slice ∧ (t.dieCal d).abandoned = true ∧
        sliceRec t d (s.dieCal d).slice = sliceRec s d (s.dieCal d).slice) ∧
    (∀ (trims : Nat), (s.dieCal d).processing = true → (s.dieCal d).phase = 2 → (s.sliceCal d (s.dieCal d).slice).rails < 9 → 
      ∃ t, exec (.calProcessingDone d trims) s = .next t ∧ (t.dieCal d).phase = 3 ∧ (t.dieCal d).processing = false ∧
        (t.dieCal d).trims = newTrims (bytesAt (sliceRec s d (s.dieCal d).slice) 88 128) trims ∧ (∀ e, e ≠ d → t.dieCal e = s.dieCal e) ∧ t.od = s.od) ∧
    (∀ (trims : Nat), (s.dieCal d).processing = true → (s.dieCal d).phase = 3 →
        (inlTable (s.dieCal d).hist).all (fun v => decide (absI v ≤ 4194)) = true → 
      ∃ t, exec (.calProcessingDone d trims) s = .next t ∧ (t.dieCal d).phase = 4 ∧ (t.dieCal d).inl = inlTable (s.dieCal d).hist ∧
        (t.dieCal d).processing = false ∧ (∀ e, e ≠ d → t.dieCal e = s.dieCal e) ∧ t.od = s.od) ∧
    (∀ (offsets table residual : Nat), (s.dieCal d).phase = 4 → (s.dieCal d).slice < 16 → sliceNeeds s d (s.dieCal d).slice = true →
        (s.chanAt (16 * d + (s.dieCal d).slice)).onSpare = true → 
      ∃ t, exec (.calOffsetsDone d offsets table residual) s = .next t ∧ (t.dieCal d).phase = 5 ∧ (t.dieCal d).offsets = offsets % 2 ^ 96 ∧
        sliceRec t d (s.dieCal d).slice = sliceRec s d (s.dieCal d).slice ∧ (∀ e, e ≠ d → t.dieCal e = s.dieCal e)) ∧
    (∀ (offsets table residual : Nat), (s.dieCal d).phase = 4 → (s.dieCal d).slice < 17 → sliceNeeds s d (s.dieCal d).slice = false → 
      ∃ t, exec (.calOffsetsDone d offsets table residual) s = .next t ∧ (t.dieCal d).phase = 0 ∧
        sliceRec t d (s.dieCal d).slice = newRecord (sliceRec s d (s.dieCal d).slice) (s.dieCal d).trims (s.dieCal d).inl (offsets % 2 ^ 96) (s.dieCal d).aux ∧ (t.sliceCal d (s.dieCal d).slice).since = s.now ∧ (t.sliceCal d (s.dieCal d).slice).steps = (s.sliceCal d (s.dieCal d).slice).steps + 1 ∧ (t.dieCal d).abandoned = false) ∧
    (∀ (mismatch : Option Int), (s.dieCal d).phase = 5 → (s.dieCal d).slice < 16 → 
      ∃ t, exec (.calHandoverCut d mismatch) s = .next t ∧ (t.chanAt (16 * d + (s.dieCal d).slice)).onSpare = false ∧
        (t.chanAt (16 * d + (s.dieCal d).slice)).calStep = true ∧ (t.dieCal d).phase = 0 ∧
        sliceRec t d (s.dieCal d).slice = newRecord (sliceRec s d (s.dieCal d).slice) (s.dieCal d).trims (s.dieCal d).inl (s.dieCal d).offsets (s.dieCal d).aux ∧ (t.sliceCal d (s.dieCal d).slice).mismatch = (match mismatch with | some m => ofI 16 m | none => 0x7FFF)) ∧
    (s.linkUp d = false → (s.dieCal d).phase ≠ 0 → (s.dieCal d).abandoned = false → 
      ∃ t, exec (.calLinkAbandonTimer d) s = .next t ∧ (t.dieCal d).phase = 0 ∧ bit (t.rd (key 0x2500 2)) 4 = true ∧
        ⟨faultWord (d + 2) 1 0x27 (s.dieCal d).slice, s.now⟩ ∈ t.faultIn ∧ (t.dieCal d).slice = (s.dieCal d).slice ∧ (t.dieCal d).abandoned = true ∧
        sliceRec t d (s.dieCal d).slice = sliceRec s d (s.dieCal d).slice) ∧
    (s.linkUp d = false → (s.dieCal d).phase ≠ 0 → (s.dieCal d).abandoned = true → 
      ∃ t, exec (.calLinkAbandonTimer d) s = .next t ∧ (t.dieCal d).phase = 0 ∧ bit (t.rd (key 0x2500 2)) 4 = true ∧ (t.dieCal d).abandoned = false ∧
        (t.dieCal d).slice = nextSlice (s.dieCal d) (s.dieCal d).slice)

/-- R347, R351, R352, R353, R354, R357, R358, R359: SWEEP_NOW starts a sweep, and is ignored while one runs; SAVE_SHADOW copies every record and sets SAVED; RESTORE_SHADOW of a blank area reads NONE; ENABLE takes its bits; an accepted record comes into force with GEN counted and AGE restarted; tracking publishes the error and corrects by at most 0.1 ps; a branch trim, an amplitude and a loop gain move by at most one code; a margin below 10 % is told once; a lane adapts by at most one code unless held; and a narrow eye is told once. -/
def Obligations.CalibrationRecordsAndTracking : Prop :=
  ∀ (s : State) (via : Iface), Live s → ShapeWf s →
    (Accepts s via (0x2500 + 0) 0x0C ⟨1, 1⟩ → (s.cal.sweep = false ∨ s.cal.now_ = false) → 
      ∃ t, exec (.sweepNow via) s = .next t ∧ t.cal.sweep = true ∧ t.cal.now_ = true ∧ t.cal.position = 0 ∧ t.rd (key 0x2042 1) = 1 ∧
        t.rd (key 0x2042 6) = 0xFF ∧ (∀ d, d < 6 → (t.dieCal d).stopped = false ∧ (t.dieCal d).sweepSteps = 0)) ∧
    (Accepts s via (0x2500 + 0) 0x0C ⟨1, 1⟩ → s.cal.sweep = true → s.cal.now_ = true → 
      ∃ t, exec (.sweepNow via) s = .next t ∧ t.cal = s.cal ∧ t.od = s.od) ∧
    (Accepts s via (0x2500 + 0) 0x0C ⟨1, 2⟩ → 
      ∃ t, exec (.saveShadow via) s = .next t ∧ t.cal.area = calArea s ∧ t.rd (key 0x2500 0x0E) = 3 ∧ bit (t.rd (key 0x2500 2)) 2 = true ∧
        t.cal.dies = s.cal.dies) ∧
    (Accepts s via (0x2500 + 0) 0x0C ⟨1, 3⟩ → calBlank s.cal.area = true → 
      ∃ t, exec (.restoreShadow via) s = .next t ∧ t.rd (key 0x2500 0x0E) = 0 ∧ t.cal = s.cal ∧ t.chan = s.chan) ∧
    (∀ (d : Datum), Accepts s via (0x2500 + 0) 5 d → 
      ∃ t, exec (.calEnableWrite via d) s = .next t ∧ t.rd (key 0x2500 5) = d.val ∧
        t.cal.dies.map (fun x => x.phase) = s.cal.dies.map (fun x => x.phase) ∧ t.chan = s.chan) ∧
    (∀ (c i : Nat) (d : Datum), c < 6 → i < 17 → (s.dieCal c).slices.length = 17 → Accepts s via (0x2510 + c) (i + 1) d → 
      ∃ t, exec (.sliceRecordWrite via c i d) s = .next t ∧ sliceRec t c i = sliceRecNext (sliceRec s c i) d.val ∧ (t.sliceCal c i).since = s.now ∧
        (t.sliceCal c i).steps = (s.sliceCal c i).steps ∧ (∀ e, e ≠ c → t.dieCal e = s.dieCal e)) ∧
    (∀ (c i : Nat) (d : Datum), c < 6 → i < 16 → Accepts s via (0x2520 + c) (i + 1) d → 
      ∃ t, exec (.outputRecordWrite via c i d) s = .next t ∧ outRec t c i = putBytes (d.val % 2 ^ 416) 18 2 0 ∧ t.cal = s.cal ∧ t.ap = s.ap) ∧
    (∀ (n : Nat) (err : Int), n < 96 → outTracked s n = true → ((s.dieCal (n / 16)).phase = 0 ∨ (s.dieCal (n / 16)).slice ≠ n % 16) → 
      ∃ t, exec (.outputTracking n err) s = .next t ∧
        t.outCal n = { s.outCal n with delayError := satI 16 err, track := (s.outCal n).track - clampI 10 (satI 16 err) } ∧
        t.faultIn = s.faultIn ++ (if s.rd (key 0x2500 0x0B) < absI (satI 16 err) then [⟨faultWord (n / 16 + 2) 1 0x29 (0x100 + n), s.now⟩] else []) ∧
        t.ap = s.ap) ∧
    (∀ (c : Nat) (move err : Int), c < 6 → 
      ∃ t, exec (.branchTrimStep c move err) s = .next t ∧ t.rd (key 0x2530 (c + 1)) = codeStep (s.rd (key 0x2530 (c + 1))) 0 12 move ∧
        t.drdI 16 (key 0x2530 (c + 7)) = toI 16 (ofI 16 (satI 16 err)) ∧ t.chan = s.chan ∧ t.cal = s.cal) ∧
    (∀ (j : Nat) (amp gain : Int) (margin : Nat), j < 8 → (s.apllAt j).state = .locked → 
      ∃ t, exec (.apllTrimStep j amp gain margin) s = .next t ∧
        t.rd (key 0x2530 (0x0D + j)) = codeStep (codeStep (s.rd (key 0x2530 (0x0D + j))) 8 6 amp) 16 6 gain ∧
        t.drd (key 0x2530 (0x15 + j)) = min margin 100 ∧ t.faultIn = s.faultIn ++ (if margin < 10 ∧
        10 ≤ s.drd (key 0x2530 (0x15 + j)) then [⟨faultWord 1 2 0x12 (0x10 + j), s.now⟩] else []) ∧ t.ap = s.ap) ∧
    (∀ (l : Nat) (ctle dfe1 dfe2 : Int), l < 6 → bit (s.rd (key 0x2540 0x0D)) l = false → 
      ∃ t, exec (.laneAdaptStep l ctle dfe1 dfe2) s = .next t ∧
        t.rd (key 0x2540 (7 + l)) = codeStep (codeStep (codeStep (s.rd (key 0x2540 (7 + l))) 0 8 ctle) 8 8 dfe1) 16 8 dfe2 ∧ t.cal = s.cal) ∧
    (∀ (l : Nat) (ctle dfe1 dfe2 : Int), l < 6 → bit (s.rd (key 0x2540 0x0D)) l = true → 
      ∃ t, exec (.laneAdaptStep l ctle dfe1 dfe2) s = .next t ∧ t = s) ∧
    (∀ (l width : Nat), l < 6 → s.cal.eyeLow.length = 6 → width < s.rd (key 0x2540 0x0E) → width ≤ 10000 → s.cal.eyeLow.getD l false = false → 
      ∃ t, exec (.eyeMonitor l width) s = .next t ∧ t.rd (key 0x2540 (l + 1)) = width ∧ t.cal.eyeLow.getD l false = true ∧
        t.faultIn = s.faultIn ++ [⟨faultWord 0 9 0x2A (0x600 + l), s.now⟩] ∧ bit (t.rd (key 0x2500 2)) 8 = true) ∧
    (∀ (l width : Nat), l < 6 → s.cal.eyeLow.length = 6 → width ≤ s.rd (key 0x2540 0x0E) + 500 → width ≤ 10000 → s.cal.eyeLow.getD l false = true → 
      ∃ t, exec (.eyeMonitor l width) s = .next t ∧ t.rd (key 0x2540 (l + 1)) = width ∧ t.cal = s.cal ∧ t.faultIn = s.faultIn)

/-- R369, R371, R375, R376, R379, R380, R387: a STORE joins the jobs once; a store starts with 1.80 mJ and is FAILED with less; it ends with the SRAM in the array and STORE_COUNT counted; a commit in its turn is sealed with E_COMMIT(p) + E_STORE; a HOST commit without the energy ends FAILED with its pages kept, and a device commit waits and is checked again; its records move and the slot is free; the end of a commit brings the pages into the cells with the write counts moved, and every byte reads as it read under the seal; VHOLD is measured; and a scrub pass corrects or flags what it reads and rewrites when nothing else waits. -/
def Obligations.StoresCommitsAndScrubs : Prop :=
  ∀ (s : State), Live s →
    (∀ (via : Iface), Accepts s via (0x2300 + 0) 5 ⟨1, 1⟩ → 
      let w := journalled s via (0x2300 + 0) 5 ⟨1, 1⟩
      ∃ t, exec (.store via) s = .next t ∧ t.nv = { w.nv with queue := if w.nv.queue.contains .store then w.nv.queue else w.nv.queue ++ [.store] } ∧
        t.od = w.od) ∧
    (s.nv.pfBoot = false → s.nv.running = none → s.nv.queue.head? = some .store → storeSupplies s = true →
        1800 * 2000000 ≤ s.rd (key 0x2300 6) * (s.nv.vhold * s.nv.vhold - 3300 * 3300) → 
      ∃ t, exec (.storeStart) s = .next t ∧ t.nv = { s.nv with queue := s.nv.queue.erase .store, running := some .store, array := none } ∧
        t.rd (key 0x2040 1) = 1 ∧ t.rd (key 0x2040 3) = 0 ∧ t.rd (key 0x2040 4) = 65536) ∧
    (s.nv.pfBoot = false → s.nv.running = none → s.nv.queue.head? = some .store → 0 < s.rd (key 0x2300 6) →
        s.rd (key 0x2300 6) * (s.nv.vhold * s.nv.vhold - 3300 * 3300) < 1800 * 2000000 → 
      ∃ t, exec (.storeStart) s = .next t ∧ t.nv.queue = s.nv.queue.erase .store ∧ t.nv.running = none ∧ t.nv.array = s.nv.array ∧
        t.rd (key 0x2040 1) = 3 ∧ t.rd (key 0x2040 5) = 0x08000022 ∧ bit (t.rd (key 0x2300 2)) 4 = true) ∧
    (s.nv.powerFail = false → s.nv.running = some .store → 
      ∃ t, exec (.storeComplete) s = .next t ∧ t.nv.running = none ∧ t.nv.sram.storeCount = (s.nv.sram.storeCount + 1) % 2 ^ 32 ∧
        t.nv.array = some { t.nv.sram with area := s.cal.area } ∧ t.nv.sram.cause = 0 ∧ t.nv.sram.dev = s.nv.sram.dev ∧
        bit (t.rd (key 0x2300 2)) 3 = true ∧ t.rd (key 0x2040 1) = 2 ∧ t.rd (key 0x2040 3) = s.rd (key 0x2040 4)) ∧
    (∀ (n : Nat), s.nv.running = none → s.nv.waiting = false → s.nv.pfBoot = false → engineUp s 15 = true → s.nv.queue.head? = some (.commit .host n) →
        slotsOf s .host ≠ [] → storeSupplies s = true →
        (140 + 60 * (slotsOf s .host).length + 900) * 2000000 ≤ s.rd (key 0x2300 6) * (s.nv.vhold * s.nv.vhold - 3300 * 3300) → 
      ∃ t, exec (.commitStart) s = .next t ∧
        t.nv.area_ = some { pages := (slotsOf s .host).foldl (fun m z => storeIns m z.page z.data) [], writes := n } ∧
        t.nv.running = some (.commit .host n) ∧ t.nv.queue = s.nv.queue.drop 1 ∧ t.nv.slots = s.nv.slots ∧ t.nv.cells = s.nv.cells ∧
        t.rd (key 0x2041 1) = 1 ∧ t.rd (key 0x2041 4) = 256 * (slotsOf s .host).length) ∧
    (∀ (n : Nat), s.nv.running = none → s.nv.waiting = false → s.nv.pfBoot = false → engineUp s 15 = true → s.nv.queue.head? = some (.commit .host n) →
        slotsOf s .host ≠ [] → 0 < s.rd (key 0x2300 6) →
        s.rd (key 0x2300 6) * (s.nv.vhold * s.nv.vhold - 3300 * 3300) < (140 + 60 * (slotsOf s .host).length + 900) * 2000000 → 
      ∃ t, exec (.commitStart) s = .next t ∧ t.nv.hostCommit = false ∧ t.nv.queue = s.nv.queue.drop 1 ∧ t.nv.slots = s.nv.slots ∧
        t.nv.cells = s.nv.cells ∧ t.nv.area_ = s.nv.area_ ∧ t.nv.sram = s.nv.sram ∧ t.rd (key 0x2041 1) = 3 ∧ t.rd (key 0x2041 5) = 0x08000022 ∧
        bit (t.rd (key 0x2300 2)) 4 = true) ∧
    (s.nv.running = none → s.nv.waiting = false → s.nv.pfBoot = false → engineUp s 15 = true → s.nv.queue.head? = some .journal →
        s.nv.journal.staged ≠ [] → 0 < s.rd (key 0x2300 6) → s.rd (key 0x2300 6) * (s.nv.vhold * s.nv.vhold - 3300 * 3300) < 1100 * 2000000 → 
      ∃ t, exec (.commitStart) s = .next t ∧ t.nv.waiting = true ∧ t.nv.queue = s.nv.queue ∧ t.nv.journal = s.nv.journal ∧ t.nv.running = none ∧
        t.nv.sram = s.nv.sram ∧ bit (t.rd (key 0x2300 2)) 4 = true) ∧
    (s.nv.running = none → s.nv.waiting = true → s.nv.pfBoot = false → engineUp s 15 = true → s.nv.queue.head? = some .journal →
        s.nv.journal.staged ≠ [] → s.nv.journal.waiting = [] → storeSupplies s = true →
        1100 * 2000000 ≤ s.rd (key 0x2300 6) * (s.nv.vhold * s.nv.vhold - 3300 * 3300) → 
      ∃ t, exec (.energyRecheckTimer) s = .next t ∧ t.nv.waiting = false ∧ t.nv.running = some .journal ∧
        t.nv.journal = { s.nv.journal with moving := s.nv.journal.moving ++ s.nv.journal.staged, staged := [] } ∧
        t.nv.area_ = some { pages := logPages s false s.nv.journal.staged [], writes := s.nv.journal.staged.length, journal := s.nv.journal.staged.length }) ∧
    (s.nv.waiting = false → 
      ∃ t, exec (.energyRecheckTimer) s = .next t ∧ t = s) ∧
    (∀ (z : Seal), storeWf (fun _ => (255 : Byte)) s.nv.cells = true → s.nv.running = some (.commit .host z.writes) → s.nv.area_ = some z →
        (z.pages.map (fun q => q.1)).Nodup → z.writes ≤ s.nv.sram.dev.pending → s.nv.powerFail = false → s.nv.swReset = false → 
      ∃ t, exec (.commitComplete) s = .next t ∧ (∀ a, nvByte t a = nvByte s a) ∧ t.nv.area_ = none ∧ t.nv.running = none ∧ slotsOf t .host = [] ∧
        t.nv.hostCommit = false ∧ t.nv.hostWrites = 0 ∧ t.nv.sram.dev.accepted = s.nv.sram.dev.accepted ∧
        t.nv.sram.dev.committed = s.nv.sram.dev.committed + z.writes ∧ t.nv.sram.dev.rolledBack = s.nv.sram.dev.rolledBack ∧
        t.nv.sram.dev.pending = s.nv.sram.dev.pending - z.writes ∧ t.nv.sram.dev.commits = s.nv.sram.dev.commits + 1 ∧ t.rd (key 0x2041 1) = 2) ∧
    (∀ (mv : Nat), mv < 65536 → 
      ∃ t, exec (.vholdSample mv) s = .next t ∧ t.nv.vhold = mv ∧ t.rd (key 0x2300 7) = mv ∧ t.nv.sram = s.nv.sram) ∧
    (∀ (via : Iface), Accepts s via (0x2300 + 0) 5 ⟨1, 2⟩ → 
      let w := journalled s via (0x2300 + 0) 5 ⟨1, 2⟩
      ∃ t, exec (.scrubNow via) s = .next t ∧ t.nv = { w.nv with scrubbing := true } ∧ t.od = w.od) ∧
    (∀ (g : Nat) (last : Bool), s.nv.scrubbing = true → g % 8 = 0 → g < 0x400000 → s.nv.decay = [(g, 1)] → s.nv.fixes.contains g = false → 
      ∃ t, exec (.scrubRead g [] last) s = .next t ∧ t.nv.sram.dev.corrected = s.nv.sram.dev.corrected + 1 ∧ t.nv.fixes = s.nv.fixes ++ [g] ∧
        t.rd (key 0x2303 4) = g ∧ bit (t.rd (key 0x2300 2)) 8 = true ∧ t.nv.decay = s.nv.decay ∧ t.nv.scrubbing = !last ∧
        t.nv.sram.dev.passes = s.nv.sram.dev.passes + b2n last ∧ t.nv.cells = s.nv.cells) ∧
    (∀ (g : Nat) (decayed : List (Nat × Nat)) (last : Bool), s.rd (key 0x2303 1) = 1 ∨ s.nv.scrubbing = true → 
      ∃ t, exec (.scrubRead g decayed last) s = .next t ∧ t.nv.scrubbing = !last ∧ t.nv.sram.dev.passes = s.nv.sram.dev.passes + b2n last ∧
        t.nv.cells = s.nv.cells ∧ t.nv.slots = s.nv.slots) ∧
    (∀ (g : Nat) (last : Bool), s.nv.scrubbing = true → g % 8 = 0 → 0xC0000 ≤ g → g < 0x180000 → s.nv.decay = [] → s.rd (key 0x2000 5) = 0 →
        s.nv.sram.dev.images.length = 2 → 
      ∃ t, exec (.scrubRead g [(g, 2)] last) s = .next t ∧ t.nv.sram.dev.uncorrectable = s.nv.sram.dev.uncorrectable + 1 ∧ t.rd (key 0x2303 5) = g ∧
        bit (t.rd (key 0x2300 2)) 9 = true ∧ imageState t 1 = 3 ∧ imageState t 0 = imageState s 0) ∧
    (∀ (g : Nat) (r : List Nat), s.nv.running = none → s.nv.waiting = false → s.nv.queue = [] → s.nv.fixes = g :: r → storeSupplies s = true →
        1100 * 2000000 ≤ s.rd (key 0x2300 6) * (s.nv.vhold * s.nv.vhold - 3300 * 3300) → 
      ∃ t, exec (.commitStart) s = .next t ∧ t.nv.fixes = r ∧ t.nv.sram.dev = { s.nv.sram.dev with rewrites := s.nv.sram.dev.rewrites + 1 } ∧
        t.nv.decay = storeDel s.nv.decay g ∧ t.nv.slots = s.nv.slots)

/-- R373, R374, R377: an accepted WRITE_DATA puts its bytes into HOST slots, from ADDRESS on and over page ends, and is one write; COMMIT asks for the commit of every HOST page, and does nothing without one; DISCARD and the time-out roll the pages back and count their writes; the cells keep what they held. PFAIL_N low starts the power-fail sequence: pages of no running commit are rolled back, the logs and the store take their turns; unprotected, nothing starts; and its rise accepts writes again. -/
def Obligations.HostWindowAndPowerFail : Prop :=
  ∀ (s : State), Live s →
    (∀ (via : Iface) (d : Datum), Accepts s via (0x2310 + 0) 4 d → 
      let w := journalled s via (0x2310 + 0) 4 d
      ∃ t, exec (.writeData via d) s = .next t ∧ (∀ x, (s.rd (key 0x2310 1)) ≤ x → x < (s.rd (key 0x2310 1)) + d.len →
        ∃ z ∈ t.nv.slots, z.owner = .host ∧ z.page = x / 256 ∧ byteAt z.data (x % 256) = byteAt d.val (x - (s.rd (key 0x2310 1)))) ∧
        (∀ z ∈ s.nv.slots, z.owner ≠ .host ∨ z.page < (s.rd (key 0x2310 1)) / 256 ∨ ((s.rd (key 0x2310 1)) + d.len - 1) / 256 < z.page →
        z ∈ t.nv.slots) ∧ t.nv.sram.dev.accepted = w.nv.sram.dev.accepted + 1 ∧ t.nv.sram.dev.pending = w.nv.sram.dev.pending + 1 ∧
        t.nv.hostWrites = s.nv.hostWrites + 1 ∧ t.nv.cells = s.nv.cells) ∧
    (∀ (via : Iface), 
      let w := journalled s via (0x2310 + 0) 5 ⟨1, 1⟩
      Accepts s via (0x2310 + 0) 5 ⟨1, 1⟩ → slotsOf s .host ≠ [] → s.nv.hostCommit = false →
        w.nv.queue.contains (.commit .host s.nv.hostWrites) = false → 
      ∃ t, exec (.hostCommit via) s = .next t ∧ t.nv = { w.nv with queue := w.nv.queue ++ [.commit .host s.nv.hostWrites], hostCommit := true }) ∧
    (∀ (via : Iface), Accepts s via (0x2310 + 0) 5 ⟨1, 1⟩ → slotsOf s .host = [] → 
      let w := journalled s via (0x2310 + 0) 5 ⟨1, 1⟩
      ∃ t, exec (.hostCommit via) s = .next t ∧ t = w) ∧
    (∀ (via : Iface), Accepts s via (0x2310 + 0) 5 ⟨1, 2⟩ → slotsOf s .host ≠ [] → s.nv.hostCommit = false → s.nv.hostWrites ≤ s.nv.sram.dev.pending → 
      let w := journalled s via (0x2310 + 0) 5 ⟨1, 2⟩
      ∃ t, exec (.hostDiscard via) s = .next t ∧ slotsOf t .host = [] ∧ t.nv.hostWrites = 0 ∧
        t.nv.sram.dev.rolledBack = w.nv.sram.dev.rolledBack + s.nv.hostWrites ∧ t.nv.sram.dev.pending = w.nv.sram.dev.pending - s.nv.hostWrites ∧
        t.nv.sram.dev.committed = w.nv.sram.dev.committed ∧ bit (t.rd (key 0x2300 2)) 6 = true ∧ t.nv.cells = s.nv.cells) ∧
    (slotsOf s .host ≠ [] → s.nv.hostCommit = false → s.nv.hostWrites ≤ s.nv.sram.dev.pending → 
      ∃ t, exec (.hostTimeout) s = .next t ∧ slotsOf t .host = [] ∧ t.nv.hostWrites = 0 ∧
        t.nv.sram.dev.rolledBack = s.nv.sram.dev.rolledBack + s.nv.hostWrites ∧ t.nv.sram.dev.pending = s.nv.sram.dev.pending - s.nv.hostWrites ∧
        t.nv.sram.dev.committed = s.nv.sram.dev.committed ∧ bit (t.rd (key 0x2300 2)) 6 = true ∧ t.nv.cells = s.nv.cells ∧
        bit (t.rd (key 0x2300 2)) 7 = true) ∧
    (s.nv.hostCommit = true → 
      ∃ t, exec (.hostTimeout) s = .next t ∧ t = s) ∧
    (0 < s.rd (key 0x2300 6) → s.nv.powerFail = false → s.nv.running = none → s.nv.journal.staged ≠ [] → slotsOf s .host ≠ [] → slotsOf s .record = [] →
        slotsOf s .download = [] → s.nv.hostWrites ≤ s.nv.sram.dev.pending → 
      ∃ t, exec (.pfailFall) s = .next t ∧ t.nv.powerFail = true ∧ t.nv.pfail = true ∧ t.nv.pfStep = 3 ∧ bit (t.rd (key 0x2300 2)) 5 = true ∧
        ⟨faultWord 0 0x0A 0x2C 0x700, s.now⟩ ∈ t.faultIn ∧ slotsOf t .host = [] ∧ slotsOf t .record = [] ∧ slotsOf t .download = [] ∧
        t.nv.queue = [.pfLogs, .pfStore] ∧ t.nv.sram.dev.rolledBack = s.nv.sram.dev.rolledBack + s.nv.hostWrites ∧ t.nv.journal = s.nv.journal ∧
        t.nv.pfClosed = false) ∧
    (0 < s.rd (key 0x2300 6) → s.nv.powerFail = false → s.nv.running ≠ none → 
      ∃ t, exec (.pfailFall) s = .next t ∧ t.nv.powerFail = true ∧ t.nv.pfStep = 1 ∧ t.nv.slots = s.nv.slots ∧ t.nv.running = s.nv.running) ∧
    (s.rd (key 0x2300 6) = 0 → 
      ∃ t, exec (.pfailFall) s = .next t ∧ t.nv = { s.nv with pfail := true } ∧ t.od = s.od ∧ t.faultIn = s.faultIn) ∧
    ((∀ x ∈ s.nv.supplies, x = true) → 
      ∃ t, exec (.pfailRise) s = .next t ∧ t.nv = { s.nv with pfail := false, powerFail := false, pfClosed := false, pfBoot := false, pfStep := 0 } ∧
        t.od = s.od)

/-- R381, R382, R383, R393: a record without a valid copy is written into copy A with SEQ 1, and one that has a served copy into the other with SEQ + 1; ERASE writes both copies to 0xFF in one commit; REPAIR writes the data of the served copy into the other with SEQ + 1; each is one write whose commit is pending, and the cells keep what they held until then; RECORD_SELECT refreshes RECORD_STATE and RECORD_SEQ; and two valid copies of one SEQ with different contents serve copy A, are counted and told. -/
def Obligations.RecordsKeepTwoCopies : Prop :=
  ∀ (s : State) (via : Iface), Live s → s.nv.decay = [] →
    (∀ (d : Datum), Accepts s via (0x2320 + 0) 2 d → (s.rd (key 0x2320 1)) < 1024 → slotsOf s .record = [] → 1 ≤ d.len → d.len ≤ 240 →
        recordServed s (s.rd (key 0x2320 1)) = none → 
      let w := journalled s via (0x2320 + 0) 2 d
      ∃ t, exec (.recordDataWrite via d) s = .next t ∧ (∃ z ∈ t.nv.slots, z.owner = .record ∧ z.page = 0x1800 + 2 * (s.rd (key 0x2320 1)) ∧
        bytesAt z.data 0 2 = (s.rd (key 0x2320 1)) ∧ byteAt z.data 2 = d.len ∧ bytesAt z.data 4 4 = 1 ∧
        bytesAt z.data 16 (d.len) = d.val % 2 ^ (8 * d.len)) ∧ t.nv.recordPending = true ∧ t.nv.queue.contains (.commit .record 1) = true ∧
        t.nv.sram.dev.accepted = w.nv.sram.dev.accepted + 1 ∧ t.nv.cells = s.nv.cells) ∧
    (∀ (d : Datum) (b : Bool), Accepts s via (0x2320 + 0) 2 d → (s.rd (key 0x2320 1)) < 1024 → slotsOf s .record = [] → 1 ≤ d.len → d.len ≤ 240 →
        recordServed s (s.rd (key 0x2320 1)) = some b → 
      let w := journalled s via (0x2320 + 0) 2 d
      ∃ t, exec (.recordDataWrite via d) s = .next t ∧ (∃ z ∈ t.nv.slots, z.owner = .record ∧ z.page = copyPage (s.rd (key 0x2320 1)) (!b) ∧
        bytesAt z.data 0 2 = (s.rd (key 0x2320 1)) ∧ byteAt z.data 2 = d.len ∧
        bytesAt z.data 4 4 = (copySeq s (s.rd (key 0x2320 1)) b + 1) % 2 ^ 32 ∧ bytesAt z.data 16 (d.len) = d.val % 2 ^ (8 * d.len)) ∧
        t.nv.recordPending = true ∧ t.nv.queue.contains (.commit .record 1) = true ∧ t.nv.sram.dev.accepted = w.nv.sram.dev.accepted + 1 ∧
        t.nv.cells = s.nv.cells) ∧
    (Accepts s via (0x2320 + 0) 5 ⟨1, 1⟩ → (s.rd (key 0x2320 1)) < 1024 → slotsOf s .record = [] → 
      let w := journalled s via (0x2320 + 0) 5 ⟨1, 1⟩
      ∃ t, exec (.recordErase via) s = .next t ∧
        slotsOf t .record = [⟨.record, 0x1800 + 2 * (s.rd (key 0x2320 1)), 2 ^ 2048 - 1⟩, ⟨.record, 0x1801 + 2 * (s.rd (key 0x2320 1)), 2 ^ 2048 - 1⟩] ∧ t.nv.recordPending = true ∧ t.nv.queue.contains (.commit .record 1) = true ∧ t.nv.cells = s.nv.cells ∧ t.nv.sram.dev.accepted = w.nv.sram.dev.accepted + 1) ∧
    (∀ (b : Bool), Accepts s via (0x2320 + 0) 5 ⟨1, 2⟩ → (s.rd (key 0x2320 1)) < 1024 → slotsOf s .record = [] →
        recordServed s (s.rd (key 0x2320 1)) = some b → 
      let w := journalled s via (0x2320 + 0) 5 ⟨1, 2⟩
      ∃ t, exec (.recordRepair via) s = .next t ∧ (∃ z ∈ t.nv.slots, z.owner = .record ∧ z.page = copyPage (s.rd (key 0x2320 1)) (!b) ∧
        bytesAt z.data 0 2 = (s.rd (key 0x2320 1)) ∧ byteAt z.data 2 = copyLen s (s.rd (key 0x2320 1)) b ∧
        bytesAt z.data 4 4 = (copySeq s (s.rd (key 0x2320 1)) b + 1) % 2 ^ 32 ∧
        bytesAt z.data 16 (copyLen s (s.rd (key 0x2320 1)) b) = bytesAt (nvPage s (copyPage (s.rd (key 0x2320 1)) b)) 16 (copyLen s (s.rd (key 0x2320 1)) b)) ∧ t.nv.recordPending = true ∧ t.nv.queue.contains (.commit .record 1) = true ∧ t.nv.sram.dev.accepted = w.nv.sram.dev.accepted + 1 ∧ t.nv.cells = s.nv.cells) ∧
    (∀ (d : Datum), Accepts s via (0x2320 + 0) 1 d → 
      ∃ t, exec (.recordSelectWrite via d) s = .next t ∧ t.rd (key 0x2320 1) = d.val ∧ t.rd (key 0x2320 3) = recordState s d.val ∧
        t.rd (key 0x2320 4) = recordSeq s d.val ∧ t.nv.cells = s.nv.cells ∧ t.nv.slots = s.nv.slots) ∧
    (∀ (r : Nat), r < 1024 → copyValid s r false = true → copyValid s r true = true → copySeq s r false = copySeq s r true →
        copyContent s r false ≠ copyContent s r true → s.nv.tied.contains r = false → 
      ∃ t, exec (.recordTie r) s = .next t ∧ t.rd (key 0x2320 6) = (s.rd (key 0x2320 6) + 1) % 2 ^ 32 ∧ bit (t.rd (key 0x2300 2)) 10 = true ∧
        recordServed t r = some false ∧ t.nv.tied = r :: s.nv.tied ∧ t.faultIn = s.faultIn ++ [⟨faultWord 0 0x0B 0x32 (0x800 + r), s.now⟩] ∧
        t.nv.cells = s.nv.cells)

/-- R398, R399, R400, R401, R402, R414: a missed watchdog tells and restarts that engine alone: its locks are released, its gathered writes discarded, its restarts counted, every other engine runs on; the third restart within 1 s makes a device reset of cause WATCHDOG due; an engine comes back; an overload is told once until the load has fallen below 80 %; an ASSIGN write takes its bytes. -/
def Obligations.EnginesRestartAlone : Prop :=
  ∀ (s : State), Live s →
    (∀ (e : Nat), e < 16 → engineUp s e = true → ((s.eng.restarts.getD e []).filter fun u => decide (s.now ≤ u + 1000000000)).length < 2 → 
      ∃ t, exec (.engineWatchdog e) s = .next t ∧ t.engDown = e :: s.engDown ∧ (∀ l ∈ t.eng.locks, l.holder ≠ e ∧ e ∉ l.waiters) ∧
        (∀ w ∈ t.eng.staged, w.q ≠ e) ∧ (∀ w ∈ s.eng.staged, w.q ≠ e → w ∈ t.eng.staged) ∧ ⟨faultWord 0 12 0x33 (0x0900 + e), s.now⟩ ∈ t.faultIn ∧
        bit (t.rd (key 0x2400 2)) 1 = true ∧ t.rd (key (0x2410 + e) 1) = 1 ∧ t.rd (key (0x2410 + e) 4) = min (s.rd (key (0x2410 + e) 4) + 1) 65535 ∧
        t.resetReq = s.resetReq ∧ t.chan = s.chan) ∧
    (∀ (e : Nat), e < 16 → engineUp s e = true → ((s.eng.restarts.getD e []).filter fun u => decide (s.now ≤ u + 1000000000)).length = 2 → 
      ∃ t, exec (.engineWatchdog e) s = .next t ∧ t.resetReq = some (dueCause s.resetReq 7)) ∧
    (∀ (e : Nat), engineUp s e = false → 
      ∃ t, exec (.engineWatchdog e) s = .next t ∧ t = s) ∧
    (∀ (e : Nat), e < 16 → e ≠ 12 → e ≠ 13 → engineUp s e = false → 
      ∃ t, exec (.engineRestartDone e) s = .next t ∧ t.engDown = s.engDown.filter fun x => x != e ∧ t.rd (key (0x2410 + e) 1) = 0 ∧ t.eng = s.eng ∧
        t.dp = s.dp ∧ t.cups = s.cups) ∧
    (∀ (e load : Nat), e < 16 → s.eng.overloaded.length = 16 → 9500 < load → load ≤ 10000 → s.eng.overloaded.getD e false = false → 
      ∃ t, exec (.engineOverload e load) s = .next t ∧ t.eng.overloaded.getD e false = true ∧
        t.faultIn = s.faultIn ++ [⟨faultWord 0 12 0x34 (0x0900 + e), s.now⟩] ∧ bit (t.rd (key 0x2400 2)) 2 = true ∧ t.rd (key (0x2410 + e) 2) = load) ∧
    (∀ (e load : Nat), e < 16 → s.eng.overloaded.length = 16 → load ≤ 10000 → s.eng.overloaded.getD e false = true → 
      ∃ t, exec (.engineOverload e load) s = .next t ∧ t.eng.overloaded.getD e false = decide (8000 ≤ load) ∧ t.faultIn = s.faultIn ∧
        t.rd (key (0x2410 + e) 2) = load) ∧
    (∀ (via : Iface) (d : Datum), Accepts s via (0x2420 + 0) 1 d → 
      ∃ t, exec (.assignWrite via d) s = .next t ∧ t.rd (key 0x2420 1) = d.val ∧ t.ctxs = s.ctxs ∧ t.eng = s.eng)

/-- R404, R405, R406, R408, R410, R412, R416: of the requesters of a cycle the one that stands first, by level and then behind the level's pointer, is granted: its grant is counted and it no longer waits, the pointer stands behind it, and its write enters the store; each other one waits a cycle more and receives the number of requesters ranked ahead of it; one that has waited STARVE_LIMIT cycles is AGED unless it is of class 0; SNAPSHOT copies the counters of every requester and CLEAR_COUNTERS zeroes them; and a CLASS write that ends HOST_GUARANTEE is told. -/
def Obligations.ArbiterGrantsOneEachCycle : Prop :=
  ∀ (s : State), Live s → ShapeWf s →
    (∀ (reqs : List StoreReq) (w : Nat), (∀ q ∈ (reqs.map fun r : StoreReq => r.q), q < 24) → (reqs.map fun r : StoreReq => r.q).Nodup →
        w ∈ (reqs.map fun r : StoreReq => r.q) →
        (∀ q ∈ (reqs.map fun r : StoreReq => r.q), q = w ∨ levelOf s w < levelOf s q ∨ (levelOf s w = levelOf s q ∧ rrPlace s w < rrPlace s q)) → 
      ∃ t, exec (.contextStoreRequest reqs) s = .next t ∧ (t.reqAt w).grants = (s.reqAt w).grants + 1 ∧ (t.reqAt w).waited = 0 ∧
        (t.reqAt w).aged = false ∧
        (t.reqAt w).agedGrants = (if (s.reqAt w).aged then ((s.reqAt w).agedGrants + 1) % 2 ^ 32 else (s.reqAt w).agedGrants) ∧
        t.eng.pointers = s.eng.pointers.set (levelOf s w) ((w + 1) % 24) ∧ (∀ q ∈ (reqs.map fun r : StoreReq => r.q), q ≠ w →
        (t.reqAt q).grants = (s.reqAt q).grants ∧ (t.reqAt q).waits = (s.reqAt q).waits + 1 ∧ (t.reqAt q).waited = (s.reqAt q).waited + 1 ∧
        (t.reqAt q).turn = turnEstimate s (reqs.map fun r : StoreReq => r.q) q) ∧ (∀ q, q ∉ (reqs.map fun r : StoreReq => r.q) →
        (t.reqAt q) = (s.reqAt q))) ∧
    (∀ (q c line v : Nat), q < 24 → c < 256 → line < 8 → holds s q c = false → 
      ∃ t, exec (.contextStoreRequest [⟨q, c, line, some v⟩]) s = .next t ∧ t.ctxRec c (64 * line) 64 = v % 2 ^ 512 ∧ (∀ m, m < 8 → m ≠ line →
        t.ctxRec c (64 * m) 64 = s.ctxRec c (64 * m) 64) ∧ t.eng.staged = s.eng.staged) ∧
    (∀ (q c line v : Nat), q < 16 → holds s q c = true → 
      ∃ t, exec (.contextStoreRequest [⟨q, c, line, some v⟩]) s = .next t ∧ t.eng.staged = s.eng.staged ++ [⟨q, c, line, v⟩] ∧ t.od = s.od) ∧
    (∀ (q : Nat), q < 24 → classOf s q ≠ 0 → s.rd (key 0x2400 6) ≤ (s.reqAt q).waited → 
      ∃ t, exec (.requesterAged q) s = .next t ∧ (t.reqAt q) = { (s.reqAt q) with aged := true }) ∧
    (∀ (q : Nat), (classOf s q = 0 ∨ (s.reqAt q).waited < s.rd (key 0x2400 6)) → 
      ∃ t, exec (.requesterAged q) s = .next t ∧ t = s) ∧
    (∀ (via : Iface), Accepts s via (0x2400 + 0) 8 ⟨1, 1⟩ → 
      ∃ t, exec (.arbiterSnapshot via) s = .next t ∧ (∀ q, q < 24 → t.rd (key (0x2430 + q) 2) = (s.reqAt q).grants % 2 ^ 32 ∧
        t.rd (key (0x2430 + q) 3) = (s.reqAt q).grants / 2 ^ 32 % 2 ^ 32 ∧ t.rd (key (0x2430 + q) 4) = (s.reqAt q).waits % 2 ^ 32 ∧
        t.rd (key (0x2430 + q) 5) = (s.reqAt q).waits / 2 ^ 32 % 2 ^ 32 ∧ t.rd (key (0x2430 + q) 6) = (s.reqAt q).longest ∧
        t.rd (key (0x2430 + q) 7) = (s.reqAt q).agedGrants) ∧ t.rd (key 0x2400 9) = (s.rd (key 0x2400 9) + 1) % 2 ^ 16 ∧
        bit (t.rd (key 0x2400 2)) 5 = true ∧ t.eng = s.eng) ∧
    (∀ (via : Iface), Accepts s via (0x2400 + 0) 8 ⟨1, 2⟩ → 
      ∃ t, exec (.arbiterClearCounters via) s = .next t ∧ (∀ q, q < 24 →
        (t.reqAt q) = { (s.reqAt q) with grants := 0, waits := 0, longest := 0, agedGrants := 0 }) ∧ t.rd (key 0x2400 0x0A) = 0 ∧ (∀ e, e < 16 →
        t.rd (key (0x2410 + e) 4) = 0 ∧ t.rd (key (0x2410 + e) 5) = 0 ∧ t.rd (key (0x2410 + e) 6) = 0 ∧ t.rd (key (0x2410 + e) 7) = 0) ∧
        t.eng.locks = s.eng.locks) ∧
    (∀ (via : Iface) (q : Nat) (d : Datum), q < 24 → Accepts s via (0x2430 + q) 1 d → hostGuarantee s = true → ((q = 16 ∧ d.val ≠ 0) ∨ (q ≠ 16 ∧ q ≠ 17 ∧
        d.val = 0)) → 
      ∃ t, exec (.classWrite via q d) s = .next t ∧ t.rd (key (0x2430 + q) 1) = d.val ∧
        t.faultIn = s.faultIn ++ [⟨faultWord 0 13 0x37 0x0910, s.now⟩] ∧ bit (t.rd (key 0x2400 2)) 0 = true ∧ t.eng = s.eng) ∧
    (∀ (via : Iface) (q : Nat) (d : Datum), q < 24 → Accepts s via (0x2430 + q) 1 d → q = 17 → 
      ∃ t, exec (.classWrite via q d) s = .next t ∧ t.rd (key (0x2430 + q) 1) = d.val ∧ t.faultIn = s.faultIn ∧ t.eng = s.eng)

/-- R404, R413, R414, R415: a lock request is one access and is granted where the lock is free, queued behind the waiters where another holds it, refused LOCK_ORDER and told where an engine with a slot lock asks for a context, LOCK_LIMIT past four contexts or two slots, LOCK_HELD where it holds it; a release writes the gathered lines and an abort discards them, and both pass every lock to its first waiter; and HOLD_LIMIT aborts the holder of the lowest lock that is over it, or the youngest operation of the circle of waits that it stands in. -/
def Obligations.LocksQueueRefuseAndBreak : Prop :=
  ∀ (s : State), Live s → ShapeWf s →
    (∀ (q id : Nat), q < 16 → id < 272 → s.lockOf id = none → ((id < 256 ∧ heldCount s q true = 0 ∧ heldCount s q false < 4) ∨ (256 ≤ id ∧
        heldCount s q true < 2)) → 
      ∃ t, exec (.lockRequest q id) s = .next t ∧ (t.reqAt q).result = 0 ∧ (t.reqAt q).grants = (s.reqAt q).grants + 1 ∧
        t.eng.locks = s.eng.locks ++ [⟨id, q, s.now, []⟩] ∧ t.od = s.od ∧ (t.reqAt q).age = some ((s.reqAt q).age.getD s.eng.nextAge)) ∧
    (∀ (q id : Nat), q < 16 → id < 272 → (s.lockOf id).isSome = true → holds s q id = false → ((id < 256 ∧ heldCount s q true = 0 ∧
        heldCount s q false < 4) ∨ (256 ≤ id ∧ heldCount s q true < 2)) → 
      ∃ t, exec (.lockRequest q id) s = .next t ∧ (t.reqAt q).result = 1 ∧ (t.reqAt q).grants = (s.reqAt q).grants + 1 ∧
        t.eng.locks = s.eng.locks.map fun l => if l.id = id ∧ q ∉ l.waiters then { l with waiters := l.waiters ++ [q] } else l) ∧
    (∀ (q id : Nat), q < 16 → id < 256 → 0 < heldCount s q true → 
      ∃ t, exec (.lockRequest q id) s = .next t ∧ (t.reqAt q).result = 2 ∧ (t.reqAt q).grants = (s.reqAt q).grants + 1 ∧ t.eng.locks = s.eng.locks ∧
        t.rd (key (0x2410 + q) 6) = (s.rd (key (0x2410 + q) 6) + 1) % 2 ^ 32 ∧ bit (t.rd (key 0x2400 2)) 4 = true ∧
        t.faultIn = s.faultIn ++ [⟨faultWord 0 12 0x36 (0x0900 + q), s.now⟩]) ∧
    (∀ (q id : Nat), q < 18 → id < 272 → holds s q id = false → ((id < 256 ∧ heldCount s q true = 0 ∧ 4 ≤ heldCount s q false) ∨ (q < 16 ∧ 256 ≤ id ∧
        2 ≤ heldCount s q true)) → 
      ∃ t, exec (.lockRequest q id) s = .next t ∧ (t.reqAt q).result = 3 ∧ (t.reqAt q).grants = (s.reqAt q).grants + 1 ∧ t.eng.locks = s.eng.locks) ∧
    (∀ (q id : Nat), q < 16 → id < 272 → holds s q id = true → ((id < 256 ∧ heldCount s q true = 0) ∨ 256 ≤ id) → 
      ∃ t, exec (.lockRequest q id) s = .next t ∧ (t.reqAt q).result = 4 ∧ (t.reqAt q).grants = (s.reqAt q).grants + 1 ∧ t.eng.locks = s.eng.locks) ∧
    (∀ (q c line v since : Nat) (ws : List Nat), q < 16 → c < 256 → line < 8 → s.eng.locks = [⟨c, q, since, ws⟩] → q ∉ ws →
        s.eng.staged = [⟨q, c, line, v⟩] → (s.reqAt q).age.isSome = true → 
      ∃ t, exec (.lockRelease q false) s = .next t ∧ t.ctxRec c (64 * line) 64 = v % 2 ^ 512 ∧
        t.eng.locks = (match ws with | [] => [] | u :: r => [⟨c, u, s.now, r⟩]) ∧ (t.reqAt q).age = none ∧
        t.rd (key (0x2410 + q) 7) = min (max (s.rd (key (0x2410 + q) 7)) (s.now - since)) (2 ^ 32 - 1) ∧ (t.reqAt q).grants = (s.reqAt q).grants + 2) ∧
    (∀ (q : Nat), q < 24 → 
      ∃ t, exec (.lockRelease q true) s = .next t ∧ (∀ c, t.rd (key (0x3700 + c % 256) 7) = s.rd (key (0x3700 + c % 256) 7)) ∧
        t.eng.staged = s.eng.staged.filter fun w => w.q != q ∧ (∀ l ∈ t.eng.locks, l.holder ≠ q ∧ q ∉ l.waiters) ∧ (t.reqAt q).age = none ∧
        t.nv = s.nv) ∧
    (∀ (l : Lock), l ∈ s.eng.locks → l.holder < 16 → (l.waiters.isEmpty = false) → l.since + s.rd (key 0x2400 5) * 1000 ≤ s.now →
        (∀ m ∈ s.eng.locks, m = l ∨ l.id < m.id) → (∀ m ∈ s.eng.locks, l.holder ∉ m.waiters) → 
      ∃ t, exec (.holdLimitExpiry) s = .next t ∧ (∀ m ∈ t.eng.locks, m.holder ≠ l.holder ∧ l.holder ∉ m.waiters) ∧
        (∀ w ∈ t.eng.staged, w.q ≠ l.holder) ∧ t.rd (key 0x2400 0x0A) = (s.rd (key 0x2400 0x0A) + 1) % 2 ^ 32 ∧
        t.rd (key (0x2410 + l.holder) 5) = (s.rd (key (0x2410 + l.holder) 5) + 1) % 2 ^ 32 ∧ bit (t.rd (key 0x2400 2)) 3 = true ∧
        t.faultIn = s.faultIn ++ [⟨faultWord 0 12 0x35 (0x0900 + l.holder), s.now⟩] ∧ t.nv = s.nv) ∧
    (∀ (p q a b t0 t1 m n : Nat), p < 16 → q < 16 → p ≠ q → a < b → s.eng.locks = [⟨a, p, t0, [q]⟩, ⟨b, q, t1, [p]⟩] →
        t0 + s.rd (key 0x2400 5) * 1000 ≤ s.now → (s.reqAt p).age = some m → (s.reqAt q).age = some n → m < n → 
      ∃ t, exec (.holdLimitExpiry) s = .next t ∧ t.eng.locks.any (fun m => m.id == b && m.holder == p) = true ∧ (∀ m ∈ t.eng.locks, m.holder ≠ q ∧
        q ∉ m.waiters) ∧ t.rd (key (0x2410 + q) 5) = (s.rd (key (0x2410 + q) 5) + 1) % 2 ^ 32 ∧ ⟨faultWord 0 12 0x35 (0x0900 + q), s.now⟩ ∈ t.faultIn) ∧
    ((∀ m ∈ s.eng.locks, m.waiters.isEmpty = true ∨ s.now < m.since + s.rd (key 0x2400 5) * 1000) → 
      ∃ t, exec (.holdLimitExpiry) s = .next t ∧ t = s)

/-- R422, R425, R426, R427, R428, R429, R432, R434, R441: a message from a reaction shadow is CONSEQUENTIAL and only counted as such; any other takes its kind's level, or PROMOTE_LEVEL at its count, and is escalated by one while an unacknowledged bit of its level stands; its source's sticky bit and its unacknowledged bit of the acted level are set; an L2 or L3 enters the fault state, restarts the quiet period, forces the groups and sets the fault holds that its source selects and opens the shadow over its list; an L3 forces L3_GROUPS as well; a message whose die cannot be reached waits; and INJECT takes the message written. -/
def Obligations.FaultMessagesClassifyAndReact : Prop :=
  ∀ (s : State), Live s → ShapeWf s →
    (∀ (m : Msg), 
      let src := m.word / 2 ^ 22 % 1024
      let base := s.rd (key 0x2201 (m.word / 65536 % 64))
      messageNext s = some m → m.word < 2 ^ 32 → allocated src = true → Comes s m → inShadow s src m.at_ = false → base < 2 →
        s.rd (key 0x2200 9) = 0 → byteAt (sourceCfg s src) 1 ≤ base → 
      ∃ t, exec (.faultMessage) s = .next t ∧ srcBit t 0 src = true ∧ (t.sourceAt src).messages = ((s.sourceAt src).messages + 1) % 2 ^ 32 ∧
        (t.sourceAt src).consequential = (s.sourceAt src).consequential ∧ t.rd (key 0x2200 0x0D) = (s.rd (key 0x2200 0x0D) + 1) % 2 ^ 32 ∧
        (∀ e, allocated e = true → e ≠ src → t.sourceAt e = s.sourceAt e) ∧ srcBit t 1 src = (srcBit s 1 src || base == 1) ∧
        srcBit t 2 src = srcBit s 2 src ∧ t.col.fault = s.col.fault ∧ t.col.groups = s.col.groups ∧ t.col.holds = s.col.holds ∧
        t.col.shadows = s.col.shadows ∧ (base = 1 → bit (t.rd (key 0x2200 2)) 0 = true)) ∧
    (∀ (m : Msg), 
      let src := m.word / 2 ^ 22 % 1024
      let base := s.rd (key 0x2201 (m.word / 65536 % 64))
      messageNext s = some m → m.word < 2 ^ 32 → allocated src = true → Comes s m → inShadow s src m.at_ = false → base = 2 →
        byteAt (sourceCfg s src) 2 < 4 → s.rd (key 0x2200 9) = 0 → byteAt (sourceCfg s src) 1 ≤ base → 
      ∃ t, exec (.faultMessage) s = .next t ∧ srcBit t 0 src = true ∧ (t.sourceAt src).messages = ((s.sourceAt src).messages + 1) % 2 ^ 32 ∧
        (t.sourceAt src).consequential = (s.sourceAt src).consequential ∧ t.rd (key 0x2200 0x0D) = (s.rd (key 0x2200 0x0D) + 1) % 2 ^ 32 ∧
        (∀ e, allocated e = true → e ≠ src → t.sourceAt e = s.sourceAt e) ∧ t.col.fault = true ∧ t.col.quietFrom = some m.at_ ∧
        t.rd (key 0x2200 0x10) = (if s.col.fault then s.rd (key 0x2200 0x10) else (s.rd (key 0x2200 0x10) + 1) % 2 ^ 32) ∧ srcBit t 2 src = true ∧
        srcBit t 1 src = srcBit s 1 src ∧ bit (t.rd (key 0x2200 2)) 1 = true ∧
        t.col.groups = (if bit (byteAt (sourceCfg s src) 2) 0 then setBits s.col.groups (bytesAt (sourceCfg s src) 8 2) else s.col.groups) ∧
        t.col.holds = (if bit (byteAt (sourceCfg s src) 2) 1 then setBits s.col.holds (bytesAt (sourceCfg s src) 10 2) else s.col.holds) ∧
        t.col.shadows = (if byteAt (sourceCfg s src) 2 = 0 then s.col.shadows else s.col.shadows ++ [⟨(List.range (byteAt (sourceCfg s src) 12)).map fun i => bytesAt (sourceCfg s src) (16 + 2 * i) 2, m.at_⟩]) ∧ (∀ n, n < 96 → bit (byteAt (sourceCfg s src) 2) 0 = true → outRole s n = true → bit (bytesAt (sourceCfg s src) 8 2) (s.chCfg n 0x11) = true → (t.outAt n).forced = true)) ∧
    (∀ (m : Msg), 
      let src := m.word / 2 ^ 22 % 1024
      let base := s.rd (key 0x2201 (m.word / 65536 % 64))
      messageNext s = some m → m.word < 2 ^ 32 → allocated src = true → Comes s m → inShadow s src m.at_ = false → base = 1 →
        s.rd (key 0x2200 9) = 1 → levelAny s 1 = true → byteAt (sourceCfg s src) 1 ≤ 1 → byteAt (sourceCfg s src) 2 = 0 → 
      ∃ t, exec (.faultMessage) s = .next t ∧ srcBit t 0 src = true ∧ (t.sourceAt src).messages = ((s.sourceAt src).messages + 1) % 2 ^ 32 ∧
        (t.sourceAt src).consequential = (s.sourceAt src).consequential ∧ t.rd (key 0x2200 0x0D) = (s.rd (key 0x2200 0x0D) + 1) % 2 ^ 32 ∧
        (∀ e, allocated e = true → e ≠ src → t.sourceAt e = s.sourceAt e) ∧ t.col.fault = true ∧ t.col.quietFrom = some m.at_ ∧
        t.rd (key 0x2200 0x10) = (if s.col.fault then s.rd (key 0x2200 0x10) else (s.rd (key 0x2200 0x10) + 1) % 2 ^ 32) ∧ srcBit t 2 src = true ∧
        srcBit t 1 src = srcBit s 1 src ∧ bit (t.rd (key 0x2200 2)) 1 = true ∧ bit (t.rd (key 0x2200 2)) 3 = true ∧
        (t.sourceAt src).escalations = ((s.sourceAt src).escalations + 1) % 2 ^ 32) ∧
    (∀ (m : Msg) (u : Nat), 
      let src := m.word / 2 ^ 22 % 1024
      let base := s.rd (key 0x2201 (m.word / 65536 % 64))
      messageNext s = some m → m.word < 2 ^ 32 → allocated src = true → Comes s m → inShadow s src m.at_ = false → base = 0 →
        s.rd (key 0x2200 9) = 0 → byteAt (sourceCfg s src) 1 = 1 → byteAt (sourceCfg s src) 0 = 2 → (s.sourceAt src).times = [u] → u ≤ m.at_ →
        m.at_ ≤ u + bytesAt (sourceCfg s src) 4 4 * 1000000 → 
      ∃ t, exec (.faultMessage) s = .next t ∧ srcBit t 0 src = true ∧ (t.sourceAt src).messages = ((s.sourceAt src).messages + 1) % 2 ^ 32 ∧
        (t.sourceAt src).consequential = (s.sourceAt src).consequential ∧ t.rd (key 0x2200 0x0D) = (s.rd (key 0x2200 0x0D) + 1) % 2 ^ 32 ∧
        (∀ e, allocated e = true → e ≠ src → t.sourceAt e = s.sourceAt e) ∧ srcBit t 1 src = true ∧ srcBit t 2 src = srcBit s 2 src ∧
        t.col.fault = s.col.fault ∧ bit (t.rd (key 0x2200 2)) 4 = true ∧ (t.sourceAt src).promotions = ((s.sourceAt src).promotions + 1) % 2 ^ 32) ∧
    (∀ (m : Msg), 
      let src := m.word / 2 ^ 22 % 1024
      let base := s.rd (key 0x2201 (m.word / 65536 % 64))
      messageNext s = some m → m.word < 2 ^ 32 → allocated src = true → Comes s m → inShadow s src m.at_ = false → base = 3 →
        byteAt (sourceCfg s src) 1 ≤ 3 → byteAt (sourceCfg s src) 2 = 0 → s.rd (key 0x2200 8) < 65536 → 
      ∃ t, exec (.faultMessage) s = .next t ∧ srcBit t 0 src = true ∧ (t.sourceAt src).messages = ((s.sourceAt src).messages + 1) % 2 ^ 32 ∧
        (t.sourceAt src).consequential = (s.sourceAt src).consequential ∧ t.rd (key 0x2200 0x0D) = (s.rd (key 0x2200 0x0D) + 1) % 2 ^ 32 ∧
        (∀ e, allocated e = true → e ≠ src → t.sourceAt e = s.sourceAt e) ∧ t.col.fault = true ∧ t.col.quietFrom = some m.at_ ∧
        t.rd (key 0x2200 0x10) = (if s.col.fault then s.rd (key 0x2200 0x10) else (s.rd (key 0x2200 0x10) + 1) % 2 ^ 32) ∧ srcBit t 3 src = true ∧
        srcBit t 2 src = srcBit s 2 src ∧ bit (t.rd (key 0x2200 2)) 2 = true ∧ t.col.groups = setBits s.col.groups (s.rd (key 0x2200 8))) ∧
    (∀ (m : Msg), 
      let src := m.word / 2 ^ 22 % 1024
      messageNext s = some m → m.word < 2 ^ 32 → allocated src = true → Comes s m → (∃ h ∈ s.col.shadows, src ∈ h.covers ∧ m.at_ ≤ h.from_ + 10000) → 
      ∃ t, exec (.faultMessage) s = .next t ∧ (t.sourceAt src).consequential = ((s.sourceAt src).consequential + 1) % 2 ^ 32 ∧
        (t.sourceAt src).messages = (s.sourceAt src).messages ∧ (t.sourceAt src).times = (s.sourceAt src).times ∧
        t.rd (key 0x2200 0x0E) = (s.rd (key 0x2200 0x0E) + 1) % 2 ^ 32 ∧ bit (t.rd (key 0x2200 2)) 6 = true ∧ (∀ level, level < 4 →
        srcBit t level src = srcBit s level src) ∧ t.col.fault = s.col.fault ∧ t.col.quietFrom = s.col.quietFrom ∧ t.col.groups = s.col.groups ∧
        t.col.holds = s.col.holds ∧ t.col.shadows = s.col.shadows) ∧
    (∀ (m : Msg), s.faultIn = [m] → messageComes s m = false → 
      ∃ t, exec (.faultMessage) s = .next t ∧ t = s) ∧
    (∀ (via : Iface) (d : Datum), 
      let src := d.val / 2 ^ 22 % 1024
      Accepts s via (0x2200 + 0) 0x0B d → inShadow s src s.now = false → s.rd (key 0x2201 (d.val / 65536 % 64)) < 2 → s.rd (key 0x2200 9) = 0 →
        byteAt (sourceCfg s src) 1 = 0 → 
      ∃ t, exec (.inject via d) s = .next t ∧ srcBit t 0 src = true ∧ (t.sourceAt src).messages = ((s.sourceAt src).messages + 1) % 2 ^ 32 ∧
        (t.sourceAt src).times.head? = some s.now ∧ bit (t.rd (key 0x2200 2)) 8 = true ∧
        t.rd (key 0x2200 0x0D) = (s.rd (key 0x2200 0x0D) + 1) % 2 ^ 32)

/-- R424, R426, R427, R432, R436, R438, R439, R440, R442, R444, R445: an acknowledgement clears the bits written, of that level alone; ACK_ALL clears every one; CLEAR_STICKY and CLEAR_COUNTERS zero what they name; RECOVER and the end of the quiet period leave the fault state: the groups and holds are released, the recovery is counted and its EMCY queued, with sticky and unacknowledged bits as they are; a latched fault state and one outside it are left alone; shadows end after 10 µs; CONFIG and SOURCE_SELECT, the fabric listener, the inbox and the die temperatures do what their entries say. -/
def Obligations.FaultsAreAcknowledgedAndLeft : Prop :=
  ∀ (s : State), Live s → ShapeWf s →
    (∀ (via : Iface) (level w : Nat) (d : Datum), 1 ≤ level → level ≤ 3 → w < 32 → Accepts s via (0x2202 + level) (w + 1) d → 
      ∃ t, exec (.unackW1cWrite via level w d) s = .next t ∧
        t.rd (key (0x2202 + level) (w + 1)) = clearBits (s.rd (key (0x2202 + level) (w + 1))) d.val ∧ (∀ l v, l < 4 → v < 32 → (l ≠ level ∨ v ≠ w) →
        t.rd (key (0x2202 + l) (v + 1)) = s.rd (key (0x2202 + l) (v + 1))) ∧ t.col = s.col) ∧
    (∀ (via : Iface), Accepts s via (0x2200 + 0) 0x0A ⟨1, 1⟩ → 
      ∃ t, exec (.ackAll via) s = .next t ∧ (∀ level src, 1 ≤ level → level < 4 → src < 1024 → srcBit t level src = false) ∧ (∀ src, src < 1024 →
        srcBit t 0 src = srcBit s 0 src) ∧ t.col = s.col) ∧
    (∀ (via : Iface), Accepts s via (0x2200 + 0) 0x0A ⟨1, 3⟩ → 
      ∃ t, exec (.clearSticky via) s = .next t ∧ (∀ src, src < 1024 → srcBit t 0 src = false) ∧ (∀ level src, 1 ≤ level → level < 4 → src < 1024 →
        srcBit t level src = srcBit s level src) ∧ t.col = s.col) ∧
    (∀ (via : Iface), Accepts s via (0x2200 + 0) 0x0A ⟨1, 4⟩ → 
      ∃ t, exec (.collectorClearCounters via) s = .next t ∧ (∀ x ∈ t.col.sources, x.messages = 0 ∧ x.promotions = 0 ∧ x.consequential = 0 ∧
        x.escalations = 0) ∧ t.col.fault = s.col.fault ∧ t.rd (key 0x2200 0x0C) = 0 ∧ t.rd (key 0x2200 0x0D) = 0 ∧ t.rd (key 0x2200 0x0E) = 0 ∧
        t.rd (key 0x2200 0x10) = 0) ∧
    (∀ (via : Iface), Accepts s via (0x2200 + 0) 0x0A ⟨1, 2⟩ → s.col.fault = true → s.boot.booting = false → 
      ∃ t, exec (.recover via) s = .next t ∧ t.col.fault = false ∧ t.col.groups = 0 ∧ t.col.holds = 0 ∧ t.col.quietFrom = none ∧ (∀ n, n < 96 →
        (t.outAt n).forced = false) ∧ t.rd (key 0x2200 0x0C) = (s.rd (key 0x2200 0x0C) + 1) % 2 ^ 32 ∧ bit (t.rd (key 0x2200 2)) 5 = true ∧
        (∃ r, r < 256 ∧ t.col.emcy = s.col.emcy ++ [(r * 65536, true)]) ∧ t.col.sources = s.col.sources ∧ (∀ level src, level < 4 → src < 1024 →
        srcBit t level src = srcBit s level src)) ∧
    (∀ (via : Iface), Accepts s via (0x2200 + 0) 0x0A ⟨1, 2⟩ → s.col.fault = false → 
      let w := journalled s via (0x2200 + 0) 0x0A ⟨1, 2⟩
      ∃ t, exec (.recover via) s = .next t ∧ t = w) ∧
    (s.col.fault = true → s.rd (key 0x2200 6) ≠ 0 → s.col.quietFrom.isSome = true → s.boot.booting = false → 
      ∃ t, exec (.quietPeriodExpiry) s = .next t ∧ t.col.fault = false ∧ t.col.groups = 0 ∧ t.col.holds = 0 ∧ t.col.quietFrom = none ∧ (∀ n, n < 96 →
        (t.outAt n).forced = false) ∧ t.rd (key 0x2200 0x0C) = (s.rd (key 0x2200 0x0C) + 1) % 2 ^ 32 ∧ bit (t.rd (key 0x2200 2)) 5 = true ∧
        (∃ r, r < 256 ∧ t.col.emcy = s.col.emcy ++ [(r * 65536, true)]) ∧ t.col.sources = s.col.sources ∧ (∀ level src, level < 4 → src < 1024 →
        srcBit t level src = srcBit s level src)) ∧
    ((s.col.fault = false ∨ s.rd (key 0x2200 6) = 0) → 
      ∃ t, exec (.quietPeriodExpiry) s = .next t ∧ t = s) ∧
    (∃ t, exec (.shadowExpiry) s = .next t ∧ t.col = { s.col with shadows := s.col.shadows.filter fun h => decide (s.now ≤ h.from_ + 10000) }) ∧
    (∀ (via : Iface) (d : Datum), 
      let src := s.rd (key 0x2210 1)
      Accepts s via (0x2210 + 0) 2 d → d.val < 2 ^ 320 → allocated src = true → storeWf sourceDefault s.col.cfgs = true → 
      ∃ t, exec (.sourceConfigWrite via d) s = .next t ∧ sourceCfg t src = putBytes (putBytes d.val 3 1 0) 13 3 0 ∧ (t.sourceAt src).times = [] ∧
        (t.sourceAt src).messages = (s.sourceAt src).messages ∧ (∀ e, e ≠ src → sourceCfg t e = sourceCfg s e)) ∧
    (∀ (via : Iface) (d : Datum), Accepts s via (0x2210 + 0) 1 d → 
      ∃ t, exec (.sourceSelectWrite via d) s = .next t ∧ t.rd (key 0x2210 1) = d.val ∧ t.rd (key 0x2210 3) = sourceCounts s d.val ∧
        t.rd (key 0x2210 4) = sourceState s d.val ∧ t.col = s.col) ∧
    (s.col.fabric ≠ [] → (s.fab.lsnOut = none ∨ s.col.tries < 4) → 
      ∃ t, exec (.fabricListenerSend) s = .next t ∧ t.col.tries = s.col.tries + 1 ∧ t.col.fabric = s.col.fabric ∧ t.fab.lsnOut.isSome = true) ∧
    (s.col.fabric ≠ [] → s.fab.lsnOut.isSome = true → 4 ≤ s.col.tries → 
      ∃ t, exec (.fabricListenerSend) s = .next t ∧ t.col.fabric = s.col.fabric.drop 1 ∧ t.col.tries = 0 ∧
        t.rd (key 0x2220 8) = (s.rd (key 0x2220 8) + 1) % 2 ^ 32 ∧ t.fab.lsnOut = none) ∧
    (∀ (via : Iface) (d : Datum), Accepts s via (0x2230 + 0) 1 d → s.col.inbox.length < 256 → 
      ∃ t, exec (.inboxWrite via d) s = .next t ∧ t.col.inbox = s.col.inbox ++ [d.val % 2 ^ 64] ∧ t.rd (key 0x2230 4) = s.rd (key 0x2230 4)) ∧
    (∀ (via : Iface) (d : Datum), Accepts s via (0x2230 + 0) 1 d → s.col.inbox.length = 256 → 
      ∃ t, exec (.inboxWrite via d) s = .next t ∧ t.col.inbox = s.col.inbox ∧ t.rd (key 0x2230 4) = (s.rd (key 0x2230 4) + 1) % 2 ^ 32) ∧
    (∀ (via : Iface) (v : Nat) (r : List Nat), viaOn s via = true → s.boot.open_ = true → s.col.inbox = v :: r → 
      ∃ t, exec (.inboxRead via) s = .next t ∧ t.col.inbox = r ∧ t.out = .answer via 0x2230 2 0 ⟨8, v⟩ :: s.out) ∧
    (∀ (via : Iface), viaOn s via = true → s.boot.open_ = true → s.col.inbox = [] → 
      ∃ t, exec (.inboxRead via) s = .next t ∧ t.col = s.col ∧ t.out = .answer via 0x2230 2 0 ⟨8, 2 ^ 64 - 1⟩ :: s.out) ∧
    (∀ (temps : List Int) (d : Nat), d < 8 → dieReachable s d = true → s.col.hot.length = 8 → (s.rd (key 0x2200 0x0F) : Int) ≤ temps.getD d 0 →
        temps.getD d 0 < 32768 → s.col.hot.getD d false = false → 
      ∃ t, exec (.dieTempRefresh temps) s = .next t ∧ t.rdI 16 (key 0x2012 (d + 1)) = temps.getD d 0 ∧ t.col.hot.getD d false = true ∧
        ⟨faultWord d 0x0F 0x39 0, s.now⟩ ∈ t.faultIn) ∧
    (∀ (temps : List Int), (∀ d, d < 8 → dieReachable s d = true) → s.col.hot = List.replicate 8 true → 80 ≤ s.rd (key 0x2200 0x0F) → 
      ∃ t, exec (.dieTempRefresh temps) s = .next t ∧ t.faultIn = s.faultIn ∧ (∀ d, d < 8 →
        t.col.hot.getD d false = decide (s.rd (key 0x2200 0x0F) - 80 ≤ temps.getD d 0)))

/-- R446, R447, R448, R449, R451, R453, R458, R464: a supply that stops being valid makes a reset due, POWER_ON with the loss of core state and SUPPLY_DROP without it, and the page buffer is lost; RST_N and the TAP make one due when they begin to hold; reset takes everything volatile back to its state at reset and keeps the arrays: a running commit completes, pages of no commit are rolled back and their writes counted; nothing releases reset while a supply, RST_N or the TAP holds it; and the release samples the straps and starts the boot at step 1 and 2 with the first of its causes in the order of R449. -/
def Obligations.ResetIsEnteredAndReleased : Prop :=
  ∀ (s : State),
    (∀ (rail : Nat) (lost isSealed : Bool), 
      ∃ t, exec (.supplyValidChange rail false lost isSealed) s = .next t ∧ t.nv.supplies = s.nv.supplies.set rail false ∧
        t.resetReq = some (dueCause s.resetReq (if lost then 1 else 3)) ∧ t.boot.causes = (if lost then 1 else 3) :: s.boot.causes ∧
        t.nv.slots = [] ∧ t.nv.cells = s.nv.cells ∧ t.nv.array = s.nv.array ∧
        t.nv.area_ = (if isSealed then s.nv.area_ else s.nv.area_.map fun _ => { pages := [], writes := 0 })) ∧
    (∀ (rail : Nat) (lost isSealed : Bool), s.nv.powerFail = false → 
      ∃ t, exec (.supplyValidChange rail true lost isSealed) s = .next t ∧ t.nv = { s.nv with supplies := s.nv.supplies.set rail true } ∧
        t.resetReq = s.resetReq ∧ t.boot = s.boot) ∧
    (s.boot.rstLow = false → 
      ∃ t, exec (.rstNLow true) s = .next t ∧ t.boot.rstLow = true ∧ t.resetReq = some (dueCause s.resetReq 2) ∧ t.boot.causes = 2 :: s.boot.causes ∧
        t.nv = s.nv) ∧
    (∃ t, exec (.rstNLow false) s = .next t ∧ t.boot = { s.boot with rstLow := false } ∧ t.resetReq = s.resetReq ∧ t.nv = s.nv) ∧
    (s.boot.tap = false → 
      ∃ t, exec (.jtagResetInstruction true) s = .next t ∧ t.boot.tap = true ∧ t.resetReq = some (dueCause s.resetReq 6) ∧
        t.boot.causes = 6 :: s.boot.causes ∧ t.nv = s.nv) ∧
    (∃ t, exec (.jtagResetInstruction false) s = .next t ∧ t.boot = { s.boot with tap := false } ∧ t.resetReq = s.resetReq ∧ t.nv = s.nv) ∧
    (∀ (c : Nat), s.boot.inReset = false → s.resetReq = some c → c ≠ 1 → c ≠ 3 → s.boot.causes.contains 1 = false → s.boot.causes.contains 3 = false →
        s.nv.running = none → slotsOf s .host ≠ [] → slotsOf s .record = [] → slotsOf s .download = [] → s.nv.hostWrites ≤ s.nv.sram.dev.pending →
        s.nv.journal.staged = [] → s.nv.events.staged = [] → 
      ∃ t, exec (.resetAssert) s = .next t ∧ t.od = State.reset.od ∧ t.dr = State.reset.dr ∧ t.chan = State.reset.chan ∧ t.link = State.reset.link ∧
        t.tcs = State.reset.tcs ∧ t.cups = State.reset.cups ∧ t.dp = State.reset.dp ∧ t.ctxs = State.reset.ctxs ∧ t.ptp = State.reset.ptp ∧
        t.ap = State.reset.ap ∧ t.sched = State.reset.sched ∧ t.eng = State.reset.eng ∧ t.fab = State.reset.fab ∧ t.col = State.reset.col ∧
        t.can = State.reset.can ∧ t.host = State.reset.host ∧ t.now = s.now ∧ t.pending = s.pending ∧ t.free = s.free ∧ t.boot.inReset = true ∧
        t.boot.causes = c :: s.boot.causes ∧ t.cal.area = s.cal.area ∧ t.cal.dies = State.reset.cal.dies ∧ t.nv.cells = s.nv.cells ∧
        t.nv.array = s.nv.array ∧ t.nv.slots = [] ∧ t.nv.queue = [] ∧ t.nv.busy = true ∧
        t.nv.sram.dev.rolledBack = s.nv.sram.dev.rolledBack + s.nv.hostWrites ∧ t.nv.sram.dev.pending = s.nv.sram.dev.pending - s.nv.hostWrites) ∧
    (∀ (c : Nat) (z : Seal), s.boot.inReset = false → s.resetReq = some c → c ≠ 1 → c ≠ 3 → s.boot.causes.contains 1 = false →
        s.boot.causes.contains 3 = false → storeWf (fun _ => (255 : Byte)) s.nv.cells = true → s.nv.running = some (.commit .host z.writes) →
        s.nv.area_ = some z → (z.pages.map (fun q => q.1)).Nodup → z.writes ≤ s.nv.sram.dev.pending → s.nv.journal.staged = [] →
        s.nv.events.staged = [] → 
      ∃ t, exec (.resetAssert) s = .next t ∧ (∀ a, storeRd (255 : Byte) t.nv.cells a = BitVec.ofNat 8 (nvByte s a)) ∧ t.nv.area_ = none ∧
        t.nv.sram.dev.committed = s.nv.sram.dev.committed + z.writes) ∧
    (s.boot.inReset = false → (s.resetReq = some 1 ∨ s.resetReq = some 3) → 
      ∃ t, exec (.resetAssert) s = .next t ∧ t.boot.inReset = true ∧ t.cal.area = 0 ∧ t.nv.cells = s.nv.cells ∧ t.nv.array = s.nv.array ∧
        t.nv.area_ = s.nv.area_ ∧ t.nv.sram = s.nv.sram) ∧
    (s.boot.inReset = false → s.resetReq = none → s.boot.rstLow = false → s.boot.tap = false → (∀ x ∈ s.nv.supplies, x = true) → 
      ∃ t, exec (.resetAssert) s = .next t ∧ t = s) ∧
    (s.boot.inReset = true → (s.boot.rstLow = true ∨ s.boot.tap = true ∨ false ∈ s.nv.supplies) → 
      ∃ t, exec (.resetRelease) s = .next t ∧ t = s) ∧
    (∀ (c : Nat), s.boot.inReset = true → s.boot.rstLow = false → s.boot.tap = false → (∀ x ∈ s.nv.supplies, x = true) → c ∈ s.boot.causes →
        c ∈ [1, 3, 2, 6, 7, 4, 5] → (∀ x ∈ s.boot.causes, [1, 3, 2, 6, 7, 4, 5].idxOf c ≤ [1, 3, 2, 6, 7, 4, 5].idxOf x) → 
      ∃ t, exec (.resetRelease) s = .next t ∧ t.host.mode = s.boot.strapMode ∧ t.host.nid = s.boot.strapNid ∧ t.boot.inReset = false ∧
        t.boot.booting = true ∧ t.boot.done = List.replicate 8 false ∧ t.rd (key 0x2000 8) = c ∧ t.rd (key 0x2046 1) = 1 ∧ t.rd (key 0x2046 3) = 0 ∧
        t.rd (key 0x2046 4) = 8 ∧ t.resetReq = none ∧ t.nv = { s.nv with powerFail := s.nv.pfail, pfBoot := s.nv.pfail } ∧ t.dp = s.dp ∧ t.col = s.col)

/-- R370, R378, R386, R450, R453, R454, R455, R456, R458, R462, R463: each step, in its turn, does its work and is counted in POSITION: SOSC, recovery with its RECOVERY and BOOT_COUNT, the image that can run, or the other, or the loader, the stored configuration placed and the dictionary open, the multiplier locked, the channels and APLLs acted on or left inactive with their refusal in RESULT; DONE ends the boot and the fault state in which the device left reset, unless an L2 or L3 message was taken meanwhile; and a step out of its turn does nothing. -/
def Obligations.BootRunsItsSteps : Prop :=
  ∀ (s : State), s.boot.done.length = 8 →
    (∀ (mode nid : Nat) (sosc : Bool), stepTurn s 0 [] = true → mode < 8 → nid < 128 → 
      ∃ t, exec (.bootClocksDone mode nid sosc) s = .next t ∧ t.host = s.host ∧ t.boot.strapMode = mode ∧ t.boot.strapNid = nid ∧ t.dp.mxo = !sosc ∧
        t.chan.base.sosc = sosc ∧ t.chan.base.inUse = s.chan.base.inUse ∧ t.boot.done = s.boot.done.set 0 true ∧
        t.rd (key 0x2046 3) = (t.boot.done.filter id).length) ∧
    (stepTurn s 1 [] = true → s.nv.area_ = none → s.rd (key 0x2000 8) ≠ 1 → s.rd (key 0x2000 8) ≠ 3 → s.nv.journal.staged = [] → 
      ∃ t, exec (.bootRecoveryDone) s = .next t ∧ t.nv.sram.dev.bootCount = (s.nv.sram.dev.bootCount + 1) % 2 ^ 32 ∧
        t.rd (key 0x2000 7) = t.nv.sram.dev.bootCount ∧ t.rd (key 0x2300 9) = 0 ∧ t.nv.busy = false ∧ t.nv.cells = s.nv.cells ∧
        t.nv.sram.comm = s.nv.sram.comm ∧
        (t.nv.journal.staged.head?.map fun r => (byteAt r.val 14, bytesAt r.val 16 2, bytesAt r.val 28 4)) = some (7, s.rd (key 0x2000 8) % 65536, t.nv.sram.dev.bootCount) ∧ t.boot.done = s.boot.done.set 1 true ∧ t.rd (key 0x2046 3) = (t.boot.done.filter id).length) ∧
    (stepTurn s 1 [] = true → s.nv.area_ = none → s.nv.decay = [] → (s.rd (key 0x2000 8) = 1 ∨ s.rd (key 0x2000 8) = 3) → s.nv.journal.staged = [] →
        s.nv.journal.waiting = [] → 
      ∃ t, exec (.bootRecoveryDone) s = .next t ∧
        t.nv.sram = { (match s.nv.array with | some x => x | none => {}) with area := 0, dev := t.nv.sram.dev } ∧
        t.cal.area = (match s.nv.array with | some x => x.area | none => 0) ∧
        t.nv.sram.dev.bootCount = ((match s.nv.array with | some x => x.dev.bootCount | none => 0) + 1) % 2 ^ 32 ∧ (s.nv.array = none →
        bit (t.rd (key 0x2300 2)) 2 = true ∧ ⟨faultWord 0 0x0A 0x2E 0x701, s.now⟩ ∈ t.faultIn) ∧ (∀ x, s.nv.array = some x → x.cause = 1 →
        t.nv.stale = false) ∧ (∀ x, s.nv.array = some x → x.cause = 0 → t.nv.stale = true ∧
        t.nv.sram.dev.rolledBack = x.dev.rolledBack + x.dev.pending) ∧ t.boot.done = s.boot.done.set 1 true) ∧
    (∀ (z : Seal), stepTurn s 1 [] = true → storeWf (fun _ => (255 : Byte)) s.nv.cells = true → s.nv.area_ = some z → badGroups s 0x40000000 4160 = [] →
        (z.pages.map (fun q => q.1)).Nodup → 
      ∃ t, exec (.bootRecoveryDone) s = .next t ∧ (∀ a, storeRd (255 : Byte) t.nv.cells a = BitVec.ofNat 8 (nvByte s a)) ∧ t.nv.area_ = none ∧
        t.rd (key 0x2300 9) = (if z.pages = [] then 2 else 1) ∧ ⟨faultWord 0 0x0A 0x2D 0x700, s.now⟩ ∈ t.faultIn ∧
        bit (t.rd (key 0x2300 2)) 1 = true ∧ t.nv.busy = false ∧ t.boot.done = s.boot.done.set 1 true) ∧
    (stepTurn s 2 [1] = true → imageRuns s s.nv.sram.dev.bootImage = true → s.nv.decay = [] → 
      ∃ t, exec (.bootFirmwareDone) s = .next t ∧ t.rd (key 0x2000 5) = s.nv.sram.dev.bootImage ∧
        t.rd (key 0x2000 6) = imageField s s.nv.sram.dev.bootImage 8 4 ∧ t.rd (key 0x2046 6) = s.nv.sram.dev.bootImage ∧ t.nv = s.nv ∧
        t.boot.done = s.boot.done.set 2 true ∧ t.rd (key 0x2046 3) = (t.boot.done.filter id).length) ∧
    (stepTurn s 2 [1] = true → imageRuns s s.nv.sram.dev.bootImage = false → imageRuns s (1 - s.nv.sram.dev.bootImage) = true → 
      ∃ t, exec (.bootFirmwareDone) s = .next t ∧ t.rd (key 0x2000 5) = 1 - s.nv.sram.dev.bootImage ∧
        t.nv.sram.dev.bootImage = 1 - s.nv.sram.dev.bootImage ∧ t.nv.sram.dev.fallbacks = s.nv.sram.dev.fallbacks + 1 ∧
        ⟨faultWord 0 0x0A 0x31 0x703, s.now⟩ ∈ t.faultIn ∧ bit (t.rd (key 0x2300 2)) 11 = true ∧ t.boot.done = s.boot.done.set 2 true) ∧
    (stepTurn s 2 [1] = true → imageRuns s s.nv.sram.dev.bootImage = false → imageRuns s (1 - s.nv.sram.dev.bootImage) = false → 
      ∃ t, exec (.bootFirmwareDone) s = .next t ∧ t.boot.loader = true ∧ t.boot.done = s.boot.done ∧ t.nv.flash = 2 ∧ t.rd (key 0x2046 1) = 3 ∧
        t.rd (key 0x2046 3) = 2 ∧ t.rd (key 0x2046 5) = 0x08000022 ∧ t.rd (key 0x2000 6) = 0 ∧ t.can.joined = true) ∧
    (∀ (e : Nat × Datum), stepTurn s 3 [0, 2] = true → calBlank s.cal.area = true → s.nv.sram.loadAll = false → s.nv.sram.loadComm = false →
        s.nv.sram.loadApp = false → s.nv.sram.comm = [] → s.nv.sram.app = [e] → 0x300000 ≤ e.1 → e.1 < 0x370000 →
        formRefuse (e.1 / 256) (e.1 % 256) e.2 = 0 → unreserved (e.1 / 256) (e.1 % 256) e.2.val = e.2.val →
        comboBroken (s.put e.1 e.2.val) (e.1 / 256) (e.1 % 256) e.2 = 0 → 
      ∃ t, exec (.bootRestoreDone) s = .next t ∧ t.rd e.1 = e.2.val ∧ t.boot.open_ = true ∧ t.boot.result = s.boot.result ∧ t.nv = s.nv ∧
        t.dp = s.dp ∧ t.ap = s.ap ∧ t.tcs = s.tcs ∧ t.boot.done = s.boot.done.set 3 true ∧ t.rd (key 0x2046 3) = (t.boot.done.filter id).length) ∧
    (∀ (e : Nat × Datum), stepTurn s 3 [0, 2] = true → calBlank s.cal.area = true → s.nv.sram.loadAll = false → s.nv.sram.loadComm = false →
        s.nv.sram.loadApp = false → s.nv.sram.comm = [] → s.nv.sram.app = [e] → s.boot.result = 0 → 0x300000 ≤ e.1 → e.1 < 0x370000 →
        formRefuse (e.1 / 256) (e.1 % 256) e.2 ≠ 0 → comboBroken s (e.1 / 256) (e.1 % 256) e.2 = 0 → 
      ∃ t, exec (.bootRestoreDone) s = .next t ∧ t.rd e.1 = s.rd e.1 ∧ t.boot.open_ = true ∧ t.boot.result = formRefuse (e.1 / 256) (e.1 % 256) e.2 ∧
        t.boot.done = s.boot.done.set 3 true) ∧
    (stepTurn s 3 [0, 2] = true → s.nv.sram.loadAll = true → 
      ∃ t, exec (.bootRestoreDone) s = .next t ∧
        t.nv.sram = { s.nv.sram with comm := [], app := [], loadAll := false, loadComm := false, loadApp := false } ∧ t.boot.open_ = true ∧
        t.boot.result = s.boot.result ∧ t.boot.done = s.boot.done.set 3 true) ∧
    (stepTurn s 4 [3] = true → 
      ∃ t, exec (.bootCalibrationDone) s = .next t ∧ t.ap.relocking = false ∧ t.link.ready = true ∧ t.link.links = s.link.links ∧
        t.boot.done = s.boot.done.set 4 true ∧ t.rd (key 0x2046 3) = (t.boot.done.filter id).length) ∧
    (stepTurn s 5 [4] = true → 
      ∃ t, exec (.bootChannelsDone) s = .next t ∧ (∀ n, n < 96 →
        t.rd (key (0x3000 + n) 0x0E) = s.rd (key (0x3000 + n) 0x0E) ∨ (t.rd (key (0x3000 + n) 0x0E) = 0 ∧ t.boot.result ≠ 0)) ∧ (∀ n, n < 96 →
        t.rd (key (0x3100 + n) 5) = s.rd (key (0x3100 + n) 5) ∨ (t.rd (key (0x3100 + n) 5) = 0 ∧ t.boot.result ≠ 0)) ∧ (∀ j, j < 8 →
        t.rd (key (0x3500 + j) 5) = s.rd (key (0x3500 + j) 5) ∨ (t.rd (key (0x3500 + j) 5) = 0 ∧ t.boot.result ≠ 0)) ∧
        t.boot.done = s.boot.done.set 5 true ∧ t.rd (key 0x2046 3) = (t.boot.done.filter id).length) ∧
    (stepTurn s 6 [5] = true → 
      ∃ t, exec (.bootSynthesisDone) s = .next t ∧ t.ap = s.ap ∧ t.dp = s.dp ∧ t.boot.done = s.boot.done.set 6 true ∧
        t.rd (key 0x2046 3) = (t.boot.done.filter id).length) ∧
    (stepTurn s 7 [6] = true → s.boot.fault = false → 
      ∃ t, exec (.bootDone) s = .next t ∧ t.boot.booting = false ∧ t.can.joined = true ∧ t.can.nmt = (if s.can.node = 0xFF then 3 else 1) ∧
        t.cal.running = true ∧ t.col.fault = false ∧ (∃ r, r < 256 ∧ t.col.emcy = s.col.emcy ++ [(r * 65536, true)]) ∧
        t.rd (key 0x2200 0x0C) = s.rd (key 0x2200 0x0C) ∧ t.boot.done = s.boot.done.set 7 true ∧ t.rd (key 0x2046 1) = 2 ∧
        t.rd (key 0x2046 3) = s.rd (key 0x2046 4)) ∧
    (stepTurn s 7 [6] = true → s.boot.fault = true → s.col.fault = true → s.col.quietOver = false → 
      ∃ t, exec (.bootDone) s = .next t ∧ t.boot.booting = false ∧ t.col.fault = true ∧ t.col.emcy = s.col.emcy ∧ t.rd (key 0x2046 1) = 2) ∧
    (stepTurn s 7 [6] = false → 
      ∃ t, exec (.bootDone) s = .next t ∧ t = s)

/-- The frame of every row of the opcode table, by parts of the state (R1, R20): for every command and every state exec goes on, the queue stays as it was, and every part outside the table `touched` is unchanged: only time moves time, a link event touches no DPLL, a counter row no store. A row that is the write of one entry (`entryWrite`), accepted while nothing else waits at the host port, has its entry's own effect on the journalled state once it has come to its die, and touches no part outside the narrower table `writeTouched`. -/
def Obligations.EveryCommandKeepsTheOtherParts : Prop :=
  (∀ (c : Instr) (s : State), ∃ t, exec c s = .next t ∧ t.pending = s.pending ∧ ∀ p, p ∉ touched c → Part.same s t p) ∧
    (∀ (c : Instr) (s : State) (via : Iface) (i sub : Nat) (d : Datum), entryWrite c = some (via, i, sub, d) → Accepts s via i sub d →
      ∃ t, exec c s = .next t ∧ t = refill (applyWrite serveRemote (arrived s via i sub d) via i sub d) ∧
        ∀ p, p ∉ writeTouched c → Part.same s t p)

/-- The frame of the registers, by objects of the dictionary (R20, R49): a well-formed command of the table `objectsTouched` changes no entry, in the hub or on a die, outside the objects listed there for it (a cupping event those of its own channel, a commit those of the store, a step of the boot those it publishes); and a row that is the write of one entry, accepted while no earlier one waits, changes no entry outside the object it is addressed to and the few listed in `objectsWritten`. -/
def Obligations.OtherObjectsKeepTheirValues : Prop :=
  (∀ (c : Instr) (s : State) (l : List (Nat × Nat)), ShapeWf s → c.wf = true → objectsTouched c = some l →
      ∃ t, exec c s = .next t ∧ ∀ index sub, sub < 256 → inObjects l index = false →
        t.rd (key index sub) = s.rd (key index sub) ∧ t.drd (key index sub) = s.drd (key index sub)) ∧
    (∀ (c : Instr) (s : State) (via : Iface) (i sub : Nat) (d : Datum) (l : List (Nat × Nat)), ShapeWf s → c.wf = true →
      entryWrite c = some (via, i, sub, d) → Accepts s via i sub d → objectsWritten c = some l →
      ∃ t, exec c s = .next t ∧ ∀ index sub', sub' < 256 → inObjects ((i, 1) :: l) index = false →
        t.rd (key index sub') = s.rd (key index sub') ∧ t.drd (key index sub') = s.drd (key index sub'))

/-- R1, R3, R5, R29, R36, R44, R45, R366, R389: in every state that is Sound, a step that answers a next state leaves a Sound state: the dictionary and the main array stay in their canonical form, the device keeps its units, the words of every die link balance with its retained buffer in both directions, the stamps of every channel balance with its FIFO, a snapshot in progress stays in balance, and the writes accepted into the page buffer are those committed, rolled back and pending; and the step takes the front of the queue. -/
def Obligations.EveryStepKeepsSound : Prop :=
  ∀ s t : State, Sound s → step s = .next t → Sound t ∧ t.pending = s.pending.tail

/-- R1, R5, R8: the state right after reset meets every invariant at once, and no command waits. -/
def Obligations.ResetIsSound : Prop :=
  Sound State.reset ∧ State.reset.pending = []

/-- R8, R49, R237, R244, R449, R453, R458, R462: after reset every entry of the dictionary in the hub reads its default but LAST_RESET_CAUSE (POWER_ON) and the entries of the boot's progress (RUNNING, 8 steps); on S and the C dies every register reads its default but the STATUS of the eight APLLs, which are OFF and on bypass; the boot is at its beginning with the dictionary closed and no step ended; the collector is in the fault state; every time counter is unset and at 0; no interface has a write pending, no fault message is on its way, and no link is UP. That the state after reset is that of a first power-up with blank arrays is the model's choice (log entry 42). -/
def Obligations.ResetLeavesTheDefaults : Prop :=
  (∀ k, State.reset.rd k = if k = key 0x2000 8 then 1 else if k = key 0x2046 1 then 1 else if k = key 0x2046 4 then 8 else defaultOf k) ∧
    (∀ k, State.reset.drd k = if k % 256 = 1 ∧ 0x3500 ≤ k / 256 ∧ k / 256 < 0x3508 then 8 else defaultOf k) ∧
    State.reset.boot.booting = true ∧ State.reset.boot.open_ = false ∧ State.reset.boot.done = List.replicate 8 false ∧
    State.reset.col.fault = true ∧ (∀ c ∈ State.reset.tcs, c.unset = true ∧ c.val = 0) ∧ State.reset.host.posted = [] ∧
    State.reset.faultIn = [] ∧ (∀ l, State.reset.linkUp l = false)

/-- R449: when the device leaves reset, LAST_RESET_CAUSE (2000h.08) takes the first of the causes that have arisen since the last release, in the order POWER_ON, SUPPLY_DROP, RST_N, JTAG, WATCHDOG, NMT_FULL, SOFTWARE; a reset that arrives while a boot runs asserts whatever step the boot has reached, keeps every cause that arose, and the release that follows starts a new boot with no step ended. -/
def Obligations.LastResetCauseIsTheFirstInOrder : Prop :=
  let order : List Nat := [1, 3, 2, 6, 7, 4, 5]
  (∀ (s : State) (c : Nat), s.boot.inReset = true → heldInReset s = false → c ∈ s.boot.causes → c ∈ order →
      (∀ x ∈ s.boot.causes, x ∈ order → order.idxOf c ≤ order.idxOf x) →
      ∃ t, exec .resetRelease s = .next t ∧ t.rd (key 0x2000 8) = c ∧ t.boot.causes = []) ∧
    (∀ (s : State) (c : Nat), s.boot.inReset = false → s.boot.booting = true → s.resetReq = some c →
      ∃ t, exec .resetAssert s = .next t ∧ t.boot.inReset = true ∧ c ∈ t.boot.causes ∧ (∀ x ∈ s.boot.causes, x ∈ t.boot.causes) ∧
        (heldInReset t = false → ∃ u, exec .resetRelease t = .next u ∧ u.boot.inReset = false ∧ u.boot.booting = true ∧
          u.boot.done = List.replicate 8 false ∧ u.rd (key 0x2046 3) = 0))

/-- R402: a restart of an engine is kept with its time; when the two restarts before it lie within 1 s, a reset of the device is due with cause WATCHDOG (0x0007) unless one of an earlier cause is due already, internal reset asserts with that cause, and the release that follows reports it when no cause of higher rank has arisen; with fewer restarts within 1 s no reset becomes due. -/
def Obligations.ThirdRestartResetsTheDevice : Prop :=
  ∀ (s : State) (e : Nat), Live s → e < 16 → engineUp s e = true → s.eng.restarts.length = 16 →
    (∃ t, exec (.engineWatchdog e) s = .next t ∧
      t.eng.restarts.getD e [] = ((s.eng.restarts.getD e []).filter fun u => decide (s.now ≤ u + 1000000000)) ++ [s.now] ∧
      (∀ q, q ≠ e → t.eng.restarts.getD q [] = s.eng.restarts.getD q [])) ∧
    (2 ≤ ((s.eng.restarts.getD e []).filter fun u => decide (s.now ≤ u + 1000000000)).length → s.resetReq = none → s.boot.causes = [] →
      ∃ t, exec (.engineWatchdog e) s = .next t ∧ t.resetReq = some 7 ∧
        ∃ u, exec .resetAssert t = .next u ∧ u.boot.inReset = true ∧ u.boot.causes = [7] ∧
          (heldInReset u = false → ∃ v, exec .resetRelease u = .next v ∧ v.boot.inReset = false ∧ v.rd (key 0x2000 8) = 7)) ∧
    (((s.eng.restarts.getD e []).filter fun u => decide (s.now ≤ u + 1000000000)).length < 2 →
      ∃ t, exec (.engineWatchdog e) s = .next t ∧ t.resetReq = s.resetReq)

/-- R376: READ_DATA (2310h.03) returns the bytes of the main array; a byte of a page that a standing seal lists comes from the commit area and every other byte from its cell; nothing in the page buffer changes what a read returns; and when the seal is CLEARED every byte reads as it read under the seal, so that each page is seen wholly before or wholly after the commit. -/
def Obligations.ReadsServeCellsOrTheCommitArea : Prop :=
  (∀ (s : State) (via : Iface), s.boot.open_ = true → s.rd (key 0x2310 1) + s.rd (key 0x2310 2) ≤ 0x400000 →
      (eccRead s (s.rd (key 0x2310 1)) (s.rd (key 0x2310 2))).1 ≠ 2 →
      (readEntry s via 0x2310 3).1 = 0 ∧
      (readEntry s via 0x2310 3).2.1 = ⟨s.rd (key 0x2310 2), nvBytes s (s.rd (key 0x2310 1)) (s.rd (key 0x2310 2))⟩) ∧
    (∀ (s : State) (a : Nat), (∀ z, s.nv.area_ = some z → storeGet z.pages (a / 256) = none) →
      nvByte s a = (storeRd (255 : Byte) s.nv.cells a).toNat) ∧
    (∀ (s : State) (a : Nat) (z : Seal) (v : Nat), s.nv.area_ = some z → storeGet z.pages (a / 256) = some v →
      nvByte s a = byteAt v (a % 256)) ∧
    (∀ (s : State) (l : List Slot) (a n : Nat), nvBytes { s with nv := { s.nv with slots := l } } a n = nvBytes s a n) ∧
    (∀ (s : State) (j : Job) (z : Seal), Live s → ArrayWf s → s.nv.running = some j → s.nv.area_ = some z → (z.pages.map fun q => q.1).Nodup →
      ∃ t, exec .commitComplete s = .next t ∧ t.nv.area_ = none ∧ ∀ a n, nvBytes t a n = nvBytes s a n)

/-- R61: what a read of an entry returns does not depend on the writes that have been accepted and have not taken effect, whichever interface reads; the counts of pending writes (2011h) and the data of a stream object, which may be reading those counts, are the exceptions. -/
def Obligations.PendingWritesAreNotRead : Prop :=
  ∀ (s : State) (via : Iface) (index sub : Nat) (l : List Posted), index ≠ 0x2011 → streamData index sub = none →
    (readEntry { s with host := { s.host with posted := l } } via index sub).1 = (readEntry s via index sub).1 ∧
    (readEntry { s with host := { s.host with posted := l } } via index sub).2.1 = (readEntry s via index sub).2.1
end

