-- ==== Sys2Proof/Laws/Store.lean ====
section
/-! SUPPORT. The laws of the sparse maps: what a read after a write gives, and that a write keeps the canonical form. -/

namespace Sys2Proof.Machine

variable {α : Type}

theorem risingFrom_mono {b c : Nat} (h : b ≤ c) : ∀ {m : List (Nat × α)}, risingFrom c m = true → risingFrom b m = true
  | [], _ => rfl
  | (a, v) :: r, hm => by
    simp only [risingFrom, Bool.and_eq_true, decide_eq_true_eq] at hm ⊢
    exact ⟨Nat.le_trans h hm.1, hm.2⟩

theorem storeGet_below {b k : Nat} : ∀ {m : List (Nat × α)}, risingFrom b m = true → k < b → storeGet m k = none
  | [], _, _ => rfl
  | (a, v) :: r, hm, hk => by
    simp only [risingFrom, Bool.and_eq_true, decide_eq_true_eq] at hm
    have hne : a ≠ k := by omega
    simp only [storeGet, hne, if_false]
    exact storeGet_below hm.2 (by omega)

theorem storeDel_rising {b : Nat} (k : Nat) : ∀ {m : List (Nat × α)}, risingFrom b m = true → risingFrom b (storeDel m k) = true
  | [], _ => rfl
  | (a, v) :: r, hm => by
    simp only [risingFrom, Bool.and_eq_true, decide_eq_true_eq] at hm
    simp only [storeDel]
    split
    · exact risingFrom_mono (by omega) (storeDel_rising k hm.2)
    · simp only [risingFrom, Bool.and_eq_true, decide_eq_true_eq]
      exact ⟨hm.1, storeDel_rising k hm.2⟩

theorem storeDel_all {p : Nat × α → Bool} (k : Nat) : ∀ {m : List (Nat × α)}, m.all p = true → (storeDel m k).all p = true
  | [], _ => rfl
  | (a, v) :: r, hm => by
    simp only [List.all_cons, Bool.and_eq_true] at hm
    simp only [storeDel]
    split
    · exact storeDel_all k hm.2
    · simp only [List.all_cons, Bool.and_eq_true]
      exact ⟨hm.1, storeDel_all k hm.2⟩

theorem storeIns_rising {b k : Nat} (v : α) : ∀ {m : List (Nat × α)}, risingFrom b m = true → b ≤ k →
    risingFrom b (storeIns m k v) = true
  | [], _, hk => by simp [storeIns, risingFrom, hk]
  | (a, w) :: r, hm, hk => by
    simp only [risingFrom, Bool.and_eq_true, decide_eq_true_eq] at hm
    simp only [storeIns]
    split
    · simp only [risingFrom, Bool.and_eq_true, decide_eq_true_eq]
      exact ⟨hk, by omega, hm.2⟩
    · split
      · simp only [risingFrom, Bool.and_eq_true, decide_eq_true_eq]
        exact ⟨hk, risingFrom_mono (by omega) hm.2⟩
      · simp only [risingFrom, Bool.and_eq_true, decide_eq_true_eq]
        exact ⟨hm.1, storeIns_rising v hm.2 (by omega)⟩

theorem storeIns_all {p : Nat × α → Bool} {k : Nat} {v : α} (hv : p (k, v) = true) : ∀ {m : List (Nat × α)},
    m.all p = true → (storeIns m k v).all p = true
  | [], _ => by simp [storeIns, hv]
  | (a, w) :: r, hm => by
    have hm' := hm
    simp only [List.all_cons, Bool.and_eq_true] at hm
    simp only [storeIns]
    split
    · simp [hv, hm']
    · split
      · simp [hv, hm.2]
      · simp only [List.all_cons, Bool.and_eq_true]
        exact ⟨hm.1, storeIns_all hv hm.2⟩

/-- A write keeps the canonical form. -/
theorem storePut_wf [DecidableEq α] (d : Nat → α) {m : List (Nat × α)} (k : Nat) (v : α) (h : storeWf d m = true) :
    storeWf d (storePut (d k) m k v) = true := by
  simp only [storeWf, Bool.and_eq_true] at h ⊢
  unfold storePut
  split
  · exact ⟨storeDel_rising k h.1, storeDel_all k h.2⟩
  · rename_i hv
    exact ⟨storeIns_rising v h.1 (Nat.zero_le k), storeIns_all (by simpa using hv) h.2⟩

theorem filter_rising {b : Nat} (p : Nat × α → Bool) : ∀ {m : List (Nat × α)}, risingFrom b m = true → risingFrom b (m.filter p) = true
  | [], _ => rfl
  | (a, v) :: r, hm => by
    simp only [risingFrom, Bool.and_eq_true, decide_eq_true_eq] at hm
    simp only [List.filter_cons]
    split
    · simp only [risingFrom, Bool.and_eq_true, decide_eq_true_eq]
      exact ⟨hm.1, filter_rising p hm.2⟩
    · exact risingFrom_mono (by omega) (filter_rising p hm.2)

/-- Leaving entries out keeps the canonical form. -/
theorem filter_wf [DecidableEq α] (d : Nat → α) (p : Nat × α → Bool) {m : List (Nat × α)} (h : storeWf d m = true) :
    storeWf d (m.filter p) = true := by
  simp only [storeWf, Bool.and_eq_true] at h ⊢
  refine ⟨filter_rising p h.1, ?_⟩
  have h2 := h.2
  simp only [List.all_eq_true] at h2 ⊢
  intro e he
  exact h2 e (List.mem_filter.mp he).1

theorem storeGet_del_self (k : Nat) : ∀ (m : List (Nat × α)), storeGet (storeDel m k) k = none
  | [] => rfl
  | (a, v) :: r => by
    simp only [storeDel]
    split
    · exact storeGet_del_self k r
    · rename_i h
      simp only [storeGet, h, if_false]
      exact storeGet_del_self k r

theorem storeGet_del_other {k j : Nat} (h : j ≠ k) : ∀ (m : List (Nat × α)), storeGet (storeDel m k) j = storeGet m j
  | [] => rfl
  | (a, v) :: r => by
    simp only [storeDel]
    split
    · rename_i ha
      have : a ≠ j := by omega
      simp only [storeGet, this, if_false]
      exact storeGet_del_other h r
    · simp only [storeGet]
      split
      · rfl
      · exact storeGet_del_other h r

theorem storeGet_ins_self (k : Nat) (v : α) : ∀ (m : List (Nat × α)), storeGet (storeIns m k v) k = some v
  | [] => by simp [storeIns, storeGet]
  | (a, w) :: r => by
    simp only [storeIns]
    split
    · simp [storeGet]
    · split
      · simp [storeGet]
      · rename_i h
        simp only [storeGet, h, if_false]
        exact storeGet_ins_self k v r

theorem storeGet_ins_other {k j : Nat} (h : j ≠ k) (v : α) : ∀ (m : List (Nat × α)), storeGet (storeIns m k v) j = storeGet m j
  | [] => by
    have : k ≠ j := fun e => h e.symm
    simp [storeIns, storeGet, this]
  | (a, w) :: r => by
    have hk : k ≠ j := fun e => h e.symm
    simp only [storeIns]
    split
    · simp [storeGet, hk]
    · split
      · rename_i ha
        have : a ≠ j := by omega
        simp [storeGet, hk, this]
      · simp only [storeGet]
        split
        · rfl
        · exact storeGet_ins_other h v r

/-- A read after a write of the same key gives the value written. -/
theorem storeRd_put_self [DecidableEq α] (d : α) (m : List (Nat × α)) (k : Nat) (v : α) : storeRd d (storePut d m k v) k = v := by
  unfold storeRd storePut
  split
  · rename_i h
    simp [storeGet_del_self, h]
  · simp [storeGet_ins_self]

/-- A write leaves every other key as it was. -/
theorem storeRd_put_other [DecidableEq α] (d e : α) (m : List (Nat × α)) {k j : Nat} (v : α) (h : j ≠ k) :
    storeRd e (storePut d m k v) j = storeRd e m j := by
  unfold storeRd storePut
  split
  · rw [storeGet_del_other h]
  · rw [storeGet_ins_other h]

end Sys2Proof.Machine
end

