-- ==== Sys2Proof/Laws/Fits.lean ====
section
/-! SUPPORT. What an operation over the state may touch. `Fits l s t` says that t comes from s by touching at most the parts in the set `l`
(one bit a part), never the queue, and keeping the invariants: the canonical forms, the number of units, the word balance of the links,
the stamp balance and the write balance. -/

namespace Sys2Proof.Machine

/-- Is the set `a` within the set `b`? -/
def within (a b : Nat) : Bool := a &&& b == a

/-- The parts of the state that stand in a set stay as they are, and so does the queue; the invariants are kept. -/
structure Fits (l : Nat) (s t : State) : Prop where
  pending : t.pending = s.pending
  now : l.testBit 0 = false → t.now = s.now
  od : l.testBit 1 = false → t.od = s.od
  dr : l.testBit 2 = false → t.dr = s.dr
  out : l.testBit 3 = false → t.out = s.out
  free : l.testBit 4 = false → t.free = s.free
  faultIn : l.testBit 5 = false → t.faultIn = s.faultIn
  link : l.testBit 6 = false → t.link = s.link
  chan : l.testBit 7 = false → t.chan = s.chan
  tcs : l.testBit 8 = false → t.tcs = s.tcs
  cups : l.testBit 9 = false → t.cups = s.cups
  dp : l.testBit 10 = false → t.dp = s.dp
  ctxs : l.testBit 11 = false → t.ctxs = s.ctxs
  ptp : l.testBit 12 = false → t.ptp = s.ptp
  ap : l.testBit 13 = false → t.ap = s.ap
  sched : l.testBit 14 = false → t.sched = s.sched
  engDown : l.testBit 15 = false → t.engDown = s.engDown
  eng : l.testBit 16 = false → t.eng = s.eng
  fab : l.testBit 17 = false → t.fab = s.fab
  cal : l.testBit 18 = false → t.cal = s.cal
  nv : l.testBit 19 = false → t.nv = s.nv
  col : l.testBit 20 = false → t.col = s.col
  can : l.testBit 21 = false → t.can = s.can
  host : l.testBit 22 = false → t.host = s.host
  boot : l.testBit 23 = false → t.boot = s.boot
  resetReq : l.testBit 24 = false → t.resetReq = s.resetReq
  dict : DictWf s → DictWf t
  array : ArrayWf s → ArrayWf t
  shape : ShapeWf s → ShapeWf t
  links : LinkBalance s → LinkBalance t
  stamps : StampBalance s → StampBalance t
  snap : StampBalance s → SnapBalance s → SnapBalance t
  writes : WriteBalance s → WriteBalance t

theorem within_trans {a b c : Nat} (h : within a b = true) (k : within b c = true) : within a c = true := by
  simp only [within, beq_iff_eq] at h k ⊢
  rw [← h, Nat.and_assoc, k]

theorem within_bit {i l : Nat} (h : within (2 ^ i) l = true) : l.testBit i = true := by
  simp only [within, beq_iff_eq] at h
  have h2 := congrArg (fun x => Nat.testBit x i) h
  simpa using h2

theorem within_testBit {a l i : Nat} (h : within a l = true) (k : l.testBit i = false) : a.testBit i = false := by
  simp only [within, beq_iff_eq] at h
  rw [← h]
  simp [k]

theorem Fits.refl (l : Nat) (s : State) : Fits l s s := by
  constructor <;> intros <;> first | rfl | assumption

theorem Fits.mono {a l : Nat} {s t : State} (h : within a l = true) (k : Fits a s t) : Fits l s t where
  pending := k.pending
  now := fun hb => k.now (within_testBit h hb)
  od := fun hb => k.od (within_testBit h hb)
  dr := fun hb => k.dr (within_testBit h hb)
  out := fun hb => k.out (within_testBit h hb)
  free := fun hb => k.free (within_testBit h hb)
  faultIn := fun hb => k.faultIn (within_testBit h hb)
  link := fun hb => k.link (within_testBit h hb)
  chan := fun hb => k.chan (within_testBit h hb)
  tcs := fun hb => k.tcs (within_testBit h hb)
  cups := fun hb => k.cups (within_testBit h hb)
  dp := fun hb => k.dp (within_testBit h hb)
  ctxs := fun hb => k.ctxs (within_testBit h hb)
  ptp := fun hb => k.ptp (within_testBit h hb)
  ap := fun hb => k.ap (within_testBit h hb)
  sched := fun hb => k.sched (within_testBit h hb)
  engDown := fun hb => k.engDown (within_testBit h hb)
  eng := fun hb => k.eng (within_testBit h hb)
  fab := fun hb => k.fab (within_testBit h hb)
  cal := fun hb => k.cal (within_testBit h hb)
  nv := fun hb => k.nv (within_testBit h hb)
  col := fun hb => k.col (within_testBit h hb)
  can := fun hb => k.can (within_testBit h hb)
  host := fun hb => k.host (within_testBit h hb)
  boot := fun hb => k.boot (within_testBit h hb)
  resetReq := fun hb => k.resetReq (within_testBit h hb)
  dict := k.dict
  array := k.array
  shape := k.shape
  links := k.links
  stamps := k.stamps
  snap := k.snap
  writes := k.writes

theorem Fits.trans {l : Nat} {s t u : State} (h : Fits l s t) (k : Fits l t u) : Fits l s u where
  pending := k.pending.trans h.pending
  now := fun hb => (k.now hb).trans (h.now hb)
  od := fun hb => (k.od hb).trans (h.od hb)
  dr := fun hb => (k.dr hb).trans (h.dr hb)
  out := fun hb => (k.out hb).trans (h.out hb)
  free := fun hb => (k.free hb).trans (h.free hb)
  faultIn := fun hb => (k.faultIn hb).trans (h.faultIn hb)
  link := fun hb => (k.link hb).trans (h.link hb)
  chan := fun hb => (k.chan hb).trans (h.chan hb)
  tcs := fun hb => (k.tcs hb).trans (h.tcs hb)
  cups := fun hb => (k.cups hb).trans (h.cups hb)
  dp := fun hb => (k.dp hb).trans (h.dp hb)
  ctxs := fun hb => (k.ctxs hb).trans (h.ctxs hb)
  ptp := fun hb => (k.ptp hb).trans (h.ptp hb)
  ap := fun hb => (k.ap hb).trans (h.ap hb)
  sched := fun hb => (k.sched hb).trans (h.sched hb)
  engDown := fun hb => (k.engDown hb).trans (h.engDown hb)
  eng := fun hb => (k.eng hb).trans (h.eng hb)
  fab := fun hb => (k.fab hb).trans (h.fab hb)
  cal := fun hb => (k.cal hb).trans (h.cal hb)
  nv := fun hb => (k.nv hb).trans (h.nv hb)
  col := fun hb => (k.col hb).trans (h.col hb)
  can := fun hb => (k.can hb).trans (h.can hb)
  host := fun hb => (k.host hb).trans (h.host hb)
  boot := fun hb => (k.boot hb).trans (h.boot hb)
  resetReq := fun hb => (k.resetReq hb).trans (h.resetReq hb)
  dict := fun x => k.dict (h.dict x)
  array := fun x => k.array (h.array x)
  shape := fun x => k.shape (h.shape x)
  links := fun x => k.links (h.links x)
  stamps := fun x => k.stamps (h.stamps x)
  writes := fun x => k.writes (h.writes x)
  snap := fun x y => k.snap (h.stamps x) (h.snap x y)

/-! One part set anew. -/

theorem Fits.set_now {l : Nat} {s t : State} (hb : within 1 l = true) (h : Fits l s t) (x) :
    Fits l s { t with now := x } where
  pending := h.pending
  now := fun k => absurd (within_bit (i := 0) hb) (by simp [k])
  od := h.od
  dr := h.dr
  out := h.out
  free := h.free
  faultIn := h.faultIn
  link := h.link
  chan := h.chan
  tcs := h.tcs
  cups := h.cups
  dp := h.dp
  ctxs := h.ctxs
  ptp := h.ptp
  ap := h.ap
  sched := h.sched
  engDown := h.engDown
  eng := h.eng
  fab := h.fab
  cal := h.cal
  nv := h.nv
  col := h.col
  can := h.can
  host := h.host
  boot := h.boot
  resetReq := h.resetReq
  dict := h.dict
  array := h.array
  shape := fun k => { h.shape k with }
  links := h.links
  stamps := h.stamps
  snap := h.snap
  writes := h.writes

theorem Fits.set_od {l : Nat} {s t : State} (hb : within 2 l = true) (h : Fits l s t) (x) (hd : storeWf defaultOf t.od = true → storeWf defaultOf x = true) :
    Fits l s { t with od := x } where
  pending := h.pending
  now := h.now
  od := fun k => absurd (within_bit (i := 1) hb) (by simp [k])
  dr := h.dr
  out := h.out
  free := h.free
  faultIn := h.faultIn
  link := h.link
  chan := h.chan
  tcs := h.tcs
  cups := h.cups
  dp := h.dp
  ctxs := h.ctxs
  ptp := h.ptp
  ap := h.ap
  sched := h.sched
  engDown := h.engDown
  eng := h.eng
  fab := h.fab
  cal := h.cal
  nv := h.nv
  col := h.col
  can := h.can
  host := h.host
  boot := h.boot
  resetReq := h.resetReq
  dict := fun k => ⟨hd (h.dict k).1, (h.dict k).2⟩
  array := h.array
  shape := fun k => { h.shape k with }
  links := h.links
  stamps := h.stamps
  snap := h.snap
  writes := h.writes

theorem Fits.set_dr {l : Nat} {s t : State} (hb : within 4 l = true) (h : Fits l s t) (x) (hd : storeWf defaultOf t.dr = true → storeWf defaultOf x = true) :
    Fits l s { t with dr := x } where
  pending := h.pending
  now := h.now
  od := h.od
  dr := fun k => absurd (within_bit (i := 2) hb) (by simp [k])
  out := h.out
  free := h.free
  faultIn := h.faultIn
  link := h.link
  chan := h.chan
  tcs := h.tcs
  cups := h.cups
  dp := h.dp
  ctxs := h.ctxs
  ptp := h.ptp
  ap := h.ap
  sched := h.sched
  engDown := h.engDown
  eng := h.eng
  fab := h.fab
  cal := h.cal
  nv := h.nv
  col := h.col
  can := h.can
  host := h.host
  boot := h.boot
  resetReq := h.resetReq
  dict := fun k => ⟨(h.dict k).1, hd (h.dict k).2⟩
  array := h.array
  shape := fun k => { h.shape k with }
  links := h.links
  stamps := h.stamps
  snap := h.snap
  writes := h.writes

theorem Fits.set_out {l : Nat} {s t : State} (hb : within 8 l = true) (h : Fits l s t) (x) :
    Fits l s { t with out := x } where
  pending := h.pending
  now := h.now
  od := h.od
  dr := h.dr
  out := fun k => absurd (within_bit (i := 3) hb) (by simp [k])
  free := h.free
  faultIn := h.faultIn
  link := h.link
  chan := h.chan
  tcs := h.tcs
  cups := h.cups
  dp := h.dp
  ctxs := h.ctxs
  ptp := h.ptp
  ap := h.ap
  sched := h.sched
  engDown := h.engDown
  eng := h.eng
  fab := h.fab
  cal := h.cal
  nv := h.nv
  col := h.col
  can := h.can
  host := h.host
  boot := h.boot
  resetReq := h.resetReq
  dict := h.dict
  array := h.array
  shape := fun k => { h.shape k with }
  links := h.links
  stamps := h.stamps
  snap := h.snap
  writes := h.writes

theorem Fits.set_free {l : Nat} {s t : State} (hb : within 16 l = true) (h : Fits l s t) (x) :
    Fits l s { t with free := x } where
  pending := h.pending
  now := h.now
  od := h.od
  dr := h.dr
  out := h.out
  free := fun k => absurd (within_bit (i := 4) hb) (by simp [k])
  faultIn := h.faultIn
  link := h.link
  chan := h.chan
  tcs := h.tcs
  cups := h.cups
  dp := h.dp
  ctxs := h.ctxs
  ptp := h.ptp
  ap := h.ap
  sched := h.sched
  engDown := h.engDown
  eng := h.eng
  fab := h.fab
  cal := h.cal
  nv := h.nv
  col := h.col
  can := h.can
  host := h.host
  boot := h.boot
  resetReq := h.resetReq
  dict := h.dict
  array := h.array
  shape := fun k => { h.shape k with }
  links := h.links
  stamps := h.stamps
  snap := h.snap
  writes := h.writes

theorem Fits.set_faultIn {l : Nat} {s t : State} (hb : within 32 l = true) (h : Fits l s t) (x) :
    Fits l s { t with faultIn := x } where
  pending := h.pending
  now := h.now
  od := h.od
  dr := h.dr
  out := h.out
  free := h.free
  faultIn := fun k => absurd (within_bit (i := 5) hb) (by simp [k])
  link := h.link
  chan := h.chan
  tcs := h.tcs
  cups := h.cups
  dp := h.dp
  ctxs := h.ctxs
  ptp := h.ptp
  ap := h.ap
  sched := h.sched
  engDown := h.engDown
  eng := h.eng
  fab := h.fab
  cal := h.cal
  nv := h.nv
  col := h.col
  can := h.can
  host := h.host
  boot := h.boot
  resetReq := h.resetReq
  dict := h.dict
  array := h.array
  shape := fun k => { h.shape k with }
  links := h.links
  stamps := h.stamps
  snap := h.snap
  writes := h.writes

theorem Fits.set_link {l : Nat} {s t : State} (hb : within 64 l = true) (h : Fits l s t) (x) (hl : LinkBalance t → ∀ k ∈ x.links, PathOk k.fwd ∧ PathOk k.rev) (hn : StampBalance t → SnapBalance t → SnapBalance { t with link := x }) (h_links : x.links.length = t.link.links.length) (h_hubPaths : x.hubPaths.length = t.link.hubPaths.length) (h_throttled : x.throttled.length = t.link.throttled.length) :
    Fits l s { t with link := x } where
  pending := h.pending
  now := h.now
  od := h.od
  dr := h.dr
  out := h.out
  free := h.free
  faultIn := h.faultIn
  link := fun k => absurd (within_bit (i := 6) hb) (by simp [k])
  chan := h.chan
  tcs := h.tcs
  cups := h.cups
  dp := h.dp
  ctxs := h.ctxs
  ptp := h.ptp
  ap := h.ap
  sched := h.sched
  engDown := h.engDown
  eng := h.eng
  fab := h.fab
  cal := h.cal
  nv := h.nv
  col := h.col
  can := h.can
  host := h.host
  boot := h.boot
  resetReq := h.resetReq
  dict := h.dict
  array := h.array
  shape := fun k => { h.shape k with links := h_links.trans (h.shape k).links, hubPaths := h_hubPaths.trans (h.shape k).hubPaths, throttled := h_throttled.trans (h.shape k).throttled }
  links := fun k => hl (h.links k)
  stamps := h.stamps
  snap := fun k m => hn (h.stamps k) (h.snap k m)
  writes := h.writes

theorem Fits.set_chan {l : Nat} {s t : State} (hb : within 128 l = true) (h : Fits l s t) (x) (hc : StampBalance t → ∀ c ∈ x.chans, ChanOk c) (hn : StampBalance t → SnapBalance t → SnapBalance { t with chan := x }) (h_chans : x.chans.length = t.chan.chans.length) (h_gates : x.gates.length = t.chan.gates.length) :
    Fits l s { t with chan := x } where
  pending := h.pending
  now := h.now
  od := h.od
  dr := h.dr
  out := h.out
  free := h.free
  faultIn := h.faultIn
  link := h.link
  chan := fun k => absurd (within_bit (i := 7) hb) (by simp [k])
  tcs := h.tcs
  cups := h.cups
  dp := h.dp
  ctxs := h.ctxs
  ptp := h.ptp
  ap := h.ap
  sched := h.sched
  engDown := h.engDown
  eng := h.eng
  fab := h.fab
  cal := h.cal
  nv := h.nv
  col := h.col
  can := h.can
  host := h.host
  boot := h.boot
  resetReq := h.resetReq
  dict := h.dict
  array := h.array
  shape := fun k => { h.shape k with chans := h_chans.trans (h.shape k).chans, gates := h_gates.trans (h.shape k).gates }
  links := h.links
  stamps := fun k => hc (h.stamps k)
  snap := fun k m => hn (h.stamps k) (h.snap k m)
  writes := h.writes

theorem Fits.set_tcs {l : Nat} {s t : State} (hb : within 256 l = true) (h : Fits l s t) (x) (h_tcs : x.length = t.tcs.length) :
    Fits l s { t with tcs := x } where
  pending := h.pending
  now := h.now
  od := h.od
  dr := h.dr
  out := h.out
  free := h.free
  faultIn := h.faultIn
  link := h.link
  chan := h.chan
  tcs := fun k => absurd (within_bit (i := 8) hb) (by simp [k])
  cups := h.cups
  dp := h.dp
  ctxs := h.ctxs
  ptp := h.ptp
  ap := h.ap
  sched := h.sched
  engDown := h.engDown
  eng := h.eng
  fab := h.fab
  cal := h.cal
  nv := h.nv
  col := h.col
  can := h.can
  host := h.host
  boot := h.boot
  resetReq := h.resetReq
  dict := h.dict
  array := h.array
  shape := fun k => { h.shape k with tcs := h_tcs.trans (h.shape k).tcs }
  links := h.links
  stamps := h.stamps
  snap := h.snap
  writes := h.writes

theorem Fits.set_cups {l : Nat} {s t : State} (hb : within 512 l = true) (h : Fits l s t) (x) (h_cups : x.length = t.cups.length) :
    Fits l s { t with cups := x } where
  pending := h.pending
  now := h.now
  od := h.od
  dr := h.dr
  out := h.out
  free := h.free
  faultIn := h.faultIn
  link := h.link
  chan := h.chan
  tcs := h.tcs
  cups := fun k => absurd (within_bit (i := 9) hb) (by simp [k])
  dp := h.dp
  ctxs := h.ctxs
  ptp := h.ptp
  ap := h.ap
  sched := h.sched
  engDown := h.engDown
  eng := h.eng
  fab := h.fab
  cal := h.cal
  nv := h.nv
  col := h.col
  can := h.can
  host := h.host
  boot := h.boot
  resetReq := h.resetReq
  dict := h.dict
  array := h.array
  shape := fun k => { h.shape k with cups := h_cups.trans (h.shape k).cups }
  links := h.links
  stamps := h.stamps
  snap := h.snap
  writes := h.writes

theorem Fits.set_dp {l : Nat} {s t : State} (hb : within 1024 l = true) (h : Fits l s t) (x) (h_dplls : x.dplls.length = t.dp.dplls.length) (h_carafes : x.carafes.length = t.dp.carafes.length) :
    Fits l s { t with dp := x } where
  pending := h.pending
  now := h.now
  od := h.od
  dr := h.dr
  out := h.out
  free := h.free
  faultIn := h.faultIn
  link := h.link
  chan := h.chan
  tcs := h.tcs
  cups := h.cups
  dp := fun k => absurd (within_bit (i := 10) hb) (by simp [k])
  ctxs := h.ctxs
  ptp := h.ptp
  ap := h.ap
  sched := h.sched
  engDown := h.engDown
  eng := h.eng
  fab := h.fab
  cal := h.cal
  nv := h.nv
  col := h.col
  can := h.can
  host := h.host
  boot := h.boot
  resetReq := h.resetReq
  dict := h.dict
  array := h.array
  shape := fun k => { h.shape k with dplls := h_dplls.trans (h.shape k).dplls, carafes := h_carafes.trans (h.shape k).carafes }
  links := h.links
  stamps := h.stamps
  snap := h.snap
  writes := h.writes

theorem Fits.set_ctxs {l : Nat} {s t : State} (hb : within 2048 l = true) (h : Fits l s t) (x) (h_ctxs : x.length = t.ctxs.length) :
    Fits l s { t with ctxs := x } where
  pending := h.pending
  now := h.now
  od := h.od
  dr := h.dr
  out := h.out
  free := h.free
  faultIn := h.faultIn
  link := h.link
  chan := h.chan
  tcs := h.tcs
  cups := h.cups
  dp := h.dp
  ctxs := fun k => absurd (within_bit (i := 11) hb) (by simp [k])
  ptp := h.ptp
  ap := h.ap
  sched := h.sched
  engDown := h.engDown
  eng := h.eng
  fab := h.fab
  cal := h.cal
  nv := h.nv
  col := h.col
  can := h.can
  host := h.host
  boot := h.boot
  resetReq := h.resetReq
  dict := h.dict
  array := h.array
  shape := fun k => { h.shape k with ctxs := h_ctxs.trans (h.shape k).ctxs }
  links := h.links
  stamps := h.stamps
  snap := h.snap
  writes := h.writes

theorem Fits.set_ptp {l : Nat} {s t : State} (hb : within 4096 l = true) (h : Fits l s t) (x) :
    Fits l s { t with ptp := x } where
  pending := h.pending
  now := h.now
  od := h.od
  dr := h.dr
  out := h.out
  free := h.free
  faultIn := h.faultIn
  link := h.link
  chan := h.chan
  tcs := h.tcs
  cups := h.cups
  dp := h.dp
  ctxs := h.ctxs
  ptp := fun k => absurd (within_bit (i := 12) hb) (by simp [k])
  ap := h.ap
  sched := h.sched
  engDown := h.engDown
  eng := h.eng
  fab := h.fab
  cal := h.cal
  nv := h.nv
  col := h.col
  can := h.can
  host := h.host
  boot := h.boot
  resetReq := h.resetReq
  dict := h.dict
  array := h.array
  shape := fun k => { h.shape k with }
  links := h.links
  stamps := h.stamps
  snap := h.snap
  writes := h.writes

theorem Fits.set_ap {l : Nat} {s t : State} (hb : within 8192 l = true) (h : Fits l s t) (x) (h_aplls : x.aplls.length = t.ap.aplls.length) (h_outs : x.outs.length = t.ap.outs.length) :
    Fits l s { t with ap := x } where
  pending := h.pending
  now := h.now
  od := h.od
  dr := h.dr
  out := h.out
  free := h.free
  faultIn := h.faultIn
  link := h.link
  chan := h.chan
  tcs := h.tcs
  cups := h.cups
  dp := h.dp
  ctxs := h.ctxs
  ptp := h.ptp
  ap := fun k => absurd (within_bit (i := 13) hb) (by simp [k])
  sched := h.sched
  engDown := h.engDown
  eng := h.eng
  fab := h.fab
  cal := h.cal
  nv := h.nv
  col := h.col
  can := h.can
  host := h.host
  boot := h.boot
  resetReq := h.resetReq
  dict := h.dict
  array := h.array
  shape := fun k => { h.shape k with aplls := h_aplls.trans (h.shape k).aplls, outs := h_outs.trans (h.shape k).outs }
  links := h.links
  stamps := h.stamps
  snap := h.snap
  writes := h.writes

theorem Fits.set_sched {l : Nat} {s t : State} (hb : within 16384 l = true) (h : Fits l s t) (x) (h_entries : x.entries.length = t.sched.entries.length) :
    Fits l s { t with sched := x } where
  pending := h.pending
  now := h.now
  od := h.od
  dr := h.dr
  out := h.out
  free := h.free
  faultIn := h.faultIn
  link := h.link
  chan := h.chan
  tcs := h.tcs
  cups := h.cups
  dp := h.dp
  ctxs := h.ctxs
  ptp := h.ptp
  ap := h.ap
  sched := fun k => absurd (within_bit (i := 14) hb) (by simp [k])
  engDown := h.engDown
  eng := h.eng
  fab := h.fab
  cal := h.cal
  nv := h.nv
  col := h.col
  can := h.can
  host := h.host
  boot := h.boot
  resetReq := h.resetReq
  dict := h.dict
  array := h.array
  shape := fun k => { h.shape k with entries := h_entries.trans (h.shape k).entries }
  links := h.links
  stamps := h.stamps
  snap := h.snap
  writes := h.writes

theorem Fits.set_engDown {l : Nat} {s t : State} (hb : within 32768 l = true) (h : Fits l s t) (x) :
    Fits l s { t with engDown := x } where
  pending := h.pending
  now := h.now
  od := h.od
  dr := h.dr
  out := h.out
  free := h.free
  faultIn := h.faultIn
  link := h.link
  chan := h.chan
  tcs := h.tcs
  cups := h.cups
  dp := h.dp
  ctxs := h.ctxs
  ptp := h.ptp
  ap := h.ap
  sched := h.sched
  engDown := fun k => absurd (within_bit (i := 15) hb) (by simp [k])
  eng := h.eng
  fab := h.fab
  cal := h.cal
  nv := h.nv
  col := h.col
  can := h.can
  host := h.host
  boot := h.boot
  resetReq := h.resetReq
  dict := h.dict
  array := h.array
  shape := fun k => { h.shape k with }
  links := h.links
  stamps := h.stamps
  snap := h.snap
  writes := h.writes

theorem Fits.set_eng {l : Nat} {s t : State} (hb : within 65536 l = true) (h : Fits l s t) (x) (h_requesters : x.requesters.length = t.eng.requesters.length) :
    Fits l s { t with eng := x } where
  pending := h.pending
  now := h.now
  od := h.od
  dr := h.dr
  out := h.out
  free := h.free
  faultIn := h.faultIn
  link := h.link
  chan := h.chan
  tcs := h.tcs
  cups := h.cups
  dp := h.dp
  ctxs := h.ctxs
  ptp := h.ptp
  ap := h.ap
  sched := h.sched
  engDown := h.engDown
  eng := fun k => absurd (within_bit (i := 16) hb) (by simp [k])
  fab := h.fab
  cal := h.cal
  nv := h.nv
  col := h.col
  can := h.can
  host := h.host
  boot := h.boot
  resetReq := h.resetReq
  dict := h.dict
  array := h.array
  shape := fun k => { h.shape k with requesters := h_requesters.trans (h.shape k).requesters }
  links := h.links
  stamps := h.stamps
  snap := h.snap
  writes := h.writes

theorem Fits.set_fab {l : Nat} {s t : State} (hb : within 131072 l = true) (h : Fits l s t) (x) (h_ports : x.ports.length = t.fab.ports.length) (h_slots : x.slots.length = t.fab.slots.length) :
    Fits l s { t with fab := x } where
  pending := h.pending
  now := h.now
  od := h.od
  dr := h.dr
  out := h.out
  free := h.free
  faultIn := h.faultIn
  link := h.link
  chan := h.chan
  tcs := h.tcs
  cups := h.cups
  dp := h.dp
  ctxs := h.ctxs
  ptp := h.ptp
  ap := h.ap
  sched := h.sched
  engDown := h.engDown
  eng := h.eng
  fab := fun k => absurd (within_bit (i := 17) hb) (by simp [k])
  cal := h.cal
  nv := h.nv
  col := h.col
  can := h.can
  host := h.host
  boot := h.boot
  resetReq := h.resetReq
  dict := h.dict
  array := h.array
  shape := fun k => { h.shape k with ports := h_ports.trans (h.shape k).ports, slots := h_slots.trans (h.shape k).slots }
  links := h.links
  stamps := h.stamps
  snap := h.snap
  writes := h.writes

theorem Fits.set_cal {l : Nat} {s t : State} (hb : within 262144 l = true) (h : Fits l s t) (x) (h_dies : x.dies.length = t.cal.dies.length) (h_outCals : x.outs.length = t.cal.outs.length) :
    Fits l s { t with cal := x } where
  pending := h.pending
  now := h.now
  od := h.od
  dr := h.dr
  out := h.out
  free := h.free
  faultIn := h.faultIn
  link := h.link
  chan := h.chan
  tcs := h.tcs
  cups := h.cups
  dp := h.dp
  ctxs := h.ctxs
  ptp := h.ptp
  ap := h.ap
  sched := h.sched
  engDown := h.engDown
  eng := h.eng
  fab := h.fab
  cal := fun k => absurd (within_bit (i := 18) hb) (by simp [k])
  nv := h.nv
  col := h.col
  can := h.can
  host := h.host
  boot := h.boot
  resetReq := h.resetReq
  dict := h.dict
  array := h.array
  shape := fun k => { h.shape k with dies := h_dies.trans (h.shape k).dies, outCals := h_outCals.trans (h.shape k).outCals }
  links := h.links
  stamps := h.stamps
  snap := h.snap
  writes := h.writes

theorem Fits.set_nv {l : Nat} {s t : State} (hb : within 524288 l = true) (h : Fits l s t) (x) (ha : ArrayWf t → storeWf (fun _ => (255 : Byte)) x.cells = true) (hw : WriteBalance t → DevOk x.sram.dev ∧ ∀ y ∈ x.array, DevOk y.dev) :
    Fits l s { t with nv := x } where
  pending := h.pending
  now := h.now
  od := h.od
  dr := h.dr
  out := h.out
  free := h.free
  faultIn := h.faultIn
  link := h.link
  chan := h.chan
  tcs := h.tcs
  cups := h.cups
  dp := h.dp
  ctxs := h.ctxs
  ptp := h.ptp
  ap := h.ap
  sched := h.sched
  engDown := h.engDown
  eng := h.eng
  fab := h.fab
  cal := h.cal
  nv := fun k => absurd (within_bit (i := 19) hb) (by simp [k])
  col := h.col
  can := h.can
  host := h.host
  boot := h.boot
  resetReq := h.resetReq
  dict := h.dict
  array := fun k => ha (h.array k)
  shape := fun k => { h.shape k with }
  links := h.links
  stamps := h.stamps
  snap := h.snap
  writes := fun k => hw (h.writes k)

theorem Fits.set_col {l : Nat} {s t : State} (hb : within 1048576 l = true) (h : Fits l s t) (x) (h_sources : x.sources.length = t.col.sources.length) :
    Fits l s { t with col := x } where
  pending := h.pending
  now := h.now
  od := h.od
  dr := h.dr
  out := h.out
  free := h.free
  faultIn := h.faultIn
  link := h.link
  chan := h.chan
  tcs := h.tcs
  cups := h.cups
  dp := h.dp
  ctxs := h.ctxs
  ptp := h.ptp
  ap := h.ap
  sched := h.sched
  engDown := h.engDown
  eng := h.eng
  fab := h.fab
  cal := h.cal
  nv := h.nv
  col := fun k => absurd (within_bit (i := 20) hb) (by simp [k])
  can := h.can
  host := h.host
  boot := h.boot
  resetReq := h.resetReq
  dict := h.dict
  array := h.array
  shape := fun k => { h.shape k with sources := h_sources.trans (h.shape k).sources }
  links := h.links
  stamps := h.stamps
  snap := h.snap
  writes := h.writes

theorem Fits.set_can {l : Nat} {s t : State} (hb : within 2097152 l = true) (h : Fits l s t) (x) :
    Fits l s { t with can := x } where
  pending := h.pending
  now := h.now
  od := h.od
  dr := h.dr
  out := h.out
  free := h.free
  faultIn := h.faultIn
  link := h.link
  chan := h.chan
  tcs := h.tcs
  cups := h.cups
  dp := h.dp
  ctxs := h.ctxs
  ptp := h.ptp
  ap := h.ap
  sched := h.sched
  engDown := h.engDown
  eng := h.eng
  fab := h.fab
  cal := h.cal
  nv := h.nv
  col := h.col
  can := fun k => absurd (within_bit (i := 21) hb) (by simp [k])
  host := h.host
  boot := h.boot
  resetReq := h.resetReq
  dict := h.dict
  array := h.array
  shape := fun k => { h.shape k with }
  links := h.links
  stamps := h.stamps
  snap := h.snap
  writes := h.writes

theorem Fits.set_host {l : Nat} {s t : State} (hb : within 4194304 l = true) (h : Fits l s t) (x) :
    Fits l s { t with host := x } where
  pending := h.pending
  now := h.now
  od := h.od
  dr := h.dr
  out := h.out
  free := h.free
  faultIn := h.faultIn
  link := h.link
  chan := h.chan
  tcs := h.tcs
  cups := h.cups
  dp := h.dp
  ctxs := h.ctxs
  ptp := h.ptp
  ap := h.ap
  sched := h.sched
  engDown := h.engDown
  eng := h.eng
  fab := h.fab
  cal := h.cal
  nv := h.nv
  col := h.col
  can := h.can
  host := fun k => absurd (within_bit (i := 22) hb) (by simp [k])
  boot := h.boot
  resetReq := h.resetReq
  dict := h.dict
  array := h.array
  shape := fun k => { h.shape k with }
  links := h.links
  stamps := h.stamps
  snap := h.snap
  writes := h.writes

theorem Fits.set_boot {l : Nat} {s t : State} (hb : within 8388608 l = true) (h : Fits l s t) (x) :
    Fits l s { t with boot := x } where
  pending := h.pending
  now := h.now
  od := h.od
  dr := h.dr
  out := h.out
  free := h.free
  faultIn := h.faultIn
  link := h.link
  chan := h.chan
  tcs := h.tcs
  cups := h.cups
  dp := h.dp
  ctxs := h.ctxs
  ptp := h.ptp
  ap := h.ap
  sched := h.sched
  engDown := h.engDown
  eng := h.eng
  fab := h.fab
  cal := h.cal
  nv := h.nv
  col := h.col
  can := h.can
  host := h.host
  boot := fun k => absurd (within_bit (i := 23) hb) (by simp [k])
  resetReq := h.resetReq
  dict := h.dict
  array := h.array
  shape := fun k => { h.shape k with }
  links := h.links
  stamps := h.stamps
  snap := h.snap
  writes := h.writes

theorem Fits.set_resetReq {l : Nat} {s t : State} (hb : within 16777216 l = true) (h : Fits l s t) (x) :
    Fits l s { t with resetReq := x } where
  pending := h.pending
  now := h.now
  od := h.od
  dr := h.dr
  out := h.out
  free := h.free
  faultIn := h.faultIn
  link := h.link
  chan := h.chan
  tcs := h.tcs
  cups := h.cups
  dp := h.dp
  ctxs := h.ctxs
  ptp := h.ptp
  ap := h.ap
  sched := h.sched
  engDown := h.engDown
  eng := h.eng
  fab := h.fab
  cal := h.cal
  nv := h.nv
  col := h.col
  can := h.can
  host := h.host
  boot := h.boot
  resetReq := fun k => absurd (within_bit (i := 24) hb) (by simp [k])
  dict := h.dict
  array := h.array
  shape := fun k => { h.shape k with }
  links := h.links
  stamps := h.stamps
  snap := h.snap
  writes := h.writes

theorem mem_upd {α : Type} {l : List α} {i : Nat} {f : α → α} {x : α} (h : x ∈ upd l i f) : x ∈ l ∨ ∃ y ∈ l, x = f y := by
  unfold upd at h
  induction l generalizing i with
  | nil => simp at h
  | cons a r ih =>
    cases i with
    | zero =>
      simp only [List.modify_zero_cons, List.mem_cons] at h
      rcases h with h | h
      · exact .inr ⟨a, by simp, h⟩
      · exact .inl (by simp [h])
    | succ i =>
      simp only [List.modify_succ_cons, List.mem_cons] at h
      rcases h with h | h
      · exact .inl (by simp [h])
      · rcases ih h with h | ⟨y, hy, e⟩
        · exact .inl (by simp [h])
        · exact .inr ⟨y, by simp [hy], e⟩

@[simp] theorem length_upd {α : Type} (l : List α) (i : Nat) (f : α → α) : (upd l i f).length = l.length := by simp [upd]

/-! Sequences, conditions and local names. -/

theorem Fits.foldl {α : Type} {l : Nat} {s : State} (f : State → α → State) (hf : ∀ x a, Fits l s x → Fits l s (f x a)) :
    ∀ (r : List α) {x : State}, Fits l s x → Fits l s (r.foldl f x)
  | [], _, h => h
  | a :: r, _, h => Fits.foldl f hf r (hf _ a h)

theorem Fits.foldl_snd {α β : Type} {l : Nat} {s : State} (f : β × State → α → β × State) (hf : ∀ x a, Fits l s x.2 → Fits l s (f x a).2) :
    ∀ (r : List α) {x : β × State}, Fits l s x.2 → Fits l s (r.foldl f x).2
  | [], _, h => h
  | a :: r, _, h => Fits.foldl_snd f hf r (hf _ a h)

theorem Fits.many {α : Type} {l : Nat} {s x : State} (h : Fits l s x) (r : List α) (f : α → State → State)
    (hf : ∀ a y, Fits l s y → Fits l s (f a y)) : Fits l s (x.many r f) :=
  Fits.foldl (fun y a => f a y) (fun y a k => hf a y k) r h

theorem Fits.when {l : Nat} {s x : State} (h : Fits l s x) (b : Bool) (f : State → State) (hf : ∀ y, Fits l s y → Fits l s (f y)) :
    Fits l s (x.when b f) := by
  unfold State.when
  split
  · exact hf x h
  · exact h

theorem Fits.ite {l : Nat} {s x y : State} (c : Prop) [Decidable c] (h : Fits l s x) (k : Fits l s y) : Fits l s (if c then x else y) := by
  split
  · exact h
  · exact k

theorem Fits.ite_fst {β : Type} {l : Nat} {s : State} {x y : State × β} (c : Prop) [Decidable c] (h : Fits l s x.1) (k : Fits l s y.1) :
    Fits l s (if c then x else y).1 := by
  split
  · exact h
  · exact k

theorem Fits.ite_snd {β : Type} {l : Nat} {s : State} {x y : β × State} (c : Prop) [Decidable c] (h : Fits l s x.2) (k : Fits l s y.2) :
    Fits l s (if c then x else y).2 := by
  split
  · exact h
  · exact k

theorem Fits.ite_snd2 {α β : Type} {l : Nat} {s : State} {x y : α × β × State} (c : Prop) [Decidable c] (h : Fits l s x.2.2)
    (k : Fits l s y.2.2) : Fits l s (if c then x else y).2.2 := by
  split
  · exact h
  · exact k

theorem Fits.ite_snd3 {α β γ : Type} {l : Nat} {s : State} {x y : α × β × γ × State} (c : Prop) [Decidable c] (h : Fits l s x.2.2.2)
    (k : Fits l s y.2.2.2) : Fits l s (if c then x else y).2.2.2 := by
  split
  · exact h
  · exact k

end Sys2Proof.Machine
end

