-- ==== Sys2Proof/Laws/FitsOps.lean ====
section
/-! SUPPORT. What each operation of Machine/Ops.lean may touch, and the invariants that it keeps. -/

set_option linter.unusedSimpArgs false
set_option linter.unusedVariables false

namespace Sys2Proof.Machine

theorem State.put_fits {fp : Nat} {s00 s : State} (hb : within 2 fp = true) (h : Fits fp s00 s) (k : Key) (v : Nat) :
    Fits fp s00 (State.put s k v) := by
  exact h.set_od hb _ (storePut_wf defaultOf k v)

theorem State.dput_fits {fp : Nat} {s00 s : State} (hb : within 4 fp = true) (h : Fits fp s00 s) (k : Key) (v : Nat) :
    Fits fp s00 (State.dput s k v) := by
  exact h.set_dr hb _ (storePut_wf defaultOf k v)

theorem State.putI_fits {fp : Nat} {s00 s : State} (hb : within 2 fp = true) (h : Fits fp s00 s) (w : Nat) (k : Key) (x : Int) :
    Fits fp s00 (State.putI s w k x) := by
  unfold State.putI
  repeat' first
    | with_reducible assumption
    | with_reducible refine State.put_fits hb ?_ _ _
    | with_reducible refine Fits.ite _ ?_ ?_
    | split
    | extract_lets
    | (dsimp +zetaDelta only)

theorem State.dputI_fits {fp : Nat} {s00 s : State} (hb : within 4 fp = true) (h : Fits fp s00 s) (w : Nat) (k : Key) (x : Int) :
    Fits fp s00 (State.dputI s w k x) := by
  unfold State.dputI
  repeat' first
    | with_reducible assumption
    | with_reducible refine State.dput_fits hb ?_ _ _
    | with_reducible refine Fits.ite _ ?_ ?_
    | split
    | extract_lets
    | (dsimp +zetaDelta only)

theorem State.inc_fits {fp : Nat} {s00 s : State} (hb : within 2 fp = true) (h : Fits fp s00 s) (w : Nat) (k : Key) (n : Nat) :
    Fits fp s00 (State.inc s w k n) := by
  unfold State.inc
  repeat' first
    | with_reducible assumption
    | with_reducible refine State.put_fits hb ?_ _ _
    | with_reducible refine Fits.ite _ ?_ ?_
    | split
    | extract_lets
    | (dsimp +zetaDelta only)

theorem State.incSat_fits {fp : Nat} {s00 s : State} (hb : within 2 fp = true) (h : Fits fp s00 s) (w : Nat) (k : Key) (n : Nat) :
    Fits fp s00 (State.incSat s w k n) := by
  unfold State.incSat
  repeat' first
    | with_reducible assumption
    | with_reducible refine State.put_fits hb ?_ _ _
    | with_reducible refine Fits.ite _ ?_ ?_
    | split
    | extract_lets
    | (dsimp +zetaDelta only)

theorem State.dinc_fits {fp : Nat} {s00 s : State} (hb : within 4 fp = true) (h : Fits fp s00 s) (w : Nat) (k : Key) (n : Nat) :
    Fits fp s00 (State.dinc s w k n) := by
  unfold State.dinc
  repeat' first
    | with_reducible assumption
    | with_reducible refine State.dput_fits hb ?_ _ _
    | with_reducible refine Fits.ite _ ?_ ?_
    | split
    | extract_lets
    | (dsimp +zetaDelta only)

theorem State.dincSat_fits {fp : Nat} {s00 s : State} (hb : within 4 fp = true) (h : Fits fp s00 s) (w : Nat) (k : Key) (n : Nat) :
    Fits fp s00 (State.dincSat s w k n) := by
  unfold State.dincSat
  repeat' first
    | with_reducible assumption
    | with_reducible refine State.dput_fits hb ?_ _ _
    | with_reducible refine Fits.ite _ ?_ ?_
    | split
    | extract_lets
    | (dsimp +zetaDelta only)

theorem State.addI_fits {fp : Nat} {s00 s : State} (hb : within 2 fp = true) (h : Fits fp s00 s) (k : Key) (x : Int) :
    Fits fp s00 (State.addI s k x) := by
  unfold State.addI
  repeat' first
    | with_reducible assumption
    | with_reducible refine State.putI_fits hb ?_ _ _ _
    | with_reducible refine Fits.ite _ ?_ ?_
    | split
    | extract_lets
    | (dsimp +zetaDelta only)

theorem State.hist_fits {fp : Nat} {s00 s : State} (hb : within 2 fp = true) (h : Fits fp s00 s) (index : Nat) (mask : Nat) :
    Fits fp s00 (State.hist s index mask) := by
  unfold State.hist
  repeat' first
    | with_reducible assumption
    | with_reducible refine State.put_fits hb ?_ _ _
    | with_reducible refine Fits.ite _ ?_ ?_
    | split
    | extract_lets
    | (dsimp +zetaDelta only)

theorem State.dhist_fits {fp : Nat} {s00 s : State} (hb : within 4 fp = true) (h : Fits fp s00 s) (index : Nat) (mask : Nat) :
    Fits fp s00 (State.dhist s index mask) := by
  unfold State.dhist
  repeat' first
    | with_reducible assumption
    | with_reducible refine State.dput_fits hb ?_ _ _
    | with_reducible refine Fits.ite _ ?_ ?_
    | split
    | extract_lets
    | (dsimp +zetaDelta only)

theorem State.setChans_fits {fp : Nat} {s00 s : State} (hb : within 128 fp = true) (h : Fits fp s00 s) (f : ChanSys → ChanSys) (hr : ∀ x : ChanSys, (f x).chans = x.chans ∧ (f x).gates = x.gates) :
    Fits fp s00 (State.setChans s f) := by
  exact h.set_chan hb _ (fun k => by rw [(hr _).1]; exact k)
    (fun _ k n c hc => k n c (by change (f s.chan).chans[n]? = _ at hc; rwa [(hr _).1] at hc)) (by rw [(hr _).1]) (by rw [(hr _).2])

theorem State.setDp_fits {fp : Nat} {s00 s : State} (hb : within 1024 fp = true) (h : Fits fp s00 s) (f : DpllSys → DpllSys) (hr : ∀ x : DpllSys, (f x).dplls.length = x.dplls.length ∧ (f x).carafes.length = x.carafes.length) :
    Fits fp s00 (State.setDp s f) := by
  exact h.set_dp hb _ (hr s.dp).1 (hr s.dp).2

theorem State.setAp_fits {fp : Nat} {s00 s : State} (hb : within 8192 fp = true) (h : Fits fp s00 s) (f : ApllSys → ApllSys) (hr : ∀ x : ApllSys, (f x).aplls.length = x.aplls.length ∧ (f x).outs.length = x.outs.length) :
    Fits fp s00 (State.setAp s f) := by
  exact h.set_ap hb _ (hr s.ap).1 (hr s.ap).2

theorem State.setEng_fits {fp : Nat} {s00 s : State} (hb : within 65536 fp = true) (h : Fits fp s00 s) (f : EngSys → EngSys) (hr : ∀ x : EngSys, (f x).requesters.length = x.requesters.length) :
    Fits fp s00 (State.setEng s f) := by
  exact h.set_eng hb _ (hr s.eng)

theorem State.setFab_fits {fp : Nat} {s00 s : State} (hb : within 131072 fp = true) (h : Fits fp s00 s) (f : FabSys → FabSys) (hr : ∀ x : FabSys, (f x).ports.length = x.ports.length ∧ (f x).slots.length = x.slots.length) :
    Fits fp s00 (State.setFab s f) := by
  exact h.set_fab hb _ (hr s.fab).1 (hr s.fab).2

theorem State.setCal_fits {fp : Nat} {s00 s : State} (hb : within 262144 fp = true) (h : Fits fp s00 s) (f : CalSys → CalSys) (hr : ∀ x : CalSys, (f x).dies.length = x.dies.length ∧ (f x).outs.length = x.outs.length) :
    Fits fp s00 (State.setCal s f) := by
  exact h.set_cal hb _ (hr s.cal).1 (hr s.cal).2

theorem State.nvSet_fits {fp : Nat} {s00 s : State} (hb : within 524288 fp = true) (h : Fits fp s00 s) (f : NvmSys → NvmSys) (ha : ArrayWf s → storeWf (fun _ => (255 : Byte)) (f s.nv).cells = true)
    (hw : WriteBalance s → DevOk (f s.nv).sram.dev ∧ ∀ y ∈ (f s.nv).array, DevOk y.dev) :
    Fits fp s00 (State.nvSet s f) := by
  exact h.set_nv hb _ ha hw

theorem State.setCol_fits {fp : Nat} {s00 s : State} (hb : within 1048576 fp = true) (h : Fits fp s00 s) (f : ColSys → ColSys) (hr : ∀ x : ColSys, (f x).sources.length = x.sources.length) :
    Fits fp s00 (State.setCol s f) := by
  exact h.set_col hb _ (hr s.col)

theorem State.setCan_fits {fp : Nat} {s00 s : State} (hb : within 2097152 fp = true) (h : Fits fp s00 s) (f : CanSys → CanSys) :
    Fits fp s00 (State.setCan s f) := by
  exact h.set_can hb _

theorem State.setHost_fits {fp : Nat} {s00 s : State} (hb : within 4194304 fp = true) (h : Fits fp s00 s) (f : HostSys → HostSys) :
    Fits fp s00 (State.setHost s f) := by
  exact h.set_host hb _

theorem State.setBoot_fits {fp : Nat} {s00 s : State} (hb : within 8388608 fp = true) (h : Fits fp s00 s) (f : BootSys → BootSys) :
    Fits fp s00 (State.setBoot s f) := by
  exact h.set_boot hb _

theorem State.resetDue_fits {fp : Nat} {s00 s : State} (hb : within 16777216 fp = true) (h : Fits fp s00 s) (c : Option Nat) :
    Fits fp s00 (State.resetDue s c) := by
  exact h.set_resetReq hb _

theorem State.send_fits {fp : Nat} {s00 s : State} (hb : within 8 fp = true) (h : Fits fp s00 s) (x : Sent) :
    Fits fp s00 (State.send s x) := by
  exact h.set_out hb _

theorem State.freeNext_fits {fp : Nat} {s00 s : State} (hb : within 16 fp = true) (h : Fits fp s00 s)  :
    Fits fp s00 (State.freeNext s) := by
  exact h.set_free hb _

theorem State.raise_fits {fp : Nat} {s00 s : State} (hb : within 32 fp = true) (h : Fits fp s00 s) (die : Nat) (block : Nat) (kind : Nat) (addr : Nat) :
    Fits fp s00 (State.raise s die block kind addr) := by
  exact h.set_faultIn hb _

end Sys2Proof.Machine
end

