-- ==== Sys2Proof/Laws/FitsLinks.lean ====
section
/-! SUPPORT. What each operation of Machine/Links.lean may touch, and the invariants that it keeps. -/

set_option linter.unusedSimpArgs false
set_option linter.unusedVariables false

namespace Sys2Proof.Machine

theorem takeWord_ok (d : PathDir) (pos word : Nat) (ok : Bool) (h : PathOk d) : PathOk (takeWord d pos word ok).1 := by
  obtain ⟨h1, h2, h3⟩ := h
  have grow : d.retained.length < 64 → PathOk { d with retained := d.retained ++ [word], sent := cut 32 (d.sent + 1), loose := d.loose + 1 } := by
    intro hl
    refine ⟨by simp; omega, by simp; omega, ?_⟩
    simp only [cut, List.length_append, List.length_singleton] at h3 ⊢
    omega
  have hd : ∀ b : Bool, (b = true → d.retained.length < 64) →
      PathOk (if b then { d with retained := d.retained ++ [word], sent := cut 32 (d.sent + 1), loose := d.loose + 1 } else d) := by
    intro b hb
    cases b
    · exact ⟨h1, h2, h3⟩
    · exact grow (hb rfl)
  unfold takeWord
  extract_lets off un first d1
  have hd1 : PathOk d1 := hd first (fun hf => by simp only [first, Bool.and_eq_true, decide_eq_true_eq] at hf; exact hf.2)
  have ha : d1.ahead = d.ahead := by simp only [d1]; split <;> rfl
  have hlen : first = true → d1.retained.length = d.retained.length + 1 := by
    intro hf; simp only [d1, hf, if_true]; simp
  have hlen0 : first = false → d1 = d := by intro hf; simp only [d1, hf]; rfl
  split
  · exact ⟨h1, h2, h3⟩
  · rename_i hne
    split
    · exact hd1
    · split
      · split
        · exact hd1
        · exact hd1
      · rename_i hoff hok
        have h0 : off = 0 := by
          by_cases h : off = 0
          · exact h
          · exact absurd (Or.inl h) hoff
        refine ⟨?_, ?_, ?_⟩
        · simp only [List.length_set]
          by_cases hf : first = true
          · rw [hlen hf, ha]; omega
          · have hf' : first = false := by simpa using hf
            rw [hlen0 hf']
            have : ¬ un ≤ off := fun k => hne ⟨by simp [hf'], k⟩
            simp only [un] at this
            omega
        · simpa only [List.length_set] using hd1.2.1
        · simpa only [List.length_set] using hd1.2.2

theorem replayWord_ok (d : PathDir) (h : PathOk d) : PathOk (replayWord d) := by
  unfold replayWord
  split
  · exact h
  · exact h

theorem ackWords_ok (d : PathDir) (n : Nat) (h : PathOk d) : PathOk (ackWords d n) := by
  obtain ⟨h1, h2, h3⟩ := h
  unfold ackWords
  split
  · refine ⟨by simp only [List.length_drop]; omega, by simp only [List.length_drop]; omega, ?_⟩
    simp only [cut, List.length_drop] at h3 ⊢
    omega
  · exact ⟨h1, h2, h3⟩

theorem clearPath_ok (d : PathDir) (h : PathOk d) : PathOk (clearPath d) := by
  obtain ⟨h1, h2, h3⟩ := h
  refine ⟨h1, h2, ?_⟩
  simp only [clearPath, cut]
  omega

theorem setDir_ok {k : Link} {d : PathDir} (rev : Bool) (h : PathOk k.fwd ∧ PathOk k.rev) (hd : PathOk d) :
    PathOk (k.setDir rev d).fwd ∧ PathOk (k.setDir rev d).rev := by
  cases rev
  · exact ⟨hd, h.2⟩
  · exact ⟨h.1, hd⟩

theorem dir_ok {k : Link} (rev : Bool) (h : PathOk k.fwd ∧ PathOk k.rev) : PathOk (k.dir rev) := by
  cases rev
  · exact h.1
  · exact h.2

theorem injectDone_ok {k : Link} (h : PathOk k.fwd ∧ PathOk k.rev) : PathOk (injectDone k).fwd ∧ PathOk (injectDone k).rev := by
  unfold injectDone
  split
  · exact h
  · exact h

theorem linkAt_ok {s : State} (h : LinkBalance s) (l : Nat) : PathOk (s.linkAt l).fwd ∧ PathOk (s.linkAt l).rev := by
  unfold State.linkAt
  by_cases hl : l < s.link.links.length
  · have : s.link.links.getD l {} = s.link.links[l] := by simp [List.getD, hl]
    rw [this]
    exact h _ (List.getElem_mem hl)
  · have : s.link.links.getD l {} = ({} : Link) := by simp [List.getD, List.getElem?_eq_none (by omega : s.link.links.length ≤ l)]
    rw [this]
    exact ⟨⟨by decide, by decide, by decide⟩, ⟨by decide, by decide, by decide⟩⟩

theorem carryPath_ok (d : PathDir) (ws : List Nat) (noise : Nat) (h : PathOk d) : PathOk (carryPath d ws noise).1 := by
  obtain ⟨h1, h2, h3⟩ := h
  unfold carryPath
  extract_lets fresh all held rest first bad
  have hall : all.length = d.retained.length + fresh.length := by simp only [all, List.length_append]
  split
  · exact ⟨h1, h2, h3⟩
  · split
    · exact ⟨h1, h2, h3⟩
    · split
      · have hheld : held.length = min 64 all.length := by simp only [held, List.length_take]
        refine ⟨?_, ?_, ?_⟩
        · change d.ahead ≤ held.length
          omega
        · change held.length ≤ 64
          omega
        · change cut 32 (d.accepted + held.length) = cut 32 (d.sent + (held.length - d.retained.length))
          simp only [cut] at h3 ⊢
          omega
      · have hlen : (all.drop first).length = all.length - first := by simp only [List.length_drop]
        refine ⟨?_, ?_, ?_⟩
        · change max d.ahead (all.length - rest) - first ≤ (all.drop first).length
          omega
        · change (all.drop first).length ≤ 64
          omega
        · change cut 32 (cut 32 (d.accepted + first) + (all.drop first).length) = cut 32 (d.sent + fresh.length)
          simp only [cut] at h3 ⊢
          omega

theorem State.setLink_fits {fp : Nat} {s00 s : State} (hb : within 64 fp = true) (h : Fits fp s00 s) (l : Nat) (f : Link → Link) (hf : LinkBalance s → ∀ k, PathOk k.fwd ∧ PathOk k.rev → PathOk (f k).fwd ∧ PathOk (f k).rev) :
    Fits fp s00 (State.setLink s l f) := by
  refine h.set_link hb _ (fun hl k hk => ?_) (fun _ k => k) (length_upd _ _ _) rfl rfl
  rcases mem_upd hk with hk | ⟨y, hy, rfl⟩
  · exact hl k hk
  · exact hf hl y (hl y hy)

theorem showLeftUp_fits {fp : Nat} {s00 s : State} (hb : within 66 fp = true) (h : Fits fp s00 s) (l : Nat) :
    Fits fp s00 (showLeftUp s l) := by
  unfold showLeftUp
  repeat' first
    | with_reducible assumption
    | with_reducible refine State.setLink_fits (within_trans (by decide) hb) ?_ _ _ (by first | with_unfolding_all exact fun _ _ h => h | exact fun _ _ h => setDir_ok _ h (replayWord_ok _ (dir_ok _ h)) | exact fun _ _ h => setDir_ok _ h (ackWords_ok _ _ (dir_ok _ h)) | exact fun _ _ h => ⟨clearPath_ok _ h.1, clearPath_ok _ h.2⟩)
    | with_reducible refine State.hist_fits (within_trans (by decide) hb) ?_ _ _
    | with_reducible refine Fits.ite _ ?_ ?_
    | split
    | extract_lets
    | (dsimp +zetaDelta only)

theorem publishLink_fits {fp : Nat} {s00 s : State} (hb : within 70 fp = true) (h : Fits fp s00 s) (l : Nat) :
    Fits fp s00 (publishLink s l) := by
  unfold publishLink
  repeat' first
    | with_reducible assumption
    | with_reducible refine showLeftUp_fits (within_trans (by decide) hb) ?_ _
    | with_reducible refine State.dput_fits (within_trans (by decide) hb) ?_ _ _
    | with_reducible refine State.put_fits (within_trans (by decide) hb) ?_ _ _
    | with_reducible refine Fits.many ?_ _ _ (fun _ _ _ => ?_)
    | with_reducible refine Fits.ite _ ?_ ?_
    | split
    | extract_lets
    | (dsimp +zetaDelta only)

theorem throttle_fits {fp : Nat} {s00 s : State} (hb : within 66 fp = true) (h : Fits fp s00 s) (c : Nat) :
    Fits fp s00 (throttle s c) := by
  unfold throttle
  repeat' first
    | with_reducible assumption
    | with_reducible refine State.hist_fits (within_trans (by decide) hb) ?_ _ _
    | with_reducible refine Fits.ite _ ?_ ?_
    | split
    | extract_lets
    | (dsimp +zetaDelta only)
    | with_reducible refine Fits.set_link (within_trans (by decide) hb) ?_ _ (by with_unfolding_all exact fun h => h) (by with_unfolding_all exact fun _ h => h) (by simp only [length_upd, List.length_set, List.length_map, List.length_zipIdx, List.length_cons]) (by simp only [length_upd, List.length_set, List.length_map, List.length_zipIdx, List.length_cons]) (by simp only [length_upd, List.length_set, List.length_map, List.length_zipIdx, List.length_cons])

theorem unthrottle_fits {fp : Nat} {s00 s : State} (hb : within 64 fp = true) (h : Fits fp s00 s) (c : Nat) :
    Fits fp s00 (unthrottle s c) := by
  unfold unthrottle
  repeat' first
    | with_reducible assumption
    | with_reducible refine Fits.ite _ ?_ ?_
    | split
    | extract_lets
    | (dsimp +zetaDelta only)
    | with_reducible refine Fits.set_link (within_trans (by decide) hb) ?_ _ (by with_unfolding_all exact fun h => h) (by with_unfolding_all exact fun _ h => h) (by simp only [length_upd, List.length_set, List.length_map, List.length_zipIdx, List.length_cons]) (by simp only [length_upd, List.length_set, List.length_map, List.length_zipIdx, List.length_cons]) (by simp only [length_upd, List.length_set, List.length_map, List.length_zipIdx, List.length_cons])

theorem linkToTraining_fits {fp : Nat} {s00 s : State} (hb : within 66 fp = true) (h : Fits fp s00 s) (l : Nat) :
    Fits fp s00 (linkToTraining s l) := by
  unfold linkToTraining
  repeat' first
    | with_reducible assumption
    | with_reducible refine throttle_fits hb ?_ _
    | with_reducible refine State.setLink_fits (within_trans (by decide) hb) ?_ _ _ (by first | with_unfolding_all exact fun _ _ h => h | exact fun _ _ h => setDir_ok _ h (replayWord_ok _ (dir_ok _ h)) | exact fun _ _ h => setDir_ok _ h (ackWords_ok _ _ (dir_ok _ h)) | exact fun _ _ h => ⟨clearPath_ok _ h.1, clearPath_ok _ h.2⟩)
    | with_reducible refine Fits.ite _ ?_ ?_
    | split
    | extract_lets
    | (dsimp +zetaDelta only)

theorem linkWord_fits {fp : Nat} {s00 s : State} (hb : within 102 fp = true) (h : Fits fp s00 s) (l : Nat) (rev : Bool) (pos : Nat) (word : Nat) (parity : Bool) :
    Fits fp s00 (linkWord s l rev pos word parity) := by
  unfold linkWord
  split
  · extract_lets r s1
    have h1 : Fits fp s00 s1 :=
      State.setLink_fits (within_trans (by decide) hb) h l _ fun hl k hk =>
        injectDone_ok (setDir_ok rev hk (takeWord_ok _ _ _ _ (dir_ok rev (linkAt_ok hl l))))
    clear_value s1
    split
    · exact publishLink_fits (within_trans (by decide) hb)
        (State.raise_fits (within_trans (by decide) hb) (linkToTraining_fits (within_trans (by decide) hb) h1 l) _ _ _ _) l
    · exact publishLink_fits (within_trans (by decide) hb) h1 l
  · exact h

theorem carry_fits {fp : Nat} {s00 s : State} (hb : within 102 fp = true) (h : Fits fp s00 s) (l : Nat) (rev : Bool) (ws : List Nat) (noise : Nat) :
    Fits fp s00 (carry s l rev ws noise).2.2 := by
  unfold carry
  split
  · extract_lets r s1
    have h1 : Fits fp s00 s1 :=
      State.setLink_fits (within_trans (by decide) hb) h l _ fun hl k hk =>
        injectDone_ok (setDir_ok rev hk (carryPath_ok _ _ _ (dir_ok rev (linkAt_ok hl l))))
    clear_value s1
    split
    · exact publishLink_fits (within_trans (by decide) hb) h1 l
    · exact publishLink_fits (within_trans (by decide) hb)
        (State.raise_fits (within_trans (by decide) hb) (linkToTraining_fits (within_trans (by decide) hb) h1 l) _ _ _ _) l
    · exact h
  · exact h

theorem carried_fits {fp : Nat} {s00 s : State} (hb : within 102 fp = true) (h : Fits fp s00 s) (l : Nat) (rev : Bool) (ws : List Nat) (f : State → State) (hf : ∀ y, Fits fp s00 y → Fits fp s00 (f y)) :
    Fits fp s00 (carried s l rev ws f) := by
  unfold carried
  repeat' first
    | with_reducible assumption
    | with_reducible refine carry_fits hb ?_ _ _ _ _
    | with_reducible refine hf _ ?_
    | with_reducible refine Fits.ite _ ?_ ?_
    | split
    | extract_lets
    | (dsimp +zetaDelta only)

theorem carriedTo_fits {fp : Nat} {s00 s : State} (hb : within 102 fp = true) (h : Fits fp s00 s) (die : Nat) (ws : List Nat) (f : State → State) (hf : ∀ y, Fits fp s00 y → Fits fp s00 (f y)) :
    Fits fp s00 (carriedTo s die ws f) := by
  unfold carriedTo
  repeat' first
    | with_reducible assumption
    | with_reducible refine carried_fits hb ?_ _ _ _ _ (fun _ _ => ?_)
    | with_reducible refine hf _ ?_
    | with_reducible refine Fits.ite _ ?_ ?_
    | split
    | extract_lets
    | (dsimp +zetaDelta only)

theorem carriedFrom_fits {fp : Nat} {s00 s : State} (hb : within 102 fp = true) (h : Fits fp s00 s) (die : Nat) (ws : List Nat) (f : State → State) (hf : ∀ y, Fits fp s00 y → Fits fp s00 (f y)) :
    Fits fp s00 (carriedFrom s die ws f) := by
  unfold carriedFrom
  repeat' first
    | with_reducible assumption
    | with_reducible refine carried_fits hb ?_ _ _ _ _ (fun _ _ => ?_)
    | with_reducible refine hf _ ?_
    | with_reducible refine Fits.ite _ ?_ ?_
    | split
    | extract_lets
    | (dsimp +zetaDelta only)

theorem State.setHub_fits {fp : Nat} {s00 s : State} (hb : within 64 fp = true) (h : Fits fp s00 s) (p : Nat) (d : PathDir) :
    Fits fp s00 (State.setHub s p d) := by
  unfold State.setHub
  repeat' first
    | with_reducible assumption
    | with_reducible refine Fits.ite _ ?_ ?_
    | split
    | extract_lets
    | (dsimp +zetaDelta only)
    | with_reducible refine Fits.set_link (within_trans (by decide) hb) ?_ _ (by with_unfolding_all exact fun h => h) (by with_unfolding_all exact fun _ h => h) (by simp only [length_upd, List.length_set, List.length_map, List.length_zipIdx, List.length_cons]) (by simp only [length_upd, List.length_set, List.length_map, List.length_zipIdx, List.length_cons]) (by simp only [length_upd, List.length_set, List.length_map, List.length_zipIdx, List.length_cons])

theorem hubWord_fits {fp : Nat} {s00 s : State} (hb : within 98 fp = true) (h : Fits fp s00 s) (p : Nat) (pos : Nat) (word : Nat) (parity : Bool) :
    Fits fp s00 (hubWord s p pos word parity) := by
  unfold hubWord
  repeat' first
    | with_reducible assumption
    | with_reducible refine State.setHub_fits (within_trans (by decide) hb) ?_ _ _
    | with_reducible refine State.raise_fits (within_trans (by decide) hb) ?_ _ _ _ _
    | with_reducible refine State.incSat_fits (within_trans (by decide) hb) ?_ _ _ _
    | with_reducible refine State.inc_fits (within_trans (by decide) hb) ?_ _ _ _
    | with_reducible refine Fits.ite _ ?_ ?_
    | split
    | extract_lets
    | (dsimp +zetaDelta only)

theorem replayPath_fits {fp : Nat} {s00 s : State} (hb : within 70 fp = true) (h : Fits fp s00 s) (x0 : Path) :
    Fits fp s00 (replayPath s x0) := by
  unfold replayPath
  repeat' first
    | with_reducible assumption
    | with_reducible refine State.setHub_fits (within_trans (by decide) hb) ?_ _ _
    | with_reducible refine publishLink_fits hb ?_ _
    | with_reducible refine State.setLink_fits (within_trans (by decide) hb) ?_ _ _ (by first | with_unfolding_all exact fun _ _ h => h | exact fun _ _ h => setDir_ok _ h (replayWord_ok _ (dir_ok _ h)) | exact fun _ _ h => setDir_ok _ h (ackWords_ok _ _ (dir_ok _ h)) | exact fun _ _ h => ⟨clearPath_ok _ h.1, clearPath_ok _ h.2⟩)
    | with_reducible refine State.inc_fits (within_trans (by decide) hb) ?_ _ _ _
    | with_reducible refine Fits.ite _ ?_ ?_
    | split
    | extract_lets
    | (dsimp +zetaDelta only)

theorem ackPath_fits {fp : Nat} {s00 s : State} (hb : within 70 fp = true) (h : Fits fp s00 s) (n : Nat) (x0 : Path) :
    Fits fp s00 (ackPath s n x0) := by
  unfold ackPath
  repeat' first
    | with_reducible assumption
    | with_reducible refine State.setHub_fits (within_trans (by decide) hb) ?_ _ _
    | with_reducible refine publishLink_fits hb ?_ _
    | with_reducible refine State.setLink_fits (within_trans (by decide) hb) ?_ _ _ (by first | with_unfolding_all exact fun _ _ h => h | exact fun _ _ h => setDir_ok _ h (replayWord_ok _ (dir_ok _ h)) | exact fun _ _ h => setDir_ok _ h (ackWords_ok _ _ (dir_ok _ h)) | exact fun _ _ h => ⟨clearPath_ok _ h.1, clearPath_ok _ h.2⟩)
    | with_reducible refine Fits.ite _ ?_ ?_
    | split
    | extract_lets
    | (dsimp +zetaDelta only)

theorem messagesReturn_fits {fp : Nat} {s00 s : State} (hb : within 32 fp = true) (h : Fits fp s00 s) (l : Nat) :
    Fits fp s00 (messagesReturn s l) := by
  unfold messagesReturn
  repeat' first
    | with_reducible assumption
    | with_reducible refine Fits.ite _ ?_ ?_
    | split
    | extract_lets
    | (dsimp +zetaDelta only)
    | with_reducible refine Fits.set_faultIn (within_trans (by decide) hb) ?_ _

theorem linkTrained_fits {fp : Nat} {s00 s : State} (hb : within 102 fp = true) (h : Fits fp s00 s) (l : Nat) :
    Fits fp s00 (linkTrained s l) := by
  unfold linkTrained
  repeat' first
    | with_reducible assumption
    | with_reducible refine messagesReturn_fits (within_trans (by decide) hb) ?_ _
    | with_reducible refine publishLink_fits (within_trans (by decide) hb) ?_ _
    | with_reducible refine State.setLink_fits (within_trans (by decide) hb) ?_ _ _ (by first | with_unfolding_all exact fun _ _ h => h | exact fun _ _ h => setDir_ok _ h (replayWord_ok _ (dir_ok _ h)) | exact fun _ _ h => setDir_ok _ h (ackWords_ok _ _ (dir_ok _ h)) | exact fun _ _ h => ⟨clearPath_ok _ h.1, clearPath_ok _ h.2⟩)
    | with_reducible refine Fits.ite _ ?_ ?_
    | split
    | extract_lets
    | (dsimp +zetaDelta only)

theorem linkFailed_fits {fp : Nat} {s00 s : State} (hb : within 102 fp = true) (h : Fits fp s00 s) (l : Nat) :
    Fits fp s00 (linkFailed s l) := by
  unfold linkFailed
  repeat' first
    | with_reducible assumption
    | with_reducible refine publishLink_fits (within_trans (by decide) hb) ?_ _
    | with_reducible refine State.setLink_fits (within_trans (by decide) hb) ?_ _ _ (by first | with_unfolding_all exact fun _ _ h => h | exact fun _ _ h => setDir_ok _ h (replayWord_ok _ (dir_ok _ h)) | exact fun _ _ h => setDir_ok _ h (ackWords_ok _ _ (dir_ok _ h)) | exact fun _ _ h => ⟨clearPath_ok _ h.1, clearPath_ok _ h.2⟩)
    | with_reducible refine State.raise_fits (within_trans (by decide) hb) ?_ _ _ _ _
    | with_reducible refine Fits.ite _ ?_ ?_
    | split
    | extract_lets
    | (dsimp +zetaDelta only)

theorem linkRetrain_fits {fp : Nat} {s00 s : State} (hb : within 70 fp = true) (h : Fits fp s00 s) (l : Nat) :
    Fits fp s00 (linkRetrain s l) := by
  unfold linkRetrain
  repeat' first
    | with_reducible assumption
    | with_reducible refine linkToTraining_fits (within_trans (by decide) hb) ?_ _
    | with_reducible refine publishLink_fits hb ?_ _
    | with_reducible refine Fits.ite _ ?_ ?_
    | split
    | extract_lets
    | (dsimp +zetaDelta only)

theorem linkClear_fits {fp : Nat} {s00 s : State} (hb : within 70 fp = true) (h : Fits fp s00 s) (l : Nat) :
    Fits fp s00 (linkClear s l) := by
  unfold linkClear
  repeat' first
    | with_reducible assumption
    | with_reducible refine publishLink_fits hb ?_ _
    | with_reducible refine State.setLink_fits (within_trans (by decide) hb) ?_ _ _ (by first | with_unfolding_all exact fun _ _ h => h | exact fun _ _ h => setDir_ok _ h (replayWord_ok _ (dir_ok _ h)) | exact fun _ _ h => setDir_ok _ h (ackWords_ok _ _ (dir_ok _ h)) | exact fun _ _ h => ⟨clearPath_ok _ h.1, clearPath_ok _ h.2⟩)
    | with_reducible refine Fits.ite _ ?_ ?_
    | split
    | extract_lets
    | (dsimp +zetaDelta only)

theorem linkInject_fits {fp : Nat} {s00 s : State} (hb : within 26996718 fp = true) (h : Fits fp s00 s) (l : Nat) (v : Nat) :
    Fits fp s00 (linkInject s l v) := by
  unfold linkInject
  repeat' first
    | with_reducible assumption
    | with_reducible refine inject_fits hb ?_ _
    | with_reducible refine publishLink_fits (within_trans (by decide) hb) ?_ _
    | with_reducible refine State.setLink_fits (within_trans (by decide) hb) ?_ _ _ (by first | with_unfolding_all exact fun _ _ h => h | exact fun _ _ h => setDir_ok _ h (replayWord_ok _ (dir_ok _ h)) | exact fun _ _ h => setDir_ok _ h (ackWords_ok _ _ (dir_ok _ h)) | exact fun _ _ h => ⟨clearPath_ok _ h.1, clearPath_ok _ h.2⟩)
    | with_reducible refine Fits.ite _ ?_ ?_
    | split
    | extract_lets
    | (dsimp +zetaDelta only)

theorem linkCommand_fits {fp : Nat} {s00 s : State} (hb : within 70 fp = true) (h : Fits fp s00 s) (l : Nat) (v : Nat) :
    Fits fp s00 (linkCommand s l v) := by
  unfold linkCommand
  repeat' first
    | with_reducible assumption
    | with_reducible refine linkClear_fits hb ?_ _
    | with_reducible refine linkRetrain_fits hb ?_ _
    | with_reducible refine Fits.ite _ ?_ ?_
    | split
    | extract_lets
    | (dsimp +zetaDelta only)

end Sys2Proof.Machine
end

