-- ==== Sys2Proof/Laws/FitsChannels.lean ====
section
/-! SUPPORT. What each operation of Machine/Channels.lean may touch, and the invariants that it keeps. -/

set_option linter.unusedSimpArgs false
set_option linter.unusedVariables false

namespace Sys2Proof.Machine

theorem get_upd {α : Type} {l : List α} {i m : Nat} {f : α → α} {x : α} (h : (upd l i f)[m]? = some x) :
    ∃ y, l[m]? = some y ∧ (x = y ∨ x = f y) := by
  simp only [upd, List.getElem?_modify] at h
  split at h
  · simp only [Option.map_eq_map, Option.map_eq_some_iff] at h
    obtain ⟨y, hy, rfl⟩ := h
    exact ⟨y, hy, .inr rfl⟩
  · simp only [Option.map_eq_map, Option.map_id', id_eq] at h
    exact ⟨x, by simpa using h, .inl rfl⟩

theorem get_upd_self {α : Type} {l : List α} {i : Nat} {f : α → α} {x : α} (h : (upd l i f)[i]? = some x) :
    ∃ y, l[i]? = some y ∧ x = f y := by
  simp only [upd, List.getElem?_modify, if_true, Option.map_eq_map, Option.map_eq_some_iff] at h
  obtain ⟨y, hy, rfl⟩ := h
  exact ⟨y, hy, rfl⟩

theorem get_upd_other {α : Type} {l : List α} {i m : Nat} {f : α → α} (h : i ≠ m) : (upd l i f)[m]? = l[m]? := by
  simp [upd, List.getElem?_modify, h]

/-- What SnapBalance says of channel m. -/
def SnapAt (o : Option Snap) (m : Nat) (c : Chan) : Prop :=
  match o with
  | none => noMarker c.fifo = true
  | some p => if p.chan = m then SnapOk p c else noMarker c.fifo = true

theorem snapBalance_iff (s : State) : SnapBalance s ↔ ∀ n c, s.chan.chans[n]? = some c → SnapAt s.link.snap n c := Iff.rfl

theorem snapAt_flow {o : Option Snap} {m : Nat} {c d : Chan} (h : d.fifo = c.fifo ∧ d.delivered = c.delivered ∧ d.dropHub = c.dropHub)
    (k : SnapAt o m c) : SnapAt o m d := by
  unfold SnapAt SnapOk at *
  simpa only [h.1, h.2.1, h.2.2] using k

theorem noMarker_append (a b : List FifoItem) : noMarker (a ++ b) = (noMarker a && noMarker b) := by simp [noMarker]

theorem fifoCount_append (a b : List FifoItem) : fifoCount (a ++ b) = fifoCount a + fifoCount b := by simp [fifoCount]

theorem chanAt_get {s : State} {n : Nat} (h : n < s.chan.chans.length) : s.chan.chans[n]? = some (s.chanAt n) := by
  simp [State.chanAt, List.getD, h]

theorem fifoCount_all {l : List FifoItem} (h : noMarker l = true) : fifoCount l = l.length := by
  unfold fifoCount
  rw [List.filter_eq_self.mpr]
  intro a ha
  exact (List.all_eq_true.mp h) a ha

theorem noMarker_drop (l : List FifoItem) : noMarker (dropMarkers l) = true := by
  simp only [noMarker, dropMarkers, List.all_eq_true, List.mem_filter]
  intro x hx
  exact hx.2

theorem fifoCount_drop (l : List FifoItem) : fifoCount (dropMarkers l) = fifoCount l := by
  unfold fifoCount dropMarkers
  simp only [List.filter_filter, Bool.and_self]

theorem popDelivered_ok (q : Nat) (c : Chan) (h : ChanOk c) : ChanOk (popDelivered q c) := by
  unfold popDelivered
  split
  · rename_i e
    simp only [ChanOk, e, fifoCount, List.filter_cons, if_true, List.length_cons] at h ⊢
    omega
  · exact h

theorem popDropped_ok (c : Chan) (h : ChanOk c) : ChanOk (popDropped c) := by
  unfold popDropped
  split
  · rename_i e
    simp only [ChanOk, e, fifoCount, List.filter_cons, if_true, List.length_cons] at h ⊢
    omega
  · exact h

theorem popMarker_ok (c : Chan) (h : ChanOk c) : ChanOk (popMarker c) := by
  unfold popMarker
  split
  · rename_i e
    simp only [ChanOk, e, fifoCount, List.filter_cons] at h ⊢
    exact h
  · exact h

theorem putMarker_ok (c : Chan) (h : ChanOk c) : ChanOk (putMarker c) := by
  simp only [ChanOk, putMarker, fifoCount_append] at h ⊢
  exact h

theorem clearMarkers_ok (c : Chan) (h : ChanOk c) : ChanOk (clearMarkers c) := by
  simp only [ChanOk, clearMarkers, fifoCount_drop] at h ⊢
  exact h

/-- A change of the snapshot and of one channel together. -/
theorem Fits.set_snap {fp : Nat} {s00 s : State} (hb : within 192 fp = true) (h : Fits fp s00 s) (o : Option Snap) (n : Nat) (f : Chan → Chan)
    (hf : ∀ c, ChanOk c → ChanOk (f c))
    (hn : StampBalance s → SnapBalance s → ∀ m c, (upd s.chan.chans n f)[m]? = some c → SnapAt o m c) :
    Fits fp s00 (({ s with link := { s.link with snap := o } } : State).setChan n f) where
  pending := h.pending
  link := fun k => absurd (within_bit (i := 6) (within_trans (by decide) hb)) (by simp [k])
  chan := fun k => absurd (within_bit (i := 7) (within_trans (by decide) hb)) (by simp [k])
  now := h.now
  od := h.od
  dr := h.dr
  out := h.out
  free := h.free
  faultIn := h.faultIn
  tcs := h.tcs
  cups := h.cups
  dp := h.dp
  ctxs := h.ctxs
  ptp := h.ptp
  ap := h.ap
  sched := h.sched
  engDown := h.engDown
  eng := h.eng
  fab := h.fab
  cal := h.cal
  nv := h.nv
  col := h.col
  can := h.can
  host := h.host
  boot := h.boot
  resetReq := h.resetReq
  dict := h.dict
  array := h.array
  shape := fun k => { h.shape k with chans := (length_upd _ _ _).trans (h.shape k).chans }
  links := h.links
  stamps := fun k c hc => by
    rcases mem_upd hc with hc | ⟨y, hy, rfl⟩
    · exact h.stamps k c hc
    · exact hf y (h.stamps k y hy)
  snap := fun k m => hn (h.stamps k) (h.snap k m)
  writes := h.writes

theorem snapAt_held {o : Option Snap} {n m : Nat} {c : Chan} (hm : n ≠ m) (h : SnapAt o m c) :
    SnapAt (o.map fun p => if p.chan = n then { p with held := p.held + 1 } else p) m c := by
  cases o with
  | none => exact h
  | some p =>
    simp only [Option.map_some, SnapAt] at h ⊢
    by_cases hp : p.chan = n
    · simp only [hp, if_true, hm, if_false] at h ⊢
      exact h
    · simp only [hp, if_false]
      exact h

theorem noMarker_cons {x : Stamp} {r : List FifoItem} : noMarker (.stamp x :: r) = noMarker r := by simp [noMarker]

theorem snapAt_pop {o : Option Snap} {n : Nat} {c d : Chan} {x : Stamp} {r : List FifoItem} (e : c.fifo = .stamp x :: r)
    (hd : d.fifo = r) (hs : d.delivered + d.dropHub = c.delivered + c.dropHub + 1) (h : SnapAt o n c) :
    SnapAt (o.map fun p => if p.chan = n then { p with held := p.held + 1 } else p) n d := by
  cases o with
  | none =>
    simp only [Option.map_none, SnapAt, e, hd, noMarker_cons] at h ⊢
    exact h
  | some p =>
    simp only [Option.map_some, SnapAt] at h ⊢
    by_cases hp : p.chan = n
    · simp only [hp, if_true] at h ⊢
      unfold SnapOk at h ⊢
      cases hsl : p.slice with
      | none =>
        simp only [hsl, e, hd, noMarker_cons] at h ⊢
        exact ⟨h.1, by have := h.2; omega⟩
      | some v =>
        simp only [hsl] at h ⊢
        obtain ⟨pre, post, hf, h1, h2, h3⟩ := h
        rw [e] at hf
        cases pre with
        | nil => simp at hf
        | cons a pre =>
          simp only [List.cons_append, List.cons.injEq] at hf
          refine ⟨pre, post, hd.trans hf.2, ?_, h2, ?_⟩
          · rw [← hf.1] at h1
            rwa [noMarker_cons] at h1
          · simp only [List.length_cons] at h3
            omega
    · simp only [hp, if_false] at h ⊢
      rw [e, noMarker_cons] at h
      rw [hd]
      exact h

theorem snapHeld_eq (s : State) (n : Nat) : snapHeld s n =
    { s with link := { s.link with snap := s.link.snap.map fun p => if p.chan = n then { p with held := p.held + 1 } else p } } := by
  have self : ∀ o, o = s.link.snap → s = { s with link := { s.link with snap := o } } := fun o h => by subst h; rfl
  unfold snapHeld
  cases hs : s.link.snap with
  | none => exact self _ hs.symm
  | some p =>
    simp only [Option.map_some]
    split
    · rfl
    · exact self _ hs.symm

theorem State.setChan_fits {fp : Nat} {s00 s : State} (hb : within 128 fp = true) (h : Fits fp s00 s) (n : Nat) (f : Chan → Chan) (hf : ∀ c, ChanOk c → ChanOk (f c))
    (hn : ∀ c : Chan, (f c).fifo = c.fifo ∧ (f c).delivered = c.delivered ∧ (f c).dropHub = c.dropHub) :
    Fits fp s00 (State.setChan s n f) := by
  refine h.set_chan hb _ (fun hl k hk => ?_) (fun _ hs m c hc => ?_) (length_upd _ _ _) rfl
  · rcases mem_upd hk with hk | ⟨y, hy, rfl⟩
    · exact hl k hk
    · exact hf y (hl y hy)
  · obtain ⟨y, hy, rfl | rfl⟩ := get_upd hc
    · exact hs m _ hy
    · exact snapAt_flow (hn y) (hs m _ hy)

theorem decimRestart_fits {fp : Nat} {s00 s : State} (hb : within 128 fp = true) (h : Fits fp s00 s) (n : Nat) :
    Fits fp s00 (decimRestart s n) := by
  unfold decimRestart
  repeat' first
    | with_reducible assumption
    | with_reducible refine State.setChan_fits hb ?_ _ _ (by with_unfolding_all exact fun _ h => h) (by with_unfolding_all exact fun _ => ⟨rfl, rfl, rfl⟩)
    | with_reducible refine Fits.ite _ ?_ ?_
    | split
    | extract_lets
    | (dsimp +zetaDelta only)

theorem State.setTc_fits {fp : Nat} {s00 s : State} (hb : within 256 fp = true) (h : Fits fp s00 s) (t : Nat) (f : Tc → Tc) :
    Fits fp s00 (State.setTc s t f) := by
  unfold State.setTc
  repeat' first
    | with_reducible assumption
    | with_reducible refine Fits.ite _ ?_ ?_
    | split
    | extract_lets
    | (dsimp +zetaDelta only)
    | with_reducible refine Fits.set_tcs (within_trans (by decide) hb) ?_ _ (by simp only [length_upd, List.length_set, List.length_map, List.length_zipIdx, List.length_cons])

theorem prescStep_fits {fp : Nat} {s00 s : State} (hb : within 128 fp = true) (h : Fits fp s00 s) (n : Nat) (falling : Bool) :
    Fits fp s00 (prescStep s n falling) := by
  unfold prescStep
  repeat' first
    | with_reducible assumption
    | with_reducible refine State.setChan_fits hb ?_ _ _ (by with_unfolding_all exact fun _ h => h) (by with_unfolding_all exact fun _ => ⟨rfl, rfl, rfl⟩)
    | with_reducible refine Fits.ite _ ?_ ?_
    | split
    | extract_lets
    | (dsimp +zetaDelta only)

theorem capture_fits {fp : Nat} {s00 s : State} (hb : within 128 fp = true) (h : Fits fp s00 s) (n : Nat) (x : Stamp) :
    Fits fp s00 (capture s n x) := by
  unfold capture
  extract_lets full
  clear_value full
  refine h.set_chan hb _ (fun hl k hk => ?_) (fun _ hs m c hc => (?_ : SnapAt s.link.snap m c)) (length_upd _ _ _) rfl
  · rcases mem_upd hk with hk | ⟨y, hy, rfl⟩
    · exact hl k hk
    · have := hl y hy
      simp only [ChanOk] at this ⊢
      cases full
      · simp only [Bool.false_eq_true, if_false, fifoCount_append]
        simp only [fifoCount, List.filter_cons, List.filter_nil, if_true, List.length_cons, List.length_nil] at this ⊢
        omega
      · simp only [if_true]
        omega
  · obtain ⟨y, hy, rfl | rfl⟩ := get_upd hc
    · exact (hs m _ hy : SnapAt s.link.snap m _)
    · have hy : SnapAt s.link.snap m y := hs m _ hy
      cases full
      · simp only [Bool.false_eq_true, if_false]
        unfold SnapAt at hy ⊢
        split
        · simp_all [noMarker_append, noMarker]
        · rename_i p hp
          simp only [hp] at hy
          split
          · rename_i he
            simp only [he, if_true] at hy
            unfold SnapOk at hy ⊢
            split
            · rename_i e; simp only [e] at hy
              exact ⟨by simpa [noMarker_append, noMarker] using hy.1, hy.2⟩
            · rename_i e; simp only [e] at hy
              obtain ⟨pre, post, h1, h2, h3, h4⟩ := hy
              exact ⟨pre, post ++ [.stamp x], by simp [h1], h2, by simpa [noMarker_append, noMarker] using h3, h4⟩
          · rename_i he
            simp only [he, if_false] at hy
            simpa [noMarker_append, noMarker] using hy
      · simp only [if_true]
        exact snapAt_flow ⟨rfl, rfl, rfl⟩ hy

theorem channelEdge_fits {fp : Nat} {s00 s : State} (hb : within 132 fp = true) (h : Fits fp s00 s) (n : Nat) (falling : Bool) (raw : Int) (x : Int) :
    Fits fp s00 (channelEdge s n falling raw x) := by
  unfold channelEdge
  repeat' first
    | with_reducible assumption
    | with_reducible refine capture_fits (within_trans (by decide) hb) ?_ _ _
    | with_reducible refine prescStep_fits (within_trans (by decide) hb) ?_ _ _
    | with_reducible refine State.setChan_fits (within_trans (by decide) hb) ?_ _ _ (by with_unfolding_all exact fun _ h => h) (by with_unfolding_all exact fun _ => ⟨rfl, rfl, rfl⟩)
    | with_reducible refine State.dinc_fits (within_trans (by decide) hb) ?_ _ _ _
    | with_reducible refine Fits.ite _ ?_ ?_
    | split
    | extract_lets
    | (dsimp +zetaDelta only)
    | with_reducible refine Fits.set_chan (within_trans (by decide) hb) ?_ _ (by with_unfolding_all exact fun h => h) (by with_unfolding_all exact fun _ h => h) (by simp only [length_upd, List.length_set, List.length_map, List.length_zipIdx, List.length_cons]) (by simp only [length_upd, List.length_set, List.length_map, List.length_zipIdx, List.length_cons])

theorem ringOverwrite_fits {fp : Nat} {s00 s : State} (hb : within 131202 fp = true) (h : Fits fp s00 s) (e : RingEntry) :
    Fits fp s00 (ringOverwrite s e) := by
  unfold ringOverwrite
  repeat' first
    | with_reducible assumption
    | with_reducible refine State.hist_fits (within_trans (by decide) hb) ?_ _ _
    | with_reducible refine State.inc_fits (within_trans (by decide) hb) ?_ _ _ _
    | with_reducible refine Fits.when ?_ _ _ (fun _ _ => ?_)
    | with_reducible refine Fits.ite _ ?_ ?_
    | split
    | extract_lets
    | (dsimp +zetaDelta only)
    | with_reducible refine Fits.set_chan (within_trans (by decide) hb) ?_ _ (by with_unfolding_all exact fun h => h) (by with_unfolding_all exact fun _ h => h) (by simp only [length_upd, List.length_set, List.length_map, List.length_zipIdx, List.length_cons]) (by simp only [length_upd, List.length_set, List.length_map, List.length_zipIdx, List.length_cons])
    | with_reducible refine Fits.set_fab (within_trans (by decide) hb) ?_ _ (by simp only [length_upd, List.length_set, List.length_map, List.length_zipIdx, List.length_cons]) (by simp only [length_upd, List.length_set, List.length_map, List.length_zipIdx, List.length_cons])



theorem deliver_fits {fp : Nat} {s00 s : State} (hb : within 130 fp = true) (h : Fits fp s00 s) (n : Nat) (y : Stamp) (cup : Bool) :
    Fits fp s00 (deliver s n y cup) := by
  unfold deliver
  repeat' first
    | with_reducible assumption
    | with_reducible refine State.hist_fits (within_trans (by decide) hb) ?_ _ _
    | with_reducible refine State.put_fits (within_trans (by decide) hb) ?_ _ _
    | with_reducible refine Fits.when ?_ _ _ (fun _ _ => ?_)
    | with_reducible refine Fits.ite _ ?_ ?_
    | split
    | extract_lets
    | (dsimp +zetaDelta only)
    | with_reducible refine Fits.set_chan (within_trans (by decide) hb) ?_ _ (by with_unfolding_all exact fun h => h) (by with_unfolding_all exact fun _ h => h) (by simp only [length_upd, List.length_set, List.length_map, List.length_zipIdx, List.length_cons]) (by simp only [length_upd, List.length_set, List.length_map, List.length_zipIdx, List.length_cons])

theorem takeStamp_fits {fp : Nat} {s00 s : State} (hb : within 192 fp = true) (h : Fits fp s00 s) (n : Nat) (seq : Option Nat) :
    Fits fp s00 (takeStamp s n seq) := by
  unfold takeStamp
  split
  · rename_i x hx
    rw [snapHeld_eq]
    have hne : ∃ r, (s.chanAt n).fifo = .stamp x :: r := by
      unfold nextStamp at hx
      split at hx
      · rename_i r e
        simp only [Option.some.injEq] at hx
        exact ⟨r, by rw [e, hx]⟩
      · simp at hx
    obtain ⟨r, e⟩ := hne
    have key : ∀ f : Chan → Chan, (∀ c, ChanOk c → ChanOk (f c)) →
        ((f (s.chanAt n)).fifo = r ∧ (f (s.chanAt n)).delivered + (f (s.chanAt n)).dropHub = (s.chanAt n).delivered + (s.chanAt n).dropHub + 1) →
        Fits fp s00 (({ s with link := { s.link with snap := s.link.snap.map fun p => if p.chan = n then { p with held := p.held + 1 } else p } }
          : State).setChan n f) := by
      intro f hf hp
      refine Fits.set_snap hb h _ n f hf (fun _ hs m c hc => ?_)
      by_cases hm : n = m
      · subst hm
        obtain ⟨y, hy, rfl⟩ := get_upd_self hc
        have hya : y = s.chanAt n := by
          simp only [State.chanAt, List.getD, hy, Option.getD_some]
        subst hya
        exact snapAt_pop e hp.1 hp.2 (hs n _ hy)
      · rw [get_upd_other hm] at hc
        exact snapAt_held hm (hs m c hc)
    cases seq with
    | some q => exact key _ (popDelivered_ok q) (by simp only [popDelivered, e]; exact ⟨trivial, by omega⟩)
    | none => exact key _ popDropped_ok (by simp only [popDropped, e]; exact ⟨trivial, by omega⟩)
  · exact h

theorem ingestRing_fits {fp : Nat} {s00 s : State} (hb : within 131266 fp = true) (h : Fits fp s00 s) (n : Nat) (x : Stamp) (replays : Nat) (cup : Bool) :
    Fits fp s00 (ingestRing s n x replays cup) := by
  unfold ingestRing
  repeat' first
    | with_reducible assumption
    | with_reducible refine takeStamp_fits (within_trans (by decide) hb) ?_ _ _
    | with_reducible refine deliver_fits (within_trans (by decide) hb) ?_ _ _ _
    | with_reducible refine ringOverwrite_fits (within_trans (by decide) hb) ?_ _
    | with_reducible refine State.hist_fits (within_trans (by decide) hb) ?_ _ _
    | with_reducible refine Fits.when ?_ _ _ (fun _ _ => ?_)
    | with_reducible refine Fits.ite _ ?_ ?_
    | split
    | extract_lets
    | (dsimp +zetaDelta only)

theorem popStamp_fits {fp : Nat} {s00 s : State} (hb : within 128 fp = true) (h : Fits fp s00 s) (i : Nat) (n : Nat) :
    Fits fp s00 (popStamp s i n) := by
  unfold popStamp
  repeat' first
    | with_reducible assumption
    | with_reducible refine Fits.ite _ ?_ ?_
    | split
    | extract_lets
    | (dsimp +zetaDelta only)
    | with_reducible refine Fits.set_chan (within_trans (by decide) hb) ?_ _ (by with_unfolding_all exact fun h => h) (by with_unfolding_all exact fun _ h => h) (by simp only [length_upd, List.length_set, List.length_map, List.length_zipIdx, List.length_cons]) (by simp only [length_upd, List.length_set, List.length_map, List.length_zipIdx, List.length_cons])

theorem rateSecond_fits {fp : Nat} {s00 s : State} (hb : within 132 fp = true) (h : Fits fp s00 s)  :
    Fits fp s00 (rateSecond s) := by
  unfold rateSecond
  repeat' first
    | with_reducible assumption
    | with_reducible refine State.setChan_fits (within_trans (by decide) hb) ?_ _ _ (by with_unfolding_all exact fun _ h => h) (by with_unfolding_all exact fun _ => ⟨rfl, rfl, rfl⟩)
    | with_reducible refine State.dput_fits (within_trans (by decide) hb) ?_ _ _
    | with_reducible refine Fits.many ?_ _ _ (fun _ _ _ => ?_)
    | with_reducible refine Fits.ite _ ?_ ?_
    | split
    | extract_lets
    | (dsimp +zetaDelta only)

theorem refreshChan_fits {fp : Nat} {s00 s : State} (hb : within 130 fp = true) (h : Fits fp s00 s) (n : Nat) :
    Fits fp s00 (refreshChan s n) := by
  unfold refreshChan
  repeat' first
    | with_reducible assumption
    | with_reducible refine State.setChan_fits (within_trans (by decide) hb) ?_ _ _ (by with_unfolding_all exact fun _ h => h) (by with_unfolding_all exact fun _ => ⟨rfl, rfl, rfl⟩)
    | with_reducible refine State.hist_fits (within_trans (by decide) hb) ?_ _ _
    | with_reducible refine State.put_fits (within_trans (by decide) hb) ?_ _ _
    | with_reducible refine Fits.ite _ ?_ ?_
    | split
    | extract_lets
    | (dsimp +zetaDelta only)

theorem snapStart_fits {fp : Nat} {s00 s : State} (hb : within 66 fp = true) (h : Fits fp s00 s) (n : Nat) :
    Fits fp s00 (snapStart s n) := by
  unfold snapStart
  split
  · exact h
  · rename_i hno
    split
    · exact State.put_fits (within_trans (by decide) hb) (State.put_fits (within_trans (by decide) hb) h _ _) _ _
    · refine State.put_fits (within_trans (by decide) hb) (State.put_fits (within_trans (by decide) hb) ?_ _ _) _ _
      refine h.set_link (within_trans (by decide) hb) _ (fun k => k)
        (fun _ hs m c hc => (?_ : SnapAt (some { chan := n, delivered := (s.chanAt n).delivered, dropHub := (s.chanAt n).dropHub }) m c)) rfl rfl rfl
      have hc' := hs m c hc
      have hn : s.link.snap = none := by simpa using hno
      change SnapAt s.link.snap m c at hc'
      simp only [SnapAt, hn] at hc' ⊢
      split
      · rename_i hp
        subst hp
        refine ⟨hc', ?_⟩
        have : c = s.chanAt n := by
          change s.chan.chans[n]? = some c at hc
          simp only [State.chanAt, List.getD, hc, Option.getD_some]
        subst this
        rfl
      · exact hc'

theorem snapAtSlice_fits {fp : Nat} {s00 s : State} (hb : within 192 fp = true) (h : Fits fp s00 s)  :
    Fits fp s00 (snapAtSlice s) := by
  unfold snapAtSlice
  split
  · rename_i p hp
    split
    · rename_i hc0
      refine Fits.set_snap hb h _ _ _ putMarker_ok (fun hst hs m c hc => ?_)
      by_cases hm : p.chan = m
      · subst hm
        obtain ⟨y, hy, rfl⟩ := get_upd_self hc
        have hya : y = s.chanAt p.chan := by simp only [State.chanAt, List.getD, hy, Option.getD_some]
        subst hya
        have hy2 := hs p.chan _ hy
        change SnapAt s.link.snap p.chan _ at hy2
        simp only [SnapAt, hp, if_true, SnapOk, hc0] at hy2
        simp only [SnapAt, if_true, SnapOk]
        refine ⟨(s.chanAt p.chan).fifo, [], rfl, hy2.1, rfl, ?_⟩
        have hok := hst _ (List.mem_of_getElem? hy)
        simp only [ChanOk, fifoCount_all hy2.1] at hok
        have := hy2.2
        omega
      · rw [get_upd_other hm] at hc
        have hc' := hs m c hc
        change SnapAt s.link.snap m c at hc'
        simp only [SnapAt, hp, hm, if_false] at hc' ⊢
        exact hc'
    · exact h
  · exact h

theorem snapLatch_fits {fp : Nat} {s00 s : State} (hb : within 230 fp = true) (h : Fits fp s00 s)  :
    Fits fp s00 (snapLatch s) := by
  unfold snapLatch
  repeat' first
    | with_reducible assumption
    | with_reducible refine snapAtSlice_fits (within_trans (by decide) hb) ?_
    | with_reducible refine carried_fits (within_trans (by decide) hb) ?_ _ _ _ _ (fun _ _ => ?_)
    | with_reducible refine Fits.ite _ ?_ ?_
    | split
    | extract_lets
    | (dsimp +zetaDelta only)

theorem snapAbandon_fits {fp : Nat} {s00 s : State} (hb : within 194 fp = true) (h : Fits fp s00 s) (c : Nat) :
    Fits fp s00 (snapAbandon s c) := by
  unfold snapAbandon
  split
  · rename_i p hp
    split
    · refine State.put_fits (within_trans (by decide) hb) ?_ _ _
      refine Fits.set_snap (within_trans (by decide) hb) h none _ _ clearMarkers_ok (fun _ hs m c hc => ?_)
      by_cases hm : p.chan = m
      · subst hm
        obtain ⟨y, hy, rfl⟩ := get_upd_self hc
        exact noMarker_drop _
      · rw [get_upd_other hm] at hc
        have hc' := hs m c hc
        change SnapAt s.link.snap m c at hc'
        simp only [SnapAt, hp, hm, if_false] at hc' ⊢
        exact hc'
    · exact h
  · exact h

theorem snapPublish_fits {fp : Nat} {s00 s : State} (hb : within 194 fp = true) (h : Fits fp s00 s)  :
    Fits fp s00 (snapPublish s) := by
  unfold snapPublish
  split
  · rename_i p hp
    split
    · rename_i cap dropS r hsl hfi
      refine State.hist_fits (within_trans (by decide) hb) (State.inc_fits (within_trans (by decide) hb) (Fits.many ?_ _ _ ?_) _ _ _) _ _
      · refine Fits.set_snap (within_trans (by decide) hb) h none _ _ popMarker_ok (fun _ hs m c hc => ?_)
        by_cases hm : p.chan = m
        · subst hm
          obtain ⟨y, hy, rfl⟩ := get_upd_self hc
          have hya : y = s.chanAt p.chan := by simp only [State.chanAt, List.getD, hy, Option.getD_some]
          subst hya
          have hy2 := hs p.chan _ hy
          change SnapAt s.link.snap p.chan _ at hy2
          simp only [SnapAt, hp, if_true, SnapOk, hsl] at hy2
          obtain ⟨pre, post, h1, h2, h3, _⟩ := hy2
          simp only [SnapAt, popMarker, hfi]
          rw [hfi] at h1
          cases pre with
          | nil =>
            simp only [List.nil_append, List.cons.injEq, true_and] at h1
            rw [h1]
            exact h3
          | cons a pre =>
            simp only [List.cons_append, List.cons.injEq] at h1
            rw [← h1.1] at h2
            simp [noMarker] at h2
        · rw [get_upd_other hm] at hc
          have hc' := hs m c hc
          change SnapAt s.link.snap m c at hc'
          simp only [SnapAt, hp, hm, if_false] at hc' ⊢
          exact hc'
      · intro e y hy
        exact State.put_fits (within_trans (by decide) hb) hy _ _
    · exact h
  · exact h

theorem snapMarker_fits {fp : Nat} {s00 s : State} (hb : within 230 fp = true) (h : Fits fp s00 s)  :
    Fits fp s00 (snapMarker s) := by
  unfold snapMarker
  repeat' first
    | with_reducible assumption
    | with_reducible refine snapPublish_fits (within_trans (by decide) hb) ?_
    | with_reducible refine carried_fits (within_trans (by decide) hb) ?_ _ _ _ _ (fun _ _ => ?_)
    | with_reducible refine Fits.ite _ ?_ ?_
    | split
    | extract_lets
    | (dsimp +zetaDelta only)

end Sys2Proof.Machine
end

