-- ==== Sys2Proof/Laws/FitsCommon.lean ====
section
/-! SUPPORT. What each operation of Machine/Common.lean may touch, and the invariants that it keeps. -/

set_option linter.unusedSimpArgs false
set_option linter.unusedVariables false

namespace Sys2Proof.Machine

theorem progSet_fits {fp : Nat} {s00 s : State} (hb : within 2 fp = true) (h : Fits fp s00 s) (p : Nat) (st : Nat) (pos : Nat) (total : Nat) (result : Nat) (inst : Nat) :
    Fits fp s00 (progSet s p st pos total result inst) := by
  unfold progSet
  repeat' first
    | with_reducible assumption
    | with_reducible refine State.put_fits hb ?_ _ _
    | with_reducible refine Fits.many ?_ _ _ (fun _ _ _ => ?_)
    | with_reducible refine Fits.ite _ ?_ ?_
    | split
    | extract_lets
    | (dsimp +zetaDelta only)

theorem progStart_fits {fp : Nat} {s00 s : State} (hb : within 2 fp = true) (h : Fits fp s00 s) (p : Nat) (total : Nat) (inst : Nat) :
    Fits fp s00 (progStart s p total inst) := by
  unfold progStart
  repeat' first
    | with_reducible assumption
    | with_reducible refine progSet_fits hb ?_ _ _ _ _ _ _
    | with_reducible refine Fits.ite _ ?_ ?_
    | split
    | extract_lets
    | (dsimp +zetaDelta only)

theorem progPos_fits {fp : Nat} {s00 s : State} (hb : within 2 fp = true) (h : Fits fp s00 s) (p : Nat) (pos : Nat) :
    Fits fp s00 (progPos s p pos) := by
  unfold progPos
  repeat' first
    | with_reducible assumption
    | with_reducible refine progSet_fits hb ?_ _ _ _ _ _ _
    | with_reducible refine Fits.ite _ ?_ ?_
    | split
    | extract_lets
    | (dsimp +zetaDelta only)

theorem progEnd_fits {fp : Nat} {s00 s : State} (hb : within 2 fp = true) (h : Fits fp s00 s) (p : Nat) (st : Nat) (result : Nat) :
    Fits fp s00 (progEnd s p st result) := by
  unfold progEnd
  repeat' first
    | with_reducible assumption
    | with_reducible refine progSet_fits hb ?_ _ _ _ _ _ _
    | with_reducible refine Fits.ite _ ?_ ?_
    | split
    | extract_lets
    | (dsimp +zetaDelta only)

theorem State.setCup_fits {fp : Nat} {s00 s : State} (hb : within 512 fp = true) (h : Fits fp s00 s) (n : Nat) (f : Cup → Cup) :
    Fits fp s00 (State.setCup s n f) := by
  unfold State.setCup
  repeat' first
    | with_reducible assumption
    | with_reducible refine Fits.ite _ ?_ ?_
    | split
    | extract_lets
    | (dsimp +zetaDelta only)
    | with_reducible refine Fits.set_cups (within_trans (by decide) hb) ?_ _ (by simp only [length_upd, List.length_set, List.length_map, List.length_zipIdx, List.length_cons])

theorem State.setDpll_fits {fp : Nat} {s00 s : State} (hb : within 1024 fp = true) (h : Fits fp s00 s) (k : Nat) (f : Dpll → Dpll) :
    Fits fp s00 (State.setDpll s k f) := by
  unfold State.setDpll
  repeat' first
    | with_reducible assumption
    | with_reducible refine Fits.ite _ ?_ ?_
    | split
    | extract_lets
    | (dsimp +zetaDelta only)
    | with_reducible refine Fits.set_dp (within_trans (by decide) hb) ?_ _ (by simp only [length_upd, List.length_set, List.length_map, List.length_zipIdx, List.length_cons]) (by simp only [length_upd, List.length_set, List.length_map, List.length_zipIdx, List.length_cons])

theorem State.setCarafe_fits {fp : Nat} {s00 s : State} (hb : within 1024 fp = true) (h : Fits fp s00 s) (k : Nat) (f : Carafe → Carafe) :
    Fits fp s00 (State.setCarafe s k f) := by
  unfold State.setCarafe
  repeat' first
    | with_reducible assumption
    | with_reducible refine Fits.ite _ ?_ ?_
    | split
    | extract_lets
    | (dsimp +zetaDelta only)
    | with_reducible refine Fits.set_dp (within_trans (by decide) hb) ?_ _ (by simp only [length_upd, List.length_set, List.length_map, List.length_zipIdx, List.length_cons]) (by simp only [length_upd, List.length_set, List.length_map, List.length_zipIdx, List.length_cons])

theorem State.setCtx_fits {fp : Nat} {s00 s : State} (hb : within 2048 fp = true) (h : Fits fp s00 s) (c : Nat) (f : Ctx → Ctx) :
    Fits fp s00 (State.setCtx s c f) := by
  unfold State.setCtx
  repeat' first
    | with_reducible assumption
    | with_reducible refine Fits.ite _ ?_ ?_
    | split
    | extract_lets
    | (dsimp +zetaDelta only)
    | with_reducible refine Fits.set_ctxs (within_trans (by decide) hb) ?_ _ (by simp only [length_upd, List.length_set, List.length_map, List.length_zipIdx, List.length_cons])

theorem State.putCtxRec_fits {fp : Nat} {s00 s : State} (hb : within 2 fp = true) (h : Fits fp s00 s) (c : Nat) (off : Nat) (len : Nat) (v : Nat) :
    Fits fp s00 (State.putCtxRec s c off len v) := by
  unfold State.putCtxRec
  repeat' first
    | with_reducible assumption
    | with_reducible refine State.put_fits hb ?_ _ _
    | with_reducible refine Fits.ite _ ?_ ?_
    | split
    | extract_lets
    | (dsimp +zetaDelta only)

end Sys2Proof.Machine
end

