-- ==== Sys2Proof/Laws/FitsCarafe.lean ====
section
/-! SUPPORT. What each operation of Machine/Carafe.lean may touch, and the invariants that it keeps. -/

set_option linter.unusedSimpArgs false
set_option linter.unusedVariables false

namespace Sys2Proof.Machine

theorem tempAccount_fits {fp : Nat} {s00 s : State} (hb : within 1024 fp = true) (h : Fits fp s00 s) (k : Nat) :
    Fits fp s00 (tempAccount s k) := by
  unfold tempAccount
  repeat' first
    | with_reducible assumption
    | with_reducible refine State.setCarafe_fits hb ?_ _ _
    | with_reducible refine Fits.ite _ ?_ ?_
    | split
    | extract_lets
    | (dsimp +zetaDelta only)

theorem tempSet_fits {fp : Nat} {s00 s : State} (hb : within 1024 fp = true) (h : Fits fp s00 s) (k : Nat) (t : Int) :
    Fits fp s00 (tempSet s k t) := by
  unfold tempSet
  repeat' first
    | with_reducible assumption
    | with_reducible refine tempAccount_fits hb ?_ _
    | with_reducible refine State.setCarafe_fits hb ?_ _ _
    | with_reducible refine Fits.ite _ ?_ ?_
    | split
    | extract_lets
    | (dsimp +zetaDelta only)

theorem carafeCounts_fits {fp : Nat} {s00 s : State} (hb : within 2 fp = true) (h : Fits fp s00 s) (k : Nat) :
    Fits fp s00 (carafeCounts s k) := by
  unfold carafeCounts
  repeat' first
    | with_reducible assumption
    | with_reducible refine State.put_fits hb ?_ _ _
    | with_reducible refine Fits.ite _ ?_ ?_
    | split
    | extract_lets
    | (dsimp +zetaDelta only)

theorem carafeAdvance_fits {fp : Nat} {s00 s : State} (hb : within 1024 fp = true) (h : Fits fp s00 s) (k : Nat) (second : Nat) :
    Fits fp s00 (carafeAdvance s k second) := by
  unfold carafeAdvance
  repeat' first
    | with_reducible assumption
    | with_reducible refine State.setCarafe_fits hb ?_ _ _
    | with_reducible refine Fits.ite _ ?_ ?_
    | split
    | extract_lets
    | (dsimp +zetaDelta only)

theorem carafeForm_fits {fp : Nat} {s00 s : State} (hb : within 1024 fp = true) (h : Fits fp s00 s) (k : Nat) (second : Nat) :
    Fits fp s00 (carafeForm s k second) := by
  unfold carafeForm
  repeat' first
    | with_reducible assumption
    | with_reducible refine carafeAdvance_fits hb ?_ _ _
    | with_reducible refine tempAccount_fits hb ?_ _
    | with_reducible refine State.setCarafe_fits hb ?_ _ _
    | with_reducible refine State.setDpll_fits hb ?_ _ _
    | with_reducible refine Fits.ite _ ?_ ?_
    | split
    | extract_lets
    | (dsimp +zetaDelta only)

theorem carafeSecond_fits {fp : Nat} {s00 s : State} (hb : within 1024 fp = true) (h : Fits fp s00 s)  :
    Fits fp s00 (carafeSecond s) := by
  unfold carafeSecond
  repeat' first
    | with_reducible assumption
    | with_reducible refine carafeForm_fits hb ?_ _ _
    | with_reducible refine Fits.many ?_ _ _ (fun _ _ _ => ?_)
    | with_reducible refine Fits.ite _ ?_ ?_
    | split
    | extract_lets
    | (dsimp +zetaDelta only)
    | with_reducible refine Fits.set_dp (within_trans (by decide) hb) ?_ _ (by simp only [length_upd, List.length_set, List.length_map, List.length_zipIdx, List.length_cons]) (by simp only [length_upd, List.length_set, List.length_map, List.length_zipIdx, List.length_cons])

theorem carafeArrive_fits {fp : Nat} {s00 s : State} (hb : within 1126 fp = true) (h : Fits fp s00 s) (k : Nat) :
    Fits fp s00 (carafeArrive s k) := by
  unfold carafeArrive
  repeat' first
    | with_reducible assumption
    | with_reducible refine carafeCounts_fits (within_trans (by decide) hb) ?_ _
    | with_reducible refine State.setCarafe_fits (within_trans (by decide) hb) ?_ _ _
    | with_reducible refine carried_fits (within_trans (by decide) hb) ?_ _ _ _ _ (fun _ _ => ?_)
    | with_reducible refine Fits.ite _ ?_ ?_
    | split
    | extract_lets
    | (dsimp +zetaDelta only)

theorem holdPublish_fits {fp : Nat} {s00 s : State} (hb : within 2 fp = true) (h : Fits fp s00 s) (k : Nat) :
    Fits fp s00 (holdPublish s k) := by
  unfold holdPublish
  repeat' first
    | with_reducible assumption
    | with_reducible refine carafeCounts_fits hb ?_ _
    | with_reducible refine State.putI_fits hb ?_ _ _ _
    | with_reducible refine State.put_fits hb ?_ _ _
    | with_reducible refine Fits.ite _ ?_ ?_
    | split
    | extract_lets
    | (dsimp +zetaDelta only)

theorem carafeEnter_fits {fp : Nat} {s00 s : State} (hb : within 1026 fp = true) (h : Fits fp s00 s) (k : Nat) :
    Fits fp s00 (carafeEnter s k) := by
  unfold carafeEnter
  repeat' first
    | with_reducible assumption
    | with_reducible refine holdPublish_fits (within_trans (by decide) hb) ?_ _
    | with_reducible refine State.setCarafe_fits (within_trans (by decide) hb) ?_ _ _
    | with_reducible refine State.hist_fits (within_trans (by decide) hb) ?_ _ _
    | with_reducible refine State.put_fits (within_trans (by decide) hb) ?_ _ _
    | with_reducible refine Fits.many ?_ _ _ (fun _ _ _ => ?_)
    | with_reducible refine Fits.ite _ ?_ ?_
    | split
    | extract_lets
    | (dsimp +zetaDelta only)

theorem carafeEnd_fits {fp : Nat} {s00 s : State} (hb : within 1026 fp = true) (h : Fits fp s00 s) (k : Nat) :
    Fits fp s00 (carafeEnd s k) := by
  unfold carafeEnd
  repeat' first
    | with_reducible assumption
    | with_reducible refine holdPublish_fits (within_trans (by decide) hb) ?_ _
    | with_reducible refine State.setCarafe_fits (within_trans (by decide) hb) ?_ _ _
    | with_reducible refine Fits.ite _ ?_ ?_
    | split
    | extract_lets
    | (dsimp +zetaDelta only)

theorem carafeLeave_fits {fp : Nat} {s00 s : State} (hb : within 1026 fp = true) (h : Fits fp s00 s) (k : Nat) (delta : Int) :
    Fits fp s00 (carafeLeave s k delta) := by
  unfold carafeLeave
  repeat' first
    | with_reducible assumption
    | with_reducible refine carafeEnd_fits hb ?_ _
    | with_reducible refine State.hist_fits (within_trans (by decide) hb) ?_ _ _
    | with_reducible refine State.putI_fits (within_trans (by decide) hb) ?_ _ _ _
    | with_reducible refine Fits.ite _ ?_ ?_
    | split
    | extract_lets
    | (dsimp +zetaDelta only)

theorem holdPrepare_fits {fp : Nat} {s00 s : State} (hb : within 1026 fp = true) (h : Fits fp s00 s) (k : Nat) :
    Fits fp s00 (holdPrepare s k) := by
  unfold holdPrepare
  repeat' first
    | with_reducible assumption
    | with_reducible refine holdPublish_fits (within_trans (by decide) hb) ?_ _
    | with_reducible refine State.setCarafe_fits (within_trans (by decide) hb) ?_ _ _
    | with_reducible refine Fits.ite _ ?_ ?_
    | split
    | extract_lets
    | (dsimp +zetaDelta only)

theorem holdPrepArrive_fits {fp : Nat} {s00 s : State} (hb : within 1126 fp = true) (h : Fits fp s00 s) (k : Nat) :
    Fits fp s00 (holdPrepArrive s k) := by
  unfold holdPrepArrive
  repeat' first
    | with_reducible assumption
    | with_reducible refine State.setCarafe_fits (within_trans (by decide) hb) ?_ _ _
    | with_reducible refine carried_fits (within_trans (by decide) hb) ?_ _ _ _ _ (fun _ _ => ?_)
    | with_reducible refine Fits.ite _ ?_ ?_
    | split
    | extract_lets
    | (dsimp +zetaDelta only)

theorem holdCorrect_fits {fp : Nat} {s00 s : State} (hb : within 1126 fp = true) (h : Fits fp s00 s) (k : Nat) :
    Fits fp s00 (holdCorrect s k) := by
  unfold holdCorrect
  repeat' first
    | with_reducible assumption
    | with_reducible refine holdPublish_fits (within_trans (by decide) hb) ?_ _
    | with_reducible refine State.setCarafe_fits (within_trans (by decide) hb) ?_ _ _
    | with_reducible refine carried_fits (within_trans (by decide) hb) ?_ _ _ _ _ (fun _ _ => ?_)
    | with_reducible refine Fits.ite _ ?_ ?_
    | split
    | extract_lets
    | (dsimp +zetaDelta only)

theorem holdAlarm_fits {fp : Nat} {s00 s : State} (hb : within 1058 fp = true) (h : Fits fp s00 s) (k : Nat) :
    Fits fp s00 (holdAlarm s k) := by
  unfold holdAlarm
  repeat' first
    | with_reducible assumption
    | with_reducible refine State.setCarafe_fits (within_trans (by decide) hb) ?_ _ _
    | with_reducible refine State.raise_fits (within_trans (by decide) hb) ?_ _ _ _ _
    | with_reducible refine State.hist_fits (within_trans (by decide) hb) ?_ _ _
    | with_reducible refine Fits.ite _ ?_ ?_
    | split
    | extract_lets
    | (dsimp +zetaDelta only)

theorem fitStartNext_fits {fp : Nat} {s00 s : State} (hb : within 1026 fp = true) (h : Fits fp s00 s)  :
    Fits fp s00 (fitStartNext s) := by
  unfold fitStartNext
  repeat' first
    | with_reducible assumption
    | with_reducible refine State.setCarafe_fits (within_trans (by decide) hb) ?_ _ _
    | with_reducible refine progStart_fits (within_trans (by decide) hb) ?_ _ _ _
    | with_reducible refine State.setDp_fits (within_trans (by decide) hb) ?_ _ (fun _ => ⟨by first | rfl | simp only [length_upd, List.length_set, List.length_map], by first | rfl | simp only [length_upd, List.length_set, List.length_map]⟩)
    | with_reducible refine Fits.ite _ ?_ ?_
    | split
    | extract_lets
    | (dsimp +zetaDelta only)

theorem fitRequest_fits {fp : Nat} {s00 s : State} (hb : within 1026 fp = true) (h : Fits fp s00 s) (k : Nat) :
    Fits fp s00 (fitRequest s k) := by
  unfold fitRequest
  repeat' first
    | with_reducible assumption
    | with_reducible refine fitStartNext_fits hb ?_
    | with_reducible refine State.setCarafe_fits (within_trans (by decide) hb) ?_ _ _
    | with_reducible refine Fits.ite _ ?_ ?_
    | split
    | extract_lets
    | (dsimp +zetaDelta only)

theorem fitPublish_fits {fp : Nat} {s00 s : State} (hb : within 1026 fp = true) (h : Fits fp s00 s) (k : Nat) (a : Int) (c1 : Int) (c2 : Int) (t0 : Int) (rms : Nat) (slots : Nat) (temp : Bool) (kept : Bool) :
    Fits fp s00 (fitPublish s k a c1 c2 t0 rms slots temp kept) := by
  unfold fitPublish
  repeat' first
    | with_reducible assumption
    | with_reducible refine State.setCarafe_fits (within_trans (by decide) hb) ?_ _ _
    | with_reducible refine progEnd_fits (within_trans (by decide) hb) ?_ _ _ _
    | with_reducible refine State.hist_fits (within_trans (by decide) hb) ?_ _ _
    | with_reducible refine State.putI_fits (within_trans (by decide) hb) ?_ _ _ _
    | with_reducible refine State.put_fits (within_trans (by decide) hb) ?_ _ _
    | with_reducible refine Fits.many ?_ _ _ (fun _ _ _ => ?_)
    | with_reducible refine Fits.when ?_ _ _ (fun _ _ => ?_)
    | with_reducible refine Fits.ite _ ?_ ?_
    | split
    | extract_lets
    | (dsimp +zetaDelta only)

theorem fitComplete_fits {fp : Nat} {s00 s : State} (hb : within 1074 fp = true) (h : Fits fp s00 s) (k : Nat) :
    Fits fp s00 (fitComplete s k) := by
  unfold fitComplete
  repeat' first
    | with_reducible assumption
    | with_reducible refine fitPublish_fits (within_trans (by decide) hb) ?_ _ _ _ _ _ _ _ _ _
    | with_reducible refine fitStartNext_fits (within_trans (by decide) hb) ?_
    | with_reducible refine progEnd_fits (within_trans (by decide) hb) ?_ _ _ _
    | with_reducible refine State.raise_fits (within_trans (by decide) hb) ?_ _ _ _ _
    | with_reducible refine State.freeNext_fits (within_trans (by decide) hb) ?_
    | with_reducible refine State.hist_fits (within_trans (by decide) hb) ?_ _ _
    | with_reducible refine Fits.foldl_snd _ (fun _ _ _ => ?_) _ ?_
    | with_reducible refine Fits.foldl _ (fun _ _ _ => ?_) _ ?_
    | with_reducible refine Fits.ite _ ?_ ?_
    | split
    | extract_lets
    | (dsimp +zetaDelta only)
    | with_reducible refine Fits.set_dp (within_trans (by decide) hb) ?_ _ (by simp only [length_upd, List.length_set, List.length_map, List.length_zipIdx, List.length_cons]) (by simp only [length_upd, List.length_set, List.length_map, List.length_zipIdx, List.length_cons])

theorem fitTimer_fits {fp : Nat} {s00 s : State} (hb : within 1026 fp = true) (h : Fits fp s00 s) (k : Nat) :
    Fits fp s00 (fitTimer s k) := by
  unfold fitTimer
  repeat' first
    | with_reducible assumption
    | with_reducible refine fitRequest_fits hb ?_ _
    | with_reducible refine Fits.ite _ ?_ ?_
    | split
    | extract_lets
    | (dsimp +zetaDelta only)

theorem carafeClear_fits {fp : Nat} {s00 s : State} (hb : within 1026 fp = true) (h : Fits fp s00 s) (k : Nat) :
    Fits fp s00 (carafeClear s k) := by
  unfold carafeClear
  repeat' first
    | with_reducible assumption
    | with_reducible refine carafeCounts_fits (within_trans (by decide) hb) ?_ _
    | with_reducible refine State.setCarafe_fits (within_trans (by decide) hb) ?_ _ _
    | with_reducible refine State.hist_fits (within_trans (by decide) hb) ?_ _ _
    | with_reducible refine Fits.ite _ ?_ ?_
    | split
    | extract_lets
    | (dsimp +zetaDelta only)

theorem modelClear_fits {fp : Nat} {s00 s : State} (hb : within 2 fp = true) (h : Fits fp s00 s) (k : Nat) :
    Fits fp s00 (modelClear s k) := by
  unfold modelClear
  repeat' first
    | with_reducible assumption
    | with_reducible refine State.put_fits hb ?_ _ _
    | with_reducible refine Fits.many ?_ _ _ (fun _ _ _ => ?_)
    | with_reducible refine Fits.ite _ ?_ ?_
    | split
    | extract_lets
    | (dsimp +zetaDelta only)

theorem holdCommand_fits {fp : Nat} {s00 s : State} (hb : within 1026 fp = true) (h : Fits fp s00 s) (k : Nat) (v : Nat) :
    Fits fp s00 (holdCommand s k v) := by
  unfold holdCommand
  repeat' first
    | with_reducible assumption
    | with_reducible refine modelClear_fits (within_trans (by decide) hb) ?_ _
    | with_reducible refine carafeClear_fits hb ?_ _
    | with_reducible refine fitRequest_fits hb ?_ _
    | with_reducible refine Fits.ite _ ?_ ?_
    | split
    | extract_lets
    | (dsimp +zetaDelta only)

theorem carafeBaseChange_fits {fp : Nat} {s00 s : State} (hb : within 1058 fp = true) (h : Fits fp s00 s) (mxo : Bool) :
    Fits fp s00 (carafeBaseChange s mxo) := by
  unfold carafeBaseChange
  repeat' first
    | with_reducible assumption
    | with_reducible refine carafeClear_fits (within_trans (by decide) hb) ?_ _
    | with_reducible refine State.setCarafe_fits (within_trans (by decide) hb) ?_ _ _
    | with_reducible refine State.raise_fits (within_trans (by decide) hb) ?_ _ _ _ _
    | with_reducible refine Fits.many ?_ _ _ (fun _ _ _ => ?_)
    | with_reducible refine Fits.ite _ ?_ ?_
    | split
    | extract_lets
    | (dsimp +zetaDelta only)
    | with_reducible refine Fits.set_dp (within_trans (by decide) hb) ?_ _ (by simp only [length_upd, List.length_set, List.length_map, List.length_zipIdx, List.length_cons]) (by simp only [length_upd, List.length_set, List.length_map, List.length_zipIdx, List.length_cons])

theorem hostTemp_fits {fp : Nat} {s00 s : State} (hb : within 1026 fp = true) (h : Fits fp s00 s) (k : Nat) (v : Nat) :
    Fits fp s00 (hostTemp s k v) := by
  unfold hostTemp
  repeat' first
    | with_reducible assumption
    | with_reducible refine tempSet_fits (within_trans (by decide) hb) ?_ _ _
    | with_reducible refine tempAccount_fits (within_trans (by decide) hb) ?_ _
    | with_reducible refine State.setCarafe_fits (within_trans (by decide) hb) ?_ _ _
    | with_reducible refine State.put_fits (within_trans (by decide) hb) ?_ _ _
    | with_reducible refine Fits.when ?_ _ _ (fun _ _ => ?_)
    | with_reducible refine Fits.ite _ ?_ ?_
    | split
    | extract_lets
    | (dsimp +zetaDelta only)

theorem staleCheck_fits {fp : Nat} {s00 s : State} (hb : within 1026 fp = true) (h : Fits fp s00 s) (k : Nat) :
    Fits fp s00 (staleCheck s k) := by
  unfold staleCheck
  repeat' first
    | with_reducible assumption
    | with_reducible refine State.setCarafe_fits (within_trans (by decide) hb) ?_ _ _
    | with_reducible refine State.hist_fits (within_trans (by decide) hb) ?_ _ _
    | with_reducible refine Fits.ite _ ?_ ?_
    | split
    | extract_lets
    | (dsimp +zetaDelta only)

theorem tempStale_fits {fp : Nat} {s00 s : State} (hb : within 1026 fp = true) (h : Fits fp s00 s) (k : Nat) :
    Fits fp s00 (tempStale s k) := by
  unfold tempStale
  repeat' first
    | with_reducible assumption
    | with_reducible refine staleCheck_fits hb ?_ _
    | with_reducible refine State.setCarafe_fits (within_trans (by decide) hb) ?_ _ _
    | with_reducible refine Fits.ite _ ?_ ?_
    | split
    | extract_lets
    | (dsimp +zetaDelta only)

theorem tempSource_fits {fp : Nat} {s00 s : State} (hb : within 1026 fp = true) (h : Fits fp s00 s) (k : Nat) (v : Nat) :
    Fits fp s00 (tempSource s k v) := by
  unfold tempSource
  repeat' first
    | with_reducible assumption
    | with_reducible refine staleCheck_fits hb ?_ _
    | with_reducible refine tempSet_fits (within_trans (by decide) hb) ?_ _ _
    | with_reducible refine tempAccount_fits (within_trans (by decide) hb) ?_ _
    | with_reducible refine State.setCarafe_fits (within_trans (by decide) hb) ?_ _ _
    | with_reducible refine State.put_fits (within_trans (by decide) hb) ?_ _ _
    | with_reducible refine Fits.ite _ ?_ ?_
    | split
    | extract_lets
    | (dsimp +zetaDelta only)

theorem carafeRestore_fits {fp : Nat} {s00 s : State} (hb : within 1026 fp = true) (h : Fits fp s00 s) (k : Nat) (v : Nat) :
    Fits fp s00 (carafeRestore s k v) := by
  unfold carafeRestore
  repeat' first
    | with_reducible assumption
    | with_reducible refine carafeCounts_fits (within_trans (by decide) hb) ?_ _
    | with_reducible refine State.setCarafe_fits (within_trans (by decide) hb) ?_ _ _
    | with_reducible refine Fits.ite _ ?_ ?_
    | split
    | extract_lets
    | (dsimp +zetaDelta only)

end Sys2Proof.Machine
end

