-- ==== Sys2Proof/Laws/FitsDpll.lean ====
section
/-! SUPPORT. What each operation of Machine/Dpll.lean may touch, and the invariants that it keeps. -/

set_option linter.unusedSimpArgs false
set_option linter.unusedVariables false

namespace Sys2Proof.Machine

theorem dpHist_fits {fp : Nat} {s00 s : State} (hb : within 4 fp = true) (h : Fits fp s00 s) (k : Nat) (bit_ : Nat) :
    Fits fp s00 (dpHist s k bit_) := by
  unfold dpHist
  repeat' first
    | with_reducible assumption
    | with_reducible refine State.dhist_fits hb ?_ _ _
    | with_reducible refine Fits.ite _ ?_ ?_
    | split
    | extract_lets
    | (dsimp +zetaDelta only)

theorem dpGo_fits {fp : Nat} {s00 s : State} (hb : within 25166884 fp = true) (h : Fits fp s00 s) (k : Nat) (new : DState) (cause : Nat) :
    Fits fp s00 (dpGo s k new cause) := by
  unfold dpGo
  repeat' first
    | with_reducible assumption
    | with_reducible refine cause_fits (within_trans (by decide) hb) ?_ _
    | with_reducible refine dpHist_fits (within_trans (by decide) hb) ?_ _ _
    | with_reducible refine State.setDpll_fits (within_trans (by decide) hb) ?_ _ _
    | with_reducible refine State.raise_fits (within_trans (by decide) hb) ?_ _ _ _ _
    | with_reducible refine Fits.when ?_ _ _ (fun _ _ => ?_)
    | with_reducible refine Fits.ite _ ?_ ?_
    | split
    | extract_lets
    | (dsimp +zetaDelta only)

theorem pourWithdraw_fits {fp : Nat} {s00 s : State} (hb : within 1024 fp = true) (h : Fits fp s00 s) (k : Nat) :
    Fits fp s00 (pourWithdraw s k) := by
  unfold pourWithdraw
  repeat' first
    | with_reducible assumption
    | with_reducible refine State.setDpll_fits hb ?_ _ _
    | with_reducible refine Fits.ite _ ?_ ?_
    | split
    | extract_lets
    | (dsimp +zetaDelta only)

theorem endVisit_fits {fp : Nat} {s00 s : State} (hb : within 1026 fp = true) (h : Fits fp s00 s) (k : Nat) :
    Fits fp s00 (endVisit s k) := by
  unfold endVisit
  repeat' first
    | with_reducible assumption
    | with_reducible refine carafeEnd_fits hb ?_ _
    | with_reducible refine Fits.ite _ ?_ ?_
    | split
    | extract_lets
    | (dsimp +zetaDelta only)

theorem dpFreerun_fits {fp : Nat} {s00 s : State} (hb : within 25166886 fp = true) (h : Fits fp s00 s) (k : Nat) (cause : Nat) :
    Fits fp s00 (dpFreerun s k cause) := by
  unfold dpFreerun
  repeat' first
    | with_reducible assumption
    | with_reducible refine cause_fits (within_trans (by decide) hb) ?_ _
    | with_reducible refine endVisit_fits (within_trans (by decide) hb) ?_ _
    | with_reducible refine pourWithdraw_fits (within_trans (by decide) hb) ?_ _
    | with_reducible refine dpGo_fits (within_trans (by decide) hb) ?_ _ _ _
    | with_reducible refine State.setDpll_fits (within_trans (by decide) hb) ?_ _ _
    | with_reducible refine Fits.ite _ ?_ ?_
    | split
    | extract_lets
    | (dsimp +zetaDelta only)

theorem startHoldoff_fits {fp : Nat} {s00 s : State} (hb : within 1024 fp = true) (h : Fits fp s00 s) (k : Nat) :
    Fits fp s00 (startHoldoff s k) := by
  unfold startHoldoff
  repeat' first
    | with_reducible assumption
    | with_reducible refine State.setDpll_fits hb ?_ _ _
    | with_reducible refine Fits.ite _ ?_ ?_
    | split
    | extract_lets
    | (dsimp +zetaDelta only)

theorem dpHoldover_fits {fp : Nat} {s00 s : State} (hb : within 25166886 fp = true) (h : Fits fp s00 s) (k : Nat) (cause : Nat) (hold : Bool) :
    Fits fp s00 (dpHoldover s k cause hold) := by
  unfold dpHoldover
  repeat' first
    | with_reducible assumption
    | with_reducible refine cause_fits (within_trans (by decide) hb) ?_ _
    | with_reducible refine startHoldoff_fits (within_trans (by decide) hb) ?_ _
    | with_reducible refine endVisit_fits (within_trans (by decide) hb) ?_ _
    | with_reducible refine pourWithdraw_fits (within_trans (by decide) hb) ?_ _
    | with_reducible refine dpGo_fits (within_trans (by decide) hb) ?_ _ _ _
    | with_reducible refine dpHist_fits (within_trans (by decide) hb) ?_ _ _
    | with_reducible refine carafeEnter_fits (within_trans (by decide) hb) ?_ _
    | with_reducible refine State.setDpll_fits (within_trans (by decide) hb) ?_ _ _
    | with_reducible refine State.hist_fits (within_trans (by decide) hb) ?_ _ _
    | with_reducible refine Fits.ite _ ?_ ?_
    | split
    | extract_lets
    | (dsimp +zetaDelta only)

theorem dpPour_fits {fp : Nat} {s00 s : State} (hb : within 25166886 fp = true) (h : Fits fp s00 s) (k : Nat) (e : Nat) (cause : Nat) (reason : Option Nat) :
    Fits fp s00 (dpPour s k e cause reason) := by
  unfold dpPour
  repeat' first
    | with_reducible assumption
    | with_reducible refine cause_fits (within_trans (by decide) hb) ?_ _
    | with_reducible refine dpGo_fits (within_trans (by decide) hb) ?_ _ _ _
    | with_reducible refine dpHist_fits (within_trans (by decide) hb) ?_ _ _
    | with_reducible refine carafeLeave_fits (within_trans (by decide) hb) ?_ _ _
    | with_reducible refine State.setDpll_fits (within_trans (by decide) hb) ?_ _ _
    | with_reducible refine State.raise_fits (within_trans (by decide) hb) ?_ _ _ _ _
    | with_reducible refine Fits.when ?_ _ _ (fun _ _ => ?_)
    | with_reducible refine Fits.ite _ ?_ ?_
    | split
    | extract_lets
    | (dsimp +zetaDelta only)

theorem dpAcquire_fits {fp : Nat} {s00 s : State} (hb : within 25166884 fp = true) (h : Fits fp s00 s) (k : Nat) (e : Nat) (cause : Nat) :
    Fits fp s00 (dpAcquire s k e cause) := by
  unfold dpAcquire
  repeat' first
    | with_reducible assumption
    | with_reducible refine cause_fits (within_trans (by decide) hb) ?_ _
    | with_reducible refine dpGo_fits hb ?_ _ _ _
    | with_reducible refine State.setDpll_fits (within_trans (by decide) hb) ?_ _ _
    | with_reducible refine Fits.ite _ ?_ ?_
    | split
    | extract_lets
    | (dsimp +zetaDelta only)

theorem dpStep1_fits {fp : Nat} {s00 s : State} (hb : within 25166950 fp = true) (h : Fits fp s00 s) (k : Nat) :
    Fits fp s00 (dpStep1 s k) := by
  unfold dpStep1
  repeat' first
    | with_reducible assumption
    | with_reducible refine faultHold_fits (within_trans (by decide) hb) ?_ _ _
    | with_reducible refine dpHoldover_fits (within_trans (by decide) hb) ?_ _ _ _
    | with_reducible refine dpFreerun_fits (within_trans (by decide) hb) ?_ _ _
    | with_reducible refine State.setDpll_fits (within_trans (by decide) hb) ?_ _ _
    | with_reducible refine Fits.ite _ ?_ ?_
    | split
    | extract_lets
    | (dsimp +zetaDelta only)

theorem dpCommand_fits {fp : Nat} {s00 s : State} (hb : within 25166886 fp = true) (h : Fits fp s00 s) (k : Nat) (c : Nat) :
    Fits fp s00 (dpCommand s k c) := by
  unfold dpCommand
  repeat' first
    | with_reducible assumption
    | with_reducible refine dpPour_fits hb ?_ _ _ _ _
    | with_reducible refine dpHoldover_fits hb ?_ _ _ _
    | with_reducible refine dpFreerun_fits hb ?_ _ _
    | with_reducible refine endVisit_fits (within_trans (by decide) hb) ?_ _
    | with_reducible refine pourWithdraw_fits (within_trans (by decide) hb) ?_ _
    | with_reducible refine dpGo_fits (within_trans (by decide) hb) ?_ _ _ _
    | with_reducible refine dpHist_fits (within_trans (by decide) hb) ?_ _ _
    | with_reducible refine State.setDpll_fits (within_trans (by decide) hb) ?_ _ _
    | with_reducible refine State.putI_fits (within_trans (by decide) hb) ?_ _ _ _
    | with_reducible refine Fits.when ?_ _ _ (fun _ _ => ?_)
    | with_reducible refine Fits.ite _ ?_ ?_
    | split
    | extract_lets
    | (dsimp +zetaDelta only)

theorem dpStep2_fits {fp : Nat} {s00 s : State} (hb : within 25166886 fp = true) (h : Fits fp s00 s) (k : Nat) (x0 : List Nat) :
    Fits fp s00 (dpStep2 s k x0) := by
  induction x0 generalizing s with
  | nil =>
    unfold dpStep2
    exact State.setDpll_fits (within_trans (by decide) hb) h _ _
  | cons e r ih =>
    unfold dpStep2
    split
    · refine State.setDpll_fits (within_trans (by decide) hb) ?_ _ _
      exact Fits.ite _ (dpCommand_fits (within_trans (by decide) hb) h _ _) h
    · exact ih (dpCommand_fits (within_trans (by decide) hb) h _ _)

theorem dpStep3_fits {fp : Nat} {s00 s : State} (hb : within 1024 fp = true) (h : Fits fp s00 s) (k : Nat) :
    Fits fp s00 (dpStep3 s k) := by
  unfold dpStep3
  repeat' first
    | with_reducible assumption
    | with_reducible refine State.setDpll_fits hb ?_ _ _
    | with_reducible refine Fits.ite _ ?_ ?_
    | split
    | extract_lets
    | (dsimp +zetaDelta only)

theorem withoutNewLos_fits {fp : Nat} {s00 s : State} (hb : within 1024 fp = true) (h : Fits fp s00 s) (k : Nat) :
    Fits fp s00 (withoutNewLos s k) := by
  unfold withoutNewLos
  repeat' first
    | with_reducible assumption
    | with_reducible refine Fits.foldl_snd _ (fun _ _ _ => ?_) _ ?_
    | with_reducible refine Fits.foldl _ (fun _ _ _ => ?_) _ ?_
    | with_reducible refine Fits.ite _ ?_ ?_
    | split
    | extract_lets
    | (dsimp +zetaDelta only)
    | with_reducible refine Fits.set_dp (within_trans (by decide) hb) ?_ _ (by simp only [length_upd, List.length_set, List.length_map, List.length_zipIdx, List.length_cons]) (by simp only [length_upd, List.length_set, List.length_map, List.length_zipIdx, List.length_cons])

theorem dpRest_fits {fp : Nat} {s00 s : State} (hb : within 25166886 fp = true) (h : Fits fp s00 s) (k : Nat) :
    Fits fp s00 (dpRest s k) := by
  unfold dpRest
  repeat' first
    | with_reducible assumption
    | with_reducible refine cause_fits (within_trans (by decide) hb) ?_ _
    | with_reducible refine dpAcquire_fits (within_trans (by decide) hb) ?_ _ _ _
    | with_reducible refine dpPour_fits hb ?_ _ _ _ _
    | with_reducible refine State.setDpll_fits (within_trans (by decide) hb) ?_ _ _
    | with_reducible refine Fits.ite _ ?_ ?_
    | split
    | extract_lets
    | (dsimp +zetaDelta only)

theorem dpTrack_fits {fp : Nat} {s00 s : State} (hb : within 25166886 fp = true) (h : Fits fp s00 s) (k : Nat) (gone : Option Nat) :
    Fits fp s00 (dpTrack s k gone) := by
  unfold dpTrack
  repeat' first
    | with_reducible assumption
    | with_reducible refine dpAcquire_fits (within_trans (by decide) hb) ?_ _ _ _
    | with_reducible refine dpPour_fits hb ?_ _ _ _ _
    | with_reducible refine dpHoldover_fits hb ?_ _ _ _
    | with_reducible refine dpGo_fits (within_trans (by decide) hb) ?_ _ _ _
    | with_reducible refine State.setDpll_fits (within_trans (by decide) hb) ?_ _ _
    | with_reducible refine Fits.ite _ ?_ ?_
    | split
    | extract_lets
    | (dsimp +zetaDelta only)

theorem dpStep4_fits {fp : Nat} {s00 s : State} (hb : within 25166886 fp = true) (h : Fits fp s00 s) (k : Nat) (gone : Option Nat) :
    Fits fp s00 (dpStep4 s k gone) := by
  unfold dpStep4
  repeat' first
    | with_reducible assumption
    | with_reducible refine dpTrack_fits hb ?_ _ _
    | with_reducible refine dpRest_fits hb ?_ _
    | with_reducible refine State.setDpll_fits (within_trans (by decide) hb) ?_ _ _
    | with_reducible refine Fits.ite _ ?_ ?_
    | split
    | extract_lets
    | (dsimp +zetaDelta only)

theorem dpStep5_fits {fp : Nat} {s00 s : State} (hb : within 1028 fp = true) (h : Fits fp s00 s) (k : Nat) :
    Fits fp s00 (dpStep5 s k) := by
  unfold dpStep5
  repeat' first
    | with_reducible assumption
    | with_reducible refine dpHist_fits (within_trans (by decide) hb) ?_ _ _
    | with_reducible refine State.setDpll_fits (within_trans (by decide) hb) ?_ _ _
    | with_reducible refine Fits.when ?_ _ _ (fun _ _ => ?_)
    | with_reducible refine Fits.ite _ ?_ ?_
    | split
    | extract_lets
    | (dsimp +zetaDelta only)

theorem dpMoves_fits {fp : Nat} {s00 s : State} (hb : within 1024 fp = true) (h : Fits fp s00 s) (k : Nat) :
    Fits fp s00 (dpMoves s k) := by
  unfold dpMoves
  repeat' first
    | with_reducible assumption
    | with_reducible refine State.setDpll_fits hb ?_ _ _
    | with_reducible refine Fits.ite _ ?_ ?_
    | split
    | extract_lets
    | (dsimp +zetaDelta only)
    | with_reducible refine Fits.set_dp (within_trans (by decide) hb) ?_ _ (by simp only [length_upd, List.length_set, List.length_map, List.length_zipIdx, List.length_cons]) (by simp only [length_upd, List.length_set, List.length_map, List.length_zipIdx, List.length_cons])

theorem bloomStep_fits {fp : Nat} {s00 s : State} (hb : within 1028 fp = true) (h : Fits fp s00 s) (k : Nat) :
    Fits fp s00 (bloomStep s k) := by
  unfold bloomStep
  repeat' first
    | with_reducible assumption
    | with_reducible refine dpHist_fits (within_trans (by decide) hb) ?_ _ _
    | with_reducible refine State.setDpll_fits (within_trans (by decide) hb) ?_ _ _
    | with_reducible refine Fits.ite _ ?_ ?_
    | split
    | extract_lets
    | (dsimp +zetaDelta only)

theorem dpFrequency_fits {fp : Nat} {s00 s : State} (hb : within 1024 fp = true) (h : Fits fp s00 s) (k : Nat) :
    Fits fp s00 (dpFrequency s k) := by
  unfold dpFrequency
  repeat' first
    | with_reducible assumption
    | with_reducible refine State.setCarafe_fits hb ?_ _ _
    | with_reducible refine State.setDpll_fits hb ?_ _ _
    | with_reducible refine Fits.ite _ ?_ ?_
    | split
    | extract_lets
    | (dsimp +zetaDelta only)

theorem dpLoop_fits {fp : Nat} {s00 s : State} (hb : within 1028 fp = true) (h : Fits fp s00 s) (k : Nat) (l : List PhaseSample) :
    Fits fp s00 (dpLoop s k l) := by
  unfold dpLoop
  repeat' first
    | with_reducible assumption
    | with_reducible refine dpHist_fits (within_trans (by decide) hb) ?_ _ _
    | with_reducible refine State.setDpll_fits (within_trans (by decide) hb) ?_ _ _
    | with_reducible refine Fits.when ?_ _ _ (fun _ _ => ?_)
    | with_reducible refine Fits.ite _ ?_ ?_
    | split
    | extract_lets
    | (dsimp +zetaDelta only)

theorem dpStep6_fits {fp : Nat} {s00 s : State} (hb : within 1028 fp = true) (h : Fits fp s00 s) (k : Nat) (l : List PhaseSample) :
    Fits fp s00 (dpStep6 s k l) := by
  unfold dpStep6
  repeat' first
    | with_reducible assumption
    | with_reducible refine dpLoop_fits hb ?_ _ _
    | with_reducible refine dpFrequency_fits (within_trans (by decide) hb) ?_ _
    | with_reducible refine bloomStep_fits hb ?_ _
    | with_reducible refine dpMoves_fits (within_trans (by decide) hb) ?_ _
    | with_reducible refine State.setDpll_fits (within_trans (by decide) hb) ?_ _ _
    | with_reducible refine Fits.ite _ ?_ ?_
    | split
    | extract_lets
    | (dsimp +zetaDelta only)

theorem dpPublish_fits {fp : Nat} {s00 s : State} (hb : within 1028 fp = true) (h : Fits fp s00 s) (k : Nat) :
    Fits fp s00 (dpPublish s k) := by
  unfold dpPublish
  repeat' first
    | with_reducible assumption
    | with_reducible refine State.setDpll_fits (within_trans (by decide) hb) ?_ _ _
    | with_reducible refine State.dput_fits (within_trans (by decide) hb) ?_ _ _
    | with_reducible refine Fits.many ?_ _ _ (fun _ _ _ => ?_)
    | with_reducible refine Fits.ite _ ?_ ?_
    | split
    | extract_lets
    | (dsimp +zetaDelta only)

theorem dpStep7_fits {fp : Nat} {s00 s : State} (hb : within 1028 fp = true) (h : Fits fp s00 s) (k : Nat) :
    Fits fp s00 (dpStep7 s k) := by
  unfold dpStep7
  repeat' first
    | with_reducible assumption
    | with_reducible refine dpPublish_fits hb ?_ _
    | with_reducible refine State.setDpll_fits (within_trans (by decide) hb) ?_ _ _
    | with_reducible refine Fits.ite _ ?_ ?_
    | split
    | extract_lets
    | (dsimp +zetaDelta only)

theorem dpUpdate_fits {fp : Nat} {s00 s : State} (hb : within 25166950 fp = true) (h : Fits fp s00 s) (k : Nat) (l : List PhaseSample) :
    Fits fp s00 (dpUpdate s k l) := by
  unfold dpUpdate
  repeat' first
    | with_reducible assumption
    | with_reducible refine dpStep6_fits (within_trans (by decide) hb) ?_ _ _
    | with_reducible refine dpStep5_fits (within_trans (by decide) hb) ?_ _
    | with_reducible refine dpStep4_fits (within_trans (by decide) hb) ?_ _ _
    | with_reducible refine dpStep3_fits (within_trans (by decide) hb) ?_ _
    | with_reducible refine dpStep2_fits (within_trans (by decide) hb) ?_ _ _
    | with_reducible refine dpStep1_fits hb ?_ _
    | with_reducible refine State.setDpll_fits (within_trans (by decide) hb) ?_ _ _
    | with_reducible refine Fits.ite _ ?_ ?_
    | split
    | extract_lets
    | (dsimp +zetaDelta only)

theorem dpWtrExpiry_fits {fp : Nat} {s00 s : State} (hb : within 1028 fp = true) (h : Fits fp s00 s) (k : Nat) (e : Nat) :
    Fits fp s00 (dpWtrExpiry s k e) := by
  unfold dpWtrExpiry
  repeat' first
    | with_reducible assumption
    | with_reducible refine dpHist_fits (within_trans (by decide) hb) ?_ _ _
    | with_reducible refine State.setDpll_fits (within_trans (by decide) hb) ?_ _ _
    | with_reducible refine Fits.ite _ ?_ ?_
    | split
    | extract_lets
    | (dsimp +zetaDelta only)

theorem dpHoldoffEnd_fits {fp : Nat} {s00 s : State} (hb : within 1024 fp = true) (h : Fits fp s00 s) (k : Nat) :
    Fits fp s00 (dpHoldoffEnd s k) := by
  unfold dpHoldoffEnd
  repeat' first
    | with_reducible assumption
    | with_reducible refine State.setDpll_fits hb ?_ _ _
    | with_reducible refine Fits.ite _ ?_ ?_
    | split
    | extract_lets
    | (dsimp +zetaDelta only)

theorem dpAcqTimeout_fits {fp : Nat} {s00 s : State} (hb : within 1056 fp = true) (h : Fits fp s00 s) (k : Nat) :
    Fits fp s00 (dpAcqTimeout s k) := by
  unfold dpAcqTimeout
  repeat' first
    | with_reducible assumption
    | with_reducible refine State.setDpll_fits (within_trans (by decide) hb) ?_ _ _
    | with_reducible refine State.raise_fits (within_trans (by decide) hb) ?_ _ _ _ _
    | with_reducible refine Fits.ite _ ?_ ?_
    | split
    | extract_lets
    | (dsimp +zetaDelta only)

theorem dpLosArrives_fits {fp : Nat} {s00 s : State} (hb : within 1126 fp = true) (h : Fits fp s00 s) (n : Nat) :
    Fits fp s00 (dpLosArrives s n) := by
  unfold dpLosArrives
  repeat' first
    | with_reducible assumption
    | with_reducible refine carried_fits (within_trans (by decide) hb) ?_ _ _ _ _ (fun _ _ => ?_)
    | with_reducible refine Fits.ite _ ?_ ?_
    | split
    | extract_lets
    | (dsimp +zetaDelta only)
    | with_reducible refine Fits.set_dp (within_trans (by decide) hb) ?_ _ (by simp only [length_upd, List.length_set, List.length_map, List.length_zipIdx, List.length_cons]) (by simp only [length_upd, List.length_set, List.length_map, List.length_zipIdx, List.length_cons])

theorem dpCupArrives_fits {fp : Nat} {s00 s : State} (hb : within 1126 fp = true) (h : Fits fp s00 s) (n : Nat) :
    Fits fp s00 (dpCupArrives s n) := by
  unfold dpCupArrives
  repeat' first
    | with_reducible assumption
    | with_reducible refine carried_fits (within_trans (by decide) hb) ?_ _ _ _ _ (fun _ _ => ?_)
    | with_reducible refine Fits.ite _ ?_ ?_
    | split
    | extract_lets
    | (dsimp +zetaDelta only)
    | with_reducible refine Fits.set_dp (within_trans (by decide) hb) ?_ _ (by simp only [length_upd, List.length_set, List.length_map, List.length_zipIdx, List.length_cons]) (by simp only [length_upd, List.length_set, List.length_map, List.length_zipIdx, List.length_cons])

theorem dpFaultHold_fits {fp : Nat} {s00 s : State} (hb : within 1126 fp = true) (h : Fits fp s00 s) (k : Nat) (on : Bool) :
    Fits fp s00 (dpFaultHold s k on) := by
  unfold dpFaultHold
  repeat' first
    | with_reducible assumption
    | with_reducible refine State.setDpll_fits (within_trans (by decide) hb) ?_ _ _
    | with_reducible refine carried_fits (within_trans (by decide) hb) ?_ _ _ _ _ (fun _ _ => ?_)
    | with_reducible refine Fits.ite _ ?_ ?_
    | split
    | extract_lets
    | (dsimp +zetaDelta only)

theorem samplesArrive_fits {fp : Nat} {s00 s : State} (hb : within 102 fp = true) (h : Fits fp s00 s) (k : Nat) (x0 : List PhaseSample) :
    Fits fp s00 (samplesArrive s k x0).1 := by
  induction x0 generalizing s with
  | nil =>
    unfold samplesArrive
    exact h
  | cons e r ih =>
    unfold samplesArrive
    extract_lets n q t u
    split
    · exact ih (carry_fits (within_trans (by decide) hb) h _ _ _ _)
    · exact ih h

theorem dpQueue_fits {fp : Nat} {s00 s : State} (hb : within 1024 fp = true) (h : Fits fp s00 s) (k : Nat) (c : Nat) :
    Fits fp s00 (dpQueue s k c) := by
  unfold dpQueue
  repeat' first
    | with_reducible assumption
    | with_reducible refine State.setDpll_fits hb ?_ _ _
    | with_reducible refine Fits.ite _ ?_ ?_
    | split
    | extract_lets
    | (dsimp +zetaDelta only)

theorem dpTamp_fits {fp : Nat} {s00 s : State} (hb : within 1024 fp = true) (h : Fits fp s00 s) (k : Nat) (t : Int) :
    Fits fp s00 (dpTamp s k t) := by
  unfold dpTamp
  repeat' first
    | with_reducible assumption
    | with_reducible refine State.setDpll_fits hb ?_ _ _
    | with_reducible refine Fits.ite _ ?_ ?_
    | split
    | extract_lets
    | (dsimp +zetaDelta only)

theorem candPut_fits {fp : Nat} {s00 s : State} (hb : within 1026 fp = true) (h : Fits fp s00 s) (k : Nat) (e : Nat) (v : Nat) :
    Fits fp s00 (candPut s k e v) := by
  unfold candPut
  repeat' first
    | with_reducible assumption
    | with_reducible refine State.setDpll_fits (within_trans (by decide) hb) ?_ _ _
    | with_reducible refine State.put_fits (within_trans (by decide) hb) ?_ _ _
    | with_reducible refine Fits.ite _ ?_ ?_
    | split
    | extract_lets
    | (dsimp +zetaDelta only)

theorem modePut_fits {fp : Nat} {s00 s : State} (hb : within 1026 fp = true) (h : Fits fp s00 s) (k : Nat) (sub : Nat) (v : Nat) :
    Fits fp s00 (modePut s k sub v) := by
  unfold modePut
  repeat' first
    | with_reducible assumption
    | with_reducible refine dpHoldoffEnd_fits (within_trans (by decide) hb) ?_ _
    | with_reducible refine State.setDpll_fits (within_trans (by decide) hb) ?_ _ _
    | with_reducible refine State.put_fits (within_trans (by decide) hb) ?_ _ _
    | with_reducible refine Fits.ite _ ?_ ?_
    | split
    | extract_lets
    | (dsimp +zetaDelta only)

theorem dpOffset_fits {fp : Nat} {s00 s : State} (hb : within 1024 fp = true) (h : Fits fp s00 s) (c : Nat) (o : Int) (at_ : Int) :
    Fits fp s00 (dpOffset s c o at_) := by
  unfold dpOffset
  repeat' first
    | with_reducible assumption
    | with_reducible refine State.setDpll_fits hb ?_ _ _
    | with_reducible refine Fits.many ?_ _ _ (fun _ _ _ => ?_)
    | with_reducible refine Fits.ite _ ?_ ?_
    | split
    | extract_lets
    | (dsimp +zetaDelta only)

end Sys2Proof.Machine
end

