-- ==== Sys2Proof/Laws/FitsApll.lean ====
section
/-! SUPPORT. What each operation of Machine/Apll.lean may touch, and the invariants that it keeps. -/

set_option linter.unusedSimpArgs false
set_option linter.unusedVariables false

namespace Sys2Proof.Machine

theorem State.setApll_fits {fp : Nat} {s00 s : State} (hb : within 8192 fp = true) (h : Fits fp s00 s) (j : Nat) (f : Apll → Apll) :
    Fits fp s00 (State.setApll s j f) := by
  unfold State.setApll
  repeat' first
    | with_reducible assumption
    | with_reducible refine Fits.ite _ ?_ ?_
    | split
    | extract_lets
    | (dsimp +zetaDelta only)
    | with_reducible refine Fits.set_ap (within_trans (by decide) hb) ?_ _ (by simp only [length_upd, List.length_set, List.length_map, List.length_zipIdx, List.length_cons]) (by simp only [length_upd, List.length_set, List.length_map, List.length_zipIdx, List.length_cons])

theorem State.setOut_fits {fp : Nat} {s00 s : State} (hb : within 8192 fp = true) (h : Fits fp s00 s) (n : Nat) (f : OutPath → OutPath) :
    Fits fp s00 (State.setOut s n f) := by
  unfold State.setOut
  repeat' first
    | with_reducible assumption
    | with_reducible refine Fits.ite _ ?_ ?_
    | split
    | extract_lets
    | (dsimp +zetaDelta only)
    | with_reducible refine Fits.set_ap (within_trans (by decide) hb) ?_ _ (by simp only [length_upd, List.length_set, List.length_map, List.length_zipIdx, List.length_cons]) (by simp only [length_upd, List.length_set, List.length_map, List.length_zipIdx, List.length_cons])

theorem mashStep_fits {fp : Nat} {s00 s : State} (hb : within 8192 fp = true) (h : Fits fp s00 s) (j : Nat) :
    Fits fp s00 (mashStep s j) := by
  unfold mashStep
  repeat' first
    | with_reducible assumption
    | with_reducible refine State.setApll_fits hb ?_ _ _
    | with_reducible refine Fits.ite _ ?_ ?_
    | split
    | extract_lets
    | (dsimp +zetaDelta only)

theorem mashTick_fits {fp : Nat} {s00 s : State} (hb : within 8192 fp = true) (h : Fits fp s00 s)  :
    Fits fp s00 (mashTick s) := by
  unfold mashTick
  repeat' first
    | with_reducible assumption
    | with_reducible refine mashStep_fits hb ?_ _
    | with_reducible refine Fits.many ?_ _ _ (fun _ _ _ => ?_)
    | with_reducible refine Fits.ite _ ?_ ?_
    | split
    | extract_lets
    | (dsimp +zetaDelta only)
    | with_reducible refine Fits.set_ap (within_trans (by decide) hb) ?_ _ (by simp only [length_upd, List.length_set, List.length_map, List.length_zipIdx, List.length_cons]) (by simp only [length_upd, List.length_set, List.length_map, List.length_zipIdx, List.length_cons])

theorem apllPublish_fits {fp : Nat} {s00 s : State} (hb : within 4 fp = true) (h : Fits fp s00 s) (j : Nat) :
    Fits fp s00 (apllPublish s j) := by
  unfold apllPublish
  repeat' first
    | with_reducible assumption
    | with_reducible refine State.dput_fits hb ?_ _ _
    | with_reducible refine Fits.many ?_ _ _ (fun _ _ _ => ?_)
    | with_reducible refine Fits.ite _ ?_ ?_
    | split
    | extract_lets
    | (dsimp +zetaDelta only)

theorem rampPublish_fits {fp : Nat} {s00 s : State} (hb : within 8196 fp = true) (h : Fits fp s00 s) (j : Nat) :
    Fits fp s00 (rampPublish s j) := by
  unfold rampPublish
  repeat' first
    | with_reducible assumption
    | with_reducible refine State.setApll_fits (within_trans (by decide) hb) ?_ _ _
    | with_reducible refine State.dput_fits (within_trans (by decide) hb) ?_ _ _
    | with_reducible refine Fits.many ?_ _ _ (fun _ _ _ => ?_)
    | with_reducible refine Fits.ite _ ?_ ?_
    | split
    | extract_lets
    | (dsimp +zetaDelta only)

theorem apHist_fits {fp : Nat} {s00 s : State} (hb : within 4 fp = true) (h : Fits fp s00 s) (j : Nat) (bit_ : Nat) :
    Fits fp s00 (apHist s j bit_) := by
  unfold apHist
  repeat' first
    | with_reducible assumption
    | with_reducible refine State.dhist_fits hb ?_ _ _
    | with_reducible refine Fits.ite _ ?_ ?_
    | split
    | extract_lets
    | (dsimp +zetaDelta only)

theorem loseAlign_fits {fp : Nat} {s00 s : State} (hb : within 8192 fp = true) (h : Fits fp s00 s) (n : Nat) :
    Fits fp s00 (loseAlign s n) := by
  unfold loseAlign
  repeat' first
    | with_reducible assumption
    | with_reducible refine State.setOut_fits hb ?_ _ _
    | with_reducible refine Fits.ite _ ?_ ?_
    | split
    | extract_lets
    | (dsimp +zetaDelta only)

theorem refreshOuts_fits {fp : Nat} {s00 s : State} (hb : within 2 fp = true) (h : Fits fp s00 s) (c : Nat) :
    Fits fp s00 (refreshOuts s c) := by
  unfold refreshOuts
  repeat' first
    | with_reducible assumption
    | with_reducible refine State.put_fits hb ?_ _ _
    | with_reducible refine Fits.many ?_ _ _ (fun _ _ _ => ?_)
    | with_reducible refine Fits.ite _ ?_ ?_
    | split
    | extract_lets
    | (dsimp +zetaDelta only)

theorem toBypass_fits {fp : Nat} {s00 s : State} (hb : within 8196 fp = true) (h : Fits fp s00 s) (j : Nat) (was : Bool) :
    Fits fp s00 (toBypass s j was) := by
  unfold toBypass
  repeat' first
    | with_reducible assumption
    | with_reducible refine apHist_fits (within_trans (by decide) hb) ?_ _ _
    | with_reducible refine State.setApll_fits (within_trans (by decide) hb) ?_ _ _
    | with_reducible refine Fits.ite _ ?_ ?_
    | split
    | extract_lets
    | (dsimp +zetaDelta only)

theorem apllLocking_fits {fp : Nat} {s00 s : State} (hb : within 8192 fp = true) (h : Fits fp s00 s) (j : Nat) (band : Bool) :
    Fits fp s00 (apllLocking s j band) := by
  unfold apllLocking
  repeat' first
    | with_reducible assumption
    | with_reducible refine State.setApll_fits hb ?_ _ _
    | with_reducible refine Fits.ite _ ?_ ?_
    | split
    | extract_lets
    | (dsimp +zetaDelta only)

theorem apllInputLost_fits {fp : Nat} {s00 s : State} (hb : within 8228 fp = true) (h : Fits fp s00 s) (j : Nat) :
    Fits fp s00 (apllInputLost s j) := by
  unfold apllInputLost
  repeat' first
    | with_reducible assumption
    | with_reducible refine toBypass_fits (within_trans (by decide) hb) ?_ _ _
    | with_reducible refine apHist_fits (within_trans (by decide) hb) ?_ _ _
    | with_reducible refine apllPublish_fits (within_trans (by decide) hb) ?_ _
    | with_reducible refine State.setApll_fits (within_trans (by decide) hb) ?_ _ _
    | with_reducible refine State.raise_fits (within_trans (by decide) hb) ?_ _ _ _ _
    | with_reducible refine Fits.ite _ ?_ ?_
    | split
    | extract_lets
    | (dsimp +zetaDelta only)

theorem apllEnable_fits {fp : Nat} {s00 s : State} (hb : within 8230 fp = true) (h : Fits fp s00 s) (j : Nat) (v : Nat) :
    Fits fp s00 (apllEnable s j v) := by
  unfold apllEnable
  repeat' first
    | with_reducible assumption
    | with_reducible refine apllInputLost_fits (within_trans (by decide) hb) ?_ _
    | with_reducible refine apllLocking_fits (within_trans (by decide) hb) ?_ _ _
    | with_reducible refine toBypass_fits (within_trans (by decide) hb) ?_ _ _
    | with_reducible refine apllPublish_fits (within_trans (by decide) hb) ?_ _
    | with_reducible refine State.setApll_fits (within_trans (by decide) hb) ?_ _ _
    | with_reducible refine State.dput_fits (within_trans (by decide) hb) ?_ _ _
    | with_reducible refine State.put_fits (within_trans (by decide) hb) ?_ _ _
    | with_reducible refine Fits.ite _ ?_ ?_
    | split
    | extract_lets
    | (dsimp +zetaDelta only)

theorem apllRelock_fits {fp : Nat} {s00 s : State} (hb : within 8196 fp = true) (h : Fits fp s00 s) (j : Nat) :
    Fits fp s00 (apllRelock s j) := by
  unfold apllRelock
  repeat' first
    | with_reducible assumption
    | with_reducible refine apllLocking_fits (within_trans (by decide) hb) ?_ _ _
    | with_reducible refine toBypass_fits hb ?_ _ _
    | with_reducible refine apllPublish_fits (within_trans (by decide) hb) ?_ _
    | with_reducible refine Fits.ite _ ?_ ?_
    | split
    | extract_lets
    | (dsimp +zetaDelta only)

theorem apllClear_fits {fp : Nat} {s00 s : State} (hb : within 8196 fp = true) (h : Fits fp s00 s) (j : Nat) :
    Fits fp s00 (apllClear s j) := by
  unfold apllClear
  repeat' first
    | with_reducible assumption
    | with_reducible refine apllPublish_fits (within_trans (by decide) hb) ?_ _
    | with_reducible refine State.setApll_fits (within_trans (by decide) hb) ?_ _ _
    | with_reducible refine Fits.ite _ ?_ ?_
    | split
    | extract_lets
    | (dsimp +zetaDelta only)

theorem apllCommand_fits {fp : Nat} {s00 s : State} (hb : within 8196 fp = true) (h : Fits fp s00 s) (j : Nat) (v : Nat) :
    Fits fp s00 (apllCommand s j v) := by
  unfold apllCommand
  repeat' first
    | with_reducible assumption
    | with_reducible refine apllClear_fits hb ?_ _
    | with_reducible refine apllRelock_fits hb ?_ _
    | with_reducible refine Fits.ite _ ?_ ?_
    | split
    | extract_lets
    | (dsimp +zetaDelta only)

theorem bandDone_fits {fp : Nat} {s00 s : State} (hb : within 8192 fp = true) (h : Fits fp s00 s) (j : Nat) :
    Fits fp s00 (bandDone s j) := by
  unfold bandDone
  repeat' first
    | with_reducible assumption
    | with_reducible refine State.setApll_fits hb ?_ _ _
    | with_reducible refine Fits.ite _ ?_ ?_
    | split
    | extract_lets
    | (dsimp +zetaDelta only)

theorem lockingTimeout_fits {fp : Nat} {s00 s : State} (hb : within 8196 fp = true) (h : Fits fp s00 s) (j : Nat) :
    Fits fp s00 (lockingTimeout s j) := by
  unfold lockingTimeout
  repeat' first
    | with_reducible assumption
    | with_reducible refine apllLocking_fits (within_trans (by decide) hb) ?_ _ _
    | with_reducible refine apllPublish_fits (within_trans (by decide) hb) ?_ _
    | with_reducible refine Fits.ite _ ?_ ?_
    | split
    | extract_lets
    | (dsimp +zetaDelta only)

theorem apllLocked_fits {fp : Nat} {s00 s : State} (hb : within 8196 fp = true) (h : Fits fp s00 s) (j : Nat) :
    Fits fp s00 (apllLocked s j) := by
  unfold apllLocked
  repeat' first
    | with_reducible assumption
    | with_reducible refine apHist_fits (within_trans (by decide) hb) ?_ _ _
    | with_reducible refine State.setApll_fits (within_trans (by decide) hb) ?_ _ _
    | with_reducible refine Fits.ite _ ?_ ?_
    | split
    | extract_lets
    | (dsimp +zetaDelta only)

theorem lockWindow_fits {fp : Nat} {s00 s : State} (hb : within 8228 fp = true) (h : Fits fp s00 s) (j : Nat) (count : Nat) :
    Fits fp s00 (lockWindow s j count) := by
  unfold lockWindow
  repeat' first
    | with_reducible assumption
    | with_reducible refine apllLocked_fits (within_trans (by decide) hb) ?_ _
    | with_reducible refine apllLocking_fits (within_trans (by decide) hb) ?_ _ _
    | with_reducible refine toBypass_fits (within_trans (by decide) hb) ?_ _ _
    | with_reducible refine apHist_fits (within_trans (by decide) hb) ?_ _ _
    | with_reducible refine apllPublish_fits (within_trans (by decide) hb) ?_ _
    | with_reducible refine State.setApll_fits (within_trans (by decide) hb) ?_ _ _
    | with_reducible refine State.raise_fits (within_trans (by decide) hb) ?_ _ _ _ _
    | with_reducible refine Fits.ite _ ?_ ?_
    | split
    | extract_lets
    | (dsimp +zetaDelta only)

theorem returnHold_fits {fp : Nat} {s00 s : State} (hb : within 8196 fp = true) (h : Fits fp s00 s) (j : Nat) :
    Fits fp s00 (returnHold s j) := by
  unfold returnHold
  repeat' first
    | with_reducible assumption
    | with_reducible refine loseAlign_fits (within_trans (by decide) hb) ?_ _
    | with_reducible refine apHist_fits (within_trans (by decide) hb) ?_ _ _
    | with_reducible refine apllPublish_fits (within_trans (by decide) hb) ?_ _
    | with_reducible refine State.setApll_fits (within_trans (by decide) hb) ?_ _ _
    | with_reducible refine Fits.many ?_ _ _ (fun _ _ _ => ?_)
    | with_reducible refine Fits.ite _ ?_ ?_
    | split
    | extract_lets
    | (dsimp +zetaDelta only)

theorem baseChange_fits {fp : Nat} {s00 s : State} (hb : within 9254 fp = true) (h : Fits fp s00 s) (mxo : Bool) :
    Fits fp s00 (baseChange s mxo) := by
  unfold baseChange
  repeat' first
    | with_reducible assumption
    | with_reducible refine apllInputLost_fits (within_trans (by decide) hb) ?_ _
    | with_reducible refine carafeBaseChange_fits (within_trans (by decide) hb) ?_ _
    | with_reducible refine State.raise_fits (within_trans (by decide) hb) ?_ _ _ _ _
    | with_reducible refine Fits.many ?_ _ _ (fun _ _ _ => ?_)
    | with_reducible refine Fits.ite _ ?_ ?_
    | split
    | extract_lets
    | (dsimp +zetaDelta only)
    | with_reducible refine Fits.set_ap (within_trans (by decide) hb) ?_ _ (by simp only [length_upd, List.length_set, List.length_map, List.length_zipIdx, List.length_cons]) (by simp only [length_upd, List.length_set, List.length_map, List.length_zipIdx, List.length_cons])

theorem refRelocked_fits {fp : Nat} {s00 s : State} (hb : within 8196 fp = true) (h : Fits fp s00 s)  :
    Fits fp s00 (refRelocked s) := by
  unfold refRelocked
  repeat' first
    | with_reducible assumption
    | with_reducible refine apllLocking_fits (within_trans (by decide) hb) ?_ _ _
    | with_reducible refine apHist_fits (within_trans (by decide) hb) ?_ _ _
    | with_reducible refine apllPublish_fits (within_trans (by decide) hb) ?_ _
    | with_reducible refine Fits.many ?_ _ _ (fun _ _ _ => ?_)
    | with_reducible refine Fits.ite _ ?_ ?_
    | split
    | extract_lets
    | (dsimp +zetaDelta only)
    | with_reducible refine Fits.set_ap (within_trans (by decide) hb) ?_ _ (by simp only [length_upd, List.length_set, List.length_map, List.length_zipIdx, List.length_cons]) (by simp only [length_upd, List.length_set, List.length_map, List.length_zipIdx, List.length_cons])

theorem rampToDpll_fits {fp : Nat} {s00 s : State} (hb : within 1024 fp = true) (h : Fits fp s00 s) (steer : Option Nat) (ph : Int) :
    Fits fp s00 (rampToDpll s steer ph) := by
  unfold rampToDpll
  repeat' first
    | with_reducible assumption
    | with_reducible refine State.setDpll_fits hb ?_ _ _
    | with_reducible refine Fits.ite _ ?_ ?_
    | split
    | extract_lets
    | (dsimp +zetaDelta only)

theorem apllStep_fits {fp : Nat} {s00 s : State} (hb : within 9220 fp = true) (h : Fits fp s00 s) (j : Nat) (steer : Option Nat) :
    Fits fp s00 (apllStep s j steer) := by
  unfold apllStep
  repeat' first
    | with_reducible assumption
    | with_reducible refine rampToDpll_fits (within_trans (by decide) hb) ?_ _ _
    | with_reducible refine apHist_fits (within_trans (by decide) hb) ?_ _ _
    | with_reducible refine rampPublish_fits (within_trans (by decide) hb) ?_ _
    | with_reducible refine apllPublish_fits (within_trans (by decide) hb) ?_ _
    | with_reducible refine State.setApll_fits (within_trans (by decide) hb) ?_ _ _
    | with_reducible refine Fits.when ?_ _ _ (fun _ _ => ?_)
    | with_reducible refine Fits.ite _ ?_ ?_
    | split
    | extract_lets
    | (dsimp +zetaDelta only)

theorem apllUpdate_fits {fp : Nat} {s00 s : State} (hb : within 9220 fp = true) (h : Fits fp s00 s) (k : Nat) :
    Fits fp s00 (apllUpdate s k) := by
  unfold apllUpdate
  repeat' first
    | with_reducible assumption
    | with_reducible refine apllStep_fits hb ?_ _ _
    | with_reducible refine Fits.many ?_ _ _ (fun _ _ _ => ?_)
    | with_reducible refine Fits.ite _ ?_ ?_
    | split
    | extract_lets
    | (dsimp +zetaDelta only)

theorem rampCycleEnd_fits {fp : Nat} {s00 s : State} (hb : within 8196 fp = true) (h : Fits fp s00 s) (j : Nat) :
    Fits fp s00 (rampCycleEnd s j) := by
  unfold rampCycleEnd
  repeat' first
    | with_reducible assumption
    | with_reducible refine apHist_fits (within_trans (by decide) hb) ?_ _ _
    | with_reducible refine rampPublish_fits hb ?_ _
    | with_reducible refine State.setApll_fits (within_trans (by decide) hb) ?_ _ _
    | with_reducible refine Fits.when ?_ _ _ (fun _ _ => ?_)
    | with_reducible refine Fits.ite _ ?_ ?_
    | split
    | extract_lets
    | (dsimp +zetaDelta only)

theorem rampSegmentEnd_fits {fp : Nat} {s00 s : State} (hb : within 8196 fp = true) (h : Fits fp s00 s) (j : Nat) :
    Fits fp s00 (rampSegmentEnd s j) := by
  unfold rampSegmentEnd
  repeat' first
    | with_reducible assumption
    | with_reducible refine rampCycleEnd_fits hb ?_ _
    | with_reducible refine rampPublish_fits hb ?_ _
    | with_reducible refine State.setApll_fits (within_trans (by decide) hb) ?_ _ _
    | with_reducible refine Fits.ite _ ?_ ?_
    | split
    | extract_lets
    | (dsimp +zetaDelta only)

theorem rampCommand_fits {fp : Nat} {s00 s : State} (hb : within 8196 fp = true) (h : Fits fp s00 s) (j : Nat) (v : Nat) :
    Fits fp s00 (rampCommand s j v) := by
  unfold rampCommand
  repeat' first
    | with_reducible assumption
    | with_reducible refine apHist_fits (within_trans (by decide) hb) ?_ _ _
    | with_reducible refine rampPublish_fits hb ?_ _
    | with_reducible refine State.setApll_fits (within_trans (by decide) hb) ?_ _ _
    | with_reducible refine Fits.ite _ ?_ ?_
    | split
    | extract_lets
    | (dsimp +zetaDelta only)

end Sys2Proof.Machine
end

