-- ==== Sys2Proof/Laws/FitsOutputs.lean ====
section
/-! SUPPORT. What each operation of Machine/Outputs.lean may touch, and the invariants that it keeps. -/

set_option linter.unusedSimpArgs false
set_option linter.unusedVariables false

namespace Sys2Proof.Machine

theorem alignOne_fits {fp : Nat} {s00 s : State} (hb : within 8192 fp = true) (h : Fits fp s00 s) (n : Nat) :
    Fits fp s00 (alignOne s n) := by
  unfold alignOne
  repeat' first
    | with_reducible assumption
    | with_reducible refine State.setOut_fits hb ?_ _ _
    | with_reducible refine Fits.ite _ ?_ ?_
    | split
    | extract_lets
    | (dsimp +zetaDelta only)

theorem alignGroups_fits {fp : Nat} {s00 s : State} (hb : within 8192 fp = true) (h : Fits fp s00 s) (g : Nat) :
    Fits fp s00 (alignGroups s g) := by
  unfold alignGroups
  repeat' first
    | with_reducible assumption
    | with_reducible refine alignOne_fits hb ?_ _
    | with_reducible refine Fits.many ?_ _ _ (fun _ _ _ => ?_)
    | with_reducible refine Fits.ite _ ?_ ?_
    | split
    | extract_lets
    | (dsimp +zetaDelta only)

theorem sourceEdge_fits {fp : Nat} {s00 s : State} (hb : within 8192 fp = true) (h : Fits fp s00 s) (src : Nat) (rising : Bool) (h : Int) :
    Fits fp s00 (sourceEdge s src rising h) := by
  unfold sourceEdge
  repeat' first
    | with_reducible assumption
    | with_reducible refine Fits.ite _ ?_ ?_
    | split
    | extract_lets
    | (dsimp +zetaDelta only)
    | with_reducible refine Fits.set_ap (within_trans (by decide) hb) ?_ _ (by simp only [length_upd, List.length_set, List.length_map, List.length_zipIdx, List.length_cons]) (by simp only [length_upd, List.length_set, List.length_map, List.length_zipIdx, List.length_cons])

theorem sourceRun_fits {fp : Nat} {s00 s : State} (hb : within 8192 fp = true) (h : Fits fp s00 s) (j : Nat) :
    Fits fp s00 (sourceRun s j) := by
  unfold sourceRun
  repeat' first
    | with_reducible assumption
    | with_reducible refine sourceEdge_fits hb ?_ _ _ _
    | with_reducible refine State.setApll_fits hb ?_ _ _
    | with_reducible refine Fits.many ?_ _ _ (fun _ _ _ => ?_)
    | with_reducible refine Fits.ite _ ?_ ?_
    | split
    | extract_lets
    | (dsimp +zetaDelta only)

theorem bypassHalf_fits {fp : Nat} {s00 s : State} (hb : within 8192 fp = true) (h : Fits fp s00 s)  :
    Fits fp s00 (bypassHalf s) := by
  unfold bypassHalf
  repeat' first
    | with_reducible assumption
    | with_reducible refine sourceEdge_fits hb ?_ _ _ _
    | with_reducible refine Fits.when ?_ _ _ (fun _ _ => ?_)
    | with_reducible refine Fits.ite _ ?_ ?_
    | split
    | extract_lets
    | (dsimp +zetaDelta only)
    | with_reducible refine Fits.set_ap (within_trans (by decide) hb) ?_ _ (by simp only [length_upd, List.length_set, List.length_map, List.length_zipIdx, List.length_cons]) (by simp only [length_upd, List.length_set, List.length_map, List.length_zipIdx, List.length_cons])

theorem bypassTick_fits {fp : Nat} {s00 s : State} (hb : within 8192 fp = true) (h : Fits fp s00 s)  :
    Fits fp s00 (bypassTick s) := by
  unfold bypassTick
  repeat' first
    | with_reducible assumption
    | with_reducible refine bypassHalf_fits hb ?_
    | with_reducible refine Fits.many ?_ _ _ (fun _ _ _ => ?_)
    | with_reducible refine Fits.ite _ ?_ ?_
    | split
    | extract_lets
    | (dsimp +zetaDelta only)
    | with_reducible refine Fits.set_ap (within_trans (by decide) hb) ?_ _ (by simp only [length_upd, List.length_set, List.length_map, List.length_zipIdx, List.length_cons]) (by simp only [length_upd, List.length_set, List.length_map, List.length_zipIdx, List.length_cons])

theorem sourcesRun_fits {fp : Nat} {s00 s : State} (hb : within 8192 fp = true) (h : Fits fp s00 s)  :
    Fits fp s00 (sourcesRun s) := by
  unfold sourcesRun
  repeat' first
    | with_reducible assumption
    | with_reducible refine sourceRun_fits hb ?_ _
    | with_reducible refine Fits.many ?_ _ _ (fun _ _ _ => ?_)
    | with_reducible refine Fits.ite _ ?_ ?_
    | split
    | extract_lets
    | (dsimp +zetaDelta only)

theorem synthTick_fits {fp : Nat} {s00 s : State} (hb : within 8192 fp = true) (h : Fits fp s00 s)  :
    Fits fp s00 (synthTick s) := by
  unfold synthTick
  repeat' first
    | with_reducible assumption
    | with_reducible refine sourcesRun_fits hb ?_
    | with_reducible refine bypassTick_fits hb ?_
    | with_reducible refine mashTick_fits hb ?_
    | with_reducible refine Fits.ite _ ?_ ?_
    | split
    | extract_lets
    | (dsimp +zetaDelta only)
    | with_reducible refine Fits.set_ap (within_trans (by decide) hb) ?_ _ (by simp only [length_upd, List.length_set, List.length_map, List.length_zipIdx, List.length_cons]) (by simp only [length_upd, List.length_set, List.length_map, List.length_zipIdx, List.length_cons])

theorem pulseOut_fits {fp : Nat} {s00 s : State} (hb : within 8192 fp = true) (h : Fits fp s00 s) (t : Nat) (index : Nat) (at_ : Nat) (width : Nat) :
    Fits fp s00 (pulseOut s t index at_ width) := by
  unfold pulseOut
  repeat' first
    | with_reducible assumption
    | with_reducible refine State.setOut_fits hb ?_ _ _
    | with_reducible refine Fits.many ?_ _ _ (fun _ _ _ => ?_)
    | with_reducible refine Fits.ite _ ?_ ?_
    | split
    | extract_lets
    | (dsimp +zetaDelta only)

theorem alignedEdge_fits {fp : Nat} {s00 s : State} (hb : within 8192 fp = true) (h : Fits fp s00 s) (n : Nat) :
    Fits fp s00 (alignedEdge s n) := by
  unfold alignedEdge
  repeat' first
    | with_reducible assumption
    | with_reducible refine sourcesRun_fits hb ?_
    | with_reducible refine State.setOut_fits hb ?_ _ _
    | with_reducible refine Fits.ite _ ?_ ?_
    | split
    | extract_lets
    | (dsimp +zetaDelta only)

theorem outEnable_fits {fp : Nat} {s00 s : State} (hb : within 8194 fp = true) (h : Fits fp s00 s) (n : Nat) (v : Nat) :
    Fits fp s00 (outEnable s n v) := by
  unfold outEnable
  repeat' first
    | with_reducible assumption
    | with_reducible refine State.setOut_fits (within_trans (by decide) hb) ?_ _ _
    | with_reducible refine State.put_fits (within_trans (by decide) hb) ?_ _ _
    | with_reducible refine Fits.ite _ ?_ ?_
    | split
    | extract_lets
    | (dsimp +zetaDelta only)

theorem outForce_fits {fp : Nat} {s00 s : State} (hb : within 8192 fp = true) (h : Fits fp s00 s) (n : Nat) :
    Fits fp s00 (outForce s n) := by
  unfold outForce
  repeat' first
    | with_reducible assumption
    | with_reducible refine State.setOut_fits hb ?_ _ _
    | with_reducible refine Fits.ite _ ?_ ?_
    | split
    | extract_lets
    | (dsimp +zetaDelta only)

theorem outRelease_fits {fp : Nat} {s00 s : State} (hb : within 8192 fp = true) (h : Fits fp s00 s) (n : Nat) :
    Fits fp s00 (outRelease s n) := by
  unfold outRelease
  repeat' first
    | with_reducible assumption
    | with_reducible refine loseAlign_fits hb ?_ _
    | with_reducible refine State.setOut_fits hb ?_ _ _
    | with_reducible refine Fits.ite _ ?_ ?_
    | split
    | extract_lets
    | (dsimp +zetaDelta only)

end Sys2Proof.Machine
end

