-- ==== Sys2Proof/Laws/FitsCounters.lean ====
section
/-! SUPPORT. What each operation of Machine/Counters.lean may touch, and the invariants that it keeps. -/

set_option linter.unusedSimpArgs false
set_option linter.unusedVariables false

namespace Sys2Proof.Machine

theorem State.setSched_fits {fp : Nat} {s00 s : State} (hb : within 16384 fp = true) (h : Fits fp s00 s) (e : Nat) (f : SchedEntry → SchedEntry) :
    Fits fp s00 (State.setSched s e f) := by
  unfold State.setSched
  repeat' first
    | with_reducible assumption
    | with_reducible refine Fits.ite _ ?_ ?_
    | split
    | extract_lets
    | (dsimp +zetaDelta only)
    | with_reducible refine Fits.set_sched (within_trans (by decide) hb) ?_ _ (by simp only [length_upd, List.length_set, List.length_map, List.length_zipIdx, List.length_cons])

theorem schedPass_fits {fp : Nat} {s00 s : State} (hb : within 16384 fp = true) (h : Fits fp s00 s) (t : Nat) (before : Nat) (e : Nat) :
    Fits fp s00 (schedPass s t before e) := by
  unfold schedPass
  repeat' first
    | with_reducible assumption
    | with_reducible refine State.setSched_fits hb ?_ _ _
    | with_reducible refine Fits.ite _ ?_ ?_
    | split
    | extract_lets
    | (dsimp +zetaDelta only)

theorem schedOnStep_fits {fp : Nat} {s00 s : State} (hb : within 16384 fp = true) (h : Fits fp s00 s) (t : Nat) (before : Nat) :
    Fits fp s00 (schedOnStep s t before) := by
  unfold schedOnStep
  repeat' first
    | with_reducible assumption
    | with_reducible refine schedPass_fits hb ?_ _ _ _
    | with_reducible refine Fits.many ?_ _ _ (fun _ _ _ => ?_)
    | with_reducible refine Fits.ite _ ?_ ?_
    | split
    | extract_lets
    | (dsimp +zetaDelta only)
    | with_reducible refine Fits.set_sched (within_trans (by decide) hb) ?_ _ (by simp only [length_upd, List.length_set, List.length_map, List.length_zipIdx, List.length_cons])

theorem schedDue_fits {fp : Nat} {s00 s : State} (hb : within 16384 fp = true) (h : Fits fp s00 s)  :
    Fits fp s00 (schedDue s) := by
  unfold schedDue
  repeat' first
    | with_reducible assumption
    | with_reducible refine State.setSched_fits hb ?_ _ _
    | with_reducible refine Fits.many ?_ _ _ (fun _ _ _ => ?_)
    | with_reducible refine Fits.ite _ ?_ ?_
    | split
    | extract_lets
    | (dsimp +zetaDelta only)

theorem pulseSkip_fits {fp : Nat} {s00 s : State} (hb : within 256 fp = true) (h : Fits fp s00 s) (t : Nat) (x : Nat) :
    Fits fp s00 (pulseSkip s t x) := by
  unfold pulseSkip
  repeat' first
    | with_reducible assumption
    | with_reducible refine State.setTc_fits hb ?_ _ _
    | with_reducible refine Fits.ite _ ?_ ?_
    | split
    | extract_lets
    | (dsimp +zetaDelta only)

theorem tcStep_fits {fp : Nat} {s00 s : State} (hb : within 16674 fp = true) (h : Fits fp s00 s) (t : Nat) (x48 : Int) :
    Fits fp s00 (tcStep s t x48) := by
  unfold tcStep
  repeat' first
    | with_reducible assumption
    | with_reducible refine pulseSkip_fits (within_trans (by decide) hb) ?_ _ _
    | with_reducible refine schedOnStep_fits (within_trans (by decide) hb) ?_ _ _
    | with_reducible refine State.setTc_fits (within_trans (by decide) hb) ?_ _ _
    | with_reducible refine State.raise_fits (within_trans (by decide) hb) ?_ _ _ _ _
    | with_reducible refine State.hist_fits (within_trans (by decide) hb) ?_ _ _
    | with_reducible refine Fits.ite _ ?_ ?_
    | split
    | extract_lets
    | (dsimp +zetaDelta only)

theorem tcClearUnset_fits {fp : Nat} {s00 s : State} (hb : within 258 fp = true) (h : Fits fp s00 s) (t : Nat) :
    Fits fp s00 (tcClearUnset s t) := by
  unfold tcClearUnset
  repeat' first
    | with_reducible assumption
    | with_reducible refine State.setTc_fits (within_trans (by decide) hb) ?_ _ _
    | with_reducible refine State.hist_fits (within_trans (by decide) hb) ?_ _ _
    | with_reducible refine Fits.when ?_ _ _ (fun _ _ => ?_)
    | with_reducible refine Fits.ite _ ?_ ?_
    | split
    | extract_lets
    | (dsimp +zetaDelta only)

theorem tcKeep_fits {fp : Nat} {s00 s : State} (hb : within 256 fp = true) (h : Fits fp s00 s) (t : Nat) (x : Int) :
    Fits fp s00 (tcKeep s t x) := by
  unfold tcKeep
  repeat' first
    | with_reducible assumption
    | with_reducible refine State.setTc_fits hb ?_ _ _
    | with_reducible refine Fits.ite _ ?_ ?_
    | split
    | extract_lets
    | (dsimp +zetaDelta only)

theorem tcTampStep48_fits {fp : Nat} {s00 s : State} (hb : within 16674 fp = true) (h : Fits fp s00 s) (t : Nat) (x48 : Int) :
    Fits fp s00 (tcTampStep48 s t x48) := by
  unfold tcTampStep48
  repeat' first
    | with_reducible assumption
    | with_reducible refine tcStep_fits hb ?_ _ _
    | with_reducible refine State.setTc_fits (within_trans (by decide) hb) ?_ _ _
    | with_reducible refine Fits.ite _ ?_ ?_
    | split
    | extract_lets
    | (dsimp +zetaDelta only)

theorem tcTampStep_fits {fp : Nat} {s00 s : State} (hb : within 16674 fp = true) (h : Fits fp s00 s) (t : Nat) (x : Int) :
    Fits fp s00 (tcTampStep s t x) := by
  unfold tcTampStep
  repeat' first
    | with_reducible assumption
    | with_reducible refine tcStep_fits hb ?_ _ _
    | with_reducible refine State.setTc_fits (within_trans (by decide) hb) ?_ _ _
    | with_reducible refine Fits.ite _ ?_ ?_
    | split
    | extract_lets
    | (dsimp +zetaDelta only)

theorem tcSet_fits {fp : Nat} {s00 s : State} (hb : within 16674 fp = true) (h : Fits fp s00 s) (t : Nat) (v : Nat) :
    Fits fp s00 (tcSet s t v) := by
  unfold tcSet
  repeat' first
    | with_reducible assumption
    | with_reducible refine tcTampStep_fits hb ?_ _ _
    | with_reducible refine tcTampStep48_fits hb ?_ _ _
    | with_reducible refine tcClearUnset_fits (within_trans (by decide) hb) ?_ _
    | with_reducible refine State.setTc_fits (within_trans (by decide) hb) ?_ _ _
    | with_reducible refine Fits.ite _ ?_ ?_
    | split
    | extract_lets
    | (dsimp +zetaDelta only)

theorem tcTampNow_fits {fp : Nat} {s00 s : State} (hb : within 16674 fp = true) (h : Fits fp s00 s) (t : Nat) (x : Int) :
    Fits fp s00 (tcTampNow s t x) := by
  unfold tcTampNow
  repeat' first
    | with_reducible assumption
    | with_reducible refine tcTampStep_fits hb ?_ _ _
    | with_reducible refine tcKeep_fits (within_trans (by decide) hb) ?_ _ _
    | with_reducible refine State.setTc_fits (within_trans (by decide) hb) ?_ _ _
    | with_reducible refine Fits.ite _ ?_ ?_
    | split
    | extract_lets
    | (dsimp +zetaDelta only)

theorem tcRequests_fits {fp : Nat} {s00 s : State} (hb : within 16674 fp = true) (h : Fits fp s00 s) (t : Nat) (x0 : List TcReq) (x1 : Int) :
    Fits fp s00 (tcRequests s t x0 x1) := by
  induction x0 generalizing s x1 with
  | nil =>
    unfold tcRequests
    exact tcTampNow_fits (within_trans (by decide) hb) h _ _
  | cons e r ih =>
    cases e with
    | tamp y =>
      unfold tcRequests
      exact ih h _
    | set v =>
      unfold tcRequests
      exact ih (tcSet_fits (within_trans (by decide) hb) (tcTampNow_fits (within_trans (by decide) hb) h _ _) _ _) _

theorem tcMoves_fits {fp : Nat} {s00 s : State} (hb : within 256 fp = true) (h : Fits fp s00 s) (t : Nat) :
    Fits fp s00 (tcMoves s t) := by
  unfold tcMoves
  repeat' first
    | with_reducible assumption
    | with_reducible refine State.setTc_fits hb ?_ _ _
    | with_reducible refine Fits.ite _ ?_ ?_
    | split
    | extract_lets
    | (dsimp +zetaDelta only)

theorem tieTick_fits {fp : Nat} {s00 s : State} (hb : within 16640 fp = true) (h : Fits fp s00 s) (t : Nat) :
    Fits fp s00 (tieTick s t) := by
  unfold tieTick
  repeat' first
    | with_reducible assumption
    | with_reducible refine pulseSkip_fits (within_trans (by decide) hb) ?_ _ _
    | with_reducible refine schedOnStep_fits (within_trans (by decide) hb) ?_ _ _
    | with_reducible refine State.setTc_fits (within_trans (by decide) hb) ?_ _ _
    | with_reducible refine Fits.when ?_ _ _ (fun _ _ => ?_)
    | with_reducible refine Fits.ite _ ?_ ?_
    | split
    | extract_lets
    | (dsimp +zetaDelta only)

theorem tcTick_fits {fp : Nat} {s00 s : State} (hb : within 16640 fp = true) (h : Fits fp s00 s) (t : Nat) :
    Fits fp s00 (tcTick s t) := by
  unfold tcTick
  repeat' first
    | with_reducible assumption
    | with_reducible refine tieTick_fits hb ?_ _
    | with_reducible refine tcMoves_fits (within_trans (by decide) hb) ?_ _
    | with_reducible refine State.setTc_fits (within_trans (by decide) hb) ?_ _ _
    | with_reducible refine Fits.ite _ ?_ ?_
    | split
    | extract_lets
    | (dsimp +zetaDelta only)

theorem tcSteps_fits {fp : Nat} {s00 s : State} (hb : within 16674 fp = true) (h : Fits fp s00 s) (t : Nat) :
    Fits fp s00 (tcSteps s t) := by
  unfold tcSteps
  repeat' first
    | with_reducible assumption
    | with_reducible refine tcRequests_fits hb ?_ _ _ _
    | with_reducible refine State.setTc_fits (within_trans (by decide) hb) ?_ _ _
    | with_reducible refine Fits.ite _ ?_ ?_
    | split
    | extract_lets
    | (dsimp +zetaDelta only)

theorem baseTick_fits {fp : Nat} {s00 s : State} (hb : within 16675 fp = true) (h : Fits fp s00 s)  :
    Fits fp s00 (baseTick s) := by
  unfold baseTick
  repeat' first
    | with_reducible assumption
    | with_reducible refine tcSteps_fits (within_trans (by decide) hb) ?_ _
    | with_reducible refine tcTick_fits (within_trans (by decide) hb) ?_ _
    | with_reducible refine schedDue_fits (within_trans (by decide) hb) ?_
    | with_reducible refine Fits.many ?_ _ _ (fun _ _ _ => ?_)
    | with_reducible refine Fits.ite _ ?_ ?_
    | split
    | extract_lets
    | (dsimp +zetaDelta only)
    | with_reducible refine Fits.set_now (within_trans (by decide) hb) ?_ _

theorem tcRequest_fits {fp : Nat} {s00 s : State} (hb : within 256 fp = true) (h : Fits fp s00 s) (t : Nat) (q : TcReq) :
    Fits fp s00 (tcRequest s t q) := by
  unfold tcRequest
  repeat' first
    | with_reducible assumption
    | with_reducible refine State.setTc_fits hb ?_ _ _
    | with_reducible refine Fits.ite _ ?_ ?_
    | split
    | extract_lets
    | (dsimp +zetaDelta only)

theorem tcPour_fits {fp : Nat} {s00 s : State} (hb : within 256 fp = true) (h : Fits fp s00 s) (t : Nat) (x : Int) :
    Fits fp s00 (tcPour s t x) := by
  unfold tcPour
  repeat' first
    | with_reducible assumption
    | with_reducible refine State.setTc_fits hb ?_ _ _
    | with_reducible refine Fits.ite _ ?_ ?_
    | split
    | extract_lets
    | (dsimp +zetaDelta only)

theorem tcPourAbort_fits {fp : Nat} {s00 s : State} (hb : within 256 fp = true) (h : Fits fp s00 s) (t : Nat) :
    Fits fp s00 (tcPourAbort s t) := by
  unfold tcPourAbort
  repeat' first
    | with_reducible assumption
    | with_reducible refine State.setTc_fits hb ?_ _ _
    | with_reducible refine Fits.ite _ ?_ ?_
    | split
    | extract_lets
    | (dsimp +zetaDelta only)

theorem tcPourDone_fits {fp : Nat} {s00 s : State} (hb : within 258 fp = true) (h : Fits fp s00 s) (t : Nat) :
    Fits fp s00 (tcPourDone s t) := by
  unfold tcPourDone
  repeat' first
    | with_reducible assumption
    | with_reducible refine State.setTc_fits (within_trans (by decide) hb) ?_ _ _
    | with_reducible refine State.hist_fits (within_trans (by decide) hb) ?_ _ _
    | with_reducible refine Fits.ite _ ?_ ?_
    | split
    | extract_lets
    | (dsimp +zetaDelta only)

theorem leaveTied_fits {fp : Nat} {s00 s : State} (hb : within 258 fp = true) (h : Fits fp s00 s) (t : Nat) :
    Fits fp s00 (leaveTied s t) := by
  unfold leaveTied
  repeat' first
    | with_reducible assumption
    | with_reducible refine State.setTc_fits (within_trans (by decide) hb) ?_ _ _
    | with_reducible refine State.put_fits (within_trans (by decide) hb) ?_ _ _
    | with_reducible refine Fits.ite _ ?_ ?_
    | split
    | extract_lets
    | (dsimp +zetaDelta only)

theorem disciplineSwi_fits {fp : Nat} {s00 s : State} (hb : within 258 fp = true) (h : Fits fp s00 s) (t : Nat) :
    Fits fp s00 (disciplineSwi s t) := by
  unfold disciplineSwi
  repeat' first
    | with_reducible assumption
    | with_reducible refine leaveTied_fits hb ?_ _
    | with_reducible refine State.setTc_fits (within_trans (by decide) hb) ?_ _ _
    | with_reducible refine State.put_fits (within_trans (by decide) hb) ?_ _ _
    | with_reducible refine Fits.ite _ ?_ ?_
    | split
    | extract_lets
    | (dsimp +zetaDelta only)

theorem disciplineHws_fits {fp : Nat} {s00 s : State} (hb : within 258 fp = true) (h : Fits fp s00 s) (t : Nat) :
    Fits fp s00 (disciplineHws s t) := by
  unfold disciplineHws
  repeat' first
    | with_reducible assumption
    | with_reducible refine leaveTied_fits hb ?_ _
    | with_reducible refine State.setTc_fits (within_trans (by decide) hb) ?_ _ _
    | with_reducible refine State.put_fits (within_trans (by decide) hb) ?_ _ _
    | with_reducible refine Fits.ite _ ?_ ?_
    | split
    | extract_lets
    | (dsimp +zetaDelta only)

theorem blendHandOver_fits {fp : Nat} {s00 s : State} (hb : within 1280 fp = true) (h : Fits fp s00 s) (t : Nat) :
    Fits fp s00 (blendHandOver s t) := by
  unfold blendHandOver
  repeat' first
    | with_reducible assumption
    | with_reducible refine State.setDpll_fits (within_trans (by decide) hb) ?_ _ _
    | with_reducible refine State.setTc_fits (within_trans (by decide) hb) ?_ _ _
    | with_reducible refine Fits.ite _ ?_ ?_
    | split
    | extract_lets
    | (dsimp +zetaDelta only)

theorem disciplineTied_fits {fp : Nat} {s00 s : State} (hb : within 17698 fp = true) (h : Fits fp s00 s) (t : Nat) :
    Fits fp s00 (disciplineTied s t) := by
  unfold disciplineTied
  repeat' first
    | with_reducible assumption
    | with_reducible refine blendHandOver_fits (within_trans (by decide) hb) ?_ _
    | with_reducible refine tcPourAbort_fits (within_trans (by decide) hb) ?_ _
    | with_reducible refine tieTick_fits (within_trans (by decide) hb) ?_ _
    | with_reducible refine tcTampStep48_fits (within_trans (by decide) hb) ?_ _ _
    | with_reducible refine State.setTc_fits (within_trans (by decide) hb) ?_ _ _
    | with_reducible refine State.put_fits (within_trans (by decide) hb) ?_ _ _
    | with_reducible refine Fits.ite _ ?_ ?_
    | split
    | extract_lets
    | (dsimp +zetaDelta only)

theorem tieSend_fits {fp : Nat} {s00 s : State} (hb : within 256 fp = true) (h : Fits fp s00 s) (k : Nat) :
    Fits fp s00 (tieSend s k) := by
  unfold tieSend
  repeat' first
    | with_reducible assumption
    | with_reducible refine State.setTc_fits hb ?_ _ _
    | with_reducible refine Fits.many ?_ _ _ (fun _ _ _ => ?_)
    | with_reducible refine Fits.ite _ ?_ ?_
    | split
    | extract_lets
    | (dsimp +zetaDelta only)

theorem tieArrive_fits {fp : Nat} {s00 s : State} (hb : within 358 fp = true) (h : Fits fp s00 s) (t : Nat) :
    Fits fp s00 (tieArrive s t) := by
  unfold tieArrive
  repeat' first
    | with_reducible assumption
    | with_reducible refine State.setTc_fits (within_trans (by decide) hb) ?_ _ _
    | with_reducible refine carried_fits (within_trans (by decide) hb) ?_ _ _ _ _ (fun _ _ => ?_)
    | with_reducible refine State.raise_fits (within_trans (by decide) hb) ?_ _ _ _ _
    | with_reducible refine State.hist_fits (within_trans (by decide) hb) ?_ _ _
    | with_reducible refine Fits.when ?_ _ _ (fun _ _ => ?_)
    | with_reducible refine Fits.ite _ ?_ ?_
    | split
    | extract_lets
    | (dsimp +zetaDelta only)

theorem tcSecondStep_fits {fp : Nat} {s00 s : State} (hb : within 16674 fp = true) (h : Fits fp s00 s) (t : Nat) (w : Int) :
    Fits fp s00 (tcSecondStep s t w) := by
  unfold tcSecondStep
  repeat' first
    | with_reducible assumption
    | with_reducible refine tcTampStep_fits hb ?_ _ _
    | with_reducible refine tcClearUnset_fits (within_trans (by decide) hb) ?_ _
    | with_reducible refine State.setTc_fits (within_trans (by decide) hb) ?_ _ _
    | with_reducible refine Fits.ite _ ?_ ?_
    | split
    | extract_lets
    | (dsimp +zetaDelta only)

theorem tcLastRate_fits {fp : Nat} {s00 s : State} (hb : within 290 fp = true) (h : Fits fp s00 s) (t : Nat) :
    Fits fp s00 (tcLastRate s t) := by
  unfold tcLastRate
  repeat' first
    | with_reducible assumption
    | with_reducible refine State.setTc_fits (within_trans (by decide) hb) ?_ _ _
    | with_reducible refine State.raise_fits (within_trans (by decide) hb) ?_ _ _ _ _
    | with_reducible refine State.hist_fits (within_trans (by decide) hb) ?_ _ _
    | with_reducible refine Fits.ite _ ?_ ?_
    | split
    | extract_lets
    | (dsimp +zetaDelta only)

theorem tcTrack_fits {fp : Nat} {s00 s : State} (hb : within 16674 fp = true) (h : Fits fp s00 s) (t : Nat) (o : TcOffset) :
    Fits fp s00 (tcTrack s t o) := by
  unfold tcTrack
  repeat' first
    | with_reducible assumption
    | with_reducible refine tcTampStep_fits hb ?_ _ _
    | with_reducible refine tcClearUnset_fits (within_trans (by decide) hb) ?_ _
    | with_reducible refine State.setTc_fits (within_trans (by decide) hb) ?_ _ _
    | with_reducible refine State.hist_fits (within_trans (by decide) hb) ?_ _ _
    | with_reducible refine State.put_fits (within_trans (by decide) hb) ?_ _ _
    | with_reducible refine Fits.when ?_ _ _ (fun _ _ => ?_)
    | with_reducible refine Fits.ite _ ?_ ?_
    | split
    | extract_lets
    | (dsimp +zetaDelta only)

theorem tcMasterChange_fits {fp : Nat} {s00 s : State} (hb : within 290 fp = true) (h : Fits fp s00 s) (t : Nat) :
    Fits fp s00 (tcMasterChange s t) := by
  unfold tcMasterChange
  repeat' first
    | with_reducible assumption
    | with_reducible refine tcLastRate_fits hb ?_ _
    | with_reducible refine State.hist_fits (within_trans (by decide) hb) ?_ _ _
    | with_reducible refine Fits.ite _ ?_ ?_
    | split
    | extract_lets
    | (dsimp +zetaDelta only)

theorem hwsOffset_fits {fp : Nat} {s00 s : State} (hb : within 16674 fp = true) (h : Fits fp s00 s) (t : Nat) :
    Fits fp s00 (hwsOffset s t) := by
  unfold hwsOffset
  repeat' first
    | with_reducible assumption
    | with_reducible refine tcMasterChange_fits (within_trans (by decide) hb) ?_ _
    | with_reducible refine tcTrack_fits hb ?_ _ _
    | with_reducible refine State.setTc_fits (within_trans (by decide) hb) ?_ _ _
    | with_reducible refine State.hist_fits (within_trans (by decide) hb) ?_ _ _
    | with_reducible refine Fits.ite _ ?_ ?_
    | split
    | extract_lets
    | (dsimp +zetaDelta only)

theorem pulsePut_fits {fp : Nat} {s00 s : State} (hb : within 8450 fp = true) (h : Fits fp s00 s) (t : Nat) (sub : Nat) (v : Nat) :
    Fits fp s00 (pulsePut s t sub v) := by
  unfold pulsePut
  repeat' first
    | with_reducible assumption
    | with_reducible refine loseAlign_fits (within_trans (by decide) hb) ?_ _
    | with_reducible refine State.setTc_fits (within_trans (by decide) hb) ?_ _ _
    | with_reducible refine State.put_fits (within_trans (by decide) hb) ?_ _ _
    | with_reducible refine Fits.many ?_ _ _ (fun _ _ _ => ?_)
    | with_reducible refine Fits.ite _ ?_ ?_
    | split
    | extract_lets
    | (dsimp +zetaDelta only)

theorem pulseInstant_fits {fp : Nat} {s00 s : State} (hb : within 8456 fp = true) (h : Fits fp s00 s) (t : Nat) :
    Fits fp s00 (pulseInstant s t) := by
  unfold pulseInstant
  repeat' first
    | with_reducible assumption
    | with_reducible refine pulseOut_fits (within_trans (by decide) hb) ?_ _ _ _ _
    | with_reducible refine State.setTc_fits (within_trans (by decide) hb) ?_ _ _
    | with_reducible refine State.send_fits (within_trans (by decide) hb) ?_ _
    | with_reducible refine Fits.ite _ ?_ ?_
    | split
    | extract_lets
    | (dsimp +zetaDelta only)

theorem classMode_fits {fp : Nat} {s00 s : State} (hb : within 2 fp = true) (h : Fits fp s00 s) (t : Nat) (v : Nat) :
    Fits fp s00 (classMode s t v) := by
  unfold classMode
  repeat' first
    | with_reducible assumption
    | with_reducible refine State.put_fits hb ?_ _ _
    | with_reducible refine Fits.ite _ ?_ ?_
    | split
    | extract_lets
    | (dsimp +zetaDelta only)

end Sys2Proof.Machine
end

