-- ==== Sys2Proof/Laws/FitsGates.lean ====
section
/-! SUPPORT. What each operation of Machine/Gates.lean may touch, and the invariants that it keeps. -/

set_option linter.unusedSimpArgs false
set_option linter.unusedVariables false

namespace Sys2Proof.Machine

theorem State.setGate_fits {fp : Nat} {s00 s : State} (hb : within 128 fp = true) (h : Fits fp s00 s) (g : Nat) (f : Gate → Gate) :
    Fits fp s00 (State.setGate s g f) := by
  unfold State.setGate
  repeat' first
    | with_reducible assumption
    | with_reducible refine Fits.ite _ ?_ ?_
    | split
    | extract_lets
    | (dsimp +zetaDelta only)
    | with_reducible refine Fits.set_chan (within_trans (by decide) hb) ?_ _ (by with_unfolding_all exact fun h => h) (by with_unfolding_all exact fun _ h => h) (by simp only [length_upd, List.length_set, List.length_map, List.length_zipIdx, List.length_cons]) (by simp only [length_upd, List.length_set, List.length_map, List.length_zipIdx, List.length_cons])

theorem gatePublish_fits {fp : Nat} {s00 s : State} (hb : within 2 fp = true) (h : Fits fp s00 s) (g : Nat) :
    Fits fp s00 (gatePublish s g) := by
  unfold gatePublish
  repeat' first
    | with_reducible assumption
    | with_reducible refine State.put_fits hb ?_ _ _
    | with_reducible refine Fits.many ?_ _ _ (fun _ _ _ => ?_)
    | with_reducible refine Fits.ite _ ?_ ?_
    | split
    | extract_lets
    | (dsimp +zetaDelta only)

theorem gateFinish_fits {fp : Nat} {s00 s : State} (hb : within 25165954 fp = true) (h : Fits fp s00 s) (g : Nat) (cause : Nat) :
    Fits fp s00 (gateFinish s g cause) := by
  unfold gateFinish
  repeat' first
    | with_reducible assumption
    | with_reducible refine cause_fits (within_trans (by decide) hb) ?_ _
    | with_reducible refine gatePublish_fits (within_trans (by decide) hb) ?_ _
    | with_reducible refine State.setGate_fits (within_trans (by decide) hb) ?_ _ _
    | with_reducible refine State.hist_fits (within_trans (by decide) hb) ?_ _ _
    | with_reducible refine Fits.ite _ ?_ ?_
    | split
    | extract_lets
    | (dsimp +zetaDelta only)

theorem gateStore_fits {fp : Nat} {s00 s : State} (hb : within 25165954 fp = true) (h : Fits fp s00 s) (g : Nat) (r : Gate × Nat) :
    Fits fp s00 (gateStore s g r) := by
  unfold gateStore
  repeat' first
    | with_reducible assumption
    | with_reducible refine gateFinish_fits hb ?_ _ _
    | with_reducible refine gatePublish_fits (within_trans (by decide) hb) ?_ _
    | with_reducible refine State.setGate_fits (within_trans (by decide) hb) ?_ _ _
    | with_reducible refine Fits.ite _ ?_ ?_
    | split
    | extract_lets
    | (dsimp +zetaDelta only)

theorem gateStart_fits {fp : Nat} {s00 s : State} (hb : within 25165954 fp = true) (h : Fits fp s00 s) (g : Nat) (t : Int) (word : Nat) :
    Fits fp s00 (gateStart s g t word) := by
  unfold gateStart
  repeat' first
    | with_reducible assumption
    | with_reducible refine gateStore_fits hb ?_ _ _
    | with_reducible refine Fits.ite _ ?_ ?_
    | split
    | extract_lets
    | (dsimp +zetaDelta only)

theorem gateOffer_fits {fp : Nat} {s00 s : State} (hb : within 25165954 fp = true) (h : Fits fp s00 s) (g : Nat) (x : Stamp) :
    Fits fp s00 (gateOffer s g x) := by
  unfold gateOffer
  repeat' first
    | with_reducible assumption
    | with_reducible refine gateStart_fits hb ?_ _ _ _
    | with_reducible refine gateStore_fits hb ?_ _ _
    | with_reducible refine State.setGate_fits (within_trans (by decide) hb) ?_ _ _
    | with_reducible refine Fits.ite _ ?_ ?_
    | split
    | extract_lets
    | (dsimp +zetaDelta only)

theorem gatesOffer_fits {fp : Nat} {s00 s : State} (hb : within 25165954 fp = true) (h : Fits fp s00 s) (x : Stamp) :
    Fits fp s00 (gatesOffer s x) := by
  unfold gatesOffer
  repeat' first
    | with_reducible assumption
    | with_reducible refine gateOffer_fits hb ?_ _ _
    | with_reducible refine Fits.many ?_ _ _ (fun _ _ _ => ?_)
    | with_reducible refine Fits.ite _ ?_ ?_
    | split
    | extract_lets
    | (dsimp +zetaDelta only)

theorem gateArm_fits {fp : Nat} {s00 s : State} (hb : within 25165954 fp = true) (h : Fits fp s00 s) (g : Nat) :
    Fits fp s00 (gateArm s g) := by
  unfold gateArm
  repeat' first
    | with_reducible assumption
    | with_reducible refine gateStart_fits hb ?_ _ _ _
    | with_reducible refine gatePublish_fits (within_trans (by decide) hb) ?_ _
    | with_reducible refine State.setGate_fits (within_trans (by decide) hb) ?_ _ _
    | with_reducible refine Fits.ite _ ?_ ?_
    | split
    | extract_lets
    | (dsimp +zetaDelta only)

theorem gatesBar_fits {fp : Nat} {s00 s : State} (hb : within 128 fp = true) (h : Fits fp s00 s) (n : Nat) :
    Fits fp s00 (gatesBar s n) := by
  unfold gatesBar
  repeat' first
    | with_reducible assumption
    | with_reducible refine State.setGate_fits hb ?_ _ _
    | with_reducible refine Fits.many ?_ _ _ (fun _ _ _ => ?_)
    | with_reducible refine Fits.ite _ ?_ ?_
    | split
    | extract_lets
    | (dsimp +zetaDelta only)

theorem gateAbort_fits {fp : Nat} {s00 s : State} (hb : within 25165954 fp = true) (h : Fits fp s00 s) (g : Nat) :
    Fits fp s00 (gateAbort s g) := by
  unfold gateAbort
  repeat' first
    | with_reducible assumption
    | with_reducible refine gateFinish_fits hb ?_ _ _
    | with_reducible refine Fits.ite _ ?_ ?_
    | split
    | extract_lets
    | (dsimp +zetaDelta only)

theorem gateDeadline_fits {fp : Nat} {s00 s : State} (hb : within 130 fp = true) (h : Fits fp s00 s) (g : Nat) :
    Fits fp s00 (gateDeadline s g) := by
  unfold gateDeadline
  repeat' first
    | with_reducible assumption
    | with_reducible refine gatePublish_fits (within_trans (by decide) hb) ?_ _
    | with_reducible refine State.setGate_fits (within_trans (by decide) hb) ?_ _ _
    | with_reducible refine Fits.ite _ ?_ ?_
    | split
    | extract_lets
    | (dsimp +zetaDelta only)

theorem gateScheduled_fits {fp : Nat} {s00 s : State} (hb : within 25165954 fp = true) (h : Fits fp s00 s) (g : Nat) :
    Fits fp s00 (gateScheduled s g) := by
  unfold gateScheduled
  repeat' first
    | with_reducible assumption
    | with_reducible refine gateStart_fits hb ?_ _ _ _
    | with_reducible refine State.hist_fits (within_trans (by decide) hb) ?_ _ _
    | with_reducible refine Fits.ite _ ?_ ?_
    | split
    | extract_lets
    | (dsimp +zetaDelta only)

theorem gateSettle_fits {fp : Nat} {s00 s : State} (hb : within 25165954 fp = true) (h : Fits fp s00 s) (g : Nat) :
    Fits fp s00 (gateSettle s g) := by
  unfold gateSettle
  repeat' first
    | with_reducible assumption
    | with_reducible refine gateFinish_fits hb ?_ _ _
    | with_reducible refine Fits.ite _ ?_ ?_
    | split
    | extract_lets
    | (dsimp +zetaDelta only)

theorem wmTaken_fits {fp : Nat} {s00 s : State} (hb : within 25165954 fp = true) (h : Fits fp s00 s) (c : Nat) (raw : Int) (lag : Nat) :
    Fits fp s00 (wmTaken s c raw lag) := by
  unfold wmTaken
  repeat' first
    | with_reducible assumption
    | with_reducible refine gateSettle_fits hb ?_ _
    | with_reducible refine Fits.many ?_ _ _ (fun _ _ _ => ?_)
    | with_reducible refine Fits.ite _ ?_ ?_
    | split
    | extract_lets
    | (dsimp +zetaDelta only)
    | with_reducible refine Fits.set_chan (within_trans (by decide) hb) ?_ _ (by with_unfolding_all exact fun h => h) (by with_unfolding_all exact fun _ h => h) (by simp only [length_upd, List.length_set, List.length_map, List.length_zipIdx, List.length_cons]) (by simp only [length_upd, List.length_set, List.length_map, List.length_zipIdx, List.length_cons])

theorem watermark_fits {fp : Nat} {s00 s : State} (hb : within 25166054 fp = true) (h : Fits fp s00 s) (c : Nat) (raw : Int) (lag : Nat) :
    Fits fp s00 (watermark s c raw lag) := by
  unfold watermark
  repeat' first
    | with_reducible assumption
    | with_reducible refine wmTaken_fits (within_trans (by decide) hb) ?_ _ _ _
    | with_reducible refine carried_fits (within_trans (by decide) hb) ?_ _ _ _ _ (fun _ _ => ?_)
    | with_reducible refine Fits.ite _ ?_ ?_
    | split
    | extract_lets
    | (dsimp +zetaDelta only)

theorem gatesLinkDown_fits {fp : Nat} {s00 s : State} (hb : within 25165954 fp = true) (h : Fits fp s00 s) (c : Nat) :
    Fits fp s00 (gatesLinkDown s c) := by
  unfold gatesLinkDown
  repeat' first
    | with_reducible assumption
    | with_reducible refine gateFinish_fits hb ?_ _ _
    | with_reducible refine Fits.many ?_ _ _ (fun _ _ _ => ?_)
    | with_reducible refine Fits.ite _ ?_ ?_
    | split
    | extract_lets
    | (dsimp +zetaDelta only)

theorem gatesTbChange_fits {fp : Nat} {s00 s : State} (hb : within 25165954 fp = true) (h : Fits fp s00 s)  :
    Fits fp s00 (gatesTbChange s) := by
  unfold gatesTbChange
  repeat' first
    | with_reducible assumption
    | with_reducible refine gateFinish_fits hb ?_ _ _
    | with_reducible refine Fits.many ?_ _ _ (fun _ _ _ => ?_)
    | with_reducible refine Fits.ite _ ?_ ?_
    | split
    | extract_lets
    | (dsimp +zetaDelta only)

theorem State.setBase_fits {fp : Nat} {s00 s : State} (hb : within 128 fp = true) (h : Fits fp s00 s) (f : TimeBase → TimeBase) :
    Fits fp s00 (State.setBase s f) := by
  unfold State.setBase
  repeat' first
    | with_reducible assumption
    | with_reducible refine Fits.ite _ ?_ ?_
    | split
    | extract_lets
    | (dsimp +zetaDelta only)
    | with_reducible refine Fits.set_chan (within_trans (by decide) hb) ?_ _ (by with_unfolding_all exact fun h => h) (by with_unfolding_all exact fun _ h => h) (by simp only [length_upd, List.length_set, List.length_map, List.length_zipIdx, List.length_cons]) (by simp only [length_upd, List.length_set, List.length_map, List.length_zipIdx, List.length_cons])

theorem tbEval_fits {fp : Nat} {s00 s : State} (hb : within 2 fp = true) (h : Fits fp s00 s)  :
    Fits fp s00 (tbEval s) := by
  unfold tbEval
  repeat' first
    | with_reducible assumption
    | with_reducible refine State.putI_fits hb ?_ _ _ _
    | with_reducible refine Fits.ite _ ?_ ?_
    | split
    | extract_lets
    | (dsimp +zetaDelta only)

theorem tbDateNow_fits {fp : Nat} {s00 s : State} (hb : within 2 fp = true) (h : Fits fp s00 s) (index : Nat) :
    Fits fp s00 (tbDateNow s index) := by
  unfold tbDateNow
  repeat' first
    | with_reducible assumption
    | with_reducible refine State.put_fits hb ?_ _ _
    | with_reducible refine Fits.ite _ ?_ ?_
    | split
    | extract_lets
    | (dsimp +zetaDelta only)

end Sys2Proof.Machine
end

