-- ==== Sys2Proof/Laws/FitsCupping.lean ====
section
/-! SUPPORT. What each operation of Machine/Cupping.lean may touch, and the invariants that it keeps. -/

set_option linter.unusedSimpArgs false
set_option linter.unusedVariables false

namespace Sys2Proof.Machine

theorem statsRestart_fits {fp : Nat} {s00 s : State} (hb : within 25166338 fp = true) (h : Fits fp s00 s) (n : Nat) :
    Fits fp s00 (statsRestart s n) := by
  unfold statsRestart
  repeat' first
    | with_reducible assumption
    | with_reducible refine cause_fits (within_trans (by decide) hb) ?_ _
    | with_reducible refine State.setCup_fits (within_trans (by decide) hb) ?_ _ _
    | with_reducible refine State.hist_fits (within_trans (by decide) hb) ?_ _ _
    | with_reducible refine Fits.ite _ ?_ ?_
    | split
    | extract_lets
    | (dsimp +zetaDelta only)

theorem cupEnter_fits {fp : Nat} {s00 s : State} (hb : within 25166370 fp = true) (h : Fits fp s00 s) (n : Nat) (st : Nat) (cause : Option Nat) :
    Fits fp s00 (cupEnter s n st cause) := by
  unfold cupEnter
  repeat' first
    | with_reducible assumption
    | with_reducible refine cause_fits (within_trans (by decide) hb) ?_ _
    | with_reducible refine State.setCup_fits (within_trans (by decide) hb) ?_ _ _
    | with_reducible refine State.raise_fits (within_trans (by decide) hb) ?_ _ _ _ _
    | with_reducible refine State.hist_fits (within_trans (by decide) hb) ?_ _ _
    | with_reducible refine Fits.ite _ ?_ ?_
    | split
    | extract_lets
    | (dsimp +zetaDelta only)

theorem cupRequalify_fits {fp : Nat} {s00 s : State} (hb : within 25166498 fp = true) (h : Fits fp s00 s) (n : Nat) (cause : Option Nat) :
    Fits fp s00 (cupRequalify s n cause) := by
  unfold cupRequalify
  repeat' first
    | with_reducible assumption
    | with_reducible refine cause_fits (within_trans (by decide) hb) ?_ _
    | with_reducible refine cupEnter_fits (within_trans (by decide) hb) ?_ _ _ _
    | with_reducible refine statsRestart_fits (within_trans (by decide) hb) ?_ _
    | with_reducible refine decimRestart_fits (within_trans (by decide) hb) ?_ _
    | with_reducible refine Fits.ite _ ?_ ?_
    | split
    | extract_lets
    | (dsimp +zetaDelta only)

theorem cupJudge_fits {fp : Nat} {s00 s : State} (hb : within 512 fp = true) (h : Fits fp s00 s) (n : Nat) :
    Fits fp s00 (cupJudge s n) := by
  unfold cupJudge
  repeat' first
    | with_reducible assumption
    | with_reducible refine State.setCup_fits hb ?_ _ _
    | with_reducible refine Fits.ite _ ?_ ?_
    | split
    | extract_lets
    | (dsimp +zetaDelta only)

theorem cupPublish_fits {fp : Nat} {s00 s : State} (hb : within 2 fp = true) (h : Fits fp s00 s) (n : Nat) :
    Fits fp s00 (cupPublish s n) := by
  unfold cupPublish
  repeat' first
    | with_reducible assumption
    | with_reducible refine State.put_fits hb ?_ _ _
    | with_reducible refine Fits.many ?_ _ _ (fun _ _ _ => ?_)
    | with_reducible refine Fits.ite _ ?_ ?_
    | split
    | extract_lets
    | (dsimp +zetaDelta only)

theorem cupObey_fits {fp : Nat} {s00 s : State} (hb : within 25166498 fp = true) (h : Fits fp s00 s) (n : Nat) (v : Nat) :
    Fits fp s00 (cupObey s n v) := by
  unfold cupObey
  repeat' first
    | with_reducible assumption
    | with_reducible refine cupRequalify_fits hb ?_ _ _
    | with_reducible refine cupEnter_fits (within_trans (by decide) hb) ?_ _ _ _
    | with_reducible refine statsRestart_fits (within_trans (by decide) hb) ?_ _
    | with_reducible refine Fits.ite _ ?_ ?_
    | split
    | extract_lets
    | (dsimp +zetaDelta only)

theorem cupByScore_fits {fp : Nat} {s00 s : State} (hb : within 25166370 fp = true) (h : Fits fp s00 s) (n : Nat) :
    Fits fp s00 (cupByScore s n) := by
  unfold cupByScore
  repeat' first
    | with_reducible assumption
    | with_reducible refine cupEnter_fits hb ?_ _ _ _
    | with_reducible refine Fits.ite _ ?_ ?_
    | split
    | extract_lets
    | (dsimp +zetaDelta only)

theorem cupTransition_fits {fp : Nat} {s00 s : State} (hb : within 25166498 fp = true) (h : Fits fp s00 s) (n : Nat) :
    Fits fp s00 (cupTransition s n) := by
  unfold cupTransition
  repeat' first
    | with_reducible assumption
    | with_reducible refine cupByScore_fits (within_trans (by decide) hb) ?_ _
    | with_reducible refine cupObey_fits hb ?_ _ _
    | with_reducible refine cupRequalify_fits hb ?_ _ _
    | with_reducible refine cupEnter_fits (within_trans (by decide) hb) ?_ _ _ _
    | with_reducible refine State.setCup_fits (within_trans (by decide) hb) ?_ _ _
    | with_reducible refine State.setChan_fits (within_trans (by decide) hb) ?_ _ _ (by with_unfolding_all exact fun _ h => h) (by with_unfolding_all exact fun _ => ⟨rfl, rfl, rfl⟩)
    | with_reducible refine Fits.ite _ ?_ ?_
    | split
    | extract_lets
    | (dsimp +zetaDelta only)

theorem cupEvaluate_fits {fp : Nat} {s00 s : State} (hb : within 25166498 fp = true) (h : Fits fp s00 s) (n : Nat) :
    Fits fp s00 (cupEvaluate s n) := by
  unfold cupEvaluate
  repeat' first
    | with_reducible assumption
    | with_reducible refine cupTransition_fits hb ?_ _
    | with_reducible refine cupPublish_fits (within_trans (by decide) hb) ?_ _
    | with_reducible refine cupJudge_fits (within_trans (by decide) hb) ?_ _
    | with_reducible refine State.setCup_fits (within_trans (by decide) hb) ?_ _ _
    | with_reducible refine Fits.when ?_ _ _ (fun _ _ => ?_)
    | with_reducible refine Fits.ite _ ?_ ?_
    | split
    | extract_lets
    | (dsimp +zetaDelta only)

theorem cupFollow_fits {fp : Nat} {s00 s : State} (hb : within 25166498 fp = true) (h : Fits fp s00 s) (n : Nat) :
    Fits fp s00 (cupFollow s n) := by
  unfold cupFollow
  repeat' first
    | with_reducible assumption
    | with_reducible refine cupEvaluate_fits hb ?_ _
    | with_reducible refine Fits.ite _ ?_ ?_
    | split
    | extract_lets
    | (dsimp +zetaDelta only)

theorem cupTick_fits {fp : Nat} {s00 s : State} (hb : within 25166498 fp = true) (h : Fits fp s00 s) (n : Nat) :
    Fits fp s00 (cupTick s n) := by
  unfold cupTick
  repeat' first
    | with_reducible assumption
    | with_reducible refine cupEvaluate_fits hb ?_ _
    | with_reducible refine State.setCup_fits (within_trans (by decide) hb) ?_ _ _
    | with_reducible refine Fits.ite _ ?_ ?_
    | split
    | extract_lets
    | (dsimp +zetaDelta only)

theorem cupQualifyExpiry_fits {fp : Nat} {s00 s : State} (hb : within 25166370 fp = true) (h : Fits fp s00 s) (n : Nat) :
    Fits fp s00 (cupQualifyExpiry s n) := by
  unfold cupQualifyExpiry
  repeat' first
    | with_reducible assumption
    | with_reducible refine cupPublish_fits (within_trans (by decide) hb) ?_ _
    | with_reducible refine cupEnter_fits hb ?_ _ _ _
    | with_reducible refine Fits.ite _ ?_ ?_
    | split
    | extract_lets
    | (dsimp +zetaDelta only)

theorem cupClearExpiry_fits {fp : Nat} {s00 s : State} (hb : within 25166498 fp = true) (h : Fits fp s00 s) (n : Nat) :
    Fits fp s00 (cupClearExpiry s n) := by
  unfold cupClearExpiry
  repeat' first
    | with_reducible assumption
    | with_reducible refine cupPublish_fits (within_trans (by decide) hb) ?_ _
    | with_reducible refine cupJudge_fits (within_trans (by decide) hb) ?_ _
    | with_reducible refine cupRequalify_fits hb ?_ _ _
    | with_reducible refine Fits.ite _ ?_ ?_
    | split
    | extract_lets
    | (dsimp +zetaDelta only)

theorem cupCommand_fits {fp : Nat} {s00 s : State} (hb : within 25166498 fp = true) (h : Fits fp s00 s) (n : Nat) (v : Nat) :
    Fits fp s00 (cupCommand s n v) := by
  unfold cupCommand
  repeat' first
    | with_reducible assumption
    | with_reducible refine cupEvaluate_fits hb ?_ _
    | with_reducible refine State.setCup_fits (within_trans (by decide) hb) ?_ _ _
    | with_reducible refine Fits.ite _ ?_ ?_
    | split
    | extract_lets
    | (dsimp +zetaDelta only)

theorem losDeclared_fits {fp : Nat} {s00 s : State} (hb : within 25166498 fp = true) (h : Fits fp s00 s) (n : Nat) :
    Fits fp s00 (losDeclared s n) := by
  unfold losDeclared
  repeat' first
    | with_reducible assumption
    | with_reducible refine cupEvaluate_fits hb ?_ _
    | with_reducible refine State.setCup_fits (within_trans (by decide) hb) ?_ _ _
    | with_reducible refine State.setChan_fits (within_trans (by decide) hb) ?_ _ _ (by with_unfolding_all exact fun _ h => h) (by with_unfolding_all exact fun _ => ⟨rfl, rfl, rfl⟩)
    | with_reducible refine State.raise_fits (within_trans (by decide) hb) ?_ _ _ _ _
    | with_reducible refine State.hist_fits (within_trans (by decide) hb) ?_ _ _
    | with_reducible refine Fits.ite _ ?_ ?_
    | split
    | extract_lets
    | (dsimp +zetaDelta only)

theorem losCleared_fits {fp : Nat} {s00 s : State} (hb : within 130 fp = true) (h : Fits fp s00 s) (n : Nat) :
    Fits fp s00 (losCleared s n) := by
  unfold losCleared
  repeat' first
    | with_reducible assumption
    | with_reducible refine State.setChan_fits (within_trans (by decide) hb) ?_ _ _ (by with_unfolding_all exact fun _ h => h) (by with_unfolding_all exact fun _ => ⟨rfl, rfl, rfl⟩)
    | with_reducible refine State.hist_fits (within_trans (by decide) hb) ?_ _ _
    | with_reducible refine Fits.ite _ ?_ ?_
    | split
    | extract_lets
    | (dsimp +zetaDelta only)

theorem sampleMissing_fits {fp : Nat} {s00 s : State} (hb : within 514 fp = true) (h : Fits fp s00 s) (n : Nat) :
    Fits fp s00 (sampleMissing s n) := by
  unfold sampleMissing
  repeat' first
    | with_reducible assumption
    | with_reducible refine State.setCup_fits (within_trans (by decide) hb) ?_ _ _
    | with_reducible refine State.hist_fits (within_trans (by decide) hb) ?_ _ _
    | with_reducible refine Fits.ite _ ?_ ?_
    | split
    | extract_lets
    | (dsimp +zetaDelta only)

theorem cupTake_fits {fp : Nat} {s00 s : State} (hb : within 512 fp = true) (h : Fits fp s00 s) (x : Stamp) :
    Fits fp s00 (cupTake s x) := by
  unfold cupTake
  repeat' first
    | with_reducible assumption
    | with_reducible refine State.setCup_fits hb ?_ _ _
    | with_reducible refine Fits.ite _ ?_ ?_
    | split
    | extract_lets
    | (dsimp +zetaDelta only)

theorem freqWindowEnd_fits {fp : Nat} {s00 s : State} (hb : within 25166498 fp = true) (h : Fits fp s00 s) (n : Nat) :
    Fits fp s00 (freqWindowEnd s n) := by
  unfold freqWindowEnd
  repeat' first
    | with_reducible assumption
    | with_reducible refine cupEvaluate_fits hb ?_ _
    | with_reducible refine State.setCup_fits (within_trans (by decide) hb) ?_ _ _
    | with_reducible refine State.hist_fits (within_trans (by decide) hb) ?_ _ _
    | with_reducible refine Fits.when ?_ _ _ (fun _ _ => ?_)
    | with_reducible refine Fits.ite _ ?_ ?_
    | split
    | extract_lets
    | (dsimp +zetaDelta only)

theorem driftBinEnd_fits {fp : Nat} {s00 s : State} (hb : within 25166498 fp = true) (h : Fits fp s00 s) (n : Nat) :
    Fits fp s00 (driftBinEnd s n) := by
  unfold driftBinEnd
  repeat' first
    | with_reducible assumption
    | with_reducible refine cupEvaluate_fits hb ?_ _
    | with_reducible refine State.setCup_fits (within_trans (by decide) hb) ?_ _ _
    | with_reducible refine Fits.ite _ ?_ ?_
    | split
    | extract_lets
    | (dsimp +zetaDelta only)

theorem mtieStepEnd_fits {fp : Nat} {s00 s : State} (hb : within 25166498 fp = true) (h : Fits fp s00 s) (n : Nat) (i : Nat) :
    Fits fp s00 (mtieStepEnd s n i) := by
  unfold mtieStepEnd
  repeat' first
    | with_reducible assumption
    | with_reducible refine cupEvaluate_fits hb ?_ _
    | with_reducible refine State.setCup_fits (within_trans (by decide) hb) ?_ _ _
    | with_reducible refine Fits.ite _ ?_ ?_
    | split
    | extract_lets
    | (dsimp +zetaDelta only)

theorem tdevBlockEnd_fits {fp : Nat} {s00 s : State} (hb : within 25166498 fp = true) (h : Fits fp s00 s) (n : Nat) (i : Nat) :
    Fits fp s00 (tdevBlockEnd s n i) := by
  unfold tdevBlockEnd
  repeat' first
    | with_reducible assumption
    | with_reducible refine cupEvaluate_fits hb ?_ _
    | with_reducible refine State.setCup_fits (within_trans (by decide) hb) ?_ _ _
    | with_reducible refine Fits.foldl_snd _ (fun _ _ _ => ?_) _ ?_
    | with_reducible refine Fits.foldl _ (fun _ _ _ => ?_) _ ?_
    | with_reducible refine Fits.ite _ ?_ ?_
    | split
    | extract_lets
    | (dsimp +zetaDelta only)

theorem freqRestart_fits {fp : Nat} {s00 s : State} (hb : within 512 fp = true) (h : Fits fp s00 s) (n : Nat) :
    Fits fp s00 (freqRestart s n) := by
  unfold freqRestart
  repeat' first
    | with_reducible assumption
    | with_reducible refine State.setCup_fits hb ?_ _ _
    | with_reducible refine Fits.ite _ ?_ ?_
    | split
    | extract_lets
    | (dsimp +zetaDelta only)

theorem driftRestart_fits {fp : Nat} {s00 s : State} (hb : within 512 fp = true) (h : Fits fp s00 s) (n : Nat) :
    Fits fp s00 (driftRestart s n) := by
  unfold driftRestart
  repeat' first
    | with_reducible assumption
    | with_reducible refine State.setCup_fits hb ?_ _ _
    | with_reducible refine Fits.ite _ ?_ ?_
    | split
    | extract_lets
    | (dsimp +zetaDelta only)

theorem cupsTbChange_fits {fp : Nat} {s00 s : State} (hb : within 25166498 fp = true) (h : Fits fp s00 s)  :
    Fits fp s00 (cupsTbChange s) := by
  unfold cupsTbChange
  repeat' first
    | with_reducible assumption
    | with_reducible refine cupEvaluate_fits hb ?_ _
    | with_reducible refine statsRestart_fits (within_trans (by decide) hb) ?_ _
    | with_reducible refine State.setCup_fits (within_trans (by decide) hb) ?_ _ _
    | with_reducible refine Fits.many ?_ _ _ (fun _ _ _ => ?_)
    | with_reducible refine Fits.ite _ ?_ ?_
    | split
    | extract_lets
    | (dsimp +zetaDelta only)

theorem cupsLinkDown_fits {fp : Nat} {s00 s : State} (hb : within 25166498 fp = true) (h : Fits fp s00 s) (c : Nat) :
    Fits fp s00 (cupsLinkDown s c) := by
  unfold cupsLinkDown
  repeat' first
    | with_reducible assumption
    | with_reducible refine cupEvaluate_fits hb ?_ _
    | with_reducible refine State.setCup_fits (within_trans (by decide) hb) ?_ _ _
    | with_reducible refine Fits.many ?_ _ _ (fun _ _ _ => ?_)
    | with_reducible refine Fits.ite _ ?_ ?_
    | split
    | extract_lets
    | (dsimp +zetaDelta only)

theorem cupsLinkBack_fits {fp : Nat} {s00 s : State} (hb : within 25166498 fp = true) (h : Fits fp s00 s) (c : Nat) :
    Fits fp s00 (cupsLinkBack s c) := by
  unfold cupsLinkBack
  repeat' first
    | with_reducible assumption
    | with_reducible refine cupEvaluate_fits hb ?_ _
    | with_reducible refine Fits.many ?_ _ _ (fun _ _ _ => ?_)
    | with_reducible refine Fits.ite _ ?_ ?_
    | split
    | extract_lets
    | (dsimp +zetaDelta only)

end Sys2Proof.Machine
end

