-- ==== Sys2Proof/Laws/FitsEngines.lean ====
section
/-! SUPPORT. What each operation of Machine/Engines.lean may touch, and the invariants that it keeps. -/

set_option linter.unusedSimpArgs false
set_option linter.unusedVariables false

namespace Sys2Proof.Machine

theorem State.setReq_fits {fp : Nat} {s00 s : State} (hb : within 65536 fp = true) (h : Fits fp s00 s) (q : Nat) (f : Requester → Requester) :
    Fits fp s00 (State.setReq s q f) := by
  unfold State.setReq
  repeat' first
    | with_reducible assumption
    | with_reducible refine State.setEng_fits hb ?_ _ (fun _ => by simp only [length_upd, List.length_set, List.length_map])
    | with_reducible refine Fits.ite _ ?_ ?_
    | split
    | extract_lets
    | (dsimp +zetaDelta only)

theorem loseCycle_fits {fp : Nat} {s00 s : State} (hb : within 65536 fp = true) (h : Fits fp s00 s) (l : List Nat) (q : Nat) :
    Fits fp s00 (loseCycle s l q) := by
  unfold loseCycle
  repeat' first
    | with_reducible assumption
    | with_reducible refine State.setReq_fits hb ?_ _ _
    | with_reducible refine Fits.ite _ ?_ ?_
    | split
    | extract_lets
    | (dsimp +zetaDelta only)

theorem winCycle_fits {fp : Nat} {s00 s : State} (hb : within 65536 fp = true) (h : Fits fp s00 s) (q : Nat) :
    Fits fp s00 (winCycle s q) := by
  unfold winCycle
  repeat' first
    | with_reducible assumption
    | with_reducible refine State.setReq_fits hb ?_ _ _
    | with_reducible refine State.setEng_fits hb ?_ _ (fun _ => by simp only [length_upd, List.length_set, List.length_map])
    | with_reducible refine Fits.ite _ ?_ ?_
    | split
    | extract_lets
    | (dsimp +zetaDelta only)

theorem storeAccess_fits {fp : Nat} {s00 s : State} (hb : within 65538 fp = true) (h : Fits fp s00 s) (r : StoreReq) :
    Fits fp s00 (storeAccess s r) := by
  unfold storeAccess
  repeat' first
    | with_reducible assumption
    | with_reducible refine State.putCtxRec_fits (within_trans (by decide) hb) ?_ _ _ _ _
    | with_reducible refine State.setEng_fits (within_trans (by decide) hb) ?_ _ (fun _ => by simp only [length_upd, List.length_set, List.length_map])
    | with_reducible refine Fits.ite _ ?_ ?_
    | split
    | extract_lets
    | (dsimp +zetaDelta only)

theorem storeCycle_fits {fp : Nat} {s00 s : State} (hb : within 65538 fp = true) (h : Fits fp s00 s) (l : List StoreReq) :
    Fits fp s00 (storeCycle s l) := by
  unfold storeCycle
  extract_lets qs
  split
  · exact h
  · extract_lets s1
    have h1 : Fits fp s00 s1 := by
      refine Fits.many h _ _ (fun q y hy => ?_)
      exact hy.set_eng (within_trans (by decide) hb) _ (by simp only [loseCycle, State.setEng, State.setReq, length_upd])
    clear_value s1
    split
    · exact storeAccess_fits (within_trans (by decide) hb) (winCycle_fits (within_trans (by decide) hb) h1 _) _
    · exact winCycle_fits (within_trans (by decide) hb) h1 _

theorem requesterAged_fits {fp : Nat} {s00 s : State} (hb : within 65536 fp = true) (h : Fits fp s00 s) (q : Nat) :
    Fits fp s00 (requesterAged s q) := by
  unfold requesterAged
  repeat' first
    | with_reducible assumption
    | with_reducible refine State.setReq_fits hb ?_ _ _
    | with_reducible refine Fits.ite _ ?_ ?_
    | split
    | extract_lets
    | (dsimp +zetaDelta only)

theorem classPut_fits {fp : Nat} {s00 s : State} (hb : within 34 fp = true) (h : Fits fp s00 s) (q : Nat) (v : Nat) :
    Fits fp s00 (classPut s q v) := by
  unfold classPut
  repeat' first
    | with_reducible assumption
    | with_reducible refine State.raise_fits (within_trans (by decide) hb) ?_ _ _ _ _
    | with_reducible refine State.hist_fits (within_trans (by decide) hb) ?_ _ _
    | with_reducible refine State.put_fits (within_trans (by decide) hb) ?_ _ _
    | with_reducible refine Fits.ite _ ?_ ?_
    | split
    | extract_lets
    | (dsimp +zetaDelta only)

theorem arbSnapshot_fits {fp : Nat} {s00 s : State} (hb : within 2 fp = true) (h : Fits fp s00 s)  :
    Fits fp s00 (arbSnapshot s) := by
  unfold arbSnapshot
  repeat' first
    | with_reducible assumption
    | with_reducible refine State.hist_fits hb ?_ _ _
    | with_reducible refine State.inc_fits hb ?_ _ _ _
    | with_reducible refine State.put_fits hb ?_ _ _
    | with_reducible refine Fits.many ?_ _ _ (fun _ _ _ => ?_)
    | with_reducible refine Fits.ite _ ?_ ?_
    | split
    | extract_lets
    | (dsimp +zetaDelta only)

theorem arbClear_fits {fp : Nat} {s00 s : State} (hb : within 65538 fp = true) (h : Fits fp s00 s)  :
    Fits fp s00 (arbClear s) := by
  unfold arbClear
  repeat' first
    | with_reducible assumption
    | with_reducible refine State.setEng_fits (within_trans (by decide) hb) ?_ _ (fun _ => by simp only [length_upd, List.length_set, List.length_map])
    | with_reducible refine State.put_fits (within_trans (by decide) hb) ?_ _ _
    | with_reducible refine Fits.many ?_ _ _ (fun _ _ _ => ?_)
    | with_reducible refine Fits.ite _ ?_ ?_
    | split
    | extract_lets
    | (dsimp +zetaDelta only)

theorem startOp_fits {fp : Nat} {s00 s : State} (hb : within 65536 fp = true) (h : Fits fp s00 s) (q : Nat) :
    Fits fp s00 (startOp s q) := by
  unfold startOp
  repeat' first
    | with_reducible assumption
    | with_reducible refine State.setReq_fits hb ?_ _ _
    | with_reducible refine State.setEng_fits hb ?_ _ (fun _ => by simp only [length_upd, List.length_set, List.length_map])
    | with_reducible refine Fits.ite _ ?_ ?_
    | split
    | extract_lets
    | (dsimp +zetaDelta only)

theorem lockRequest_fits {fp : Nat} {s00 s : State} (hb : within 65570 fp = true) (h : Fits fp s00 s) (q : Nat) (id : Nat) :
    Fits fp s00 (lockRequest s q id) := by
  unfold lockRequest
  repeat' first
    | with_reducible assumption
    | with_reducible refine startOp_fits (within_trans (by decide) hb) ?_ _
    | with_reducible refine State.setReq_fits (within_trans (by decide) hb) ?_ _ _
    | with_reducible refine State.raise_fits (within_trans (by decide) hb) ?_ _ _ _ _
    | with_reducible refine State.setEng_fits (within_trans (by decide) hb) ?_ _ (fun _ => by simp only [length_upd, List.length_set, List.length_map])
    | with_reducible refine State.hist_fits (within_trans (by decide) hb) ?_ _ _
    | with_reducible refine State.inc_fits (within_trans (by decide) hb) ?_ _ _ _
    | with_reducible refine Fits.ite _ ?_ ?_
    | split
    | extract_lets
    | (dsimp +zetaDelta only)

theorem dropLocks_fits {fp : Nat} {s00 s : State} (hb : within 65538 fp = true) (h : Fits fp s00 s) (q : Nat) :
    Fits fp s00 (dropLocks s q) := by
  unfold dropLocks
  repeat' first
    | with_reducible assumption
    | with_reducible refine State.setReq_fits (within_trans (by decide) hb) ?_ _ _
    | with_reducible refine State.setEng_fits (within_trans (by decide) hb) ?_ _ (fun _ => by simp only [length_upd, List.length_set, List.length_map])
    | with_reducible refine State.put_fits (within_trans (by decide) hb) ?_ _ _
    | with_reducible refine Fits.ite _ ?_ ?_
    | split
    | extract_lets
    | (dsimp +zetaDelta only)

theorem abortOp_fits {fp : Nat} {s00 s : State} (hb : within 65538 fp = true) (h : Fits fp s00 s) (q : Nat) :
    Fits fp s00 (abortOp s q) := by
  unfold abortOp
  repeat' first
    | with_reducible assumption
    | with_reducible refine dropLocks_fits hb ?_ _
    | with_reducible refine State.setEng_fits (within_trans (by decide) hb) ?_ _ (fun _ => by simp only [length_upd, List.length_set, List.length_map])
    | with_reducible refine Fits.ite _ ?_ ?_
    | split
    | extract_lets
    | (dsimp +zetaDelta only)

theorem writeBack_fits {fp : Nat} {s00 s : State} (hb : within 65538 fp = true) (h : Fits fp s00 s) (q : Nat) :
    Fits fp s00 (writeBack s q) := by
  unfold writeBack
  repeat' first
    | with_reducible assumption
    | with_reducible refine State.setReq_fits (within_trans (by decide) hb) ?_ _ _
    | with_reducible refine State.putCtxRec_fits (within_trans (by decide) hb) ?_ _ _ _ _
    | with_reducible refine Fits.many ?_ _ _ (fun _ _ _ => ?_)
    | with_reducible refine Fits.ite _ ?_ ?_
    | split
    | extract_lets
    | (dsimp +zetaDelta only)

theorem holdLimit_fits {fp : Nat} {s00 s : State} (hb : within 65570 fp = true) (h : Fits fp s00 s)  :
    Fits fp s00 (holdLimit s) := by
  unfold holdLimit
  repeat' first
    | with_reducible assumption
    | with_reducible refine abortOp_fits (within_trans (by decide) hb) ?_ _
    | with_reducible refine State.raise_fits (within_trans (by decide) hb) ?_ _ _ _ _
    | with_reducible refine State.hist_fits (within_trans (by decide) hb) ?_ _ _
    | with_reducible refine State.inc_fits (within_trans (by decide) hb) ?_ _ _ _
    | with_reducible refine Fits.ite _ ?_ ?_
    | split
    | extract_lets
    | (dsimp +zetaDelta only)

theorem engineCounts_fits {fp : Nat} {s00 s : State} (hb : within 2 fp = true) (h : Fits fp s00 s)  :
    Fits fp s00 (engineCounts s) := by
  unfold engineCounts
  repeat' first
    | with_reducible assumption
    | with_reducible refine State.put_fits hb ?_ _ _
    | with_reducible refine Fits.many ?_ _ _ (fun _ _ _ => ?_)
    | with_reducible refine Fits.ite _ ?_ ?_
    | split
    | extract_lets
    | (dsimp +zetaDelta only)

theorem assignEngine_fits {fp : Nat} {s00 s : State} (hb : within 2050 fp = true) (h : Fits fp s00 s) (c : Nat) :
    Fits fp s00 (assignEngine s c) := by
  unfold assignEngine
  repeat' first
    | with_reducible assumption
    | with_reducible refine engineCounts_fits (within_trans (by decide) hb) ?_
    | with_reducible refine State.setCtx_fits (within_trans (by decide) hb) ?_ _ _
    | with_reducible refine Fits.ite _ ?_ ?_
    | split
    | extract_lets
    | (dsimp +zetaDelta only)

theorem unassignEngine_fits {fp : Nat} {s00 s : State} (hb : within 2050 fp = true) (h : Fits fp s00 s) (c : Nat) :
    Fits fp s00 (unassignEngine s c) := by
  unfold unassignEngine
  repeat' first
    | with_reducible assumption
    | with_reducible refine engineCounts_fits (within_trans (by decide) hb) ?_
    | with_reducible refine State.setCtx_fits (within_trans (by decide) hb) ?_ _ _
    | with_reducible refine Fits.ite _ ?_ ?_
    | split
    | extract_lets
    | (dsimp +zetaDelta only)

theorem engineOverload_fits {fp : Nat} {s00 s : State} (hb : within 65570 fp = true) (h : Fits fp s00 s) (e : Nat) (load : Nat) :
    Fits fp s00 (engineOverload s e load) := by
  unfold engineOverload
  repeat' first
    | with_reducible assumption
    | with_reducible refine State.raise_fits (within_trans (by decide) hb) ?_ _ _ _ _
    | with_reducible refine State.setEng_fits (within_trans (by decide) hb) ?_ _ (fun _ => by simp only [length_upd, List.length_set, List.length_map])
    | with_reducible refine State.hist_fits (within_trans (by decide) hb) ?_ _ _
    | with_reducible refine State.put_fits (within_trans (by decide) hb) ?_ _ _
    | with_reducible refine Fits.ite _ ?_ ?_
    | split
    | extract_lets
    | (dsimp +zetaDelta only)

theorem engineOff_fits {fp : Nat} {s00 s : State} (hb : within 32768 fp = true) (h : Fits fp s00 s) (e : Nat) :
    Fits fp s00 (engineOff s e) := by
  unfold engineOff
  repeat' first
    | with_reducible assumption
    | with_reducible refine Fits.ite _ ?_ ?_
    | split
    | extract_lets
    | (dsimp +zetaDelta only)
    | with_reducible refine Fits.set_engDown (within_trans (by decide) hb) ?_ _

theorem fitDrop_fits {fp : Nat} {s00 s : State} (hb : within 1024 fp = true) (h : Fits fp s00 s)  :
    Fits fp s00 (fitDrop s) := by
  unfold fitDrop
  repeat' first
    | with_reducible assumption
    | with_reducible refine State.setDp_fits hb ?_ _ (fun _ => ⟨by first | rfl | simp only [length_upd, List.length_set, List.length_map], by first | rfl | simp only [length_upd, List.length_set, List.length_map]⟩)
    | with_reducible refine Fits.ite _ ?_ ?_
    | split
    | extract_lets
    | (dsimp +zetaDelta only)

theorem engineRestart_fits {fp : Nat} {s00 s : State} (hb : within 16876546 fp = true) (h : Fits fp s00 s) (e : Nat) :
    Fits fp s00 (engineRestart s e) := by
  unfold engineRestart
  repeat' first
    | with_reducible assumption
    | with_reducible refine fitDrop_fits (within_trans (by decide) hb) ?_
    | with_reducible refine engineOff_fits (within_trans (by decide) hb) ?_ _
    | with_reducible refine abortOp_fits (within_trans (by decide) hb) ?_ _
    | with_reducible refine progEnd_fits (within_trans (by decide) hb) ?_ _ _ _
    | with_reducible refine State.resetDue_fits (within_trans (by decide) hb) ?_ _
    | with_reducible refine State.setEng_fits (within_trans (by decide) hb) ?_ _ (fun _ => by simp only [length_upd, List.length_set, List.length_map])
    | with_reducible refine State.hist_fits (within_trans (by decide) hb) ?_ _ _
    | with_reducible refine State.incSat_fits (within_trans (by decide) hb) ?_ _ _ _
    | with_reducible refine State.put_fits (within_trans (by decide) hb) ?_ _ _
    | with_reducible refine Fits.when ?_ _ _ (fun _ _ => ?_)
    | with_reducible refine Fits.ite _ ?_ ?_
    | split
    | extract_lets
    | (dsimp +zetaDelta only)

theorem engineWatchdog_fits {fp : Nat} {s00 s : State} (hb : within 16876578 fp = true) (h : Fits fp s00 s) (e : Nat) :
    Fits fp s00 (engineWatchdog s e) := by
  unfold engineWatchdog
  repeat' first
    | with_reducible assumption
    | with_reducible refine engineRestart_fits (within_trans (by decide) hb) ?_ _
    | with_reducible refine State.raise_fits (within_trans (by decide) hb) ?_ _ _ _ _
    | with_reducible refine Fits.ite _ ?_ ?_
    | split
    | extract_lets
    | (dsimp +zetaDelta only)

theorem engineResume_fits {fp : Nat} {s00 s : State} (hb : within 34306 fp = true) (h : Fits fp s00 s) (e : Nat) :
    Fits fp s00 (engineResume s e) := by
  unfold engineResume
  repeat' first
    | with_reducible assumption
    | with_reducible refine fitStartNext_fits (within_trans (by decide) hb) ?_
    | with_reducible refine State.setCup_fits (within_trans (by decide) hb) ?_ _ _
    | with_reducible refine State.put_fits (within_trans (by decide) hb) ?_ _ _
    | with_reducible refine Fits.many ?_ _ _ (fun _ _ _ => ?_)
    | with_reducible refine Fits.ite _ ?_ ?_
    | split
    | extract_lets
    | (dsimp +zetaDelta only)
    | with_reducible refine Fits.set_engDown (within_trans (by decide) hb) ?_ _

end Sys2Proof.Machine
end

