-- ==== Sys2Proof/Laws/FitsPtpFrames.lean ====
section
/-! SUPPORT. What each operation of Machine/PtpFrames.lean may touch, and the invariants that it keeps. -/

set_option linter.unusedSimpArgs false
set_option linter.unusedVariables false

namespace Sys2Proof.Machine

theorem cxCount_fits {fp : Nat} {s00 s : State} (hb : within 2 fp = true) (h : Fits fp s00 s) (c : Nat) (i : Nat) :
    Fits fp s00 (cxCount s c i) := by
  unfold cxCount
  repeat' first
    | with_reducible assumption
    | with_reducible refine State.putCtxRec_fits hb ?_ _ _ _ _
    | with_reducible refine Fits.ite _ ?_ ?_
    | split
    | extract_lets
    | (dsimp +zetaDelta only)

theorem vportSend_fits {fp : Nat} {s00 s : State} (hb : within 4096 fp = true) (h : Fits fp s00 s) (c : Nat) (event : Bool) (f : List Nat) :
    Fits fp s00 (vportSend s c event f) := by
  unfold vportSend
  repeat' first
    | with_reducible assumption
    | with_reducible refine Fits.ite _ ?_ ?_
    | split
    | extract_lets
    | (dsimp +zetaDelta only)
    | with_reducible refine Fits.set_ptp (within_trans (by decide) hb) ?_ _

theorem ptpSendTo_fits {fp : Nat} {s00 s : State} (hb : within 4122 fp = true) (h : Fits fp s00 s) (c : Nat) (type_ : Nat) (seq : Nat) (corr : Int) (twoStep : Bool) (body : List Nat) (peer : Option Nat) :
    Fits fp s00 (ptpSendTo s c type_ seq corr twoStep body peer) := by
  unfold ptpSendTo
  repeat' first
    | with_reducible assumption
    | with_reducible refine vportSend_fits (within_trans (by decide) hb) ?_ _ _ _
    | with_reducible refine cxCount_fits (within_trans (by decide) hb) ?_ _ _
    | with_reducible refine State.freeNext_fits (within_trans (by decide) hb) ?_
    | with_reducible refine State.send_fits (within_trans (by decide) hb) ?_ _
    | with_reducible refine State.hist_fits (within_trans (by decide) hb) ?_ _ _
    | with_reducible refine State.inc_fits (within_trans (by decide) hb) ?_ _ _ _
    | with_reducible refine Fits.ite _ ?_ ?_
    | split
    | extract_lets
    | (dsimp +zetaDelta only)

theorem ptpSend_fits {fp : Nat} {s00 s : State} (hb : within 4122 fp = true) (h : Fits fp s00 s) (c : Nat) (type_ : Nat) (seq : Nat) (corr : Int) (twoStep : Bool) (body : List Nat) :
    Fits fp s00 (ptpSend s c type_ seq corr twoStep body) := by
  unfold ptpSend
  repeat' first
    | with_reducible assumption
    | with_reducible refine ptpSendTo_fits hb ?_ _ _ _ _ _ _ _
    | with_reducible refine Fits.ite _ ?_ ?_
    | split
    | extract_lets
    | (dsimp +zetaDelta only)

theorem awaitStamp_fits {fp : Nat} {s00 s : State} (hb : within 2048 fp = true) (h : Fits fp s00 s) (s0 : State) (c : Nat) (type_ : Nat) (seq : Nat) (peer : Nat) (corr : Int) :
    Fits fp s00 (awaitStamp s s0 c type_ seq peer corr) := by
  unfold awaitStamp
  repeat' first
    | with_reducible assumption
    | with_reducible refine State.setCtx_fits hb ?_ _ _
    | with_reducible refine Fits.ite _ ?_ ?_
    | split
    | extract_lets
    | (dsimp +zetaDelta only)

end Sys2Proof.Machine
end

