-- ==== Sys2Proof/Laws/FitsPtp.lean ====
section
/-! SUPPORT. What each operation of Machine/Ptp.lean may touch, and the invariants that it keeps. -/

set_option linter.unusedSimpArgs false
set_option linter.unusedVariables false

namespace Sys2Proof.Machine

theorem ctxRefresh_fits {fp : Nat} {s00 s : State} (hb : within 290 fp = true) (h : Fits fp s00 s) (c : Nat) :
    Fits fp s00 (ctxRefresh s c) := by
  unfold ctxRefresh
  repeat' first
    | with_reducible assumption
    | with_reducible refine tcLastRate_fits hb ?_ _
    | with_reducible refine State.putCtxRec_fits (within_trans (by decide) hb) ?_ _ _ _ _
    | with_reducible refine State.hist_fits (within_trans (by decide) hb) ?_ _ _
    | with_reducible refine Fits.many ?_ _ _ (fun _ _ _ => ?_)
    | with_reducible refine Fits.ite _ ?_ ?_
    | split
    | extract_lets
    | (dsimp +zetaDelta only)

theorem ctxMasterChange_fits {fp : Nat} {s00 s : State} (hb : within 290 fp = true) (h : Fits fp s00 s) (c : Nat) :
    Fits fp s00 (ctxMasterChange s c) := by
  unfold ctxMasterChange
  repeat' first
    | with_reducible assumption
    | with_reducible refine tcMasterChange_fits hb ?_ _
    | with_reducible refine State.putCtxRec_fits (within_trans (by decide) hb) ?_ _ _ _ _
    | with_reducible refine State.raise_fits (within_trans (by decide) hb) ?_ _ _ _ _
    | with_reducible refine State.hist_fits (within_trans (by decide) hb) ?_ _ _
    | with_reducible refine Fits.many ?_ _ _ (fun _ _ _ => ?_)
    | with_reducible refine Fits.ite _ ?_ ?_
    | split
    | extract_lets
    | (dsimp +zetaDelta only)

theorem ctxForget_fits {fp : Nat} {s00 s : State} (hb : within 2050 fp = true) (h : Fits fp s00 s) (c : Nat) :
    Fits fp s00 (ctxForget s c) := by
  unfold ctxForget
  repeat' first
    | with_reducible assumption
    | with_reducible refine State.putCtxRec_fits (within_trans (by decide) hb) ?_ _ _ _ _
    | with_reducible refine State.setCtx_fits (within_trans (by decide) hb) ?_ _ _
    | with_reducible refine Fits.ite _ ?_ ?_
    | split
    | extract_lets
    | (dsimp +zetaDelta only)

theorem ctxOffset_fits {fp : Nat} {s00 s : State} (hb : within 19746 fp = true) (h : Fits fp s00 s) (c : Nat) (o : Int) (meas : Int) (ok : Bool) :
    Fits fp s00 (ctxOffset s c o meas ok) := by
  unfold ctxOffset
  repeat' first
    | with_reducible assumption
    | with_reducible refine ctxRefresh_fits (within_trans (by decide) hb) ?_ _
    | with_reducible refine tcSecondStep_fits (within_trans (by decide) hb) ?_ _ _
    | with_reducible refine dpOffset_fits (within_trans (by decide) hb) ?_ _ _ _
    | with_reducible refine State.putCtxRec_fits (within_trans (by decide) hb) ?_ _ _ _ _
    | with_reducible refine State.setCtx_fits (within_trans (by decide) hb) ?_ _ _
    | with_reducible refine State.setTc_fits (within_trans (by decide) hb) ?_ _ _
    | with_reducible refine Fits.many ?_ _ _ (fun _ _ _ => ?_)
    | with_reducible refine Fits.ite _ ?_ ?_
    | split
    | extract_lets
    | (dsimp +zetaDelta only)

theorem offsetTimeout_fits {fp : Nat} {s00 s : State} (hb : within 2338 fp = true) (h : Fits fp s00 s) (c : Nat) :
    Fits fp s00 (offsetTimeout s c) := by
  unfold offsetTimeout
  repeat' first
    | with_reducible assumption
    | with_reducible refine ctxRefresh_fits (within_trans (by decide) hb) ?_ _
    | with_reducible refine cxCount_fits (within_trans (by decide) hb) ?_ _ _
    | with_reducible refine State.setCtx_fits (within_trans (by decide) hb) ?_ _ _
    | with_reducible refine State.raise_fits (within_trans (by decide) hb) ?_ _ _ _ _
    | with_reducible refine State.hist_fits (within_trans (by decide) hb) ?_ _ _
    | with_reducible refine Fits.ite _ ?_ ?_
    | split
    | extract_lets
    | (dsimp +zetaDelta only)

theorem ctxQualify_fits {fp : Nat} {s00 s : State} (hb : within 2338 fp = true) (h : Fits fp s00 s) (c : Nat) :
    Fits fp s00 (ctxQualify s c) := by
  unfold ctxQualify
  repeat' first
    | with_reducible assumption
    | with_reducible refine ctxRefresh_fits (within_trans (by decide) hb) ?_ _
    | with_reducible refine State.setCtx_fits (within_trans (by decide) hb) ?_ _ _
    | with_reducible refine Fits.ite _ ?_ ?_
    | split
    | extract_lets
    | (dsimp +zetaDelta only)

theorem toPortState_fits {fp : Nat} {s00 s : State} (hb : within 2338 fp = true) (h : Fits fp s00 s) (c : Nat) (st : Nat) :
    Fits fp s00 (toPortState s c st) := by
  unfold toPortState
  repeat' first
    | with_reducible assumption
    | with_reducible refine ctxForget_fits (within_trans (by decide) hb) ?_ _
    | with_reducible refine ctxRefresh_fits (within_trans (by decide) hb) ?_ _
    | with_reducible refine State.putCtxRec_fits (within_trans (by decide) hb) ?_ _ _ _ _
    | with_reducible refine Fits.ite _ ?_ ?_
    | split
    | extract_lets
    | (dsimp +zetaDelta only)

theorem putMaster_fits {fp : Nat} {s00 s : State} (hb : within 2 fp = true) (h : Fits fp s00 s) (c : Nat) (a : Announce) :
    Fits fp s00 (putMaster s c a) := by
  unfold putMaster
  repeat' first
    | with_reducible assumption
    | with_reducible refine State.putCtxRec_fits hb ?_ _ _ _ _
    | with_reducible refine Fits.many ?_ _ _ (fun _ _ _ => ?_)
    | with_reducible refine Fits.ite _ ?_ ?_
    | split
    | extract_lets
    | (dsimp +zetaDelta only)

theorem toSlave_fits {fp : Nat} {s00 s : State} (hb : within 2338 fp = true) (h : Fits fp s00 s) (c : Nat) (a : Announce) :
    Fits fp s00 (toSlave s c a) := by
  unfold toSlave
  repeat' first
    | with_reducible assumption
    | with_reducible refine putMaster_fits (within_trans (by decide) hb) ?_ _ _
    | with_reducible refine ctxForget_fits (within_trans (by decide) hb) ?_ _
    | with_reducible refine ctxMasterChange_fits (within_trans (by decide) hb) ?_ _
    | with_reducible refine ctxRefresh_fits (within_trans (by decide) hb) ?_ _
    | with_reducible refine State.putCtxRec_fits (within_trans (by decide) hb) ?_ _ _ _ _
    | with_reducible refine Fits.ite _ ?_ ?_
    | split
    | extract_lets
    | (dsimp +zetaDelta only)

theorem toMaster_fits {fp : Nat} {s00 s : State} (hb : within 2338 fp = true) (h : Fits fp s00 s) (c : Nat) :
    Fits fp s00 (toMaster s c) := by
  unfold toMaster
  repeat' first
    | with_reducible assumption
    | with_reducible refine toPortState_fits hb ?_ _ _
    | with_reducible refine Fits.ite _ ?_ ?_
    | split
    | extract_lets
    | (dsimp +zetaDelta only)

theorem decidePort_fits {fp : Nat} {s00 s : State} (hb : within 2338 fp = true) (h : Fits fp s00 s) (t : Nat) (c : Nat) (best : Option (Nat × Announce)) :
    Fits fp s00 (decidePort s t c best) := by
  unfold decidePort
  repeat' first
    | with_reducible assumption
    | with_reducible refine toMaster_fits hb ?_ _
    | with_reducible refine toSlave_fits hb ?_ _ _
    | with_reducible refine toPortState_fits hb ?_ _ _
    | with_reducible refine Fits.ite _ ?_ ?_
    | split
    | extract_lets
    | (dsimp +zetaDelta only)

theorem bmca_fits {fp : Nat} {s00 s : State} (hb : within 2338 fp = true) (h : Fits fp s00 s) (t : Nat) :
    Fits fp s00 (bmca s t) := by
  unfold bmca
  repeat' first
    | with_reducible assumption
    | with_reducible refine decidePort_fits hb ?_ _ _ _
    | with_reducible refine Fits.many ?_ _ _ (fun _ _ _ => ?_)
    | with_reducible refine Fits.ite _ ?_ ?_
    | split
    | extract_lets
    | (dsimp +zetaDelta only)

theorem ctxWake_fits {fp : Nat} {s00 s : State} (hb : within 2 fp = true) (h : Fits fp s00 s) (c : Nat) :
    Fits fp s00 (ctxWake s c) := by
  unfold ctxWake
  repeat' first
    | with_reducible assumption
    | with_reducible refine State.putCtxRec_fits hb ?_ _ _ _ _
    | with_reducible refine Fits.ite _ ?_ ?_
    | split
    | extract_lets
    | (dsimp +zetaDelta only)

theorem ptpRx_fits {fp : Nat} {s00 s : State} (hb : within 2 fp = true) (h : Fits fp s00 s) (c : Nat) (type_ : Nat) (f : State → State) (hf : ∀ y, Fits fp s00 y → Fits fp s00 (f y)) :
    Fits fp s00 (ptpRx s c type_ f) := by
  unfold ptpRx
  repeat' first
    | with_reducible assumption
    | with_reducible refine ctxWake_fits hb ?_ _
    | with_reducible refine cxCount_fits hb ?_ _ _
    | with_reducible refine State.inc_fits hb ?_ _ _ _
    | with_reducible refine hf _ ?_
    | with_reducible refine Fits.ite _ ?_ ?_
    | split
    | extract_lets
    | (dsimp +zetaDelta only)

theorem announceRx_fits {fp : Nat} {s00 s : State} (hb : within 2338 fp = true) (h : Fits fp s00 s) (c : Nat) (a : Announce) :
    Fits fp s00 (announceRx s c a) := by
  unfold announceRx
  repeat' first
    | with_reducible assumption
    | with_reducible refine ptpRx_fits (within_trans (by decide) hb) ?_ _ _ _ (fun _ _ => ?_)
    | with_reducible refine bmca_fits hb ?_ _
    | with_reducible refine State.setCtx_fits (within_trans (by decide) hb) ?_ _ _
    | with_reducible refine Fits.ite _ ?_ ?_
    | split
    | extract_lets
    | (dsimp +zetaDelta only)

theorem announceTimeout_fits {fp : Nat} {s00 s : State} (hb : within 2338 fp = true) (h : Fits fp s00 s) (c : Nat) :
    Fits fp s00 (announceTimeout s c) := by
  unfold announceTimeout
  repeat' first
    | with_reducible assumption
    | with_reducible refine ctxWake_fits (within_trans (by decide) hb) ?_ _
    | with_reducible refine bmca_fits hb ?_ _
    | with_reducible refine toMaster_fits hb ?_ _
    | with_reducible refine cxCount_fits (within_trans (by decide) hb) ?_ _ _
    | with_reducible refine State.setCtx_fits (within_trans (by decide) hb) ?_ _ _
    | with_reducible refine State.raise_fits (within_trans (by decide) hb) ?_ _ _ _ _
    | with_reducible refine State.hist_fits (within_trans (by decide) hb) ?_ _ _
    | with_reducible refine Fits.ite _ ?_ ?_
    | split
    | extract_lets
    | (dsimp +zetaDelta only)

theorem preMasterEnd_fits {fp : Nat} {s00 s : State} (hb : within 2338 fp = true) (h : Fits fp s00 s) (c : Nat) :
    Fits fp s00 (preMasterEnd s c) := by
  unfold preMasterEnd
  repeat' first
    | with_reducible assumption
    | with_reducible refine toPortState_fits hb ?_ _ _
    | with_reducible refine Fits.ite _ ?_ ?_
    | split
    | extract_lets
    | (dsimp +zetaDelta only)

theorem formOffset_fits {fp : Nat} {s00 s : State} (hb : within 19746 fp = true) (h : Fits fp s00 s) (c : Nat) :
    Fits fp s00 (formOffset s c) := by
  unfold formOffset
  repeat' first
    | with_reducible assumption
    | with_reducible refine ctxOffset_fits hb ?_ _ _ _ _
    | with_reducible refine State.putCtxRec_fits (within_trans (by decide) hb) ?_ _ _ _ _
    | with_reducible refine Fits.ite _ ?_ ?_
    | split
    | extract_lets
    | (dsimp +zetaDelta only)

theorem addDelay_fits {fp : Nat} {s00 s : State} (hb : within 2050 fp = true) (h : Fits fp s00 s) (c : Nat) (d : Int) :
    Fits fp s00 (addDelay s c d) := by
  unfold addDelay
  repeat' first
    | with_reducible assumption
    | with_reducible refine State.putCtxRec_fits (within_trans (by decide) hb) ?_ _ _ _ _
    | with_reducible refine State.setCtx_fits (within_trans (by decide) hb) ?_ _ _
    | with_reducible refine Fits.ite _ ?_ ?_
    | split
    | extract_lets
    | (dsimp +zetaDelta only)

theorem syncDone_fits {fp : Nat} {s00 s : State} (hb : within 19746 fp = true) (h : Fits fp s00 s) (c : Nat) (ms : Int) (t2 : Int) :
    Fits fp s00 (syncDone s c ms t2) := by
  unfold syncDone
  repeat' first
    | with_reducible assumption
    | with_reducible refine formOffset_fits hb ?_ _
    | with_reducible refine State.setCtx_fits (within_trans (by decide) hb) ?_ _ _
    | with_reducible refine Fits.ite _ ?_ ?_
    | split
    | extract_lets
    | (dsimp +zetaDelta only)

theorem syncRx_fits {fp : Nat} {s00 s : State} (hb : within 19746 fp = true) (h : Fits fp s00 s) (c : Nat) (m : PtpMsg) :
    Fits fp s00 (syncRx s c m) := by
  unfold syncRx
  repeat' first
    | with_reducible assumption
    | with_reducible refine syncDone_fits hb ?_ _ _ _
    | with_reducible refine ptpRx_fits (within_trans (by decide) hb) ?_ _ _ _ (fun _ _ => ?_)
    | with_reducible refine cxCount_fits (within_trans (by decide) hb) ?_ _ _
    | with_reducible refine State.setCtx_fits (within_trans (by decide) hb) ?_ _ _
    | with_reducible refine Fits.ite _ ?_ ?_
    | split
    | extract_lets
    | (dsimp +zetaDelta only)

theorem followUpRx_fits {fp : Nat} {s00 s : State} (hb : within 19746 fp = true) (h : Fits fp s00 s) (c : Nat) (m : PtpMsg) :
    Fits fp s00 (followUpRx s c m) := by
  unfold followUpRx
  repeat' first
    | with_reducible assumption
    | with_reducible refine syncDone_fits hb ?_ _ _ _
    | with_reducible refine ptpRx_fits (within_trans (by decide) hb) ?_ _ _ _ (fun _ _ => ?_)
    | with_reducible refine cxCount_fits (within_trans (by decide) hb) ?_ _ _
    | with_reducible refine Fits.ite _ ?_ ?_
    | split
    | extract_lets
    | (dsimp +zetaDelta only)

theorem delayRespRx_fits {fp : Nat} {s00 s : State} (hb : within 19746 fp = true) (h : Fits fp s00 s) (c : Nat) (m : PtpMsg) :
    Fits fp s00 (delayRespRx s c m) := by
  unfold delayRespRx
  repeat' first
    | with_reducible assumption
    | with_reducible refine addDelay_fits (within_trans (by decide) hb) ?_ _ _
    | with_reducible refine formOffset_fits hb ?_ _
    | with_reducible refine ptpRx_fits (within_trans (by decide) hb) ?_ _ _ _ (fun _ _ => ?_)
    | with_reducible refine cxCount_fits (within_trans (by decide) hb) ?_ _ _
    | with_reducible refine State.setCtx_fits (within_trans (by decide) hb) ?_ _ _
    | with_reducible refine Fits.ite _ ?_ ?_
    | split
    | extract_lets
    | (dsimp +zetaDelta only)

theorem pdelayDone_fits {fp : Nat} {s00 s : State} (hb : within 19746 fp = true) (h : Fits fp s00 s) (c : Nat) (t1 : Int) (t4 : Int) (turn : Int) (t3 : Option Int) :
    Fits fp s00 (pdelayDone s c t1 t4 turn t3) := by
  unfold pdelayDone
  repeat' first
    | with_reducible assumption
    | with_reducible refine addDelay_fits (within_trans (by decide) hb) ?_ _ _
    | with_reducible refine formOffset_fits hb ?_ _
    | with_reducible refine State.putCtxRec_fits (within_trans (by decide) hb) ?_ _ _ _ _
    | with_reducible refine State.setCtx_fits (within_trans (by decide) hb) ?_ _ _
    | with_reducible refine Fits.ite _ ?_ ?_
    | split
    | extract_lets
    | (dsimp +zetaDelta only)

theorem pdelayRespRx_fits {fp : Nat} {s00 s : State} (hb : within 19746 fp = true) (h : Fits fp s00 s) (c : Nat) (m : PtpMsg) :
    Fits fp s00 (pdelayRespRx s c m) := by
  unfold pdelayRespRx
  repeat' first
    | with_reducible assumption
    | with_reducible refine pdelayDone_fits hb ?_ _ _ _ _ _
    | with_reducible refine ptpRx_fits (within_trans (by decide) hb) ?_ _ _ _ (fun _ _ => ?_)
    | with_reducible refine cxCount_fits (within_trans (by decide) hb) ?_ _ _
    | with_reducible refine State.setCtx_fits (within_trans (by decide) hb) ?_ _ _
    | with_reducible refine Fits.ite _ ?_ ?_
    | split
    | extract_lets
    | (dsimp +zetaDelta only)

theorem delayReqRx_fits {fp : Nat} {s00 s : State} (hb : within 4122 fp = true) (h : Fits fp s00 s) (c : Nat) (m : PtpMsg) :
    Fits fp s00 (delayReqRx s c m) := by
  unfold delayReqRx
  repeat' first
    | with_reducible assumption
    | with_reducible refine ptpRx_fits (within_trans (by decide) hb) ?_ _ _ _ (fun _ _ => ?_)
    | with_reducible refine ptpSend_fits hb ?_ _ _ _ _ _ _
    | with_reducible refine cxCount_fits (within_trans (by decide) hb) ?_ _ _
    | with_reducible refine Fits.ite _ ?_ ?_
    | split
    | extract_lets
    | (dsimp +zetaDelta only)

theorem pdelayReqRx_fits {fp : Nat} {s00 s : State} (hb : within 6170 fp = true) (h : Fits fp s00 s) (c : Nat) (m : PtpMsg) :
    Fits fp s00 (pdelayReqRx s c m) := by
  unfold pdelayReqRx
  repeat' first
    | with_reducible assumption
    | with_reducible refine ptpRx_fits (within_trans (by decide) hb) ?_ _ _ _ (fun _ _ => ?_)
    | with_reducible refine awaitStamp_fits (within_trans (by decide) hb) ?_ _ _ _ _ _ _
    | with_reducible refine ptpSend_fits (within_trans (by decide) hb) ?_ _ _ _ _ _ _
    | with_reducible refine cxCount_fits (within_trans (by decide) hb) ?_ _ _
    | with_reducible refine Fits.ite _ ?_ ?_
    | split
    | extract_lets
    | (dsimp +zetaDelta only)

theorem syncInterval_fits {fp : Nat} {s00 s : State} (hb : within 6170 fp = true) (h : Fits fp s00 s) (c : Nat) :
    Fits fp s00 (syncInterval s c) := by
  unfold syncInterval
  repeat' first
    | with_reducible assumption
    | with_reducible refine awaitStamp_fits (within_trans (by decide) hb) ?_ _ _ _ _ _ _
    | with_reducible refine ptpSend_fits (within_trans (by decide) hb) ?_ _ _ _ _ _ _
    | with_reducible refine State.setCtx_fits (within_trans (by decide) hb) ?_ _ _
    | with_reducible refine Fits.ite _ ?_ ?_
    | split
    | extract_lets
    | (dsimp +zetaDelta only)

theorem delayInterval_fits {fp : Nat} {s00 s : State} (hb : within 6170 fp = true) (h : Fits fp s00 s) (c : Nat) :
    Fits fp s00 (delayInterval s c) := by
  unfold delayInterval
  repeat' first
    | with_reducible assumption
    | with_reducible refine ctxWake_fits (within_trans (by decide) hb) ?_ _
    | with_reducible refine awaitStamp_fits (within_trans (by decide) hb) ?_ _ _ _ _ _ _
    | with_reducible refine ptpSend_fits (within_trans (by decide) hb) ?_ _ _ _ _ _ _
    | with_reducible refine State.setCtx_fits (within_trans (by decide) hb) ?_ _ _
    | with_reducible refine Fits.ite _ ?_ ?_
    | split
    | extract_lets
    | (dsimp +zetaDelta only)

theorem announceInterval_fits {fp : Nat} {s00 s : State} (hb : within 6170 fp = true) (h : Fits fp s00 s) (c : Nat) :
    Fits fp s00 (announceInterval s c) := by
  unfold announceInterval
  repeat' first
    | with_reducible assumption
    | with_reducible refine ptpSend_fits (within_trans (by decide) hb) ?_ _ _ _ _ _ _
    | with_reducible refine State.setCtx_fits (within_trans (by decide) hb) ?_ _ _
    | with_reducible refine Fits.ite _ ?_ ?_
    | split
    | extract_lets
    | (dsimp +zetaDelta only)

theorem signalSend_fits {fp : Nat} {s00 s : State} (hb : within 6170 fp = true) (h : Fits fp s00 s) (c : Nat) (peer : Nat) (tlv : List Nat) :
    Fits fp s00 (signalSend s c peer tlv) := by
  unfold signalSend
  repeat' first
    | with_reducible assumption
    | with_reducible refine ptpSendTo_fits (within_trans (by decide) hb) ?_ _ _ _ _ _ _ _
    | with_reducible refine State.setCtx_fits (within_trans (by decide) hb) ?_ _ _
    | with_reducible refine Fits.ite _ ?_ ?_
    | split
    | extract_lets
    | (dsimp +zetaDelta only)

theorem grantsActive_fits {fp : Nat} {s00 s : State} (hb : within 2 fp = true) (h : Fits fp s00 s)  :
    Fits fp s00 (grantsActive s) := by
  unfold grantsActive
  repeat' first
    | with_reducible assumption
    | with_reducible refine State.put_fits hb ?_ _ _
    | with_reducible refine Fits.ite _ ?_ ?_
    | split
    | extract_lets
    | (dsimp +zetaDelta only)

theorem grantDenied_fits {fp : Nat} {s00 s : State} (hb : within 6202 fp = true) (h : Fits fp s00 s) (c : Nat) (g : Signal) :
    Fits fp s00 (grantDenied s c g) := by
  unfold grantDenied
  repeat' first
    | with_reducible assumption
    | with_reducible refine signalSend_fits (within_trans (by decide) hb) ?_ _ _ _
    | with_reducible refine State.raise_fits (within_trans (by decide) hb) ?_ _ _ _ _
    | with_reducible refine State.hist_fits (within_trans (by decide) hb) ?_ _ _
    | with_reducible refine State.inc_fits (within_trans (by decide) hb) ?_ _ _ _
    | with_reducible refine Fits.ite _ ?_ ?_
    | split
    | extract_lets
    | (dsimp +zetaDelta only)

theorem poolTake_fits {fp : Nat} {s00 s : State} (hb : within 2338 fp = true) (h : Fits fp s00 s) (c : Nat) (x : Nat) (g : Signal) :
    Fits fp s00 (poolTake s c x g) := by
  unfold poolTake
  repeat' first
    | with_reducible assumption
    | with_reducible refine grantsActive_fits (within_trans (by decide) hb) ?_
    | with_reducible refine ctxRefresh_fits (within_trans (by decide) hb) ?_ _
    | with_reducible refine assignEngine_fits (within_trans (by decide) hb) ?_ _
    | with_reducible refine State.putCtxRec_fits (within_trans (by decide) hb) ?_ _ _ _ _
    | with_reducible refine State.setCtx_fits (within_trans (by decide) hb) ?_ _ _
    | with_reducible refine State.put_fits (within_trans (by decide) hb) ?_ _ _
    | with_reducible refine Fits.many ?_ _ _ (fun _ _ _ => ?_)
    | with_reducible refine Fits.ite _ ?_ ?_
    | split
    | extract_lets
    | (dsimp +zetaDelta only)

theorem poolFree_fits {fp : Nat} {s00 s : State} (hb : within 2050 fp = true) (h : Fits fp s00 s) (x : Nat) :
    Fits fp s00 (poolFree s x) := by
  unfold poolFree
  repeat' first
    | with_reducible assumption
    | with_reducible refine grantsActive_fits (within_trans (by decide) hb) ?_
    | with_reducible refine unassignEngine_fits hb ?_ _
    | with_reducible refine State.setCtx_fits (within_trans (by decide) hb) ?_ _ _
    | with_reducible refine State.put_fits (within_trans (by decide) hb) ?_ _ _
    | with_reducible refine Fits.ite _ ?_ ?_
    | split
    | extract_lets
    | (dsimp +zetaDelta only)

theorem unicastRequest_fits {fp : Nat} {s00 s : State} (hb : within 6458 fp = true) (h : Fits fp s00 s) (c : Nat) (g : Signal) :
    Fits fp s00 (unicastRequest s c g) := by
  unfold unicastRequest
  repeat' first
    | with_reducible assumption
    | with_reducible refine poolTake_fits (within_trans (by decide) hb) ?_ _ _ _
    | with_reducible refine grantDenied_fits (within_trans (by decide) hb) ?_ _ _
    | with_reducible refine signalSend_fits (within_trans (by decide) hb) ?_ _ _ _
    | with_reducible refine cxCount_fits (within_trans (by decide) hb) ?_ _ _
    | with_reducible refine Fits.ite _ ?_ ?_
    | split
    | extract_lets
    | (dsimp +zetaDelta only)

theorem grantLost_fits {fp : Nat} {s00 s : State} (hb : within 2050 fp = true) (h : Fits fp s00 s) (c : Nat) (type_ : Nat) :
    Fits fp s00 (grantLost s c type_) := by
  unfold grantLost
  repeat' first
    | with_reducible assumption
    | with_reducible refine State.setCtx_fits (within_trans (by decide) hb) ?_ _ _
    | with_reducible refine State.hist_fits (within_trans (by decide) hb) ?_ _ _
    | with_reducible refine Fits.ite _ ?_ ?_
    | split
    | extract_lets
    | (dsimp +zetaDelta only)

theorem grantEnd_fits {fp : Nat} {s00 s : State} (hb : within 2050 fp = true) (h : Fits fp s00 s) (x : Nat) (type_ : Nat) :
    Fits fp s00 (grantEnd s x type_) := by
  unfold grantEnd
  repeat' first
    | with_reducible assumption
    | with_reducible refine poolFree_fits hb ?_ _
    | with_reducible refine State.setCtx_fits (within_trans (by decide) hb) ?_ _ _
    | with_reducible refine Fits.ite _ ?_ ?_
    | split
    | extract_lets
    | (dsimp +zetaDelta only)

theorem unicastCancel_fits {fp : Nat} {s00 s : State} (hb : within 6170 fp = true) (h : Fits fp s00 s) (c : Nat) (g : Signal) :
    Fits fp s00 (unicastCancel s c g) := by
  unfold unicastCancel
  repeat' first
    | with_reducible assumption
    | with_reducible refine grantEnd_fits (within_trans (by decide) hb) ?_ _ _
    | with_reducible refine grantLost_fits (within_trans (by decide) hb) ?_ _ _
    | with_reducible refine signalSend_fits hb ?_ _ _ _
    | with_reducible refine Fits.ite _ ?_ ?_
    | split
    | extract_lets
    | (dsimp +zetaDelta only)

theorem signalingRx_fits {fp : Nat} {s00 s : State} (hb : within 6458 fp = true) (h : Fits fp s00 s) (c : Nat) (g : Signal) :
    Fits fp s00 (signalingRx s c g) := by
  unfold signalingRx
  repeat' first
    | with_reducible assumption
    | with_reducible refine unicastCancel_fits (within_trans (by decide) hb) ?_ _ _
    | with_reducible refine grantLost_fits (within_trans (by decide) hb) ?_ _ _
    | with_reducible refine unicastRequest_fits hb ?_ _ _
    | with_reducible refine ptpRx_fits (within_trans (by decide) hb) ?_ _ _ _ (fun _ _ => ?_)
    | with_reducible refine cxCount_fits (within_trans (by decide) hb) ?_ _ _
    | with_reducible refine State.setCtx_fits (within_trans (by decide) hb) ?_ _ _
    | with_reducible refine Fits.ite _ ?_ ?_
    | split
    | extract_lets
    | (dsimp +zetaDelta only)

theorem grantExpiry_fits {fp : Nat} {s00 s : State} (hb : within 2050 fp = true) (h : Fits fp s00 s) (c : Nat) :
    Fits fp s00 (grantExpiry s c) := by
  unfold grantExpiry
  repeat' first
    | with_reducible assumption
    | with_reducible refine grantEnd_fits hb ?_ _ _
    | with_reducible refine grantLost_fits hb ?_ _ _
    | with_reducible refine Fits.ite _ ?_ ?_
    | split
    | extract_lets
    | (dsimp +zetaDelta only)

theorem grantRenewal_fits {fp : Nat} {s00 s : State} (hb : within 6170 fp = true) (h : Fits fp s00 s) (c : Nat) :
    Fits fp s00 (grantRenewal s c) := by
  unfold grantRenewal
  repeat' first
    | with_reducible assumption
    | with_reducible refine signalSend_fits hb ?_ _ _ _
    | with_reducible refine ctxWake_fits (within_trans (by decide) hb) ?_ _
    | with_reducible refine Fits.many ?_ _ _ (fun _ _ _ => ?_)
    | with_reducible refine Fits.ite _ ?_ ?_
    | split
    | extract_lets
    | (dsimp +zetaDelta only)

theorem frameMessage_fits {fp : Nat} {s00 s : State} (hb : within 23866 fp = true) (h : Fits fp s00 s) (c : Nat) (d : Datum) (o : Nat) (time : Option Int) :
    Fits fp s00 (frameMessage s c d o time) := by
  unfold frameMessage
  repeat' first
    | with_reducible assumption
    | with_reducible refine signalingRx_fits (within_trans (by decide) hb) ?_ _ _
    | with_reducible refine pdelayReqRx_fits (within_trans (by decide) hb) ?_ _ _
    | with_reducible refine delayReqRx_fits (within_trans (by decide) hb) ?_ _ _
    | with_reducible refine pdelayRespRx_fits (within_trans (by decide) hb) ?_ _ _
    | with_reducible refine delayRespRx_fits (within_trans (by decide) hb) ?_ _ _
    | with_reducible refine followUpRx_fits (within_trans (by decide) hb) ?_ _ _
    | with_reducible refine syncRx_fits (within_trans (by decide) hb) ?_ _ _
    | with_reducible refine announceRx_fits (within_trans (by decide) hb) ?_ _ _
    | with_reducible refine ptpRx_fits (within_trans (by decide) hb) ?_ _ _ _ (fun _ _ => ?_)
    | with_reducible refine cxCount_fits (within_trans (by decide) hb) ?_ _ _
    | with_reducible refine Fits.ite _ ?_ ?_
    | split
    | extract_lets
    | (dsimp +zetaDelta only)

theorem arpRx_fits {fp : Nat} {s00 s : State} (hb : within 2056 fp = true) (h : Fits fp s00 s) (p : Nat) (target : Nat) (d : Datum) :
    Fits fp s00 (arpRx s p target d) := by
  unfold arpRx
  repeat' first
    | with_reducible assumption
    | with_reducible refine State.setCtx_fits (within_trans (by decide) hb) ?_ _ _
    | with_reducible refine State.send_fits (within_trans (by decide) hb) ?_ _
    | with_reducible refine Fits.many ?_ _ _ (fun _ _ _ => ?_)
    | with_reducible refine Fits.ite _ ?_ ?_
    | split
    | extract_lets
    | (dsimp +zetaDelta only)

theorem peerResolve_fits {fp : Nat} {s00 s : State} (hb : within 8 fp = true) (h : Fits fp s00 s)  :
    Fits fp s00 (peerResolve s) := by
  unfold peerResolve
  repeat' first
    | with_reducible assumption
    | with_reducible refine State.send_fits hb ?_ _
    | with_reducible refine Fits.many ?_ _ _ (fun _ _ _ => ?_)
    | with_reducible refine Fits.ite _ ?_ ?_
    | split
    | extract_lets
    | (dsimp +zetaDelta only)

theorem ethOther_fits {fp : Nat} {s00 s : State} (hb : within 2 fp = true) (h : Fits fp s00 s) (p : Nat) (bad : Bool) :
    Fits fp s00 (ethOther s p bad) := by
  unfold ethOther
  repeat' first
    | with_reducible assumption
    | with_reducible refine State.inc_fits hb ?_ _ _ _
    | with_reducible refine Fits.ite _ ?_ ?_
    | split
    | extract_lets
    | (dsimp +zetaDelta only)

theorem offerFrame_fits {fp : Nat} {s00 s : State} (hb : within 23866 fp = true) (h : Fits fp s00 s) (p : Nat) (d : Datum) :
    Fits fp s00 (offerFrame s p d) := by
  unfold offerFrame
  repeat' first
    | with_reducible assumption
    | with_reducible refine frameMessage_fits hb ?_ _ _ _ _
    | with_reducible refine Fits.ite _ ?_ ?_
    | split
    | extract_lets
    | (dsimp +zetaDelta only)

theorem passFrame_fits {fp : Nat} {s00 s : State} (hb : within 23866 fp = true) (h : Fits fp s00 s) (p : Nat) (bad : Bool) (residence : Int) (full : Bool) (d : Datum) :
    Fits fp s00 (passFrame s p bad residence full d) := by
  unfold passFrame
  repeat' first
    | with_reducible assumption
    | with_reducible refine offerFrame_fits hb ?_ _ _
    | with_reducible refine ethOther_fits (within_trans (by decide) hb) ?_ _ _
    | with_reducible refine State.send_fits (within_trans (by decide) hb) ?_ _
    | with_reducible refine State.hist_fits (within_trans (by decide) hb) ?_ _ _
    | with_reducible refine State.inc_fits (within_trans (by decide) hb) ?_ _ _ _
    | with_reducible refine Fits.ite _ ?_ ?_
    | split
    | extract_lets
    | (dsimp +zetaDelta only)

theorem ethLink_fits {fp : Nat} {s00 s : State} (hb : within 1058 fp = true) (h : Fits fp s00 s) (p : Nat) (up : Bool) :
    Fits fp s00 (ethLink s p up) := by
  unfold ethLink
  repeat' first
    | with_reducible assumption
    | with_reducible refine State.raise_fits (within_trans (by decide) hb) ?_ _ _ _ _
    | with_reducible refine State.hist_fits (within_trans (by decide) hb) ?_ _ _
    | with_reducible refine State.put_fits (within_trans (by decide) hb) ?_ _ _
    | with_reducible refine Fits.ite _ ?_ ?_
    | split
    | extract_lets
    | (dsimp +zetaDelta only)
    | with_reducible refine Fits.set_dp (within_trans (by decide) hb) ?_ _ (by simp only [length_upd, List.length_set, List.length_map, List.length_zipIdx, List.length_cons]) (by simp only [length_upd, List.length_set, List.length_map, List.length_zipIdx, List.length_cons])

theorem ethMode_fits {fp : Nat} {s00 s : State} (hb : within 1058 fp = true) (h : Fits fp s00 s) (p : Nat) (v : Nat) :
    Fits fp s00 (ethMode s p v) := by
  unfold ethMode
  repeat' first
    | with_reducible assumption
    | with_reducible refine ethLink_fits hb ?_ _ _
    | with_reducible refine State.put_fits (within_trans (by decide) hb) ?_ _ _
    | with_reducible refine Fits.ite _ ?_ ?_
    | split
    | extract_lets
    | (dsimp +zetaDelta only)

theorem rxRecord_fits {fp : Nat} {s00 s : State} (hb : within 23866 fp = true) (h : Fits fp s00 s) (d : Datum) :
    Fits fp s00 (rxRecord s d) := by
  unfold rxRecord
  repeat' first
    | with_reducible assumption
    | with_reducible refine frameMessage_fits hb ?_ _ _ _ _
    | with_reducible refine Fits.ite _ ?_ ?_
    | split
    | extract_lets
    | (dsimp +zetaDelta only)

theorem txStamp_fits {fp : Nat} {s00 s : State} (hb : within 6170 fp = true) (h : Fits fp s00 s) (d : Datum) :
    Fits fp s00 (txStamp s d) := by
  unfold txStamp
  repeat' first
    | with_reducible assumption
    | with_reducible refine ptpSend_fits (within_trans (by decide) hb) ?_ _ _ _ _ _ _
    | with_reducible refine State.setCtx_fits (within_trans (by decide) hb) ?_ _ _
    | with_reducible refine Fits.ite _ ?_ ?_
    | split
    | extract_lets
    | (dsimp +zetaDelta only)

theorem txStampMissing_fits {fp : Nat} {s00 s : State} (hb : within 2050 fp = true) (h : Fits fp s00 s) (c : Nat) :
    Fits fp s00 (txStampMissing s c) := by
  unfold txStampMissing
  repeat' first
    | with_reducible assumption
    | with_reducible refine cxCount_fits (within_trans (by decide) hb) ?_ _ _
    | with_reducible refine State.setCtx_fits (within_trans (by decide) hb) ?_ _ _
    | with_reducible refine State.hist_fits (within_trans (by decide) hb) ?_ _ _
    | with_reducible refine State.inc_fits (within_trans (by decide) hb) ?_ _ _ _
    | with_reducible refine Fits.ite _ ?_ ?_
    | split
    | extract_lets
    | (dsimp +zetaDelta only)

theorem txRecord_fits {fp : Nat} {s00 s : State} (hb : within 4096 fp = true) (h : Fits fp s00 s)  :
    Fits fp s00 (txRecord s).2 := by
  unfold txRecord
  repeat' first
    | with_reducible assumption
    | with_reducible refine Fits.ite _ ?_ ?_
    | with_reducible refine Fits.ite_snd _ ?_ ?_
    | split
    | extract_lets
    | (dsimp +zetaDelta only)
    | with_reducible refine Fits.set_ptp (within_trans (by decide) hb) ?_ _

theorem ctxEnable_fits {fp : Nat} {s00 s : State} (hb : within 2338 fp = true) (h : Fits fp s00 s) (c : Nat) (on : Bool) :
    Fits fp s00 (ctxEnable s c on) := by
  unfold ctxEnable
  repeat' first
    | with_reducible assumption
    | with_reducible refine ctxForget_fits (within_trans (by decide) hb) ?_ _
    | with_reducible refine ctxRefresh_fits (within_trans (by decide) hb) ?_ _
    | with_reducible refine unassignEngine_fits (within_trans (by decide) hb) ?_ _
    | with_reducible refine assignEngine_fits (within_trans (by decide) hb) ?_ _
    | with_reducible refine State.putCtxRec_fits (within_trans (by decide) hb) ?_ _ _ _ _
    | with_reducible refine State.setCtx_fits (within_trans (by decide) hb) ?_ _ _
    | with_reducible refine State.put_fits (within_trans (by decide) hb) ?_ _ _
    | with_reducible refine Fits.ite _ ?_ ?_
    | split
    | extract_lets
    | (dsimp +zetaDelta only)

theorem ptpEnable_fits {fp : Nat} {s00 s : State} (hb : within 2338 fp = true) (h : Fits fp s00 s) (t : Nat) (v : Nat) :
    Fits fp s00 (ptpEnable s t v) := by
  unfold ptpEnable
  repeat' first
    | with_reducible assumption
    | with_reducible refine toPortState_fits hb ?_ _ _
    | with_reducible refine State.put_fits (within_trans (by decide) hb) ?_ _ _
    | with_reducible refine Fits.many ?_ _ _ (fun _ _ _ => ?_)
    | with_reducible refine Fits.ite _ ?_ ?_
    | split
    | extract_lets
    | (dsimp +zetaDelta only)

theorem ctxRestart_fits {fp : Nat} {s00 s : State} (hb : within 2338 fp = true) (h : Fits fp s00 s) (c : Nat) :
    Fits fp s00 (ctxRestart s c) := by
  unfold ctxRestart
  repeat' first
    | with_reducible assumption
    | with_reducible refine toPortState_fits hb ?_ _ _
    | with_reducible refine State.setCtx_fits (within_trans (by decide) hb) ?_ _ _
    | with_reducible refine Fits.ite _ ?_ ?_
    | split
    | extract_lets
    | (dsimp +zetaDelta only)

theorem ctxClearCounters_fits {fp : Nat} {s00 s : State} (hb : within 2 fp = true) (h : Fits fp s00 s) (c : Nat) :
    Fits fp s00 (ctxClearCounters s c) := by
  unfold ctxClearCounters
  repeat' first
    | with_reducible assumption
    | with_reducible refine State.putCtxRec_fits hb ?_ _ _ _ _
    | with_reducible refine Fits.ite _ ?_ ?_
    | split
    | extract_lets
    | (dsimp +zetaDelta only)

theorem ctxConfig_fits {fp : Nat} {s00 s : State} (hb : within 2050 fp = true) (h : Fits fp s00 s) (c : Nat) (v : Nat) :
    Fits fp s00 (ctxConfig s c v) := by
  unfold ctxConfig
  repeat' first
    | with_reducible assumption
    | with_reducible refine State.putCtxRec_fits (within_trans (by decide) hb) ?_ _ _ _ _
    | with_reducible refine State.setCtx_fits (within_trans (by decide) hb) ?_ _ _
    | with_reducible refine State.put_fits (within_trans (by decide) hb) ?_ _ _
    | with_reducible refine Fits.when ?_ _ _ (fun _ _ => ?_)
    | with_reducible refine Fits.ite _ ?_ ?_
    | split
    | extract_lets
    | (dsimp +zetaDelta only)

theorem offsetIn_fits {fp : Nat} {s00 s : State} (hb : within 19746 fp = true) (h : Fits fp s00 s) (c : Nat) (v : Nat) :
    Fits fp s00 (offsetIn s c v) := by
  unfold offsetIn
  repeat' first
    | with_reducible assumption
    | with_reducible refine ctxOffset_fits hb ?_ _ _ _ _
    | with_reducible refine ctxMasterChange_fits (within_trans (by decide) hb) ?_ _
    | with_reducible refine State.putCtxRec_fits (within_trans (by decide) hb) ?_ _ _ _ _
    | with_reducible refine State.setCtx_fits (within_trans (by decide) hb) ?_ _ _
    | with_reducible refine Fits.ite _ ?_ ?_
    | split
    | extract_lets
    | (dsimp +zetaDelta only)

theorem ctxSecond_fits {fp : Nat} {s00 s : State} (hb : within 2048 fp = true) (h : Fits fp s00 s)  :
    Fits fp s00 (ctxSecond s) := by
  unfold ctxSecond
  repeat' first
    | with_reducible assumption
    | with_reducible refine Fits.ite _ ?_ ?_
    | split
    | extract_lets
    | (dsimp +zetaDelta only)
    | with_reducible refine Fits.set_ctxs (within_trans (by decide) hb) ?_ _ (by simp only [length_upd, List.length_set, List.length_map, List.length_zipIdx, List.length_cons])

end Sys2Proof.Machine
end

