-- ==== Sys2Proof/Laws/FitsSched.lean ====
section
/-! SUPPORT. What each operation of Machine/Sched.lean may touch, and the invariants that it keeps. -/

set_option linter.unusedSimpArgs false
set_option linter.unusedVariables false

namespace Sys2Proof.Machine

theorem entryPut_fits {fp : Nat} {s00 s : State} (hb : within 2 fp = true) (h : Fits fp s00 s) (e : Nat) (v : Nat) :
    Fits fp s00 (entryPut s e v) := by
  unfold entryPut
  repeat' first
    | with_reducible assumption
    | with_reducible refine State.put_fits hb ?_ _ _
    | with_reducible refine Fits.ite _ ?_ ?_
    | split
    | extract_lets
    | (dsimp +zetaDelta only)

theorem armEntries_fits {fp : Nat} {s00 s : State} (hb : within 16384 fp = true) (h : Fits fp s00 s) (b : Nat) (mask : Nat) :
    Fits fp s00 (armEntries s b mask) := by
  unfold armEntries
  repeat' first
    | with_reducible assumption
    | with_reducible refine State.setSched_fits hb ?_ _ _
    | with_reducible refine Fits.many ?_ _ _ (fun _ _ _ => ?_)
    | with_reducible refine Fits.ite _ ?_ ?_
    | split
    | extract_lets
    | (dsimp +zetaDelta only)

theorem disarmEntries_fits {fp : Nat} {s00 s : State} (hb : within 16384 fp = true) (h : Fits fp s00 s) (b : Nat) (mask : Nat) :
    Fits fp s00 (disarmEntries s b mask) := by
  unfold disarmEntries
  repeat' first
    | with_reducible assumption
    | with_reducible refine State.setSched_fits hb ?_ _ _
    | with_reducible refine Fits.many ?_ _ _ (fun _ _ _ => ?_)
    | with_reducible refine Fits.ite _ ?_ ?_
    | split
    | extract_lets
    | (dsimp +zetaDelta only)

theorem schedTell_fits {fp : Nat} {s00 s : State} (hb : within 34 fp = true) (h : Fits fp s00 s) (e : Nat) (ran : Bool) (late : Bool) (dropped : Bool) (refused : Bool) :
    Fits fp s00 (schedTell s e ran late dropped refused) := by
  unfold schedTell
  repeat' first
    | with_reducible assumption
    | with_reducible refine State.raise_fits (within_trans (by decide) hb) ?_ _ _ _ _
    | with_reducible refine State.hist_fits (within_trans (by decide) hb) ?_ _ _
    | with_reducible refine Fits.when ?_ _ _ (fun _ _ => ?_)
    | with_reducible refine Fits.ite _ ?_ ?_
    | split
    | extract_lets
    | (dsimp +zetaDelta only)

theorem schedNext_fits {fp : Nat} {s00 s : State} (hb : within 16384 fp = true) (h : Fits fp s00 s) (e : Nat) :
    Fits fp s00 (schedNext s e) := by
  unfold schedNext
  repeat' first
    | with_reducible assumption
    | with_reducible refine State.setSched_fits hb ?_ _ _
    | with_reducible refine Fits.ite _ ?_ ?_
    | split
    | extract_lets
    | (dsimp +zetaDelta only)

theorem schedRan_fits {fp : Nat} {s00 s : State} (hb : within 16418 fp = true) (h : Fits fp s00 s) (e : Nat) (late : Bool) (lateness : Int) (code : Nat) :
    Fits fp s00 (schedRan s e late lateness code) := by
  unfold schedRan
  repeat' first
    | with_reducible assumption
    | with_reducible refine schedTell_fits (within_trans (by decide) hb) ?_ _ _ _ _ _
    | with_reducible refine State.setSched_fits (within_trans (by decide) hb) ?_ _ _
    | with_reducible refine Fits.ite _ ?_ ?_
    | split
    | extract_lets
    | (dsimp +zetaDelta only)

theorem schedDrop_fits {fp : Nat} {s00 s : State} (hb : within 16418 fp = true) (h : Fits fp s00 s) (e : Nat) :
    Fits fp s00 (schedDrop s e) := by
  unfold schedDrop
  repeat' first
    | with_reducible assumption
    | with_reducible refine schedNext_fits (within_trans (by decide) hb) ?_ _
    | with_reducible refine schedTell_fits (within_trans (by decide) hb) ?_ _ _ _ _ _
    | with_reducible refine State.setSched_fits (within_trans (by decide) hb) ?_ _ _
    | with_reducible refine Fits.ite _ ?_ ?_
    | split
    | extract_lets
    | (dsimp +zetaDelta only)

theorem gateAction_fits {fp : Nat} {s00 s : State} (hb : within 25165954 fp = true) (h : Fits fp s00 s) (g : Nat) (t : Nat) (instant : Nat) :
    Fits fp s00 (gateAction s g t instant).2 := by
  unfold gateAction
  repeat' first
    | with_reducible assumption
    | with_reducible refine gateStart_fits hb ?_ _ _ _
    | with_reducible refine State.hist_fits (within_trans (by decide) hb) ?_ _ _
    | with_reducible refine Fits.ite _ ?_ ?_
    | with_reducible refine Fits.ite_snd _ ?_ ?_
    | split
    | extract_lets
    | (dsimp +zetaDelta only)

theorem schedAct_fits {fp : Nat} {s00 s : State} (hb : within 25190786 fp = true) (h : Fits fp s00 s) (e : Nat) (r : Nat) (instant : Nat) :
    Fits fp s00 (schedAct s e r instant).2 := by
  unfold schedAct
  repeat' first
    | with_reducible assumption
    | with_reducible refine gateAction_fits (within_trans (by decide) hb) ?_ _ _ _
    | with_reducible refine tcRequest_fits (within_trans (by decide) hb) ?_ _ _
    | with_reducible refine State.setSched_fits (within_trans (by decide) hb) ?_ _ _
    | with_reducible refine alignGroups_fits (within_trans (by decide) hb) ?_ _
    | with_reducible refine alignOne_fits (within_trans (by decide) hb) ?_ _
    | with_reducible refine Fits.ite _ ?_ ?_
    | with_reducible refine Fits.ite_snd _ ?_ ?_
    | split
    | extract_lets
    | (dsimp +zetaDelta only)

theorem schedDispatch_fits {fp : Nat} {s00 s : State} (hb : within 16392 fp = true) (h : Fits fp s00 s) (e : Nat) :
    Fits fp s00 (schedDispatch s e) := by
  unfold schedDispatch
  repeat' first
    | with_reducible assumption
    | with_reducible refine State.setSched_fits (within_trans (by decide) hb) ?_ _ _
    | with_reducible refine State.send_fits (within_trans (by decide) hb) ?_ _
    | with_reducible refine Fits.ite _ ?_ ?_
    | split
    | extract_lets
    | (dsimp +zetaDelta only)
    | with_reducible refine Fits.set_sched (within_trans (by decide) hb) ?_ _ (by simp only [length_upd, List.length_set, List.length_map, List.length_zipIdx, List.length_cons])

theorem actionDispatch_fits {fp : Nat} {s00 s : State} (hb : within 16392 fp = true) (h : Fits fp s00 s) (e : Nat) :
    Fits fp s00 (actionDispatch s e) := by
  unfold actionDispatch
  repeat' first
    | with_reducible assumption
    | with_reducible refine schedDispatch_fits hb ?_ _
    | with_reducible refine Fits.ite _ ?_ ?_
    | split
    | extract_lets
    | (dsimp +zetaDelta only)

theorem State.setFlights_fits {fp : Nat} {s00 s : State} (hb : within 16384 fp = true) (h : Fits fp s00 s) (l : List Flight) :
    Fits fp s00 (State.setFlights s l) := by
  unfold State.setFlights
  repeat' first
    | with_reducible assumption
    | with_reducible refine Fits.ite _ ?_ ?_
    | split
    | extract_lets
    | (dsimp +zetaDelta only)
    | with_reducible refine Fits.set_sched (within_trans (by decide) hb) ?_ _ (by simp only [length_upd, List.length_set, List.length_map, List.length_zipIdx, List.length_cons])

theorem State.setToS_fits {fp : Nat} {s00 s : State} (hb : within 16384 fp = true) (h : Fits fp s00 s) (l : List Flight) :
    Fits fp s00 (State.setToS s l) := by
  unfold State.setToS
  repeat' first
    | with_reducible assumption
    | with_reducible refine Fits.ite _ ?_ ?_
    | split
    | extract_lets
    | (dsimp +zetaDelta only)
    | with_reducible refine Fits.set_sched (within_trans (by decide) hb) ?_ _ (by simp only [length_upd, List.length_set, List.length_map, List.length_zipIdx, List.length_cons])

theorem flightRun_fits {fp : Nat} {s00 s : State} (hb : within 16418 fp = true) (h : Fits fp s00 s) (f : Flight) (act : State → Nat × State) (hf : ∀ y, Fits fp s00 y → Fits fp s00 (act y).2) :
    Fits fp s00 (flightRun s f act) := by
  unfold flightRun
  repeat' first
    | with_reducible assumption
    | with_reducible refine schedRan_fits hb ?_ _ _ _ _
    | with_reducible refine schedNext_fits (within_trans (by decide) hb) ?_ _
    | with_reducible refine hf _ ?_
    | with_reducible refine Fits.ite _ ?_ ?_
    | split
    | extract_lets
    | (dsimp +zetaDelta only)

theorem edgeAct_fits {fp : Nat} {s00 s : State} (hb : within 8192 fp = true) (h : Fits fp s00 s) (f : Flight) :
    Fits fp s00 (edgeAct s f).2 := by
  unfold edgeAct
  repeat' first
    | with_reducible assumption
    | with_reducible refine State.setOut_fits hb ?_ _ _
    | with_reducible refine Fits.ite _ ?_ ?_
    | with_reducible refine Fits.ite_snd _ ?_ ?_
    | split
    | extract_lets
    | (dsimp +zetaDelta only)

theorem edgeFires_fits {fp : Nat} {s00 s : State} (hb : within 24610 fp = true) (h : Fits fp s00 s) (e : Nat) :
    Fits fp s00 (edgeFires s e) := by
  unfold edgeFires
  repeat' first
    | with_reducible assumption
    | with_reducible refine edgeAct_fits (within_trans (by decide) hb) ?_ _
    | with_reducible refine flightRun_fits (within_trans (by decide) hb) ?_ _ _ (fun _ _ => ?_)
    | with_reducible refine State.setFlights_fits (within_trans (by decide) hb) ?_ _
    | with_reducible refine Fits.ite _ ?_ ?_
    | split
    | extract_lets
    | (dsimp +zetaDelta only)

theorem actionRun_fits {fp : Nat} {s00 s : State} (hb : within 25190826 fp = true) (h : Fits fp s00 s) (e : Nat) :
    Fits fp s00 (actionRun s e) := by
  unfold actionRun
  repeat' first
    | with_reducible assumption
    | with_reducible refine flightRun_fits (within_trans (by decide) hb) ?_ _ _ (fun _ _ => ?_)
    | with_reducible refine State.setToS_fits (within_trans (by decide) hb) ?_ _
    | with_reducible refine State.setFlights_fits (within_trans (by decide) hb) ?_ _
    | with_reducible refine schedDispatch_fits (within_trans (by decide) hb) ?_ _
    | with_reducible refine schedAct_fits (within_trans (by decide) hb) ?_ _ _ _
    | with_reducible refine schedDrop_fits (within_trans (by decide) hb) ?_ _
    | with_reducible refine schedRan_fits (within_trans (by decide) hb) ?_ _ _ _ _
    | with_reducible refine schedNext_fits (within_trans (by decide) hb) ?_ _
    | with_reducible refine Fits.ite _ ?_ ?_
    | split
    | extract_lets
    | (dsimp +zetaDelta only)

theorem actionDue_fits {fp : Nat} {s00 s : State} (hb : within 25190826 fp = true) (h : Fits fp s00 s) (e : Nat) :
    Fits fp s00 (actionDue s e) := by
  unfold actionDue
  repeat' first
    | with_reducible assumption
    | with_reducible refine actionRun_fits hb ?_ _
    | with_reducible refine Fits.many ?_ _ _ (fun _ _ _ => ?_)
    | with_reducible refine Fits.ite _ ?_ ?_
    | split
    | extract_lets
    | (dsimp +zetaDelta only)

theorem schedArrives_fits {fp : Nat} {s00 s : State} (hb : within 17510 fp = true) (h : Fits fp s00 s) (e : Nat) :
    Fits fp s00 (schedArrives s e) := by
  unfold schedArrives
  repeat' first
    | with_reducible assumption
    | with_reducible refine State.setToS_fits (within_trans (by decide) hb) ?_ _
    | with_reducible refine schedTell_fits (within_trans (by decide) hb) ?_ _ _ _ _ _
    | with_reducible refine State.setSched_fits (within_trans (by decide) hb) ?_ _ _
    | with_reducible refine dpTamp_fits (within_trans (by decide) hb) ?_ _ _
    | with_reducible refine dpQueue_fits (within_trans (by decide) hb) ?_ _ _
    | with_reducible refine carried_fits (within_trans (by decide) hb) ?_ _ _ _ _ (fun _ _ => ?_)
    | with_reducible refine Fits.ite _ ?_ ?_
    | split
    | extract_lets
    | (dsimp +zetaDelta only)
    | with_reducible refine Fits.set_sched (within_trans (by decide) hb) ?_ _ (by simp only [length_upd, List.length_set, List.length_map, List.length_zipIdx, List.length_cons])

theorem schedPlaced_fits {fp : Nat} {s00 s : State} (hb : within 16384 fp = true) (h : Fits fp s00 s) (k : Nat) :
    Fits fp s00 (schedPlaced s k) := by
  unfold schedPlaced
  repeat' first
    | with_reducible assumption
    | with_reducible refine State.setSched_fits hb ?_ _ _
    | with_reducible refine Fits.many ?_ _ _ (fun _ _ _ => ?_)
    | with_reducible refine Fits.ite _ ?_ ?_
    | split
    | extract_lets
    | (dsimp +zetaDelta only)
    | with_reducible refine Fits.set_sched (within_trans (by decide) hb) ?_ _ (by simp only [length_upd, List.length_set, List.length_map, List.length_zipIdx, List.length_cons])

end Sys2Proof.Machine
end

