-- ==== Sys2Proof/Laws/FitsFabPorts.lean ====
section
/-! SUPPORT. What each operation of Machine/FabPorts.lean may touch, and the invariants that it keeps. -/

set_option linter.unusedSimpArgs false
set_option linter.unusedVariables false

namespace Sys2Proof.Machine

theorem State.setPort_fits {fp : Nat} {s00 s : State} (hb : within 131072 fp = true) (h : Fits fp s00 s) (p : Nat) (f : FabPort → FabPort) :
    Fits fp s00 (State.setPort s p f) := by
  unfold State.setPort
  repeat' first
    | with_reducible assumption
    | with_reducible refine State.setFab_fits hb ?_ _ (fun _ => ⟨by first | rfl | simp only [length_upd, List.length_set, List.length_map], by first | rfl | simp only [length_upd, List.length_set, List.length_map]⟩)
    | with_reducible refine Fits.ite _ ?_ ?_
    | split
    | extract_lets
    | (dsimp +zetaDelta only)

theorem sendCredit_fits {fp : Nat} {s00 s : State} (hb : within 8 fp = true) (h : Fits fp s00 s) (p : Nat) (c : Nat) :
    Fits fp s00 (sendCredit s p c) := by
  unfold sendCredit
  repeat' first
    | with_reducible assumption
    | with_reducible refine State.send_fits hb ?_ _
    | with_reducible refine Fits.ite _ ?_ ?_
    | split
    | extract_lets
    | (dsimp +zetaDelta only)

theorem fabFree_fits {fp : Nat} {s00 s : State} (hb : within 131080 fp = true) (h : Fits fp s00 s) (p : Nat) (c : Nat) (cells : Nat) :
    Fits fp s00 (fabFree s p c cells) := by
  unfold fabFree
  repeat' first
    | with_reducible assumption
    | with_reducible refine sendCredit_fits (within_trans (by decide) hb) ?_ _ _
    | with_reducible refine State.setPort_fits (within_trans (by decide) hb) ?_ _ _
    | with_reducible refine Fits.ite _ ?_ ?_
    | split
    | extract_lets
    | (dsimp +zetaDelta only)

theorem fabRelease_fits {fp : Nat} {s00 s : State} (hb : within 131080 fp = true) (h : Fits fp s00 s) (t : TxFrame) :
    Fits fp s00 (fabRelease s t) := by
  unfold fabRelease
  repeat' first
    | with_reducible assumption
    | with_reducible refine fabFree_fits hb ?_ _ _ _
    | with_reducible refine Fits.ite _ ?_ ?_
    | split
    | extract_lets
    | (dsimp +zetaDelta only)

theorem fabPump_fits {fp : Nat} {s00 s : State} (hb : within 131080 fp = true) (h : Fits fp s00 s) (p : Nat) (x0 : Nat) :
    Fits fp s00 (fabPump s p x0) := by
  induction x0 generalizing s with
  | zero =>
    unfold fabPump
    exact h
  | succ n ih =>
    unfold fabPump
    split
    · exact h
    · split
      · exact h
      · split
        · exact h
        · exact ih (fabRelease_fits (within_trans (by decide) hb) (State.send_fits (within_trans (by decide) hb)
            (State.setPort_fits (within_trans (by decide) hb) h _ _) _) _)

theorem fabPumpAll_fits {fp : Nat} {s00 s : State} (hb : within 131080 fp = true) (h : Fits fp s00 s)  :
    Fits fp s00 (fabPumpAll s) := by
  unfold fabPumpAll
  repeat' first
    | with_reducible assumption
    | with_reducible refine fabPump_fits hb ?_ _ _
    | with_reducible refine Fits.many ?_ _ _ (fun _ _ _ => ?_)
    | with_reducible refine Fits.ite _ ?_ ?_
    | split
    | extract_lets
    | (dsimp +zetaDelta only)

theorem fabQueue_fits {fp : Nat} {s00 s : State} (hb : within 131080 fp = true) (h : Fits fp s00 s) (p : Nat) (t : TxFrame) :
    Fits fp s00 (fabQueue s p t) := by
  unfold fabQueue
  repeat' first
    | with_reducible assumption
    | with_reducible refine fabPump_fits hb ?_ _ _
    | with_reducible refine State.setPort_fits (within_trans (by decide) hb) ?_ _ _
    | with_reducible refine Fits.ite _ ?_ ?_
    | split
    | extract_lets
    | (dsimp +zetaDelta only)

theorem fabLocal_fits {fp : Nat} {s00 s : State} (hb : within 131080 fp = true) (h : Fits fp s00 s) (p : Nat) (cls : Nat) (type_ : Nat) (payload : List Nat) :
    Fits fp s00 (fabLocal s p cls type_ payload) := by
  unfold fabLocal
  repeat' first
    | with_reducible assumption
    | with_reducible refine fabQueue_fits hb ?_ _ _
    | with_reducible refine Fits.ite _ ?_ ?_
    | split
    | extract_lets
    | (dsimp +zetaDelta only)

theorem fabRoles_fits {fp : Nat} {s00 s : State} (hb : within 2 fp = true) (h : Fits fp s00 s)  :
    Fits fp s00 (fabRoles s) := by
  unfold fabRoles
  repeat' first
    | with_reducible assumption
    | with_reducible refine State.put_fits hb ?_ _ _
    | with_reducible refine Fits.many ?_ _ _ (fun _ _ _ => ?_)
    | with_reducible refine Fits.ite _ ?_ ?_
    | split
    | extract_lets
    | (dsimp +zetaDelta only)

theorem fabBroadcast_fits {fp : Nat} {s00 s : State} (hb : within 131080 fp = true) (h : Fits fp s00 s) (cls : Nat) (type_ : Nat) (payload : List Nat) (but : Option Nat) :
    Fits fp s00 (fabBroadcast s cls type_ payload but) := by
  unfold fabBroadcast
  repeat' first
    | with_reducible assumption
    | with_reducible refine fabQueue_fits hb ?_ _ _
    | with_reducible refine Fits.many ?_ _ _ (fun _ _ _ => ?_)
    | with_reducible refine Fits.ite _ ?_ ?_
    | split
    | extract_lets
    | (dsimp +zetaDelta only)

theorem routeChange_fits {fp : Nat} {s00 s : State} (hb : within 131072 fp = true) (h : Fits fp s00 s)  :
    Fits fp s00 (routeChange s) := by
  unfold routeChange
  repeat' first
    | with_reducible assumption
    | with_reducible refine State.setFab_fits hb ?_ _ (fun _ => ⟨by first | rfl | simp only [length_upd, List.length_set, List.length_map], by first | rfl | simp only [length_upd, List.length_set, List.length_map]⟩)
    | with_reducible refine Fits.ite _ ?_ ?_
    | split
    | extract_lets
    | (dsimp +zetaDelta only)

theorem norouteDrop_fits {fp : Nat} {s00 s : State} (hb : within 131114 fp = true) (h : Fits fp s00 s) (t : TxFrame) :
    Fits fp s00 (norouteDrop s t) := by
  unfold norouteDrop
  repeat' first
    | with_reducible assumption
    | with_reducible refine fabRelease_fits (within_trans (by decide) hb) ?_ _
    | with_reducible refine State.raise_fits (within_trans (by decide) hb) ?_ _ _ _ _
    | with_reducible refine State.setFab_fits (within_trans (by decide) hb) ?_ _ (fun _ => ⟨by first | rfl | simp only [length_upd, List.length_set, List.length_map], by first | rfl | simp only [length_upd, List.length_set, List.length_map]⟩)
    | with_reducible refine State.hist_fits (within_trans (by decide) hb) ?_ _ _
    | with_reducible refine State.inc_fits (within_trans (by decide) hb) ?_ _ _ _
    | with_reducible refine Fits.when ?_ _ _ (fun _ _ => ?_)
    | with_reducible refine Fits.ite _ ?_ ?_
    | split
    | extract_lets
    | (dsimp +zetaDelta only)

theorem fabRoute_fits {fp : Nat} {s00 s : State} (hb : within 131114 fp = true) (h : Fits fp s00 s) (t : TxFrame) :
    Fits fp s00 (fabRoute s t) := by
  unfold fabRoute
  repeat' first
    | with_reducible assumption
    | with_reducible refine norouteDrop_fits hb ?_ _
    | with_reducible refine fabQueue_fits (within_trans (by decide) hb) ?_ _ _
    | with_reducible refine State.setFab_fits (within_trans (by decide) hb) ?_ _ (fun _ => ⟨by first | rfl | simp only [length_upd, List.length_set, List.length_map], by first | rfl | simp only [length_upd, List.length_set, List.length_map]⟩)
    | with_reducible refine Fits.ite _ ?_ ?_
    | split
    | extract_lets
    | (dsimp +zetaDelta only)

theorem fabSendTo_fits {fp : Nat} {s00 s : State} (hb : within 131114 fp = true) (h : Fits fp s00 s) (dest : Nat) (cls : Nat) (type_ : Nat) (payload : List Nat) :
    Fits fp s00 (fabSendTo s dest cls type_ payload) := by
  unfold fabSendTo
  repeat' first
    | with_reducible assumption
    | with_reducible refine fabRoute_fits hb ?_ _
    | with_reducible refine Fits.ite _ ?_ ?_
    | split
    | extract_lets
    | (dsimp +zetaDelta only)

theorem pendingExpiry_fits {fp : Nat} {s00 s : State} (hb : within 131114 fp = true) (h : Fits fp s00 s)  :
    Fits fp s00 (pendingExpiry s) := by
  unfold pendingExpiry
  repeat' first
    | with_reducible assumption
    | with_reducible refine norouteDrop_fits hb ?_ _
    | with_reducible refine State.setFab_fits (within_trans (by decide) hb) ?_ _ (fun _ => ⟨by first | rfl | simp only [length_upd, List.length_set, List.length_map], by first | rfl | simp only [length_upd, List.length_set, List.length_map]⟩)
    | with_reducible refine Fits.ite _ ?_ ?_
    | split
    | extract_lets
    | (dsimp +zetaDelta only)

theorem boundaryQueues_fits {fp : Nat} {s00 s : State} (hb : within 131114 fp = true) (h : Fits fp s00 s) (p : Nat) :
    Fits fp s00 (boundaryQueues s p) := by
  unfold boundaryQueues
  repeat' first
    | with_reducible assumption
    | with_reducible refine fabRoute_fits hb ?_ _
    | with_reducible refine fabRelease_fits (within_trans (by decide) hb) ?_ _
    | with_reducible refine State.setPort_fits (within_trans (by decide) hb) ?_ _ _
    | with_reducible refine Fits.many ?_ _ _ (fun _ _ _ => ?_)
    | with_reducible refine Fits.ite _ ?_ ?_
    | split
    | extract_lets
    | (dsimp +zetaDelta only)

theorem sendRoutes_fits {fp : Nat} {s00 s : State} (hb : within 131080 fp = true) (h : Fits fp s00 s) (p : Nat) :
    Fits fp s00 (sendRoutes s p) := by
  unfold sendRoutes
  repeat' first
    | with_reducible assumption
    | with_reducible refine fabLocal_fits hb ?_ _ _ _ _
    | with_reducible refine State.setPort_fits (within_trans (by decide) hb) ?_ _ _
    | with_reducible refine Fits.many ?_ _ _ (fun _ _ _ => ?_)
    | with_reducible refine Fits.ite _ ?_ ?_
    | split
    | extract_lets
    | (dsimp +zetaDelta only)

theorem routeNews_fits {fp : Nat} {s00 s : State} (hb : within 131080 fp = true) (h : Fits fp s00 s) (p : Nat) :
    Fits fp s00 (routeNews s p) := by
  unfold routeNews
  repeat' first
    | with_reducible assumption
    | with_reducible refine sendRoutes_fits hb ?_ _
    | with_reducible refine State.setPort_fits (within_trans (by decide) hb) ?_ _ _
    | with_reducible refine Fits.ite _ ?_ ?_
    | split
    | extract_lets
    | (dsimp +zetaDelta only)

theorem routesOwed_fits {fp : Nat} {s00 s : State} (hb : within 131080 fp = true) (h : Fits fp s00 s)  :
    Fits fp s00 (routesOwed s) := by
  unfold routesOwed
  repeat' first
    | with_reducible assumption
    | with_reducible refine routeNews_fits hb ?_ _
    | with_reducible refine Fits.many ?_ _ _ (fun _ _ _ => ?_)
    | with_reducible refine Fits.ite _ ?_ ?_
    | split
    | extract_lets
    | (dsimp +zetaDelta only)

theorem routeUpdateTimer_fits {fp : Nat} {s00 s : State} (hb : within 131080 fp = true) (h : Fits fp s00 s)  :
    Fits fp s00 (routeUpdateTimer s) := by
  unfold routeUpdateTimer
  repeat' first
    | with_reducible assumption
    | with_reducible refine sendRoutes_fits hb ?_ _
    | with_reducible refine Fits.many ?_ _ _ (fun _ _ _ => ?_)
    | with_reducible refine Fits.ite _ ?_ ?_
    | split
    | extract_lets
    | (dsimp +zetaDelta only)

theorem rebuildDone_fits {fp : Nat} {s00 s : State} (hb : within 131114 fp = true) (h : Fits fp s00 s)  :
    Fits fp s00 (rebuildDone s) := by
  unfold rebuildDone
  repeat' first
    | with_reducible assumption
    | with_reducible refine routeNews_fits (within_trans (by decide) hb) ?_ _
    | with_reducible refine fabRoute_fits hb ?_ _
    | with_reducible refine routeChange_fits (within_trans (by decide) hb) ?_
    | with_reducible refine progPos_fits (within_trans (by decide) hb) ?_ _ _
    | with_reducible refine State.setFab_fits (within_trans (by decide) hb) ?_ _ (fun _ => ⟨by first | rfl | simp only [length_upd, List.length_set, List.length_map], by first | rfl | simp only [length_upd, List.length_set, List.length_map]⟩)
    | with_reducible refine State.inc_fits (within_trans (by decide) hb) ?_ _ _ _
    | with_reducible refine State.put_fits (within_trans (by decide) hb) ?_ _ _
    | with_reducible refine Fits.many ?_ _ _ (fun _ _ _ => ?_)
    | with_reducible refine Fits.when ?_ _ _ (fun _ _ => ?_)
    | with_reducible refine Fits.ite _ ?_ ?_
    | split
    | extract_lets
    | (dsimp +zetaDelta only)

theorem routeUpdate_fits {fp : Nat} {s00 s : State} (hb : within 131072 fp = true) (h : Fits fp s00 s) (p : Nat) (d : Datum) :
    Fits fp s00 (routeUpdate s p d) := by
  unfold routeUpdate
  repeat' first
    | with_reducible assumption
    | with_reducible refine routeChange_fits hb ?_
    | with_reducible refine State.setPort_fits hb ?_ _ _
    | with_reducible refine State.setFab_fits hb ?_ _ (fun _ => ⟨by first | rfl | simp only [length_upd, List.length_set, List.length_map], by first | rfl | simp only [length_upd, List.length_set, List.length_map]⟩)
    | with_reducible refine Fits.foldl_snd _ (fun _ _ _ => ?_) _ ?_
    | with_reducible refine Fits.foldl _ (fun _ _ _ => ?_) _ ?_
    | with_reducible refine Fits.ite _ ?_ ?_
    | split
    | extract_lets
    | (dsimp +zetaDelta only)

theorem routeExpiry_fits {fp : Nat} {s00 s : State} (hb : within 131072 fp = true) (h : Fits fp s00 s) (p : Nat) (a : Nat) :
    Fits fp s00 (routeExpiry s p a) := by
  unfold routeExpiry
  repeat' first
    | with_reducible assumption
    | with_reducible refine routeChange_fits hb ?_
    | with_reducible refine State.setPort_fits hb ?_ _ _
    | with_reducible refine Fits.ite _ ?_ ?_
    | split
    | extract_lets
    | (dsimp +zetaDelta only)

theorem discoveryStart_fits {fp : Nat} {s00 s : State} (hb : within 2 fp = true) (h : Fits fp s00 s)  :
    Fits fp s00 (discoveryStart s) := by
  unfold discoveryStart
  repeat' first
    | with_reducible assumption
    | with_reducible refine progPos_fits hb ?_ _ _
    | with_reducible refine progStart_fits hb ?_ _ _ _
    | with_reducible refine Fits.ite _ ?_ ?_
    | split
    | extract_lets
    | (dsimp +zetaDelta only)

theorem setAddress_fits {fp : Nat} {s00 s : State} (hb : within 131074 fp = true) (h : Fits fp s00 s) (a : Nat) :
    Fits fp s00 (setAddress s a) := by
  unfold setAddress
  repeat' first
    | with_reducible assumption
    | with_reducible refine discoveryStart_fits (within_trans (by decide) hb) ?_
    | with_reducible refine routeChange_fits (within_trans (by decide) hb) ?_
    | with_reducible refine State.hist_fits (within_trans (by decide) hb) ?_ _ _
    | with_reducible refine State.put_fits (within_trans (by decide) hb) ?_ _ _
    | with_reducible refine Fits.ite _ ?_ ?_
    | split
    | extract_lets
    | (dsimp +zetaDelta only)

theorem sendGrant_fits {fp : Nat} {s00 s : State} (hb : within 131080 fp = true) (h : Fits fp s00 s) (p : Nat) (id : Nat) (a : Nat) :
    Fits fp s00 (sendGrant s p id a) := by
  unfold sendGrant
  repeat' first
    | with_reducible assumption
    | with_reducible refine fabLocal_fits hb ?_ _ _ _ _
    | with_reducible refine Fits.ite _ ?_ ?_
    | split
    | extract_lets
    | (dsimp +zetaDelta only)

theorem noAddress_fits {fp : Nat} {s00 s : State} (hb : within 131106 fp = true) (h : Fits fp s00 s)  :
    Fits fp s00 (noAddress s) := by
  unfold noAddress
  repeat' first
    | with_reducible assumption
    | with_reducible refine setAddress_fits (within_trans (by decide) hb) ?_ _
    | with_reducible refine progEnd_fits (within_trans (by decide) hb) ?_ _ _ _
    | with_reducible refine State.raise_fits (within_trans (by decide) hb) ?_ _ _ _ _
    | with_reducible refine State.hist_fits (within_trans (by decide) hb) ?_ _ _
    | with_reducible refine Fits.ite _ ?_ ?_
    | split
    | extract_lets
    | (dsimp +zetaDelta only)

theorem takeGrant_fits {fp : Nat} {s00 s : State} (hb : within 131106 fp = true) (h : Fits fp s00 s) (a : Nat) :
    Fits fp s00 (takeGrant s a) := by
  unfold takeGrant
  repeat' first
    | with_reducible assumption
    | with_reducible refine noAddress_fits hb ?_
    | with_reducible refine setAddress_fits (within_trans (by decide) hb) ?_ _
    | with_reducible refine Fits.ite _ ?_ ?_
    | split
    | extract_lets
    | (dsimp +zetaDelta only)

theorem giveGrant_fits {fp : Nat} {s00 s : State} (hb : within 131114 fp = true) (h : Fits fp s00 s) (id : Nat) (a : Nat) :
    Fits fp s00 (giveGrant s id a) := by
  unfold giveGrant
  repeat' first
    | with_reducible assumption
    | with_reducible refine takeGrant_fits (within_trans (by decide) hb) ?_ _
    | with_reducible refine sendGrant_fits (within_trans (by decide) hb) ?_ _ _ _
    | with_reducible refine Fits.ite _ ?_ ?_
    | split
    | extract_lets
    | (dsimp +zetaDelta only)

theorem assign_fits {fp : Nat} {s00 s : State} (hb : within 131114 fp = true) (h : Fits fp s00 s) (id : Nat) (want : Nat) :
    Fits fp s00 (assign s id want) := by
  unfold assign
  repeat' first
    | with_reducible assumption
    | with_reducible refine giveGrant_fits hb ?_ _ _
    | with_reducible refine State.setFab_fits (within_trans (by decide) hb) ?_ _ (fun _ => ⟨by first | rfl | simp only [length_upd, List.length_set, List.length_map], by first | rfl | simp only [length_upd, List.length_set, List.length_map]⟩)
    | with_reducible refine Fits.ite _ ?_ ?_
    | split
    | extract_lets
    | (dsimp +zetaDelta only)

theorem requestAddress_fits {fp : Nat} {s00 s : State} (hb : within 131114 fp = true) (h : Fits fp s00 s)  :
    Fits fp s00 (requestAddress s) := by
  unfold requestAddress
  repeat' first
    | with_reducible assumption
    | with_reducible refine assign_fits hb ?_ _ _
    | with_reducible refine fabLocal_fits (within_trans (by decide) hb) ?_ _ _ _ _
    | with_reducible refine State.setFab_fits (within_trans (by decide) hb) ?_ _ (fun _ => ⟨by first | rfl | simp only [length_upd, List.length_set, List.length_map], by first | rfl | simp only [length_upd, List.length_set, List.length_map]⟩)
    | with_reducible refine Fits.ite _ ?_ ?_
    | split
    | extract_lets
    | (dsimp +zetaDelta only)

theorem askAgain_fits {fp : Nat} {s00 s : State} (hb : within 131114 fp = true) (h : Fits fp s00 s)  :
    Fits fp s00 (askAgain s) := by
  unfold askAgain
  repeat' first
    | with_reducible assumption
    | with_reducible refine requestAddress_fits hb ?_
    | with_reducible refine State.setFab_fits (within_trans (by decide) hb) ?_ _ (fun _ => ⟨by first | rfl | simp only [length_upd, List.length_set, List.length_map], by first | rfl | simp only [length_upd, List.length_set, List.length_map]⟩)
    | with_reducible refine Fits.ite _ ?_ ?_
    | split
    | extract_lets
    | (dsimp +zetaDelta only)

theorem addressRetry_fits {fp : Nat} {s00 s : State} (hb : within 131114 fp = true) (h : Fits fp s00 s)  :
    Fits fp s00 (addressRetry s) := by
  unfold addressRetry
  repeat' first
    | with_reducible assumption
    | with_reducible refine askAgain_fits hb ?_
    | with_reducible refine requestAddress_fits hb ?_
    | with_reducible refine Fits.ite _ ?_ ?_
    | split
    | extract_lets
    | (dsimp +zetaDelta only)

theorem addressRequest_fits {fp : Nat} {s00 s : State} (hb : within 131114 fp = true) (h : Fits fp s00 s) (p : Nat) (d : Datum) :
    Fits fp s00 (addressRequest s p d) := by
  unfold addressRequest
  repeat' first
    | with_reducible assumption
    | with_reducible refine assign_fits hb ?_ _ _
    | with_reducible refine fabLocal_fits (within_trans (by decide) hb) ?_ _ _ _ _
    | with_reducible refine State.setFab_fits (within_trans (by decide) hb) ?_ _ (fun _ => ⟨by first | rfl | simp only [length_upd, List.length_set, List.length_map], by first | rfl | simp only [length_upd, List.length_set, List.length_map]⟩)
    | with_reducible refine Fits.ite _ ?_ ?_
    | split
    | extract_lets
    | (dsimp +zetaDelta only)

theorem addressGrant_fits {fp : Nat} {s00 s : State} (hb : within 131114 fp = true) (h : Fits fp s00 s) (_p : Nat) (d : Datum) :
    Fits fp s00 (addressGrant s _p d) := by
  unfold addressGrant
  repeat' first
    | with_reducible assumption
    | with_reducible refine giveGrant_fits hb ?_ _ _
    | with_reducible refine takeGrant_fits (within_trans (by decide) hb) ?_ _
    | with_reducible refine Fits.ite _ ?_ ?_
    | split
    | extract_lets
    | (dsimp +zetaDelta only)

theorem addressHold_fits {fp : Nat} {s00 s : State} (hb : within 131072 fp = true) (h : Fits fp s00 s) (id : Nat) :
    Fits fp s00 (addressHold s id) := by
  unfold addressHold
  repeat' first
    | with_reducible assumption
    | with_reducible refine State.setFab_fits hb ?_ _ (fun _ => ⟨by first | rfl | simp only [length_upd, List.length_set, List.length_map], by first | rfl | simp only [length_upd, List.length_set, List.length_map]⟩)
    | with_reducible refine Fits.ite _ ?_ ?_
    | split
    | extract_lets
    | (dsimp +zetaDelta only)

theorem discoveryDone_fits {fp : Nat} {s00 s : State} (hb : within 2 fp = true) (h : Fits fp s00 s)  :
    Fits fp s00 (discoveryDone s) := by
  unfold discoveryDone
  repeat' first
    | with_reducible assumption
    | with_reducible refine progSet_fits hb ?_ _ _ _ _ _ _
    | with_reducible refine State.hist_fits hb ?_ _ _
    | with_reducible refine Fits.ite _ ?_ ?_
    | split
    | extract_lets
    | (dsimp +zetaDelta only)

theorem gradeMode_fits {fp : Nat} {s00 s : State} (hb : within 2 fp = true) (h : Fits fp s00 s) (v : Nat) :
    Fits fp s00 (gradeMode s v) := by
  unfold gradeMode
  repeat' first
    | with_reducible assumption
    | with_reducible refine State.put_fits hb ?_ _ _
    | with_reducible refine Fits.ite _ ?_ ?_
    | split
    | extract_lets
    | (dsimp +zetaDelta only)

theorem fabContexts_fits {fp : Nat} {s00 s : State} (hb : within 2338 fp = true) (h : Fits fp s00 s) (quiet : Bool) :
    Fits fp s00 (fabContexts s quiet) := by
  unfold fabContexts
  repeat' first
    | with_reducible assumption
    | with_reducible refine ctxMasterChange_fits (within_trans (by decide) hb) ?_ _
    | with_reducible refine ctxRefresh_fits (within_trans (by decide) hb) ?_ _
    | with_reducible refine State.putCtxRec_fits (within_trans (by decide) hb) ?_ _ _ _ _
    | with_reducible refine State.setCtx_fits (within_trans (by decide) hb) ?_ _ _
    | with_reducible refine State.setTc_fits (within_trans (by decide) hb) ?_ _ _
    | with_reducible refine Fits.many ?_ _ _ (fun _ _ _ => ?_)
    | with_reducible refine Fits.ite _ ?_ ?_
    | split
    | extract_lets
    | (dsimp +zetaDelta only)

theorem elect_fits {fp : Nat} {s00 s : State} (hb : within 133418 fp = true) (h : Fits fp s00 s)  :
    Fits fp s00 (elect s) := by
  unfold elect
  repeat' first
    | with_reducible assumption
    | with_reducible refine fabContexts_fits (within_trans (by decide) hb) ?_ _
    | with_reducible refine requestAddress_fits (within_trans (by decide) hb) ?_
    | with_reducible refine discoveryStart_fits (within_trans (by decide) hb) ?_
    | with_reducible refine fabRoles_fits (within_trans (by decide) hb) ?_
    | with_reducible refine State.raise_fits (within_trans (by decide) hb) ?_ _ _ _ _
    | with_reducible refine State.setFab_fits (within_trans (by decide) hb) ?_ _ (fun _ => ⟨by first | rfl | simp only [length_upd, List.length_set, List.length_map], by first | rfl | simp only [length_upd, List.length_set, List.length_map]⟩)
    | with_reducible refine State.hist_fits (within_trans (by decide) hb) ?_ _ _
    | with_reducible refine State.inc_fits (within_trans (by decide) hb) ?_ _ _ _
    | with_reducible refine State.put_fits (within_trans (by decide) hb) ?_ _ _
    | with_reducible refine Fits.many ?_ _ _ (fun _ _ _ => ?_)
    | with_reducible refine Fits.ite _ ?_ ?_
    | split
    | extract_lets
    | (dsimp +zetaDelta only)

theorem gradeFollow_fits {fp : Nat} {s00 s : State} (hb : within 133418 fp = true) (h : Fits fp s00 s)  :
    Fits fp s00 (gradeFollow s) := by
  unfold gradeFollow
  repeat' first
    | with_reducible assumption
    | with_reducible refine elect_fits hb ?_
    | with_reducible refine Fits.ite _ ?_ ?_
    | split
    | extract_lets
    | (dsimp +zetaDelta only)

theorem fabContextOn_fits {fp : Nat} {s00 s : State} (hb : within 2338 fp = true) (h : Fits fp s00 s) (c : Nat) :
    Fits fp s00 (fabContextOn s c) := by
  unfold fabContextOn
  repeat' first
    | with_reducible assumption
    | with_reducible refine fabContexts_fits hb ?_ _
    | with_reducible refine Fits.ite _ ?_ ?_
    | split
    | extract_lets
    | (dsimp +zetaDelta only)

theorem hearRoot_fits {fp : Nat} {s00 s : State} (hb : within 131072 fp = true) (h : Fits fp s00 s) (p : Nat) (root : Nat) (grade : Nat) (seq : Nat) :
    Fits fp s00 (hearRoot s p root grade seq) := by
  unfold hearRoot
  repeat' first
    | with_reducible assumption
    | with_reducible refine State.setPort_fits hb ?_ _ _
    | with_reducible refine State.setFab_fits hb ?_ _ (fun _ => ⟨by first | rfl | simp only [length_upd, List.length_set, List.length_map], by first | rfl | simp only [length_upd, List.length_set, List.length_map]⟩)
    | with_reducible refine Fits.ite _ ?_ ?_
    | split
    | extract_lets
    | (dsimp +zetaDelta only)

theorem helloTimer_fits {fp : Nat} {s00 s : State} (hb : within 131080 fp = true) (h : Fits fp s00 s)  :
    Fits fp s00 (helloTimer s) := by
  unfold helloTimer
  repeat' first
    | with_reducible assumption
    | with_reducible refine fabLocal_fits hb ?_ _ _ _ _
    | with_reducible refine Fits.many ?_ _ _ (fun _ _ _ => ?_)
    | with_reducible refine Fits.ite _ ?_ ?_
    | split
    | extract_lets
    | (dsimp +zetaDelta only)

theorem rootSeqTimer_fits {fp : Nat} {s00 s : State} (hb : within 131072 fp = true) (h : Fits fp s00 s)  :
    Fits fp s00 (rootSeqTimer s) := by
  unfold rootSeqTimer
  repeat' first
    | with_reducible assumption
    | with_reducible refine State.setFab_fits hb ?_ _ (fun _ => ⟨by first | rfl | simp only [length_upd, List.length_set, List.length_map], by first | rfl | simp only [length_upd, List.length_set, List.length_map]⟩)
    | with_reducible refine Fits.ite _ ?_ ?_
    | split
    | extract_lets
    | (dsimp +zetaDelta only)

theorem rootTimeout_fits {fp : Nat} {s00 s : State} (hb : within 133418 fp = true) (h : Fits fp s00 s)  :
    Fits fp s00 (rootTimeout s) := by
  unfold rootTimeout
  repeat' first
    | with_reducible assumption
    | with_reducible refine elect_fits hb ?_
    | with_reducible refine State.setFab_fits (within_trans (by decide) hb) ?_ _ (fun _ => ⟨by first | rfl | simp only [length_upd, List.length_set, List.length_map], by first | rfl | simp only [length_upd, List.length_set, List.length_map]⟩)
    | with_reducible refine Fits.ite _ ?_ ?_
    | split
    | extract_lets
    | (dsimp +zetaDelta only)

theorem portState_fits {fp : Nat} {s00 s : State} (hb : within 2 fp = true) (h : Fits fp s00 s) (p : Nat) (st : Nat) :
    Fits fp s00 (portState s p st) := by
  unfold portState
  repeat' first
    | with_reducible assumption
    | with_reducible refine discoveryStart_fits hb ?_
    | with_reducible refine State.hist_fits hb ?_ _ _
    | with_reducible refine State.put_fits hb ?_ _ _
    | with_reducible refine Fits.ite _ ?_ ?_
    | split
    | extract_lets
    | (dsimp +zetaDelta only)

theorem leaveUp_fits {fp : Nat} {s00 s : State} (hb : within 134442 fp = true) (h : Fits fp s00 s) (p : Nat) (st : Nat) :
    Fits fp s00 (leaveUp s p st) := by
  unfold leaveUp
  repeat' first
    | with_reducible assumption
    | with_reducible refine portState_fits (within_trans (by decide) hb) ?_ _ _
    | with_reducible refine elect_fits (within_trans (by decide) hb) ?_
    | with_reducible refine routeChange_fits (within_trans (by decide) hb) ?_
    | with_reducible refine fabRoles_fits (within_trans (by decide) hb) ?_
    | with_reducible refine State.setPort_fits (within_trans (by decide) hb) ?_ _ _
    | with_reducible refine State.raise_fits (within_trans (by decide) hb) ?_ _ _ _ _
    | with_reducible refine Fits.ite _ ?_ ?_
    | split
    | extract_lets
    | (dsimp +zetaDelta only)
    | with_reducible refine Fits.set_dp (within_trans (by decide) hb) ?_ _ (by simp only [length_upd, List.length_set, List.length_map, List.length_zipIdx, List.length_cons]) (by simp only [length_upd, List.length_set, List.length_map, List.length_zipIdx, List.length_cons])

theorem fabMode_fits {fp : Nat} {s00 s : State} (hb : within 134442 fp = true) (h : Fits fp s00 s) (p : Nat) (v : Nat) :
    Fits fp s00 (fabMode s p v) := by
  unfold fabMode
  repeat' first
    | with_reducible assumption
    | with_reducible refine leaveUp_fits hb ?_ _ _
    | with_reducible refine portState_fits (within_trans (by decide) hb) ?_ _ _
    | with_reducible refine State.setPort_fits (within_trans (by decide) hb) ?_ _ _
    | with_reducible refine State.put_fits (within_trans (by decide) hb) ?_ _ _
    | with_reducible refine Fits.ite _ ?_ ?_
    | split
    | extract_lets
    | (dsimp +zetaDelta only)

theorem fabRetrain_fits {fp : Nat} {s00 s : State} (hb : within 134442 fp = true) (h : Fits fp s00 s) (p : Nat) :
    Fits fp s00 (fabRetrain s p) := by
  unfold fabRetrain
  repeat' first
    | with_reducible assumption
    | with_reducible refine leaveUp_fits hb ?_ _ _
    | with_reducible refine Fits.ite _ ?_ ?_
    | split
    | extract_lets
    | (dsimp +zetaDelta only)

theorem txFollow_fits {fp : Nat} {s00 s : State} (hb : within 134442 fp = true) (h : Fits fp s00 s) (p : Nat) :
    Fits fp s00 (txFollow s p) := by
  unfold txFollow
  repeat' first
    | with_reducible assumption
    | with_reducible refine fabRetrain_fits hb ?_ _
    | with_reducible refine State.setPort_fits (within_trans (by decide) hb) ?_ _ _
    | with_reducible refine State.put_fits (within_trans (by decide) hb) ?_ _ _
    | with_reducible refine Fits.ite _ ?_ ?_
    | split
    | extract_lets
    | (dsimp +zetaDelta only)

theorem txApllPut_fits {fp : Nat} {s00 s : State} (hb : within 134442 fp = true) (h : Fits fp s00 s) (p : Nat) (v : Nat) :
    Fits fp s00 (txApllPut s p v) := by
  unfold txApllPut
  repeat' first
    | with_reducible assumption
    | with_reducible refine txFollow_fits hb ?_ _
    | with_reducible refine State.put_fits (within_trans (by decide) hb) ?_ _ _
    | with_reducible refine Fits.ite _ ?_ ?_
    | split
    | extract_lets
    | (dsimp +zetaDelta only)

theorem auditClass_fits {fp : Nat} {s00 s : State} (hb : within 131106 fp = true) (h : Fits fp s00 s) (p : Nat) (c : Nat) (l : List Nat) :
    Fits fp s00 (auditClass s p c l) := by
  unfold auditClass
  repeat' first
    | with_reducible assumption
    | with_reducible refine State.setPort_fits (within_trans (by decide) hb) ?_ _ _
    | with_reducible refine State.raise_fits (within_trans (by decide) hb) ?_ _ _ _ _
    | with_reducible refine State.hist_fits (within_trans (by decide) hb) ?_ _ _
    | with_reducible refine State.incSat_fits (within_trans (by decide) hb) ?_ _ _ _
    | with_reducible refine Fits.ite _ ?_ ?_
    | split
    | extract_lets
    | (dsimp +zetaDelta only)

theorem fabAudit_fits {fp : Nat} {s00 s : State} (hb : within 131106 fp = true) (h : Fits fp s00 s) (p : Nat) (x : FabInit) :
    Fits fp s00 (fabAudit s p x) := by
  unfold fabAudit
  repeat' first
    | with_reducible assumption
    | with_reducible refine auditClass_fits hb ?_ _ _ _
    | with_reducible refine State.setPort_fits (within_trans (by decide) hb) ?_ _ _
    | with_reducible refine Fits.many ?_ _ _ (fun _ _ _ => ?_)
    | with_reducible refine Fits.ite _ ?_ ?_
    | split
    | extract_lets
    | (dsimp +zetaDelta only)

theorem blendBegin_fits {fp : Nat} {s00 s : State} (hb : within 2 fp = true) (h : Fits fp s00 s) (x : FabInit) :
    Fits fp s00 (blendBegin s x) := by
  unfold blendBegin
  repeat' first
    | with_reducible assumption
    | with_reducible refine State.hist_fits hb ?_ _ _
    | with_reducible refine State.put_fits hb ?_ _ _
    | with_reducible refine Fits.many ?_ _ _ (fun _ _ _ => ?_)
    | with_reducible refine Fits.ite _ ?_ ?_
    | split
    | extract_lets
    | (dsimp +zetaDelta only)

theorem sendInit_fits {fp : Nat} {s00 s : State} (hb : within 8 fp = true) (h : Fits fp s00 s) (p : Nat) :
    Fits fp s00 (sendInit s p) := by
  unfold sendInit
  repeat' first
    | with_reducible assumption
    | with_reducible refine State.send_fits hb ?_ _
    | with_reducible refine Fits.many ?_ _ _ (fun _ _ _ => ?_)
    | with_reducible refine Fits.ite _ ?_ ?_
    | split
    | extract_lets
    | (dsimp +zetaDelta only)

theorem fabTrained_fits {fp : Nat} {s00 s : State} (hb : within 134442 fp = true) (h : Fits fp s00 s) (p : Nat) (ok : Bool) (x : FabInit) :
    Fits fp s00 (fabTrained s p ok x) := by
  unfold fabTrained
  repeat' first
    | with_reducible assumption
    | with_reducible refine sendInit_fits (within_trans (by decide) hb) ?_ _
    | with_reducible refine blendBegin_fits (within_trans (by decide) hb) ?_ _
    | with_reducible refine fabAudit_fits (within_trans (by decide) hb) ?_ _ _
    | with_reducible refine portState_fits (within_trans (by decide) hb) ?_ _ _
    | with_reducible refine elect_fits (within_trans (by decide) hb) ?_
    | with_reducible refine boundaryQueues_fits (within_trans (by decide) hb) ?_ _
    | with_reducible refine routeChange_fits (within_trans (by decide) hb) ?_
    | with_reducible refine fabRoles_fits (within_trans (by decide) hb) ?_
    | with_reducible refine fabPumpAll_fits (within_trans (by decide) hb) ?_
    | with_reducible refine State.setPort_fits (within_trans (by decide) hb) ?_ _ _
    | with_reducible refine State.raise_fits (within_trans (by decide) hb) ?_ _ _ _ _
    | with_reducible refine State.hist_fits (within_trans (by decide) hb) ?_ _ _
    | with_reducible refine State.incSat_fits (within_trans (by decide) hb) ?_ _ _ _
    | with_reducible refine State.put_fits (within_trans (by decide) hb) ?_ _ _
    | with_reducible refine Fits.when ?_ _ _ (fun _ _ => ?_)
    | with_reducible refine Fits.ite _ ?_ ?_
    | split
    | extract_lets
    | (dsimp +zetaDelta only)
    | with_reducible refine Fits.set_dp (within_trans (by decide) hb) ?_ _ (by simp only [length_upd, List.length_set, List.length_map, List.length_zipIdx, List.length_cons]) (by simp only [length_upd, List.length_set, List.length_map, List.length_zipIdx, List.length_cons])

theorem fabRetry_fits {fp : Nat} {s00 s : State} (hb : within 131072 fp = true) (h : Fits fp s00 s) (p : Nat) :
    Fits fp s00 (fabRetry s p) := by
  unfold fabRetry
  repeat' first
    | with_reducible assumption
    | with_reducible refine State.setPort_fits hb ?_ _ _
    | with_reducible refine Fits.ite _ ?_ ?_
    | split
    | extract_lets
    | (dsimp +zetaDelta only)

theorem creditRx_fits {fp : Nat} {s00 s : State} (hb : within 131080 fp = true) (h : Fits fp s00 s) (p : Nat) (c : Nat) (freed : Nat) :
    Fits fp s00 (creditRx s p c freed) := by
  unfold creditRx
  repeat' first
    | with_reducible assumption
    | with_reducible refine fabPump_fits hb ?_ _ _
    | with_reducible refine State.setPort_fits (within_trans (by decide) hb) ?_ _ _
    | with_reducible refine Fits.ite _ ?_ ?_
    | split
    | extract_lets
    | (dsimp +zetaDelta only)

theorem creditReport_fits {fp : Nat} {s00 s : State} (hb : within 131080 fp = true) (h : Fits fp s00 s)  :
    Fits fp s00 (creditReport s) := by
  unfold creditReport
  repeat' first
    | with_reducible assumption
    | with_reducible refine fabPumpAll_fits hb ?_
    | with_reducible refine sendCredit_fits (within_trans (by decide) hb) ?_ _ _
    | with_reducible refine Fits.many ?_ _ _ (fun _ _ _ => ?_)
    | with_reducible refine Fits.ite _ ?_ ?_
    | split
    | extract_lets
    | (dsimp +zetaDelta only)

theorem portClear_fits {fp : Nat} {s00 s : State} (hb : within 2 fp = true) (h : Fits fp s00 s) (p : Nat) :
    Fits fp s00 (portClear s p) := by
  unfold portClear
  repeat' first
    | with_reducible assumption
    | with_reducible refine State.put_fits hb ?_ _ _
    | with_reducible refine Fits.many ?_ _ _ (fun _ _ _ => ?_)
    | with_reducible refine Fits.ite _ ?_ ?_
    | split
    | extract_lets
    | (dsimp +zetaDelta only)

theorem fabClear_fits {fp : Nat} {s00 s : State} (hb : within 2 fp = true) (h : Fits fp s00 s)  :
    Fits fp s00 (fabClear s) := by
  unfold fabClear
  repeat' first
    | with_reducible assumption
    | with_reducible refine portClear_fits hb ?_ _
    | with_reducible refine State.put_fits hb ?_ _ _
    | with_reducible refine Fits.many ?_ _ _ (fun _ _ _ => ?_)
    | with_reducible refine Fits.ite _ ?_ ?_
    | split
    | extract_lets
    | (dsimp +zetaDelta only)

theorem rediscover_fits {fp : Nat} {s00 s : State} (hb : within 131114 fp = true) (h : Fits fp s00 s)  :
    Fits fp s00 (rediscover s) := by
  unfold rediscover
  repeat' first
    | with_reducible assumption
    | with_reducible refine requestAddress_fits hb ?_
    | with_reducible refine setAddress_fits (within_trans (by decide) hb) ?_ _
    | with_reducible refine State.setFab_fits (within_trans (by decide) hb) ?_ _ (fun _ => ⟨by first | rfl | simp only [length_upd, List.length_set, List.length_map], by first | rfl | simp only [length_upd, List.length_set, List.length_map]⟩)
    | with_reducible refine Fits.ite _ ?_ ?_
    | split
    | extract_lets
    | (dsimp +zetaDelta only)

theorem slotCommit_fits {fp : Nat} {s00 s : State} (hb : within 131074 fp = true) (h : Fits fp s00 s) (p : Nat) :
    Fits fp s00 (slotCommit s p) := by
  unfold slotCommit
  repeat' first
    | with_reducible assumption
    | with_reducible refine State.setPort_fits (within_trans (by decide) hb) ?_ _ _
    | with_reducible refine State.put_fits (within_trans (by decide) hb) ?_ _ _
    | with_reducible refine Fits.ite _ ?_ ?_
    | split
    | extract_lets
    | (dsimp +zetaDelta only)

theorem slotBoundary_fits {fp : Nat} {s00 s : State} (hb : within 131074 fp = true) (h : Fits fp s00 s)  :
    Fits fp s00 (slotBoundary s) := by
  unfold slotBoundary
  repeat' first
    | with_reducible assumption
    | with_reducible refine State.setPort_fits (within_trans (by decide) hb) ?_ _ _
    | with_reducible refine State.hist_fits (within_trans (by decide) hb) ?_ _ _
    | with_reducible refine State.inc_fits (within_trans (by decide) hb) ?_ _ _ _
    | with_reducible refine State.put_fits (within_trans (by decide) hb) ?_ _ _
    | with_reducible refine Fits.many ?_ _ _ (fun _ _ _ => ?_)
    | with_reducible refine Fits.ite _ ?_ ?_
    | split
    | extract_lets
    | (dsimp +zetaDelta only)

end Sys2Proof.Machine
end

