-- ==== Sys2Proof/Laws/FitsFabNet.lean ====
section
/-! SUPPORT. What each operation of Machine/FabNet.lean may touch, and the invariants that it keeps. -/

set_option linter.unusedSimpArgs false
set_option linter.unusedVariables false

namespace Sys2Proof.Machine

theorem boundaryEnds_fits {fp : Nat} {s00 s : State} (hb : within 131074 fp = true) (h : Fits fp s00 s) (p : Nat) :
    Fits fp s00 (boundaryEnds s p) := by
  unfold boundaryEnds
  repeat' first
    | with_reducible assumption
    | with_reducible refine routeChange_fits (within_trans (by decide) hb) ?_
    | with_reducible refine State.setPort_fits (within_trans (by decide) hb) ?_ _ _
    | with_reducible refine State.put_fits (within_trans (by decide) hb) ?_ _ _
    | with_reducible refine Fits.many ?_ _ _ (fun _ _ _ => ?_)
    | with_reducible refine Fits.when ?_ _ _ (fun _ _ => ?_)
    | with_reducible refine Fits.ite _ ?_ ?_
    | split
    | extract_lets
    | (dsimp +zetaDelta only)

theorem helloRx_fits {fp : Nat} {s00 s : State} (hb : within 133418 fp = true) (h : Fits fp s00 s) (p : Nat) (d : Datum) :
    Fits fp s00 (helloRx s p d) := by
  unfold helloRx
  repeat' first
    | with_reducible assumption
    | with_reducible refine boundaryEnds_fits (within_trans (by decide) hb) ?_ _
    | with_reducible refine hearRoot_fits (within_trans (by decide) hb) ?_ _ _ _ _
    | with_reducible refine elect_fits hb ?_
    | with_reducible refine State.setPort_fits (within_trans (by decide) hb) ?_ _ _
    | with_reducible refine State.put_fits (within_trans (by decide) hb) ?_ _ _
    | with_reducible refine Fits.ite _ ?_ ?_
    | split
    | extract_lets
    | (dsimp +zetaDelta only)

theorem timeDownRx_fits {fp : Nat} {s00 s : State} (hb : within 133418 fp = true) (h : Fits fp s00 s) (p : Nat) (d : Datum) :
    Fits fp s00 (timeDownRx s p d) := by
  unfold timeDownRx
  repeat' first
    | with_reducible assumption
    | with_reducible refine hearRoot_fits (within_trans (by decide) hb) ?_ _ _ _ _
    | with_reducible refine elect_fits hb ?_
    | with_reducible refine Fits.ite _ ?_ ?_
    | split
    | extract_lets
    | (dsimp +zetaDelta only)

theorem timeDownSlot_fits {fp : Nat} {s00 s : State} (hb : within 131080 fp = true) (h : Fits fp s00 s) (p : Nat) :
    Fits fp s00 (timeDownSlot s p) := by
  unfold timeDownSlot
  repeat' first
    | with_reducible assumption
    | with_reducible refine fabLocal_fits hb ?_ _ _ _ _
    | with_reducible refine Fits.ite _ ?_ ?_
    | split
    | extract_lets
    | (dsimp +zetaDelta only)

theorem linkTiming_fits {fp : Nat} {s00 s : State} (hb : within 131080 fp = true) (h : Fits fp s00 s) (p : Nat) :
    Fits fp s00 (linkTiming s p) := by
  unfold linkTiming
  repeat' first
    | with_reducible assumption
    | with_reducible refine State.setPort_fits (within_trans (by decide) hb) ?_ _ _
    | with_reducible refine State.send_fits (within_trans (by decide) hb) ?_ _
    | with_reducible refine Fits.ite _ ?_ ?_
    | split
    | extract_lets
    | (dsimp +zetaDelta only)

theorem markerRequest_fits {fp : Nat} {s00 s : State} (hb : within 131080 fp = true) (h : Fits fp s00 s) (p : Nat) (seq : Nat) (time : Int) (phi : Int) :
    Fits fp s00 (markerRequest s p seq time phi) := by
  unfold markerRequest
  repeat' first
    | with_reducible assumption
    | with_reducible refine fabLocal_fits hb ?_ _ _ _ _
    | with_reducible refine State.setPort_fits (within_trans (by decide) hb) ?_ _ _
    | with_reducible refine State.send_fits (within_trans (by decide) hb) ?_ _
    | with_reducible refine Fits.ite _ ?_ ?_
    | split
    | extract_lets
    | (dsimp +zetaDelta only)

theorem markerResponse_fits {fp : Nat} {s00 s : State} (hb : within 131072 fp = true) (h : Fits fp s00 s) (p : Nat) (seq : Nat) (time : Int) :
    Fits fp s00 (markerResponse s p seq time) := by
  unfold markerResponse
  repeat' first
    | with_reducible assumption
    | with_reducible refine State.setPort_fits hb ?_ _ _
    | with_reducible refine Fits.ite _ ?_ ?_
    | split
    | extract_lets
    | (dsimp +zetaDelta only)

theorem exchangeDone_fits {fp : Nat} {s00 s : State} (hb : within 150818 fp = true) (h : Fits fp s00 s) (p : Nat) (t1 : Int) (t2 : Int) (t3 : Int) (t4 : Int) (phi : Int) :
    Fits fp s00 (exchangeDone s p t1 t2 t3 t4 phi) := by
  unfold exchangeDone
  repeat' first
    | with_reducible assumption
    | with_reducible refine State.setPort_fits (within_trans (by decide) hb) ?_ _ _
    | with_reducible refine ctxOffset_fits (within_trans (by decide) hb) ?_ _ _ _ _
    | with_reducible refine State.putCtxRec_fits (within_trans (by decide) hb) ?_ _ _ _ _
    | with_reducible refine State.inc_fits (within_trans (by decide) hb) ?_ _ _ _
    | with_reducible refine State.putI_fits (within_trans (by decide) hb) ?_ _ _ _
    | with_reducible refine Fits.many ?_ _ _ (fun _ _ _ => ?_)
    | with_reducible refine Fits.ite _ ?_ ?_
    | split
    | extract_lets
    | (dsimp +zetaDelta only)

theorem followUp_fits {fp : Nat} {s00 s : State} (hb : within 150818 fp = true) (h : Fits fp s00 s) (p : Nat) (d : Datum) :
    Fits fp s00 (followUp s p d) := by
  unfold followUp
  repeat' first
    | with_reducible assumption
    | with_reducible refine exchangeDone_fits hb ?_ _ _ _ _ _ _
    | with_reducible refine State.setPort_fits (within_trans (by decide) hb) ?_ _ _
    | with_reducible refine Fits.ite _ ?_ ?_
    | split
    | extract_lets
    | (dsimp +zetaDelta only)

theorem exchangeTimeout_fits {fp : Nat} {s00 s : State} (hb : within 131072 fp = true) (h : Fits fp s00 s) (p : Nat) :
    Fits fp s00 (exchangeTimeout s p) := by
  unfold exchangeTimeout
  repeat' first
    | with_reducible assumption
    | with_reducible refine State.setPort_fits hb ?_ _ _
    | with_reducible refine Fits.ite _ ?_ ?_
    | split
    | extract_lets
    | (dsimp +zetaDelta only)

theorem odRead_fits {fp : Nat} {s00 s : State} (hb : within 33554430 fp = true) (h : Fits fp s00 s) (serve : Serve) (src : Nat) (index : Nat) (sub : Nat) (rest : Datum) (hs : ∀ y a b c d e, Fits fp s00 y → Fits fp s00 (serve y a b c d e).2.2) :
    Fits fp s00 (odRead serve s src index sub rest).2.2.2 := by
  unfold odRead
  repeat' first
    | with_reducible assumption
    | with_reducible refine hs _ _ _ _ _ _ ?_
    | with_reducible refine Fits.ite _ ?_ ?_
    | with_reducible refine Fits.ite_snd3 _ ?_ ?_
    | split
    | extract_lets
    | (dsimp +zetaDelta only)

theorem odWrite_fits {fp : Nat} {s00 s : State} (hb : within 33554430 fp = true) (h : Fits fp s00 s) (serve : Serve) (src : Nat) (index : Nat) (sub : Nat) (parts : Datum) (d : Datum) (hs : ∀ y a b c d e, Fits fp s00 y → Fits fp s00 (serve y a b c d e).2.2) :
    Fits fp s00 (odWrite serve s src index sub parts d).2.2 := by
  unfold odWrite
  repeat' first
    | with_reducible assumption
    | with_reducible refine hs _ _ _ _ _ _ ?_
    | with_reducible refine Fits.ite _ ?_ ?_
    | with_reducible refine Fits.ite_snd2 _ ?_ ?_
    | split
    | extract_lets
    | (dsimp +zetaDelta only)

theorem odApply_fits {fp : Nat} {s00 s : State} (hb : within 33554430 fp = true) (h : Fits fp s00 s) (serve : Serve) (src : Nat) (d : Datum) (hs : ∀ y a b c d e, Fits fp s00 y → Fits fp s00 (serve y a b c d e).2.2) :
    Fits fp s00 (odApply serve s src d).1 := by
  unfold odApply
  repeat' first
    | with_reducible assumption
    | with_reducible refine odWrite_fits hb ?_ _ _ _ _ _ _ (by first | with_reducible assumption | exact fun _ _ _ _ _ _ h => servePost_fits (within_trans (by decide) hb) h _ _ _ _ _ | exact fun _ _ _ _ _ _ h => serveRemote_fits (within_trans (by decide) hb) h _ _ _ _ _)
    | with_reducible refine odRead_fits hb ?_ _ _ _ _ _ (by first | with_reducible assumption | exact fun _ _ _ _ _ _ h => servePost_fits (within_trans (by decide) hb) h _ _ _ _ _ | exact fun _ _ _ _ _ _ h => serveRemote_fits (within_trans (by decide) hb) h _ _ _ _ _)
    | with_reducible refine State.setFab_fits (within_trans (by decide) hb) ?_ _ (fun _ => ⟨by first | rfl | simp only [length_upd, List.length_set, List.length_map], by first | rfl | simp only [length_upd, List.length_set, List.length_map]⟩)
    | with_reducible refine hs _ _ _ _ _ _ ?_
    | with_reducible refine Fits.ite _ ?_ ?_
    | with_reducible refine Fits.ite_fst _ ?_ ?_
    | split
    | extract_lets
    | (dsimp +zetaDelta only)
    | with_reducible refine Fits.set_chan (within_trans (by decide) hb) ?_ _ (by with_unfolding_all exact fun h => h) (by with_unfolding_all exact fun _ h => h) (by simp only [length_upd, List.length_set, List.length_map, List.length_zipIdx, List.length_cons]) (by simp only [length_upd, List.length_set, List.length_map, List.length_zipIdx, List.length_cons])
    | with_reducible refine Fits.set_boot (within_trans (by decide) hb) ?_ _

theorem odAnswer_fits {fp : Nat} {s00 s : State} (hb : within 131114 fp = true) (h : Fits fp s00 s) (src : Nat) (resp : Datum) :
    Fits fp s00 (odAnswer s src resp) := by
  unfold odAnswer
  repeat' first
    | with_reducible assumption
    | with_reducible refine fabSendTo_fits hb ?_ _ _ _ _
    | with_reducible refine Fits.ite _ ?_ ?_
    | split
    | extract_lets
    | (dsimp +zetaDelta only)

theorem odRequest_fits {fp : Nat} {s00 s : State} (hb : within 33554430 fp = true) (h : Fits fp s00 s) (serve : Serve) (src : Nat) (d : Datum) (hs : ∀ y a b c d e, Fits fp s00 y → Fits fp s00 (serve y a b c d e).2.2) :
    Fits fp s00 (odRequest serve s src d).1 := by
  unfold odRequest
  repeat' first
    | with_reducible assumption
    | with_reducible refine odApply_fits hb ?_ _ _ _ (by first | with_reducible assumption | exact fun _ _ _ _ _ _ h => servePost_fits (within_trans (by decide) hb) h _ _ _ _ _ | exact fun _ _ _ _ _ _ h => serveRemote_fits (within_trans (by decide) hb) h _ _ _ _ _)
    | with_reducible refine State.setFab_fits (within_trans (by decide) hb) ?_ _ (fun _ => ⟨by first | rfl | simp only [length_upd, List.length_set, List.length_map], by first | rfl | simp only [length_upd, List.length_set, List.length_map]⟩)
    | with_reducible refine hs _ _ _ _ _ _ ?_
    | with_reducible refine Fits.ite _ ?_ ?_
    | with_reducible refine Fits.ite_fst _ ?_ ?_
    | split
    | extract_lets
    | (dsimp +zetaDelta only)

theorem State.setSlot_fits {fp : Nat} {s00 s : State} (hb : within 131072 fp = true) (h : Fits fp s00 s) (r : Nat) (f : ReqSlot → ReqSlot) :
    Fits fp s00 (State.setSlot s r f) := by
  unfold State.setSlot
  repeat' first
    | with_reducible assumption
    | with_reducible refine State.setFab_fits hb ?_ _ (fun _ => ⟨by first | rfl | simp only [length_upd, List.length_set, List.length_map], by first | rfl | simp only [length_upd, List.length_set, List.length_map]⟩)
    | with_reducible refine Fits.ite _ ?_ ?_
    | split
    | extract_lets
    | (dsimp +zetaDelta only)

theorem requestEnd_fits {fp : Nat} {s00 s : State} (hb : within 2 fp = true) (h : Fits fp s00 s) (r : Nat) (st : Nat) (code : Nat) :
    Fits fp s00 (requestEnd s r st code) := by
  unfold requestEnd
  repeat' first
    | with_reducible assumption
    | with_reducible refine State.hist_fits hb ?_ _ _
    | with_reducible refine State.put_fits hb ?_ _ _
    | with_reducible refine Fits.ite _ ?_ ?_
    | split
    | extract_lets
    | (dsimp +zetaDelta only)

theorem odResponse_fits {fp : Nat} {s00 s : State} (hb : within 1179650 fp = true) (h : Fits fp s00 s) (d : Datum) :
    Fits fp s00 (odResponse s d) := by
  unfold odResponse
  repeat' first
    | with_reducible assumption
    | with_reducible refine requestEnd_fits (within_trans (by decide) hb) ?_ _ _ _
    | with_reducible refine State.setSlot_fits (within_trans (by decide) hb) ?_ _ _
    | with_reducible refine State.setCol_fits (within_trans (by decide) hb) ?_ _ (fun _ => by simp only [length_upd, List.length_set, List.length_map])
    | with_reducible refine State.setFab_fits (within_trans (by decide) hb) ?_ _ (fun _ => ⟨by first | rfl | simp only [length_upd, List.length_set, List.length_map], by first | rfl | simp only [length_upd, List.length_set, List.length_map]⟩)
    | with_reducible refine State.put_fits (within_trans (by decide) hb) ?_ _ _
    | with_reducible refine Fits.ite _ ?_ ?_
    | split
    | extract_lets
    | (dsimp +zetaDelta only)

theorem odReply_fits {fp : Nat} {s00 s : State} (hb : within 1179690 fp = true) (h : Fits fp s00 s) (src : Nat) (resp : Datum) :
    Fits fp s00 (odReply s src resp) := by
  unfold odReply
  repeat' first
    | with_reducible assumption
    | with_reducible refine odResponse_fits (within_trans (by decide) hb) ?_ _
    | with_reducible refine odAnswer_fits (within_trans (by decide) hb) ?_ _ _
    | with_reducible refine Fits.ite _ ?_ ?_
    | split
    | extract_lets
    | (dsimp +zetaDelta only)

theorem odResumeN_fits {fp : Nat} {s00 s : State} (hb : within 33554430 fp = true) (h : Fits fp s00 s) (serve : Serve) (x0 : Nat) (hs : ∀ y a b c d e, Fits fp s00 y → Fits fp s00 (serve y a b c d e).2.2) :
    Fits fp s00 (odResumeN serve s x0) := by
  induction x0 generalizing s with
  | zero =>
    unfold odResumeN
    exact h
  | succ n ih =>
    unfold odResumeN
    split
    · exact h
    · extract_lets q
      have hq : Fits fp s00 q.1 := odRequest_fits (within_trans (by decide) hb) (State.setFab_fits (within_trans (by decide) hb) h (fun _ => _) (by exact fun _ => ⟨rfl, rfl⟩)) _ _ _ hs
      clear_value q
      split
      · exact ih (Fits.when (odReply_fits (within_trans (by decide) hb) hq _ _) _ _ fun _ hy => fabFree_fits (within_trans (by decide) hb) hy _ _ _)
      · exact h

theorem odResume_fits {fp : Nat} {s00 s : State} (hb : within 33554430 fp = true) (h : Fits fp s00 s) (serve : Serve) (hs : ∀ y a b c d e, Fits fp s00 y → Fits fp s00 (serve y a b c d e).2.2) :
    Fits fp s00 (odResume serve s) := by
  unfold odResume
  repeat' first
    | with_reducible assumption
    | with_reducible refine odResumeN_fits hb ?_ _ _ (by first | with_reducible assumption | exact fun _ _ _ _ _ _ h => servePost_fits (within_trans (by decide) hb) h _ _ _ _ _ | exact fun _ _ _ _ _ _ h => serveRemote_fits (within_trans (by decide) hb) h _ _ _ _ _)
    | with_reducible refine hs _ _ _ _ _ _ ?_
    | with_reducible refine Fits.ite _ ?_ ?_
    | split
    | extract_lets
    | (dsimp +zetaDelta only)

theorem requestGo_fits {fp : Nat} {s00 s : State} (hb : within 33554430 fp = true) (h : Fits fp s00 s) (serve : Serve) (r : Nat) (hs : ∀ y a b c d e, Fits fp s00 y → Fits fp s00 (serve y a b c d e).2.2) :
    Fits fp s00 (requestGo serve s r) := by
  unfold requestGo
  repeat' first
    | with_reducible assumption
    | with_reducible refine odResponse_fits (within_trans (by decide) hb) ?_ _
    | with_reducible refine odRequest_fits hb ?_ _ _ _ (by first | with_reducible assumption | exact fun _ _ _ _ _ _ h => servePost_fits (within_trans (by decide) hb) h _ _ _ _ _ | exact fun _ _ _ _ _ _ h => serveRemote_fits (within_trans (by decide) hb) h _ _ _ _ _)
    | with_reducible refine fabSendTo_fits (within_trans (by decide) hb) ?_ _ _ _ _
    | with_reducible refine State.setFab_fits (within_trans (by decide) hb) ?_ _ (fun _ => ⟨by first | rfl | simp only [length_upd, List.length_set, List.length_map], by first | rfl | simp only [length_upd, List.length_set, List.length_map]⟩)
    | with_reducible refine hs _ _ _ _ _ _ ?_
    | with_reducible refine Fits.ite _ ?_ ?_
    | split
    | extract_lets
    | (dsimp +zetaDelta only)

theorem requestStart_fits {fp : Nat} {s00 s : State} (hb : within 33554430 fp = true) (h : Fits fp s00 s) (serve : Serve) (r : Nat) (write : Bool) (hs : ∀ y a b c d e, Fits fp s00 y → Fits fp s00 (serve y a b c d e).2.2) :
    Fits fp s00 (requestStart serve s r write) := by
  unfold requestStart
  repeat' first
    | with_reducible assumption
    | with_reducible refine requestGo_fits hb ?_ _ _ (by first | with_reducible assumption | exact fun _ _ _ _ _ _ h => servePost_fits (within_trans (by decide) hb) h _ _ _ _ _ | exact fun _ _ _ _ _ _ h => serveRemote_fits (within_trans (by decide) hb) h _ _ _ _ _)
    | with_reducible refine State.setSlot_fits (within_trans (by decide) hb) ?_ _ _
    | with_reducible refine State.put_fits (within_trans (by decide) hb) ?_ _ _
    | with_reducible refine hs _ _ _ _ _ _ ?_
    | with_reducible refine Fits.ite _ ?_ ?_
    | split
    | extract_lets
    | (dsimp +zetaDelta only)

theorem requestCancel_fits {fp : Nat} {s00 s : State} (hb : within 2 fp = true) (h : Fits fp s00 s) (r : Nat) :
    Fits fp s00 (requestCancel s r) := by
  unfold requestCancel
  repeat' first
    | with_reducible assumption
    | with_reducible refine State.put_fits hb ?_ _ _
    | with_reducible refine Fits.ite _ ?_ ?_
    | split
    | extract_lets
    | (dsimp +zetaDelta only)

theorem requestTimeout_fits {fp : Nat} {s00 s : State} (hb : within 33554430 fp = true) (h : Fits fp s00 s) (serve : Serve) (r : Nat) (hs : ∀ y a b c d e, Fits fp s00 y → Fits fp s00 (serve y a b c d e).2.2) :
    Fits fp s00 (requestTimeout serve s r) := by
  unfold requestTimeout
  repeat' first
    | with_reducible assumption
    | with_reducible refine requestGo_fits hb ?_ _ _ (by first | with_reducible assumption | exact fun _ _ _ _ _ _ h => servePost_fits (within_trans (by decide) hb) h _ _ _ _ _ | exact fun _ _ _ _ _ _ h => serveRemote_fits (within_trans (by decide) hb) h _ _ _ _ _)
    | with_reducible refine requestEnd_fits (within_trans (by decide) hb) ?_ _ _ _
    | with_reducible refine State.setSlot_fits (within_trans (by decide) hb) ?_ _ _
    | with_reducible refine hs _ _ _ _ _ _ ?_
    | with_reducible refine Fits.ite _ ?_ ?_
    | split
    | extract_lets
    | (dsimp +zetaDelta only)

theorem putBl_fits {fp : Nat} {s00 s : State} (hb : within 2 fp = true) (h : Fits fp s00 s) (l : List (Nat × Nat)) :
    Fits fp s00 (putBl s l) := by
  unfold putBl
  repeat' first
    | with_reducible assumption
    | with_reducible refine State.put_fits hb ?_ _ _
    | with_reducible refine Fits.many ?_ _ _ (fun _ _ _ => ?_)
    | with_reducible refine Fits.ite _ ?_ ?_
    | split
    | extract_lets
    | (dsimp +zetaDelta only)

theorem fabTell_fits {fp : Nat} {s00 s : State} (hb : within 32 fp = true) (h : Fits fp s00 s) (kind : Nat) :
    Fits fp s00 (fabTell s kind) := by
  unfold fabTell
  repeat' first
    | with_reducible assumption
    | with_reducible refine State.raise_fits hb ?_ _ _ _ _
    | with_reducible refine Fits.ite _ ?_ ?_
    | split
    | extract_lets
    | (dsimp +zetaDelta only)

theorem fabSpread_fits {fp : Nat} {s00 s : State} (hb : within 131080 fp = true) (h : Fits fp s00 s) (p : Nat) (f : FabFrame) :
    Fits fp s00 (fabSpread s p f) := by
  unfold fabSpread
  repeat' first
    | with_reducible assumption
    | with_reducible refine fabQueue_fits hb ?_ _ _
    | with_reducible refine Fits.many ?_ _ _ (fun _ _ _ => ?_)
    | with_reducible refine Fits.ite _ ?_ ?_
    | split
    | extract_lets
    | (dsimp +zetaDelta only)

theorem blendCross_fits {fp : Nat} {s00 s : State} (hb : within 131080 fp = true) (h : Fits fp s00 s) (but : Option Nat) (loser : Nat) (f : FabFrame) :
    Fits fp s00 (blendCross s but loser f) := by
  unfold blendCross
  repeat' first
    | with_reducible assumption
    | with_reducible refine fabQueue_fits hb ?_ _ _
    | with_reducible refine Fits.many ?_ _ _ (fun _ _ _ => ?_)
    | with_reducible refine Fits.ite _ ?_ ?_
    | split
    | extract_lets
    | (dsimp +zetaDelta only)

theorem blendSpread_fits {fp : Nat} {s00 s : State} (hb : within 131080 fp = true) (h : Fits fp s00 s) (bytes : List Nat) (loser : Nat) :
    Fits fp s00 (blendSpread s bytes loser) := by
  unfold blendSpread
  repeat' first
    | with_reducible assumption
    | with_reducible refine blendCross_fits hb ?_ _ _ _
    | with_reducible refine fabBroadcast_fits hb ?_ _ _ _ _
    | with_reducible refine Fits.ite _ ?_ ?_
    | split
    | extract_lets
    | (dsimp +zetaDelta only)

theorem blendAccept_fits {fp : Nat} {s00 s : State} (hb : within 131080 fp = true) (h : Fits fp s00 s) (loser : Nat) (delta : Int) :
    Fits fp s00 (blendAccept s loser delta) := by
  unfold blendAccept
  repeat' first
    | with_reducible assumption
    | with_reducible refine blendSpread_fits hb ?_ _ _
    | with_reducible refine State.setFab_fits (within_trans (by decide) hb) ?_ _ (fun _ => ⟨by first | rfl | simp only [length_upd, List.length_set, List.length_map], by first | rfl | simp only [length_upd, List.length_set, List.length_map]⟩)
    | with_reducible refine Fits.ite _ ?_ ?_
    | split
    | extract_lets
    | (dsimp +zetaDelta only)

theorem proposalRx_fits {fp : Nat} {s00 s : State} (hb : within 131080 fp = true) (h : Fits fp s00 s) (loser : Nat) (delta : Int) :
    Fits fp s00 (proposalRx s loser delta) := by
  unfold proposalRx
  repeat' first
    | with_reducible assumption
    | with_reducible refine blendAccept_fits hb ?_ _ _
    | with_reducible refine fabLocal_fits hb ?_ _ _ _ _
    | with_reducible refine Fits.ite _ ?_ ?_
    | split
    | extract_lets
    | (dsimp +zetaDelta only)

theorem blendMeasured_fits {fp : Nat} {s00 s : State} (hb : within 131082 fp = true) (h : Fits fp s00 s)  :
    Fits fp s00 (blendMeasured s) := by
  unfold blendMeasured
  repeat' first
    | with_reducible assumption
    | with_reducible refine proposalRx_fits (within_trans (by decide) hb) ?_ _ _
    | with_reducible refine putBl_fits (within_trans (by decide) hb) ?_ _
    | with_reducible refine Fits.ite _ ?_ ?_
    | split
    | extract_lets
    | (dsimp +zetaDelta only)

theorem blendStep_fits {fp : Nat} {s00 s : State} (hb : within 17698 fp = true) (h : Fits fp s00 s) (t : Nat) (x : Int) :
    Fits fp s00 (blendStep s t x) := by
  unfold blendStep
  repeat' first
    | with_reducible assumption
    | with_reducible refine tcClearUnset_fits (within_trans (by decide) hb) ?_ _
    | with_reducible refine tcStep_fits (within_trans (by decide) hb) ?_ _ _
    | with_reducible refine State.setDpll_fits (within_trans (by decide) hb) ?_ _ _
    | with_reducible refine State.setTc_fits (within_trans (by decide) hb) ?_ _ _
    | with_reducible refine Fits.ite _ ?_ ?_
    | split
    | extract_lets
    | (dsimp +zetaDelta only)

theorem blendPour_fits {fp : Nat} {s00 s : State} (hb : within 1280 fp = true) (h : Fits fp s00 s) (t : Nat) (x : Int) (rate : Nat) :
    Fits fp s00 (blendPour s t x rate) := by
  unfold blendPour
  repeat' first
    | with_reducible assumption
    | with_reducible refine State.setDpll_fits (within_trans (by decide) hb) ?_ _ _
    | with_reducible refine State.setTc_fits (within_trans (by decide) hb) ?_ _ _
    | with_reducible refine Fits.ite _ ?_ ?_
    | split
    | extract_lets
    | (dsimp +zetaDelta only)

theorem blendDoStep_fits {fp : Nat} {s00 s : State} (hb : within 156966 fp = true) (h : Fits fp s00 s) (b : Blend) :
    Fits fp s00 (blendDoStep s b) := by
  unfold blendDoStep
  repeat' first
    | with_reducible assumption
    | with_reducible refine blendStep_fits (within_trans (by decide) hb) ?_ _ _
    | with_reducible refine fabTell_fits (within_trans (by decide) hb) ?_ _
    | with_reducible refine apllRelock_fits (within_trans (by decide) hb) ?_ _
    | with_reducible refine State.setFab_fits (within_trans (by decide) hb) ?_ _ (fun _ => ⟨by first | rfl | simp only [length_upd, List.length_set, List.length_map], by first | rfl | simp only [length_upd, List.length_set, List.length_map]⟩)
    | with_reducible refine State.inc_fits (within_trans (by decide) hb) ?_ _ _ _
    | with_reducible refine State.put_fits (within_trans (by decide) hb) ?_ _ _
    | with_reducible refine Fits.many ?_ _ _ (fun _ _ _ => ?_)
    | with_reducible refine Fits.ite _ ?_ ?_
    | split
    | extract_lets
    | (dsimp +zetaDelta only)

theorem blendStarted_fits {fp : Nat} {s00 s : State} (hb : within 34 fp = true) (h : Fits fp s00 s)  :
    Fits fp s00 (blendStarted s) := by
  unfold blendStarted
  repeat' first
    | with_reducible assumption
    | with_reducible refine fabTell_fits (within_trans (by decide) hb) ?_ _
    | with_reducible refine State.hist_fits (within_trans (by decide) hb) ?_ _ _
    | with_reducible refine Fits.ite _ ?_ ?_
    | split
    | extract_lets
    | (dsimp +zetaDelta only)

theorem blendInstant_fits {fp : Nat} {s00 s : State} (hb : within 156966 fp = true) (h : Fits fp s00 s)  :
    Fits fp s00 (blendInstant s) := by
  unfold blendInstant
  repeat' first
    | with_reducible assumption
    | with_reducible refine blendStarted_fits (within_trans (by decide) hb) ?_
    | with_reducible refine blendDoStep_fits hb ?_ _
    | with_reducible refine blendPour_fits (within_trans (by decide) hb) ?_ _ _ _
    | with_reducible refine State.put_fits (within_trans (by decide) hb) ?_ _ _
    | with_reducible refine Fits.ite _ ?_ ?_
    | split
    | extract_lets
    | (dsimp +zetaDelta only)

theorem blendLate_fits {fp : Nat} {s00 s : State} (hb : within 156966 fp = true) (h : Fits fp s00 s) (b : Blend) :
    Fits fp s00 (blendLate s b) := by
  unfold blendLate
  repeat' first
    | with_reducible assumption
    | with_reducible refine blendStarted_fits (within_trans (by decide) hb) ?_
    | with_reducible refine blendDoStep_fits hb ?_ _
    | with_reducible refine blendPour_fits (within_trans (by decide) hb) ?_ _ _ _
    | with_reducible refine blendStep_fits (within_trans (by decide) hb) ?_ _ _
    | with_reducible refine fabTell_fits (within_trans (by decide) hb) ?_ _
    | with_reducible refine State.hist_fits (within_trans (by decide) hb) ?_ _ _
    | with_reducible refine State.put_fits (within_trans (by decide) hb) ?_ _ _
    | with_reducible refine Fits.ite _ ?_ ?_
    | split
    | extract_lets
    | (dsimp +zetaDelta only)

theorem blendAnnounced_fits {fp : Nat} {s00 s : State} (hb : within 156974 fp = true) (h : Fits fp s00 s) (p : Nat) (f : FabFrame) :
    Fits fp s00 (blendAnnounced s p f) := by
  unfold blendAnnounced
  repeat' first
    | with_reducible assumption
    | with_reducible refine blendLate_fits (within_trans (by decide) hb) ?_ _
    | with_reducible refine blendCross_fits (within_trans (by decide) hb) ?_ _ _ _
    | with_reducible refine fabSpread_fits (within_trans (by decide) hb) ?_ _ _
    | with_reducible refine putBl_fits (within_trans (by decide) hb) ?_ _
    | with_reducible refine State.setFab_fits (within_trans (by decide) hb) ?_ _ (fun _ => ⟨by first | rfl | simp only [length_upd, List.length_set, List.length_map], by first | rfl | simp only [length_upd, List.length_set, List.length_map]⟩)
    | with_reducible refine Fits.when ?_ _ _ (fun _ _ => ?_)
    | with_reducible refine Fits.ite _ ?_ ?_
    | split
    | extract_lets
    | (dsimp +zetaDelta only)

theorem blendPoured_fits {fp : Nat} {s00 s : State} (hb : within 2 fp = true) (h : Fits fp s00 s)  :
    Fits fp s00 (blendPoured s) := by
  unfold blendPoured
  repeat' first
    | with_reducible assumption
    | with_reducible refine State.put_fits hb ?_ _ _
    | with_reducible refine Fits.ite _ ?_ ?_
    | split
    | extract_lets
    | (dsimp +zetaDelta only)

theorem blendEnd_fits {fp : Nat} {s00 s : State} (hb : within 133418 fp = true) (h : Fits fp s00 s)  :
    Fits fp s00 (blendEnd s) := by
  unfold blendEnd
  repeat' first
    | with_reducible assumption
    | with_reducible refine putBl_fits (within_trans (by decide) hb) ?_ _
    | with_reducible refine elect_fits hb ?_
    | with_reducible refine routeChange_fits (within_trans (by decide) hb) ?_
    | with_reducible refine fabRoles_fits (within_trans (by decide) hb) ?_
    | with_reducible refine State.setFab_fits (within_trans (by decide) hb) ?_ _ (fun _ => ⟨by first | rfl | simp only [length_upd, List.length_set, List.length_map], by first | rfl | simp only [length_upd, List.length_set, List.length_map]⟩)
    | with_reducible refine State.hist_fits (within_trans (by decide) hb) ?_ _ _
    | with_reducible refine State.inc_fits (within_trans (by decide) hb) ?_ _ _ _
    | with_reducible refine Fits.ite _ ?_ ?_
    | split
    | extract_lets
    | (dsimp +zetaDelta only)

theorem blendAlign_fits {fp : Nat} {s00 s : State} (hb : within 139264 fp = true) (h : Fits fp s00 s)  :
    Fits fp s00 (blendAlign s) := by
  unfold blendAlign
  repeat' first
    | with_reducible assumption
    | with_reducible refine alignGroups_fits (within_trans (by decide) hb) ?_ _
    | with_reducible refine State.setFab_fits (within_trans (by decide) hb) ?_ _ (fun _ => ⟨by first | rfl | simp only [length_upd, List.length_set, List.length_map], by first | rfl | simp only [length_upd, List.length_set, List.length_map]⟩)
    | with_reducible refine Fits.ite _ ?_ ?_
    | split
    | extract_lets
    | (dsimp +zetaDelta only)

theorem fabConsume_fits {fp : Nat} {s00 s : State} (hb : within 33554430 fp = true) (h : Fits fp s00 s) (serve : Serve) (p : Nat) (f : FabFrame) (hs : ∀ y a b c d e, Fits fp s00 y → Fits fp s00 (serve y a b c d e).2.2) :
    Fits fp s00 (fabConsume serve s p f).1 := by
  unfold fabConsume
  repeat' first
    | with_reducible assumption
    | with_reducible refine blendAnnounced_fits (within_trans (by decide) hb) ?_ _ _
    | with_reducible refine proposalRx_fits (within_trans (by decide) hb) ?_ _ _
    | with_reducible refine odReply_fits (within_trans (by decide) hb) ?_ _ _
    | with_reducible refine odResponse_fits (within_trans (by decide) hb) ?_ _
    | with_reducible refine odRequest_fits hb ?_ _ _ _ (by first | with_reducible assumption | exact fun _ _ _ _ _ _ h => servePost_fits (within_trans (by decide) hb) h _ _ _ _ _ | exact fun _ _ _ _ _ _ h => serveRemote_fits (within_trans (by decide) hb) h _ _ _ _ _)
    | with_reducible refine followUp_fits (within_trans (by decide) hb) ?_ _ _
    | with_reducible refine timeDownRx_fits (within_trans (by decide) hb) ?_ _ _
    | with_reducible refine helloRx_fits (within_trans (by decide) hb) ?_ _ _
    | with_reducible refine addressGrant_fits (within_trans (by decide) hb) ?_ _ _
    | with_reducible refine addressRequest_fits (within_trans (by decide) hb) ?_ _ _
    | with_reducible refine routeUpdate_fits (within_trans (by decide) hb) ?_ _ _
    | with_reducible refine State.setFab_fits (within_trans (by decide) hb) ?_ _ (fun _ => ⟨by first | rfl | simp only [length_upd, List.length_set, List.length_map], by first | rfl | simp only [length_upd, List.length_set, List.length_map]⟩)
    | with_reducible refine hs _ _ _ _ _ _ ?_
    | with_reducible refine Fits.ite _ ?_ ?_
    | with_reducible refine Fits.ite_fst _ ?_ ?_
    | split
    | extract_lets
    | (dsimp +zetaDelta only)

theorem fabDiscard_fits {fp : Nat} {s00 s : State} (hb : within 131082 fp = true) (h : Fits fp s00 s) (p : Nat) (f : FabFrame) :
    Fits fp s00 (fabDiscard s p f) := by
  unfold fabDiscard
  repeat' first
    | with_reducible assumption
    | with_reducible refine fabFree_fits (within_trans (by decide) hb) ?_ _ _ _
    | with_reducible refine State.inc_fits (within_trans (by decide) hb) ?_ _ _ _
    | with_reducible refine Fits.ite _ ?_ ?_
    | split
    | extract_lets
    | (dsimp +zetaDelta only)

theorem fabFrame_fits {fp : Nat} {s00 s : State} (hb : within 33554430 fp = true) (h : Fits fp s00 s) (serve : Serve) (p : Nat) (f : FabFrame) (bad : Bool) (hs : ∀ y a b c d e, Fits fp s00 y → Fits fp s00 (serve y a b c d e).2.2) :
    Fits fp s00 (fabFrame serve s p f bad) := by
  unfold fabFrame
  repeat' first
    | with_reducible assumption
    | with_reducible refine fabDiscard_fits (within_trans (by decide) hb) ?_ _ _
    | with_reducible refine fabConsume_fits hb ?_ _ _ _ (by first | with_reducible assumption | exact fun _ _ _ _ _ _ h => servePost_fits (within_trans (by decide) hb) h _ _ _ _ _ | exact fun _ _ _ _ _ _ h => serveRemote_fits (within_trans (by decide) hb) h _ _ _ _ _)
    | with_reducible refine fabSpread_fits (within_trans (by decide) hb) ?_ _ _
    | with_reducible refine fabRoute_fits (within_trans (by decide) hb) ?_ _
    | with_reducible refine fabFree_fits (within_trans (by decide) hb) ?_ _ _ _
    | with_reducible refine State.setPort_fits (within_trans (by decide) hb) ?_ _ _
    | with_reducible refine State.inc_fits (within_trans (by decide) hb) ?_ _ _ _
    | with_reducible refine hs _ _ _ _ _ _ ?_
    | with_reducible refine Fits.ite _ ?_ ?_
    | split
    | extract_lets
    | (dsimp +zetaDelta only)

theorem fabFrameOf_fits {fp : Nat} {s00 s : State} (hb : within 33554430 fp = true) (h : Fits fp s00 s) (p : Nat) (cls : Nat) (type_ : Nat) (dest : Nat) (src : Nat) (d : Datum) (serve : Serve) (hs : ∀ y a b c d e, Fits fp s00 y → Fits fp s00 (serve y a b c d e).2.2) :
    Fits fp s00 (fabFrameOf p cls type_ dest src d serve s) := by
  unfold fabFrameOf
  repeat' first
    | with_reducible assumption
    | with_reducible refine fabFrame_fits hb ?_ _ _ _ _ (by first | with_reducible assumption | exact fun _ _ _ _ _ _ h => servePost_fits (within_trans (by decide) hb) h _ _ _ _ _ | exact fun _ _ _ _ _ _ h => serveRemote_fits (within_trans (by decide) hb) h _ _ _ _ _)
    | with_reducible refine hs _ _ _ _ _ _ ?_
    | with_reducible refine Fits.ite _ ?_ ?_
    | split
    | extract_lets
    | (dsimp +zetaDelta only)

theorem odExpiry_fits {fp : Nat} {s00 s : State} (hb : within 33554430 fp = true) (h : Fits fp s00 s) (serve : Serve) (hs : ∀ y a b c d e, Fits fp s00 y → Fits fp s00 (serve y a b c d e).2.2) :
    Fits fp s00 (odExpiry serve s) := by
  unfold odExpiry
  repeat' first
    | with_reducible assumption
    | with_reducible refine odResume_fits hb ?_ _ (by first | with_reducible assumption | exact fun _ _ _ _ _ _ h => servePost_fits (within_trans (by decide) hb) h _ _ _ _ _ | exact fun _ _ _ _ _ _ h => serveRemote_fits (within_trans (by decide) hb) h _ _ _ _ _)
    | with_reducible refine State.setFab_fits (within_trans (by decide) hb) ?_ _ (fun _ => ⟨by first | rfl | simp only [length_upd, List.length_set, List.length_map], by first | rfl | simp only [length_upd, List.length_set, List.length_map]⟩)
    | with_reducible refine hs _ _ _ _ _ _ ?_
    | with_reducible refine Fits.foldl_snd _ (fun _ _ _ => ?_) _ ?_
    | with_reducible refine Fits.foldl _ (fun _ _ _ => ?_) _ ?_
    | with_reducible refine Fits.ite _ ?_ ?_
    | split
    | extract_lets
    | (dsimp +zetaDelta only)

theorem exportSend_fits {fp : Nat} {s00 s : State} (hb : within 1179818 fp = true) (h : Fits fp s00 s) (fab : Bool) :
    Fits fp s00 (exportSend s fab) := by
  unfold exportSend
  repeat' first
    | with_reducible assumption
    | with_reducible refine fabSendTo_fits (within_trans (by decide) hb) ?_ _ _ _ _
    | with_reducible refine State.send_fits (within_trans (by decide) hb) ?_ _
    | with_reducible refine State.setCol_fits (within_trans (by decide) hb) ?_ _ (fun _ => by simp only [length_upd, List.length_set, List.length_map])
    | with_reducible refine State.setChans_fits (within_trans (by decide) hb) ?_ _ (by with_unfolding_all exact fun _ => ⟨rfl, rfl⟩)
    | with_reducible refine State.inc_fits (within_trans (by decide) hb) ?_ _ _ _
    | with_reducible refine Fits.ite _ ?_ ?_
    | split
    | extract_lets
    | (dsimp +zetaDelta only)
    | with_reducible refine Fits.set_fab (within_trans (by decide) hb) ?_ _ (by simp only [length_upd, List.length_set, List.length_map, List.length_zipIdx, List.length_cons]) (by simp only [length_upd, List.length_set, List.length_map, List.length_zipIdx, List.length_cons])

theorem exportCheck_fits {fp : Nat} {s00 s : State} (hb : within 1179818 fp = true) (h : Fits fp s00 s) (fab : Bool) :
    Fits fp s00 (exportCheck s fab) := by
  unfold exportCheck
  repeat' first
    | with_reducible assumption
    | with_reducible refine exportSend_fits hb ?_ _
    | with_reducible refine Fits.ite _ ?_ ?_
    | split
    | extract_lets
    | (dsimp +zetaDelta only)

end Sys2Proof.Machine
end

