-- ==== Sys2Proof/Laws/FitsCalib.lean ====
section
/-! SUPPORT. What each operation of Machine/Calib.lean may touch, and the invariants that it keeps. -/

set_option linter.unusedSimpArgs false
set_option linter.unusedVariables false

namespace Sys2Proof.Machine

theorem State.setDieCal_fits {fp : Nat} {s00 s : State} (hb : within 262144 fp = true) (h : Fits fp s00 s) (d : Nat) (f : DieCal → DieCal) :
    Fits fp s00 (State.setDieCal s d f) := by
  unfold State.setDieCal
  repeat' first
    | with_reducible assumption
    | with_reducible refine State.setCal_fits hb ?_ _ (fun _ => ⟨by first | rfl | simp only [length_upd, List.length_set, List.length_map], by first | rfl | simp only [length_upd, List.length_set, List.length_map]⟩)
    | with_reducible refine Fits.ite _ ?_ ?_
    | split
    | extract_lets
    | (dsimp +zetaDelta only)

theorem State.setSlice_fits {fp : Nat} {s00 s : State} (hb : within 262144 fp = true) (h : Fits fp s00 s) (d : Nat) (i : Nat) (f : SliceCal → SliceCal) :
    Fits fp s00 (State.setSlice s d i f) := by
  unfold State.setSlice
  repeat' first
    | with_reducible assumption
    | with_reducible refine State.setDieCal_fits hb ?_ _ _
    | with_reducible refine Fits.ite _ ?_ ?_
    | split
    | extract_lets
    | (dsimp +zetaDelta only)

theorem State.setOutCal_fits {fp : Nat} {s00 s : State} (hb : within 262144 fp = true) (h : Fits fp s00 s) (n : Nat) (f : OutCal → OutCal) :
    Fits fp s00 (State.setOutCal s n f) := by
  unfold State.setOutCal
  repeat' first
    | with_reducible assumption
    | with_reducible refine State.setCal_fits hb ?_ _ (fun _ => ⟨by first | rfl | simp only [length_upd, List.length_set, List.length_map], by first | rfl | simp only [length_upd, List.length_set, List.length_map]⟩)
    | with_reducible refine Fits.ite _ ?_ ?_
    | split
    | extract_lets
    | (dsimp +zetaDelta only)

theorem calRaise_fits {fp : Nat} {s00 s : State} (hb : within 32 fp = true) (h : Fits fp s00 s) (d : Nat) (kind : Nat) (addr : Nat) :
    Fits fp s00 (calRaise s d kind addr) := by
  unfold calRaise
  repeat' first
    | with_reducible assumption
    | with_reducible refine State.raise_fits hb ?_ _ _ _ _
    | with_reducible refine Fits.ite _ ?_ ?_
    | split
    | extract_lets
    | (dsimp +zetaDelta only)

theorem calMirror_fits {fp : Nat} {s00 s : State} (hb : within 102 fp = true) (h : Fits fp s00 s) (index : Nat) (d : Nat) :
    Fits fp s00 (calMirror s index d) := by
  unfold calMirror
  repeat' first
    | with_reducible assumption
    | with_reducible refine carried_fits hb ?_ _ _ _ _ (fun _ _ => ?_)
    | with_reducible refine State.put_fits (within_trans (by decide) hb) ?_ _ _
    | with_reducible refine Fits.many ?_ _ _ (fun _ _ _ => ?_)
    | with_reducible refine Fits.ite _ ?_ ?_
    | split
    | extract_lets
    | (dsimp +zetaDelta only)

theorem sweepStart_fits {fp : Nat} {s00 s : State} (hb : within 262146 fp = true) (h : Fits fp s00 s) (now_ : Bool) (initial : Bool) :
    Fits fp s00 (sweepStart s now_ initial) := by
  unfold sweepStart
  repeat' first
    | with_reducible assumption
    | with_reducible refine progStart_fits (within_trans (by decide) hb) ?_ _ _ _
    | with_reducible refine State.setCal_fits (within_trans (by decide) hb) ?_ _ (fun _ => ⟨by first | rfl | simp only [length_upd, List.length_set, List.length_map], by first | rfl | simp only [length_upd, List.length_set, List.length_map]⟩)
    | with_reducible refine Fits.ite _ ?_ ?_
    | split
    | extract_lets
    | (dsimp +zetaDelta only)

theorem sweepCheck_fits {fp : Nat} {s00 s : State} (hb : within 262146 fp = true) (h : Fits fp s00 s)  :
    Fits fp s00 (sweepCheck s) := by
  unfold sweepCheck
  repeat' first
    | with_reducible assumption
    | with_reducible refine progEnd_fits (within_trans (by decide) hb) ?_ _ _ _
    | with_reducible refine State.setCal_fits (within_trans (by decide) hb) ?_ _ (fun _ => ⟨by first | rfl | simp only [length_upd, List.length_set, List.length_map], by first | rfl | simp only [length_upd, List.length_set, List.length_map]⟩)
    | with_reducible refine State.hist_fits (within_trans (by decide) hb) ?_ _ _
    | with_reducible refine State.inc_fits (within_trans (by decide) hb) ?_ _ _ _
    | with_reducible refine Fits.ite _ ?_ ?_
    | split
    | extract_lets
    | (dsimp +zetaDelta only)

theorem calEnable_fits {fp : Nat} {s00 s : State} (hb : within 262146 fp = true) (h : Fits fp s00 s) (v : Nat) :
    Fits fp s00 (calEnable s v) := by
  unfold calEnable
  repeat' first
    | with_reducible assumption
    | with_reducible refine sweepCheck_fits hb ?_
    | with_reducible refine State.put_fits (within_trans (by decide) hb) ?_ _ _
    | with_reducible refine Fits.ite _ ?_ ?_
    | split
    | extract_lets
    | (dsimp +zetaDelta only)

theorem sweepCount_fits {fp : Nat} {s00 s : State} (hb : within 262146 fp = true) (h : Fits fp s00 s)  :
    Fits fp s00 (sweepCount s) := by
  unfold sweepCount
  repeat' first
    | with_reducible assumption
    | with_reducible refine progPos_fits (within_trans (by decide) hb) ?_ _ _
    | with_reducible refine State.setCal_fits (within_trans (by decide) hb) ?_ _ (fun _ => ⟨by first | rfl | simp only [length_upd, List.length_set, List.length_map], by first | rfl | simp only [length_upd, List.length_set, List.length_map]⟩)
    | with_reducible refine Fits.ite _ ?_ ?_
    | split
    | extract_lets
    | (dsimp +zetaDelta only)

theorem toSpare_fits {fp : Nat} {s00 s : State} (hb : within 128 fp = true) (h : Fits fp s00 s) (n : Nat) (on : Bool) :
    Fits fp s00 (toSpare s n on) := by
  unfold toSpare
  repeat' first
    | with_reducible assumption
    | with_reducible refine State.setChan_fits hb ?_ _ _ (by with_unfolding_all exact fun _ h => h) (by with_unfolding_all exact fun _ => ⟨rfl, rfl, rfl⟩)
    | with_reducible refine Fits.ite _ ?_ ?_
    | split
    | extract_lets
    | (dsimp +zetaDelta only)

theorem stepLeave_fits {fp : Nat} {s00 s : State} (hb : within 262272 fp = true) (h : Fits fp s00 s) (d : Nat) :
    Fits fp s00 (stepLeave s d) := by
  unfold stepLeave
  repeat' first
    | with_reducible assumption
    | with_reducible refine toSpare_fits (within_trans (by decide) hb) ?_ _ _
    | with_reducible refine State.setDieCal_fits (within_trans (by decide) hb) ?_ _ _
    | with_reducible refine Fits.ite _ ?_ ?_
    | split
    | extract_lets
    | (dsimp +zetaDelta only)

theorem stepAbandon_fits {fp : Nat} {s00 s : State} (hb : within 262306 fp = true) (h : Fits fp s00 s) (d : Nat) :
    Fits fp s00 (stepAbandon s d) := by
  unfold stepAbandon
  repeat' first
    | with_reducible assumption
    | with_reducible refine stepLeave_fits (within_trans (by decide) hb) ?_ _
    | with_reducible refine calRaise_fits (within_trans (by decide) hb) ?_ _ _ _
    | with_reducible refine State.setDieCal_fits (within_trans (by decide) hb) ?_ _ _
    | with_reducible refine State.hist_fits (within_trans (by decide) hb) ?_ _ _
    | with_reducible refine Fits.ite _ ?_ ?_
    | split
    | extract_lets
    | (dsimp +zetaDelta only)

theorem spareParks_fits {fp : Nat} {s00 s : State} (hb : within 262272 fp = true) (h : Fits fp s00 s) (d : Nat) (i : Nat) :
    Fits fp s00 (spareParks s d i) := by
  unfold spareParks
  repeat' first
    | with_reducible assumption
    | with_reducible refine toSpare_fits (within_trans (by decide) hb) ?_ _ _
    | with_reducible refine State.setDieCal_fits (within_trans (by decide) hb) ?_ _ _
    | with_reducible refine Fits.ite _ ?_ ?_
    | split
    | extract_lets
    | (dsimp +zetaDelta only)

theorem sliceFail_fits {fp : Nat} {s00 s : State} (hb : within 262306 fp = true) (h : Fits fp s00 s) (d : Nat) :
    Fits fp s00 (sliceFail s d) := by
  unfold sliceFail
  repeat' first
    | with_reducible assumption
    | with_reducible refine spareParks_fits (within_trans (by decide) hb) ?_ _ _
    | with_reducible refine stepLeave_fits (within_trans (by decide) hb) ?_ _
    | with_reducible refine calRaise_fits (within_trans (by decide) hb) ?_ _ _ _
    | with_reducible refine State.setSlice_fits (within_trans (by decide) hb) ?_ _ _ _
    | with_reducible refine State.setDieCal_fits (within_trans (by decide) hb) ?_ _ _
    | with_reducible refine State.hist_fits (within_trans (by decide) hb) ?_ _ _
    | with_reducible refine Fits.ite _ ?_ ?_
    | split
    | extract_lets
    | (dsimp +zetaDelta only)

theorem passStart_fits {fp : Nat} {s00 s : State} (hb : within 262144 fp = true) (h : Fits fp s00 s) (d : Nat) (phase : Nat) :
    Fits fp s00 (passStart s d phase) := by
  unfold passStart
  repeat' first
    | with_reducible assumption
    | with_reducible refine State.setDieCal_fits hb ?_ _ _
    | with_reducible refine Fits.ite _ ?_ ?_
    | split
    | extract_lets
    | (dsimp +zetaDelta only)

theorem stepStart_fits {fp : Nat} {s00 s : State} (hb : within 262306 fp = true) (h : Fits fp s00 s) (d : Nat) (rate : Nat) :
    Fits fp s00 (stepStart s d rate) := by
  unfold stepStart
  repeat' first
    | with_reducible assumption
    | with_reducible refine passStart_fits (within_trans (by decide) hb) ?_ _ _
    | with_reducible refine stepAbandon_fits hb ?_ _
    | with_reducible refine sweepStart_fits (within_trans (by decide) hb) ?_ _ _
    | with_reducible refine State.setDieCal_fits (within_trans (by decide) hb) ?_ _ _
    | with_reducible refine Fits.ite _ ?_ ?_
    | split
    | extract_lets
    | (dsimp +zetaDelta only)

theorem passComplete_fits {fp : Nat} {s00 s : State} (hb : within 262306 fp = true) (h : Fits fp s00 s) (d : Nat) (h : List Nat) :
    Fits fp s00 (passComplete s d h) := by
  unfold passComplete
  repeat' first
    | with_reducible assumption
    | with_reducible refine sliceFail_fits hb ?_ _
    | with_reducible refine stepAbandon_fits hb ?_ _
    | with_reducible refine State.setDieCal_fits (within_trans (by decide) hb) ?_ _ _
    | with_reducible refine State.hist_fits (within_trans (by decide) hb) ?_ _ _
    | with_reducible refine Fits.ite _ ?_ ?_
    | split
    | extract_lets
    | (dsimp +zetaDelta only)

theorem passTimeout_fits {fp : Nat} {s00 s : State} (hb : within 262306 fp = true) (h : Fits fp s00 s) (d : Nat) :
    Fits fp s00 (passTimeout s d) := by
  unfold passTimeout
  repeat' first
    | with_reducible assumption
    | with_reducible refine stepAbandon_fits hb ?_ _
    | with_reducible refine State.setDieCal_fits (within_trans (by decide) hb) ?_ _ _
    | with_reducible refine Fits.ite _ ?_ ?_
    | split
    | extract_lets
    | (dsimp +zetaDelta only)

theorem processingDone_fits {fp : Nat} {s00 s : State} (hb : within 262306 fp = true) (h : Fits fp s00 s) (d : Nat) (want : Nat) :
    Fits fp s00 (processingDone s d want) := by
  unfold processingDone
  repeat' first
    | with_reducible assumption
    | with_reducible refine passStart_fits (within_trans (by decide) hb) ?_ _ _
    | with_reducible refine sliceFail_fits hb ?_ _
    | with_reducible refine State.setSlice_fits (within_trans (by decide) hb) ?_ _ _ _
    | with_reducible refine State.setDieCal_fits (within_trans (by decide) hb) ?_ _ _
    | with_reducible refine State.hist_fits (within_trans (by decide) hb) ?_ _ _
    | with_reducible refine Fits.ite _ ?_ ?_
    | split
    | extract_lets
    | (dsimp +zetaDelta only)

theorem nextCalStep_fits {fp : Nat} {s00 s : State} (hb : within 128 fp = true) (h : Fits fp s00 s) (d : Nat) (x0 : Option Nat) :
    Fits fp s00 (nextCalStep s d x0) := by
  unfold nextCalStep
  repeat' first
    | with_reducible assumption
    | with_reducible refine State.setChan_fits hb ?_ _ _ (by with_unfolding_all exact fun _ h => h) (by with_unfolding_all exact fun _ => ⟨rfl, rfl, rfl⟩)
    | with_reducible refine Fits.ite _ ?_ ?_
    | split
    | extract_lets
    | (dsimp +zetaDelta only)

theorem stepComplete_fits {fp : Nat} {s00 s : State} (hb : within 262306 fp = true) (h : Fits fp s00 s) (d : Nat) (mismatch : Option Int) :
    Fits fp s00 (stepComplete s d mismatch) := by
  unfold stepComplete
  repeat' first
    | with_reducible assumption
    | with_reducible refine nextCalStep_fits (within_trans (by decide) hb) ?_ _ _
    | with_reducible refine sweepCount_fits (within_trans (by decide) hb) ?_
    | with_reducible refine sweepCheck_fits (within_trans (by decide) hb) ?_
    | with_reducible refine calRaise_fits (within_trans (by decide) hb) ?_ _ _ _
    | with_reducible refine State.setSlice_fits (within_trans (by decide) hb) ?_ _ _ _
    | with_reducible refine State.setDieCal_fits (within_trans (by decide) hb) ?_ _ _
    | with_reducible refine State.hist_fits (within_trans (by decide) hb) ?_ _ _
    | with_reducible refine State.put_fits (within_trans (by decide) hb) ?_ _ _
    | with_reducible refine Fits.when ?_ _ _ (fun _ _ => ?_)
    | with_reducible refine Fits.ite _ ?_ ?_
    | split
    | extract_lets
    | (dsimp +zetaDelta only)

theorem offsetsDone_fits {fp : Nat} {s00 s : State} (hb : within 262306 fp = true) (h : Fits fp s00 s) (d : Nat) (offsets : Nat) (table : Nat) (residual : Nat) :
    Fits fp s00 (offsetsDone s d offsets table residual) := by
  unfold offsetsDone
  repeat' first
    | with_reducible assumption
    | with_reducible refine stepComplete_fits hb ?_ _ _
    | with_reducible refine sweepCount_fits (within_trans (by decide) hb) ?_
    | with_reducible refine State.setOutCal_fits (within_trans (by decide) hb) ?_ _ _
    | with_reducible refine State.setDieCal_fits (within_trans (by decide) hb) ?_ _ _
    | with_reducible refine State.put_fits (within_trans (by decide) hb) ?_ _ _
    | with_reducible refine Fits.ite _ ?_ ?_
    | split
    | extract_lets
    | (dsimp +zetaDelta only)

theorem handoverCut_fits {fp : Nat} {s00 s : State} (hb : within 262306 fp = true) (h : Fits fp s00 s) (d : Nat) (mismatch : Option Int) :
    Fits fp s00 (handoverCut s d mismatch) := by
  unfold handoverCut
  repeat' first
    | with_reducible assumption
    | with_reducible refine stepComplete_fits hb ?_ _ _
    | with_reducible refine passStart_fits (within_trans (by decide) hb) ?_ _ _
    | with_reducible refine toSpare_fits (within_trans (by decide) hb) ?_ _ _
    | with_reducible refine State.setDieCal_fits (within_trans (by decide) hb) ?_ _ _
    | with_reducible refine Fits.ite _ ?_ ?_
    | split
    | extract_lets
    | (dsimp +zetaDelta only)

theorem linkAbandon_fits {fp : Nat} {s00 s : State} (hb : within 262306 fp = true) (h : Fits fp s00 s) (d : Nat) :
    Fits fp s00 (linkAbandon s d) := by
  unfold linkAbandon
  repeat' first
    | with_reducible assumption
    | with_reducible refine stepAbandon_fits hb ?_ _
    | with_reducible refine Fits.ite _ ?_ ?_
    | split
    | extract_lets
    | (dsimp +zetaDelta only)

theorem calTbChange_fits {fp : Nat} {s00 s : State} (hb : within 262306 fp = true) (h : Fits fp s00 s)  :
    Fits fp s00 (calTbChange s) := by
  unfold calTbChange
  repeat' first
    | with_reducible assumption
    | with_reducible refine stepAbandon_fits hb ?_ _
    | with_reducible refine Fits.many ?_ _ _ (fun _ _ _ => ?_)
    | with_reducible refine Fits.ite _ ?_ ?_
    | split
    | extract_lets
    | (dsimp +zetaDelta only)

theorem calRole_fits {fp : Nat} {s00 s : State} (hb : within 262306 fp = true) (h : Fits fp s00 s) (n : Nat) (was : Bool) :
    Fits fp s00 (calRole s n was) := by
  unfold calRole
  repeat' first
    | with_reducible assumption
    | with_reducible refine spareParks_fits (within_trans (by decide) hb) ?_ _ _
    | with_reducible refine stepAbandon_fits hb ?_ _
    | with_reducible refine Fits.ite _ ?_ ?_
    | split
    | extract_lets
    | (dsimp +zetaDelta only)

theorem sweepNow_fits {fp : Nat} {s00 s : State} (hb : within 262146 fp = true) (h : Fits fp s00 s)  :
    Fits fp s00 (sweepNow s) := by
  unfold sweepNow
  repeat' first
    | with_reducible assumption
    | with_reducible refine sweepStart_fits hb ?_ _ _
    | with_reducible refine State.setDieCal_fits (within_trans (by decide) hb) ?_ _ _
    | with_reducible refine Fits.many ?_ _ _ (fun _ _ _ => ?_)
    | with_reducible refine Fits.ite _ ?_ ?_
    | split
    | extract_lets
    | (dsimp +zetaDelta only)

theorem outTrack_fits {fp : Nat} {s00 s : State} (hb : within 262178 fp = true) (h : Fits fp s00 s) (n : Nat) (err : Int) :
    Fits fp s00 (outTrack s n err) := by
  unfold outTrack
  repeat' first
    | with_reducible assumption
    | with_reducible refine calRaise_fits (within_trans (by decide) hb) ?_ _ _ _
    | with_reducible refine State.setOutCal_fits (within_trans (by decide) hb) ?_ _ _
    | with_reducible refine State.hist_fits (within_trans (by decide) hb) ?_ _ _
    | with_reducible refine Fits.when ?_ _ _ (fun _ _ => ?_)
    | with_reducible refine Fits.ite _ ?_ ?_
    | split
    | extract_lets
    | (dsimp +zetaDelta only)

theorem branchStep_fits {fp : Nat} {s00 s : State} (hb : within 6 fp = true) (h : Fits fp s00 s) (c : Nat) (move : Int) (err : Int) :
    Fits fp s00 (branchStep s c move err) := by
  unfold branchStep
  repeat' first
    | with_reducible assumption
    | with_reducible refine State.dputI_fits (within_trans (by decide) hb) ?_ _ _ _
    | with_reducible refine State.put_fits (within_trans (by decide) hb) ?_ _ _
    | with_reducible refine Fits.ite _ ?_ ?_
    | split
    | extract_lets
    | (dsimp +zetaDelta only)

theorem apllTrim_fits {fp : Nat} {s00 s : State} (hb : within 38 fp = true) (h : Fits fp s00 s) (j : Nat) (amp : Int) (gain : Int) (margin : Nat) :
    Fits fp s00 (apllTrim s j amp gain margin) := by
  unfold apllTrim
  repeat' first
    | with_reducible assumption
    | with_reducible refine State.raise_fits (within_trans (by decide) hb) ?_ _ _ _ _
    | with_reducible refine State.hist_fits (within_trans (by decide) hb) ?_ _ _
    | with_reducible refine State.dput_fits (within_trans (by decide) hb) ?_ _ _
    | with_reducible refine State.put_fits (within_trans (by decide) hb) ?_ _ _
    | with_reducible refine Fits.when ?_ _ _ (fun _ _ => ?_)
    | with_reducible refine Fits.ite _ ?_ ?_
    | split
    | extract_lets
    | (dsimp +zetaDelta only)

theorem bandKept_fits {fp : Nat} {s00 s : State} (hb : within 8198 fp = true) (h : Fits fp s00 s) (j : Nat) (band : Nat) :
    Fits fp s00 (bandKept s j band) := by
  unfold bandKept
  repeat' first
    | with_reducible assumption
    | with_reducible refine bandDone_fits (within_trans (by decide) hb) ?_ _
    | with_reducible refine State.dput_fits (within_trans (by decide) hb) ?_ _ _
    | with_reducible refine State.put_fits (within_trans (by decide) hb) ?_ _ _
    | with_reducible refine Fits.ite _ ?_ ?_
    | split
    | extract_lets
    | (dsimp +zetaDelta only)

theorem laneStep_fits {fp : Nat} {s00 s : State} (hb : within 2 fp = true) (h : Fits fp s00 s) (l : Nat) (ctle : Int) (dfe1 : Int) (dfe2 : Int) :
    Fits fp s00 (laneStep s l ctle dfe1 dfe2) := by
  unfold laneStep
  repeat' first
    | with_reducible assumption
    | with_reducible refine State.put_fits hb ?_ _ _
    | with_reducible refine Fits.ite _ ?_ ?_
    | split
    | extract_lets
    | (dsimp +zetaDelta only)

theorem eyeMonitor_fits {fp : Nat} {s00 s : State} (hb : within 262178 fp = true) (h : Fits fp s00 s) (l : Nat) (width : Nat) :
    Fits fp s00 (eyeMonitor s l width) := by
  unfold eyeMonitor
  repeat' first
    | with_reducible assumption
    | with_reducible refine State.raise_fits (within_trans (by decide) hb) ?_ _ _ _ _
    | with_reducible refine State.setCal_fits (within_trans (by decide) hb) ?_ _ (fun _ => ⟨by first | rfl | simp only [length_upd, List.length_set, List.length_map], by first | rfl | simp only [length_upd, List.length_set, List.length_map]⟩)
    | with_reducible refine State.hist_fits (within_trans (by decide) hb) ?_ _ _
    | with_reducible refine State.put_fits (within_trans (by decide) hb) ?_ _ _
    | with_reducible refine Fits.when ?_ _ _ (fun _ _ => ?_)
    | with_reducible refine Fits.ite _ ?_ ?_
    | split
    | extract_lets
    | (dsimp +zetaDelta only)

theorem sliceRecPut_fits {fp : Nat} {s00 s : State} (hb : within 262274 fp = true) (h : Fits fp s00 s) (d : Nat) (i : Nat) (v : Nat) :
    Fits fp s00 (sliceRecPut s d i v) := by
  unfold sliceRecPut
  repeat' first
    | with_reducible assumption
    | with_reducible refine nextCalStep_fits (within_trans (by decide) hb) ?_ _ _
    | with_reducible refine State.setSlice_fits (within_trans (by decide) hb) ?_ _ _ _
    | with_reducible refine State.put_fits (within_trans (by decide) hb) ?_ _ _
    | with_reducible refine Fits.ite _ ?_ ?_
    | split
    | extract_lets
    | (dsimp +zetaDelta only)

theorem outRecPut_fits {fp : Nat} {s00 s : State} (hb : within 2 fp = true) (h : Fits fp s00 s) (d : Nat) (i : Nat) (v : Nat) :
    Fits fp s00 (outRecPut s d i v) := by
  unfold outRecPut
  repeat' first
    | with_reducible assumption
    | with_reducible refine State.put_fits hb ?_ _ _
    | with_reducible refine Fits.ite _ ?_ ?_
    | split
    | extract_lets
    | (dsimp +zetaDelta only)

theorem calSave_fits {fp : Nat} {s00 s : State} (hb : within 262146 fp = true) (h : Fits fp s00 s)  :
    Fits fp s00 (calSave s) := by
  unfold calSave
  repeat' first
    | with_reducible assumption
    | with_reducible refine State.setCal_fits (within_trans (by decide) hb) ?_ _ (fun _ => ⟨by first | rfl | simp only [length_upd, List.length_set, List.length_map], by first | rfl | simp only [length_upd, List.length_set, List.length_map]⟩)
    | with_reducible refine State.hist_fits (within_trans (by decide) hb) ?_ _ _
    | with_reducible refine State.put_fits (within_trans (by decide) hb) ?_ _ _
    | with_reducible refine Fits.ite _ ?_ ?_
    | split
    | extract_lets
    | (dsimp +zetaDelta only)

theorem calRestore_fits {fp : Nat} {s00 s : State} (hb : within 262274 fp = true) (h : Fits fp s00 s)  :
    Fits fp s00 (calRestore s) := by
  unfold calRestore
  repeat' first
    | with_reducible assumption
    | with_reducible refine outRecPut_fits (within_trans (by decide) hb) ?_ _ _ _
    | with_reducible refine sliceRecPut_fits hb ?_ _ _ _
    | with_reducible refine State.hist_fits (within_trans (by decide) hb) ?_ _ _
    | with_reducible refine State.put_fits (within_trans (by decide) hb) ?_ _ _
    | with_reducible refine Fits.many ?_ _ _ (fun _ _ _ => ?_)
    | with_reducible refine Fits.ite _ ?_ ?_
    | split
    | extract_lets
    | (dsimp +zetaDelta only)

theorem bootPass_fits {fp : Nat} {s00 s : State} (hb : within 262290 fp = true) (h : Fits fp s00 s)  :
    Fits fp s00 (bootPass s) := by
  unfold bootPass
  repeat' first
    | with_reducible assumption
    | with_reducible refine outRecPut_fits (within_trans (by decide) hb) ?_ _ _ _
    | with_reducible refine sliceRecPut_fits (within_trans (by decide) hb) ?_ _ _ _
    | with_reducible refine State.setOutCal_fits (within_trans (by decide) hb) ?_ _ _
    | with_reducible refine State.setSlice_fits (within_trans (by decide) hb) ?_ _ _ _
    | with_reducible refine State.freeNext_fits (within_trans (by decide) hb) ?_
    | with_reducible refine Fits.many ?_ _ _ (fun _ _ _ => ?_)
    | with_reducible refine Fits.ite _ ?_ ?_
    | split
    | extract_lets
    | (dsimp +zetaDelta only)

end Sys2Proof.Machine
end

