-- ==== Sys2Proof/Laws/FitsNvm.lean ====
section
/-! SUPPORT. What each operation of Machine/Nvm.lean may touch, and the invariants that it keeps. -/

set_option linter.unusedSimpArgs false
set_option linter.unusedVariables false

namespace Sys2Proof.Machine

theorem cellsPut_wf : ∀ (n : Nat) {m : List (Nat × Byte)} (a v : Nat), storeWf (fun _ => (255 : Byte)) m = true →
    storeWf (fun _ => (255 : Byte)) (cellsPut m a v n) = true
  | 0, _, _, _, h => h
  | n + 1, _, _, _, h => cellsPut_wf n _ _ (storePut_wf _ _ _ h)

theorem pagesPut_wf : ∀ (l : List (Nat × Nat)) {m : List (Nat × Byte)}, storeWf (fun _ => (255 : Byte)) m = true →
    storeWf (fun _ => (255 : Byte)) (l.foldl (fun m e => cellsPut m (256 * e.1) e.2 256) m) = true
  | [], _, h => h
  | _ :: r, _, h => pagesPut_wf r (cellsPut_wf _ _ _ h)

theorem State.devSet_fits {fp : Nat} {s00 s : State} (hb : within 524288 fp = true) (h : Fits fp s00 s) (f : DevState → DevState) (hd : ∀ d, DevOk d → DevOk (f d)) :
    Fits fp s00 (State.devSet s f) := by
  exact State.nvSet_fits hb h _ (fun k => k) (fun k => ⟨hd _ k.1, k.2⟩)

theorem eccSingle_fits {fp : Nat} {s00 s : State} (hb : within 524322 fp = true) (h : Fits fp s00 s) (g : Nat) :
    Fits fp s00 (eccSingle s g) := by
  unfold eccSingle
  repeat' first
    | with_reducible assumption
    | with_reducible refine State.devSet_fits (within_trans (by decide) hb) ?_ _ (by first | with_unfolding_all exact fun _ h => h | (intro d hd; simp only [DevOk] at hd ⊢; omega))
    | with_reducible refine State.raise_fits (within_trans (by decide) hb) ?_ _ _ _ _
    | with_reducible refine State.nvSet_fits (within_trans (by decide) hb) ?_ _ (by with_unfolding_all exact fun h => h) (by first | with_unfolding_all exact fun h => h | with_unfolding_all exact fun h => ⟨h.1, fun y hy => Option.some.inj hy ▸ h.1⟩ | with_unfolding_all exact fun h => ⟨h.1, fun _ k => absurd k (by simp)⟩)
    | with_reducible refine State.hist_fits (within_trans (by decide) hb) ?_ _ _
    | with_reducible refine State.put_fits (within_trans (by decide) hb) ?_ _ _
    | with_reducible refine Fits.ite _ ?_ ?_
    | split
    | extract_lets
    | (dsimp +zetaDelta only)

theorem eccDouble_fits {fp : Nat} {s00 s : State} (hb : within 524322 fp = true) (h : Fits fp s00 s) (g : Nat) :
    Fits fp s00 (eccDouble s g) := by
  unfold eccDouble
  repeat' first
    | with_reducible assumption
    | with_reducible refine State.devSet_fits (within_trans (by decide) hb) ?_ _ (by first | with_unfolding_all exact fun _ h => h | (intro d hd; simp only [DevOk] at hd ⊢; omega))
    | with_reducible refine State.raise_fits (within_trans (by decide) hb) ?_ _ _ _ _
    | with_reducible refine State.hist_fits (within_trans (by decide) hb) ?_ _ _
    | with_reducible refine State.put_fits (within_trans (by decide) hb) ?_ _ _
    | with_reducible refine Fits.ite _ ?_ ?_
    | split
    | extract_lets
    | (dsimp +zetaDelta only)

theorem eccRead_fits {fp : Nat} {s00 s : State} (hb : within 524322 fp = true) (h : Fits fp s00 s) (a : Nat) (n : Nat) :
    Fits fp s00 (eccRead s a n).2 := by
  unfold eccRead
  repeat' first
    | with_reducible assumption
    | with_reducible refine eccDouble_fits hb ?_ _
    | with_reducible refine eccSingle_fits hb ?_ _
    | with_reducible refine Fits.many ?_ _ _ (fun _ _ _ => ?_)
    | with_reducible refine Fits.ite _ ?_ ?_
    | with_reducible refine Fits.ite_snd _ ?_ ?_
    | split
    | extract_lets
    | (dsimp +zetaDelta only)

theorem energyLow_fits {fp : Nat} {s00 s : State} (hb : within 524322 fp = true) (h : Fits fp s00 s)  :
    Fits fp s00 (energyLow s) := by
  unfold energyLow
  repeat' first
    | with_reducible assumption
    | with_reducible refine State.raise_fits (within_trans (by decide) hb) ?_ _ _ _ _
    | with_reducible refine State.nvSet_fits (within_trans (by decide) hb) ?_ _ (by with_unfolding_all exact fun h => h) (by first | with_unfolding_all exact fun h => h | with_unfolding_all exact fun h => ⟨h.1, fun y hy => Option.some.inj hy ▸ h.1⟩ | with_unfolding_all exact fun h => ⟨h.1, fun _ k => absurd k (by simp)⟩)
    | with_reducible refine State.hist_fits (within_trans (by decide) hb) ?_ _ _
    | with_reducible refine Fits.when ?_ _ _ (fun _ _ => ?_)
    | with_reducible refine Fits.ite _ ?_ ?_
    | split
    | extract_lets
    | (dsimp +zetaDelta only)

theorem countAccept_fits {fp : Nat} {s00 s : State} (hb : within 524288 fp = true) (h : Fits fp s00 s) (n : Nat) :
    Fits fp s00 (countAccept s n) := by
  unfold countAccept
  repeat' first
    | with_reducible assumption
    | with_reducible refine State.devSet_fits hb ?_ _ (by first | with_unfolding_all exact fun _ h => h | (intro d hd; simp only [DevOk] at hd ⊢; omega))
    | with_reducible refine Fits.ite _ ?_ ?_
    | split
    | extract_lets
    | (dsimp +zetaDelta only)

theorem countCommit_fits {fp : Nat} {s00 s : State} (hb : within 524288 fp = true) (h : Fits fp s00 s) (n : Nat) :
    Fits fp s00 (countCommit s n) := by
  unfold countCommit
  repeat' first
    | with_reducible assumption
    | with_reducible refine State.devSet_fits hb ?_ _ (by first | with_unfolding_all exact fun _ h => h | (intro d hd; simp only [DevOk] at hd ⊢; omega))
    | with_reducible refine Fits.ite _ ?_ ?_
    | split
    | extract_lets
    | (dsimp +zetaDelta only)

theorem countRollBack_fits {fp : Nat} {s00 s : State} (hb : within 524288 fp = true) (h : Fits fp s00 s) (n : Nat) :
    Fits fp s00 (countRollBack s n) := by
  unfold countRollBack
  repeat' first
    | with_reducible assumption
    | with_reducible refine State.devSet_fits hb ?_ _ (by first | with_unfolding_all exact fun _ h => h | (intro d hd; simp only [DevOk] at hd ⊢; omega))
    | with_reducible refine Fits.ite _ ?_ ?_
    | split
    | extract_lets
    | (dsimp +zetaDelta only)

theorem slotWrite_fits {fp : Nat} {s00 s : State} (hb : within 524288 fp = true) (h : Fits fp s00 s) (o : Owner) (a : Nat) (len : Nat) (x : Nat) :
    Fits fp s00 (slotWrite s o a len x) := by
  unfold slotWrite
  repeat' first
    | with_reducible assumption
    | with_reducible refine State.nvSet_fits hb ?_ _ (by with_unfolding_all exact fun h => h) (by first | with_unfolding_all exact fun h => h | with_unfolding_all exact fun h => ⟨h.1, fun y hy => Option.some.inj hy ▸ h.1⟩ | with_unfolding_all exact fun h => ⟨h.1, fun _ k => absurd k (by simp)⟩)
    | with_reducible refine Fits.many ?_ _ _ (fun _ _ _ => ?_)
    | with_reducible refine Fits.ite _ ?_ ?_
    | split
    | extract_lets
    | (dsimp +zetaDelta only)

theorem dropSlots_fits {fp : Nat} {s00 s : State} (hb : within 524288 fp = true) (h : Fits fp s00 s) (o : Owner) :
    Fits fp s00 (dropSlots s o) := by
  unfold dropSlots
  repeat' first
    | with_reducible assumption
    | with_reducible refine State.nvSet_fits hb ?_ _ (by with_unfolding_all exact fun h => h) (by first | with_unfolding_all exact fun h => h | with_unfolding_all exact fun h => ⟨h.1, fun y hy => Option.some.inj hy ▸ h.1⟩ | with_unfolding_all exact fun h => ⟨h.1, fun _ k => absurd k (by simp)⟩)
    | with_reducible refine Fits.ite _ ?_ ?_
    | split
    | extract_lets
    | (dsimp +zetaDelta only)

theorem jobPut_fits {fp : Nat} {s00 s : State} (hb : within 524288 fp = true) (h : Fits fp s00 s) (j : Job) :
    Fits fp s00 (jobPut s j) := by
  unfold jobPut
  repeat' first
    | with_reducible assumption
    | with_reducible refine State.nvSet_fits hb ?_ _ (by with_unfolding_all exact fun h => h) (by first | with_unfolding_all exact fun h => h | with_unfolding_all exact fun h => ⟨h.1, fun y hy => Option.some.inj hy ▸ h.1⟩ | with_unfolding_all exact fun h => ⟨h.1, fun _ k => absurd k (by simp)⟩)
    | with_reducible refine Fits.ite _ ?_ ?_
    | split
    | extract_lets
    | (dsimp +zetaDelta only)

theorem requestStore_fits {fp : Nat} {s00 s : State} (hb : within 524288 fp = true) (h : Fits fp s00 s)  :
    Fits fp s00 (requestStore s) := by
  unfold requestStore
  repeat' first
    | with_reducible assumption
    | with_reducible refine jobPut_fits hb ?_ _
    | with_reducible refine Fits.ite _ ?_ ?_
    | split
    | extract_lets
    | (dsimp +zetaDelta only)

theorem rollBack_fits {fp : Nat} {s00 s : State} (hb : within 524290 fp = true) (h : Fits fp s00 s) (o : Owner) (writes : Nat) :
    Fits fp s00 (rollBack s o writes) := by
  unfold rollBack
  repeat' first
    | with_reducible assumption
    | with_reducible refine dropSlots_fits (within_trans (by decide) hb) ?_ _
    | with_reducible refine countRollBack_fits (within_trans (by decide) hb) ?_ _
    | with_reducible refine State.hist_fits (within_trans (by decide) hb) ?_ _ _
    | with_reducible refine Fits.ite _ ?_ ?_
    | split
    | extract_lets
    | (dsimp +zetaDelta only)

theorem rollHost_fits {fp : Nat} {s00 s : State} (hb : within 524290 fp = true) (h : Fits fp s00 s)  :
    Fits fp s00 (rollHost s) := by
  unfold rollHost
  repeat' first
    | with_reducible assumption
    | with_reducible refine rollBack_fits hb ?_ _ _
    | with_reducible refine State.nvSet_fits (within_trans (by decide) hb) ?_ _ (by with_unfolding_all exact fun h => h) (by first | with_unfolding_all exact fun h => h | with_unfolding_all exact fun h => ⟨h.1, fun y hy => Option.some.inj hy ▸ h.1⟩ | with_unfolding_all exact fun h => ⟨h.1, fun _ k => absurd k (by simp)⟩)
    | with_reducible refine Fits.ite _ ?_ ?_
    | split
    | extract_lets
    | (dsimp +zetaDelta only)

theorem State.setRing_fits {fp : Nat} {s00 s : State} (hb : within 524288 fp = true) (h : Fits fp s00 s) (log : Bool) (f : LogRing → LogRing) :
    Fits fp s00 (State.setRing s log f) := by
  unfold State.setRing
  repeat' first
    | with_reducible assumption
    | with_reducible refine State.nvSet_fits hb ?_ _ (by with_unfolding_all exact fun h => h) (by first | with_unfolding_all exact fun h => h | with_unfolding_all exact fun h => ⟨h.1, fun y hy => Option.some.inj hy ▸ h.1⟩ | with_unfolding_all exact fun h => ⟨h.1, fun _ k => absurd k (by simp)⟩)
    | with_reducible refine Fits.ite _ ?_ ?_
    | split
    | extract_lets
    | (dsimp +zetaDelta only)

theorem logStage_fits {fp : Nat} {s00 s : State} (hb : within 524288 fp = true) (h : Fits fp s00 s) (log : Bool) (r : LogRec) :
    Fits fp s00 (logStage s log r) := by
  unfold logStage
  repeat' first
    | with_reducible assumption
    | with_reducible refine State.setRing_fits hb ?_ _ _
    | with_reducible refine jobPut_fits hb ?_ _
    | with_reducible refine countAccept_fits hb ?_ _
    | with_reducible refine Fits.when ?_ _ _ (fun _ _ => ?_)
    | with_reducible refine Fits.ite _ ?_ ?_
    | split
    | extract_lets
    | (dsimp +zetaDelta only)

theorem logOpen_fits {fp : Nat} {s00 s : State} (hb : within 524288 fp = true) (h : Fits fp s00 s) (log : Bool) (r : LogRec) :
    Fits fp s00 (logOpen s log r) := by
  unfold logOpen
  repeat' first
    | with_reducible assumption
    | with_reducible refine logStage_fits hb ?_ _ _
    | with_reducible refine State.setRing_fits hb ?_ _ _
    | with_reducible refine Fits.ite _ ?_ ?_
    | split
    | extract_lets
    | (dsimp +zetaDelta only)

theorem logDrain_fits {fp : Nat} {s00 s : State} (hb : within 524288 fp = true) (h : Fits fp s00 s) (log : Bool) :
    Fits fp s00 (logDrain s log) := by
  unfold logDrain
  repeat' first
    | with_reducible assumption
    | with_reducible refine logStage_fits hb ?_ _ _
    | with_reducible refine State.setRing_fits hb ?_ _ _
    | with_reducible refine Fits.many ?_ _ _ (fun _ _ _ => ?_)
    | with_reducible refine Fits.ite _ ?_ ?_
    | split
    | extract_lets
    | (dsimp +zetaDelta only)

theorem logMove_fits {fp : Nat} {s00 s : State} (hb : within 524288 fp = true) (h : Fits fp s00 s) (log : Bool) :
    Fits fp s00 (logMove s log) := by
  unfold logMove
  repeat' first
    | with_reducible assumption
    | with_reducible refine logDrain_fits hb ?_ _
    | with_reducible refine State.setRing_fits hb ?_ _ _
    | with_reducible refine Fits.ite _ ?_ ?_
    | split
    | extract_lets
    | (dsimp +zetaDelta only)

theorem logRollBack_fits {fp : Nat} {s00 s : State} (hb : within 524290 fp = true) (h : Fits fp s00 s) (log : Bool) :
    Fits fp s00 (logRollBack s log) := by
  unfold logRollBack
  repeat' first
    | with_reducible assumption
    | with_reducible refine State.setRing_fits (within_trans (by decide) hb) ?_ _ _
    | with_reducible refine countRollBack_fits (within_trans (by decide) hb) ?_ _
    | with_reducible refine State.hist_fits (within_trans (by decide) hb) ?_ _ _
    | with_reducible refine Fits.when ?_ _ _ (fun _ _ => ?_)
    | with_reducible refine Fits.ite _ ?_ ?_
    | split
    | extract_lets
    | (dsimp +zetaDelta only)

theorem logLanded_fits {fp : Nat} {s00 s : State} (hb : within 524290 fp = true) (h : Fits fp s00 s) (log : Bool) (n : Nat) :
    Fits fp s00 (logLanded s log n) := by
  unfold logLanded
  repeat' first
    | with_reducible assumption
    | with_reducible refine State.setRing_fits (within_trans (by decide) hb) ?_ _ _
    | with_reducible refine State.hist_fits (within_trans (by decide) hb) ?_ _ _
    | with_reducible refine State.inc_fits (within_trans (by decide) hb) ?_ _ _ _
    | with_reducible refine Fits.ite _ ?_ ?_
    | split
    | extract_lets
    | (dsimp +zetaDelta only)

theorem journalWrite_fits {fp : Nat} {s00 s : State} (hb : within 524288 fp = true) (h : Fits fp s00 s) (via : Iface) (index : Nat) (sub : Nat) (old : Datum) (new : Datum) :
    Fits fp s00 (journalWrite s via index sub old new) := by
  unfold journalWrite
  repeat' first
    | with_reducible assumption
    | with_reducible refine logOpen_fits hb ?_ _ _
    | with_reducible refine State.setRing_fits hb ?_ _ _
    | with_reducible refine Fits.ite _ ?_ ?_
    | split
    | extract_lets
    | (dsimp +zetaDelta only)

theorem logEvent_fits {fp : Nat} {s00 s : State} (hb : within 524290 fp = true) (h : Fits fp s00 s) (level : Nat) (flags : Nat) (msg : Nat) :
    Fits fp s00 (logEvent s level flags msg).2 := by
  unfold logEvent
  repeat' first
    | with_reducible assumption
    | with_reducible refine logOpen_fits (within_trans (by decide) hb) ?_ _ _
    | with_reducible refine State.inc_fits (within_trans (by decide) hb) ?_ _ _ _
    | with_reducible refine Fits.ite _ ?_ ?_
    | with_reducible refine Fits.ite_snd _ ?_ ?_
    | split
    | extract_lets
    | (dsimp +zetaDelta only)

theorem logTimer_fits {fp : Nat} {s00 s : State} (hb : within 524288 fp = true) (h : Fits fp s00 s) (log : Bool) :
    Fits fp s00 (logTimer s log) := by
  unfold logTimer
  repeat' first
    | with_reducible assumption
    | with_reducible refine jobPut_fits hb ?_ _
    | with_reducible refine Fits.when ?_ _ _ (fun _ _ => ?_)
    | with_reducible refine Fits.ite _ ?_ ?_
    | split
    | extract_lets
    | (dsimp +zetaDelta only)

theorem pfStep3_fits {fp : Nat} {s00 s : State} (hb : within 524290 fp = true) (h : Fits fp s00 s)  :
    Fits fp s00 (pfStep3 s) := by
  unfold pfStep3
  repeat' first
    | with_reducible assumption
    | with_reducible refine hostCommit_fits (within_trans (by decide) hb) ?_
    | with_reducible refine rollHost_fits hb ?_
    | with_reducible refine rollBack_fits hb ?_ _ _
    | with_reducible refine State.nvSet_fits (within_trans (by decide) hb) ?_ _ (by with_unfolding_all exact fun h => h) (by first | with_unfolding_all exact fun h => h | with_unfolding_all exact fun h => ⟨h.1, fun y hy => Option.some.inj hy ▸ h.1⟩ | with_unfolding_all exact fun h => ⟨h.1, fun _ k => absurd k (by simp)⟩)
    | with_reducible refine Fits.ite _ ?_ ?_
    | split
    | extract_lets
    | (dsimp +zetaDelta only)

theorem pfailFall_fits {fp : Nat} {s00 s : State} (hb : within 524322 fp = true) (h : Fits fp s00 s)  :
    Fits fp s00 (pfailFall s) := by
  unfold pfailFall
  repeat' first
    | with_reducible assumption
    | with_reducible refine pfStep3_fits (within_trans (by decide) hb) ?_
    | with_reducible refine State.raise_fits (within_trans (by decide) hb) ?_ _ _ _ _
    | with_reducible refine State.nvSet_fits (within_trans (by decide) hb) ?_ _ (by with_unfolding_all exact fun h => h) (by first | with_unfolding_all exact fun h => h | with_unfolding_all exact fun h => ⟨h.1, fun y hy => Option.some.inj hy ▸ h.1⟩ | with_unfolding_all exact fun h => ⟨h.1, fun _ k => absurd k (by simp)⟩)
    | with_reducible refine State.hist_fits (within_trans (by decide) hb) ?_ _ _
    | with_reducible refine Fits.ite _ ?_ ?_
    | split
    | extract_lets
    | (dsimp +zetaDelta only)

theorem pfailRise_fits {fp : Nat} {s00 s : State} (hb : within 524288 fp = true) (h : Fits fp s00 s)  :
    Fits fp s00 (pfailRise s) := by
  unfold pfailRise
  repeat' first
    | with_reducible assumption
    | with_reducible refine logDrain_fits hb ?_ _
    | with_reducible refine State.nvSet_fits hb ?_ _ (by with_unfolding_all exact fun h => h) (by first | with_unfolding_all exact fun h => h | with_unfolding_all exact fun h => ⟨h.1, fun y hy => Option.some.inj hy ▸ h.1⟩ | with_unfolding_all exact fun h => ⟨h.1, fun _ k => absurd k (by simp)⟩)
    | with_reducible refine Fits.ite _ ?_ ?_
    | split
    | extract_lets
    | (dsimp +zetaDelta only)

theorem jobPop_fits {fp : Nat} {s00 s : State} (hb : within 524288 fp = true) (h : Fits fp s00 s)  :
    Fits fp s00 (jobPop s) := by
  unfold jobPop
  repeat' first
    | with_reducible assumption
    | with_reducible refine State.nvSet_fits hb ?_ _ (by with_unfolding_all exact fun h => h) (by first | with_unfolding_all exact fun h => h | with_unfolding_all exact fun h => ⟨h.1, fun y hy => Option.some.inj hy ▸ h.1⟩ | with_unfolding_all exact fun h => ⟨h.1, fun _ k => absurd k (by simp)⟩)
    | with_reducible refine Fits.ite _ ?_ ?_
    | split
    | extract_lets
    | (dsimp +zetaDelta only)

theorem commitFails_fits {fp : Nat} {s00 s : State} (hb : within 524322 fp = true) (h : Fits fp s00 s) (j : Job) :
    Fits fp s00 (commitFails s j) := by
  unfold commitFails
  repeat' first
    | with_reducible assumption
    | with_reducible refine hostCommit_fits (within_trans (by decide) hb) ?_
    | with_reducible refine jobPop_fits (within_trans (by decide) hb) ?_
    | with_reducible refine logRollBack_fits (within_trans (by decide) hb) ?_ _
    | with_reducible refine energyLow_fits hb ?_
    | with_reducible refine progSet_fits (within_trans (by decide) hb) ?_ _ _ _ _ _ _
    | with_reducible refine State.nvSet_fits (within_trans (by decide) hb) ?_ _ (by with_unfolding_all exact fun h => h) (by first | with_unfolding_all exact fun h => h | with_unfolding_all exact fun h => ⟨h.1, fun y hy => Option.some.inj hy ▸ h.1⟩ | with_unfolding_all exact fun h => ⟨h.1, fun _ k => absurd k (by simp)⟩)
    | with_reducible refine Fits.ite _ ?_ ?_
    | split
    | extract_lets
    | (dsimp +zetaDelta only)

theorem commitSeal_fits {fp : Nat} {s00 s : State} (hb : within 524290 fp = true) (h : Fits fp s00 s) (j : Job) :
    Fits fp s00 (commitSeal s j) := by
  unfold commitSeal
  repeat' first
    | with_reducible assumption
    | with_reducible refine jobPop_fits (within_trans (by decide) hb) ?_
    | with_reducible refine logMove_fits (within_trans (by decide) hb) ?_ _
    | with_reducible refine progStart_fits (within_trans (by decide) hb) ?_ _ _ _
    | with_reducible refine State.nvSet_fits (within_trans (by decide) hb) ?_ _ (by with_unfolding_all exact fun h => h) (by first | with_unfolding_all exact fun h => h | with_unfolding_all exact fun h => ⟨h.1, fun y hy => Option.some.inj hy ▸ h.1⟩ | with_unfolding_all exact fun h => ⟨h.1, fun _ k => absurd k (by simp)⟩)
    | with_reducible refine Fits.foldl_snd _ (fun _ _ _ => ?_) _ ?_
    | with_reducible refine Fits.foldl _ (fun _ _ _ => ?_) _ ?_
    | with_reducible refine Fits.ite _ ?_ ?_
    | split
    | extract_lets
    | (dsimp +zetaDelta only)

theorem commitTry_fits {fp : Nat} {s00 s : State} (hb : within 524322 fp = true) (h : Fits fp s00 s)  :
    Fits fp s00 (commitTry s) := by
  unfold commitTry
  repeat' first
    | with_reducible assumption
    | with_reducible refine commitSeal_fits (within_trans (by decide) hb) ?_ _
    | with_reducible refine commitFails_fits hb ?_ _
    | with_reducible refine jobPop_fits (within_trans (by decide) hb) ?_
    | with_reducible refine pfStep3_fits (within_trans (by decide) hb) ?_
    | with_reducible refine Fits.ite _ ?_ ?_
    | split
    | extract_lets
    | (dsimp +zetaDelta only)

theorem rewriteGroup_fits {fp : Nat} {s00 s : State} (hb : within 524322 fp = true) (h : Fits fp s00 s)  :
    Fits fp s00 (rewriteGroup s) := by
  unfold rewriteGroup
  repeat' first
    | with_reducible assumption
    | with_reducible refine energyLow_fits hb ?_
    | with_reducible refine State.devSet_fits (within_trans (by decide) hb) ?_ _ (by first | with_unfolding_all exact fun _ h => h | (intro d hd; simp only [DevOk] at hd ⊢; omega))
    | with_reducible refine State.nvSet_fits (within_trans (by decide) hb) ?_ _ (by with_unfolding_all exact fun h => h) (by first | with_unfolding_all exact fun h => h | with_unfolding_all exact fun h => ⟨h.1, fun y hy => Option.some.inj hy ▸ h.1⟩ | with_unfolding_all exact fun h => ⟨h.1, fun _ k => absurd k (by simp)⟩)
    | with_reducible refine Fits.ite _ ?_ ?_
    | split
    | extract_lets
    | (dsimp +zetaDelta only)

theorem commitStart_fits {fp : Nat} {s00 s : State} (hb : within 524322 fp = true) (h : Fits fp s00 s)  :
    Fits fp s00 (commitStart s) := by
  unfold commitStart
  repeat' first
    | with_reducible assumption
    | with_reducible refine rewriteGroup_fits hb ?_
    | with_reducible refine commitTry_fits hb ?_
    | with_reducible refine Fits.ite _ ?_ ?_
    | split
    | extract_lets
    | (dsimp +zetaDelta only)

theorem energyRecheck_fits {fp : Nat} {s00 s : State} (hb : within 524322 fp = true) (h : Fits fp s00 s)  :
    Fits fp s00 (energyRecheck s) := by
  unfold energyRecheck
  repeat' first
    | with_reducible assumption
    | with_reducible refine commitTry_fits hb ?_
    | with_reducible refine Fits.ite _ ?_ ?_
    | split
    | extract_lets
    | (dsimp +zetaDelta only)

theorem sealApply_fits {fp : Nat} {s00 s : State} (hb : within 524288 fp = true) (h : Fits fp s00 s) (z : Seal) :
    Fits fp s00 (sealApply s z) := by
  unfold sealApply
  exact State.nvSet_fits hb h (fun _ => _) (by exact fun k => pagesPut_wf _ k) (by exact fun k => k)

theorem setImage_fits {fp : Nat} {s00 s : State} (hb : within 524288 fp = true) (h : Fits fp s00 s) (i : Nat) (st : Nat) :
    Fits fp s00 (setImage s i st) := by
  unfold setImage
  repeat' first
    | with_reducible assumption
    | with_reducible refine State.devSet_fits hb ?_ _ (by first | with_unfolding_all exact fun _ h => h | (intro d hd; simp only [DevOk] at hd ⊢; omega))
    | with_reducible refine Fits.ite _ ?_ ?_
    | split
    | extract_lets
    | (dsimp +zetaDelta only)

theorem imageVerify_fits {fp : Nat} {s00 s : State} (hb : within 524322 fp = true) (h : Fits fp s00 s) (received : Option Nat) :
    Fits fp s00 (imageVerify s received) := by
  unfold imageVerify
  repeat' first
    | with_reducible assumption
    | with_reducible refine setImage_fits (within_trans (by decide) hb) ?_ _ _
    | with_reducible refine requestStore_fits (within_trans (by decide) hb) ?_
    | with_reducible refine eccRead_fits hb ?_ _ _
    | with_reducible refine State.devSet_fits (within_trans (by decide) hb) ?_ _ (by first | with_unfolding_all exact fun _ h => h | (intro d hd; simp only [DevOk] at hd ⊢; omega))
    | with_reducible refine progEnd_fits (within_trans (by decide) hb) ?_ _ _ _
    | with_reducible refine State.nvSet_fits (within_trans (by decide) hb) ?_ _ (by with_unfolding_all exact fun h => h) (by first | with_unfolding_all exact fun h => h | with_unfolding_all exact fun h => ⟨h.1, fun y hy => Option.some.inj hy ▸ h.1⟩ | with_unfolding_all exact fun h => ⟨h.1, fun _ k => absurd k (by simp)⟩)
    | with_reducible refine Fits.ite _ ?_ ?_
    | split
    | extract_lets
    | (dsimp +zetaDelta only)

theorem downloadPump_fits {fp : Nat} {s00 s : State} (hb : within 524322 fp = true) (h : Fits fp s00 s)  :
    Fits fp s00 (downloadPump s) := by
  unfold downloadPump
  repeat' first
    | with_reducible assumption
    | with_reducible refine imageVerify_fits hb ?_ _
    | with_reducible refine jobPut_fits (within_trans (by decide) hb) ?_ _
    | with_reducible refine slotWrite_fits (within_trans (by decide) hb) ?_ _ _ _ _
    | with_reducible refine countAccept_fits (within_trans (by decide) hb) ?_ _
    | with_reducible refine State.nvSet_fits (within_trans (by decide) hb) ?_ _ (by with_unfolding_all exact fun h => h) (by first | with_unfolding_all exact fun h => h | with_unfolding_all exact fun h => ⟨h.1, fun y hy => Option.some.inj hy ▸ h.1⟩ | with_unfolding_all exact fun h => ⟨h.1, fun _ k => absurd k (by simp)⟩)
    | with_reducible refine Fits.ite _ ?_ ?_
    | split
    | extract_lets
    | (dsimp +zetaDelta only)

theorem clearHeader_fits {fp : Nat} {s00 s : State} (hb : within 524288 fp = true) (h : Fits fp s00 s)  :
    Fits fp s00 (clearHeader s) := by
  unfold clearHeader
  repeat' first
    | with_reducible assumption
    | with_reducible refine jobPut_fits hb ?_ _
    | with_reducible refine slotWrite_fits hb ?_ _ _ _ _
    | with_reducible refine countAccept_fits hb ?_ _
    | with_reducible refine State.nvSet_fits hb ?_ _ (by with_unfolding_all exact fun h => h) (by first | with_unfolding_all exact fun h => h | with_unfolding_all exact fun h => ⟨h.1, fun y hy => Option.some.inj hy ▸ h.1⟩ | with_unfolding_all exact fun h => ⟨h.1, fun _ k => absurd k (by simp)⟩)
    | with_reducible refine Fits.ite _ ?_ ?_
    | split
    | extract_lets
    | (dsimp +zetaDelta only)

theorem downloadNext_fits {fp : Nat} {s00 s : State} (hb : within 524322 fp = true) (h : Fits fp s00 s)  :
    Fits fp s00 (downloadNext s) := by
  unfold downloadNext
  repeat' first
    | with_reducible assumption
    | with_reducible refine clearHeader_fits (within_trans (by decide) hb) ?_
    | with_reducible refine downloadPump_fits hb ?_
    | with_reducible refine Fits.ite _ ?_ ?_
    | split
    | extract_lets
    | (dsimp +zetaDelta only)

theorem commitComplete_fits {fp : Nat} {s00 s : State} (hb : within 17301538 fp = true) (h : Fits fp s00 s)  :
    Fits fp s00 (commitComplete s) := by
  unfold commitComplete
  repeat' first
    | with_reducible assumption
    | with_reducible refine hostCommit_fits (within_trans (by decide) hb) ?_
    | with_reducible refine downloadNext_fits (within_trans (by decide) hb) ?_
    | with_reducible refine sealApply_fits (within_trans (by decide) hb) ?_ _
    | with_reducible refine pfStep3_fits (within_trans (by decide) hb) ?_
    | with_reducible refine logLanded_fits (within_trans (by decide) hb) ?_ _ _
    | with_reducible refine dropSlots_fits (within_trans (by decide) hb) ?_ _
    | with_reducible refine countCommit_fits (within_trans (by decide) hb) ?_ _
    | with_reducible refine State.devSet_fits (within_trans (by decide) hb) ?_ _ (by first | with_unfolding_all exact fun _ h => h | (intro d hd; simp only [DevOk] at hd ⊢; omega))
    | with_reducible refine progEnd_fits (within_trans (by decide) hb) ?_ _ _ _
    | with_reducible refine State.resetDue_fits (within_trans (by decide) hb) ?_ _
    | with_reducible refine State.nvSet_fits (within_trans (by decide) hb) ?_ _ (by with_unfolding_all exact fun h => h) (by first | with_unfolding_all exact fun h => h | with_unfolding_all exact fun h => ⟨h.1, fun y hy => Option.some.inj hy ▸ h.1⟩ | with_unfolding_all exact fun h => ⟨h.1, fun _ k => absurd k (by simp)⟩)
    | with_reducible refine Fits.ite _ ?_ ?_
    | split
    | extract_lets
    | (dsimp +zetaDelta only)

theorem storeStart_fits {fp : Nat} {s00 s : State} (hb : within 524322 fp = true) (h : Fits fp s00 s)  :
    Fits fp s00 (storeStart s) := by
  unfold storeStart
  repeat' first
    | with_reducible assumption
    | with_reducible refine energyLow_fits hb ?_
    | with_reducible refine progStart_fits (within_trans (by decide) hb) ?_ _ _ _
    | with_reducible refine progSet_fits (within_trans (by decide) hb) ?_ _ _ _ _ _ _
    | with_reducible refine State.nvSet_fits (within_trans (by decide) hb) ?_ _ (by with_unfolding_all exact fun h => h) (by first | with_unfolding_all exact fun h => h | with_unfolding_all exact fun h => ⟨h.1, fun y hy => Option.some.inj hy ▸ h.1⟩ | with_unfolding_all exact fun h => ⟨h.1, fun _ k => absurd k (by simp)⟩)
    | with_reducible refine Fits.ite _ ?_ ?_
    | split
    | extract_lets
    | (dsimp +zetaDelta only)

theorem storeComplete_fits {fp : Nat} {s00 s : State} (hb : within 25690114 fp = true) (h : Fits fp s00 s)  :
    Fits fp s00 (storeComplete s) := by
  unfold storeComplete
  repeat' first
    | with_reducible assumption
    | with_reducible refine cause_fits (within_trans (by decide) hb) ?_ _
    | with_reducible refine pfStep3_fits (within_trans (by decide) hb) ?_
    | with_reducible refine progEnd_fits (within_trans (by decide) hb) ?_ _ _ _
    | with_reducible refine State.nvSet_fits (within_trans (by decide) hb) ?_ _ (by with_unfolding_all exact fun h => h) (by first | with_unfolding_all exact fun h => h | with_unfolding_all exact fun h => ⟨h.1, fun y hy => Option.some.inj hy ▸ h.1⟩ | with_unfolding_all exact fun h => ⟨h.1, fun _ k => absurd k (by simp)⟩)
    | with_reducible refine State.hist_fits (within_trans (by decide) hb) ?_ _ _
    | with_reducible refine Fits.ite _ ?_ ?_
    | split
    | extract_lets
    | (dsimp +zetaDelta only)

theorem writeDataRefuse_fits {fp : Nat} {s00 s : State} (hb : within 524322 fp = true) (h : Fits fp s00 s) (a : Nat) (d : Datum) :
    Fits fp s00 (writeDataRefuse s a d).2 := by
  unfold writeDataRefuse
  repeat' first
    | with_reducible assumption
    | with_reducible refine eccRead_fits hb ?_ _ _
    | with_reducible refine Fits.many ?_ _ _ (fun _ _ _ => ?_)
    | with_reducible refine Fits.ite _ ?_ ?_
    | with_reducible refine Fits.ite_snd _ ?_ ?_
    | split
    | extract_lets
    | (dsimp +zetaDelta only)

theorem writeData_fits {fp : Nat} {s00 s : State} (hb : within 524288 fp = true) (h : Fits fp s00 s) (d : Datum) :
    Fits fp s00 (writeData s d) := by
  unfold writeData
  repeat' first
    | with_reducible assumption
    | with_reducible refine slotWrite_fits hb ?_ _ _ _ _
    | with_reducible refine countAccept_fits hb ?_ _
    | with_reducible refine State.nvSet_fits hb ?_ _ (by with_unfolding_all exact fun h => h) (by first | with_unfolding_all exact fun h => h | with_unfolding_all exact fun h => ⟨h.1, fun y hy => Option.some.inj hy ▸ h.1⟩ | with_unfolding_all exact fun h => ⟨h.1, fun _ k => absurd k (by simp)⟩)
    | with_reducible refine Fits.ite _ ?_ ?_
    | split
    | extract_lets
    | (dsimp +zetaDelta only)

theorem hostCommit_fits {fp : Nat} {s00 s : State} (hb : within 524288 fp = true) (h : Fits fp s00 s)  :
    Fits fp s00 (hostCommit s) := by
  unfold hostCommit
  repeat' first
    | with_reducible assumption
    | with_reducible refine jobPut_fits hb ?_ _
    | with_reducible refine State.nvSet_fits hb ?_ _ (by with_unfolding_all exact fun h => h) (by first | with_unfolding_all exact fun h => h | with_unfolding_all exact fun h => ⟨h.1, fun y hy => Option.some.inj hy ▸ h.1⟩ | with_unfolding_all exact fun h => ⟨h.1, fun _ k => absurd k (by simp)⟩)
    | with_reducible refine Fits.ite _ ?_ ?_
    | split
    | extract_lets
    | (dsimp +zetaDelta only)

theorem hostDiscard_fits {fp : Nat} {s00 s : State} (hb : within 524290 fp = true) (h : Fits fp s00 s)  :
    Fits fp s00 (hostDiscard s) := by
  unfold hostDiscard
  repeat' first
    | with_reducible assumption
    | with_reducible refine rollHost_fits hb ?_
    | with_reducible refine Fits.ite _ ?_ ?_
    | split
    | extract_lets
    | (dsimp +zetaDelta only)

theorem hostTimeout_fits {fp : Nat} {s00 s : State} (hb : within 524290 fp = true) (h : Fits fp s00 s)  :
    Fits fp s00 (hostTimeout s) := by
  unfold hostTimeout
  repeat' first
    | with_reducible assumption
    | with_reducible refine rollHost_fits hb ?_
    | with_reducible refine State.hist_fits (within_trans (by decide) hb) ?_ _ _
    | with_reducible refine Fits.ite _ ?_ ?_
    | split
    | extract_lets
    | (dsimp +zetaDelta only)

theorem readData_fits {fp : Nat} {s00 s : State} (hb : within 524322 fp = true) (h : Fits fp s00 s)  :
    Fits fp s00 (readData s).2.2 := by
  unfold readData
  repeat' first
    | with_reducible assumption
    | with_reducible refine eccRead_fits hb ?_ _ _
    | with_reducible refine Fits.ite _ ?_ ?_
    | with_reducible refine Fits.ite_snd2 _ ?_ ?_
    | split
    | extract_lets
    | (dsimp +zetaDelta only)

theorem tieFound_fits {fp : Nat} {s00 s : State} (hb : within 524322 fp = true) (h : Fits fp s00 s) (r : Nat) :
    Fits fp s00 (tieFound s r) := by
  unfold tieFound
  repeat' first
    | with_reducible assumption
    | with_reducible refine State.raise_fits (within_trans (by decide) hb) ?_ _ _ _ _
    | with_reducible refine State.nvSet_fits (within_trans (by decide) hb) ?_ _ (by with_unfolding_all exact fun h => h) (by first | with_unfolding_all exact fun h => h | with_unfolding_all exact fun h => ⟨h.1, fun y hy => Option.some.inj hy ▸ h.1⟩ | with_unfolding_all exact fun h => ⟨h.1, fun _ k => absurd k (by simp)⟩)
    | with_reducible refine State.hist_fits (within_trans (by decide) hb) ?_ _ _
    | with_reducible refine State.inc_fits (within_trans (by decide) hb) ?_ _ _ _
    | with_reducible refine Fits.when ?_ _ _ (fun _ _ => ?_)
    | with_reducible refine Fits.ite _ ?_ ?_
    | split
    | extract_lets
    | (dsimp +zetaDelta only)

theorem recordRead_fits {fp : Nat} {s00 s : State} (hb : within 524322 fp = true) (h : Fits fp s00 s) (r : Nat) :
    Fits fp s00 (recordRead s r) := by
  unfold recordRead
  repeat' first
    | with_reducible assumption
    | with_reducible refine tieFound_fits hb ?_ _
    | with_reducible refine eccRead_fits hb ?_ _ _
    | with_reducible refine Fits.ite _ ?_ ?_
    | split
    | extract_lets
    | (dsimp +zetaDelta only)

theorem recordSelect_fits {fp : Nat} {s00 s : State} (hb : within 524322 fp = true) (h : Fits fp s00 s) (r : Nat) :
    Fits fp s00 (recordSelect s r) := by
  unfold recordSelect
  repeat' first
    | with_reducible assumption
    | with_reducible refine recordRead_fits hb ?_ _
    | with_reducible refine State.put_fits (within_trans (by decide) hb) ?_ _ _
    | with_reducible refine Fits.ite _ ?_ ?_
    | split
    | extract_lets
    | (dsimp +zetaDelta only)

theorem recordData_fits {fp : Nat} {s00 s : State} (hb : within 524322 fp = true) (h : Fits fp s00 s)  :
    Fits fp s00 (recordData s).2.2 := by
  unfold recordData
  repeat' first
    | with_reducible assumption
    | with_reducible refine recordRead_fits hb ?_ _
    | with_reducible refine Fits.ite _ ?_ ?_
    | with_reducible refine Fits.ite_snd2 _ ?_ ?_
    | split
    | extract_lets
    | (dsimp +zetaDelta only)

theorem recordCommit_fits {fp : Nat} {s00 s : State} (hb : within 524288 fp = true) (h : Fits fp s00 s) (f : State → State) (hf : ∀ y, Fits fp s00 y → Fits fp s00 (f y)) :
    Fits fp s00 (recordCommit s f) := by
  unfold recordCommit
  repeat' first
    | with_reducible assumption
    | with_reducible refine jobPut_fits hb ?_ _
    | with_reducible refine countAccept_fits hb ?_ _
    | with_reducible refine State.nvSet_fits hb ?_ _ (by with_unfolding_all exact fun h => h) (by first | with_unfolding_all exact fun h => h | with_unfolding_all exact fun h => ⟨h.1, fun y hy => Option.some.inj hy ▸ h.1⟩ | with_unfolding_all exact fun h => ⟨h.1, fun _ k => absurd k (by simp)⟩)
    | with_reducible refine hf _ ?_
    | with_reducible refine Fits.ite _ ?_ ?_
    | split
    | extract_lets
    | (dsimp +zetaDelta only)

theorem recordPut_fits {fp : Nat} {s00 s : State} (hb : within 524288 fp = true) (h : Fits fp s00 s) (r : Nat) (d : Datum) :
    Fits fp s00 (recordPut s r d) := by
  unfold recordPut
  repeat' first
    | with_reducible assumption
    | with_reducible refine recordCommit_fits hb ?_ _ (fun _ _ => ?_)
    | with_reducible refine slotWrite_fits hb ?_ _ _ _ _
    | with_reducible refine Fits.ite _ ?_ ?_
    | split
    | extract_lets
    | (dsimp +zetaDelta only)

theorem recordWrite_fits {fp : Nat} {s00 s : State} (hb : within 524322 fp = true) (h : Fits fp s00 s) (d : Datum) :
    Fits fp s00 (recordWrite s d) := by
  unfold recordWrite
  repeat' first
    | with_reducible assumption
    | with_reducible refine recordPut_fits (within_trans (by decide) hb) ?_ _ _
    | with_reducible refine recordRead_fits hb ?_ _
    | with_reducible refine Fits.ite _ ?_ ?_
    | split
    | extract_lets
    | (dsimp +zetaDelta only)

theorem recordErase_fits {fp : Nat} {s00 s : State} (hb : within 524288 fp = true) (h : Fits fp s00 s)  :
    Fits fp s00 (recordErase s) := by
  unfold recordErase
  repeat' first
    | with_reducible assumption
    | with_reducible refine recordCommit_fits hb ?_ _ (fun _ _ => ?_)
    | with_reducible refine slotWrite_fits hb ?_ _ _ _ _
    | with_reducible refine Fits.ite _ ?_ ?_
    | split
    | extract_lets
    | (dsimp +zetaDelta only)

theorem recordRepair_fits {fp : Nat} {s00 s : State} (hb : within 524322 fp = true) (h : Fits fp s00 s)  :
    Fits fp s00 (recordRepair s) := by
  unfold recordRepair
  repeat' first
    | with_reducible assumption
    | with_reducible refine recordPut_fits (within_trans (by decide) hb) ?_ _ _
    | with_reducible refine recordRead_fits hb ?_ _
    | with_reducible refine Fits.ite _ ?_ ?_
    | split
    | extract_lets
    | (dsimp +zetaDelta only)

theorem programData_fits {fp : Nat} {s00 s : State} (hb : within 524322 fp = true) (h : Fits fp s00 s) (via : Iface) (d : Datum) :
    Fits fp s00 (programData s via d) := by
  unfold programData
  repeat' first
    | with_reducible assumption
    | with_reducible refine downloadPump_fits hb ?_
    | with_reducible refine setImage_fits (within_trans (by decide) hb) ?_ _ _
    | with_reducible refine progStart_fits (within_trans (by decide) hb) ?_ _ _ _
    | with_reducible refine progSet_fits (within_trans (by decide) hb) ?_ _ _ _ _ _ _
    | with_reducible refine State.nvSet_fits (within_trans (by decide) hb) ?_ _ (by with_unfolding_all exact fun h => h) (by first | with_unfolding_all exact fun h => h | with_unfolding_all exact fun h => ⟨h.1, fun y hy => Option.some.inj hy ▸ h.1⟩ | with_unfolding_all exact fun h => ⟨h.1, fun _ k => absurd k (by simp)⟩)
    | with_reducible refine Fits.ite _ ?_ ?_
    | split
    | extract_lets
    | (dsimp +zetaDelta only)

theorem programStart_fits {fp : Nat} {s00 s : State} (hb : within 524322 fp = true) (h : Fits fp s00 s)  :
    Fits fp s00 (programStart s) := by
  unfold programStart
  repeat' first
    | with_reducible assumption
    | with_reducible refine downloadPump_fits hb ?_
    | with_reducible refine imageVerify_fits hb ?_ _
    | with_reducible refine progStart_fits (within_trans (by decide) hb) ?_ _ _ _
    | with_reducible refine progSet_fits (within_trans (by decide) hb) ?_ _ _ _ _ _ _
    | with_reducible refine State.nvSet_fits (within_trans (by decide) hb) ?_ _ (by with_unfolding_all exact fun h => h) (by first | with_unfolding_all exact fun h => h | with_unfolding_all exact fun h => ⟨h.1, fun y hy => Option.some.inj hy ▸ h.1⟩ | with_unfolding_all exact fun h => ⟨h.1, fun _ k => absurd k (by simp)⟩)
    | with_reducible refine Fits.ite _ ?_ ?_
    | split
    | extract_lets
    | (dsimp +zetaDelta only)

theorem downloadDrop_fits {fp : Nat} {s00 s : State} (hb : within 524290 fp = true) (h : Fits fp s00 s)  :
    Fits fp s00 (downloadDrop s) := by
  unfold downloadDrop
  repeat' first
    | with_reducible assumption
    | with_reducible refine rollBack_fits hb ?_ _ _
    | with_reducible refine State.nvSet_fits (within_trans (by decide) hb) ?_ _ (by with_unfolding_all exact fun h => h) (by first | with_unfolding_all exact fun h => h | with_unfolding_all exact fun h => ⟨h.1, fun y hy => Option.some.inj hy ▸ h.1⟩ | with_unfolding_all exact fun h => ⟨h.1, fun _ k => absurd k (by simp)⟩)
    | with_reducible refine Fits.ite _ ?_ ?_
    | split
    | extract_lets
    | (dsimp +zetaDelta only)

theorem programStop_fits {fp : Nat} {s00 s : State} (hb : within 524290 fp = true) (h : Fits fp s00 s)  :
    Fits fp s00 (programStop s) := by
  unfold programStop
  repeat' first
    | with_reducible assumption
    | with_reducible refine downloadDrop_fits hb ?_
    | with_reducible refine setImage_fits (within_trans (by decide) hb) ?_ _ _
    | with_reducible refine progEnd_fits (within_trans (by decide) hb) ?_ _ _ _
    | with_reducible refine State.nvSet_fits (within_trans (by decide) hb) ?_ _ (by with_unfolding_all exact fun h => h) (by first | with_unfolding_all exact fun h => h | with_unfolding_all exact fun h => ⟨h.1, fun y hy => Option.some.inj hy ▸ h.1⟩ | with_unfolding_all exact fun h => ⟨h.1, fun _ k => absurd k (by simp)⟩)
    | with_reducible refine Fits.ite _ ?_ ?_
    | split
    | extract_lets
    | (dsimp +zetaDelta only)

theorem programClear_fits {fp : Nat} {s00 s : State} (hb : within 524290 fp = true) (h : Fits fp s00 s)  :
    Fits fp s00 (programClear s) := by
  unfold programClear
  repeat' first
    | with_reducible assumption
    | with_reducible refine downloadDrop_fits hb ?_
    | with_reducible refine clearHeader_fits (within_trans (by decide) hb) ?_
    | with_reducible refine setImage_fits (within_trans (by decide) hb) ?_ _ _
    | with_reducible refine State.nvSet_fits (within_trans (by decide) hb) ?_ _ (by with_unfolding_all exact fun h => h) (by first | with_unfolding_all exact fun h => h | with_unfolding_all exact fun h => ⟨h.1, fun y hy => Option.some.inj hy ▸ h.1⟩ | with_unfolding_all exact fun h => ⟨h.1, fun _ k => absurd k (by simp)⟩)
    | with_reducible refine Fits.ite _ ?_ ?_
    | split
    | extract_lets
    | (dsimp +zetaDelta only)

theorem scrubNow_fits {fp : Nat} {s00 s : State} (hb : within 524288 fp = true) (h : Fits fp s00 s)  :
    Fits fp s00 (scrubNow s) := by
  unfold scrubNow
  repeat' first
    | with_reducible assumption
    | with_reducible refine State.nvSet_fits hb ?_ _ (by with_unfolding_all exact fun h => h) (by first | with_unfolding_all exact fun h => h | with_unfolding_all exact fun h => ⟨h.1, fun y hy => Option.some.inj hy ▸ h.1⟩ | with_unfolding_all exact fun h => ⟨h.1, fun _ k => absurd k (by simp)⟩)
    | with_reducible refine Fits.ite _ ?_ ?_
    | split
    | extract_lets
    | (dsimp +zetaDelta only)

theorem scrubRead_fits {fp : Nat} {s00 s : State} (hb : within 524322 fp = true) (h : Fits fp s00 s) (g : Nat) (decayed : List (Nat × Nat)) (last : Bool) :
    Fits fp s00 (scrubRead s g decayed last) := by
  unfold scrubRead
  repeat' first
    | with_reducible assumption
    | with_reducible refine setImage_fits (within_trans (by decide) hb) ?_ _ _
    | with_reducible refine eccRead_fits hb ?_ _ _
    | with_reducible refine State.devSet_fits (within_trans (by decide) hb) ?_ _ (by first | with_unfolding_all exact fun _ h => h | (intro d hd; simp only [DevOk] at hd ⊢; omega))
    | with_reducible refine State.nvSet_fits (within_trans (by decide) hb) ?_ _ (by with_unfolding_all exact fun h => h) (by first | with_unfolding_all exact fun h => h | with_unfolding_all exact fun h => ⟨h.1, fun y hy => Option.some.inj hy ▸ h.1⟩ | with_unfolding_all exact fun h => ⟨h.1, fun _ k => absurd k (by simp)⟩)
    | with_reducible refine Fits.when ?_ _ _ (fun _ _ => ?_)
    | with_reducible refine Fits.foldl_snd _ (fun _ _ _ => ?_) _ ?_
    | with_reducible refine Fits.foldl _ (fun _ _ _ => ?_) _ ?_
    | with_reducible refine Fits.ite _ ?_ ?_
    | split
    | extract_lets
    | (dsimp +zetaDelta only)

theorem vholdSample_fits {fp : Nat} {s00 s : State} (hb : within 524290 fp = true) (h : Fits fp s00 s) (mv : Nat) :
    Fits fp s00 (vholdSample s mv) := by
  unfold vholdSample
  repeat' first
    | with_reducible assumption
    | with_reducible refine State.nvSet_fits (within_trans (by decide) hb) ?_ _ (by with_unfolding_all exact fun h => h) (by first | with_unfolding_all exact fun h => h | with_unfolding_all exact fun h => ⟨h.1, fun y hy => Option.some.inj hy ▸ h.1⟩ | with_unfolding_all exact fun h => ⟨h.1, fun _ k => absurd k (by simp)⟩)
    | with_reducible refine State.put_fits (within_trans (by decide) hb) ?_ _ _
    | with_reducible refine Fits.ite _ ?_ ?_
    | split
    | extract_lets
    | (dsimp +zetaDelta only)

theorem nvResetEntry_fits {fp : Nat} {s00 s : State} (hb : within 25690146 fp = true) (h : Fits fp s00 s)  :
    Fits fp s00 (nvResetEntry s) := by
  unfold nvResetEntry
  repeat' first
    | with_reducible assumption
    | with_reducible refine hostCommit_fits (within_trans (by decide) hb) ?_
    | with_reducible refine storeComplete_fits (within_trans (by decide) hb) ?_
    | with_reducible refine commitComplete_fits (within_trans (by decide) hb) ?_
    | with_reducible refine commitSeal_fits (within_trans (by decide) hb) ?_ _
    | with_reducible refine logRollBack_fits (within_trans (by decide) hb) ?_ _
    | with_reducible refine rollHost_fits (within_trans (by decide) hb) ?_
    | with_reducible refine rollBack_fits (within_trans (by decide) hb) ?_ _ _
    | with_reducible refine State.nvSet_fits (within_trans (by decide) hb) ?_ _ (by with_unfolding_all exact fun h => h) (by first | with_unfolding_all exact fun h => h | with_unfolding_all exact fun h => ⟨h.1, fun y hy => Option.some.inj hy ▸ h.1⟩ | with_unfolding_all exact fun h => ⟨h.1, fun _ k => absurd k (by simp)⟩)
    | with_reducible refine Fits.ite _ ?_ ?_
    | split
    | extract_lets
    | (dsimp +zetaDelta only)

theorem nvPowerLoss_fits {fp : Nat} {s00 s : State} (hb : within 524288 fp = true) (h : Fits fp s00 s) (sealed : Bool) :
    Fits fp s00 (nvPowerLoss s sealed) := by
  unfold nvPowerLoss
  repeat' first
    | with_reducible assumption
    | with_reducible refine hostCommit_fits hb ?_
    | with_reducible refine State.nvSet_fits hb ?_ _ (by with_unfolding_all exact fun h => h) (by first | with_unfolding_all exact fun h => h | with_unfolding_all exact fun h => ⟨h.1, fun y hy => Option.some.inj hy ▸ h.1⟩ | with_unfolding_all exact fun h => ⟨h.1, fun _ k => absurd k (by simp)⟩)
    | with_reducible refine Fits.ite _ ?_ ?_
    | split
    | extract_lets
    | (dsimp +zetaDelta only)

theorem shadowLost_fits {fp : Nat} {s00 s : State} (hb : within 786466 fp = true) (h : Fits fp s00 s)  :
    Fits fp s00 (shadowLost s) := by
  unfold shadowLost
  exact State.raise_fits (within_trans (by decide) hb) (State.hist_fits (within_trans (by decide) hb) (State.setCal_fits (within_trans (by decide) hb)
    (State.nvSet_fits (within_trans (by decide) hb) h (fun _ => _) (by exact fun k => k) (by exact fun k => ⟨by simp [DevOk], k.2⟩))
    (fun _ => _) (by exact fun _ => ⟨rfl, rfl⟩)) _ _) _ _ _ _

theorem downloadsEnd_fits {fp : Nat} {s00 s : State} (hb : within 524288 fp = true) (h : Fits fp s00 s)  :
    Fits fp s00 (downloadsEnd s) := by
  unfold downloadsEnd
  repeat' first
    | with_reducible assumption
    | with_reducible refine State.devSet_fits hb ?_ _ (by first | with_unfolding_all exact fun _ h => h | (intro d hd; simp only [DevOk] at hd ⊢; omega))
    | with_reducible refine Fits.ite _ ?_ ?_
    | split
    | extract_lets
    | (dsimp +zetaDelta only)

theorem areaRecover_fits {fp : Nat} {s00 s0 : State} (hb : within 524322 fp = true) (h : Fits fp s00 s0)  :
    Fits fp s00 (areaRecover s0) := by
  unfold areaRecover
  repeat' first
    | with_reducible assumption
    | with_reducible refine sealApply_fits (within_trans (by decide) hb) ?_ _
    | with_reducible refine logLanded_fits (within_trans (by decide) hb) ?_ _ _
    | with_reducible refine eccRead_fits hb ?_ _ _
    | with_reducible refine State.raise_fits (within_trans (by decide) hb) ?_ _ _ _ _
    | with_reducible refine State.nvSet_fits (within_trans (by decide) hb) ?_ _ (by with_unfolding_all exact fun h => h) (by first | with_unfolding_all exact fun h => h | with_unfolding_all exact fun h => ⟨h.1, fun y hy => Option.some.inj hy ▸ h.1⟩ | with_unfolding_all exact fun h => ⟨h.1, fun _ k => absurd k (by simp)⟩)
    | with_reducible refine State.hist_fits (within_trans (by decide) hb) ?_ _ _
    | with_reducible refine State.put_fits (within_trans (by decide) hb) ?_ _ _
    | with_reducible refine Fits.ite _ ?_ ?_
    | split
    | extract_lets
    | (dsimp +zetaDelta only)

theorem shadowTaken_fits {fp : Nat} {s00 s : State} (hb : within 786466 fp = true) (h : Fits fp s00 s)  :
    Fits fp s00 (shadowTaken s) := by
  unfold shadowTaken
  split
  · rename_i img hi
    extract_lets t
    have ht : Fits fp s00 t := State.setCal_fits (within_trans (by decide) hb)
      (State.nvSet_fits (within_trans (by decide) hb) h (fun _ => _) (by exact fun k => k) (by exact fun k => ⟨k.2 img hi, k.2⟩))
      (fun _ => _) (by exact fun _ => ⟨rfl, rfl⟩)
    clear_value t
    split
    · exact ht
    · exact State.nvSet_fits (within_trans (by decide) hb) (countRollBack_fits (within_trans (by decide) hb) ht _) _ (by exact fun k => k) (by exact fun k => k)
  · exact shadowLost_fits (within_trans (by decide) hb) h

theorem shadowRecover_fits {fp : Nat} {s00 s : State} (hb : within 786466 fp = true) (h : Fits fp s00 s)  :
    Fits fp s00 (shadowRecover s) := by
  unfold shadowRecover
  repeat' first
    | with_reducible assumption
    | with_reducible refine shadowTaken_fits hb ?_
    | with_reducible refine shadowLost_fits hb ?_
    | with_reducible refine eccRead_fits (within_trans (by decide) hb) ?_ _ _
    | with_reducible refine Fits.ite _ ?_ ?_
    | split
    | extract_lets
    | (dsimp +zetaDelta only)

theorem nvRecover_fits {fp : Nat} {s00 s : State} (hb : within 786466 fp = true) (h : Fits fp s00 s) (refetch : Bool) :
    Fits fp s00 (nvRecover s refetch) := by
  unfold nvRecover
  repeat' first
    | with_reducible assumption
    | with_reducible refine shadowRecover_fits hb ?_
    | with_reducible refine areaRecover_fits (within_trans (by decide) hb) ?_
    | with_reducible refine downloadsEnd_fits (within_trans (by decide) hb) ?_
    | with_reducible refine State.nvSet_fits (within_trans (by decide) hb) ?_ _ (by with_unfolding_all exact fun h => h) (by first | with_unfolding_all exact fun h => h | with_unfolding_all exact fun h => ⟨h.1, fun y hy => Option.some.inj hy ▸ h.1⟩ | with_unfolding_all exact fun h => ⟨h.1, fun _ k => absurd k (by simp)⟩)
    | with_reducible refine State.hist_fits (within_trans (by decide) hb) ?_ _ _
    | with_reducible refine Fits.ite _ ?_ ?_
    | split
    | extract_lets
    | (dsimp +zetaDelta only)

theorem logRead_fits {fp : Nat} {s00 s : State} (hb : within 524322 fp = true) (h : Fits fp s00 s) (log : Bool) (seq : Nat) :
    Fits fp s00 (logRead s log seq).2.2 := by
  unfold logRead
  repeat' first
    | with_reducible assumption
    | with_reducible refine eccRead_fits hb ?_ _ _
    | with_reducible refine Fits.ite _ ?_ ?_
    | with_reducible refine Fits.ite_snd2 _ ?_ ?_
    | split
    | extract_lets
    | (dsimp +zetaDelta only)

end Sys2Proof.Machine
end

