-- ==== Sys2Proof/Laws/FitsFaults.lean ====
section
/-! SUPPORT. What each operation of Machine/Faults.lean may touch, and the invariants that it keeps. -/

set_option linter.unusedSimpArgs false
set_option linter.unusedVariables false

namespace Sys2Proof.Machine

theorem State.setSource_fits {fp : Nat} {s00 s : State} (hb : within 1048576 fp = true) (h : Fits fp s00 s) (src : Nat) (f : SourceState → SourceState) :
    Fits fp s00 (State.setSource s src f) := by
  unfold State.setSource
  repeat' first
    | with_reducible assumption
    | with_reducible refine State.setCol_fits hb ?_ _ (fun _ => by simp only [length_upd, List.length_set, List.length_map])
    | with_reducible refine Fits.ite _ ?_ ?_
    | split
    | extract_lets
    | (dsimp +zetaDelta only)

theorem sourceCfgPut_fits {fp : Nat} {s00 s : State} (hb : within 1048576 fp = true) (h : Fits fp s00 s) (src : Nat) (v : Nat) :
    Fits fp s00 (sourceCfgPut s src v) := by
  unfold sourceCfgPut
  repeat' first
    | with_reducible assumption
    | with_reducible refine State.setSource_fits hb ?_ _ _
    | with_reducible refine State.setCol_fits hb ?_ _ (fun _ => by simp only [length_upd, List.length_set, List.length_map])
    | with_reducible refine Fits.ite _ ?_ ?_
    | split
    | extract_lets
    | (dsimp +zetaDelta only)

theorem srcSet_fits {fp : Nat} {s00 s : State} (hb : within 2 fp = true) (h : Fits fp s00 s) (level : Nat) (src : Nat) :
    Fits fp s00 (srcSet s level src) := by
  unfold srcSet
  repeat' first
    | with_reducible assumption
    | with_reducible refine State.put_fits hb ?_ _ _
    | with_reducible refine Fits.ite _ ?_ ?_
    | split
    | extract_lets
    | (dsimp +zetaDelta only)

theorem unackClear_fits {fp : Nat} {s00 s : State} (hb : within 2 fp = true) (h : Fits fp s00 s) (level : Nat) (w : Nat) (mask : Nat) :
    Fits fp s00 (unackClear s level w mask) := by
  unfold unackClear
  repeat' first
    | with_reducible assumption
    | with_reducible refine State.put_fits hb ?_ _ _
    | with_reducible refine Fits.ite _ ?_ ?_
    | split
    | extract_lets
    | (dsimp +zetaDelta only)

theorem ackAll_fits {fp : Nat} {s00 s : State} (hb : within 2 fp = true) (h : Fits fp s00 s)  :
    Fits fp s00 (ackAll s) := by
  unfold ackAll
  repeat' first
    | with_reducible assumption
    | with_reducible refine State.put_fits hb ?_ _ _
    | with_reducible refine Fits.many ?_ _ _ (fun _ _ _ => ?_)
    | with_reducible refine Fits.ite _ ?_ ?_
    | split
    | extract_lets
    | (dsimp +zetaDelta only)

theorem clearSticky_fits {fp : Nat} {s00 s : State} (hb : within 2 fp = true) (h : Fits fp s00 s)  :
    Fits fp s00 (clearSticky s) := by
  unfold clearSticky
  repeat' first
    | with_reducible assumption
    | with_reducible refine State.put_fits hb ?_ _ _
    | with_reducible refine Fits.many ?_ _ _ (fun _ _ _ => ?_)
    | with_reducible refine Fits.ite _ ?_ ?_
    | split
    | extract_lets
    | (dsimp +zetaDelta only)

theorem colClearCounters_fits {fp : Nat} {s00 s : State} (hb : within 1048578 fp = true) (h : Fits fp s00 s)  :
    Fits fp s00 (colClearCounters s) := by
  unfold colClearCounters
  repeat' first
    | with_reducible assumption
    | with_reducible refine State.setCol_fits (within_trans (by decide) hb) ?_ _ (fun _ => by simp only [length_upd, List.length_set, List.length_map])
    | with_reducible refine State.put_fits (within_trans (by decide) hb) ?_ _ _
    | with_reducible refine Fits.many ?_ _ _ (fun _ _ _ => ?_)
    | with_reducible refine Fits.ite _ ?_ ?_
    | split
    | extract_lets
    | (dsimp +zetaDelta only)

theorem safeFollow_fits {fp : Nat} {s00 s : State} (hb : within 8192 fp = true) (h : Fits fp s00 s)  :
    Fits fp s00 (safeFollow s) := by
  unfold safeFollow
  repeat' first
    | with_reducible assumption
    | with_reducible refine outRelease_fits hb ?_ _
    | with_reducible refine outForce_fits hb ?_ _
    | with_reducible refine Fits.many ?_ _ _ (fun _ _ _ => ?_)
    | with_reducible refine Fits.ite _ ?_ ?_
    | split
    | extract_lets
    | (dsimp +zetaDelta only)

theorem forceGroups_fits {fp : Nat} {s00 s : State} (hb : within 1056768 fp = true) (h : Fits fp s00 s) (mask : Nat) :
    Fits fp s00 (forceGroups s mask) := by
  unfold forceGroups
  repeat' first
    | with_reducible assumption
    | with_reducible refine safeFollow_fits (within_trans (by decide) hb) ?_
    | with_reducible refine State.setCol_fits (within_trans (by decide) hb) ?_ _ (fun _ => by simp only [length_upd, List.length_set, List.length_map])
    | with_reducible refine Fits.ite _ ?_ ?_
    | split
    | extract_lets
    | (dsimp +zetaDelta only)

theorem reactOnS_fits {fp : Nat} {s00 s : State} (hb : within 8262 fp = true) (h : Fits fp s00 s) (src : Nat) (addr : Nat) :
    Fits fp s00 (reactOnS s src addr) := by
  unfold reactOnS
  repeat' first
    | with_reducible assumption
    | with_reducible refine apllRelock_fits (within_trans (by decide) hb) ?_ _
    | with_reducible refine linkRetrain_fits (within_trans (by decide) hb) ?_ _
    | with_reducible refine Fits.ite _ ?_ ?_
    | split
    | extract_lets
    | (dsimp +zetaDelta only)

theorem reactRetrain_fits {fp : Nat} {s00 s : State} (hb : within 134510 fp = true) (h : Fits fp s00 s) (src : Nat) (addr : Nat) :
    Fits fp s00 (reactRetrain s src addr) := by
  unfold reactRetrain
  repeat' first
    | with_reducible assumption
    | with_reducible refine fabRetrain_fits (within_trans (by decide) hb) ?_ _
    | with_reducible refine ethLink_fits (within_trans (by decide) hb) ?_ _ _
    | with_reducible refine linkRetrain_fits (within_trans (by decide) hb) ?_ _
    | with_reducible refine State.setHub_fits (within_trans (by decide) hb) ?_ _ _
    | with_reducible refine Fits.many ?_ _ _ (fun _ _ _ => ?_)
    | with_reducible refine Fits.ite _ ?_ ?_
    | split
    | extract_lets
    | (dsimp +zetaDelta only)

theorem reactReset_fits {fp : Nat} {s00 s : State} (hb : within 25292774 fp = true) (h : Fits fp s00 s) (src : Nat) (addr : Nat) :
    Fits fp s00 (reactReset s src addr) := by
  unfold reactReset
  repeat' first
    | with_reducible assumption
    | with_reducible refine reactOnS_fits (within_trans (by decide) hb) ?_ _ _
    | with_reducible refine disarmEntries_fits (within_trans (by decide) hb) ?_ _ _
    | with_reducible refine ctxRestart_fits (within_trans (by decide) hb) ?_ _
    | with_reducible refine engineRestart_fits (within_trans (by decide) hb) ?_ _
    | with_reducible refine cupCommand_fits (within_trans (by decide) hb) ?_ _ _
    | with_reducible refine Fits.ite _ ?_ ?_
    | split
    | extract_lets
    | (dsimp +zetaDelta only)

theorem reactOwe_fits {fp : Nat} {s00 s : State} (hb : within 1048576 fp = true) (h : Fits fp s00 s) (src : Nat) (addr : Nat) :
    Fits fp s00 (reactOwe s src addr) := by
  unfold reactOwe
  repeat' first
    | with_reducible assumption
    | with_reducible refine State.setCol_fits hb ?_ _ (fun _ => by simp only [length_upd, List.length_set, List.length_map])
    | with_reducible refine Fits.ite _ ?_ ?_
    | split
    | extract_lets
    | (dsimp +zetaDelta only)

theorem react_fits {fp : Nat} {s00 s : State} (hb : within 26472430 fp = true) (h : Fits fp s00 s) (src : Nat) (addr : Nat) (arrival : Nat) :
    Fits fp s00 (react s src addr arrival) := by
  unfold react
  repeat' first
    | with_reducible assumption
    | with_reducible refine reactOwe_fits (within_trans (by decide) hb) ?_ _ _
    | with_reducible refine reactReset_fits (within_trans (by decide) hb) ?_ _ _
    | with_reducible refine reactRetrain_fits (within_trans (by decide) hb) ?_ _ _
    | with_reducible refine forceGroups_fits (within_trans (by decide) hb) ?_ _
    | with_reducible refine State.setCol_fits (within_trans (by decide) hb) ?_ _ (fun _ => by simp only [length_upd, List.length_set, List.length_map])
    | with_reducible refine Fits.when ?_ _ _ (fun _ _ => ?_)
    | with_reducible refine Fits.ite _ ?_ ?_
    | split
    | extract_lets
    | (dsimp +zetaDelta only)

theorem reactOwed_fits {fp : Nat} {s00 s : State} (hb : within 1056838 fp = true) (h : Fits fp s00 s)  :
    Fits fp s00 (reactOwed s) := by
  unfold reactOwed
  repeat' first
    | with_reducible assumption
    | with_reducible refine reactOnS_fits (within_trans (by decide) hb) ?_ _ _
    | with_reducible refine State.setCol_fits (within_trans (by decide) hb) ?_ _ (fun _ => by simp only [length_upd, List.length_set, List.length_map])
    | with_reducible refine Fits.many ?_ _ _ (fun _ _ _ => ?_)
    | with_reducible refine Fits.ite _ ?_ ?_
    | split
    | extract_lets
    | (dsimp +zetaDelta only)

theorem listenerLost_fits {fp : Nat} {s00 s : State} (hb : within 1048610 fp = true) (h : Fits fp s00 s) (l : Nat) :
    Fits fp s00 (listenerLost s l) := by
  unfold listenerLost
  repeat' first
    | with_reducible assumption
    | with_reducible refine State.raise_fits (within_trans (by decide) hb) ?_ _ _ _ _
    | with_reducible refine State.setCol_fits (within_trans (by decide) hb) ?_ _ (fun _ => by simp only [length_upd, List.length_set, List.length_map])
    | with_reducible refine State.hist_fits (within_trans (by decide) hb) ?_ _ _
    | with_reducible refine State.inc_fits (within_trans (by decide) hb) ?_ _ _ _
    | with_reducible refine Fits.when ?_ _ _ (fun _ _ => ?_)
    | with_reducible refine Fits.ite _ ?_ ?_
    | split
    | extract_lets
    | (dsimp +zetaDelta only)

theorem errorListPush_fits {fp : Nat} {s00 s : State} (hb : within 2 fp = true) (h : Fits fp s00 s) (w : Nat) :
    Fits fp s00 (errorListPush s w) := by
  unfold errorListPush
  repeat' first
    | with_reducible assumption
    | with_reducible refine State.put_fits hb ?_ _ _
    | with_reducible refine Fits.many ?_ _ _ (fun _ _ _ => ?_)
    | with_reducible refine Fits.ite _ ?_ ?_
    | split
    | extract_lets
    | (dsimp +zetaDelta only)

theorem emcyTake_fits {fp : Nat} {s00 s : State} (hb : within 1048610 fp = true) (h : Fits fp s00 s) (msg : Nat) (level : Nat) (cons : Bool) :
    Fits fp s00 (emcyTake s msg level cons) := by
  unfold emcyTake
  repeat' first
    | with_reducible assumption
    | with_reducible refine errorListPush_fits (within_trans (by decide) hb) ?_ _
    | with_reducible refine listenerLost_fits hb ?_ _
    | with_reducible refine State.setCol_fits (within_trans (by decide) hb) ?_ _ (fun _ => by simp only [length_upd, List.length_set, List.length_map])
    | with_reducible refine Fits.ite _ ?_ ?_
    | split
    | extract_lets
    | (dsimp +zetaDelta only)

theorem fabricTake_fits {fp : Nat} {s00 s : State} (hb : within 1048610 fp = true) (h : Fits fp s00 s) (msg : Nat) (level : Nat) (flags : Nat) :
    Fits fp s00 (fabricTake s msg level flags) := by
  unfold fabricTake
  repeat' first
    | with_reducible assumption
    | with_reducible refine listenerLost_fits hb ?_ _
    | with_reducible refine State.setCol_fits (within_trans (by decide) hb) ?_ _ (fun _ => by simp only [length_upd, List.length_set, List.length_map])
    | with_reducible refine Fits.ite _ ?_ ?_
    | split
    | extract_lets
    | (dsimp +zetaDelta only)

theorem streamTake_fits {fp : Nat} {s00 s : State} (hb : within 1048610 fp = true) (h : Fits fp s00 s) (msg : Nat) (level : Nat) (flags : Nat) :
    Fits fp s00 (streamTake s msg level flags) := by
  unfold streamTake
  repeat' first
    | with_reducible assumption
    | with_reducible refine listenerLost_fits hb ?_ _
    | with_reducible refine State.setCol_fits (within_trans (by decide) hb) ?_ _ (fun _ => by simp only [length_upd, List.length_set, List.length_map])
    | with_reducible refine Fits.ite _ ?_ ?_
    | split
    | extract_lets
    | (dsimp +zetaDelta only)

theorem listeners_fits {fp : Nat} {s00 s : State} (hb : within 1572898 fp = true) (h : Fits fp s00 s) (msg : Nat) (level : Nat) (cons : Bool) (promoted : Bool) (escalated : Bool) :
    Fits fp s00 (listeners s msg level cons promoted escalated) := by
  unfold listeners
  repeat' first
    | with_reducible assumption
    | with_reducible refine streamTake_fits (within_trans (by decide) hb) ?_ _ _ _
    | with_reducible refine fabricTake_fits (within_trans (by decide) hb) ?_ _ _ _
    | with_reducible refine emcyTake_fits (within_trans (by decide) hb) ?_ _ _ _
    | with_reducible refine listenerLost_fits (within_trans (by decide) hb) ?_ _
    | with_reducible refine logEvent_fits (within_trans (by decide) hb) ?_ _ _ _
    | with_reducible refine Fits.ite _ ?_ ?_
    | split
    | extract_lets
    | (dsimp +zetaDelta only)

theorem takeMessage_fits {fp : Nat} {s00 s : State} (hb : within 26996718 fp = true) (h : Fits fp s00 s) (m : Msg) :
    Fits fp s00 (takeMessage s m) := by
  unfold takeMessage
  repeat' first
    | with_reducible assumption
    | with_reducible refine listeners_fits (within_trans (by decide) hb) ?_ _ _ _ _ _
    | with_reducible refine react_fits (within_trans (by decide) hb) ?_ _ _ _
    | with_reducible refine forceGroups_fits (within_trans (by decide) hb) ?_ _
    | with_reducible refine srcSet_fits (within_trans (by decide) hb) ?_ _ _
    | with_reducible refine State.setSource_fits (within_trans (by decide) hb) ?_ _ _
    | with_reducible refine State.setBoot_fits (within_trans (by decide) hb) ?_ _
    | with_reducible refine State.setCol_fits (within_trans (by decide) hb) ?_ _ (fun _ => by simp only [length_upd, List.length_set, List.length_map])
    | with_reducible refine State.hist_fits (within_trans (by decide) hb) ?_ _ _
    | with_reducible refine State.inc_fits (within_trans (by decide) hb) ?_ _ _ _
    | with_reducible refine Fits.when ?_ _ _ (fun _ _ => ?_)
    | with_reducible refine Fits.ite _ ?_ ?_
    | split
    | extract_lets
    | (dsimp +zetaDelta only)

theorem faultMessage_fits {fp : Nat} {s00 s : State} (hb : within 26996718 fp = true) (h : Fits fp s00 s)  :
    Fits fp s00 (faultMessage s) := by
  unfold faultMessage
  repeat' first
    | with_reducible assumption
    | with_reducible refine takeMessage_fits hb ?_ _
    | with_reducible refine carriedFrom_fits (within_trans (by decide) hb) ?_ _ _ _ (fun _ _ => ?_)
    | with_reducible refine Fits.ite _ ?_ ?_
    | split
    | extract_lets
    | (dsimp +zetaDelta only)
    | with_reducible refine Fits.set_faultIn (within_trans (by decide) hb) ?_ _

theorem inject_fits {fp : Nat} {s00 s : State} (hb : within 26996718 fp = true) (h : Fits fp s00 s) (w : Nat) :
    Fits fp s00 (inject s w) := by
  unfold inject
  repeat' first
    | with_reducible assumption
    | with_reducible refine takeMessage_fits hb ?_ _
    | with_reducible refine State.hist_fits (within_trans (by decide) hb) ?_ _ _
    | with_reducible refine Fits.ite _ ?_ ?_
    | split
    | extract_lets
    | (dsimp +zetaDelta only)

theorem exitEmcy_fits {fp : Nat} {s00 s : State} (hb : within 1048576 fp = true) (h : Fits fp s00 s)  :
    Fits fp s00 (exitEmcy s) := by
  unfold exitEmcy
  repeat' first
    | with_reducible assumption
    | with_reducible refine State.setCol_fits hb ?_ _ (fun _ => by simp only [length_upd, List.length_set, List.length_map])
    | with_reducible refine Fits.ite _ ?_ ?_
    | split
    | extract_lets
    | (dsimp +zetaDelta only)

theorem faultExit_fits {fp : Nat} {s00 s : State} (hb : within 1056770 fp = true) (h : Fits fp s00 s)  :
    Fits fp s00 (faultExit s) := by
  unfold faultExit
  repeat' first
    | with_reducible assumption
    | with_reducible refine exitEmcy_fits (within_trans (by decide) hb) ?_
    | with_reducible refine safeFollow_fits (within_trans (by decide) hb) ?_
    | with_reducible refine State.setCol_fits (within_trans (by decide) hb) ?_ _ (fun _ => by simp only [length_upd, List.length_set, List.length_map])
    | with_reducible refine State.hist_fits (within_trans (by decide) hb) ?_ _ _
    | with_reducible refine State.inc_fits (within_trans (by decide) hb) ?_ _ _ _
    | with_reducible refine Fits.ite _ ?_ ?_
    | split
    | extract_lets
    | (dsimp +zetaDelta only)

theorem recover_fits {fp : Nat} {s00 s : State} (hb : within 1056770 fp = true) (h : Fits fp s00 s)  :
    Fits fp s00 (recover s) := by
  unfold recover
  repeat' first
    | with_reducible assumption
    | with_reducible refine faultExit_fits hb ?_
    | with_reducible refine State.setCol_fits (within_trans (by decide) hb) ?_ _ (fun _ => by simp only [length_upd, List.length_set, List.length_map])
    | with_reducible refine Fits.ite _ ?_ ?_
    | split
    | extract_lets
    | (dsimp +zetaDelta only)

theorem quietExpiry_fits {fp : Nat} {s00 s : State} (hb : within 1056770 fp = true) (h : Fits fp s00 s)  :
    Fits fp s00 (quietExpiry s) := by
  unfold quietExpiry
  repeat' first
    | with_reducible assumption
    | with_reducible refine faultExit_fits hb ?_
    | with_reducible refine State.setCol_fits (within_trans (by decide) hb) ?_ _ (fun _ => by simp only [length_upd, List.length_set, List.length_map])
    | with_reducible refine Fits.ite _ ?_ ?_
    | split
    | extract_lets
    | (dsimp +zetaDelta only)

theorem shadowExpiry_fits {fp : Nat} {s00 s : State} (hb : within 1048576 fp = true) (h : Fits fp s00 s)  :
    Fits fp s00 (shadowExpiry s) := by
  unfold shadowExpiry
  repeat' first
    | with_reducible assumption
    | with_reducible refine State.setCol_fits hb ?_ _ (fun _ => by simp only [length_upd, List.length_set, List.length_map])
    | with_reducible refine Fits.ite _ ?_ ?_
    | split
    | extract_lets
    | (dsimp +zetaDelta only)

theorem sourceSelect_fits {fp : Nat} {s00 s : State} (hb : within 2 fp = true) (h : Fits fp s00 s) (src : Nat) :
    Fits fp s00 (sourceSelect s src) := by
  unfold sourceSelect
  repeat' first
    | with_reducible assumption
    | with_reducible refine State.put_fits hb ?_ _ _
    | with_reducible refine Fits.ite _ ?_ ?_
    | split
    | extract_lets
    | (dsimp +zetaDelta only)

theorem inboxWrite_fits {fp : Nat} {s00 s : State} (hb : within 1048578 fp = true) (h : Fits fp s00 s) (v : Nat) :
    Fits fp s00 (inboxWrite s v) := by
  unfold inboxWrite
  repeat' first
    | with_reducible assumption
    | with_reducible refine State.setCol_fits (within_trans (by decide) hb) ?_ _ (fun _ => by simp only [length_upd, List.length_set, List.length_map])
    | with_reducible refine State.inc_fits (within_trans (by decide) hb) ?_ _ _ _
    | with_reducible refine Fits.ite _ ?_ ?_
    | split
    | extract_lets
    | (dsimp +zetaDelta only)

theorem inboxRead_fits {fp : Nat} {s00 s : State} (hb : within 1048576 fp = true) (h : Fits fp s00 s)  :
    Fits fp s00 (inboxRead s).2 := by
  unfold inboxRead
  repeat' first
    | with_reducible assumption
    | with_reducible refine State.setCol_fits hb ?_ _ (fun _ => by simp only [length_upd, List.length_set, List.length_map])
    | with_reducible refine Fits.ite _ ?_ ?_
    | with_reducible refine Fits.ite_snd _ ?_ ?_
    | split
    | extract_lets
    | (dsimp +zetaDelta only)

theorem fabricListenerSend_fits {fp : Nat} {s00 s : State} (hb : within 1179690 fp = true) (h : Fits fp s00 s)  :
    Fits fp s00 (fabricListenerSend s) := by
  unfold fabricListenerSend
  repeat' first
    | with_reducible assumption
    | with_reducible refine fabSendTo_fits (within_trans (by decide) hb) ?_ _ _ _ _
    | with_reducible refine State.setCol_fits (within_trans (by decide) hb) ?_ _ (fun _ => by simp only [length_upd, List.length_set, List.length_map])
    | with_reducible refine State.setFab_fits (within_trans (by decide) hb) ?_ _ (fun _ => ⟨by first | rfl | simp only [length_upd, List.length_set, List.length_map], by first | rfl | simp only [length_upd, List.length_set, List.length_map]⟩)
    | with_reducible refine State.inc_fits (within_trans (by decide) hb) ?_ _ _ _
    | with_reducible refine Fits.ite _ ?_ ?_
    | split
    | extract_lets
    | (dsimp +zetaDelta only)

theorem dieTemps_fits {fp : Nat} {s00 s : State} (hb : within 1049634 fp = true) (h : Fits fp s00 s) (temps : List Int) :
    Fits fp s00 (dieTemps s temps) := by
  unfold dieTemps
  repeat' first
    | with_reducible assumption
    | with_reducible refine tempSet_fits (within_trans (by decide) hb) ?_ _ _
    | with_reducible refine State.raise_fits (within_trans (by decide) hb) ?_ _ _ _ _
    | with_reducible refine State.setCol_fits (within_trans (by decide) hb) ?_ _ (fun _ => by simp only [length_upd, List.length_set, List.length_map])
    | with_reducible refine State.putI_fits (within_trans (by decide) hb) ?_ _ _ _
    | with_reducible refine Fits.many ?_ _ _ (fun _ _ _ => ?_)
    | with_reducible refine Fits.when ?_ _ _ (fun _ _ => ?_)
    | with_reducible refine Fits.ite _ ?_ ?_
    | split
    | extract_lets
    | (dsimp +zetaDelta only)

end Sys2Proof.Machine
end

