-- ==== Sys2Proof/Laws/FitsOperands.lean ====
section
/-! SUPPORT. What each operation of Machine/Operands.lean may touch, and the invariants that it keeps. -/

set_option linter.unusedSimpArgs false
set_option linter.unusedVariables false

namespace Sys2Proof.Machine

theorem noteError_fits {fp : Nat} {s00 s : State} (hb : within 2 fp = true) (h : Fits fp s00 s) (via : Iface) (index : Nat) (sub : Nat) (code : Nat) :
    Fits fp s00 (noteError s via index sub code) := by
  unfold noteError
  repeat' first
    | with_reducible assumption
    | with_reducible refine State.hist_fits hb ?_ _ _
    | with_reducible refine State.inc_fits hb ?_ _ _ _
    | with_reducible refine State.put_fits hb ?_ _ _
    | with_reducible refine Fits.ite _ ?_ ?_
    | split
    | extract_lets
    | (dsimp +zetaDelta only)

end Sys2Proof.Machine
end

