-- ==== Sys2Proof/Laws/FitsRead.lean ====
section
/-! SUPPORT. What each operation of Machine/Read.lean may touch, and the invariants that it keeps. -/

set_option linter.unusedSimpArgs false
set_option linter.unusedVariables false

namespace Sys2Proof.Machine

theorem readBase_fits {fp : Nat} {s00 s : State} (hb : within 1577122 fp = true) (h : Fits fp s00 s) (via : Iface) (index : Nat) (sub : Nat) :
    Fits fp s00 (readBase s via index sub).2.2 := by
  unfold readBase
  repeat' first
    | with_reducible assumption
    | with_reducible refine inboxRead_fits (within_trans (by decide) hb) ?_
    | with_reducible refine logRead_fits (within_trans (by decide) hb) ?_ _ _
    | with_reducible refine recordData_fits (within_trans (by decide) hb) ?_
    | with_reducible refine readData_fits (within_trans (by decide) hb) ?_
    | with_reducible refine txRecord_fits (within_trans (by decide) hb) ?_
    | with_reducible refine popStamp_fits (within_trans (by decide) hb) ?_ _ _
    | with_reducible refine Fits.ite _ ?_ ?_
    | with_reducible refine Fits.ite_snd2 _ ?_ ?_
    | split
    | extract_lets
    | (dsimp +zetaDelta only)

theorem State.setStream_fits {fp : Nat} {s00 s : State} (hb : within 4194304 fp = true) (h : Fits fp s00 s) (i : Nat) (f : Stream → Stream) :
    Fits fp s00 (State.setStream s i f) := by
  unfold State.setStream
  repeat' first
    | with_reducible assumption
    | with_reducible refine State.setHost_fits hb ?_ _
    | with_reducible refine Fits.ite _ ?_ ?_
    | split
    | extract_lets
    | (dsimp +zetaDelta only)

theorem streamBlock_fits {fp : Nat} {s00 s : State} (hb : within 5771426 fp = true) (h : Fits fp s00 s) (i : Nat) :
    Fits fp s00 (streamBlock s i) := by
  unfold streamBlock
  repeat' first
    | with_reducible assumption
    | with_reducible refine State.setStream_fits (within_trans (by decide) hb) ?_ _ _
    | with_reducible refine readBase_fits (within_trans (by decide) hb) ?_ _ _ _
    | with_reducible refine Fits.ite _ ?_ ?_
    | split
    | extract_lets
    | (dsimp +zetaDelta only)

theorem streamByte_fits {fp : Nat} {s00 s : State} (hb : within 5771426 fp = true) (h : Fits fp s00 s) (i : Nat) :
    Fits fp s00 (streamByte s i).2 := by
  unfold streamByte
  repeat' first
    | with_reducible assumption
    | with_reducible refine streamBlock_fits hb ?_ _
    | with_reducible refine State.setStream_fits (within_trans (by decide) hb) ?_ _ _
    | with_reducible refine Fits.ite _ ?_ ?_
    | with_reducible refine Fits.ite_snd _ ?_ ?_
    | split
    | extract_lets
    | (dsimp +zetaDelta only)

theorem streamBytes_fits {fp : Nat} {s00 s : State} (hb : within 5771426 fp = true) (h : Fits fp s00 s) (i : Nat) (x0 : Nat) :
    Fits fp s00 (streamBytes s i x0).2 := by
  induction x0 generalizing s with
  | zero =>
    unfold streamBytes
    exact h
  | succ n ih =>
    unfold streamBytes
    exact ih (streamByte_fits hb h _)

theorem streamRead_fits {fp : Nat} {s00 s : State} (hb : within 5771426 fp = true) (h : Fits fp s00 s) (i : Nat) (n : Nat) :
    Fits fp s00 (streamRead s i n).2.2 := by
  unfold streamRead
  repeat' first
    | with_reducible assumption
    | with_reducible refine streamBytes_fits hb ?_ _ _
    | with_reducible refine State.setStream_fits (within_trans (by decide) hb) ?_ _ _
    | with_reducible refine Fits.ite _ ?_ ?_
    | with_reducible refine Fits.ite_snd2 _ ?_ ?_
    | split
    | extract_lets
    | (dsimp +zetaDelta only)

theorem openRead_fits {fp : Nat} {s00 s : State} (hb : within 5771426 fp = true) (h : Fits fp s00 s) (i : Nat) :
    Fits fp s00 (openRead s i) := by
  unfold openRead
  repeat' first
    | with_reducible assumption
    | with_reducible refine State.setStream_fits (within_trans (by decide) hb) ?_ _ _
    | with_reducible refine readBase_fits (within_trans (by decide) hb) ?_ _ _ _
    | with_reducible refine State.put_fits (within_trans (by decide) hb) ?_ _ _
    | with_reducible refine Fits.ite _ ?_ ?_
    | split
    | extract_lets
    | (dsimp +zetaDelta only)

theorem streamRun_fits {fp : Nat} {s00 s : State} (hb : within 5771426 fp = true) (h : Fits fp s00 s) (i : Nat) (v : Nat) :
    Fits fp s00 (streamRun s i v) := by
  unfold streamRun
  repeat' first
    | with_reducible assumption
    | with_reducible refine openRead_fits hb ?_ _
    | with_reducible refine State.setStream_fits (within_trans (by decide) hb) ?_ _ _
    | with_reducible refine Fits.ite _ ?_ ?_
    | split
    | extract_lets
    | (dsimp +zetaDelta only)

theorem readEntry_fits {fp : Nat} {s00 s : State} (hb : within 5771426 fp = true) (h : Fits fp s00 s) (via : Iface) (index : Nat) (sub : Nat) :
    Fits fp s00 (readEntry s via index sub).2.2 := by
  unfold readEntry
  repeat' first
    | with_reducible assumption
    | with_reducible refine streamRead_fits hb ?_ _ _
    | with_reducible refine readBase_fits (within_trans (by decide) hb) ?_ _ _ _
    | with_reducible refine Fits.ite _ ?_ ?_
    | with_reducible refine Fits.ite_snd2 _ ?_ ?_
    | split
    | extract_lets
    | (dsimp +zetaDelta only)

end Sys2Proof.Machine
end

