-- ==== Sys2Proof/Laws/FitsRefuse.lean ====
section
/-! SUPPORT. What each operation of Machine/Refuse.lean may touch, and the invariants that it keeps. -/

set_option linter.unusedSimpArgs false
set_option linter.unusedVariables false

namespace Sys2Proof.Machine

theorem pendView_fits {fp : Nat} {s00 s : State} (hb : within 2 fp = true) (h : Fits fp s00 s)  :
    Fits fp s00 (pendView s) := by
  unfold pendView
  repeat' first
    | with_reducible assumption
    | with_reducible refine State.put_fits hb ?_ _ _
    | with_reducible refine Fits.foldl_snd _ (fun _ _ _ => ?_) _ ?_
    | with_reducible refine Fits.foldl _ (fun _ _ _ => ?_) _ ?_
    | with_reducible refine Fits.ite _ ?_ ?_
    | split
    | extract_lets
    | (dsimp +zetaDelta only)

theorem storeRefuse_fits {fp : Nat} {s00 s : State} (hb : within 524322 fp = true) (h : Fits fp s00 s) (p : State) (index : Nat) (sub : Nat) (d : Datum) :
    Fits fp s00 (storeRefuse s p index sub d).2 := by
  unfold storeRefuse
  repeat' first
    | with_reducible assumption
    | with_reducible refine writeDataRefuse_fits hb ?_ _ _
    | with_reducible refine Fits.ite _ ?_ ?_
    | with_reducible refine Fits.ite_snd _ ?_ ?_
    | split
    | extract_lets
    | (dsimp +zetaDelta only)

theorem objectRefuse_fits {fp : Nat} {s00 s : State} (hb : within 524322 fp = true) (h : Fits fp s00 s) (via : Iface) (index : Nat) (sub : Nat) (d : Datum) :
    Fits fp s00 (objectRefuse s via index sub d).2 := by
  unfold objectRefuse
  repeat' first
    | with_reducible assumption
    | with_reducible refine storeRefuse_fits hb ?_ _ _ _ _
    | with_reducible refine pendView_fits (within_trans (by decide) hb) ?_
    | with_reducible refine Fits.ite _ ?_ ?_
    | with_reducible refine Fits.ite_snd _ ?_ ?_
    | split
    | extract_lets
    | (dsimp +zetaDelta only)

theorem writeRefuse_fits {fp : Nat} {s00 s : State} (hb : within 524322 fp = true) (h : Fits fp s00 s) (via : Iface) (index : Nat) (sub : Nat) (d : Datum) :
    Fits fp s00 (writeRefuse s via index sub d).2 := by
  unfold writeRefuse
  repeat' first
    | with_reducible assumption
    | with_reducible refine objectRefuse_fits hb ?_ _ _ _ _
    | with_reducible refine Fits.ite _ ?_ ?_
    | with_reducible refine Fits.ite_snd _ ?_ ?_
    | split
    | extract_lets
    | (dsimp +zetaDelta only)

end Sys2Proof.Machine
end

