-- ==== Sys2Proof/Laws/FitsParams.lean ====
section
/-! SUPPORT. What each operation of Machine/Params.lean may touch, and the invariants that it keeps. -/

set_option linter.unusedSimpArgs false
set_option linter.unusedVariables false

namespace Sys2Proof.Machine

theorem saveParameters_fits {fp : Nat} {s00 s : State} (hb : within 524290 fp = true) (h : Fits fp s00 s) (sub : Nat) :
    Fits fp s00 (saveParameters s sub) := by
  unfold saveParameters
  repeat' first
    | with_reducible assumption
    | with_reducible refine requestStore_fits (within_trans (by decide) hb) ?_
    | with_reducible refine progSet_fits (within_trans (by decide) hb) ?_ _ _ _ _ _ _
    | with_reducible refine State.nvSet_fits (within_trans (by decide) hb) ?_ _ (by with_unfolding_all exact fun h => h) (by first | with_unfolding_all exact fun h => h | with_unfolding_all exact fun h => ⟨h.1, fun y hy => Option.some.inj hy ▸ h.1⟩ | with_unfolding_all exact fun h => ⟨h.1, fun _ k => absurd k (by simp)⟩)
    | with_reducible refine Fits.ite _ ?_ ?_
    | split
    | extract_lets
    | (dsimp +zetaDelta only)

theorem loadDefaults_fits {fp : Nat} {s00 s : State} (hb : within 524288 fp = true) (h : Fits fp s00 s) (sub : Nat) :
    Fits fp s00 (loadDefaults s sub) := by
  unfold loadDefaults
  repeat' first
    | with_reducible assumption
    | with_reducible refine requestStore_fits hb ?_
    | with_reducible refine State.nvSet_fits hb ?_ _ (by with_unfolding_all exact fun h => h) (by first | with_unfolding_all exact fun h => h | with_unfolding_all exact fun h => ⟨h.1, fun y hy => Option.some.inj hy ▸ h.1⟩ | with_unfolding_all exact fun h => ⟨h.1, fun _ k => absurd k (by simp)⟩)
    | with_reducible refine Fits.ite _ ?_ ?_
    | split
    | extract_lets
    | (dsimp +zetaDelta only)

end Sys2Proof.Machine
end

