-- ==== Sys2Proof/Laws/FitsApply.lean ====
section
/-! SUPPORT. What each operation of Machine/Apply.lean may touch, and the invariants that it keeps. -/

set_option linter.unusedSimpArgs false
set_option linter.unusedVariables false

namespace Sys2Proof.Machine

theorem clearHistory_fits {fp : Nat} {s00 s : State} (hb : within 6 fp = true) (h : Fits fp s00 s) (index : Nat) (v : Nat) :
    Fits fp s00 (clearHistory s index v) := by
  unfold clearHistory
  repeat' first
    | with_reducible assumption
    | with_reducible refine State.dput_fits (within_trans (by decide) hb) ?_ _ _
    | with_reducible refine State.put_fits (within_trans (by decide) hb) ?_ _ _
    | with_reducible refine Fits.ite _ ?_ ?_
    | split
    | extract_lets
    | (dsimp +zetaDelta only)

theorem applyHost_fits {fp : Nat} {s00 s : State} (hb : within 33292270 fp = true) (h : Fits fp s00 s) (via : Iface) (index : Nat) (sub : Nat) (d : Datum) :
    Fits fp s00 (applyHost s via index sub d) := by
  unfold applyHost
  repeat' first
    | with_reducible assumption
    | with_reducible refine loadDefaults_fits (within_trans (by decide) hb) ?_ _
    | with_reducible refine saveParameters_fits (within_trans (by decide) hb) ?_ _
    | with_reducible refine streamRun_fits (within_trans (by decide) hb) ?_ _ _
    | with_reducible refine programClear_fits (within_trans (by decide) hb) ?_
    | with_reducible refine programStop_fits (within_trans (by decide) hb) ?_
    | with_reducible refine programStart_fits (within_trans (by decide) hb) ?_
    | with_reducible refine programData_fits (within_trans (by decide) hb) ?_ _ _
    | with_reducible refine jobPut_fits (within_trans (by decide) hb) ?_ _
    | with_reducible refine snapStart_fits (within_trans (by decide) hb) ?_ _
    | with_reducible refine linkCommand_fits (within_trans (by decide) hb) ?_ _ _
    | with_reducible refine linkInject_fits (within_trans (by decide) hb) ?_ _ _
    | with_reducible refine State.setCan_fits (within_trans (by decide) hb) ?_ _
    | with_reducible refine State.nvSet_fits (within_trans (by decide) hb) ?_ _ (by with_unfolding_all exact fun h => h) (by first | with_unfolding_all exact fun h => h | with_unfolding_all exact fun h => ⟨h.1, fun y hy => Option.some.inj hy ▸ h.1⟩ | with_unfolding_all exact fun h => ⟨h.1, fun _ k => absurd k (by simp)⟩)
    | with_reducible refine State.put_fits (within_trans (by decide) hb) ?_ _ _
    | with_reducible refine Fits.many ?_ _ _ (fun _ _ _ => ?_)
    | with_reducible refine Fits.ite _ ?_ ?_
    | split
    | extract_lets
    | (dsimp +zetaDelta only)

theorem applyCol_fits {fp : Nat} {s00 s : State} (hb : within 26996718 fp = true) (h : Fits fp s00 s) (index : Nat) (sub : Nat) (v : Nat) :
    Fits fp s00 (applyCol s index sub v) := by
  unfold applyCol
  repeat' first
    | with_reducible assumption
    | with_reducible refine inboxWrite_fits (within_trans (by decide) hb) ?_ _
    | with_reducible refine sourceSelect_fits (within_trans (by decide) hb) ?_ _
    | with_reducible refine recover_fits (within_trans (by decide) hb) ?_
    | with_reducible refine inject_fits hb ?_ _
    | with_reducible refine colClearCounters_fits (within_trans (by decide) hb) ?_
    | with_reducible refine clearSticky_fits (within_trans (by decide) hb) ?_
    | with_reducible refine ackAll_fits (within_trans (by decide) hb) ?_
    | with_reducible refine unackClear_fits (within_trans (by decide) hb) ?_ _ _ _
    | with_reducible refine sourceCfgPut_fits (within_trans (by decide) hb) ?_ _ _
    | with_reducible refine State.put_fits (within_trans (by decide) hb) ?_ _ _
    | with_reducible refine Fits.ite _ ?_ ?_
    | split
    | extract_lets
    | (dsimp +zetaDelta only)

theorem applySystem_fits {fp : Nat} {s00 s : State} (hb : within 852130 fp = true) (h : Fits fp s00 s) (index : Nat) (sub : Nat) (d : Datum) :
    Fits fp s00 (applySystem s index sub d) := by
  unfold applySystem
  repeat' first
    | with_reducible assumption
    | with_reducible refine scrubNow_fits (within_trans (by decide) hb) ?_
    | with_reducible refine recordRepair_fits (within_trans (by decide) hb) ?_
    | with_reducible refine recordErase_fits (within_trans (by decide) hb) ?_
    | with_reducible refine recordWrite_fits (within_trans (by decide) hb) ?_ _
    | with_reducible refine recordSelect_fits (within_trans (by decide) hb) ?_ _
    | with_reducible refine hostDiscard_fits (within_trans (by decide) hb) ?_
    | with_reducible refine hostCommit_fits (within_trans (by decide) hb) ?_
    | with_reducible refine writeData_fits (within_trans (by decide) hb) ?_ _
    | with_reducible refine requestStore_fits (within_trans (by decide) hb) ?_
    | with_reducible refine calRestore_fits (within_trans (by decide) hb) ?_
    | with_reducible refine calSave_fits (within_trans (by decide) hb) ?_
    | with_reducible refine outRecPut_fits (within_trans (by decide) hb) ?_ _ _ _
    | with_reducible refine sliceRecPut_fits (within_trans (by decide) hb) ?_ _ _ _
    | with_reducible refine sweepNow_fits (within_trans (by decide) hb) ?_
    | with_reducible refine calEnable_fits (within_trans (by decide) hb) ?_ _
    | with_reducible refine arbClear_fits (within_trans (by decide) hb) ?_
    | with_reducible refine arbSnapshot_fits (within_trans (by decide) hb) ?_
    | with_reducible refine classPut_fits (within_trans (by decide) hb) ?_ _ _
    | with_reducible refine State.put_fits (within_trans (by decide) hb) ?_ _ _
    | with_reducible refine Fits.ite _ ?_ ?_
    | split
    | extract_lets
    | (dsimp +zetaDelta only)

theorem baseSource_fits {fp : Nat} {s00 s : State} (hb : within 25428642 fp = true) (h : Fits fp s00 s) (v : Nat) :
    Fits fp s00 (baseSource s v) := by
  unfold baseSource
  repeat' first
    | with_reducible assumption
    | with_reducible refine calTbChange_fits (within_trans (by decide) hb) ?_
    | with_reducible refine cupsTbChange_fits (within_trans (by decide) hb) ?_
    | with_reducible refine State.setBase_fits (within_trans (by decide) hb) ?_ _
    | with_reducible refine gatesTbChange_fits (within_trans (by decide) hb) ?_
    | with_reducible refine State.raise_fits (within_trans (by decide) hb) ?_ _ _ _ _
    | with_reducible refine State.hist_fits (within_trans (by decide) hb) ?_ _ _
    | with_reducible refine State.put_fits (within_trans (by decide) hb) ?_ _ _
    | with_reducible refine Fits.ite _ ?_ ?_
    | split
    | extract_lets
    | (dsimp +zetaDelta only)

theorem applyMeasure_fits {fp : Nat} {s00 s : State} (hb : within 25429666 fp = true) (h : Fits fp s00 s) (index : Nat) (sub : Nat) (v : Nat) :
    Fits fp s00 (applyMeasure s index sub v) := by
  unfold applyMeasure
  repeat' first
    | with_reducible assumption
    | with_reducible refine baseSource_fits (within_trans (by decide) hb) ?_ _
    | with_reducible refine tbDateNow_fits (within_trans (by decide) hb) ?_ _
    | with_reducible refine State.setBase_fits (within_trans (by decide) hb) ?_ _
    | with_reducible refine gateAbort_fits (within_trans (by decide) hb) ?_ _
    | with_reducible refine gateArm_fits (within_trans (by decide) hb) ?_ _
    | with_reducible refine modePut_fits (within_trans (by decide) hb) ?_ _ _ _
    | with_reducible refine candPut_fits (within_trans (by decide) hb) ?_ _ _ _
    | with_reducible refine dpTamp_fits (within_trans (by decide) hb) ?_ _ _
    | with_reducible refine dpQueue_fits (within_trans (by decide) hb) ?_ _ _
    | with_reducible refine carafeRestore_fits (within_trans (by decide) hb) ?_ _ _
    | with_reducible refine tempSource_fits (within_trans (by decide) hb) ?_ _ _
    | with_reducible refine hostTemp_fits (within_trans (by decide) hb) ?_ _ _
    | with_reducible refine holdCommand_fits (within_trans (by decide) hb) ?_ _ _
    | with_reducible refine State.put_fits (within_trans (by decide) hb) ?_ _ _
    | with_reducible refine Fits.ite _ ?_ ?_
    | split
    | extract_lets
    | (dsimp +zetaDelta only)

theorem applyChan_fits {fp : Nat} {s00 s : State} (hb : within 25436834 fp = true) (h : Fits fp s00 s) (n : Nat) (sub : Nat) (v : Nat) :
    Fits fp s00 (applyChan s n sub v) := by
  unfold applyChan
  repeat' first
    | with_reducible assumption
    | with_reducible refine safeFollow_fits (within_trans (by decide) hb) ?_
    | with_reducible refine calRole_fits (within_trans (by decide) hb) ?_ _ _
    | with_reducible refine cupFollow_fits (within_trans (by decide) hb) ?_ _
    | with_reducible refine gatesBar_fits (within_trans (by decide) hb) ?_ _
    | with_reducible refine outEnable_fits (within_trans (by decide) hb) ?_ _ _
    | with_reducible refine loseAlign_fits (within_trans (by decide) hb) ?_ _
    | with_reducible refine State.setOut_fits (within_trans (by decide) hb) ?_ _ _
    | with_reducible refine decimRestart_fits (within_trans (by decide) hb) ?_ _
    | with_reducible refine State.put_fits (within_trans (by decide) hb) ?_ _ _
    | with_reducible refine Fits.when ?_ _ _ (fun _ _ => ?_)
    | with_reducible refine Fits.ite _ ?_ ?_
    | split
    | extract_lets
    | (dsimp +zetaDelta only)

theorem applyCup_fits {fp : Nat} {s00 s : State} (hb : within 25166498 fp = true) (h : Fits fp s00 s) (n : Nat) (sub : Nat) (v : Nat) :
    Fits fp s00 (applyCup s n sub v) := by
  unfold applyCup
  repeat' first
    | with_reducible assumption
    | with_reducible refine driftRestart_fits (within_trans (by decide) hb) ?_ _
    | with_reducible refine freqRestart_fits (within_trans (by decide) hb) ?_ _
    | with_reducible refine cupCommand_fits hb ?_ _ _
    | with_reducible refine cupFollow_fits hb ?_ _
    | with_reducible refine State.put_fits (within_trans (by decide) hb) ?_ _ _
    | with_reducible refine Fits.ite _ ?_ ?_
    | split
    | extract_lets
    | (dsimp +zetaDelta only)

theorem applySynth_fits {fp : Nat} {s00 s : State} (hb : within 8230 fp = true) (h : Fits fp s00 s) (index : Nat) (sub : Nat) (v : Nat) :
    Fits fp s00 (applySynth s index sub v) := by
  unfold applySynth
  repeat' first
    | with_reducible assumption
    | with_reducible refine alignGroups_fits (within_trans (by decide) hb) ?_ _
    | with_reducible refine alignOne_fits (within_trans (by decide) hb) ?_ _
    | with_reducible refine rampCommand_fits (within_trans (by decide) hb) ?_ _ _
    | with_reducible refine apllCommand_fits (within_trans (by decide) hb) ?_ _ _
    | with_reducible refine apllEnable_fits hb ?_ _ _
    | with_reducible refine State.put_fits (within_trans (by decide) hb) ?_ _ _
    | with_reducible refine Fits.ite _ ?_ ?_
    | split
    | extract_lets
    | (dsimp +zetaDelta only)

theorem disciplinePut_fits {fp : Nat} {s00 s : State} (hb : within 17698 fp = true) (h : Fits fp s00 s) (t : Nat) (v : Nat) :
    Fits fp s00 (disciplinePut s t v) := by
  unfold disciplinePut
  repeat' first
    | with_reducible assumption
    | with_reducible refine disciplineTied_fits hb ?_ _
    | with_reducible refine disciplineHws_fits (within_trans (by decide) hb) ?_ _
    | with_reducible refine disciplineSwi_fits (within_trans (by decide) hb) ?_ _
    | with_reducible refine Fits.ite _ ?_ ?_
    | split
    | extract_lets
    | (dsimp +zetaDelta only)

theorem applyTime_fits {fp : Nat} {s00 s : State} (hb : within 32058 fp = true) (h : Fits fp s00 s) (index : Nat) (sub : Nat) (d : Datum) :
    Fits fp s00 (applyTime s index sub d) := by
  unfold applyTime
  repeat' first
    | with_reducible assumption
    | with_reducible refine live_fits (within_trans (by decide) hb) ?_ _ (fun _ _ => ?_)
    | with_reducible refine disciplinePut_fits (within_trans (by decide) hb) ?_ _ _
    | with_reducible refine fabContextOn_fits (within_trans (by decide) hb) ?_ _
    | with_reducible refine disarmEntries_fits (within_trans (by decide) hb) ?_ _ _
    | with_reducible refine armEntries_fits (within_trans (by decide) hb) ?_ _ _
    | with_reducible refine entryPut_fits (within_trans (by decide) hb) ?_ _ _
    | with_reducible refine offsetIn_fits (within_trans (by decide) hb) ?_ _ _
    | with_reducible refine ctxConfig_fits (within_trans (by decide) hb) ?_ _ _
    | with_reducible refine ctxClearCounters_fits (within_trans (by decide) hb) ?_ _
    | with_reducible refine ctxRestart_fits (within_trans (by decide) hb) ?_ _
    | with_reducible refine ptpEnable_fits (within_trans (by decide) hb) ?_ _ _
    | with_reducible refine ctxEnable_fits (within_trans (by decide) hb) ?_ _ _
    | with_reducible refine txStamp_fits (within_trans (by decide) hb) ?_ _
    | with_reducible refine rxRecord_fits (within_trans (by decide) hb) ?_ _
    | with_reducible refine ethMode_fits (within_trans (by decide) hb) ?_ _ _
    | with_reducible refine classMode_fits (within_trans (by decide) hb) ?_ _ _
    | with_reducible refine pulsePut_fits (within_trans (by decide) hb) ?_ _ _ _
    | with_reducible refine tcPourAbort_fits (within_trans (by decide) hb) ?_ _
    | with_reducible refine tcPour_fits (within_trans (by decide) hb) ?_ _ _
    | with_reducible refine tcRequest_fits (within_trans (by decide) hb) ?_ _ _
    | with_reducible refine State.put_fits (within_trans (by decide) hb) ?_ _ _
    | with_reducible refine Fits.ite _ ?_ ?_
    | split
    | extract_lets
    | (dsimp +zetaDelta only)

theorem applyFab_fits {fp : Nat} {s00 s : State} (hb : within 33554430 fp = true) (h : Fits fp s00 s) (serve : Serve) (index : Nat) (sub : Nat) (d : Datum) (hs : ∀ y a b c d e, Fits fp s00 y → Fits fp s00 (serve y a b c d e).2.2) :
    Fits fp s00 (applyFab serve s index sub d) := by
  unfold applyFab
  repeat' first
    | with_reducible assumption
    | with_reducible refine live_fits (within_trans (by decide) hb) ?_ _ (fun _ _ => ?_)
    | with_reducible refine requestCancel_fits (within_trans (by decide) hb) ?_ _
    | with_reducible refine requestStart_fits hb ?_ _ _ _ (by first | with_reducible assumption | exact fun _ _ _ _ _ _ h => servePost_fits (within_trans (by decide) hb) h _ _ _ _ _ | exact fun _ _ _ _ _ _ h => serveRemote_fits (within_trans (by decide) hb) h _ _ _ _ _)
    | with_reducible refine State.setSlot_fits (within_trans (by decide) hb) ?_ _ _
    | with_reducible refine slotCommit_fits (within_trans (by decide) hb) ?_ _
    | with_reducible refine rediscover_fits (within_trans (by decide) hb) ?_
    | with_reducible refine fabClear_fits (within_trans (by decide) hb) ?_
    | with_reducible refine portClear_fits (within_trans (by decide) hb) ?_ _
    | with_reducible refine txApllPut_fits (within_trans (by decide) hb) ?_ _ _
    | with_reducible refine fabRetrain_fits (within_trans (by decide) hb) ?_ _
    | with_reducible refine fabMode_fits (within_trans (by decide) hb) ?_ _ _
    | with_reducible refine elect_fits (within_trans (by decide) hb) ?_
    | with_reducible refine gradeMode_fits (within_trans (by decide) hb) ?_ _
    | with_reducible refine State.put_fits (within_trans (by decide) hb) ?_ _ _
    | with_reducible refine hs _ _ _ _ _ _ ?_
    | with_reducible refine Fits.when ?_ _ _ (fun _ _ => ?_)
    | with_reducible refine Fits.ite _ ?_ ?_
    | split
    | extract_lets
    | (dsimp +zetaDelta only)

theorem applyWrite_fits {fp : Nat} {s00 s : State} (hb : within 33554430 fp = true) (h : Fits fp s00 s) (serve : Serve) (via : Iface) (index : Nat) (sub : Nat) (d : Datum) (hs : ∀ y a b c d e, Fits fp s00 y → Fits fp s00 (serve y a b c d e).2.2) :
    Fits fp s00 (applyWrite serve s via index sub d) := by
  unfold applyWrite
  repeat' first
    | with_reducible assumption
    | with_reducible refine applyFab_fits hb ?_ _ _ _ _ (by first | with_reducible assumption | exact fun _ _ _ _ _ _ h => servePost_fits (within_trans (by decide) hb) h _ _ _ _ _ | exact fun _ _ _ _ _ _ h => serveRemote_fits (within_trans (by decide) hb) h _ _ _ _ _)
    | with_reducible refine applyTime_fits (within_trans (by decide) hb) ?_ _ _ _
    | with_reducible refine applySynth_fits (within_trans (by decide) hb) ?_ _ _ _
    | with_reducible refine applyCup_fits (within_trans (by decide) hb) ?_ _ _ _
    | with_reducible refine applyChan_fits (within_trans (by decide) hb) ?_ _ _ _
    | with_reducible refine applyMeasure_fits (within_trans (by decide) hb) ?_ _ _ _
    | with_reducible refine applySystem_fits (within_trans (by decide) hb) ?_ _ _ _
    | with_reducible refine applyCol_fits (within_trans (by decide) hb) ?_ _ _ _
    | with_reducible refine applyHost_fits (within_trans (by decide) hb) ?_ _ _ _ _
    | with_reducible refine clearHistory_fits (within_trans (by decide) hb) ?_ _ _
    | with_reducible refine State.put_fits (within_trans (by decide) hb) ?_ _ _
    | with_reducible refine hs _ _ _ _ _ _ ?_
    | with_reducible refine Fits.ite _ ?_ ?_
    | split
    | extract_lets
    | (dsimp +zetaDelta only)

end Sys2Proof.Machine
end

