-- ==== Sys2Proof/Laws/FitsHost.lean ====
section
/-! SUPPORT. What each operation of Machine/Host.lean may touch, and the invariants that it keeps. -/

set_option linter.unusedSimpArgs false
set_option linter.unusedVariables false

namespace Sys2Proof.Machine

theorem refuseWrite_fits {fp : Nat} {s00 s : State} (hb : within 2 fp = true) (h : Fits fp s00 s) (via : Iface) (index : Nat) (sub : Nat) (code : Nat) :
    Fits fp s00 (refuseWrite s via index sub code).2 := by
  unfold refuseWrite
  repeat' first
    | with_reducible assumption
    | with_reducible refine noteError_fits hb ?_ _ _ _ _
    | with_reducible refine State.inc_fits hb ?_ _ _ _
    | with_reducible refine Fits.when ?_ _ _ (fun _ _ => ?_)
    | with_reducible refine Fits.ite _ ?_ ?_
    | with_reducible refine Fits.ite_snd _ ?_ ?_
    | split
    | extract_lets
    | (dsimp +zetaDelta only)

theorem hostAccept_fits {fp : Nat} {s00 s : State} (hb : within 524322 fp = true) (h : Fits fp s00 s) (via : Iface) (index : Nat) (sub : Nat) (d : Datum) :
    Fits fp s00 (hostAccept s via index sub d).2 := by
  unfold hostAccept
  repeat' first
    | with_reducible assumption
    | with_reducible refine refuseWrite_fits (within_trans (by decide) hb) ?_ _ _ _ _
    | with_reducible refine writeRefuse_fits hb ?_ _ _ _ _
    | with_reducible refine journalWrite_fits (within_trans (by decide) hb) ?_ _ _ _ _ _
    | with_reducible refine Fits.ite _ ?_ ?_
    | with_reducible refine Fits.ite_snd _ ?_ ?_
    | split
    | extract_lets
    | (dsimp +zetaDelta only)

theorem postWrite_fits {fp : Nat} {s00 s : State} (hb : within 4194304 fp = true) (h : Fits fp s00 s) (p : Posted) :
    Fits fp s00 (postWrite s p) := by
  unfold postWrite
  repeat' first
    | with_reducible assumption
    | with_reducible refine State.setHost_fits hb ?_ _
    | with_reducible refine Fits.ite _ ?_ ?_
    | split
    | extract_lets
    | (dsimp +zetaDelta only)

theorem acceptPost_fits {fp : Nat} {s00 s : State} (hb : within 4718626 fp = true) (h : Fits fp s00 s) (via : Iface) (index : Nat) (sub : Nat) (d : Datum) :
    Fits fp s00 (acceptPost s via index sub d).2 := by
  unfold acceptPost
  repeat' first
    | with_reducible assumption
    | with_reducible refine postWrite_fits (within_trans (by decide) hb) ?_ _
    | with_reducible refine hostAccept_fits (within_trans (by decide) hb) ?_ _ _ _ _
    | with_reducible refine Fits.ite _ ?_ ?_
    | with_reducible refine Fits.ite_snd _ ?_ ?_
    | split
    | extract_lets
    | (dsimp +zetaDelta only)

theorem streamParts_fits {fp : Nat} {s00 s : State} (hb : within 4718626 fp = true) (h : Fits fp s00 s) (via : Iface) (index : Nat) (sub : Nat) (all : Datum) (was : Nat) (now_ : Nat) (len : Nat) :
    Fits fp s00 (streamParts s via index sub all was now_ len).2 := by
  unfold streamParts
  repeat' first
    | with_reducible assumption
    | with_reducible refine postWrite_fits (within_trans (by decide) hb) ?_ _
    | with_reducible refine refuseWrite_fits (within_trans (by decide) hb) ?_ _ _ _ _
    | with_reducible refine writeRefuse_fits (within_trans (by decide) hb) ?_ _ _ _ _
    | with_reducible refine Fits.foldl_snd _ (fun _ _ _ => ?_) _ ?_
    | with_reducible refine Fits.foldl _ (fun _ _ _ => ?_) _ ?_
    | with_reducible refine Fits.ite _ ?_ ?_
    | with_reducible refine Fits.ite_snd _ ?_ ?_
    | split
    | extract_lets
    | (dsimp +zetaDelta only)

theorem streamPost_fits {fp : Nat} {s00 s : State} (hb : within 4718626 fp = true) (h : Fits fp s00 s) (via : Iface) (i : Nat) (index : Nat) (sub : Nat) (all : Datum) :
    Fits fp s00 (streamPost s via i index sub all) := by
  unfold streamPost
  repeat' first
    | with_reducible assumption
    | with_reducible refine postWrite_fits (within_trans (by decide) hb) ?_ _
    | with_reducible refine refuseWrite_fits (within_trans (by decide) hb) ?_ _ _ _ _
    | with_reducible refine writeRefuse_fits (within_trans (by decide) hb) ?_ _ _ _ _
    | with_reducible refine State.setStream_fits (within_trans (by decide) hb) ?_ _ _
    | with_reducible refine journalWrite_fits (within_trans (by decide) hb) ?_ _ _ _ _ _
    | with_reducible refine Fits.ite _ ?_ ?_
    | split
    | extract_lets
    | (dsimp +zetaDelta only)

theorem streamWrite_fits {fp : Nat} {s00 s : State} (hb : within 4718626 fp = true) (h : Fits fp s00 s) (via : Iface) (i : Nat) (d : Datum) :
    Fits fp s00 (streamWrite s via i d).2 := by
  unfold streamWrite
  repeat' first
    | with_reducible assumption
    | with_reducible refine streamPost_fits hb ?_ _ _ _ _ _
    | with_reducible refine streamParts_fits hb ?_ _ _ _ _ _ _ _
    | with_reducible refine refuseWrite_fits (within_trans (by decide) hb) ?_ _ _ _ _
    | with_reducible refine State.setStream_fits (within_trans (by decide) hb) ?_ _ _
    | with_reducible refine Fits.ite _ ?_ ?_
    | with_reducible refine Fits.ite_snd _ ?_ ?_
    | split
    | extract_lets
    | (dsimp +zetaDelta only)

theorem hostPost_fits {fp : Nat} {s00 s : State} (hb : within 4718626 fp = true) (h : Fits fp s00 s) (via : Iface) (index : Nat) (sub : Nat) (d : Datum) :
    Fits fp s00 (hostPost s via index sub d).2 := by
  unfold hostPost
  repeat' first
    | with_reducible assumption
    | with_reducible refine streamWrite_fits hb ?_ _ _ _
    | with_reducible refine acceptPost_fits hb ?_ _ _ _ _
    | with_reducible refine Fits.ite _ ?_ ?_
    | with_reducible refine Fits.ite_snd _ ?_ ?_
    | split
    | extract_lets
    | (dsimp +zetaDelta only)

theorem serveRemote_fits {fp : Nat} {s00 s : State} (hb : within 5771426 fp = true) (h : Fits fp s00 s) (src : Nat) (wr : Bool) (index : Nat) (sub : Nat) (d : Datum) :
    Fits fp s00 (serveRemote s src wr index sub d).2.2 := by
  unfold serveRemote
  dsimp only
  repeat' first
    | with_reducible assumption
    | with_reducible refine hostPost_fits (within_trans (by decide) hb) ?_ _ _ _ _
    | with_reducible refine readEntry_fits hb ?_ _ _ _
    | with_reducible refine Fits.ite _ ?_ ?_
    | with_reducible refine Fits.ite_snd2 _ ?_ ?_
    | split
    | extract_lets
    | (dsimp +zetaDelta only)

theorem hostWrite_fits {fp : Nat} {s00 s : State} (hb : within 4718626 fp = true) (h : Fits fp s00 s) (via : Iface) (reply : Reply) (index : Nat) (sub : Nat) (d : Datum) :
    Fits fp s00 (hostWrite s via reply index sub d).2 := by
  unfold hostWrite
  repeat' first
    | with_reducible assumption
    | with_reducible refine hostPost_fits hb ?_ _ _ _ _
    | with_reducible refine refuseWrite_fits (within_trans (by decide) hb) ?_ _ _ _ _
    | with_reducible refine State.setHost_fits (within_trans (by decide) hb) ?_ _
    | with_reducible refine Fits.ite _ ?_ ?_
    | with_reducible refine Fits.ite_snd _ ?_ ?_
    | split
    | extract_lets
    | (dsimp +zetaDelta only)

theorem acceptHeld_fits {fp : Nat} {s00 s : State} (hb : within 6815786 fp = true) (h : Fits fp s00 s) (x : Stalled) :
    Fits fp s00 (acceptHeld s x) := by
  unfold acceptHeld
  repeat' first
    | with_reducible assumption
    | with_reducible refine hostPost_fits (within_trans (by decide) hb) ?_ _ _ _ _
    | with_reducible refine State.send_fits (within_trans (by decide) hb) ?_ _
    | with_reducible refine State.setCan_fits (within_trans (by decide) hb) ?_ _
    | with_reducible refine Fits.ite _ ?_ ?_
    | split
    | extract_lets
    | (dsimp +zetaDelta only)

theorem refillStalled_fits {fp : Nat} {s00 s : State} (hb : within 6815786 fp = true) (h : Fits fp s00 s) (x0 : Nat) :
    Fits fp s00 (refillStalled s x0) := by
  induction x0 generalizing s with
  | zero =>
    unfold refillStalled
    exact h
  | succ n ih =>
    unfold refillStalled
    split
    · exact ih (acceptHeld_fits (within_trans (by decide) hb) (State.setHost_fits (within_trans (by decide) hb) h (fun _ => _)) _)
    · exact h

theorem refillHolding_fits {fp : Nat} {s00 s : State} (hb : within 4718626 fp = true) (h : Fits fp s00 s)  :
    Fits fp s00 (refillHolding s) := by
  unfold refillHolding
  repeat' first
    | with_reducible assumption
    | with_reducible refine hostPost_fits hb ?_ _ _ _ _
    | with_reducible refine State.setHost_fits (within_trans (by decide) hb) ?_ _
    | with_reducible refine Fits.ite _ ?_ ?_
    | split
    | extract_lets
    | (dsimp +zetaDelta only)

theorem refill_fits {fp : Nat} {s00 s : State} (hb : within 33554430 fp = true) (h : Fits fp s00 s)  :
    Fits fp s00 (refill s) := by
  unfold refill
  repeat' first
    | with_reducible assumption
    | with_reducible refine refillHolding_fits (within_trans (by decide) hb) ?_
    | with_reducible refine refillStalled_fits (within_trans (by decide) hb) ?_ _
    | with_reducible refine serveRemote_fits (within_trans (by decide) hb) ?_ _ _ _ _ _
    | with_reducible refine odResume_fits hb ?_ _ (by first | with_reducible assumption | exact fun _ _ _ _ _ _ h => servePost_fits (within_trans (by decide) hb) h _ _ _ _ _ | exact fun _ _ _ _ _ _ h => serveRemote_fits (within_trans (by decide) hb) h _ _ _ _ _)
    | with_reducible refine Fits.ite _ ?_ ?_
    | split
    | extract_lets
    | (dsimp +zetaDelta only)

theorem postedActs_fits {fp : Nat} {s00 s : State} (hb : within 33554430 fp = true) (h : Fits fp s00 s) (p : Posted) :
    Fits fp s00 (postedActs s p) := by
  unfold postedActs
  repeat' first
    | with_reducible assumption
    | with_reducible refine serveRemote_fits (within_trans (by decide) hb) ?_ _ _ _ _ _
    | with_reducible refine applyWrite_fits hb ?_ _ _ _ _ _ (by first | with_reducible assumption | exact fun _ _ _ _ _ _ h => servePost_fits (within_trans (by decide) hb) h _ _ _ _ _ | exact fun _ _ _ _ _ _ h => serveRemote_fits (within_trans (by decide) hb) h _ _ _ _ _)
    | with_reducible refine Fits.ite _ ?_ ?_
    | split
    | extract_lets
    | (dsimp +zetaDelta only)

theorem takeEffect_fits {fp : Nat} {s00 s : State} (hb : within 33554430 fp = true) (h : Fits fp s00 s) (f : Posted → Bool) :
    Fits fp s00 (takeEffect s f) := by
  unfold takeEffect
  repeat' first
    | with_reducible assumption
    | with_reducible refine postedActs_fits hb ?_ _
    | with_reducible refine refill_fits hb ?_
    | with_reducible refine carriedTo_fits (within_trans (by decide) hb) ?_ _ _ _ (fun _ _ => ?_)
    | with_reducible refine State.setHost_fits (within_trans (by decide) hb) ?_ _
    | with_reducible refine Fits.ite _ ?_ ?_
    | split
    | extract_lets
    | (dsimp +zetaDelta only)

theorem effectOf_fits {fp : Nat} {s00 s : State} (hb : within 33554430 fp = true) (h : Fits fp s00 s) (via : Iface) (isl : Nat) :
    Fits fp s00 (effectOf s via isl) := by
  unfold effectOf
  repeat' first
    | with_reducible assumption
    | with_reducible refine takeEffect_fits hb ?_ _
    | with_reducible refine Fits.ite _ ?_ ?_
    | split
    | extract_lets
    | (dsimp +zetaDelta only)

theorem flushIsland_fits {fp : Nat} {s00 s : State} (hb : within 33554430 fp = true) (h : Fits fp s00 s) (isl : Nat) (x0 : Nat) :
    Fits fp s00 (flushIsland s isl x0) := by
  induction x0 generalizing s with
  | zero =>
    unfold flushIsland
    exact h
  | succ n ih =>
    unfold flushIsland
    exact ih (takeEffect_fits hb h _)

theorem settleIsland_fits {fp : Nat} {s00 s : State} (hb : within 33554430 fp = true) (h : Fits fp s00 s) (isl : Nat) :
    Fits fp s00 (settleIsland s isl) := by
  unfold settleIsland
  repeat' first
    | with_reducible assumption
    | with_reducible refine flushIsland_fits hb ?_ _ _
    | with_reducible refine Fits.ite _ ?_ ?_
    | split
    | extract_lets
    | (dsimp +zetaDelta only)

theorem writeNow_fits {fp : Nat} {s00 s : State} (hb : within 33554430 fp = true) (h : Fits fp s00 s) (via : Iface) (index : Nat) (sub : Nat) (d : Datum) :
    Fits fp s00 (writeNow s via index sub d) := by
  unfold writeNow
  repeat' first
    | with_reducible assumption
    | with_reducible refine settleIsland_fits hb ?_ _
    | with_reducible refine hostWrite_fits (within_trans (by decide) hb) ?_ _ _ _ _ _
    | with_reducible refine Fits.ite _ ?_ ?_
    | split
    | extract_lets
    | (dsimp +zetaDelta only)

theorem busRefuse_fits {fp : Nat} {s00 s : State} (hb : within 10 fp = true) (h : Fits fp s00 s) (index : Nat) (sub : Nat) (code : Nat) :
    Fits fp s00 (busRefuse s index sub code) := by
  unfold busRefuse
  repeat' first
    | with_reducible assumption
    | with_reducible refine noteError_fits (within_trans (by decide) hb) ?_ _ _ _ _
    | with_reducible refine State.send_fits (within_trans (by decide) hb) ?_ _
    | with_reducible refine Fits.ite _ ?_ ?_
    | split
    | extract_lets
    | (dsimp +zetaDelta only)

theorem streamSettled_fits {fp : Nat} {s00 s : State} (hb : within 33554430 fp = true) (h : Fits fp s00 s) (index : Nat) (sub : Nat) :
    Fits fp s00 (streamSettled s index sub) := by
  unfold streamSettled
  repeat' first
    | with_reducible assumption
    | with_reducible refine settleIsland_fits hb ?_ _
    | with_reducible refine Fits.ite _ ?_ ?_
    | split
    | extract_lets
    | (dsimp +zetaDelta only)

theorem busPut_fits {fp : Nat} {s00 s : State} (hb : within 33554430 fp = true) (h : Fits fp s00 s) (via : Iface) (index : Nat) (sub : Nat) (d : Datum) :
    Fits fp s00 (busPut s via index sub d).2 := by
  unfold busPut
  repeat' first
    | with_reducible assumption
    | with_reducible refine streamSettled_fits hb ?_ _ _
    | with_reducible refine hostWrite_fits (within_trans (by decide) hb) ?_ _ _ _ _ _
    | with_reducible refine Fits.ite _ ?_ ?_
    | with_reducible refine Fits.ite_snd _ ?_ ?_
    | split
    | extract_lets
    | (dsimp +zetaDelta only)

theorem busRead.busFresh_fits {fp : Nat} {s00 s : State} (hb : within 5771434 fp = true) (h : Fits fp s00 s) (index : Nat) (sub : Nat) (high : Bool) (n : Nat) :
    Fits fp s00 (busRead.busFresh s index sub high n) := by
  unfold busRead.busFresh
  repeat' first
    | with_reducible assumption
    | with_reducible refine busRefuse_fits (within_trans (by decide) hb) ?_ _ _ _
    | with_reducible refine readEntry_fits (within_trans (by decide) hb) ?_ _ _ _
    | with_reducible refine State.send_fits (within_trans (by decide) hb) ?_ _
    | with_reducible refine State.setHost_fits (within_trans (by decide) hb) ?_ _
    | with_reducible refine Fits.ite _ ?_ ?_
    | split
    | extract_lets
    | (dsimp +zetaDelta only)

theorem busRead_fits {fp : Nat} {s00 s0 : State} (hb : within 33554430 fp = true) (h : Fits fp s00 s0) (index : Nat) (sub : Nat) (high : Bool) :
    Fits fp s00 (busRead s0 index sub high) := by
  unfold busRead
  repeat' first
    | with_reducible assumption
    | with_reducible refine busRead.busFresh_fits (within_trans (by decide) hb) ?_ _ _ _ _
    | with_reducible refine streamSettled_fits hb ?_ _ _
    | with_reducible refine busRefuse_fits (within_trans (by decide) hb) ?_ _ _ _
    | with_reducible refine State.send_fits (within_trans (by decide) hb) ?_ _
    | with_reducible refine Fits.ite _ ?_ ?_
    | split
    | extract_lets
    | (dsimp +zetaDelta only)

theorem dropHeld_fits {fp : Nat} {s00 s : State} (hb : within 4194306 fp = true) (h : Fits fp s00 s) (k : Nat) :
    Fits fp s00 (dropHeld s k) := by
  unfold dropHeld
  repeat' first
    | with_reducible assumption
    | with_reducible refine noteError_fits (within_trans (by decide) hb) ?_ _ _ _ _
    | with_reducible refine State.setHost_fits (within_trans (by decide) hb) ?_ _
    | with_reducible refine Fits.ite _ ?_ ?_
    | split
    | extract_lets
    | (dsimp +zetaDelta only)

theorem busWriteLow_fits {fp : Nat} {s00 s : State} (hb : within 33554430 fp = true) (h : Fits fp s00 s) (index : Nat) (sub : Nat) (hd : Nat) :
    Fits fp s00 (busWriteLow s index sub hd) := by
  unfold busWriteLow
  repeat' first
    | with_reducible assumption
    | with_reducible refine dropHeld_fits (within_trans (by decide) hb) ?_ _
    | with_reducible refine busPut_fits hb ?_ _ _ _ _
    | with_reducible refine refuseWrite_fits (within_trans (by decide) hb) ?_ _ _ _ _
    | with_reducible refine State.setHost_fits (within_trans (by decide) hb) ?_ _
    | with_reducible refine Fits.ite _ ?_ ?_
    | split
    | extract_lets
    | (dsimp +zetaDelta only)

theorem busWriteHigh_fits {fp : Nat} {s00 s : State} (hb : within 33554430 fp = true) (h : Fits fp s00 s) (index : Nat) (sub : Nat) (hd : Nat) :
    Fits fp s00 (busWriteHigh s index sub hd) := by
  unfold busWriteHigh
  repeat' first
    | with_reducible assumption
    | with_reducible refine dropHeld_fits (within_trans (by decide) hb) ?_ _
    | with_reducible refine busPut_fits hb ?_ _ _ _ _
    | with_reducible refine refuseWrite_fits (within_trans (by decide) hb) ?_ _ _ _ _
    | with_reducible refine State.setHost_fits (within_trans (by decide) hb) ?_ _
    | with_reducible refine Fits.ite _ ?_ ?_
    | split
    | extract_lets
    | (dsimp +zetaDelta only)

theorem spiRead_fits {fp : Nat} {s00 s0 : State} (hb : within 33554430 fp = true) (h : Fits fp s00 s0) (index : Nat) (sub : Nat) (n : Nat) :
    Fits fp s00 (spiRead s0 index sub n) := by
  unfold spiRead
  repeat' first
    | with_reducible assumption
    | with_reducible refine streamSettled_fits hb ?_ _ _
    | with_reducible refine streamRead_fits (within_trans (by decide) hb) ?_ _ _
    | with_reducible refine readBase_fits (within_trans (by decide) hb) ?_ _ _ _
    | with_reducible refine noteError_fits (within_trans (by decide) hb) ?_ _ _ _ _
    | with_reducible refine State.send_fits (within_trans (by decide) hb) ?_ _
    | with_reducible refine Fits.ite _ ?_ ?_
    | split
    | extract_lets
    | (dsimp +zetaDelta only)

theorem spiWrite_fits {fp : Nat} {s00 s : State} (hb : within 33554430 fp = true) (h : Fits fp s00 s) (index : Nat) (sub : Nat) (d : Datum) :
    Fits fp s00 (spiWrite s index sub d) := by
  unfold spiWrite
  repeat' first
    | with_reducible assumption
    | with_reducible refine busPut_fits hb ?_ _ _ _ _
    | with_reducible refine State.send_fits (within_trans (by decide) hb) ?_ _
    | with_reducible refine Fits.ite _ ?_ ?_
    | split
    | extract_lets
    | (dsimp +zetaDelta only)

theorem spiStatusFrame_fits {fp : Nat} {s00 s : State} (hb : within 8 fp = true) (h : Fits fp s00 s) (n : Nat) :
    Fits fp s00 (spiStatusFrame s n) := by
  unfold spiStatusFrame
  repeat' first
    | with_reducible assumption
    | with_reducible refine State.send_fits hb ?_ _
    | with_reducible refine Fits.ite _ ?_ ?_
    | split
    | extract_lets
    | (dsimp +zetaDelta only)

theorem spiInvalid_fits {fp : Nat} {s00 s : State} (hb : within 10 fp = true) (h : Fits fp s00 s) (index : Nat) (sub : Nat) :
    Fits fp s00 (spiInvalid s index sub) := by
  unfold spiInvalid
  repeat' first
    | with_reducible assumption
    | with_reducible refine noteError_fits (within_trans (by decide) hb) ?_ _ _ _ _
    | with_reducible refine State.send_fits (within_trans (by decide) hb) ?_ _
    | with_reducible refine Fits.ite _ ?_ ?_
    | split
    | extract_lets
    | (dsimp +zetaDelta only)

theorem streamDo_fits {fp : Nat} {s00 s : State} (hb : within 33554430 fp = true) (h : Fits fp s00 s) (spi : Bool) (v : Nat) :
    Fits fp s00 (streamDo s spi v) := by
  unfold streamDo
  repeat' first
    | with_reducible assumption
    | with_reducible refine busPut_fits hb ?_ _ _ _ _
    | with_reducible refine Fits.ite _ ?_ ?_
    | split
    | extract_lets
    | (dsimp +zetaDelta only)

theorem streamGet_fits {fp : Nat} {s00 s : State} (hb : within 33554430 fp = true) (h : Fits fp s00 s) (spi : Bool) (n : Nat) :
    Fits fp s00 (streamGet s spi n) := by
  unfold streamGet
  repeat' first
    | with_reducible assumption
    | with_reducible refine spiRead_fits hb ?_ _ _ _
    | with_reducible refine busRead_fits hb ?_ _ _ _
    | with_reducible refine Fits.ite _ ?_ ?_
    | split
    | extract_lets
    | (dsimp +zetaDelta only)

theorem streamPut_fits {fp : Nat} {s00 s : State} (hb : within 33554430 fp = true) (h : Fits fp s00 s) (spi : Bool) (d : Datum) :
    Fits fp s00 (streamPut s spi d) := by
  unfold streamPut
  repeat' first
    | with_reducible assumption
    | with_reducible refine spiWrite_fits hb ?_ _ _ _
    | with_reducible refine busWriteLow_fits hb ?_ _ _ _
    | with_reducible refine Fits.ite _ ?_ ?_
    | split
    | extract_lets
    | (dsimp +zetaDelta only)

theorem answerRead_fits {fp : Nat} {s00 s : State} (hb : within 5771434 fp = true) (h : Fits fp s00 s) (via : Iface) (index : Nat) (sub : Nat) :
    Fits fp s00 (answerRead s via index sub) := by
  unfold answerRead
  repeat' first
    | with_reducible assumption
    | with_reducible refine readEntry_fits (within_trans (by decide) hb) ?_ _ _ _
    | with_reducible refine noteError_fits (within_trans (by decide) hb) ?_ _ _ _ _
    | with_reducible refine State.send_fits (within_trans (by decide) hb) ?_ _
    | with_reducible refine Fits.ite _ ?_ ?_
    | split
    | extract_lets
    | (dsimp +zetaDelta only)

end Sys2Proof.Machine
end

