-- ==== Sys2Proof/Laws/FitsCan.lean ====
section
/-! SUPPORT. What each operation of Machine/Can.lean may touch, and the invariants that it keeps. -/

set_option linter.unusedSimpArgs false
set_option linter.unusedVariables false

namespace Sys2Proof.Machine

theorem bootUp_fits {fp : Nat} {s00 s : State} (hb : within 8 fp = true) (h : Fits fp s00 s)  :
    Fits fp s00 (bootUp s) := by
  unfold bootUp
  repeat' first
    | with_reducible assumption
    | with_reducible refine State.send_fits hb ?_ _
    | with_reducible refine Fits.ite _ ?_ ?_
    | split
    | extract_lets
    | (dsimp +zetaDelta only)

theorem resetCommunication_fits {fp : Nat} {s00 s : State} (hb : within 6291464 fp = true) (h : Fits fp s00 s)  :
    Fits fp s00 (resetCommunication s) := by
  unfold resetCommunication
  repeat' first
    | with_reducible assumption
    | with_reducible refine bootUp_fits (within_trans (by decide) hb) ?_
    | with_reducible refine State.setHost_fits (within_trans (by decide) hb) ?_ _
    | with_reducible refine State.setCan_fits (within_trans (by decide) hb) ?_ _
    | with_reducible refine Fits.ite _ ?_ ?_
    | split
    | extract_lets
    | (dsimp +zetaDelta only)

theorem nmtGo_fits {fp : Nat} {s00 s : State} (hb : within 2097152 fp = true) (h : Fits fp s00 s) (node : Nat) (st : Nat) :
    Fits fp s00 (nmtGo s node st) := by
  unfold nmtGo
  repeat' first
    | with_reducible assumption
    | with_reducible refine State.setCan_fits hb ?_ _
    | with_reducible refine Fits.ite _ ?_ ?_
    | split
    | extract_lets
    | (dsimp +zetaDelta only)

theorem nmtResetComm_fits {fp : Nat} {s00 s : State} (hb : within 6291464 fp = true) (h : Fits fp s00 s) (node : Nat) :
    Fits fp s00 (nmtResetComm s node) := by
  unfold nmtResetComm
  repeat' first
    | with_reducible assumption
    | with_reducible refine resetCommunication_fits hb ?_
    | with_reducible refine Fits.ite _ ?_ ?_
    | split
    | extract_lets
    | (dsimp +zetaDelta only)

theorem nmtResetNode_fits {fp : Nat} {s00 s : State} (hb : within 23068680 fp = true) (h : Fits fp s00 s) (node : Nat) :
    Fits fp s00 (nmtResetNode s node) := by
  unfold nmtResetNode
  repeat' first
    | with_reducible assumption
    | with_reducible refine resetCommunication_fits (within_trans (by decide) hb) ?_
    | with_reducible refine State.resetDue_fits (within_trans (by decide) hb) ?_ _
    | with_reducible refine Fits.ite _ ?_ ?_
    | split
    | extract_lets
    | (dsimp +zetaDelta only)

theorem lssSend_fits {fp : Nat} {s00 s : State} (hb : within 8 fp = true) (h : Fits fp s00 s) (cs : Nat) (v : Nat) :
    Fits fp s00 (lssSend s cs v) := by
  unfold lssSend
  repeat' first
    | with_reducible assumption
    | with_reducible refine State.send_fits hb ?_ _
    | with_reducible refine Fits.ite _ ?_ ?_
    | split
    | extract_lets
    | (dsimp +zetaDelta only)

theorem lssJournal_fits {fp : Nat} {s00 s : State} (hb : within 524288 fp = true) (h : Fits fp s00 s) (sub : Nat) (old : Nat) (new : Nat) :
    Fits fp s00 (lssJournal s sub old new) := by
  unfold lssJournal
  repeat' first
    | with_reducible assumption
    | with_reducible refine journalWrite_fits hb ?_ _ _ _ _ _
    | with_reducible refine Fits.ite _ ?_ ?_
    | split
    | extract_lets
    | (dsimp +zetaDelta only)

theorem lssGlobal_fits {fp : Nat} {s00 s : State} (hb : within 6291464 fp = true) (h : Fits fp s00 s) (conf : Bool) :
    Fits fp s00 (lssGlobal s conf) := by
  unfold lssGlobal
  repeat' first
    | with_reducible assumption
    | with_reducible refine resetCommunication_fits hb ?_
    | with_reducible refine State.setCan_fits (within_trans (by decide) hb) ?_ _
    | with_reducible refine Fits.ite _ ?_ ?_
    | split
    | extract_lets
    | (dsimp +zetaDelta only)

theorem lssSelective_fits {fp : Nat} {s00 s : State} (hb : within 2097160 fp = true) (h : Fits fp s00 s) (vendor : Nat) (product : Nat) (revision : Nat) (serial : Nat) :
    Fits fp s00 (lssSelective s vendor product revision serial) := by
  unfold lssSelective
  repeat' first
    | with_reducible assumption
    | with_reducible refine lssSend_fits (within_trans (by decide) hb) ?_ _ _
    | with_reducible refine State.setCan_fits (within_trans (by decide) hb) ?_ _
    | with_reducible refine Fits.ite _ ?_ ?_
    | split
    | extract_lets
    | (dsimp +zetaDelta only)

theorem lssNode_fits {fp : Nat} {s00 s : State} (hb : within 2621448 fp = true) (h : Fits fp s00 s) (node : Nat) :
    Fits fp s00 (lssNode s node) := by
  unfold lssNode
  repeat' first
    | with_reducible assumption
    | with_reducible refine lssJournal_fits (within_trans (by decide) hb) ?_ _ _ _
    | with_reducible refine lssSend_fits (within_trans (by decide) hb) ?_ _ _
    | with_reducible refine State.setCan_fits (within_trans (by decide) hb) ?_ _
    | with_reducible refine Fits.ite _ ?_ ?_
    | split
    | extract_lets
    | (dsimp +zetaDelta only)

theorem lssTiming_fits {fp : Nat} {s00 s : State} (hb : within 2621448 fp = true) (h : Fits fp s00 s) (selector : Nat) (rate : Nat) :
    Fits fp s00 (lssTiming s selector rate) := by
  unfold lssTiming
  repeat' first
    | with_reducible assumption
    | with_reducible refine lssJournal_fits (within_trans (by decide) hb) ?_ _ _ _
    | with_reducible refine lssSend_fits (within_trans (by decide) hb) ?_ _ _
    | with_reducible refine State.setCan_fits (within_trans (by decide) hb) ?_ _
    | with_reducible refine Fits.ite _ ?_ ?_
    | split
    | extract_lets
    | (dsimp +zetaDelta only)

theorem lssActivate_fits {fp : Nat} {s00 s : State} (hb : within 2097152 fp = true) (h : Fits fp s00 s) (_delay : Nat) :
    Fits fp s00 (lssActivate s _delay) := by
  unfold lssActivate
  repeat' first
    | with_reducible assumption
    | with_reducible refine State.setCan_fits hb ?_ _
    | with_reducible refine Fits.ite _ ?_ ?_
    | split
    | extract_lets
    | (dsimp +zetaDelta only)

theorem lssStore_fits {fp : Nat} {s00 s : State} (hb : within 2621448 fp = true) (h : Fits fp s00 s)  :
    Fits fp s00 (lssStore s) := by
  unfold lssStore
  repeat' first
    | with_reducible assumption
    | with_reducible refine lssTiming_fits hb ?_ _ _
    | with_reducible refine lssNode_fits hb ?_ _
    | with_reducible refine lssSend_fits (within_trans (by decide) hb) ?_ _ _
    | with_reducible refine requestStore_fits (within_trans (by decide) hb) ?_
    | with_reducible refine State.devSet_fits (within_trans (by decide) hb) ?_ _ (by first | with_unfolding_all exact fun _ h => h | (intro d hd; simp only [DevOk] at hd ⊢; omega))
    | with_reducible refine Fits.ite _ ?_ ?_
    | split
    | extract_lets
    | (dsimp +zetaDelta only)

theorem lssInquire_fits {fp : Nat} {s00 s : State} (hb : within 8 fp = true) (h : Fits fp s00 s) (what : Nat) :
    Fits fp s00 (lssInquire s what) := by
  unfold lssInquire
  repeat' first
    | with_reducible assumption
    | with_reducible refine lssSend_fits hb ?_ _ _
    | with_reducible refine Fits.ite _ ?_ ?_
    | split
    | extract_lets
    | (dsimp +zetaDelta only)

theorem lssIdentify_fits {fp : Nat} {s00 s : State} (hb : within 8 fp = true) (h : Fits fp s00 s) (vendor : Nat) (product : Nat) (revLo : Nat) (revHi : Nat) (serLo : Nat) (serHi : Nat) :
    Fits fp s00 (lssIdentify s vendor product revLo revHi serLo serHi) := by
  unfold lssIdentify
  repeat' first
    | with_reducible assumption
    | with_reducible refine lssSend_fits hb ?_ _ _
    | with_reducible refine Fits.ite _ ?_ ?_
    | split
    | extract_lets
    | (dsimp +zetaDelta only)

theorem lssIdentifyNone_fits {fp : Nat} {s00 s : State} (hb : within 8 fp = true) (h : Fits fp s00 s)  :
    Fits fp s00 (lssIdentifyNone s) := by
  unfold lssIdentifyNone
  repeat' first
    | with_reducible assumption
    | with_reducible refine lssSend_fits hb ?_ _ _
    | with_reducible refine Fits.ite _ ?_ ?_
    | split
    | extract_lets
    | (dsimp +zetaDelta only)

theorem State.setSdo_fits {fp : Nat} {s00 s : State} (hb : within 2097152 fp = true) (h : Fits fp s00 s) (usdo : Bool) (t : Option Transfer) :
    Fits fp s00 (State.setSdo s usdo t) := by
  unfold State.setSdo
  repeat' first
    | with_reducible assumption
    | with_reducible refine State.setCan_fits hb ?_ _
    | with_reducible refine Fits.ite _ ?_ ?_
    | split
    | extract_lets
    | (dsimp +zetaDelta only)

theorem sdoOver_fits {fp : Nat} {s00 s : State} (hb : within 6291456 fp = true) (h : Fits fp s00 s) (usdo : Bool) :
    Fits fp s00 (sdoOver s usdo) := by
  unfold sdoOver
  repeat' first
    | with_reducible assumption
    | with_reducible refine State.setSdo_fits (within_trans (by decide) hb) ?_ _ _
    | with_reducible refine State.setHost_fits (within_trans (by decide) hb) ?_ _
    | with_reducible refine Fits.ite _ ?_ ?_
    | split
    | extract_lets
    | (dsimp +zetaDelta only)

theorem sdoAbort_fits {fp : Nat} {s00 s : State} (hb : within 6291466 fp = true) (h : Fits fp s00 s) (usdo : Bool) (index : Nat) (sub : Nat) (code : Nat) :
    Fits fp s00 (sdoAbort s usdo index sub code) := by
  unfold sdoAbort
  repeat' first
    | with_reducible assumption
    | with_reducible refine sdoOver_fits (within_trans (by decide) hb) ?_ _
    | with_reducible refine noteError_fits (within_trans (by decide) hb) ?_ _ _ _ _
    | with_reducible refine State.send_fits (within_trans (by decide) hb) ?_ _
    | with_reducible refine Fits.ite _ ?_ ?_
    | split
    | extract_lets
    | (dsimp +zetaDelta only)

theorem sdoOk_fits {fp : Nat} {s00 s : State} (hb : within 8 fp = true) (h : Fits fp s00 s) (usdo : Bool) (index : Nat) (sub : Nat) (d : Datum) :
    Fits fp s00 (sdoOk s usdo index sub d) := by
  unfold sdoOk
  repeat' first
    | with_reducible assumption
    | with_reducible refine State.send_fits hb ?_ _
    | with_reducible refine Fits.ite _ ?_ ?_
    | split
    | extract_lets
    | (dsimp +zetaDelta only)

theorem sdoWrite_fits {fp : Nat} {s00 s : State} (hb : within 6815786 fp = true) (h : Fits fp s00 s) (usdo : Bool) (index : Nat) (sub : Nat) (d : Datum) :
    Fits fp s00 (sdoWrite s usdo index sub d) := by
  unfold sdoWrite
  repeat' first
    | with_reducible assumption
    | with_reducible refine State.setSdo_fits (within_trans (by decide) hb) ?_ _ _
    | with_reducible refine hostWrite_fits (within_trans (by decide) hb) ?_ _ _ _ _ _
    | with_reducible refine State.send_fits (within_trans (by decide) hb) ?_ _
    | with_reducible refine Fits.ite _ ?_ ?_
    | split
    | extract_lets
    | (dsimp +zetaDelta only)

theorem sdoBusy_fits {fp : Nat} {s00 s : State} (hb : within 6291466 fp = true) (h : Fits fp s00 s) (usdo : Bool) (index sub : Nat) (t : State)
    (k : sdoBusy s usdo index sub = some t) : Fits fp s00 t := by
  unfold sdoBusy at k
  split at k
  · cases k
    exact sdoAbort_fits (within_trans (by decide) hb) h _ _ _ _
  · split at k
    · cases k
      exact sdoAbort_fits (within_trans (by decide) hb) h _ _ _ _
    · cases k

theorem sdoDownload_fits {fp : Nat} {s00 s : State} (hb : within 6815786 fp = true) (h : Fits fp s00 s) (usdo : Bool) (index : Nat) (sub : Nat) (x : Xfer) :
    Fits fp s00 (sdoDownload s usdo index sub x) := by
  unfold sdoDownload
  repeat' first
    | with_reducible assumption
    | with_reducible refine sdoWrite_fits hb ?_ _ _ _ _
    | with_reducible refine sdoOk_fits (within_trans (by decide) hb) ?_ _ _ _ _
    | with_reducible refine sdoAbort_fits (within_trans (by decide) hb) ?_ _ _ _ _
    | with_reducible refine State.setSdo_fits (within_trans (by decide) hb) ?_ _ _
    | with_reducible exact sdoBusy_fits (within_trans (by decide) hb) h _ _ _ _ ‹_›
    | with_reducible refine Fits.ite _ ?_ ?_
    | split
    | extract_lets
    | (dsimp +zetaDelta only)

theorem sdoUpload_fits {fp : Nat} {s00 s : State} (hb : within 7868586 fp = true) (h : Fits fp s00 s) (usdo : Bool) (index : Nat) (sub : Nat) (block : Option Nat) :
    Fits fp s00 (sdoUpload s usdo index sub block) := by
  unfold sdoUpload
  repeat' first
    | with_reducible assumption
    | with_reducible refine sdoOk_fits (within_trans (by decide) hb) ?_ _ _ _ _
    | with_reducible refine sdoAbort_fits (within_trans (by decide) hb) ?_ _ _ _ _
    | with_reducible refine State.setSdo_fits (within_trans (by decide) hb) ?_ _ _
    | with_reducible refine readEntry_fits (within_trans (by decide) hb) ?_ _ _ _
    | with_reducible exact sdoBusy_fits (within_trans (by decide) hb) h _ _ _ _ ‹_›
    | with_reducible refine Fits.ite _ ?_ ?_
    | split
    | extract_lets
    | (dsimp +zetaDelta only)

theorem sdoFinish_fits {fp : Nat} {s00 s : State} (hb : within 6815786 fp = true) (h : Fits fp s00 s) (usdo : Bool) (t : Transfer) (d : Datum) :
    Fits fp s00 (sdoFinish s usdo t d) := by
  unfold sdoFinish
  repeat' first
    | with_reducible assumption
    | with_reducible refine sdoWrite_fits hb ?_ _ _ _ _
    | with_reducible refine sdoAbort_fits (within_trans (by decide) hb) ?_ _ _ _ _
    | with_reducible refine Fits.ite _ ?_ ?_
    | split
    | extract_lets
    | (dsimp +zetaDelta only)

theorem segDown_fits {fp : Nat} {s00 s : State} (hb : within 6815786 fp = true) (h : Fits fp s00 s) (usdo : Bool) (t : Transfer) (toggle : Bool) (d : Datum) (last : Bool) :
    Fits fp s00 (segDown s usdo t toggle d last) := by
  unfold segDown
  repeat' first
    | with_reducible assumption
    | with_reducible refine sdoFinish_fits hb ?_ _ _ _
    | with_reducible refine sdoOk_fits (within_trans (by decide) hb) ?_ _ _ _ _
    | with_reducible refine sdoAbort_fits (within_trans (by decide) hb) ?_ _ _ _ _
    | with_reducible refine State.setSdo_fits (within_trans (by decide) hb) ?_ _ _
    | with_reducible refine Fits.ite _ ?_ ?_
    | split
    | extract_lets
    | (dsimp +zetaDelta only)

theorem segUp_fits {fp : Nat} {s00 s : State} (hb : within 6291466 fp = true) (h : Fits fp s00 s) (usdo : Bool) (t : Transfer) (toggle : Bool) :
    Fits fp s00 (segUp s usdo t toggle) := by
  unfold segUp
  repeat' first
    | with_reducible assumption
    | with_reducible refine sdoOk_fits (within_trans (by decide) hb) ?_ _ _ _ _
    | with_reducible refine sdoAbort_fits hb ?_ _ _ _ _
    | with_reducible refine State.setSdo_fits (within_trans (by decide) hb) ?_ _ _
    | with_reducible refine Fits.ite _ ?_ ?_
    | split
    | extract_lets
    | (dsimp +zetaDelta only)

theorem segSub_fits {fp : Nat} {s00 s : State} (hb : within 6291466 fp = true) (h : Fits fp s00 s) (usdo : Bool) (t : Transfer) (seqno : Nat) (d : Datum) (last : Bool) :
    Fits fp s00 (segSub s usdo t seqno d last) := by
  unfold segSub
  repeat' first
    | with_reducible assumption
    | with_reducible refine sdoOk_fits (within_trans (by decide) hb) ?_ _ _ _ _
    | with_reducible refine sdoAbort_fits hb ?_ _ _ _ _
    | with_reducible refine State.setSdo_fits (within_trans (by decide) hb) ?_ _ _
    | with_reducible refine Fits.ite _ ?_ ?_
    | split
    | extract_lets
    | (dsimp +zetaDelta only)

theorem segEnd_fits {fp : Nat} {s00 s : State} (hb : within 6815786 fp = true) (h : Fits fp s00 s) (usdo : Bool) (t : Transfer) (crcOk : Bool) (pad : Nat) :
    Fits fp s00 (segEnd s usdo t crcOk pad) := by
  unfold segEnd
  repeat' first
    | with_reducible assumption
    | with_reducible refine sdoFinish_fits hb ?_ _ _ _
    | with_reducible refine sdoAbort_fits (within_trans (by decide) hb) ?_ _ _ _ _
    | with_reducible refine State.setSdo_fits (within_trans (by decide) hb) ?_ _ _
    | with_reducible refine Fits.ite _ ?_ ?_
    | split
    | extract_lets
    | (dsimp +zetaDelta only)

theorem segAck_fits {fp : Nat} {s00 s : State} (hb : within 6291466 fp = true) (h : Fits fp s00 s) (usdo : Bool) (t : Transfer) (ackseq : Nat) (blksize : Nat) :
    Fits fp s00 (segAck s usdo t ackseq blksize) := by
  unfold segAck
  repeat' first
    | with_reducible assumption
    | with_reducible refine sdoOk_fits (within_trans (by decide) hb) ?_ _ _ _ _
    | with_reducible refine sdoAbort_fits hb ?_ _ _ _ _
    | with_reducible refine State.setSdo_fits (within_trans (by decide) hb) ?_ _ _
    | with_reducible refine Fits.ite _ ?_ ?_
    | split
    | extract_lets
    | (dsimp +zetaDelta only)

theorem sdoSegment_fits {fp : Nat} {s00 s : State} (hb : within 6815786 fp = true) (h : Fits fp s00 s) (usdo : Bool) (seg : Seg) :
    Fits fp s00 (sdoSegment s usdo seg) := by
  unfold sdoSegment
  repeat' first
    | with_reducible assumption
    | with_reducible refine segAck_fits (within_trans (by decide) hb) ?_ _ _ _ _
    | with_reducible refine segEnd_fits hb ?_ _ _ _ _
    | with_reducible refine segSub_fits (within_trans (by decide) hb) ?_ _ _ _ _ _
    | with_reducible refine segUp_fits (within_trans (by decide) hb) ?_ _ _ _
    | with_reducible refine segDown_fits hb ?_ _ _ _ _ _
    | with_reducible refine sdoAbort_fits (within_trans (by decide) hb) ?_ _ _ _ _
    | with_reducible refine sdoOver_fits (within_trans (by decide) hb) ?_ _
    | with_reducible refine Fits.ite _ ?_ ?_
    | split
    | extract_lets
    | (dsimp +zetaDelta only)

theorem sdoTimeout_fits {fp : Nat} {s00 s : State} (hb : within 6291466 fp = true) (h : Fits fp s00 s) (usdo : Bool) :
    Fits fp s00 (sdoTimeout s usdo) := by
  unfold sdoTimeout
  repeat' first
    | with_reducible assumption
    | with_reducible refine sdoAbort_fits hb ?_ _ _ _ _
    | with_reducible refine Fits.ite _ ?_ ?_
    | split
    | extract_lets
    | (dsimp +zetaDelta only)

theorem State.setTpdo_fits {fp : Nat} {s00 s : State} (hb : within 2097152 fp = true) (h : Fits fp s00 s) (p : Nat) (f : Tpdo → Tpdo) :
    Fits fp s00 (State.setTpdo s p f) := by
  unfold State.setTpdo
  repeat' first
    | with_reducible assumption
    | with_reducible refine State.setCan_fits hb ?_ _
    | with_reducible refine Fits.ite _ ?_ ?_
    | split
    | extract_lets
    | (dsimp +zetaDelta only)

theorem tpdoSend_fits {fp : Nat} {s00 s : State} (hb : within 2097160 fp = true) (h : Fits fp s00 s) (p : Nat) (d : Datum) :
    Fits fp s00 (tpdoSend s p d) := by
  unfold tpdoSend
  repeat' first
    | with_reducible assumption
    | with_reducible refine State.setTpdo_fits (within_trans (by decide) hb) ?_ _ _
    | with_reducible refine State.send_fits (within_trans (by decide) hb) ?_ _
    | with_reducible refine Fits.ite _ ?_ ?_
    | split
    | extract_lets
    | (dsimp +zetaDelta only)

theorem tpdoSync_fits {fp : Nat} {s00 s : State} (hb : within 2097154 fp = true) (h : Fits fp s00 s) (p : Nat) :
    Fits fp s00 (tpdoSync s p) := by
  unfold tpdoSync
  repeat' first
    | with_reducible assumption
    | with_reducible refine State.setTpdo_fits (within_trans (by decide) hb) ?_ _ _
    | with_reducible refine State.hist_fits (within_trans (by decide) hb) ?_ _ _
    | with_reducible refine Fits.when ?_ _ _ (fun _ _ => ?_)
    | with_reducible refine Fits.ite _ ?_ ?_
    | split
    | extract_lets
    | (dsimp +zetaDelta only)

theorem syncReceived_fits {fp : Nat} {s00 s : State} (hb : within 2097154 fp = true) (h : Fits fp s00 s) (_counter : Nat) :
    Fits fp s00 (syncReceived s _counter) := by
  unfold syncReceived
  repeat' first
    | with_reducible assumption
    | with_reducible refine tpdoSync_fits hb ?_ _
    | with_reducible refine Fits.many ?_ _ _ (fun _ _ _ => ?_)
    | with_reducible refine Fits.ite _ ?_ ?_
    | split
    | extract_lets
    | (dsimp +zetaDelta only)

theorem tpdoTransmit_fits {fp : Nat} {s00 s : State} (hb : within 2097160 fp = true) (h : Fits fp s00 s) (p : Nat) :
    Fits fp s00 (tpdoTransmit s p) := by
  unfold tpdoTransmit
  repeat' first
    | with_reducible assumption
    | with_reducible refine tpdoSend_fits hb ?_ _ _
    | with_reducible refine Fits.ite _ ?_ ?_
    | split
    | extract_lets
    | (dsimp +zetaDelta only)

theorem tpdoTimer_fits {fp : Nat} {s00 s : State} (hb : within 2097160 fp = true) (h : Fits fp s00 s) (p : Nat) :
    Fits fp s00 (tpdoTimer s p) := by
  unfold tpdoTimer
  repeat' first
    | with_reducible assumption
    | with_reducible refine tpdoSend_fits hb ?_ _ _
    | with_reducible refine Fits.ite _ ?_ ?_
    | split
    | extract_lets
    | (dsimp +zetaDelta only)

theorem rpdoWrites_fits {fp : Nat} {s00 s : State} (hb : within 4718626 fp = true) (h : Fits fp s00 s) (p : Nat) (d : Datum) (x0 : Nat) (x1 : List (Nat × Nat × Nat)) :
    Fits fp s00 (rpdoWrites s p d x0 x1) := by
  induction x1 generalizing s x0 with
  | nil =>
    unfold rpdoWrites
    exact h
  | cons e r ih =>
    unfold rpdoWrites
    exact ih (hostWrite_fits hb h _ _ _ _ _) _

theorem rpdoReceived_fits {fp : Nat} {s00 s : State} (hb : within 4718626 fp = true) (h : Fits fp s00 s) (p : Nat) (d : Datum) :
    Fits fp s00 (rpdoReceived s p d) := by
  unfold rpdoReceived
  repeat' first
    | with_reducible assumption
    | with_reducible refine rpdoWrites_fits hb ?_ _ _ _ _
    | with_reducible refine State.hist_fits (within_trans (by decide) hb) ?_ _ _
    | with_reducible refine Fits.foldl_snd _ (fun _ _ _ => ?_) _ ?_
    | with_reducible refine Fits.foldl _ (fun _ _ _ => ?_) _ ?_
    | with_reducible refine Fits.ite _ ?_ ?_
    | split
    | extract_lets
    | (dsimp +zetaDelta only)

theorem emcyTransmit_fits {fp : Nat} {s00 s : State} (hb : within 3145736 fp = true) (h : Fits fp s00 s)  :
    Fits fp s00 (emcyTransmit s) := by
  unfold emcyTransmit
  repeat' first
    | with_reducible assumption
    | with_reducible refine State.send_fits (within_trans (by decide) hb) ?_ _
    | with_reducible refine State.setCan_fits (within_trans (by decide) hb) ?_ _
    | with_reducible refine State.setCol_fits (within_trans (by decide) hb) ?_ _ (fun _ => by simp only [length_upd, List.length_set, List.length_map])
    | with_reducible refine Fits.ite _ ?_ ?_
    | split
    | extract_lets
    | (dsimp +zetaDelta only)

theorem heartbeat_fits {fp : Nat} {s00 s : State} (hb : within 8 fp = true) (h : Fits fp s00 s)  :
    Fits fp s00 (heartbeat s) := by
  unfold heartbeat
  repeat' first
    | with_reducible assumption
    | with_reducible refine State.send_fits hb ?_ _
    | with_reducible refine Fits.ite _ ?_ ?_
    | split
    | extract_lets
    | (dsimp +zetaDelta only)

theorem canErrors_fits {fp : Nat} {s00 s : State} (hb : within 2097154 fp = true) (h : Fits fp s00 s) (passive : Bool) (busOff : Bool) :
    Fits fp s00 (canErrors s passive busOff) := by
  unfold canErrors
  repeat' first
    | with_reducible assumption
    | with_reducible refine State.setCan_fits (within_trans (by decide) hb) ?_ _
    | with_reducible refine State.hist_fits (within_trans (by decide) hb) ?_ _ _
    | with_reducible refine Fits.when ?_ _ _ (fun _ _ => ?_)
    | with_reducible refine Fits.ite _ ?_ ?_
    | split
    | extract_lets
    | (dsimp +zetaDelta only)

end Sys2Proof.Machine
end

