-- ==== Sys2Proof/Laws/FitsBoot.lean ====
section
/-! SUPPORT. What each operation of Machine/Boot.lean may touch, and the invariants that it keeps. -/

set_option linter.unusedSimpArgs false
set_option linter.unusedVariables false

namespace Sys2Proof.Machine

theorem reset_dict : DictWf State.reset := ⟨by decide +kernel, by decide +kernel⟩

theorem reset_shape : ShapeWf State.reset := by
  constructor <;> first | exact List.length_replicate | rfl

theorem reset_links : LinkBalance State.reset := by
  intro k hk
  have : k = {} := (List.mem_replicate.mp hk).2
  subst this
  exact ⟨⟨by decide, by decide, by decide⟩, ⟨by decide, by decide, by decide⟩⟩

theorem reset_stamps : StampBalance State.reset := by
  intro c hc
  have : c = {} := (List.mem_replicate.mp hc).2
  subst this
  rfl

theorem reset_snap : SnapBalance State.reset := by
  intro n c hc
  have : c = {} := (List.mem_replicate.mp (List.mem_of_getElem? hc)).2
  subst this
  rfl

theorem cause_fits {fp : Nat} {s00 s : State} (hb : within 25165824 fp = true) (h : Fits fp s00 s) (c : Nat) :
    Fits fp s00 (cause s c) := by
  unfold cause
  repeat' first
    | with_reducible assumption
    | with_reducible refine State.resetDue_fits (within_trans (by decide) hb) ?_ _
    | with_reducible refine State.setBoot_fits (within_trans (by decide) hb) ?_ _
    | with_reducible refine Fits.ite _ ?_ ?_
    | split
    | extract_lets
    | (dsimp +zetaDelta only)

theorem rstLow_fits {fp : Nat} {s00 s : State} (hb : within 25165824 fp = true) (h : Fits fp s00 s) (held : Bool) :
    Fits fp s00 (rstLow s held) := by
  unfold rstLow
  repeat' first
    | with_reducible assumption
    | with_reducible refine cause_fits hb ?_ _
    | with_reducible refine State.setBoot_fits (within_trans (by decide) hb) ?_ _
    | with_reducible refine Fits.when ?_ _ _ (fun _ _ => ?_)
    | with_reducible refine Fits.ite _ ?_ ?_
    | split
    | extract_lets
    | (dsimp +zetaDelta only)

theorem tapReset_fits {fp : Nat} {s00 s : State} (hb : within 25165824 fp = true) (h : Fits fp s00 s) (held : Bool) :
    Fits fp s00 (tapReset s held) := by
  unfold tapReset
  repeat' first
    | with_reducible assumption
    | with_reducible refine cause_fits hb ?_ _
    | with_reducible refine State.setBoot_fits (within_trans (by decide) hb) ?_ _
    | with_reducible refine Fits.when ?_ _ _ (fun _ _ => ?_)
    | with_reducible refine Fits.ite _ ?_ ?_
    | split
    | extract_lets
    | (dsimp +zetaDelta only)

theorem supplyChange_fits {fp : Nat} {s00 s : State} (hb : within 25690112 fp = true) (h : Fits fp s00 s) (rail : Nat) (valid : Bool) (coreLost : Bool) (isSealed : Bool) :
    Fits fp s00 (supplyChange s rail valid coreLost isSealed) := by
  unfold supplyChange
  repeat' first
    | with_reducible assumption
    | with_reducible refine cause_fits (within_trans (by decide) hb) ?_ _
    | with_reducible refine nvPowerLoss_fits (within_trans (by decide) hb) ?_ _
    | with_reducible refine pfailRise_fits (within_trans (by decide) hb) ?_
    | with_reducible refine State.setBoot_fits (within_trans (by decide) hb) ?_ _
    | with_reducible refine State.nvSet_fits (within_trans (by decide) hb) ?_ _ (by with_unfolding_all exact fun h => h) (by first | with_unfolding_all exact fun h => h | with_unfolding_all exact fun h => ⟨h.1, fun y hy => Option.some.inj hy ▸ h.1⟩ | with_unfolding_all exact fun h => ⟨h.1, fun _ k => absurd k (by simp)⟩)
    | with_reducible refine Fits.when ?_ _ _ (fun _ _ => ?_)
    | with_reducible refine Fits.ite _ ?_ ?_
    | split
    | extract_lets
    | (dsimp +zetaDelta only)

theorem resetAssert_fits {fp : Nat} {s00 s : State} (hb : within 33554414 fp = true) (h : Fits fp s00 s)  :
    Fits fp s00 (resetAssert s) := by
  unfold resetAssert
  split
  · exact h
  · extract_lets causes keep s1
    have h1 : Fits fp s00 s1 := by
      simp only [s1]
      split
      · exact nvResetEntry_fits (within_trans (by decide) hb) h
      · exact h
    clear_value s1 causes
    exact {
      pending := h.pending
      now := h.now
      od := fun k => absurd (within_bit (i := 1) (within_trans (by decide) hb)) (by simp [k])
      dr := fun k => absurd (within_bit (i := 2) (within_trans (by decide) hb)) (by simp [k])
      out := fun k => absurd (within_bit (i := 3) (within_trans (by decide) hb)) (by simp [k])
      free := h.free
      faultIn := fun k => absurd (within_bit (i := 5) (within_trans (by decide) hb)) (by simp [k])
      link := fun k => absurd (within_bit (i := 6) (within_trans (by decide) hb)) (by simp [k])
      chan := fun k => absurd (within_bit (i := 7) (within_trans (by decide) hb)) (by simp [k])
      tcs := fun k => absurd (within_bit (i := 8) (within_trans (by decide) hb)) (by simp [k])
      cups := fun k => absurd (within_bit (i := 9) (within_trans (by decide) hb)) (by simp [k])
      dp := fun k => absurd (within_bit (i := 10) (within_trans (by decide) hb)) (by simp [k])
      ctxs := fun k => absurd (within_bit (i := 11) (within_trans (by decide) hb)) (by simp [k])
      ptp := fun k => absurd (within_bit (i := 12) (within_trans (by decide) hb)) (by simp [k])
      ap := fun k => absurd (within_bit (i := 13) (within_trans (by decide) hb)) (by simp [k])
      sched := fun k => absurd (within_bit (i := 14) (within_trans (by decide) hb)) (by simp [k])
      engDown := fun k => absurd (within_bit (i := 15) (within_trans (by decide) hb)) (by simp [k])
      eng := fun k => absurd (within_bit (i := 16) (within_trans (by decide) hb)) (by simp [k])
      fab := fun k => absurd (within_bit (i := 17) (within_trans (by decide) hb)) (by simp [k])
      cal := fun k => absurd (within_bit (i := 18) (within_trans (by decide) hb)) (by simp [k])
      nv := fun k => absurd (within_bit (i := 19) (within_trans (by decide) hb)) (by simp [k])
      col := fun k => absurd (within_bit (i := 20) (within_trans (by decide) hb)) (by simp [k])
      can := fun k => absurd (within_bit (i := 21) (within_trans (by decide) hb)) (by simp [k])
      host := fun k => absurd (within_bit (i := 22) (within_trans (by decide) hb)) (by simp [k])
      boot := fun k => absurd (within_bit (i := 23) (within_trans (by decide) hb)) (by simp [k])
      resetReq := fun k => absurd (within_bit (i := 24) (within_trans (by decide) hb)) (by simp [k])
      dict := fun _ => reset_dict
      array := h1.array
      shape := fun _ => { reset_shape with }
      links := fun _ => reset_links
      stamps := fun _ => reset_stamps
      snap := fun _ _ => reset_snap
      writes := h1.writes }

theorem resetRelease_fits {fp : Nat} {s00 s : State} (hb : within 29884418 fp = true) (h : Fits fp s00 s)  :
    Fits fp s00 (resetRelease s) := by
  unfold resetRelease
  repeat' first
    | with_reducible assumption
    | with_reducible refine progStart_fits (within_trans (by decide) hb) ?_ _ _ _
    | with_reducible refine State.resetDue_fits (within_trans (by decide) hb) ?_ _
    | with_reducible refine State.setBoot_fits (within_trans (by decide) hb) ?_ _
    | with_reducible refine State.setHost_fits (within_trans (by decide) hb) ?_ _
    | with_reducible refine State.nvSet_fits (within_trans (by decide) hb) ?_ _ (by with_unfolding_all exact fun h => h) (by first | with_unfolding_all exact fun h => h | with_unfolding_all exact fun h => ⟨h.1, fun y hy => Option.some.inj hy ▸ h.1⟩ | with_unfolding_all exact fun h => ⟨h.1, fun _ k => absurd k (by simp)⟩)
    | with_reducible refine State.put_fits (within_trans (by decide) hb) ?_ _ _
    | with_reducible refine Fits.ite _ ?_ ?_
    | split
    | extract_lets
    | (dsimp +zetaDelta only)

theorem stepEnd_fits {fp : Nat} {s00 s : State} (hb : within 8388610 fp = true) (h : Fits fp s00 s) (i : Nat) :
    Fits fp s00 (stepEnd s i) := by
  unfold stepEnd
  repeat' first
    | with_reducible assumption
    | with_reducible refine progPos_fits (within_trans (by decide) hb) ?_ _ _
    | with_reducible refine State.setBoot_fits (within_trans (by decide) hb) ?_ _
    | with_reducible refine Fits.ite _ ?_ ?_
    | split
    | extract_lets
    | (dsimp +zetaDelta only)

theorem bootRefusal_fits {fp : Nat} {s00 s : State} (hb : within 8388608 fp = true) (h : Fits fp s00 s) (code : Nat) :
    Fits fp s00 (bootRefusal s code) := by
  unfold bootRefusal
  repeat' first
    | with_reducible assumption
    | with_reducible refine State.setBoot_fits hb ?_ _
    | with_reducible refine Fits.ite _ ?_ ?_
    | split
    | extract_lets
    | (dsimp +zetaDelta only)

theorem bootClocks_fits {fp : Nat} {s00 s : State} (hb : within 8389762 fp = true) (h : Fits fp s00 s) (mode : Nat) (nid : Nat) (sosc : Bool) :
    Fits fp s00 (bootClocks s mode nid sosc) := by
  unfold bootClocks
  repeat' first
    | with_reducible assumption
    | with_reducible refine stepEnd_fits (within_trans (by decide) hb) ?_ _
    | with_reducible refine State.setBase_fits (within_trans (by decide) hb) ?_ _
    | with_reducible refine State.setBoot_fits (within_trans (by decide) hb) ?_ _
    | with_reducible refine State.setDp_fits (within_trans (by decide) hb) ?_ _ (fun _ => ⟨by first | rfl | simp only [length_upd, List.length_set, List.length_map], by first | rfl | simp only [length_upd, List.length_set, List.length_map]⟩)
    | with_reducible refine Fits.ite _ ?_ ?_
    | split
    | extract_lets
    | (dsimp +zetaDelta only)

theorem bootRecovery_fits {fp : Nat} {s00 s : State} (hb : within 9175074 fp = true) (h : Fits fp s00 s)  :
    Fits fp s00 (bootRecovery s) := by
  unfold bootRecovery
  repeat' first
    | with_reducible assumption
    | with_reducible refine stepEnd_fits (within_trans (by decide) hb) ?_ _
    | with_reducible refine nvRecover_fits (within_trans (by decide) hb) ?_ _
    | with_reducible refine logDrain_fits (within_trans (by decide) hb) ?_ _
    | with_reducible refine logStage_fits (within_trans (by decide) hb) ?_ _ _
    | with_reducible refine State.devSet_fits (within_trans (by decide) hb) ?_ _ (by first | with_unfolding_all exact fun _ h => h | (intro d hd; simp only [DevOk] at hd ⊢; omega))
    | with_reducible refine State.put_fits (within_trans (by decide) hb) ?_ _ _
    | with_reducible refine Fits.ite _ ?_ ?_
    | split
    | extract_lets
    | (dsimp +zetaDelta only)

theorem takeNode_fits {fp : Nat} {s00 s : State} (hb : within 2097152 fp = true) (h : Fits fp s00 s)  :
    Fits fp s00 (takeNode s) := by
  unfold takeNode
  repeat' first
    | with_reducible assumption
    | with_reducible refine State.setCan_fits hb ?_ _
    | with_reducible refine Fits.ite _ ?_ ?_
    | split
    | extract_lets
    | (dsimp +zetaDelta only)

theorem takeTiming_fits {fp : Nat} {s00 s : State} (hb : within 2097152 fp = true) (h : Fits fp s00 s)  :
    Fits fp s00 (takeTiming s) := by
  unfold takeTiming
  repeat' first
    | with_reducible assumption
    | with_reducible refine State.setCan_fits hb ?_ _
    | with_reducible refine Fits.ite _ ?_ ?_
    | split
    | extract_lets
    | (dsimp +zetaDelta only)

theorem startLoader_fits {fp : Nat} {s00 s : State} (hb : within 11010050 fp = true) (h : Fits fp s00 s)  :
    Fits fp s00 (startLoader s) := by
  unfold startLoader
  repeat' first
    | with_reducible assumption
    | with_reducible refine takeTiming_fits (within_trans (by decide) hb) ?_
    | with_reducible refine takeNode_fits (within_trans (by decide) hb) ?_
    | with_reducible refine progSet_fits (within_trans (by decide) hb) ?_ _ _ _ _ _ _
    | with_reducible refine State.setBoot_fits (within_trans (by decide) hb) ?_ _
    | with_reducible refine State.setCan_fits (within_trans (by decide) hb) ?_ _
    | with_reducible refine State.nvSet_fits (within_trans (by decide) hb) ?_ _ (by with_unfolding_all exact fun h => h) (by first | with_unfolding_all exact fun h => h | with_unfolding_all exact fun h => ⟨h.1, fun y hy => Option.some.inj hy ▸ h.1⟩ | with_unfolding_all exact fun h => ⟨h.1, fun _ k => absurd k (by simp)⟩)
    | with_reducible refine State.put_fits (within_trans (by decide) hb) ?_ _ _
    | with_reducible refine Fits.ite _ ?_ ?_
    | split
    | extract_lets
    | (dsimp +zetaDelta only)

theorem runImage_fits {fp : Nat} {s00 s : State} (hb : within 8388610 fp = true) (h : Fits fp s00 s) (i : Nat) :
    Fits fp s00 (runImage s i) := by
  unfold runImage
  repeat' first
    | with_reducible assumption
    | with_reducible refine stepEnd_fits hb ?_ _
    | with_reducible refine State.put_fits (within_trans (by decide) hb) ?_ _ _
    | with_reducible refine Fits.ite _ ?_ ?_
    | split
    | extract_lets
    | (dsimp +zetaDelta only)

theorem imageRead_fits {fp : Nat} {s00 s : State} (hb : within 524322 fp = true) (h : Fits fp s00 s) (i : Nat) :
    Fits fp s00 (imageRead s i) := by
  unfold imageRead
  repeat' first
    | with_reducible assumption
    | with_reducible refine eccRead_fits hb ?_ _ _
    | with_reducible refine Fits.ite _ ?_ ?_
    | split
    | extract_lets
    | (dsimp +zetaDelta only)

theorem bootFirmware_fits {fp : Nat} {s00 s0 : State} (hb : within 11010082 fp = true) (h : Fits fp s00 s0)  :
    Fits fp s00 (bootFirmware s0) := by
  unfold bootFirmware
  repeat' first
    | with_reducible assumption
    | with_reducible refine imageRead_fits (within_trans (by decide) hb) ?_ _
    | with_reducible refine runImage_fits (within_trans (by decide) hb) ?_ _
    | with_reducible refine startLoader_fits (within_trans (by decide) hb) ?_
    | with_reducible refine State.devSet_fits (within_trans (by decide) hb) ?_ _ (by first | with_unfolding_all exact fun _ h => h | (intro d hd; simp only [DevOk] at hd ⊢; omega))
    | with_reducible refine State.raise_fits (within_trans (by decide) hb) ?_ _ _ _ _
    | with_reducible refine State.hist_fits (within_trans (by decide) hb) ?_ _ _
    | with_reducible refine Fits.ite _ ?_ ?_
    | split
    | extract_lets
    | (dsimp +zetaDelta only)

theorem placeEntry_fits {fp : Nat} {s00 s : State} (hb : within 1050626 fp = true) (h : Fits fp s00 s) (e : Nat × Datum) :
    Fits fp s00 (placeEntry s e).2 := by
  unfold placeEntry
  repeat' first
    | with_reducible assumption
    | with_reducible refine sourceSelect_fits (within_trans (by decide) hb) ?_ _
    | with_reducible refine sourceCfgPut_fits (within_trans (by decide) hb) ?_ _ _
    | with_reducible refine ctxConfig_fits (within_trans (by decide) hb) ?_ _ _
    | with_reducible refine State.put_fits (within_trans (by decide) hb) ?_ _ _
    | with_reducible refine Fits.ite _ ?_ ?_
    | with_reducible refine Fits.ite_snd _ ?_ ?_
    | split
    | extract_lets
    | (dsimp +zetaDelta only)

theorem placeEntries_fits {fp : Nat} {s00 s : State} (hb : within 1050626 fp = true) (h : Fits fp s00 s) (l : List (Nat × Datum)) :
    Fits fp s00 (placeEntries s l).2 := by
  unfold placeEntries
  refine Fits.foldl_snd _ (fun x a k => ?_) l (x := (0, s)) h
  exact placeEntry_fits hb k a

theorem defaultIndex_fits {fp : Nat} {s00 s : State} (hb : within 2050 fp = true) (h : Fits fp s00 s) (index : Nat) :
    Fits fp s00 (defaultIndex s index) := by
  unfold defaultIndex
  extract_lets s1
  have h1 : Fits fp s00 s1 := h.set_od (within_trans (by decide) hb) _ (fun k => filter_wf _ _ k)
  clear_value s1
  split
  · exact State.setCtx_fits (within_trans (by decide) hb) h1 _ _
  · exact h1

theorem checkIndices_fits {fp : Nat} {s00 s : State} (hb : within 2050 fp = true) (h : Fits fp s00 s) (l : List (Nat × Datum)) :
    Fits fp s00 (checkIndices s l).2 := by
  unfold checkIndices
  repeat' first
    | with_reducible assumption
    | with_reducible refine defaultIndex_fits hb ?_ _
    | with_reducible refine Fits.foldl_snd _ (fun _ _ _ => ?_) _ ?_
    | with_reducible refine Fits.foldl _ (fun _ _ _ => ?_) _ ?_
    | with_reducible refine Fits.ite _ ?_ ?_
    | with_reducible refine Fits.ite_snd _ ?_ ?_
    | split
    | extract_lets
    | (dsimp +zetaDelta only)

theorem startBase_fits {fp : Nat} {s00 s : State} (hb : within 162 fp = true) (h : Fits fp s00 s)  :
    Fits fp s00 (startBase s) := by
  unfold startBase
  repeat' first
    | with_reducible assumption
    | with_reducible refine State.setBase_fits (within_trans (by decide) hb) ?_ _
    | with_reducible refine State.raise_fits (within_trans (by decide) hb) ?_ _ _ _ _
    | with_reducible refine State.hist_fits (within_trans (by decide) hb) ?_ _ _
    | with_reducible refine Fits.ite _ ?_ ?_
    | split
    | extract_lets
    | (dsimp +zetaDelta only)

theorem bootRestore_fits {fp : Nat} {s00 s : State} (hb : within 12322978 fp = true) (h : Fits fp s00 s)  :
    Fits fp s00 (bootRestore s) := by
  unfold bootRestore
  repeat' first
    | with_reducible assumption
    | with_reducible refine startBase_fits (within_trans (by decide) hb) ?_
    | with_reducible refine checkIndices_fits (within_trans (by decide) hb) ?_ _
    | with_reducible refine placeEntries_fits (within_trans (by decide) hb) ?_ _
    | with_reducible refine takeTiming_fits (within_trans (by decide) hb) ?_
    | with_reducible refine takeNode_fits (within_trans (by decide) hb) ?_
    | with_reducible refine bootRefusal_fits (within_trans (by decide) hb) ?_ _
    | with_reducible refine stepEnd_fits (within_trans (by decide) hb) ?_ _
    | with_reducible refine calRestore_fits (within_trans (by decide) hb) ?_
    | with_reducible refine State.setBoot_fits (within_trans (by decide) hb) ?_ _
    | with_reducible refine State.nvSet_fits (within_trans (by decide) hb) ?_ _ (by with_unfolding_all exact fun h => h) (by first | with_unfolding_all exact fun h => h | with_unfolding_all exact fun h => ⟨h.1, fun y hy => Option.some.inj hy ▸ h.1⟩ | with_unfolding_all exact fun h => ⟨h.1, fun _ k => absurd k (by simp)⟩)
    | with_reducible refine Fits.ite _ ?_ ?_
    | split
    | extract_lets
    | (dsimp +zetaDelta only)

theorem linksReady_fits {fp : Nat} {s00 s : State} (hb : within 64 fp = true) (h : Fits fp s00 s)  :
    Fits fp s00 (linksReady s) := by
  unfold linksReady
  repeat' first
    | with_reducible assumption
    | with_reducible refine Fits.ite _ ?_ ?_
    | split
    | extract_lets
    | (dsimp +zetaDelta only)
    | with_reducible refine Fits.set_link (within_trans (by decide) hb) ?_ _ (by with_unfolding_all exact fun h => h) (by with_unfolding_all exact fun _ h => h) (by simp only [length_upd, List.length_set, List.length_map, List.length_zipIdx, List.length_cons]) (by simp only [length_upd, List.length_set, List.length_map, List.length_zipIdx, List.length_cons]) (by simp only [length_upd, List.length_set, List.length_map, List.length_zipIdx, List.length_cons])

theorem bootCalibration_fits {fp : Nat} {s00 s : State} (hb : within 8659154 fp = true) (h : Fits fp s00 s)  :
    Fits fp s00 (bootCalibration s) := by
  unfold bootCalibration
  repeat' first
    | with_reducible assumption
    | with_reducible refine linksReady_fits (within_trans (by decide) hb) ?_
    | with_reducible refine stepEnd_fits (within_trans (by decide) hb) ?_ _
    | with_reducible refine bootPass_fits (within_trans (by decide) hb) ?_
    | with_reducible refine State.setAp_fits (within_trans (by decide) hb) ?_ _ (fun _ => ⟨by first | rfl | simp only [length_upd, List.length_set, List.length_map], by first | rfl | simp only [length_upd, List.length_set, List.length_map]⟩)
    | with_reducible refine Fits.ite _ ?_ ?_
    | split
    | extract_lets
    | (dsimp +zetaDelta only)

theorem activate_fits {fp : Nat} {s00 s : State} (hb : within 8912930 fp = true) (h : Fits fp s00 s) (index : Nat) (sub : Nat) (act : State → Nat → State) (hf : ∀ y v, Fits fp s00 y → Fits fp s00 (act y v)) :
    Fits fp s00 (activate s index sub act) := by
  unfold activate
  repeat' first
    | with_reducible assumption
    | with_reducible refine bootRefusal_fits (within_trans (by decide) hb) ?_ _
    | with_reducible refine objectRefuse_fits (within_trans (by decide) hb) ?_ _ _ _ _
    | with_reducible refine State.put_fits (within_trans (by decide) hb) ?_ _ _
    | with_reducible refine hf _ _ ?_
    | with_reducible refine Fits.ite _ ?_ ?_
    | split
    | extract_lets
    | (dsimp +zetaDelta only)

theorem bootChannels_fits {fp : Nat} {s00 s : State} (hb : within 25698982 fp = true) (h : Fits fp s00 s)  :
    Fits fp s00 (bootChannels s) := by
  unfold bootChannels
  repeat' first
    | with_reducible assumption
    | with_reducible refine activate_fits (within_trans (by decide) hb) ?_ _ _ _ (fun _ _ _ => ?_)
    | with_reducible refine stepEnd_fits (within_trans (by decide) hb) ?_ _
    | with_reducible refine safeFollow_fits (within_trans (by decide) hb) ?_
    | with_reducible refine cupFollow_fits (within_trans (by decide) hb) ?_ _
    | with_reducible refine outEnable_fits (within_trans (by decide) hb) ?_ _ _
    | with_reducible refine apllEnable_fits (within_trans (by decide) hb) ?_ _ _
    | with_reducible refine decimRestart_fits (within_trans (by decide) hb) ?_ _
    | with_reducible refine State.put_fits (within_trans (by decide) hb) ?_ _ _
    | with_reducible refine Fits.many ?_ _ _ (fun _ _ _ => ?_)
    | with_reducible refine Fits.ite _ ?_ ?_
    | split
    | extract_lets
    | (dsimp +zetaDelta only)

theorem bootSynthesis_fits {fp : Nat} {s00 s : State} (hb : within 8388610 fp = true) (h : Fits fp s00 s)  :
    Fits fp s00 (bootSynthesis s) := by
  unfold bootSynthesis
  repeat' first
    | with_reducible assumption
    | with_reducible refine stepEnd_fits hb ?_ _
    | with_reducible refine Fits.ite _ ?_ ?_
    | split
    | extract_lets
    | (dsimp +zetaDelta only)

theorem bootFault_fits {fp : Nat} {s00 s : State} (hb : within 1056770 fp = true) (h : Fits fp s00 s)  :
    Fits fp s00 (bootFault s) := by
  unfold bootFault
  repeat' first
    | with_reducible assumption
    | with_reducible refine faultExit_fits hb ?_
    | with_reducible refine exitEmcy_fits (within_trans (by decide) hb) ?_
    | with_reducible refine safeFollow_fits (within_trans (by decide) hb) ?_
    | with_reducible refine State.setCol_fits (within_trans (by decide) hb) ?_ _ (fun _ => by simp only [length_upd, List.length_set, List.length_map])
    | with_reducible refine Fits.ite _ ?_ ?_
    | split
    | extract_lets
    | (dsimp +zetaDelta only)

theorem bootTiming_fits {fp : Nat} {s00 s : State} (hb : within 9063722 fp = true) (h : Fits fp s00 s)  :
    Fits fp s00 (bootTiming s) := by
  unfold bootTiming
  repeat' first
    | with_reducible assumption
    | with_reducible refine activate_fits (within_trans (by decide) hb) ?_ _ _ _ (fun _ _ _ => ?_)
    | with_reducible refine disciplinePut_fits (within_trans (by decide) hb) ?_ _ _
    | with_reducible refine txFollow_fits (within_trans (by decide) hb) ?_ _
    | with_reducible refine fabMode_fits (within_trans (by decide) hb) ?_ _ _
    | with_reducible refine fabContextOn_fits (within_trans (by decide) hb) ?_ _
    | with_reducible refine ptpEnable_fits (within_trans (by decide) hb) ?_ _ _
    | with_reducible refine ctxEnable_fits (within_trans (by decide) hb) ?_ _ _
    | with_reducible refine State.put_fits (within_trans (by decide) hb) ?_ _ _
    | with_reducible refine Fits.many ?_ _ _ (fun _ _ _ => ?_)
    | with_reducible refine Fits.ite _ ?_ ?_
    | split
    | extract_lets
    | (dsimp +zetaDelta only)

theorem bootAlign_fits {fp : Nat} {s00 s : State} (hb : within 8192 fp = true) (h : Fits fp s00 s)  :
    Fits fp s00 (bootAlign s) := by
  unfold bootAlign
  repeat' first
    | with_reducible assumption
    | with_reducible refine alignOne_fits hb ?_ _
    | with_reducible refine Fits.many ?_ _ _ (fun _ _ _ => ?_)
    | with_reducible refine Fits.ite _ ?_ ?_
    | split
    | extract_lets
    | (dsimp +zetaDelta only)

theorem bootDone_fits {fp : Nat} {s00 s : State} (hb : within 12479786 fp = true) (h : Fits fp s00 s)  :
    Fits fp s00 (bootDone s) := by
  unfold bootDone
  repeat' first
    | with_reducible assumption
    | with_reducible refine bootAlign_fits (within_trans (by decide) hb) ?_
    | with_reducible refine bootTiming_fits (within_trans (by decide) hb) ?_
    | with_reducible refine bootFault_fits (within_trans (by decide) hb) ?_
    | with_reducible refine stepEnd_fits (within_trans (by decide) hb) ?_ _
    | with_reducible refine bootUp_fits (within_trans (by decide) hb) ?_
    | with_reducible refine sweepStart_fits (within_trans (by decide) hb) ?_ _ _
    | with_reducible refine requestAddress_fits (within_trans (by decide) hb) ?_
    | with_reducible refine progEnd_fits (within_trans (by decide) hb) ?_ _ _ _
    | with_reducible refine State.setBoot_fits (within_trans (by decide) hb) ?_ _
    | with_reducible refine State.setCan_fits (within_trans (by decide) hb) ?_ _
    | with_reducible refine State.setCal_fits (within_trans (by decide) hb) ?_ _ (fun _ => ⟨by first | rfl | simp only [length_upd, List.length_set, List.length_map], by first | rfl | simp only [length_upd, List.length_set, List.length_map]⟩)
    | with_reducible refine Fits.ite _ ?_ ?_
    | split
    | extract_lets
    | (dsimp +zetaDelta only)

end Sys2Proof.Machine
end

