-- ==== Sys2Proof/Laws/FitsEvents.lean ====
section
/-! SUPPORT. What each operation of Machine/Events.lean may touch, and the invariants that it keeps. -/

set_option linter.unusedSimpArgs false
set_option linter.unusedVariables false

namespace Sys2Proof.Machine

theorem live_fits {fp : Nat} {s00 s : State} (hb : within 0 fp = true) (h : Fits fp s00 s) (f : State → State) (hf : ∀ y, Fits fp s00 y → Fits fp s00 (f y)) :
    Fits fp s00 (live s f) := by
  unfold live
  repeat' first
    | with_reducible assumption
    | with_reducible refine hf _ ?_
    | with_reducible refine Fits.ite _ ?_ ?_
    | split
    | extract_lets
    | (dsimp +zetaDelta only)

theorem timed_fits {fp : Nat} {s00 s : State} (hb : within 0 fp = true) (h : Fits fp s00 s) (f : State → State) (hf : ∀ y, Fits fp s00 y → Fits fp s00 (f y)) :
    Fits fp s00 (timed s f) := by
  unfold timed
  repeat' first
    | with_reducible assumption
    | with_reducible refine hf _ ?_
    | with_reducible refine Fits.ite _ ?_ ?_
    | split
    | extract_lets
    | (dsimp +zetaDelta only)

theorem namedWrite_fits {fp : Nat} {s00 s : State} (hb : within 33554430 fp = true) (h : Fits fp s00 s) (via : Iface) (base : Nat) (count : Nat) (i : Nat) (sub : Nat) (d : Datum) :
    Fits fp s00 (namedWrite s via base count i sub d) := by
  unfold namedWrite
  repeat' first
    | with_reducible assumption
    | with_reducible refine writeNow_fits hb ?_ _ _ _ _
    | with_reducible refine Fits.ite _ ?_ ?_
    | split
    | extract_lets
    | (dsimp +zetaDelta only)

theorem namedCommand_fits {fp : Nat} {s00 s : State} (hb : within 33554430 fp = true) (h : Fits fp s00 s) (via : Iface) (base : Nat) (count : Nat) (i : Nat) (sub : Nat) (code : Nat) :
    Fits fp s00 (namedCommand s via base count i sub code) := by
  unfold namedCommand
  repeat' first
    | with_reducible assumption
    | with_reducible refine namedWrite_fits hb ?_ _ _ _ _ _ _
    | with_reducible refine Fits.ite _ ?_ ?_
    | split
    | extract_lets
    | (dsimp +zetaDelta only)

theorem namedRead_fits {fp : Nat} {s00 s : State} (hb : within 5771434 fp = true) (h : Fits fp s00 s) (via : Iface) (base : Nat) (count : Nat) (i : Nat) (sub : Nat) :
    Fits fp s00 (namedRead s via base count i sub) := by
  unfold namedRead
  repeat' first
    | with_reducible assumption
    | with_reducible refine answerRead_fits hb ?_ _ _ _
    | with_reducible refine Fits.ite _ ?_ ?_
    | split
    | extract_lets
    | (dsimp +zetaDelta only)

theorem objectWrite_fits {fp : Nat} {s00 s : State} (hb : within 33554430 fp = true) (h : Fits fp s00 s) (via : Iface) (index : Nat) (sub : Nat) (d : Datum) :
    Fits fp s00 (objectWrite s via index sub d) := by
  unfold objectWrite
  repeat' first
    | with_reducible assumption
    | with_reducible refine busPut_fits hb ?_ _ _ _ _
    | with_reducible refine hostWrite_fits (within_trans (by decide) hb) ?_ _ _ _ _ _
    | with_reducible refine State.send_fits (within_trans (by decide) hb) ?_ _
    | with_reducible refine Fits.ite _ ?_ ?_
    | split
    | extract_lets
    | (dsimp +zetaDelta only)

theorem sdoServed_fits {fp : Nat} {s00 s : State} (hb : within 6291466 fp = true) (h : Fits fp s00 s) (usdo : Bool) (index : Nat) (sub : Nat) (f : State → State) (hf : ∀ y, Fits fp s00 y → Fits fp s00 (f y)) :
    Fits fp s00 (sdoServed s usdo index sub f) := by
  unfold sdoServed
  repeat' first
    | with_reducible assumption
    | with_reducible refine sdoAbort_fits hb ?_ _ _ _ _
    | with_reducible refine hf _ ?_
    | with_reducible refine Fits.ite _ ?_ ?_
    | split
    | extract_lets
    | (dsimp +zetaDelta only)

theorem sdoSegServed_fits {fp : Nat} {s00 s : State} (hb : within 6815786 fp = true) (h : Fits fp s00 s) (usdo : Bool) (seg : Seg) :
    Fits fp s00 (sdoSegServed s usdo seg) := by
  unfold sdoSegServed
  repeat' first
    | with_reducible assumption
    | with_reducible refine sdoServed_fits (within_trans (by decide) hb) ?_ _ _ _ _ (fun _ _ => ?_)
    | with_reducible refine sdoSegment_fits hb ?_ _ _
    | with_reducible refine Fits.ite _ ?_ ?_
    | split
    | extract_lets
    | (dsimp +zetaDelta only)

theorem pathWord_fits {fp : Nat} {s00 s : State} (hb : within 102 fp = true) (h : Fits fp s00 s) (pos : Nat) (word : Nat) (parity : Bool) (x0 : Path) :
    Fits fp s00 (pathWord s pos word parity x0) := by
  unfold pathWord
  repeat' first
    | with_reducible assumption
    | with_reducible refine hubWord_fits (within_trans (by decide) hb) ?_ _ _ _ _
    | with_reducible refine linkWord_fits hb ?_ _ _ _ _ _
    | with_reducible refine Fits.ite _ ?_ ?_
    | split
    | extract_lets
    | (dsimp +zetaDelta only)

theorem linkReturns_fits {fp : Nat} {s00 s : State} (hb : within 26223334 fp = true) (h : Fits fp s00 s) (l : Nat) :
    Fits fp s00 (linkReturns s l) := by
  unfold linkReturns
  repeat' first
    | with_reducible assumption
    | with_reducible refine reactOwed_fits (within_trans (by decide) hb) ?_
    | with_reducible refine cupsLinkBack_fits (within_trans (by decide) hb) ?_ _
    | with_reducible refine decimRestart_fits (within_trans (by decide) hb) ?_ _
    | with_reducible refine linkTrained_fits (within_trans (by decide) hb) ?_ _
    | with_reducible refine unthrottle_fits (within_trans (by decide) hb) ?_ _
    | with_reducible refine Fits.many ?_ _ _ (fun _ _ _ => ?_)
    | with_reducible refine Fits.ite _ ?_ ?_
    | split
    | extract_lets
    | (dsimp +zetaDelta only)

theorem linkGives_fits {fp : Nat} {s00 s : State} (hb : within 25166566 fp = true) (h : Fits fp s00 s) (l : Nat) :
    Fits fp s00 (linkGives s l) := by
  unfold linkGives
  repeat' first
    | with_reducible assumption
    | with_reducible refine cupsLinkDown_fits (within_trans (by decide) hb) ?_ _
    | with_reducible refine gatesLinkDown_fits (within_trans (by decide) hb) ?_ _
    | with_reducible refine snapAbandon_fits (within_trans (by decide) hb) ?_ _
    | with_reducible refine linkFailed_fits (within_trans (by decide) hb) ?_ _
    | with_reducible refine Fits.ite _ ?_ ?_
    | split
    | extract_lets
    | (dsimp +zetaDelta only)

theorem linkAttempt_fits {fp : Nat} {s00 s : State} (hb : within 26223334 fp = true) (h : Fits fp s00 s) (l : Nat) (ok : Bool) :
    Fits fp s00 (linkAttempt s l ok) := by
  unfold linkAttempt
  repeat' first
    | with_reducible assumption
    | with_reducible refine linkGives_fits (within_trans (by decide) hb) ?_ _
    | with_reducible refine linkReturns_fits hb ?_ _
    | with_reducible refine Fits.ite _ ?_ ?_
    | split
    | extract_lets
    | (dsimp +zetaDelta only)

theorem linkRetryDown_fits {fp : Nat} {s00 s : State} (hb : within 26223334 fp = true) (h : Fits fp s00 s) (l : Nat) (ok : Bool) :
    Fits fp s00 (linkRetryDown s l ok) := by
  unfold linkRetryDown
  repeat' first
    | with_reducible assumption
    | with_reducible refine linkReturns_fits hb ?_ _
    | with_reducible refine Fits.ite _ ?_ ?_
    | split
    | extract_lets
    | (dsimp +zetaDelta only)

theorem mirrorRefresh_fits {fp : Nat} {s00 s : State} (hb : within 230 fp = true) (h : Fits fp s00 s) (index : Nat) :
    Fits fp s00 (mirrorRefresh s index) := by
  unfold mirrorRefresh
  repeat' first
    | with_reducible assumption
    | with_reducible refine calMirror_fits (within_trans (by decide) hb) ?_ _ _
    | with_reducible refine refreshOuts_fits (within_trans (by decide) hb) ?_ _
    | with_reducible refine refreshChan_fits (within_trans (by decide) hb) ?_ _
    | with_reducible refine carried_fits (within_trans (by decide) hb) ?_ _ _ _ _ (fun _ _ => ?_)
    | with_reducible refine State.put_fits (within_trans (by decide) hb) ?_ _ _
    | with_reducible refine Fits.many ?_ _ _ (fun _ _ _ => ?_)
    | with_reducible refine Fits.ite _ ?_ ?_
    | split
    | extract_lets
    | (dsimp +zetaDelta only)

theorem edgeArrives_fits {fp : Nat} {s00 s : State} (hb : within 134 fp = true) (h : Fits fp s00 s) (n : Nat) (falling : Bool) (coarse : Nat) (bin : Nat) (frac : Nat) :
    Fits fp s00 (edgeArrives s n falling coarse bin frac) := by
  unfold edgeArrives
  repeat' first
    | with_reducible assumption
    | with_reducible refine losCleared_fits (within_trans (by decide) hb) ?_ _
    | with_reducible refine channelEdge_fits (within_trans (by decide) hb) ?_ _ _ _ _
    | with_reducible refine Fits.when ?_ _ _ (fun _ _ => ?_)
    | with_reducible refine Fits.ite _ ?_ ?_
    | split
    | extract_lets
    | (dsimp +zetaDelta only)

theorem cupCatchUp_fits {fp : Nat} {s00 s : State} (hb : within 640 fp = true) (h : Fits fp s00 s)  :
    Fits fp s00 (cupCatchUp s) := by
  unfold cupCatchUp
  repeat' first
    | with_reducible assumption
    | with_reducible refine cupTake_fits (within_trans (by decide) hb) ?_ _
    | with_reducible refine Fits.many ?_ _ _ (fun _ _ _ => ?_)
    | with_reducible refine Fits.ite _ ?_ ?_
    | split
    | extract_lets
    | (dsimp +zetaDelta only)
    | with_reducible refine Fits.set_chan (within_trans (by decide) hb) ?_ _ (by with_unfolding_all exact fun h => h) (by with_unfolding_all exact fun _ h => h) (by simp only [length_upd, List.length_set, List.length_map, List.length_zipIdx, List.length_cons]) (by simp only [length_upd, List.length_set, List.length_map, List.length_zipIdx, List.length_cons])

theorem stampTaken_fits {fp : Nat} {s00 s : State} (hb : within 26346218 fp = true) (h : Fits fp s00 s) (n : Nat) (x : Stamp) (replays : Nat) (taken : Bool) :
    Fits fp s00 (stampTaken s n x replays taken) := by
  unfold stampTaken
  repeat' first
    | with_reducible assumption
    | with_reducible refine cupCatchUp_fits (within_trans (by decide) hb) ?_
    | with_reducible refine exportCheck_fits (within_trans (by decide) hb) ?_ _
    | with_reducible refine cupTake_fits (within_trans (by decide) hb) ?_ _
    | with_reducible refine gatesOffer_fits (within_trans (by decide) hb) ?_ _
    | with_reducible refine ingestRing_fits (within_trans (by decide) hb) ?_ _ _ _ _
    | with_reducible refine unthrottle_fits (within_trans (by decide) hb) ?_ _
    | with_reducible refine Fits.ite _ ?_ ?_
    | split
    | extract_lets
    | (dsimp +zetaDelta only)

theorem stampIngest_fits {fp : Nat} {s00 s : State} (hb : within 26346222 fp = true) (h : Fits fp s00 s) (n : Nat) (replays : Nat) (taken : Bool) :
    Fits fp s00 (stampIngest s n replays taken) := by
  unfold stampIngest
  repeat' first
    | with_reducible assumption
    | with_reducible refine stampTaken_fits (within_trans (by decide) hb) ?_ _ _ _ _
    | with_reducible refine carry_fits (within_trans (by decide) hb) ?_ _ _ _ _
    | with_reducible refine throttle_fits (within_trans (by decide) hb) ?_ _
    | with_reducible refine Fits.ite _ ?_ ?_
    | split
    | extract_lets
    | (dsimp +zetaDelta only)
    | with_reducible refine Fits.set_link (within_trans (by decide) hb) ?_ _ (by with_unfolding_all exact fun h => h) (by with_unfolding_all exact fun _ h => h) (by simp only [length_upd, List.length_set, List.length_map, List.length_zipIdx, List.length_cons]) (by simp only [length_upd, List.length_set, List.length_map, List.length_zipIdx, List.length_cons]) (by simp only [length_upd, List.length_set, List.length_map, List.length_zipIdx, List.length_cons])

theorem cupResult_fits {fp : Nat} {s00 s : State} (hb : within 65536 fp = true) (h : Fits fp s00 s) (kind : Nat) (n : Nat) (i : Nat) (f : State → State) (hf : ∀ y, Fits fp s00 y → Fits fp s00 (f y)) :
    Fits fp s00 (cupResult s kind n i f) := by
  unfold cupResult
  repeat' first
    | with_reducible assumption
    | with_reducible refine State.setEng_fits hb ?_ _ (fun _ => by simp only [length_upd, List.length_set, List.length_map])
    | with_reducible refine hf _ ?_
    | with_reducible refine Fits.ite _ ?_ ?_
    | split
    | extract_lets
    | (dsimp +zetaDelta only)

theorem cupHeld_fits {fp : Nat} {s00 s : State} (hb : within 25166498 fp = true) (h : Fits fp s00 s) (h : Nat × Nat × Nat) :
    Fits fp s00 (cupHeld s h) := by
  unfold cupHeld
  repeat' first
    | with_reducible assumption
    | with_reducible refine tdevBlockEnd_fits hb ?_ _ _
    | with_reducible refine mtieStepEnd_fits hb ?_ _ _
    | with_reducible refine driftBinEnd_fits hb ?_ _
    | with_reducible refine freqWindowEnd_fits hb ?_ _
    | with_reducible refine Fits.ite _ ?_ ?_
    | split
    | extract_lets
    | (dsimp +zetaDelta only)

theorem engineBack_fits {fp : Nat} {s00 s : State} (hb : within 25396906 fp = true) (h : Fits fp s00 s) (e : Nat) :
    Fits fp s00 (engineBack s e) := by
  unfold engineBack
  repeat' first
    | with_reducible assumption
    | with_reducible refine cupHeld_fits (within_trans (by decide) hb) ?_ _
    | with_reducible refine askAgain_fits (within_trans (by decide) hb) ?_
    | with_reducible refine engineResume_fits (within_trans (by decide) hb) ?_ _
    | with_reducible refine cupEvaluate_fits (within_trans (by decide) hb) ?_ _
    | with_reducible refine State.setEng_fits (within_trans (by decide) hb) ?_ _ (fun _ => by simp only [length_upd, List.length_set, List.length_map])
    | with_reducible refine Fits.many ?_ _ _ (fun _ _ _ => ?_)
    | with_reducible refine Fits.ite _ ?_ ?_
    | split
    | extract_lets
    | (dsimp +zetaDelta only)

theorem tbChange_fits {fp : Nat} {s00 s : State} (hb : within 25428642 fp = true) (h : Fits fp s00 s)  :
    Fits fp s00 (tbChange s) := by
  unfold tbChange
  repeat' first
    | with_reducible assumption
    | with_reducible refine calTbChange_fits (within_trans (by decide) hb) ?_
    | with_reducible refine cupsTbChange_fits (within_trans (by decide) hb) ?_
    | with_reducible refine gatesTbChange_fits (within_trans (by decide) hb) ?_
    | with_reducible refine Fits.ite _ ?_ ?_
    | split
    | extract_lets
    | (dsimp +zetaDelta only)

theorem soscAbsent_fits {fp : Nat} {s00 s : State} (hb : within 128 fp = true) (h : Fits fp s00 s)  :
    Fits fp s00 (soscAbsent s) := by
  unfold soscAbsent
  repeat' first
    | with_reducible assumption
    | with_reducible refine State.setBase_fits hb ?_ _
    | with_reducible refine Fits.ite _ ?_ ?_
    | split
    | extract_lets
    | (dsimp +zetaDelta only)

theorem soscPresent_fits {fp : Nat} {s00 s : State} (hb : within 128 fp = true) (h : Fits fp s00 s)  :
    Fits fp s00 (soscPresent s) := by
  unfold soscPresent
  repeat' first
    | with_reducible assumption
    | with_reducible refine State.setBase_fits hb ?_ _
    | with_reducible refine Fits.ite _ ?_ ?_
    | split
    | extract_lets
    | (dsimp +zetaDelta only)

theorem tbFallback_fits {fp : Nat} {s00 s : State} (hb : within 25428642 fp = true) (h : Fits fp s00 s)  :
    Fits fp s00 (tbFallback s) := by
  unfold tbFallback
  repeat' first
    | with_reducible assumption
    | with_reducible refine tbChange_fits hb ?_
    | with_reducible refine State.setBase_fits (within_trans (by decide) hb) ?_ _
    | with_reducible refine State.raise_fits (within_trans (by decide) hb) ?_ _ _ _ _
    | with_reducible refine State.hist_fits (within_trans (by decide) hb) ?_ _ _
    | with_reducible refine Fits.ite _ ?_ ?_
    | split
    | extract_lets
    | (dsimp +zetaDelta only)

theorem tbReturn_fits {fp : Nat} {s00 s : State} (hb : within 25428642 fp = true) (h : Fits fp s00 s)  :
    Fits fp s00 (tbReturn s) := by
  unfold tbReturn
  repeat' first
    | with_reducible assumption
    | with_reducible refine tbChange_fits hb ?_
    | with_reducible refine State.setBase_fits (within_trans (by decide) hb) ?_ _
    | with_reducible refine State.hist_fits (within_trans (by decide) hb) ?_ _ _
    | with_reducible refine Fits.ite _ ?_ ?_
    | split
    | extract_lets
    | (dsimp +zetaDelta only)

theorem baseToMxo_fits {fp : Nat} {s00 s : State} (hb : within 9254 fp = true) (h : Fits fp s00 s)  :
    Fits fp s00 (baseToMxo s) := by
  unfold baseToMxo
  repeat' first
    | with_reducible assumption
    | with_reducible refine baseChange_fits hb ?_ _
    | with_reducible refine Fits.ite _ ?_ ?_
    | split
    | extract_lets
    | (dsimp +zetaDelta only)

theorem baseToSosc_fits {fp : Nat} {s00 s : State} (hb : within 9382 fp = true) (h : Fits fp s00 s)  :
    Fits fp s00 (baseToSosc s) := by
  unfold baseToSosc
  repeat' first
    | with_reducible assumption
    | with_reducible refine State.setBase_fits (within_trans (by decide) hb) ?_ _
    | with_reducible refine baseChange_fits (within_trans (by decide) hb) ?_ _
    | with_reducible refine Fits.ite _ ?_ ?_
    | split
    | extract_lets
    | (dsimp +zetaDelta only)

theorem wholeSecondEnd_fits {fp : Nat} {s00 s : State} (hb : within 2180 fp = true) (h : Fits fp s00 s)  :
    Fits fp s00 (wholeSecondEnd s) := by
  unfold wholeSecondEnd
  repeat' first
    | with_reducible assumption
    | with_reducible refine ctxSecond_fits (within_trans (by decide) hb) ?_
    | with_reducible refine rateSecond_fits (within_trans (by decide) hb) ?_
    | with_reducible refine Fits.when ?_ _ _ (fun _ _ => ?_)
    | with_reducible refine Fits.ite _ ?_ ?_
    | split
    | extract_lets
    | (dsimp +zetaDelta only)

theorem dpllUpdate_fits {fp : Nat} {s00 s : State} (hb : within 25324910 fp = true) (h : Fits fp s00 s) (k : Nat) (l : List PhaseSample) :
    Fits fp s00 (dpllUpdate s k l) := by
  unfold dpllUpdate
  repeat' first
    | with_reducible assumption
    | with_reducible refine gradeFollow_fits (within_trans (by decide) hb) ?_
    | with_reducible refine schedPlaced_fits (within_trans (by decide) hb) ?_ _
    | with_reducible refine tieSend_fits (within_trans (by decide) hb) ?_ _
    | with_reducible refine apllUpdate_fits (within_trans (by decide) hb) ?_ _
    | with_reducible refine samplesArrive_fits (within_trans (by decide) hb) ?_ _ _
    | with_reducible refine dpUpdate_fits (within_trans (by decide) hb) ?_ _ _
    | with_reducible refine dpStep7_fits (within_trans (by decide) hb) ?_ _
    | with_reducible refine State.setDpll_fits (within_trans (by decide) hb) ?_ _ _
    | with_reducible refine Fits.ite _ ?_ ?_
    | split
    | extract_lets
    | (dsimp +zetaDelta only)

theorem faultHold_fits {fp : Nat} {s00 s : State} (hb : within 1126 fp = true) (h : Fits fp s00 s) (k : Nat) (on : Bool) :
    Fits fp s00 (faultHold s k on) := by
  unfold faultHold
  repeat' first
    | with_reducible assumption
    | with_reducible refine dpFaultHold_fits hb ?_ _ _
    | with_reducible refine Fits.ite _ ?_ ?_
    | split
    | extract_lets
    | (dsimp +zetaDelta only)

theorem returnHoldEnd_fits {fp : Nat} {s00 s : State} (hb : within 8396804 fp = true) (h : Fits fp s00 s) (j : Nat) :
    Fits fp s00 (returnHoldEnd s j) := by
  unfold returnHoldEnd
  repeat' first
    | with_reducible assumption
    | with_reducible refine alignOne_fits (within_trans (by decide) hb) ?_ _
    | with_reducible refine returnHold_fits (within_trans (by decide) hb) ?_ _
    | with_reducible refine State.setBoot_fits (within_trans (by decide) hb) ?_ _
    | with_reducible refine Fits.many ?_ _ _ (fun _ _ _ => ?_)
    | with_reducible refine Fits.ite _ ?_ ?_
    | split
    | extract_lets
    | (dsimp +zetaDelta only)

theorem lockRelease_fits {fp : Nat} {s00 s : State} (hb : within 65538 fp = true) (h : Fits fp s00 s) (q : Nat) (aborted : Bool) :
    Fits fp s00 (lockRelease s q aborted) := by
  unfold lockRelease
  repeat' first
    | with_reducible assumption
    | with_reducible refine writeBack_fits hb ?_ _
    | with_reducible refine abortOp_fits hb ?_ _
    | with_reducible refine dropLocks_fits hb ?_ _
    | with_reducible refine State.setReq_fits (within_trans (by decide) hb) ?_ _ _
    | with_reducible refine Fits.when ?_ _ _ (fun _ _ => ?_)
    | with_reducible refine Fits.ite _ ?_ ?_
    | split
    | extract_lets
    | (dsimp +zetaDelta only)

theorem pfailDown_fits {fp : Nat} {s00 s : State} (hb : within 524322 fp = true) (h : Fits fp s00 s)  :
    Fits fp s00 (pfailDown s) := by
  unfold pfailDown
  repeat' first
    | with_reducible assumption
    | with_reducible refine pfailFall_fits hb ?_
    | with_reducible refine State.nvSet_fits (within_trans (by decide) hb) ?_ _ (by with_unfolding_all exact fun h => h) (by first | with_unfolding_all exact fun h => h | with_unfolding_all exact fun h => ⟨h.1, fun y hy => Option.some.inj hy ▸ h.1⟩ | with_unfolding_all exact fun h => ⟨h.1, fun _ k => absurd k (by simp)⟩)
    | with_reducible refine Fits.ite _ ?_ ?_
    | split
    | extract_lets
    | (dsimp +zetaDelta only)

theorem pfailUp_fits {fp : Nat} {s00 s : State} (hb : within 524288 fp = true) (h : Fits fp s00 s)  :
    Fits fp s00 (pfailUp s) := by
  unfold pfailUp
  repeat' first
    | with_reducible assumption
    | with_reducible refine pfailRise_fits hb ?_
    | with_reducible refine State.nvSet_fits hb ?_ _ (by with_unfolding_all exact fun h => h) (by first | with_unfolding_all exact fun h => h | with_unfolding_all exact fun h => ⟨h.1, fun y hy => Option.some.inj hy ▸ h.1⟩ | with_unfolding_all exact fun h => ⟨h.1, fun _ k => absurd k (by simp)⟩)
    | with_reducible refine Fits.ite _ ?_ ?_
    | split
    | extract_lets
    | (dsimp +zetaDelta only)

theorem idleTick_fits {fp : Nat} {s00 s : State} (hb : within 155947 fp = true) (h : Fits fp s00 s)  :
    Fits fp s00 (idleTick s) := by
  unfold idleTick
  repeat' first
    | with_reducible assumption
    | with_reducible refine routesOwed_fits (within_trans (by decide) hb) ?_
    | with_reducible refine baseTick_fits (within_trans (by decide) hb) ?_
    | with_reducible refine synthTick_fits (within_trans (by decide) hb) ?_
    | with_reducible refine Fits.ite _ ?_ ?_
    | split
    | extract_lets
    | (dsimp +zetaDelta only)
    | with_reducible refine Fits.set_now (within_trans (by decide) hb) ?_ _

end Sys2Proof.Machine
end

