-- ==== Sys2Proof/Laws/State.lean ====
section
/-! SUPPORT. What each update of the state does to each of its parts, so that no proof unfolds a record update. -/

namespace Sys2Proof.Machine

/-! The dictionary. -/

theorem key_inj {a b i j : Nat} (hi : i < 256) (hj : j < 256) : key a i = key b j ↔ a = b ∧ i = j := by
  change a * 256 + i = b * 256 + j ↔ _
  constructor
  · intro h
    constructor <;> omega
  · rintro ⟨rfl, rfl⟩
    rfl

theorem State.rd_put (s : State) (k j : Key) (v : Nat) : (s.put k v).rd j = if j = k then v else s.rd j := by
  by_cases h : j = k
  · subst h
    simp only [if_true]
    exact storeRd_put_self _ _ _ _
  · simp only [h, if_false]
    exact storeRd_put_other _ _ _ _ h

theorem State.drd_dput (s : State) (k j : Key) (v : Nat) : (s.dput k v).drd j = if j = k then v else s.drd j := by
  by_cases h : j = k
  · subst h
    simp only [if_true]
    exact storeRd_put_self _ _ _ _
  · simp only [h, if_false]
    exact storeRd_put_other _ _ _ _ h

@[simp] theorem State.rd_put_self (s : State) (k : Key) (v : Nat) : (s.put k v).rd k = v := storeRd_put_self _ _ _ _

theorem State.rd_put_ne (s : State) {k j : Key} (v : Nat) (h : j ≠ k) : (s.put k v).rd j = s.rd j := storeRd_put_other _ _ _ _ h

@[simp] theorem State.drd_dput_self (s : State) (k : Key) (v : Nat) : (s.dput k v).drd k = v := storeRd_put_self _ _ _ _

theorem State.drd_dput_ne (s : State) {k j : Key} (v : Nat) (h : j ≠ k) : (s.dput k v).drd j = s.drd j := storeRd_put_other _ _ _ _ h

/-! put. -/

@[simp] theorem State.put_pending (s : State) (k : Key) (v : Nat) : (s.put k v).pending = s.pending := rfl
@[simp] theorem State.put_now (s : State) (k : Key) (v : Nat) : (s.put k v).now = s.now := rfl
@[simp] theorem State.put_dr (s : State) (k : Key) (v : Nat) : (s.put k v).dr = s.dr := rfl
@[simp] theorem State.put_out (s : State) (k : Key) (v : Nat) : (s.put k v).out = s.out := rfl
@[simp] theorem State.put_free (s : State) (k : Key) (v : Nat) : (s.put k v).free = s.free := rfl
@[simp] theorem State.put_faultIn (s : State) (k : Key) (v : Nat) : (s.put k v).faultIn = s.faultIn := rfl
@[simp] theorem State.put_link (s : State) (k : Key) (v : Nat) : (s.put k v).link = s.link := rfl
@[simp] theorem State.put_chan (s : State) (k : Key) (v : Nat) : (s.put k v).chan = s.chan := rfl
@[simp] theorem State.put_tcs (s : State) (k : Key) (v : Nat) : (s.put k v).tcs = s.tcs := rfl
@[simp] theorem State.put_cups (s : State) (k : Key) (v : Nat) : (s.put k v).cups = s.cups := rfl
@[simp] theorem State.put_dp (s : State) (k : Key) (v : Nat) : (s.put k v).dp = s.dp := rfl
@[simp] theorem State.put_ctxs (s : State) (k : Key) (v : Nat) : (s.put k v).ctxs = s.ctxs := rfl
@[simp] theorem State.put_ptp (s : State) (k : Key) (v : Nat) : (s.put k v).ptp = s.ptp := rfl
@[simp] theorem State.put_ap (s : State) (k : Key) (v : Nat) : (s.put k v).ap = s.ap := rfl
@[simp] theorem State.put_sched (s : State) (k : Key) (v : Nat) : (s.put k v).sched = s.sched := rfl
@[simp] theorem State.put_engDown (s : State) (k : Key) (v : Nat) : (s.put k v).engDown = s.engDown := rfl
@[simp] theorem State.put_eng (s : State) (k : Key) (v : Nat) : (s.put k v).eng = s.eng := rfl
@[simp] theorem State.put_fab (s : State) (k : Key) (v : Nat) : (s.put k v).fab = s.fab := rfl
@[simp] theorem State.put_cal (s : State) (k : Key) (v : Nat) : (s.put k v).cal = s.cal := rfl
@[simp] theorem State.put_nv (s : State) (k : Key) (v : Nat) : (s.put k v).nv = s.nv := rfl
@[simp] theorem State.put_col (s : State) (k : Key) (v : Nat) : (s.put k v).col = s.col := rfl
@[simp] theorem State.put_can (s : State) (k : Key) (v : Nat) : (s.put k v).can = s.can := rfl
@[simp] theorem State.put_host (s : State) (k : Key) (v : Nat) : (s.put k v).host = s.host := rfl
@[simp] theorem State.put_boot (s : State) (k : Key) (v : Nat) : (s.put k v).boot = s.boot := rfl
@[simp] theorem State.put_resetReq (s : State) (k : Key) (v : Nat) : (s.put k v).resetReq = s.resetReq := rfl
@[simp] theorem State.put_drd (s : State) (k : Key) (v : Nat) (j : Key) : (s.put k v).drd j = s.drd j := rfl

/-! dput. -/

@[simp] theorem State.dput_pending (s : State) (k : Key) (v : Nat) : (s.dput k v).pending = s.pending := rfl
@[simp] theorem State.dput_now (s : State) (k : Key) (v : Nat) : (s.dput k v).now = s.now := rfl
@[simp] theorem State.dput_od (s : State) (k : Key) (v : Nat) : (s.dput k v).od = s.od := rfl
@[simp] theorem State.dput_out (s : State) (k : Key) (v : Nat) : (s.dput k v).out = s.out := rfl
@[simp] theorem State.dput_free (s : State) (k : Key) (v : Nat) : (s.dput k v).free = s.free := rfl
@[simp] theorem State.dput_faultIn (s : State) (k : Key) (v : Nat) : (s.dput k v).faultIn = s.faultIn := rfl
@[simp] theorem State.dput_link (s : State) (k : Key) (v : Nat) : (s.dput k v).link = s.link := rfl
@[simp] theorem State.dput_chan (s : State) (k : Key) (v : Nat) : (s.dput k v).chan = s.chan := rfl
@[simp] theorem State.dput_tcs (s : State) (k : Key) (v : Nat) : (s.dput k v).tcs = s.tcs := rfl
@[simp] theorem State.dput_cups (s : State) (k : Key) (v : Nat) : (s.dput k v).cups = s.cups := rfl
@[simp] theorem State.dput_dp (s : State) (k : Key) (v : Nat) : (s.dput k v).dp = s.dp := rfl
@[simp] theorem State.dput_ctxs (s : State) (k : Key) (v : Nat) : (s.dput k v).ctxs = s.ctxs := rfl
@[simp] theorem State.dput_ptp (s : State) (k : Key) (v : Nat) : (s.dput k v).ptp = s.ptp := rfl
@[simp] theorem State.dput_ap (s : State) (k : Key) (v : Nat) : (s.dput k v).ap = s.ap := rfl
@[simp] theorem State.dput_sched (s : State) (k : Key) (v : Nat) : (s.dput k v).sched = s.sched := rfl
@[simp] theorem State.dput_engDown (s : State) (k : Key) (v : Nat) : (s.dput k v).engDown = s.engDown := rfl
@[simp] theorem State.dput_eng (s : State) (k : Key) (v : Nat) : (s.dput k v).eng = s.eng := rfl
@[simp] theorem State.dput_fab (s : State) (k : Key) (v : Nat) : (s.dput k v).fab = s.fab := rfl
@[simp] theorem State.dput_cal (s : State) (k : Key) (v : Nat) : (s.dput k v).cal = s.cal := rfl
@[simp] theorem State.dput_nv (s : State) (k : Key) (v : Nat) : (s.dput k v).nv = s.nv := rfl
@[simp] theorem State.dput_col (s : State) (k : Key) (v : Nat) : (s.dput k v).col = s.col := rfl
@[simp] theorem State.dput_can (s : State) (k : Key) (v : Nat) : (s.dput k v).can = s.can := rfl
@[simp] theorem State.dput_host (s : State) (k : Key) (v : Nat) : (s.dput k v).host = s.host := rfl
@[simp] theorem State.dput_boot (s : State) (k : Key) (v : Nat) : (s.dput k v).boot = s.boot := rfl
@[simp] theorem State.dput_resetReq (s : State) (k : Key) (v : Nat) : (s.dput k v).resetReq = s.resetReq := rfl
@[simp] theorem State.dput_rd (s : State) (k : Key) (v : Nat) (j : Key) : (s.dput k v).rd j = s.rd j := rfl

/-! send. -/

@[simp] theorem State.send_pending (s : State) (x : Sent) : (s.send x).pending = s.pending := rfl
@[simp] theorem State.send_now (s : State) (x : Sent) : (s.send x).now = s.now := rfl
@[simp] theorem State.send_od (s : State) (x : Sent) : (s.send x).od = s.od := rfl
@[simp] theorem State.send_dr (s : State) (x : Sent) : (s.send x).dr = s.dr := rfl
@[simp] theorem State.send_out (s : State) (x : Sent) : (s.send x).out = x :: s.out := rfl
@[simp] theorem State.send_free (s : State) (x : Sent) : (s.send x).free = s.free := rfl
@[simp] theorem State.send_faultIn (s : State) (x : Sent) : (s.send x).faultIn = s.faultIn := rfl
@[simp] theorem State.send_link (s : State) (x : Sent) : (s.send x).link = s.link := rfl
@[simp] theorem State.send_chan (s : State) (x : Sent) : (s.send x).chan = s.chan := rfl
@[simp] theorem State.send_tcs (s : State) (x : Sent) : (s.send x).tcs = s.tcs := rfl
@[simp] theorem State.send_cups (s : State) (x : Sent) : (s.send x).cups = s.cups := rfl
@[simp] theorem State.send_dp (s : State) (x : Sent) : (s.send x).dp = s.dp := rfl
@[simp] theorem State.send_ctxs (s : State) (x : Sent) : (s.send x).ctxs = s.ctxs := rfl
@[simp] theorem State.send_ptp (s : State) (x : Sent) : (s.send x).ptp = s.ptp := rfl
@[simp] theorem State.send_ap (s : State) (x : Sent) : (s.send x).ap = s.ap := rfl
@[simp] theorem State.send_sched (s : State) (x : Sent) : (s.send x).sched = s.sched := rfl
@[simp] theorem State.send_engDown (s : State) (x : Sent) : (s.send x).engDown = s.engDown := rfl
@[simp] theorem State.send_eng (s : State) (x : Sent) : (s.send x).eng = s.eng := rfl
@[simp] theorem State.send_fab (s : State) (x : Sent) : (s.send x).fab = s.fab := rfl
@[simp] theorem State.send_cal (s : State) (x : Sent) : (s.send x).cal = s.cal := rfl
@[simp] theorem State.send_nv (s : State) (x : Sent) : (s.send x).nv = s.nv := rfl
@[simp] theorem State.send_col (s : State) (x : Sent) : (s.send x).col = s.col := rfl
@[simp] theorem State.send_can (s : State) (x : Sent) : (s.send x).can = s.can := rfl
@[simp] theorem State.send_host (s : State) (x : Sent) : (s.send x).host = s.host := rfl
@[simp] theorem State.send_boot (s : State) (x : Sent) : (s.send x).boot = s.boot := rfl
@[simp] theorem State.send_resetReq (s : State) (x : Sent) : (s.send x).resetReq = s.resetReq := rfl
@[simp] theorem State.send_rd (s : State) (x : Sent) (j : Key) : (s.send x).rd j = s.rd j := rfl
@[simp] theorem State.send_drd (s : State) (x : Sent) (j : Key) : (s.send x).drd j = s.drd j := rfl

/-! freeNext. -/

@[simp] theorem State.freeNext_pending (s : State) : (s.freeNext).pending = s.pending := rfl
@[simp] theorem State.freeNext_now (s : State) : (s.freeNext).now = s.now := rfl
@[simp] theorem State.freeNext_od (s : State) : (s.freeNext).od = s.od := rfl
@[simp] theorem State.freeNext_dr (s : State) : (s.freeNext).dr = s.dr := rfl
@[simp] theorem State.freeNext_out (s : State) : (s.freeNext).out = s.out := rfl
@[simp] theorem State.freeNext_free (s : State)  : (s.freeNext).free = s.free + 1 := rfl
@[simp] theorem State.freeNext_faultIn (s : State) : (s.freeNext).faultIn = s.faultIn := rfl
@[simp] theorem State.freeNext_link (s : State) : (s.freeNext).link = s.link := rfl
@[simp] theorem State.freeNext_chan (s : State) : (s.freeNext).chan = s.chan := rfl
@[simp] theorem State.freeNext_tcs (s : State) : (s.freeNext).tcs = s.tcs := rfl
@[simp] theorem State.freeNext_cups (s : State) : (s.freeNext).cups = s.cups := rfl
@[simp] theorem State.freeNext_dp (s : State) : (s.freeNext).dp = s.dp := rfl
@[simp] theorem State.freeNext_ctxs (s : State) : (s.freeNext).ctxs = s.ctxs := rfl
@[simp] theorem State.freeNext_ptp (s : State) : (s.freeNext).ptp = s.ptp := rfl
@[simp] theorem State.freeNext_ap (s : State) : (s.freeNext).ap = s.ap := rfl
@[simp] theorem State.freeNext_sched (s : State) : (s.freeNext).sched = s.sched := rfl
@[simp] theorem State.freeNext_engDown (s : State) : (s.freeNext).engDown = s.engDown := rfl
@[simp] theorem State.freeNext_eng (s : State) : (s.freeNext).eng = s.eng := rfl
@[simp] theorem State.freeNext_fab (s : State) : (s.freeNext).fab = s.fab := rfl
@[simp] theorem State.freeNext_cal (s : State) : (s.freeNext).cal = s.cal := rfl
@[simp] theorem State.freeNext_nv (s : State) : (s.freeNext).nv = s.nv := rfl
@[simp] theorem State.freeNext_col (s : State) : (s.freeNext).col = s.col := rfl
@[simp] theorem State.freeNext_can (s : State) : (s.freeNext).can = s.can := rfl
@[simp] theorem State.freeNext_host (s : State) : (s.freeNext).host = s.host := rfl
@[simp] theorem State.freeNext_boot (s : State) : (s.freeNext).boot = s.boot := rfl
@[simp] theorem State.freeNext_resetReq (s : State) : (s.freeNext).resetReq = s.resetReq := rfl
@[simp] theorem State.freeNext_rd (s : State) (j : Key) : (s.freeNext).rd j = s.rd j := rfl
@[simp] theorem State.freeNext_drd (s : State) (j : Key) : (s.freeNext).drd j = s.drd j := rfl

/-! raise. -/

@[simp] theorem State.raise_pending (s : State) (die block kind addr : Nat) : (s.raise die block kind addr).pending = s.pending := rfl
@[simp] theorem State.raise_now (s : State) (die block kind addr : Nat) : (s.raise die block kind addr).now = s.now := rfl
@[simp] theorem State.raise_od (s : State) (die block kind addr : Nat) : (s.raise die block kind addr).od = s.od := rfl
@[simp] theorem State.raise_dr (s : State) (die block kind addr : Nat) : (s.raise die block kind addr).dr = s.dr := rfl
@[simp] theorem State.raise_out (s : State) (die block kind addr : Nat) : (s.raise die block kind addr).out = s.out := rfl
@[simp] theorem State.raise_free (s : State) (die block kind addr : Nat) : (s.raise die block kind addr).free = s.free := rfl
@[simp] theorem State.raise_faultIn (s : State) (die block kind addr : Nat) : (s.raise die block kind addr).faultIn = s.faultIn ++ [⟨faultWord die block kind addr, s.now⟩] := rfl
@[simp] theorem State.raise_link (s : State) (die block kind addr : Nat) : (s.raise die block kind addr).link = s.link := rfl
@[simp] theorem State.raise_chan (s : State) (die block kind addr : Nat) : (s.raise die block kind addr).chan = s.chan := rfl
@[simp] theorem State.raise_tcs (s : State) (die block kind addr : Nat) : (s.raise die block kind addr).tcs = s.tcs := rfl
@[simp] theorem State.raise_cups (s : State) (die block kind addr : Nat) : (s.raise die block kind addr).cups = s.cups := rfl
@[simp] theorem State.raise_dp (s : State) (die block kind addr : Nat) : (s.raise die block kind addr).dp = s.dp := rfl
@[simp] theorem State.raise_ctxs (s : State) (die block kind addr : Nat) : (s.raise die block kind addr).ctxs = s.ctxs := rfl
@[simp] theorem State.raise_ptp (s : State) (die block kind addr : Nat) : (s.raise die block kind addr).ptp = s.ptp := rfl
@[simp] theorem State.raise_ap (s : State) (die block kind addr : Nat) : (s.raise die block kind addr).ap = s.ap := rfl
@[simp] theorem State.raise_sched (s : State) (die block kind addr : Nat) : (s.raise die block kind addr).sched = s.sched := rfl
@[simp] theorem State.raise_engDown (s : State) (die block kind addr : Nat) : (s.raise die block kind addr).engDown = s.engDown := rfl
@[simp] theorem State.raise_eng (s : State) (die block kind addr : Nat) : (s.raise die block kind addr).eng = s.eng := rfl
@[simp] theorem State.raise_fab (s : State) (die block kind addr : Nat) : (s.raise die block kind addr).fab = s.fab := rfl
@[simp] theorem State.raise_cal (s : State) (die block kind addr : Nat) : (s.raise die block kind addr).cal = s.cal := rfl
@[simp] theorem State.raise_nv (s : State) (die block kind addr : Nat) : (s.raise die block kind addr).nv = s.nv := rfl
@[simp] theorem State.raise_col (s : State) (die block kind addr : Nat) : (s.raise die block kind addr).col = s.col := rfl
@[simp] theorem State.raise_can (s : State) (die block kind addr : Nat) : (s.raise die block kind addr).can = s.can := rfl
@[simp] theorem State.raise_host (s : State) (die block kind addr : Nat) : (s.raise die block kind addr).host = s.host := rfl
@[simp] theorem State.raise_boot (s : State) (die block kind addr : Nat) : (s.raise die block kind addr).boot = s.boot := rfl
@[simp] theorem State.raise_resetReq (s : State) (die block kind addr : Nat) : (s.raise die block kind addr).resetReq = s.resetReq := rfl
@[simp] theorem State.raise_rd (s : State) (die block kind addr : Nat) (j : Key) : (s.raise die block kind addr).rd j = s.rd j := rfl
@[simp] theorem State.raise_drd (s : State) (die block kind addr : Nat) (j : Key) : (s.raise die block kind addr).drd j = s.drd j := rfl

/-! setLink. -/

@[simp] theorem State.setLink_pending (s : State) (l : Nat) (f : Link → Link) : (s.setLink l f).pending = s.pending := rfl
@[simp] theorem State.setLink_now (s : State) (l : Nat) (f : Link → Link) : (s.setLink l f).now = s.now := rfl
@[simp] theorem State.setLink_od (s : State) (l : Nat) (f : Link → Link) : (s.setLink l f).od = s.od := rfl
@[simp] theorem State.setLink_dr (s : State) (l : Nat) (f : Link → Link) : (s.setLink l f).dr = s.dr := rfl
@[simp] theorem State.setLink_out (s : State) (l : Nat) (f : Link → Link) : (s.setLink l f).out = s.out := rfl
@[simp] theorem State.setLink_free (s : State) (l : Nat) (f : Link → Link) : (s.setLink l f).free = s.free := rfl
@[simp] theorem State.setLink_faultIn (s : State) (l : Nat) (f : Link → Link) : (s.setLink l f).faultIn = s.faultIn := rfl
@[simp] theorem State.setLink_chan (s : State) (l : Nat) (f : Link → Link) : (s.setLink l f).chan = s.chan := rfl
@[simp] theorem State.setLink_tcs (s : State) (l : Nat) (f : Link → Link) : (s.setLink l f).tcs = s.tcs := rfl
@[simp] theorem State.setLink_cups (s : State) (l : Nat) (f : Link → Link) : (s.setLink l f).cups = s.cups := rfl
@[simp] theorem State.setLink_dp (s : State) (l : Nat) (f : Link → Link) : (s.setLink l f).dp = s.dp := rfl
@[simp] theorem State.setLink_ctxs (s : State) (l : Nat) (f : Link → Link) : (s.setLink l f).ctxs = s.ctxs := rfl
@[simp] theorem State.setLink_ptp (s : State) (l : Nat) (f : Link → Link) : (s.setLink l f).ptp = s.ptp := rfl
@[simp] theorem State.setLink_ap (s : State) (l : Nat) (f : Link → Link) : (s.setLink l f).ap = s.ap := rfl
@[simp] theorem State.setLink_sched (s : State) (l : Nat) (f : Link → Link) : (s.setLink l f).sched = s.sched := rfl
@[simp] theorem State.setLink_engDown (s : State) (l : Nat) (f : Link → Link) : (s.setLink l f).engDown = s.engDown := rfl
@[simp] theorem State.setLink_eng (s : State) (l : Nat) (f : Link → Link) : (s.setLink l f).eng = s.eng := rfl
@[simp] theorem State.setLink_fab (s : State) (l : Nat) (f : Link → Link) : (s.setLink l f).fab = s.fab := rfl
@[simp] theorem State.setLink_cal (s : State) (l : Nat) (f : Link → Link) : (s.setLink l f).cal = s.cal := rfl
@[simp] theorem State.setLink_nv (s : State) (l : Nat) (f : Link → Link) : (s.setLink l f).nv = s.nv := rfl
@[simp] theorem State.setLink_col (s : State) (l : Nat) (f : Link → Link) : (s.setLink l f).col = s.col := rfl
@[simp] theorem State.setLink_can (s : State) (l : Nat) (f : Link → Link) : (s.setLink l f).can = s.can := rfl
@[simp] theorem State.setLink_host (s : State) (l : Nat) (f : Link → Link) : (s.setLink l f).host = s.host := rfl
@[simp] theorem State.setLink_boot (s : State) (l : Nat) (f : Link → Link) : (s.setLink l f).boot = s.boot := rfl
@[simp] theorem State.setLink_resetReq (s : State) (l : Nat) (f : Link → Link) : (s.setLink l f).resetReq = s.resetReq := rfl
@[simp] theorem State.setLink_rd (s : State) (l : Nat) (f : Link → Link) (j : Key) : (s.setLink l f).rd j = s.rd j := rfl
@[simp] theorem State.setLink_drd (s : State) (l : Nat) (f : Link → Link) (j : Key) : (s.setLink l f).drd j = s.drd j := rfl

/-! setHub. -/

@[simp] theorem State.setHub_pending (s : State) (l : Nat) (f : PathDir) : (s.setHub l f).pending = s.pending := rfl
@[simp] theorem State.setHub_now (s : State) (l : Nat) (f : PathDir) : (s.setHub l f).now = s.now := rfl
@[simp] theorem State.setHub_od (s : State) (l : Nat) (f : PathDir) : (s.setHub l f).od = s.od := rfl
@[simp] theorem State.setHub_dr (s : State) (l : Nat) (f : PathDir) : (s.setHub l f).dr = s.dr := rfl
@[simp] theorem State.setHub_out (s : State) (l : Nat) (f : PathDir) : (s.setHub l f).out = s.out := rfl
@[simp] theorem State.setHub_free (s : State) (l : Nat) (f : PathDir) : (s.setHub l f).free = s.free := rfl
@[simp] theorem State.setHub_faultIn (s : State) (l : Nat) (f : PathDir) : (s.setHub l f).faultIn = s.faultIn := rfl
@[simp] theorem State.setHub_chan (s : State) (l : Nat) (f : PathDir) : (s.setHub l f).chan = s.chan := rfl
@[simp] theorem State.setHub_tcs (s : State) (l : Nat) (f : PathDir) : (s.setHub l f).tcs = s.tcs := rfl
@[simp] theorem State.setHub_cups (s : State) (l : Nat) (f : PathDir) : (s.setHub l f).cups = s.cups := rfl
@[simp] theorem State.setHub_dp (s : State) (l : Nat) (f : PathDir) : (s.setHub l f).dp = s.dp := rfl
@[simp] theorem State.setHub_ctxs (s : State) (l : Nat) (f : PathDir) : (s.setHub l f).ctxs = s.ctxs := rfl
@[simp] theorem State.setHub_ptp (s : State) (l : Nat) (f : PathDir) : (s.setHub l f).ptp = s.ptp := rfl
@[simp] theorem State.setHub_ap (s : State) (l : Nat) (f : PathDir) : (s.setHub l f).ap = s.ap := rfl
@[simp] theorem State.setHub_sched (s : State) (l : Nat) (f : PathDir) : (s.setHub l f).sched = s.sched := rfl
@[simp] theorem State.setHub_engDown (s : State) (l : Nat) (f : PathDir) : (s.setHub l f).engDown = s.engDown := rfl
@[simp] theorem State.setHub_eng (s : State) (l : Nat) (f : PathDir) : (s.setHub l f).eng = s.eng := rfl
@[simp] theorem State.setHub_fab (s : State) (l : Nat) (f : PathDir) : (s.setHub l f).fab = s.fab := rfl
@[simp] theorem State.setHub_cal (s : State) (l : Nat) (f : PathDir) : (s.setHub l f).cal = s.cal := rfl
@[simp] theorem State.setHub_nv (s : State) (l : Nat) (f : PathDir) : (s.setHub l f).nv = s.nv := rfl
@[simp] theorem State.setHub_col (s : State) (l : Nat) (f : PathDir) : (s.setHub l f).col = s.col := rfl
@[simp] theorem State.setHub_can (s : State) (l : Nat) (f : PathDir) : (s.setHub l f).can = s.can := rfl
@[simp] theorem State.setHub_host (s : State) (l : Nat) (f : PathDir) : (s.setHub l f).host = s.host := rfl
@[simp] theorem State.setHub_boot (s : State) (l : Nat) (f : PathDir) : (s.setHub l f).boot = s.boot := rfl
@[simp] theorem State.setHub_resetReq (s : State) (l : Nat) (f : PathDir) : (s.setHub l f).resetReq = s.resetReq := rfl
@[simp] theorem State.setHub_rd (s : State) (l : Nat) (f : PathDir) (j : Key) : (s.setHub l f).rd j = s.rd j := rfl
@[simp] theorem State.setHub_drd (s : State) (l : Nat) (f : PathDir) (j : Key) : (s.setHub l f).drd j = s.drd j := rfl

/-! setChan. -/

@[simp] theorem State.setChan_pending (s : State) (n : Nat) (f : Chan → Chan) : (s.setChan n f).pending = s.pending := rfl
@[simp] theorem State.setChan_now (s : State) (n : Nat) (f : Chan → Chan) : (s.setChan n f).now = s.now := rfl
@[simp] theorem State.setChan_od (s : State) (n : Nat) (f : Chan → Chan) : (s.setChan n f).od = s.od := rfl
@[simp] theorem State.setChan_dr (s : State) (n : Nat) (f : Chan → Chan) : (s.setChan n f).dr = s.dr := rfl
@[simp] theorem State.setChan_out (s : State) (n : Nat) (f : Chan → Chan) : (s.setChan n f).out = s.out := rfl
@[simp] theorem State.setChan_free (s : State) (n : Nat) (f : Chan → Chan) : (s.setChan n f).free = s.free := rfl
@[simp] theorem State.setChan_faultIn (s : State) (n : Nat) (f : Chan → Chan) : (s.setChan n f).faultIn = s.faultIn := rfl
@[simp] theorem State.setChan_link (s : State) (n : Nat) (f : Chan → Chan) : (s.setChan n f).link = s.link := rfl
@[simp] theorem State.setChan_tcs (s : State) (n : Nat) (f : Chan → Chan) : (s.setChan n f).tcs = s.tcs := rfl
@[simp] theorem State.setChan_cups (s : State) (n : Nat) (f : Chan → Chan) : (s.setChan n f).cups = s.cups := rfl
@[simp] theorem State.setChan_dp (s : State) (n : Nat) (f : Chan → Chan) : (s.setChan n f).dp = s.dp := rfl
@[simp] theorem State.setChan_ctxs (s : State) (n : Nat) (f : Chan → Chan) : (s.setChan n f).ctxs = s.ctxs := rfl
@[simp] theorem State.setChan_ptp (s : State) (n : Nat) (f : Chan → Chan) : (s.setChan n f).ptp = s.ptp := rfl
@[simp] theorem State.setChan_ap (s : State) (n : Nat) (f : Chan → Chan) : (s.setChan n f).ap = s.ap := rfl
@[simp] theorem State.setChan_sched (s : State) (n : Nat) (f : Chan → Chan) : (s.setChan n f).sched = s.sched := rfl
@[simp] theorem State.setChan_engDown (s : State) (n : Nat) (f : Chan → Chan) : (s.setChan n f).engDown = s.engDown := rfl
@[simp] theorem State.setChan_eng (s : State) (n : Nat) (f : Chan → Chan) : (s.setChan n f).eng = s.eng := rfl
@[simp] theorem State.setChan_fab (s : State) (n : Nat) (f : Chan → Chan) : (s.setChan n f).fab = s.fab := rfl
@[simp] theorem State.setChan_cal (s : State) (n : Nat) (f : Chan → Chan) : (s.setChan n f).cal = s.cal := rfl
@[simp] theorem State.setChan_nv (s : State) (n : Nat) (f : Chan → Chan) : (s.setChan n f).nv = s.nv := rfl
@[simp] theorem State.setChan_col (s : State) (n : Nat) (f : Chan → Chan) : (s.setChan n f).col = s.col := rfl
@[simp] theorem State.setChan_can (s : State) (n : Nat) (f : Chan → Chan) : (s.setChan n f).can = s.can := rfl
@[simp] theorem State.setChan_host (s : State) (n : Nat) (f : Chan → Chan) : (s.setChan n f).host = s.host := rfl
@[simp] theorem State.setChan_boot (s : State) (n : Nat) (f : Chan → Chan) : (s.setChan n f).boot = s.boot := rfl
@[simp] theorem State.setChan_resetReq (s : State) (n : Nat) (f : Chan → Chan) : (s.setChan n f).resetReq = s.resetReq := rfl
@[simp] theorem State.setChan_rd (s : State) (n : Nat) (f : Chan → Chan) (j : Key) : (s.setChan n f).rd j = s.rd j := rfl
@[simp] theorem State.setChan_drd (s : State) (n : Nat) (f : Chan → Chan) (j : Key) : (s.setChan n f).drd j = s.drd j := rfl

/-! setChans. -/

@[simp] theorem State.setChans_pending (s : State) (f : ChanSys → ChanSys) : (s.setChans f).pending = s.pending := rfl
@[simp] theorem State.setChans_now (s : State) (f : ChanSys → ChanSys) : (s.setChans f).now = s.now := rfl
@[simp] theorem State.setChans_od (s : State) (f : ChanSys → ChanSys) : (s.setChans f).od = s.od := rfl
@[simp] theorem State.setChans_dr (s : State) (f : ChanSys → ChanSys) : (s.setChans f).dr = s.dr := rfl
@[simp] theorem State.setChans_out (s : State) (f : ChanSys → ChanSys) : (s.setChans f).out = s.out := rfl
@[simp] theorem State.setChans_free (s : State) (f : ChanSys → ChanSys) : (s.setChans f).free = s.free := rfl
@[simp] theorem State.setChans_faultIn (s : State) (f : ChanSys → ChanSys) : (s.setChans f).faultIn = s.faultIn := rfl
@[simp] theorem State.setChans_link (s : State) (f : ChanSys → ChanSys) : (s.setChans f).link = s.link := rfl
@[simp] theorem State.setChans_chan (s : State) (f : ChanSys → ChanSys) : (s.setChans f).chan = f s.chan := rfl
@[simp] theorem State.setChans_tcs (s : State) (f : ChanSys → ChanSys) : (s.setChans f).tcs = s.tcs := rfl
@[simp] theorem State.setChans_cups (s : State) (f : ChanSys → ChanSys) : (s.setChans f).cups = s.cups := rfl
@[simp] theorem State.setChans_dp (s : State) (f : ChanSys → ChanSys) : (s.setChans f).dp = s.dp := rfl
@[simp] theorem State.setChans_ctxs (s : State) (f : ChanSys → ChanSys) : (s.setChans f).ctxs = s.ctxs := rfl
@[simp] theorem State.setChans_ptp (s : State) (f : ChanSys → ChanSys) : (s.setChans f).ptp = s.ptp := rfl
@[simp] theorem State.setChans_ap (s : State) (f : ChanSys → ChanSys) : (s.setChans f).ap = s.ap := rfl
@[simp] theorem State.setChans_sched (s : State) (f : ChanSys → ChanSys) : (s.setChans f).sched = s.sched := rfl
@[simp] theorem State.setChans_engDown (s : State) (f : ChanSys → ChanSys) : (s.setChans f).engDown = s.engDown := rfl
@[simp] theorem State.setChans_eng (s : State) (f : ChanSys → ChanSys) : (s.setChans f).eng = s.eng := rfl
@[simp] theorem State.setChans_fab (s : State) (f : ChanSys → ChanSys) : (s.setChans f).fab = s.fab := rfl
@[simp] theorem State.setChans_cal (s : State) (f : ChanSys → ChanSys) : (s.setChans f).cal = s.cal := rfl
@[simp] theorem State.setChans_nv (s : State) (f : ChanSys → ChanSys) : (s.setChans f).nv = s.nv := rfl
@[simp] theorem State.setChans_col (s : State) (f : ChanSys → ChanSys) : (s.setChans f).col = s.col := rfl
@[simp] theorem State.setChans_can (s : State) (f : ChanSys → ChanSys) : (s.setChans f).can = s.can := rfl
@[simp] theorem State.setChans_host (s : State) (f : ChanSys → ChanSys) : (s.setChans f).host = s.host := rfl
@[simp] theorem State.setChans_boot (s : State) (f : ChanSys → ChanSys) : (s.setChans f).boot = s.boot := rfl
@[simp] theorem State.setChans_resetReq (s : State) (f : ChanSys → ChanSys) : (s.setChans f).resetReq = s.resetReq := rfl
@[simp] theorem State.setChans_rd (s : State) (f : ChanSys → ChanSys) (j : Key) : (s.setChans f).rd j = s.rd j := rfl
@[simp] theorem State.setChans_drd (s : State) (f : ChanSys → ChanSys) (j : Key) : (s.setChans f).drd j = s.drd j := rfl

/-! setGate. -/

@[simp] theorem State.setGate_pending (s : State) (n : Nat) (f : Gate → Gate) : (s.setGate n f).pending = s.pending := rfl
@[simp] theorem State.setGate_now (s : State) (n : Nat) (f : Gate → Gate) : (s.setGate n f).now = s.now := rfl
@[simp] theorem State.setGate_od (s : State) (n : Nat) (f : Gate → Gate) : (s.setGate n f).od = s.od := rfl
@[simp] theorem State.setGate_dr (s : State) (n : Nat) (f : Gate → Gate) : (s.setGate n f).dr = s.dr := rfl
@[simp] theorem State.setGate_out (s : State) (n : Nat) (f : Gate → Gate) : (s.setGate n f).out = s.out := rfl
@[simp] theorem State.setGate_free (s : State) (n : Nat) (f : Gate → Gate) : (s.setGate n f).free = s.free := rfl
@[simp] theorem State.setGate_faultIn (s : State) (n : Nat) (f : Gate → Gate) : (s.setGate n f).faultIn = s.faultIn := rfl
@[simp] theorem State.setGate_link (s : State) (n : Nat) (f : Gate → Gate) : (s.setGate n f).link = s.link := rfl
@[simp] theorem State.setGate_tcs (s : State) (n : Nat) (f : Gate → Gate) : (s.setGate n f).tcs = s.tcs := rfl
@[simp] theorem State.setGate_cups (s : State) (n : Nat) (f : Gate → Gate) : (s.setGate n f).cups = s.cups := rfl
@[simp] theorem State.setGate_dp (s : State) (n : Nat) (f : Gate → Gate) : (s.setGate n f).dp = s.dp := rfl
@[simp] theorem State.setGate_ctxs (s : State) (n : Nat) (f : Gate → Gate) : (s.setGate n f).ctxs = s.ctxs := rfl
@[simp] theorem State.setGate_ptp (s : State) (n : Nat) (f : Gate → Gate) : (s.setGate n f).ptp = s.ptp := rfl
@[simp] theorem State.setGate_ap (s : State) (n : Nat) (f : Gate → Gate) : (s.setGate n f).ap = s.ap := rfl
@[simp] theorem State.setGate_sched (s : State) (n : Nat) (f : Gate → Gate) : (s.setGate n f).sched = s.sched := rfl
@[simp] theorem State.setGate_engDown (s : State) (n : Nat) (f : Gate → Gate) : (s.setGate n f).engDown = s.engDown := rfl
@[simp] theorem State.setGate_eng (s : State) (n : Nat) (f : Gate → Gate) : (s.setGate n f).eng = s.eng := rfl
@[simp] theorem State.setGate_fab (s : State) (n : Nat) (f : Gate → Gate) : (s.setGate n f).fab = s.fab := rfl
@[simp] theorem State.setGate_cal (s : State) (n : Nat) (f : Gate → Gate) : (s.setGate n f).cal = s.cal := rfl
@[simp] theorem State.setGate_nv (s : State) (n : Nat) (f : Gate → Gate) : (s.setGate n f).nv = s.nv := rfl
@[simp] theorem State.setGate_col (s : State) (n : Nat) (f : Gate → Gate) : (s.setGate n f).col = s.col := rfl
@[simp] theorem State.setGate_can (s : State) (n : Nat) (f : Gate → Gate) : (s.setGate n f).can = s.can := rfl
@[simp] theorem State.setGate_host (s : State) (n : Nat) (f : Gate → Gate) : (s.setGate n f).host = s.host := rfl
@[simp] theorem State.setGate_boot (s : State) (n : Nat) (f : Gate → Gate) : (s.setGate n f).boot = s.boot := rfl
@[simp] theorem State.setGate_resetReq (s : State) (n : Nat) (f : Gate → Gate) : (s.setGate n f).resetReq = s.resetReq := rfl
@[simp] theorem State.setGate_rd (s : State) (n : Nat) (f : Gate → Gate) (j : Key) : (s.setGate n f).rd j = s.rd j := rfl
@[simp] theorem State.setGate_drd (s : State) (n : Nat) (f : Gate → Gate) (j : Key) : (s.setGate n f).drd j = s.drd j := rfl

/-! setBase. -/

@[simp] theorem State.setBase_pending (s : State) (f : TimeBase → TimeBase) : (s.setBase f).pending = s.pending := rfl
@[simp] theorem State.setBase_now (s : State) (f : TimeBase → TimeBase) : (s.setBase f).now = s.now := rfl
@[simp] theorem State.setBase_od (s : State) (f : TimeBase → TimeBase) : (s.setBase f).od = s.od := rfl
@[simp] theorem State.setBase_dr (s : State) (f : TimeBase → TimeBase) : (s.setBase f).dr = s.dr := rfl
@[simp] theorem State.setBase_out (s : State) (f : TimeBase → TimeBase) : (s.setBase f).out = s.out := rfl
@[simp] theorem State.setBase_free (s : State) (f : TimeBase → TimeBase) : (s.setBase f).free = s.free := rfl
@[simp] theorem State.setBase_faultIn (s : State) (f : TimeBase → TimeBase) : (s.setBase f).faultIn = s.faultIn := rfl
@[simp] theorem State.setBase_link (s : State) (f : TimeBase → TimeBase) : (s.setBase f).link = s.link := rfl
@[simp] theorem State.setBase_tcs (s : State) (f : TimeBase → TimeBase) : (s.setBase f).tcs = s.tcs := rfl
@[simp] theorem State.setBase_cups (s : State) (f : TimeBase → TimeBase) : (s.setBase f).cups = s.cups := rfl
@[simp] theorem State.setBase_dp (s : State) (f : TimeBase → TimeBase) : (s.setBase f).dp = s.dp := rfl
@[simp] theorem State.setBase_ctxs (s : State) (f : TimeBase → TimeBase) : (s.setBase f).ctxs = s.ctxs := rfl
@[simp] theorem State.setBase_ptp (s : State) (f : TimeBase → TimeBase) : (s.setBase f).ptp = s.ptp := rfl
@[simp] theorem State.setBase_ap (s : State) (f : TimeBase → TimeBase) : (s.setBase f).ap = s.ap := rfl
@[simp] theorem State.setBase_sched (s : State) (f : TimeBase → TimeBase) : (s.setBase f).sched = s.sched := rfl
@[simp] theorem State.setBase_engDown (s : State) (f : TimeBase → TimeBase) : (s.setBase f).engDown = s.engDown := rfl
@[simp] theorem State.setBase_eng (s : State) (f : TimeBase → TimeBase) : (s.setBase f).eng = s.eng := rfl
@[simp] theorem State.setBase_fab (s : State) (f : TimeBase → TimeBase) : (s.setBase f).fab = s.fab := rfl
@[simp] theorem State.setBase_cal (s : State) (f : TimeBase → TimeBase) : (s.setBase f).cal = s.cal := rfl
@[simp] theorem State.setBase_nv (s : State) (f : TimeBase → TimeBase) : (s.setBase f).nv = s.nv := rfl
@[simp] theorem State.setBase_col (s : State) (f : TimeBase → TimeBase) : (s.setBase f).col = s.col := rfl
@[simp] theorem State.setBase_can (s : State) (f : TimeBase → TimeBase) : (s.setBase f).can = s.can := rfl
@[simp] theorem State.setBase_host (s : State) (f : TimeBase → TimeBase) : (s.setBase f).host = s.host := rfl
@[simp] theorem State.setBase_boot (s : State) (f : TimeBase → TimeBase) : (s.setBase f).boot = s.boot := rfl
@[simp] theorem State.setBase_resetReq (s : State) (f : TimeBase → TimeBase) : (s.setBase f).resetReq = s.resetReq := rfl
@[simp] theorem State.setBase_rd (s : State) (f : TimeBase → TimeBase) (j : Key) : (s.setBase f).rd j = s.rd j := rfl
@[simp] theorem State.setBase_drd (s : State) (f : TimeBase → TimeBase) (j : Key) : (s.setBase f).drd j = s.drd j := rfl

/-! setTc. -/

@[simp] theorem State.setTc_pending (s : State) (t : Nat) (f : Tc → Tc) : (s.setTc t f).pending = s.pending := rfl
@[simp] theorem State.setTc_now (s : State) (t : Nat) (f : Tc → Tc) : (s.setTc t f).now = s.now := rfl
@[simp] theorem State.setTc_od (s : State) (t : Nat) (f : Tc → Tc) : (s.setTc t f).od = s.od := rfl
@[simp] theorem State.setTc_dr (s : State) (t : Nat) (f : Tc → Tc) : (s.setTc t f).dr = s.dr := rfl
@[simp] theorem State.setTc_out (s : State) (t : Nat) (f : Tc → Tc) : (s.setTc t f).out = s.out := rfl
@[simp] theorem State.setTc_free (s : State) (t : Nat) (f : Tc → Tc) : (s.setTc t f).free = s.free := rfl
@[simp] theorem State.setTc_faultIn (s : State) (t : Nat) (f : Tc → Tc) : (s.setTc t f).faultIn = s.faultIn := rfl
@[simp] theorem State.setTc_link (s : State) (t : Nat) (f : Tc → Tc) : (s.setTc t f).link = s.link := rfl
@[simp] theorem State.setTc_chan (s : State) (t : Nat) (f : Tc → Tc) : (s.setTc t f).chan = s.chan := rfl
@[simp] theorem State.setTc_tcs (s : State) (t : Nat) (f : Tc → Tc) : (s.setTc t f).tcs = upd s.tcs t f := rfl
@[simp] theorem State.setTc_cups (s : State) (t : Nat) (f : Tc → Tc) : (s.setTc t f).cups = s.cups := rfl
@[simp] theorem State.setTc_dp (s : State) (t : Nat) (f : Tc → Tc) : (s.setTc t f).dp = s.dp := rfl
@[simp] theorem State.setTc_ctxs (s : State) (t : Nat) (f : Tc → Tc) : (s.setTc t f).ctxs = s.ctxs := rfl
@[simp] theorem State.setTc_ptp (s : State) (t : Nat) (f : Tc → Tc) : (s.setTc t f).ptp = s.ptp := rfl
@[simp] theorem State.setTc_ap (s : State) (t : Nat) (f : Tc → Tc) : (s.setTc t f).ap = s.ap := rfl
@[simp] theorem State.setTc_sched (s : State) (t : Nat) (f : Tc → Tc) : (s.setTc t f).sched = s.sched := rfl
@[simp] theorem State.setTc_engDown (s : State) (t : Nat) (f : Tc → Tc) : (s.setTc t f).engDown = s.engDown := rfl
@[simp] theorem State.setTc_eng (s : State) (t : Nat) (f : Tc → Tc) : (s.setTc t f).eng = s.eng := rfl
@[simp] theorem State.setTc_fab (s : State) (t : Nat) (f : Tc → Tc) : (s.setTc t f).fab = s.fab := rfl
@[simp] theorem State.setTc_cal (s : State) (t : Nat) (f : Tc → Tc) : (s.setTc t f).cal = s.cal := rfl
@[simp] theorem State.setTc_nv (s : State) (t : Nat) (f : Tc → Tc) : (s.setTc t f).nv = s.nv := rfl
@[simp] theorem State.setTc_col (s : State) (t : Nat) (f : Tc → Tc) : (s.setTc t f).col = s.col := rfl
@[simp] theorem State.setTc_can (s : State) (t : Nat) (f : Tc → Tc) : (s.setTc t f).can = s.can := rfl
@[simp] theorem State.setTc_host (s : State) (t : Nat) (f : Tc → Tc) : (s.setTc t f).host = s.host := rfl
@[simp] theorem State.setTc_boot (s : State) (t : Nat) (f : Tc → Tc) : (s.setTc t f).boot = s.boot := rfl
@[simp] theorem State.setTc_resetReq (s : State) (t : Nat) (f : Tc → Tc) : (s.setTc t f).resetReq = s.resetReq := rfl
@[simp] theorem State.setTc_rd (s : State) (t : Nat) (f : Tc → Tc) (j : Key) : (s.setTc t f).rd j = s.rd j := rfl
@[simp] theorem State.setTc_drd (s : State) (t : Nat) (f : Tc → Tc) (j : Key) : (s.setTc t f).drd j = s.drd j := rfl

/-! setCup. -/

@[simp] theorem State.setCup_pending (s : State) (n : Nat) (f : Cup → Cup) : (s.setCup n f).pending = s.pending := rfl
@[simp] theorem State.setCup_now (s : State) (n : Nat) (f : Cup → Cup) : (s.setCup n f).now = s.now := rfl
@[simp] theorem State.setCup_od (s : State) (n : Nat) (f : Cup → Cup) : (s.setCup n f).od = s.od := rfl
@[simp] theorem State.setCup_dr (s : State) (n : Nat) (f : Cup → Cup) : (s.setCup n f).dr = s.dr := rfl
@[simp] theorem State.setCup_out (s : State) (n : Nat) (f : Cup → Cup) : (s.setCup n f).out = s.out := rfl
@[simp] theorem State.setCup_free (s : State) (n : Nat) (f : Cup → Cup) : (s.setCup n f).free = s.free := rfl
@[simp] theorem State.setCup_faultIn (s : State) (n : Nat) (f : Cup → Cup) : (s.setCup n f).faultIn = s.faultIn := rfl
@[simp] theorem State.setCup_link (s : State) (n : Nat) (f : Cup → Cup) : (s.setCup n f).link = s.link := rfl
@[simp] theorem State.setCup_chan (s : State) (n : Nat) (f : Cup → Cup) : (s.setCup n f).chan = s.chan := rfl
@[simp] theorem State.setCup_tcs (s : State) (n : Nat) (f : Cup → Cup) : (s.setCup n f).tcs = s.tcs := rfl
@[simp] theorem State.setCup_cups (s : State) (n : Nat) (f : Cup → Cup) : (s.setCup n f).cups = upd s.cups n f := rfl
@[simp] theorem State.setCup_dp (s : State) (n : Nat) (f : Cup → Cup) : (s.setCup n f).dp = s.dp := rfl
@[simp] theorem State.setCup_ctxs (s : State) (n : Nat) (f : Cup → Cup) : (s.setCup n f).ctxs = s.ctxs := rfl
@[simp] theorem State.setCup_ptp (s : State) (n : Nat) (f : Cup → Cup) : (s.setCup n f).ptp = s.ptp := rfl
@[simp] theorem State.setCup_ap (s : State) (n : Nat) (f : Cup → Cup) : (s.setCup n f).ap = s.ap := rfl
@[simp] theorem State.setCup_sched (s : State) (n : Nat) (f : Cup → Cup) : (s.setCup n f).sched = s.sched := rfl
@[simp] theorem State.setCup_engDown (s : State) (n : Nat) (f : Cup → Cup) : (s.setCup n f).engDown = s.engDown := rfl
@[simp] theorem State.setCup_eng (s : State) (n : Nat) (f : Cup → Cup) : (s.setCup n f).eng = s.eng := rfl
@[simp] theorem State.setCup_fab (s : State) (n : Nat) (f : Cup → Cup) : (s.setCup n f).fab = s.fab := rfl
@[simp] theorem State.setCup_cal (s : State) (n : Nat) (f : Cup → Cup) : (s.setCup n f).cal = s.cal := rfl
@[simp] theorem State.setCup_nv (s : State) (n : Nat) (f : Cup → Cup) : (s.setCup n f).nv = s.nv := rfl
@[simp] theorem State.setCup_col (s : State) (n : Nat) (f : Cup → Cup) : (s.setCup n f).col = s.col := rfl
@[simp] theorem State.setCup_can (s : State) (n : Nat) (f : Cup → Cup) : (s.setCup n f).can = s.can := rfl
@[simp] theorem State.setCup_host (s : State) (n : Nat) (f : Cup → Cup) : (s.setCup n f).host = s.host := rfl
@[simp] theorem State.setCup_boot (s : State) (n : Nat) (f : Cup → Cup) : (s.setCup n f).boot = s.boot := rfl
@[simp] theorem State.setCup_resetReq (s : State) (n : Nat) (f : Cup → Cup) : (s.setCup n f).resetReq = s.resetReq := rfl
@[simp] theorem State.setCup_rd (s : State) (n : Nat) (f : Cup → Cup) (j : Key) : (s.setCup n f).rd j = s.rd j := rfl
@[simp] theorem State.setCup_drd (s : State) (n : Nat) (f : Cup → Cup) (j : Key) : (s.setCup n f).drd j = s.drd j := rfl

/-! setDp. -/

@[simp] theorem State.setDp_pending (s : State) (f : DpllSys → DpllSys) : (s.setDp f).pending = s.pending := rfl
@[simp] theorem State.setDp_now (s : State) (f : DpllSys → DpllSys) : (s.setDp f).now = s.now := rfl
@[simp] theorem State.setDp_od (s : State) (f : DpllSys → DpllSys) : (s.setDp f).od = s.od := rfl
@[simp] theorem State.setDp_dr (s : State) (f : DpllSys → DpllSys) : (s.setDp f).dr = s.dr := rfl
@[simp] theorem State.setDp_out (s : State) (f : DpllSys → DpllSys) : (s.setDp f).out = s.out := rfl
@[simp] theorem State.setDp_free (s : State) (f : DpllSys → DpllSys) : (s.setDp f).free = s.free := rfl
@[simp] theorem State.setDp_faultIn (s : State) (f : DpllSys → DpllSys) : (s.setDp f).faultIn = s.faultIn := rfl
@[simp] theorem State.setDp_link (s : State) (f : DpllSys → DpllSys) : (s.setDp f).link = s.link := rfl
@[simp] theorem State.setDp_chan (s : State) (f : DpllSys → DpllSys) : (s.setDp f).chan = s.chan := rfl
@[simp] theorem State.setDp_tcs (s : State) (f : DpllSys → DpllSys) : (s.setDp f).tcs = s.tcs := rfl
@[simp] theorem State.setDp_cups (s : State) (f : DpllSys → DpllSys) : (s.setDp f).cups = s.cups := rfl
@[simp] theorem State.setDp_dp (s : State) (f : DpllSys → DpllSys) : (s.setDp f).dp = f s.dp := rfl
@[simp] theorem State.setDp_ctxs (s : State) (f : DpllSys → DpllSys) : (s.setDp f).ctxs = s.ctxs := rfl
@[simp] theorem State.setDp_ptp (s : State) (f : DpllSys → DpllSys) : (s.setDp f).ptp = s.ptp := rfl
@[simp] theorem State.setDp_ap (s : State) (f : DpllSys → DpllSys) : (s.setDp f).ap = s.ap := rfl
@[simp] theorem State.setDp_sched (s : State) (f : DpllSys → DpllSys) : (s.setDp f).sched = s.sched := rfl
@[simp] theorem State.setDp_engDown (s : State) (f : DpllSys → DpllSys) : (s.setDp f).engDown = s.engDown := rfl
@[simp] theorem State.setDp_eng (s : State) (f : DpllSys → DpllSys) : (s.setDp f).eng = s.eng := rfl
@[simp] theorem State.setDp_fab (s : State) (f : DpllSys → DpllSys) : (s.setDp f).fab = s.fab := rfl
@[simp] theorem State.setDp_cal (s : State) (f : DpllSys → DpllSys) : (s.setDp f).cal = s.cal := rfl
@[simp] theorem State.setDp_nv (s : State) (f : DpllSys → DpllSys) : (s.setDp f).nv = s.nv := rfl
@[simp] theorem State.setDp_col (s : State) (f : DpllSys → DpllSys) : (s.setDp f).col = s.col := rfl
@[simp] theorem State.setDp_can (s : State) (f : DpllSys → DpllSys) : (s.setDp f).can = s.can := rfl
@[simp] theorem State.setDp_host (s : State) (f : DpllSys → DpllSys) : (s.setDp f).host = s.host := rfl
@[simp] theorem State.setDp_boot (s : State) (f : DpllSys → DpllSys) : (s.setDp f).boot = s.boot := rfl
@[simp] theorem State.setDp_resetReq (s : State) (f : DpllSys → DpllSys) : (s.setDp f).resetReq = s.resetReq := rfl
@[simp] theorem State.setDp_rd (s : State) (f : DpllSys → DpllSys) (j : Key) : (s.setDp f).rd j = s.rd j := rfl
@[simp] theorem State.setDp_drd (s : State) (f : DpllSys → DpllSys) (j : Key) : (s.setDp f).drd j = s.drd j := rfl

/-! setDpll. -/

@[simp] theorem State.setDpll_pending (s : State) (n : Nat) (f : Dpll → Dpll) : (s.setDpll n f).pending = s.pending := rfl
@[simp] theorem State.setDpll_now (s : State) (n : Nat) (f : Dpll → Dpll) : (s.setDpll n f).now = s.now := rfl
@[simp] theorem State.setDpll_od (s : State) (n : Nat) (f : Dpll → Dpll) : (s.setDpll n f).od = s.od := rfl
@[simp] theorem State.setDpll_dr (s : State) (n : Nat) (f : Dpll → Dpll) : (s.setDpll n f).dr = s.dr := rfl
@[simp] theorem State.setDpll_out (s : State) (n : Nat) (f : Dpll → Dpll) : (s.setDpll n f).out = s.out := rfl
@[simp] theorem State.setDpll_free (s : State) (n : Nat) (f : Dpll → Dpll) : (s.setDpll n f).free = s.free := rfl
@[simp] theorem State.setDpll_faultIn (s : State) (n : Nat) (f : Dpll → Dpll) : (s.setDpll n f).faultIn = s.faultIn := rfl
@[simp] theorem State.setDpll_link (s : State) (n : Nat) (f : Dpll → Dpll) : (s.setDpll n f).link = s.link := rfl
@[simp] theorem State.setDpll_chan (s : State) (n : Nat) (f : Dpll → Dpll) : (s.setDpll n f).chan = s.chan := rfl
@[simp] theorem State.setDpll_tcs (s : State) (n : Nat) (f : Dpll → Dpll) : (s.setDpll n f).tcs = s.tcs := rfl
@[simp] theorem State.setDpll_cups (s : State) (n : Nat) (f : Dpll → Dpll) : (s.setDpll n f).cups = s.cups := rfl
@[simp] theorem State.setDpll_ctxs (s : State) (n : Nat) (f : Dpll → Dpll) : (s.setDpll n f).ctxs = s.ctxs := rfl
@[simp] theorem State.setDpll_ptp (s : State) (n : Nat) (f : Dpll → Dpll) : (s.setDpll n f).ptp = s.ptp := rfl
@[simp] theorem State.setDpll_ap (s : State) (n : Nat) (f : Dpll → Dpll) : (s.setDpll n f).ap = s.ap := rfl
@[simp] theorem State.setDpll_sched (s : State) (n : Nat) (f : Dpll → Dpll) : (s.setDpll n f).sched = s.sched := rfl
@[simp] theorem State.setDpll_engDown (s : State) (n : Nat) (f : Dpll → Dpll) : (s.setDpll n f).engDown = s.engDown := rfl
@[simp] theorem State.setDpll_eng (s : State) (n : Nat) (f : Dpll → Dpll) : (s.setDpll n f).eng = s.eng := rfl
@[simp] theorem State.setDpll_fab (s : State) (n : Nat) (f : Dpll → Dpll) : (s.setDpll n f).fab = s.fab := rfl
@[simp] theorem State.setDpll_cal (s : State) (n : Nat) (f : Dpll → Dpll) : (s.setDpll n f).cal = s.cal := rfl
@[simp] theorem State.setDpll_nv (s : State) (n : Nat) (f : Dpll → Dpll) : (s.setDpll n f).nv = s.nv := rfl
@[simp] theorem State.setDpll_col (s : State) (n : Nat) (f : Dpll → Dpll) : (s.setDpll n f).col = s.col := rfl
@[simp] theorem State.setDpll_can (s : State) (n : Nat) (f : Dpll → Dpll) : (s.setDpll n f).can = s.can := rfl
@[simp] theorem State.setDpll_host (s : State) (n : Nat) (f : Dpll → Dpll) : (s.setDpll n f).host = s.host := rfl
@[simp] theorem State.setDpll_boot (s : State) (n : Nat) (f : Dpll → Dpll) : (s.setDpll n f).boot = s.boot := rfl
@[simp] theorem State.setDpll_resetReq (s : State) (n : Nat) (f : Dpll → Dpll) : (s.setDpll n f).resetReq = s.resetReq := rfl
@[simp] theorem State.setDpll_rd (s : State) (n : Nat) (f : Dpll → Dpll) (j : Key) : (s.setDpll n f).rd j = s.rd j := rfl
@[simp] theorem State.setDpll_drd (s : State) (n : Nat) (f : Dpll → Dpll) (j : Key) : (s.setDpll n f).drd j = s.drd j := rfl

/-! setCarafe. -/

@[simp] theorem State.setCarafe_pending (s : State) (n : Nat) (f : Carafe → Carafe) : (s.setCarafe n f).pending = s.pending := rfl
@[simp] theorem State.setCarafe_now (s : State) (n : Nat) (f : Carafe → Carafe) : (s.setCarafe n f).now = s.now := rfl
@[simp] theorem State.setCarafe_od (s : State) (n : Nat) (f : Carafe → Carafe) : (s.setCarafe n f).od = s.od := rfl
@[simp] theorem State.setCarafe_dr (s : State) (n : Nat) (f : Carafe → Carafe) : (s.setCarafe n f).dr = s.dr := rfl
@[simp] theorem State.setCarafe_out (s : State) (n : Nat) (f : Carafe → Carafe) : (s.setCarafe n f).out = s.out := rfl
@[simp] theorem State.setCarafe_free (s : State) (n : Nat) (f : Carafe → Carafe) : (s.setCarafe n f).free = s.free := rfl
@[simp] theorem State.setCarafe_faultIn (s : State) (n : Nat) (f : Carafe → Carafe) : (s.setCarafe n f).faultIn = s.faultIn := rfl
@[simp] theorem State.setCarafe_link (s : State) (n : Nat) (f : Carafe → Carafe) : (s.setCarafe n f).link = s.link := rfl
@[simp] theorem State.setCarafe_chan (s : State) (n : Nat) (f : Carafe → Carafe) : (s.setCarafe n f).chan = s.chan := rfl
@[simp] theorem State.setCarafe_tcs (s : State) (n : Nat) (f : Carafe → Carafe) : (s.setCarafe n f).tcs = s.tcs := rfl
@[simp] theorem State.setCarafe_cups (s : State) (n : Nat) (f : Carafe → Carafe) : (s.setCarafe n f).cups = s.cups := rfl
@[simp] theorem State.setCarafe_ctxs (s : State) (n : Nat) (f : Carafe → Carafe) : (s.setCarafe n f).ctxs = s.ctxs := rfl
@[simp] theorem State.setCarafe_ptp (s : State) (n : Nat) (f : Carafe → Carafe) : (s.setCarafe n f).ptp = s.ptp := rfl
@[simp] theorem State.setCarafe_ap (s : State) (n : Nat) (f : Carafe → Carafe) : (s.setCarafe n f).ap = s.ap := rfl
@[simp] theorem State.setCarafe_sched (s : State) (n : Nat) (f : Carafe → Carafe) : (s.setCarafe n f).sched = s.sched := rfl
@[simp] theorem State.setCarafe_engDown (s : State) (n : Nat) (f : Carafe → Carafe) : (s.setCarafe n f).engDown = s.engDown := rfl
@[simp] theorem State.setCarafe_eng (s : State) (n : Nat) (f : Carafe → Carafe) : (s.setCarafe n f).eng = s.eng := rfl
@[simp] theorem State.setCarafe_fab (s : State) (n : Nat) (f : Carafe → Carafe) : (s.setCarafe n f).fab = s.fab := rfl
@[simp] theorem State.setCarafe_cal (s : State) (n : Nat) (f : Carafe → Carafe) : (s.setCarafe n f).cal = s.cal := rfl
@[simp] theorem State.setCarafe_nv (s : State) (n : Nat) (f : Carafe → Carafe) : (s.setCarafe n f).nv = s.nv := rfl
@[simp] theorem State.setCarafe_col (s : State) (n : Nat) (f : Carafe → Carafe) : (s.setCarafe n f).col = s.col := rfl
@[simp] theorem State.setCarafe_can (s : State) (n : Nat) (f : Carafe → Carafe) : (s.setCarafe n f).can = s.can := rfl
@[simp] theorem State.setCarafe_host (s : State) (n : Nat) (f : Carafe → Carafe) : (s.setCarafe n f).host = s.host := rfl
@[simp] theorem State.setCarafe_boot (s : State) (n : Nat) (f : Carafe → Carafe) : (s.setCarafe n f).boot = s.boot := rfl
@[simp] theorem State.setCarafe_resetReq (s : State) (n : Nat) (f : Carafe → Carafe) : (s.setCarafe n f).resetReq = s.resetReq := rfl
@[simp] theorem State.setCarafe_rd (s : State) (n : Nat) (f : Carafe → Carafe) (j : Key) : (s.setCarafe n f).rd j = s.rd j := rfl
@[simp] theorem State.setCarafe_drd (s : State) (n : Nat) (f : Carafe → Carafe) (j : Key) : (s.setCarafe n f).drd j = s.drd j := rfl

/-! setCtx. -/

@[simp] theorem State.setCtx_pending (s : State) (n : Nat) (f : Ctx → Ctx) : (s.setCtx n f).pending = s.pending := rfl
@[simp] theorem State.setCtx_now (s : State) (n : Nat) (f : Ctx → Ctx) : (s.setCtx n f).now = s.now := rfl
@[simp] theorem State.setCtx_od (s : State) (n : Nat) (f : Ctx → Ctx) : (s.setCtx n f).od = s.od := rfl
@[simp] theorem State.setCtx_dr (s : State) (n : Nat) (f : Ctx → Ctx) : (s.setCtx n f).dr = s.dr := rfl
@[simp] theorem State.setCtx_out (s : State) (n : Nat) (f : Ctx → Ctx) : (s.setCtx n f).out = s.out := rfl
@[simp] theorem State.setCtx_free (s : State) (n : Nat) (f : Ctx → Ctx) : (s.setCtx n f).free = s.free := rfl
@[simp] theorem State.setCtx_faultIn (s : State) (n : Nat) (f : Ctx → Ctx) : (s.setCtx n f).faultIn = s.faultIn := rfl
@[simp] theorem State.setCtx_link (s : State) (n : Nat) (f : Ctx → Ctx) : (s.setCtx n f).link = s.link := rfl
@[simp] theorem State.setCtx_chan (s : State) (n : Nat) (f : Ctx → Ctx) : (s.setCtx n f).chan = s.chan := rfl
@[simp] theorem State.setCtx_tcs (s : State) (n : Nat) (f : Ctx → Ctx) : (s.setCtx n f).tcs = s.tcs := rfl
@[simp] theorem State.setCtx_cups (s : State) (n : Nat) (f : Ctx → Ctx) : (s.setCtx n f).cups = s.cups := rfl
@[simp] theorem State.setCtx_dp (s : State) (n : Nat) (f : Ctx → Ctx) : (s.setCtx n f).dp = s.dp := rfl
@[simp] theorem State.setCtx_ctxs (s : State) (n : Nat) (f : Ctx → Ctx) : (s.setCtx n f).ctxs = upd s.ctxs n f := rfl
@[simp] theorem State.setCtx_ptp (s : State) (n : Nat) (f : Ctx → Ctx) : (s.setCtx n f).ptp = s.ptp := rfl
@[simp] theorem State.setCtx_ap (s : State) (n : Nat) (f : Ctx → Ctx) : (s.setCtx n f).ap = s.ap := rfl
@[simp] theorem State.setCtx_sched (s : State) (n : Nat) (f : Ctx → Ctx) : (s.setCtx n f).sched = s.sched := rfl
@[simp] theorem State.setCtx_engDown (s : State) (n : Nat) (f : Ctx → Ctx) : (s.setCtx n f).engDown = s.engDown := rfl
@[simp] theorem State.setCtx_eng (s : State) (n : Nat) (f : Ctx → Ctx) : (s.setCtx n f).eng = s.eng := rfl
@[simp] theorem State.setCtx_fab (s : State) (n : Nat) (f : Ctx → Ctx) : (s.setCtx n f).fab = s.fab := rfl
@[simp] theorem State.setCtx_cal (s : State) (n : Nat) (f : Ctx → Ctx) : (s.setCtx n f).cal = s.cal := rfl
@[simp] theorem State.setCtx_nv (s : State) (n : Nat) (f : Ctx → Ctx) : (s.setCtx n f).nv = s.nv := rfl
@[simp] theorem State.setCtx_col (s : State) (n : Nat) (f : Ctx → Ctx) : (s.setCtx n f).col = s.col := rfl
@[simp] theorem State.setCtx_can (s : State) (n : Nat) (f : Ctx → Ctx) : (s.setCtx n f).can = s.can := rfl
@[simp] theorem State.setCtx_host (s : State) (n : Nat) (f : Ctx → Ctx) : (s.setCtx n f).host = s.host := rfl
@[simp] theorem State.setCtx_boot (s : State) (n : Nat) (f : Ctx → Ctx) : (s.setCtx n f).boot = s.boot := rfl
@[simp] theorem State.setCtx_resetReq (s : State) (n : Nat) (f : Ctx → Ctx) : (s.setCtx n f).resetReq = s.resetReq := rfl
@[simp] theorem State.setCtx_rd (s : State) (n : Nat) (f : Ctx → Ctx) (j : Key) : (s.setCtx n f).rd j = s.rd j := rfl
@[simp] theorem State.setCtx_drd (s : State) (n : Nat) (f : Ctx → Ctx) (j : Key) : (s.setCtx n f).drd j = s.drd j := rfl

/-! setAp. -/

@[simp] theorem State.setAp_pending (s : State) (f : ApllSys → ApllSys) : (s.setAp f).pending = s.pending := rfl
@[simp] theorem State.setAp_now (s : State) (f : ApllSys → ApllSys) : (s.setAp f).now = s.now := rfl
@[simp] theorem State.setAp_od (s : State) (f : ApllSys → ApllSys) : (s.setAp f).od = s.od := rfl
@[simp] theorem State.setAp_dr (s : State) (f : ApllSys → ApllSys) : (s.setAp f).dr = s.dr := rfl
@[simp] theorem State.setAp_out (s : State) (f : ApllSys → ApllSys) : (s.setAp f).out = s.out := rfl
@[simp] theorem State.setAp_free (s : State) (f : ApllSys → ApllSys) : (s.setAp f).free = s.free := rfl
@[simp] theorem State.setAp_faultIn (s : State) (f : ApllSys → ApllSys) : (s.setAp f).faultIn = s.faultIn := rfl
@[simp] theorem State.setAp_link (s : State) (f : ApllSys → ApllSys) : (s.setAp f).link = s.link := rfl
@[simp] theorem State.setAp_chan (s : State) (f : ApllSys → ApllSys) : (s.setAp f).chan = s.chan := rfl
@[simp] theorem State.setAp_tcs (s : State) (f : ApllSys → ApllSys) : (s.setAp f).tcs = s.tcs := rfl
@[simp] theorem State.setAp_cups (s : State) (f : ApllSys → ApllSys) : (s.setAp f).cups = s.cups := rfl
@[simp] theorem State.setAp_dp (s : State) (f : ApllSys → ApllSys) : (s.setAp f).dp = s.dp := rfl
@[simp] theorem State.setAp_ctxs (s : State) (f : ApllSys → ApllSys) : (s.setAp f).ctxs = s.ctxs := rfl
@[simp] theorem State.setAp_ptp (s : State) (f : ApllSys → ApllSys) : (s.setAp f).ptp = s.ptp := rfl
@[simp] theorem State.setAp_ap (s : State) (f : ApllSys → ApllSys) : (s.setAp f).ap = f s.ap := rfl
@[simp] theorem State.setAp_sched (s : State) (f : ApllSys → ApllSys) : (s.setAp f).sched = s.sched := rfl
@[simp] theorem State.setAp_engDown (s : State) (f : ApllSys → ApllSys) : (s.setAp f).engDown = s.engDown := rfl
@[simp] theorem State.setAp_eng (s : State) (f : ApllSys → ApllSys) : (s.setAp f).eng = s.eng := rfl
@[simp] theorem State.setAp_fab (s : State) (f : ApllSys → ApllSys) : (s.setAp f).fab = s.fab := rfl
@[simp] theorem State.setAp_cal (s : State) (f : ApllSys → ApllSys) : (s.setAp f).cal = s.cal := rfl
@[simp] theorem State.setAp_nv (s : State) (f : ApllSys → ApllSys) : (s.setAp f).nv = s.nv := rfl
@[simp] theorem State.setAp_col (s : State) (f : ApllSys → ApllSys) : (s.setAp f).col = s.col := rfl
@[simp] theorem State.setAp_can (s : State) (f : ApllSys → ApllSys) : (s.setAp f).can = s.can := rfl
@[simp] theorem State.setAp_host (s : State) (f : ApllSys → ApllSys) : (s.setAp f).host = s.host := rfl
@[simp] theorem State.setAp_boot (s : State) (f : ApllSys → ApllSys) : (s.setAp f).boot = s.boot := rfl
@[simp] theorem State.setAp_resetReq (s : State) (f : ApllSys → ApllSys) : (s.setAp f).resetReq = s.resetReq := rfl
@[simp] theorem State.setAp_rd (s : State) (f : ApllSys → ApllSys) (j : Key) : (s.setAp f).rd j = s.rd j := rfl
@[simp] theorem State.setAp_drd (s : State) (f : ApllSys → ApllSys) (j : Key) : (s.setAp f).drd j = s.drd j := rfl

/-! setApll. -/

@[simp] theorem State.setApll_pending (s : State) (n : Nat) (f : Apll → Apll) : (s.setApll n f).pending = s.pending := rfl
@[simp] theorem State.setApll_now (s : State) (n : Nat) (f : Apll → Apll) : (s.setApll n f).now = s.now := rfl
@[simp] theorem State.setApll_od (s : State) (n : Nat) (f : Apll → Apll) : (s.setApll n f).od = s.od := rfl
@[simp] theorem State.setApll_dr (s : State) (n : Nat) (f : Apll → Apll) : (s.setApll n f).dr = s.dr := rfl
@[simp] theorem State.setApll_out (s : State) (n : Nat) (f : Apll → Apll) : (s.setApll n f).out = s.out := rfl
@[simp] theorem State.setApll_free (s : State) (n : Nat) (f : Apll → Apll) : (s.setApll n f).free = s.free := rfl
@[simp] theorem State.setApll_faultIn (s : State) (n : Nat) (f : Apll → Apll) : (s.setApll n f).faultIn = s.faultIn := rfl
@[simp] theorem State.setApll_link (s : State) (n : Nat) (f : Apll → Apll) : (s.setApll n f).link = s.link := rfl
@[simp] theorem State.setApll_chan (s : State) (n : Nat) (f : Apll → Apll) : (s.setApll n f).chan = s.chan := rfl
@[simp] theorem State.setApll_tcs (s : State) (n : Nat) (f : Apll → Apll) : (s.setApll n f).tcs = s.tcs := rfl
@[simp] theorem State.setApll_cups (s : State) (n : Nat) (f : Apll → Apll) : (s.setApll n f).cups = s.cups := rfl
@[simp] theorem State.setApll_dp (s : State) (n : Nat) (f : Apll → Apll) : (s.setApll n f).dp = s.dp := rfl
@[simp] theorem State.setApll_ctxs (s : State) (n : Nat) (f : Apll → Apll) : (s.setApll n f).ctxs = s.ctxs := rfl
@[simp] theorem State.setApll_ptp (s : State) (n : Nat) (f : Apll → Apll) : (s.setApll n f).ptp = s.ptp := rfl
@[simp] theorem State.setApll_sched (s : State) (n : Nat) (f : Apll → Apll) : (s.setApll n f).sched = s.sched := rfl
@[simp] theorem State.setApll_engDown (s : State) (n : Nat) (f : Apll → Apll) : (s.setApll n f).engDown = s.engDown := rfl
@[simp] theorem State.setApll_eng (s : State) (n : Nat) (f : Apll → Apll) : (s.setApll n f).eng = s.eng := rfl
@[simp] theorem State.setApll_fab (s : State) (n : Nat) (f : Apll → Apll) : (s.setApll n f).fab = s.fab := rfl
@[simp] theorem State.setApll_cal (s : State) (n : Nat) (f : Apll → Apll) : (s.setApll n f).cal = s.cal := rfl
@[simp] theorem State.setApll_nv (s : State) (n : Nat) (f : Apll → Apll) : (s.setApll n f).nv = s.nv := rfl
@[simp] theorem State.setApll_col (s : State) (n : Nat) (f : Apll → Apll) : (s.setApll n f).col = s.col := rfl
@[simp] theorem State.setApll_can (s : State) (n : Nat) (f : Apll → Apll) : (s.setApll n f).can = s.can := rfl
@[simp] theorem State.setApll_host (s : State) (n : Nat) (f : Apll → Apll) : (s.setApll n f).host = s.host := rfl
@[simp] theorem State.setApll_boot (s : State) (n : Nat) (f : Apll → Apll) : (s.setApll n f).boot = s.boot := rfl
@[simp] theorem State.setApll_resetReq (s : State) (n : Nat) (f : Apll → Apll) : (s.setApll n f).resetReq = s.resetReq := rfl
@[simp] theorem State.setApll_rd (s : State) (n : Nat) (f : Apll → Apll) (j : Key) : (s.setApll n f).rd j = s.rd j := rfl
@[simp] theorem State.setApll_drd (s : State) (n : Nat) (f : Apll → Apll) (j : Key) : (s.setApll n f).drd j = s.drd j := rfl

/-! setOut. -/

@[simp] theorem State.setOut_pending (s : State) (n : Nat) (f : OutPath → OutPath) : (s.setOut n f).pending = s.pending := rfl
@[simp] theorem State.setOut_now (s : State) (n : Nat) (f : OutPath → OutPath) : (s.setOut n f).now = s.now := rfl
@[simp] theorem State.setOut_od (s : State) (n : Nat) (f : OutPath → OutPath) : (s.setOut n f).od = s.od := rfl
@[simp] theorem State.setOut_dr (s : State) (n : Nat) (f : OutPath → OutPath) : (s.setOut n f).dr = s.dr := rfl
@[simp] theorem State.setOut_out (s : State) (n : Nat) (f : OutPath → OutPath) : (s.setOut n f).out = s.out := rfl
@[simp] theorem State.setOut_free (s : State) (n : Nat) (f : OutPath → OutPath) : (s.setOut n f).free = s.free := rfl
@[simp] theorem State.setOut_faultIn (s : State) (n : Nat) (f : OutPath → OutPath) : (s.setOut n f).faultIn = s.faultIn := rfl
@[simp] theorem State.setOut_link (s : State) (n : Nat) (f : OutPath → OutPath) : (s.setOut n f).link = s.link := rfl
@[simp] theorem State.setOut_chan (s : State) (n : Nat) (f : OutPath → OutPath) : (s.setOut n f).chan = s.chan := rfl
@[simp] theorem State.setOut_tcs (s : State) (n : Nat) (f : OutPath → OutPath) : (s.setOut n f).tcs = s.tcs := rfl
@[simp] theorem State.setOut_cups (s : State) (n : Nat) (f : OutPath → OutPath) : (s.setOut n f).cups = s.cups := rfl
@[simp] theorem State.setOut_dp (s : State) (n : Nat) (f : OutPath → OutPath) : (s.setOut n f).dp = s.dp := rfl
@[simp] theorem State.setOut_ctxs (s : State) (n : Nat) (f : OutPath → OutPath) : (s.setOut n f).ctxs = s.ctxs := rfl
@[simp] theorem State.setOut_ptp (s : State) (n : Nat) (f : OutPath → OutPath) : (s.setOut n f).ptp = s.ptp := rfl
@[simp] theorem State.setOut_sched (s : State) (n : Nat) (f : OutPath → OutPath) : (s.setOut n f).sched = s.sched := rfl
@[simp] theorem State.setOut_engDown (s : State) (n : Nat) (f : OutPath → OutPath) : (s.setOut n f).engDown = s.engDown := rfl
@[simp] theorem State.setOut_eng (s : State) (n : Nat) (f : OutPath → OutPath) : (s.setOut n f).eng = s.eng := rfl
@[simp] theorem State.setOut_fab (s : State) (n : Nat) (f : OutPath → OutPath) : (s.setOut n f).fab = s.fab := rfl
@[simp] theorem State.setOut_cal (s : State) (n : Nat) (f : OutPath → OutPath) : (s.setOut n f).cal = s.cal := rfl
@[simp] theorem State.setOut_nv (s : State) (n : Nat) (f : OutPath → OutPath) : (s.setOut n f).nv = s.nv := rfl
@[simp] theorem State.setOut_col (s : State) (n : Nat) (f : OutPath → OutPath) : (s.setOut n f).col = s.col := rfl
@[simp] theorem State.setOut_can (s : State) (n : Nat) (f : OutPath → OutPath) : (s.setOut n f).can = s.can := rfl
@[simp] theorem State.setOut_host (s : State) (n : Nat) (f : OutPath → OutPath) : (s.setOut n f).host = s.host := rfl
@[simp] theorem State.setOut_boot (s : State) (n : Nat) (f : OutPath → OutPath) : (s.setOut n f).boot = s.boot := rfl
@[simp] theorem State.setOut_resetReq (s : State) (n : Nat) (f : OutPath → OutPath) : (s.setOut n f).resetReq = s.resetReq := rfl
@[simp] theorem State.setOut_rd (s : State) (n : Nat) (f : OutPath → OutPath) (j : Key) : (s.setOut n f).rd j = s.rd j := rfl
@[simp] theorem State.setOut_drd (s : State) (n : Nat) (f : OutPath → OutPath) (j : Key) : (s.setOut n f).drd j = s.drd j := rfl

/-! setSched. -/

@[simp] theorem State.setSched_pending (s : State) (n : Nat) (f : SchedEntry → SchedEntry) : (s.setSched n f).pending = s.pending := rfl
@[simp] theorem State.setSched_now (s : State) (n : Nat) (f : SchedEntry → SchedEntry) : (s.setSched n f).now = s.now := rfl
@[simp] theorem State.setSched_od (s : State) (n : Nat) (f : SchedEntry → SchedEntry) : (s.setSched n f).od = s.od := rfl
@[simp] theorem State.setSched_dr (s : State) (n : Nat) (f : SchedEntry → SchedEntry) : (s.setSched n f).dr = s.dr := rfl
@[simp] theorem State.setSched_out (s : State) (n : Nat) (f : SchedEntry → SchedEntry) : (s.setSched n f).out = s.out := rfl
@[simp] theorem State.setSched_free (s : State) (n : Nat) (f : SchedEntry → SchedEntry) : (s.setSched n f).free = s.free := rfl
@[simp] theorem State.setSched_faultIn (s : State) (n : Nat) (f : SchedEntry → SchedEntry) : (s.setSched n f).faultIn = s.faultIn := rfl
@[simp] theorem State.setSched_link (s : State) (n : Nat) (f : SchedEntry → SchedEntry) : (s.setSched n f).link = s.link := rfl
@[simp] theorem State.setSched_chan (s : State) (n : Nat) (f : SchedEntry → SchedEntry) : (s.setSched n f).chan = s.chan := rfl
@[simp] theorem State.setSched_tcs (s : State) (n : Nat) (f : SchedEntry → SchedEntry) : (s.setSched n f).tcs = s.tcs := rfl
@[simp] theorem State.setSched_cups (s : State) (n : Nat) (f : SchedEntry → SchedEntry) : (s.setSched n f).cups = s.cups := rfl
@[simp] theorem State.setSched_dp (s : State) (n : Nat) (f : SchedEntry → SchedEntry) : (s.setSched n f).dp = s.dp := rfl
@[simp] theorem State.setSched_ctxs (s : State) (n : Nat) (f : SchedEntry → SchedEntry) : (s.setSched n f).ctxs = s.ctxs := rfl
@[simp] theorem State.setSched_ptp (s : State) (n : Nat) (f : SchedEntry → SchedEntry) : (s.setSched n f).ptp = s.ptp := rfl
@[simp] theorem State.setSched_ap (s : State) (n : Nat) (f : SchedEntry → SchedEntry) : (s.setSched n f).ap = s.ap := rfl
@[simp] theorem State.setSched_engDown (s : State) (n : Nat) (f : SchedEntry → SchedEntry) : (s.setSched n f).engDown = s.engDown := rfl
@[simp] theorem State.setSched_eng (s : State) (n : Nat) (f : SchedEntry → SchedEntry) : (s.setSched n f).eng = s.eng := rfl
@[simp] theorem State.setSched_fab (s : State) (n : Nat) (f : SchedEntry → SchedEntry) : (s.setSched n f).fab = s.fab := rfl
@[simp] theorem State.setSched_cal (s : State) (n : Nat) (f : SchedEntry → SchedEntry) : (s.setSched n f).cal = s.cal := rfl
@[simp] theorem State.setSched_nv (s : State) (n : Nat) (f : SchedEntry → SchedEntry) : (s.setSched n f).nv = s.nv := rfl
@[simp] theorem State.setSched_col (s : State) (n : Nat) (f : SchedEntry → SchedEntry) : (s.setSched n f).col = s.col := rfl
@[simp] theorem State.setSched_can (s : State) (n : Nat) (f : SchedEntry → SchedEntry) : (s.setSched n f).can = s.can := rfl
@[simp] theorem State.setSched_host (s : State) (n : Nat) (f : SchedEntry → SchedEntry) : (s.setSched n f).host = s.host := rfl
@[simp] theorem State.setSched_boot (s : State) (n : Nat) (f : SchedEntry → SchedEntry) : (s.setSched n f).boot = s.boot := rfl
@[simp] theorem State.setSched_resetReq (s : State) (n : Nat) (f : SchedEntry → SchedEntry) : (s.setSched n f).resetReq = s.resetReq := rfl
@[simp] theorem State.setSched_rd (s : State) (n : Nat) (f : SchedEntry → SchedEntry) (j : Key) : (s.setSched n f).rd j = s.rd j := rfl
@[simp] theorem State.setSched_drd (s : State) (n : Nat) (f : SchedEntry → SchedEntry) (j : Key) : (s.setSched n f).drd j = s.drd j := rfl

/-! setFlights. -/

@[simp] theorem State.setFlights_pending (s : State) (l : List Flight) : (s.setFlights l).pending = s.pending := rfl
@[simp] theorem State.setFlights_now (s : State) (l : List Flight) : (s.setFlights l).now = s.now := rfl
@[simp] theorem State.setFlights_od (s : State) (l : List Flight) : (s.setFlights l).od = s.od := rfl
@[simp] theorem State.setFlights_dr (s : State) (l : List Flight) : (s.setFlights l).dr = s.dr := rfl
@[simp] theorem State.setFlights_out (s : State) (l : List Flight) : (s.setFlights l).out = s.out := rfl
@[simp] theorem State.setFlights_free (s : State) (l : List Flight) : (s.setFlights l).free = s.free := rfl
@[simp] theorem State.setFlights_faultIn (s : State) (l : List Flight) : (s.setFlights l).faultIn = s.faultIn := rfl
@[simp] theorem State.setFlights_link (s : State) (l : List Flight) : (s.setFlights l).link = s.link := rfl
@[simp] theorem State.setFlights_chan (s : State) (l : List Flight) : (s.setFlights l).chan = s.chan := rfl
@[simp] theorem State.setFlights_tcs (s : State) (l : List Flight) : (s.setFlights l).tcs = s.tcs := rfl
@[simp] theorem State.setFlights_cups (s : State) (l : List Flight) : (s.setFlights l).cups = s.cups := rfl
@[simp] theorem State.setFlights_dp (s : State) (l : List Flight) : (s.setFlights l).dp = s.dp := rfl
@[simp] theorem State.setFlights_ctxs (s : State) (l : List Flight) : (s.setFlights l).ctxs = s.ctxs := rfl
@[simp] theorem State.setFlights_ptp (s : State) (l : List Flight) : (s.setFlights l).ptp = s.ptp := rfl
@[simp] theorem State.setFlights_ap (s : State) (l : List Flight) : (s.setFlights l).ap = s.ap := rfl
@[simp] theorem State.setFlights_engDown (s : State) (l : List Flight) : (s.setFlights l).engDown = s.engDown := rfl
@[simp] theorem State.setFlights_eng (s : State) (l : List Flight) : (s.setFlights l).eng = s.eng := rfl
@[simp] theorem State.setFlights_fab (s : State) (l : List Flight) : (s.setFlights l).fab = s.fab := rfl
@[simp] theorem State.setFlights_cal (s : State) (l : List Flight) : (s.setFlights l).cal = s.cal := rfl
@[simp] theorem State.setFlights_nv (s : State) (l : List Flight) : (s.setFlights l).nv = s.nv := rfl
@[simp] theorem State.setFlights_col (s : State) (l : List Flight) : (s.setFlights l).col = s.col := rfl
@[simp] theorem State.setFlights_can (s : State) (l : List Flight) : (s.setFlights l).can = s.can := rfl
@[simp] theorem State.setFlights_host (s : State) (l : List Flight) : (s.setFlights l).host = s.host := rfl
@[simp] theorem State.setFlights_boot (s : State) (l : List Flight) : (s.setFlights l).boot = s.boot := rfl
@[simp] theorem State.setFlights_resetReq (s : State) (l : List Flight) : (s.setFlights l).resetReq = s.resetReq := rfl
@[simp] theorem State.setFlights_rd (s : State) (l : List Flight) (j : Key) : (s.setFlights l).rd j = s.rd j := rfl
@[simp] theorem State.setFlights_drd (s : State) (l : List Flight) (j : Key) : (s.setFlights l).drd j = s.drd j := rfl

/-! setToS. -/

@[simp] theorem State.setToS_pending (s : State) (l : List Flight) : (s.setToS l).pending = s.pending := rfl
@[simp] theorem State.setToS_now (s : State) (l : List Flight) : (s.setToS l).now = s.now := rfl
@[simp] theorem State.setToS_od (s : State) (l : List Flight) : (s.setToS l).od = s.od := rfl
@[simp] theorem State.setToS_dr (s : State) (l : List Flight) : (s.setToS l).dr = s.dr := rfl
@[simp] theorem State.setToS_out (s : State) (l : List Flight) : (s.setToS l).out = s.out := rfl
@[simp] theorem State.setToS_free (s : State) (l : List Flight) : (s.setToS l).free = s.free := rfl
@[simp] theorem State.setToS_faultIn (s : State) (l : List Flight) : (s.setToS l).faultIn = s.faultIn := rfl
@[simp] theorem State.setToS_link (s : State) (l : List Flight) : (s.setToS l).link = s.link := rfl
@[simp] theorem State.setToS_chan (s : State) (l : List Flight) : (s.setToS l).chan = s.chan := rfl
@[simp] theorem State.setToS_tcs (s : State) (l : List Flight) : (s.setToS l).tcs = s.tcs := rfl
@[simp] theorem State.setToS_cups (s : State) (l : List Flight) : (s.setToS l).cups = s.cups := rfl
@[simp] theorem State.setToS_dp (s : State) (l : List Flight) : (s.setToS l).dp = s.dp := rfl
@[simp] theorem State.setToS_ctxs (s : State) (l : List Flight) : (s.setToS l).ctxs = s.ctxs := rfl
@[simp] theorem State.setToS_ptp (s : State) (l : List Flight) : (s.setToS l).ptp = s.ptp := rfl
@[simp] theorem State.setToS_ap (s : State) (l : List Flight) : (s.setToS l).ap = s.ap := rfl
@[simp] theorem State.setToS_engDown (s : State) (l : List Flight) : (s.setToS l).engDown = s.engDown := rfl
@[simp] theorem State.setToS_eng (s : State) (l : List Flight) : (s.setToS l).eng = s.eng := rfl
@[simp] theorem State.setToS_fab (s : State) (l : List Flight) : (s.setToS l).fab = s.fab := rfl
@[simp] theorem State.setToS_cal (s : State) (l : List Flight) : (s.setToS l).cal = s.cal := rfl
@[simp] theorem State.setToS_nv (s : State) (l : List Flight) : (s.setToS l).nv = s.nv := rfl
@[simp] theorem State.setToS_col (s : State) (l : List Flight) : (s.setToS l).col = s.col := rfl
@[simp] theorem State.setToS_can (s : State) (l : List Flight) : (s.setToS l).can = s.can := rfl
@[simp] theorem State.setToS_host (s : State) (l : List Flight) : (s.setToS l).host = s.host := rfl
@[simp] theorem State.setToS_boot (s : State) (l : List Flight) : (s.setToS l).boot = s.boot := rfl
@[simp] theorem State.setToS_resetReq (s : State) (l : List Flight) : (s.setToS l).resetReq = s.resetReq := rfl
@[simp] theorem State.setToS_rd (s : State) (l : List Flight) (j : Key) : (s.setToS l).rd j = s.rd j := rfl
@[simp] theorem State.setToS_drd (s : State) (l : List Flight) (j : Key) : (s.setToS l).drd j = s.drd j := rfl

/-! setEng. -/

@[simp] theorem State.setEng_pending (s : State) (f : EngSys → EngSys) : (s.setEng f).pending = s.pending := rfl
@[simp] theorem State.setEng_now (s : State) (f : EngSys → EngSys) : (s.setEng f).now = s.now := rfl
@[simp] theorem State.setEng_od (s : State) (f : EngSys → EngSys) : (s.setEng f).od = s.od := rfl
@[simp] theorem State.setEng_dr (s : State) (f : EngSys → EngSys) : (s.setEng f).dr = s.dr := rfl
@[simp] theorem State.setEng_out (s : State) (f : EngSys → EngSys) : (s.setEng f).out = s.out := rfl
@[simp] theorem State.setEng_free (s : State) (f : EngSys → EngSys) : (s.setEng f).free = s.free := rfl
@[simp] theorem State.setEng_faultIn (s : State) (f : EngSys → EngSys) : (s.setEng f).faultIn = s.faultIn := rfl
@[simp] theorem State.setEng_link (s : State) (f : EngSys → EngSys) : (s.setEng f).link = s.link := rfl
@[simp] theorem State.setEng_chan (s : State) (f : EngSys → EngSys) : (s.setEng f).chan = s.chan := rfl
@[simp] theorem State.setEng_tcs (s : State) (f : EngSys → EngSys) : (s.setEng f).tcs = s.tcs := rfl
@[simp] theorem State.setEng_cups (s : State) (f : EngSys → EngSys) : (s.setEng f).cups = s.cups := rfl
@[simp] theorem State.setEng_dp (s : State) (f : EngSys → EngSys) : (s.setEng f).dp = s.dp := rfl
@[simp] theorem State.setEng_ctxs (s : State) (f : EngSys → EngSys) : (s.setEng f).ctxs = s.ctxs := rfl
@[simp] theorem State.setEng_ptp (s : State) (f : EngSys → EngSys) : (s.setEng f).ptp = s.ptp := rfl
@[simp] theorem State.setEng_ap (s : State) (f : EngSys → EngSys) : (s.setEng f).ap = s.ap := rfl
@[simp] theorem State.setEng_sched (s : State) (f : EngSys → EngSys) : (s.setEng f).sched = s.sched := rfl
@[simp] theorem State.setEng_engDown (s : State) (f : EngSys → EngSys) : (s.setEng f).engDown = s.engDown := rfl
@[simp] theorem State.setEng_eng (s : State) (f : EngSys → EngSys) : (s.setEng f).eng = f s.eng := rfl
@[simp] theorem State.setEng_fab (s : State) (f : EngSys → EngSys) : (s.setEng f).fab = s.fab := rfl
@[simp] theorem State.setEng_cal (s : State) (f : EngSys → EngSys) : (s.setEng f).cal = s.cal := rfl
@[simp] theorem State.setEng_nv (s : State) (f : EngSys → EngSys) : (s.setEng f).nv = s.nv := rfl
@[simp] theorem State.setEng_col (s : State) (f : EngSys → EngSys) : (s.setEng f).col = s.col := rfl
@[simp] theorem State.setEng_can (s : State) (f : EngSys → EngSys) : (s.setEng f).can = s.can := rfl
@[simp] theorem State.setEng_host (s : State) (f : EngSys → EngSys) : (s.setEng f).host = s.host := rfl
@[simp] theorem State.setEng_boot (s : State) (f : EngSys → EngSys) : (s.setEng f).boot = s.boot := rfl
@[simp] theorem State.setEng_resetReq (s : State) (f : EngSys → EngSys) : (s.setEng f).resetReq = s.resetReq := rfl
@[simp] theorem State.setEng_rd (s : State) (f : EngSys → EngSys) (j : Key) : (s.setEng f).rd j = s.rd j := rfl
@[simp] theorem State.setEng_drd (s : State) (f : EngSys → EngSys) (j : Key) : (s.setEng f).drd j = s.drd j := rfl

/-! setFab. -/

@[simp] theorem State.setFab_pending (s : State) (f : FabSys → FabSys) : (s.setFab f).pending = s.pending := rfl
@[simp] theorem State.setFab_now (s : State) (f : FabSys → FabSys) : (s.setFab f).now = s.now := rfl
@[simp] theorem State.setFab_od (s : State) (f : FabSys → FabSys) : (s.setFab f).od = s.od := rfl
@[simp] theorem State.setFab_dr (s : State) (f : FabSys → FabSys) : (s.setFab f).dr = s.dr := rfl
@[simp] theorem State.setFab_out (s : State) (f : FabSys → FabSys) : (s.setFab f).out = s.out := rfl
@[simp] theorem State.setFab_free (s : State) (f : FabSys → FabSys) : (s.setFab f).free = s.free := rfl
@[simp] theorem State.setFab_faultIn (s : State) (f : FabSys → FabSys) : (s.setFab f).faultIn = s.faultIn := rfl
@[simp] theorem State.setFab_link (s : State) (f : FabSys → FabSys) : (s.setFab f).link = s.link := rfl
@[simp] theorem State.setFab_chan (s : State) (f : FabSys → FabSys) : (s.setFab f).chan = s.chan := rfl
@[simp] theorem State.setFab_tcs (s : State) (f : FabSys → FabSys) : (s.setFab f).tcs = s.tcs := rfl
@[simp] theorem State.setFab_cups (s : State) (f : FabSys → FabSys) : (s.setFab f).cups = s.cups := rfl
@[simp] theorem State.setFab_dp (s : State) (f : FabSys → FabSys) : (s.setFab f).dp = s.dp := rfl
@[simp] theorem State.setFab_ctxs (s : State) (f : FabSys → FabSys) : (s.setFab f).ctxs = s.ctxs := rfl
@[simp] theorem State.setFab_ptp (s : State) (f : FabSys → FabSys) : (s.setFab f).ptp = s.ptp := rfl
@[simp] theorem State.setFab_ap (s : State) (f : FabSys → FabSys) : (s.setFab f).ap = s.ap := rfl
@[simp] theorem State.setFab_sched (s : State) (f : FabSys → FabSys) : (s.setFab f).sched = s.sched := rfl
@[simp] theorem State.setFab_engDown (s : State) (f : FabSys → FabSys) : (s.setFab f).engDown = s.engDown := rfl
@[simp] theorem State.setFab_eng (s : State) (f : FabSys → FabSys) : (s.setFab f).eng = s.eng := rfl
@[simp] theorem State.setFab_fab (s : State) (f : FabSys → FabSys) : (s.setFab f).fab = f s.fab := rfl
@[simp] theorem State.setFab_cal (s : State) (f : FabSys → FabSys) : (s.setFab f).cal = s.cal := rfl
@[simp] theorem State.setFab_nv (s : State) (f : FabSys → FabSys) : (s.setFab f).nv = s.nv := rfl
@[simp] theorem State.setFab_col (s : State) (f : FabSys → FabSys) : (s.setFab f).col = s.col := rfl
@[simp] theorem State.setFab_can (s : State) (f : FabSys → FabSys) : (s.setFab f).can = s.can := rfl
@[simp] theorem State.setFab_host (s : State) (f : FabSys → FabSys) : (s.setFab f).host = s.host := rfl
@[simp] theorem State.setFab_boot (s : State) (f : FabSys → FabSys) : (s.setFab f).boot = s.boot := rfl
@[simp] theorem State.setFab_resetReq (s : State) (f : FabSys → FabSys) : (s.setFab f).resetReq = s.resetReq := rfl
@[simp] theorem State.setFab_rd (s : State) (f : FabSys → FabSys) (j : Key) : (s.setFab f).rd j = s.rd j := rfl
@[simp] theorem State.setFab_drd (s : State) (f : FabSys → FabSys) (j : Key) : (s.setFab f).drd j = s.drd j := rfl

/-! setCal. -/

@[simp] theorem State.setCal_pending (s : State) (f : CalSys → CalSys) : (s.setCal f).pending = s.pending := rfl
@[simp] theorem State.setCal_now (s : State) (f : CalSys → CalSys) : (s.setCal f).now = s.now := rfl
@[simp] theorem State.setCal_od (s : State) (f : CalSys → CalSys) : (s.setCal f).od = s.od := rfl
@[simp] theorem State.setCal_dr (s : State) (f : CalSys → CalSys) : (s.setCal f).dr = s.dr := rfl
@[simp] theorem State.setCal_out (s : State) (f : CalSys → CalSys) : (s.setCal f).out = s.out := rfl
@[simp] theorem State.setCal_free (s : State) (f : CalSys → CalSys) : (s.setCal f).free = s.free := rfl
@[simp] theorem State.setCal_faultIn (s : State) (f : CalSys → CalSys) : (s.setCal f).faultIn = s.faultIn := rfl
@[simp] theorem State.setCal_link (s : State) (f : CalSys → CalSys) : (s.setCal f).link = s.link := rfl
@[simp] theorem State.setCal_chan (s : State) (f : CalSys → CalSys) : (s.setCal f).chan = s.chan := rfl
@[simp] theorem State.setCal_tcs (s : State) (f : CalSys → CalSys) : (s.setCal f).tcs = s.tcs := rfl
@[simp] theorem State.setCal_cups (s : State) (f : CalSys → CalSys) : (s.setCal f).cups = s.cups := rfl
@[simp] theorem State.setCal_dp (s : State) (f : CalSys → CalSys) : (s.setCal f).dp = s.dp := rfl
@[simp] theorem State.setCal_ctxs (s : State) (f : CalSys → CalSys) : (s.setCal f).ctxs = s.ctxs := rfl
@[simp] theorem State.setCal_ptp (s : State) (f : CalSys → CalSys) : (s.setCal f).ptp = s.ptp := rfl
@[simp] theorem State.setCal_ap (s : State) (f : CalSys → CalSys) : (s.setCal f).ap = s.ap := rfl
@[simp] theorem State.setCal_sched (s : State) (f : CalSys → CalSys) : (s.setCal f).sched = s.sched := rfl
@[simp] theorem State.setCal_engDown (s : State) (f : CalSys → CalSys) : (s.setCal f).engDown = s.engDown := rfl
@[simp] theorem State.setCal_eng (s : State) (f : CalSys → CalSys) : (s.setCal f).eng = s.eng := rfl
@[simp] theorem State.setCal_fab (s : State) (f : CalSys → CalSys) : (s.setCal f).fab = s.fab := rfl
@[simp] theorem State.setCal_cal (s : State) (f : CalSys → CalSys) : (s.setCal f).cal = f s.cal := rfl
@[simp] theorem State.setCal_nv (s : State) (f : CalSys → CalSys) : (s.setCal f).nv = s.nv := rfl
@[simp] theorem State.setCal_col (s : State) (f : CalSys → CalSys) : (s.setCal f).col = s.col := rfl
@[simp] theorem State.setCal_can (s : State) (f : CalSys → CalSys) : (s.setCal f).can = s.can := rfl
@[simp] theorem State.setCal_host (s : State) (f : CalSys → CalSys) : (s.setCal f).host = s.host := rfl
@[simp] theorem State.setCal_boot (s : State) (f : CalSys → CalSys) : (s.setCal f).boot = s.boot := rfl
@[simp] theorem State.setCal_resetReq (s : State) (f : CalSys → CalSys) : (s.setCal f).resetReq = s.resetReq := rfl
@[simp] theorem State.setCal_rd (s : State) (f : CalSys → CalSys) (j : Key) : (s.setCal f).rd j = s.rd j := rfl
@[simp] theorem State.setCal_drd (s : State) (f : CalSys → CalSys) (j : Key) : (s.setCal f).drd j = s.drd j := rfl

/-! nvSet. -/

@[simp] theorem State.nvSet_pending (s : State) (f : NvmSys → NvmSys) : (s.nvSet f).pending = s.pending := rfl
@[simp] theorem State.nvSet_now (s : State) (f : NvmSys → NvmSys) : (s.nvSet f).now = s.now := rfl
@[simp] theorem State.nvSet_od (s : State) (f : NvmSys → NvmSys) : (s.nvSet f).od = s.od := rfl
@[simp] theorem State.nvSet_dr (s : State) (f : NvmSys → NvmSys) : (s.nvSet f).dr = s.dr := rfl
@[simp] theorem State.nvSet_out (s : State) (f : NvmSys → NvmSys) : (s.nvSet f).out = s.out := rfl
@[simp] theorem State.nvSet_free (s : State) (f : NvmSys → NvmSys) : (s.nvSet f).free = s.free := rfl
@[simp] theorem State.nvSet_faultIn (s : State) (f : NvmSys → NvmSys) : (s.nvSet f).faultIn = s.faultIn := rfl
@[simp] theorem State.nvSet_link (s : State) (f : NvmSys → NvmSys) : (s.nvSet f).link = s.link := rfl
@[simp] theorem State.nvSet_chan (s : State) (f : NvmSys → NvmSys) : (s.nvSet f).chan = s.chan := rfl
@[simp] theorem State.nvSet_tcs (s : State) (f : NvmSys → NvmSys) : (s.nvSet f).tcs = s.tcs := rfl
@[simp] theorem State.nvSet_cups (s : State) (f : NvmSys → NvmSys) : (s.nvSet f).cups = s.cups := rfl
@[simp] theorem State.nvSet_dp (s : State) (f : NvmSys → NvmSys) : (s.nvSet f).dp = s.dp := rfl
@[simp] theorem State.nvSet_ctxs (s : State) (f : NvmSys → NvmSys) : (s.nvSet f).ctxs = s.ctxs := rfl
@[simp] theorem State.nvSet_ptp (s : State) (f : NvmSys → NvmSys) : (s.nvSet f).ptp = s.ptp := rfl
@[simp] theorem State.nvSet_ap (s : State) (f : NvmSys → NvmSys) : (s.nvSet f).ap = s.ap := rfl
@[simp] theorem State.nvSet_sched (s : State) (f : NvmSys → NvmSys) : (s.nvSet f).sched = s.sched := rfl
@[simp] theorem State.nvSet_engDown (s : State) (f : NvmSys → NvmSys) : (s.nvSet f).engDown = s.engDown := rfl
@[simp] theorem State.nvSet_eng (s : State) (f : NvmSys → NvmSys) : (s.nvSet f).eng = s.eng := rfl
@[simp] theorem State.nvSet_fab (s : State) (f : NvmSys → NvmSys) : (s.nvSet f).fab = s.fab := rfl
@[simp] theorem State.nvSet_cal (s : State) (f : NvmSys → NvmSys) : (s.nvSet f).cal = s.cal := rfl
@[simp] theorem State.nvSet_nv (s : State) (f : NvmSys → NvmSys) : (s.nvSet f).nv = f s.nv := rfl
@[simp] theorem State.nvSet_col (s : State) (f : NvmSys → NvmSys) : (s.nvSet f).col = s.col := rfl
@[simp] theorem State.nvSet_can (s : State) (f : NvmSys → NvmSys) : (s.nvSet f).can = s.can := rfl
@[simp] theorem State.nvSet_host (s : State) (f : NvmSys → NvmSys) : (s.nvSet f).host = s.host := rfl
@[simp] theorem State.nvSet_boot (s : State) (f : NvmSys → NvmSys) : (s.nvSet f).boot = s.boot := rfl
@[simp] theorem State.nvSet_resetReq (s : State) (f : NvmSys → NvmSys) : (s.nvSet f).resetReq = s.resetReq := rfl
@[simp] theorem State.nvSet_rd (s : State) (f : NvmSys → NvmSys) (j : Key) : (s.nvSet f).rd j = s.rd j := rfl
@[simp] theorem State.nvSet_drd (s : State) (f : NvmSys → NvmSys) (j : Key) : (s.nvSet f).drd j = s.drd j := rfl

/-! setCol. -/

@[simp] theorem State.setCol_pending (s : State) (f : ColSys → ColSys) : (s.setCol f).pending = s.pending := rfl
@[simp] theorem State.setCol_now (s : State) (f : ColSys → ColSys) : (s.setCol f).now = s.now := rfl
@[simp] theorem State.setCol_od (s : State) (f : ColSys → ColSys) : (s.setCol f).od = s.od := rfl
@[simp] theorem State.setCol_dr (s : State) (f : ColSys → ColSys) : (s.setCol f).dr = s.dr := rfl
@[simp] theorem State.setCol_out (s : State) (f : ColSys → ColSys) : (s.setCol f).out = s.out := rfl
@[simp] theorem State.setCol_free (s : State) (f : ColSys → ColSys) : (s.setCol f).free = s.free := rfl
@[simp] theorem State.setCol_faultIn (s : State) (f : ColSys → ColSys) : (s.setCol f).faultIn = s.faultIn := rfl
@[simp] theorem State.setCol_link (s : State) (f : ColSys → ColSys) : (s.setCol f).link = s.link := rfl
@[simp] theorem State.setCol_chan (s : State) (f : ColSys → ColSys) : (s.setCol f).chan = s.chan := rfl
@[simp] theorem State.setCol_tcs (s : State) (f : ColSys → ColSys) : (s.setCol f).tcs = s.tcs := rfl
@[simp] theorem State.setCol_cups (s : State) (f : ColSys → ColSys) : (s.setCol f).cups = s.cups := rfl
@[simp] theorem State.setCol_dp (s : State) (f : ColSys → ColSys) : (s.setCol f).dp = s.dp := rfl
@[simp] theorem State.setCol_ctxs (s : State) (f : ColSys → ColSys) : (s.setCol f).ctxs = s.ctxs := rfl
@[simp] theorem State.setCol_ptp (s : State) (f : ColSys → ColSys) : (s.setCol f).ptp = s.ptp := rfl
@[simp] theorem State.setCol_ap (s : State) (f : ColSys → ColSys) : (s.setCol f).ap = s.ap := rfl
@[simp] theorem State.setCol_sched (s : State) (f : ColSys → ColSys) : (s.setCol f).sched = s.sched := rfl
@[simp] theorem State.setCol_engDown (s : State) (f : ColSys → ColSys) : (s.setCol f).engDown = s.engDown := rfl
@[simp] theorem State.setCol_eng (s : State) (f : ColSys → ColSys) : (s.setCol f).eng = s.eng := rfl
@[simp] theorem State.setCol_fab (s : State) (f : ColSys → ColSys) : (s.setCol f).fab = s.fab := rfl
@[simp] theorem State.setCol_cal (s : State) (f : ColSys → ColSys) : (s.setCol f).cal = s.cal := rfl
@[simp] theorem State.setCol_nv (s : State) (f : ColSys → ColSys) : (s.setCol f).nv = s.nv := rfl
@[simp] theorem State.setCol_col (s : State) (f : ColSys → ColSys) : (s.setCol f).col = f s.col := rfl
@[simp] theorem State.setCol_can (s : State) (f : ColSys → ColSys) : (s.setCol f).can = s.can := rfl
@[simp] theorem State.setCol_host (s : State) (f : ColSys → ColSys) : (s.setCol f).host = s.host := rfl
@[simp] theorem State.setCol_boot (s : State) (f : ColSys → ColSys) : (s.setCol f).boot = s.boot := rfl
@[simp] theorem State.setCol_resetReq (s : State) (f : ColSys → ColSys) : (s.setCol f).resetReq = s.resetReq := rfl
@[simp] theorem State.setCol_rd (s : State) (f : ColSys → ColSys) (j : Key) : (s.setCol f).rd j = s.rd j := rfl
@[simp] theorem State.setCol_drd (s : State) (f : ColSys → ColSys) (j : Key) : (s.setCol f).drd j = s.drd j := rfl

/-! setCan. -/

@[simp] theorem State.setCan_pending (s : State) (f : CanSys → CanSys) : (s.setCan f).pending = s.pending := rfl
@[simp] theorem State.setCan_now (s : State) (f : CanSys → CanSys) : (s.setCan f).now = s.now := rfl
@[simp] theorem State.setCan_od (s : State) (f : CanSys → CanSys) : (s.setCan f).od = s.od := rfl
@[simp] theorem State.setCan_dr (s : State) (f : CanSys → CanSys) : (s.setCan f).dr = s.dr := rfl
@[simp] theorem State.setCan_out (s : State) (f : CanSys → CanSys) : (s.setCan f).out = s.out := rfl
@[simp] theorem State.setCan_free (s : State) (f : CanSys → CanSys) : (s.setCan f).free = s.free := rfl
@[simp] theorem State.setCan_faultIn (s : State) (f : CanSys → CanSys) : (s.setCan f).faultIn = s.faultIn := rfl
@[simp] theorem State.setCan_link (s : State) (f : CanSys → CanSys) : (s.setCan f).link = s.link := rfl
@[simp] theorem State.setCan_chan (s : State) (f : CanSys → CanSys) : (s.setCan f).chan = s.chan := rfl
@[simp] theorem State.setCan_tcs (s : State) (f : CanSys → CanSys) : (s.setCan f).tcs = s.tcs := rfl
@[simp] theorem State.setCan_cups (s : State) (f : CanSys → CanSys) : (s.setCan f).cups = s.cups := rfl
@[simp] theorem State.setCan_dp (s : State) (f : CanSys → CanSys) : (s.setCan f).dp = s.dp := rfl
@[simp] theorem State.setCan_ctxs (s : State) (f : CanSys → CanSys) : (s.setCan f).ctxs = s.ctxs := rfl
@[simp] theorem State.setCan_ptp (s : State) (f : CanSys → CanSys) : (s.setCan f).ptp = s.ptp := rfl
@[simp] theorem State.setCan_ap (s : State) (f : CanSys → CanSys) : (s.setCan f).ap = s.ap := rfl
@[simp] theorem State.setCan_sched (s : State) (f : CanSys → CanSys) : (s.setCan f).sched = s.sched := rfl
@[simp] theorem State.setCan_engDown (s : State) (f : CanSys → CanSys) : (s.setCan f).engDown = s.engDown := rfl
@[simp] theorem State.setCan_eng (s : State) (f : CanSys → CanSys) : (s.setCan f).eng = s.eng := rfl
@[simp] theorem State.setCan_fab (s : State) (f : CanSys → CanSys) : (s.setCan f).fab = s.fab := rfl
@[simp] theorem State.setCan_cal (s : State) (f : CanSys → CanSys) : (s.setCan f).cal = s.cal := rfl
@[simp] theorem State.setCan_nv (s : State) (f : CanSys → CanSys) : (s.setCan f).nv = s.nv := rfl
@[simp] theorem State.setCan_col (s : State) (f : CanSys → CanSys) : (s.setCan f).col = s.col := rfl
@[simp] theorem State.setCan_can (s : State) (f : CanSys → CanSys) : (s.setCan f).can = f s.can := rfl
@[simp] theorem State.setCan_host (s : State) (f : CanSys → CanSys) : (s.setCan f).host = s.host := rfl
@[simp] theorem State.setCan_boot (s : State) (f : CanSys → CanSys) : (s.setCan f).boot = s.boot := rfl
@[simp] theorem State.setCan_resetReq (s : State) (f : CanSys → CanSys) : (s.setCan f).resetReq = s.resetReq := rfl
@[simp] theorem State.setCan_rd (s : State) (f : CanSys → CanSys) (j : Key) : (s.setCan f).rd j = s.rd j := rfl
@[simp] theorem State.setCan_drd (s : State) (f : CanSys → CanSys) (j : Key) : (s.setCan f).drd j = s.drd j := rfl

/-! setHost. -/

@[simp] theorem State.setHost_pending (s : State) (f : HostSys → HostSys) : (s.setHost f).pending = s.pending := rfl
@[simp] theorem State.setHost_now (s : State) (f : HostSys → HostSys) : (s.setHost f).now = s.now := rfl
@[simp] theorem State.setHost_od (s : State) (f : HostSys → HostSys) : (s.setHost f).od = s.od := rfl
@[simp] theorem State.setHost_dr (s : State) (f : HostSys → HostSys) : (s.setHost f).dr = s.dr := rfl
@[simp] theorem State.setHost_out (s : State) (f : HostSys → HostSys) : (s.setHost f).out = s.out := rfl
@[simp] theorem State.setHost_free (s : State) (f : HostSys → HostSys) : (s.setHost f).free = s.free := rfl
@[simp] theorem State.setHost_faultIn (s : State) (f : HostSys → HostSys) : (s.setHost f).faultIn = s.faultIn := rfl
@[simp] theorem State.setHost_link (s : State) (f : HostSys → HostSys) : (s.setHost f).link = s.link := rfl
@[simp] theorem State.setHost_chan (s : State) (f : HostSys → HostSys) : (s.setHost f).chan = s.chan := rfl
@[simp] theorem State.setHost_tcs (s : State) (f : HostSys → HostSys) : (s.setHost f).tcs = s.tcs := rfl
@[simp] theorem State.setHost_cups (s : State) (f : HostSys → HostSys) : (s.setHost f).cups = s.cups := rfl
@[simp] theorem State.setHost_dp (s : State) (f : HostSys → HostSys) : (s.setHost f).dp = s.dp := rfl
@[simp] theorem State.setHost_ctxs (s : State) (f : HostSys → HostSys) : (s.setHost f).ctxs = s.ctxs := rfl
@[simp] theorem State.setHost_ptp (s : State) (f : HostSys → HostSys) : (s.setHost f).ptp = s.ptp := rfl
@[simp] theorem State.setHost_ap (s : State) (f : HostSys → HostSys) : (s.setHost f).ap = s.ap := rfl
@[simp] theorem State.setHost_sched (s : State) (f : HostSys → HostSys) : (s.setHost f).sched = s.sched := rfl
@[simp] theorem State.setHost_engDown (s : State) (f : HostSys → HostSys) : (s.setHost f).engDown = s.engDown := rfl
@[simp] theorem State.setHost_eng (s : State) (f : HostSys → HostSys) : (s.setHost f).eng = s.eng := rfl
@[simp] theorem State.setHost_fab (s : State) (f : HostSys → HostSys) : (s.setHost f).fab = s.fab := rfl
@[simp] theorem State.setHost_cal (s : State) (f : HostSys → HostSys) : (s.setHost f).cal = s.cal := rfl
@[simp] theorem State.setHost_nv (s : State) (f : HostSys → HostSys) : (s.setHost f).nv = s.nv := rfl
@[simp] theorem State.setHost_col (s : State) (f : HostSys → HostSys) : (s.setHost f).col = s.col := rfl
@[simp] theorem State.setHost_can (s : State) (f : HostSys → HostSys) : (s.setHost f).can = s.can := rfl
@[simp] theorem State.setHost_host (s : State) (f : HostSys → HostSys) : (s.setHost f).host = f s.host := rfl
@[simp] theorem State.setHost_boot (s : State) (f : HostSys → HostSys) : (s.setHost f).boot = s.boot := rfl
@[simp] theorem State.setHost_resetReq (s : State) (f : HostSys → HostSys) : (s.setHost f).resetReq = s.resetReq := rfl
@[simp] theorem State.setHost_rd (s : State) (f : HostSys → HostSys) (j : Key) : (s.setHost f).rd j = s.rd j := rfl
@[simp] theorem State.setHost_drd (s : State) (f : HostSys → HostSys) (j : Key) : (s.setHost f).drd j = s.drd j := rfl

/-! setBoot. -/

@[simp] theorem State.setBoot_pending (s : State) (f : BootSys → BootSys) : (s.setBoot f).pending = s.pending := rfl
@[simp] theorem State.setBoot_now (s : State) (f : BootSys → BootSys) : (s.setBoot f).now = s.now := rfl
@[simp] theorem State.setBoot_od (s : State) (f : BootSys → BootSys) : (s.setBoot f).od = s.od := rfl
@[simp] theorem State.setBoot_dr (s : State) (f : BootSys → BootSys) : (s.setBoot f).dr = s.dr := rfl
@[simp] theorem State.setBoot_out (s : State) (f : BootSys → BootSys) : (s.setBoot f).out = s.out := rfl
@[simp] theorem State.setBoot_free (s : State) (f : BootSys → BootSys) : (s.setBoot f).free = s.free := rfl
@[simp] theorem State.setBoot_faultIn (s : State) (f : BootSys → BootSys) : (s.setBoot f).faultIn = s.faultIn := rfl
@[simp] theorem State.setBoot_link (s : State) (f : BootSys → BootSys) : (s.setBoot f).link = s.link := rfl
@[simp] theorem State.setBoot_chan (s : State) (f : BootSys → BootSys) : (s.setBoot f).chan = s.chan := rfl
@[simp] theorem State.setBoot_tcs (s : State) (f : BootSys → BootSys) : (s.setBoot f).tcs = s.tcs := rfl
@[simp] theorem State.setBoot_cups (s : State) (f : BootSys → BootSys) : (s.setBoot f).cups = s.cups := rfl
@[simp] theorem State.setBoot_dp (s : State) (f : BootSys → BootSys) : (s.setBoot f).dp = s.dp := rfl
@[simp] theorem State.setBoot_ctxs (s : State) (f : BootSys → BootSys) : (s.setBoot f).ctxs = s.ctxs := rfl
@[simp] theorem State.setBoot_ptp (s : State) (f : BootSys → BootSys) : (s.setBoot f).ptp = s.ptp := rfl
@[simp] theorem State.setBoot_ap (s : State) (f : BootSys → BootSys) : (s.setBoot f).ap = s.ap := rfl
@[simp] theorem State.setBoot_sched (s : State) (f : BootSys → BootSys) : (s.setBoot f).sched = s.sched := rfl
@[simp] theorem State.setBoot_engDown (s : State) (f : BootSys → BootSys) : (s.setBoot f).engDown = s.engDown := rfl
@[simp] theorem State.setBoot_eng (s : State) (f : BootSys → BootSys) : (s.setBoot f).eng = s.eng := rfl
@[simp] theorem State.setBoot_fab (s : State) (f : BootSys → BootSys) : (s.setBoot f).fab = s.fab := rfl
@[simp] theorem State.setBoot_cal (s : State) (f : BootSys → BootSys) : (s.setBoot f).cal = s.cal := rfl
@[simp] theorem State.setBoot_nv (s : State) (f : BootSys → BootSys) : (s.setBoot f).nv = s.nv := rfl
@[simp] theorem State.setBoot_col (s : State) (f : BootSys → BootSys) : (s.setBoot f).col = s.col := rfl
@[simp] theorem State.setBoot_can (s : State) (f : BootSys → BootSys) : (s.setBoot f).can = s.can := rfl
@[simp] theorem State.setBoot_host (s : State) (f : BootSys → BootSys) : (s.setBoot f).host = s.host := rfl
@[simp] theorem State.setBoot_boot (s : State) (f : BootSys → BootSys) : (s.setBoot f).boot = f s.boot := rfl
@[simp] theorem State.setBoot_resetReq (s : State) (f : BootSys → BootSys) : (s.setBoot f).resetReq = s.resetReq := rfl
@[simp] theorem State.setBoot_rd (s : State) (f : BootSys → BootSys) (j : Key) : (s.setBoot f).rd j = s.rd j := rfl
@[simp] theorem State.setBoot_drd (s : State) (f : BootSys → BootSys) (j : Key) : (s.setBoot f).drd j = s.drd j := rfl

/-! resetDue. -/

@[simp] theorem State.resetDue_pending (s : State) (c : Option Nat) : (s.resetDue c).pending = s.pending := rfl
@[simp] theorem State.resetDue_now (s : State) (c : Option Nat) : (s.resetDue c).now = s.now := rfl
@[simp] theorem State.resetDue_od (s : State) (c : Option Nat) : (s.resetDue c).od = s.od := rfl
@[simp] theorem State.resetDue_dr (s : State) (c : Option Nat) : (s.resetDue c).dr = s.dr := rfl
@[simp] theorem State.resetDue_out (s : State) (c : Option Nat) : (s.resetDue c).out = s.out := rfl
@[simp] theorem State.resetDue_free (s : State) (c : Option Nat) : (s.resetDue c).free = s.free := rfl
@[simp] theorem State.resetDue_faultIn (s : State) (c : Option Nat) : (s.resetDue c).faultIn = s.faultIn := rfl
@[simp] theorem State.resetDue_link (s : State) (c : Option Nat) : (s.resetDue c).link = s.link := rfl
@[simp] theorem State.resetDue_chan (s : State) (c : Option Nat) : (s.resetDue c).chan = s.chan := rfl
@[simp] theorem State.resetDue_tcs (s : State) (c : Option Nat) : (s.resetDue c).tcs = s.tcs := rfl
@[simp] theorem State.resetDue_cups (s : State) (c : Option Nat) : (s.resetDue c).cups = s.cups := rfl
@[simp] theorem State.resetDue_dp (s : State) (c : Option Nat) : (s.resetDue c).dp = s.dp := rfl
@[simp] theorem State.resetDue_ctxs (s : State) (c : Option Nat) : (s.resetDue c).ctxs = s.ctxs := rfl
@[simp] theorem State.resetDue_ptp (s : State) (c : Option Nat) : (s.resetDue c).ptp = s.ptp := rfl
@[simp] theorem State.resetDue_ap (s : State) (c : Option Nat) : (s.resetDue c).ap = s.ap := rfl
@[simp] theorem State.resetDue_sched (s : State) (c : Option Nat) : (s.resetDue c).sched = s.sched := rfl
@[simp] theorem State.resetDue_engDown (s : State) (c : Option Nat) : (s.resetDue c).engDown = s.engDown := rfl
@[simp] theorem State.resetDue_eng (s : State) (c : Option Nat) : (s.resetDue c).eng = s.eng := rfl
@[simp] theorem State.resetDue_fab (s : State) (c : Option Nat) : (s.resetDue c).fab = s.fab := rfl
@[simp] theorem State.resetDue_cal (s : State) (c : Option Nat) : (s.resetDue c).cal = s.cal := rfl
@[simp] theorem State.resetDue_nv (s : State) (c : Option Nat) : (s.resetDue c).nv = s.nv := rfl
@[simp] theorem State.resetDue_col (s : State) (c : Option Nat) : (s.resetDue c).col = s.col := rfl
@[simp] theorem State.resetDue_can (s : State) (c : Option Nat) : (s.resetDue c).can = s.can := rfl
@[simp] theorem State.resetDue_host (s : State) (c : Option Nat) : (s.resetDue c).host = s.host := rfl
@[simp] theorem State.resetDue_boot (s : State) (c : Option Nat) : (s.resetDue c).boot = s.boot := rfl
@[simp] theorem State.resetDue_rd (s : State) (c : Option Nat) (j : Key) : (s.resetDue c).rd j = s.rd j := rfl
@[simp] theorem State.resetDue_drd (s : State) (c : Option Nat) (j : Key) : (s.resetDue c).drd j = s.drd j := rfl

end Sys2Proof.Machine
end

