-- ==== Sys2Proof/Laws/Units.lean ====
section
/-! SUPPORT. Reading a unit of the device after one unit has been changed. -/

namespace Sys2Proof.Machine

theorem getD_upd_self {α : Type} {l : List α} {i : Nat} (f : α → α) (d : α) (h : i < l.length) : (upd l i f).getD i d = f (l.getD i d) := by
  simp [upd, List.getD, List.getElem?_modify, h]

theorem getD_upd_ne {α : Type} {l : List α} {i j : Nat} (f : α → α) (d : α) (h : i ≠ j) : (upd l i f).getD j d = l.getD j d := by
  simp [upd, List.getD, List.getElem?_modify, h]

theorem getD_upd_out {α : Type} {l : List α} {i : Nat} (f : α → α) (h : l.length ≤ i) : upd l i f = l := by
  induction l generalizing i with
  | nil => simp [upd]
  | cons a r ih =>
    cases i with
    | zero => simp at h
    | succ i =>
      simp only [upd, List.modify_succ_cons, List.cons.injEq, true_and]
      exact ih (by simpa using h)

theorem State.linkAt_setLink {s : State} {n : Nat} (f : Link → Link) (h : n < s.link.links.length) : (s.setLink n f).linkAt n = f (s.linkAt n) :=
  getD_upd_self f {} h

theorem State.linkAt_setLink_ne {s : State} {n m : Nat} (f : Link → Link) (h : n ≠ m) : (s.setLink n f).linkAt m = s.linkAt m :=
  getD_upd_ne f {} h

theorem State.chanAt_setChan {s : State} {n : Nat} (f : Chan → Chan) (h : n < s.chan.chans.length) : (s.setChan n f).chanAt n = f (s.chanAt n) :=
  getD_upd_self f {} h

theorem State.chanAt_setChan_ne {s : State} {n m : Nat} (f : Chan → Chan) (h : n ≠ m) : (s.setChan n f).chanAt m = s.chanAt m :=
  getD_upd_ne f {} h

theorem State.gateAt_setGate {s : State} {n : Nat} (f : Gate → Gate) (h : n < s.chan.gates.length) : (s.setGate n f).gateAt n = f (s.gateAt n) :=
  getD_upd_self f {} h

theorem State.gateAt_setGate_ne {s : State} {n m : Nat} (f : Gate → Gate) (h : n ≠ m) : (s.setGate n f).gateAt m = s.gateAt m :=
  getD_upd_ne f {} h

theorem State.tcAt_setTc {s : State} {n : Nat} (f : Tc → Tc) (h : n < s.tcs.length) : (s.setTc n f).tcAt n = f (s.tcAt n) :=
  getD_upd_self f {} h

theorem State.tcAt_setTc_ne {s : State} {n m : Nat} (f : Tc → Tc) (h : n ≠ m) : (s.setTc n f).tcAt m = s.tcAt m :=
  getD_upd_ne f {} h

theorem State.cupAt_setCup {s : State} {n : Nat} (f : Cup → Cup) (h : n < s.cups.length) : (s.setCup n f).cupAt n = f (s.cupAt n) :=
  getD_upd_self f {} h

theorem State.cupAt_setCup_ne {s : State} {n m : Nat} (f : Cup → Cup) (h : n ≠ m) : (s.setCup n f).cupAt m = s.cupAt m :=
  getD_upd_ne f {} h

theorem State.dpllAt_setDpll {s : State} {n : Nat} (f : Dpll → Dpll) (h : n < s.dp.dplls.length) : (s.setDpll n f).dpllAt n = f (s.dpllAt n) :=
  getD_upd_self f {} h

theorem State.dpllAt_setDpll_ne {s : State} {n m : Nat} (f : Dpll → Dpll) (h : n ≠ m) : (s.setDpll n f).dpllAt m = s.dpllAt m :=
  getD_upd_ne f {} h

theorem State.carafeAt_setCarafe {s : State} {n : Nat} (f : Carafe → Carafe) (h : n < s.dp.carafes.length) : (s.setCarafe n f).carafeAt n = f (s.carafeAt n) :=
  getD_upd_self f {} h

theorem State.carafeAt_setCarafe_ne {s : State} {n m : Nat} (f : Carafe → Carafe) (h : n ≠ m) : (s.setCarafe n f).carafeAt m = s.carafeAt m :=
  getD_upd_ne f {} h

theorem State.ctxAt_setCtx {s : State} {n : Nat} (f : Ctx → Ctx) (h : n < s.ctxs.length) : (s.setCtx n f).ctxAt n = f (s.ctxAt n) :=
  getD_upd_self f {} h

theorem State.ctxAt_setCtx_ne {s : State} {n m : Nat} (f : Ctx → Ctx) (h : n ≠ m) : (s.setCtx n f).ctxAt m = s.ctxAt m :=
  getD_upd_ne f {} h

theorem State.apllAt_setApll {s : State} {n : Nat} (f : Apll → Apll) (h : n < s.ap.aplls.length) : (s.setApll n f).apllAt n = f (s.apllAt n) :=
  getD_upd_self f {} h

theorem State.apllAt_setApll_ne {s : State} {n m : Nat} (f : Apll → Apll) (h : n ≠ m) : (s.setApll n f).apllAt m = s.apllAt m :=
  getD_upd_ne f {} h

theorem State.outAt_setOut {s : State} {n : Nat} (f : OutPath → OutPath) (h : n < s.ap.outs.length) : (s.setOut n f).outAt n = f (s.outAt n) :=
  getD_upd_self f {} h

theorem State.outAt_setOut_ne {s : State} {n m : Nat} (f : OutPath → OutPath) (h : n ≠ m) : (s.setOut n f).outAt m = s.outAt m :=
  getD_upd_ne f {} h

theorem State.schedAt_setSched {s : State} {n : Nat} (f : SchedEntry → SchedEntry) (h : n < s.sched.entries.length) : (s.setSched n f).schedAt n = f (s.schedAt n) :=
  getD_upd_self f {} h

theorem State.schedAt_setSched_ne {s : State} {n m : Nat} (f : SchedEntry → SchedEntry) (h : n ≠ m) : (s.setSched n f).schedAt m = s.schedAt m :=
  getD_upd_ne f {} h

theorem State.reqAt_setReq {s : State} {n : Nat} (f : Requester → Requester) (h : n < s.eng.requesters.length) : (s.setReq n f).reqAt n = f (s.reqAt n) :=
  getD_upd_self f {} h

theorem State.reqAt_setReq_ne {s : State} {n m : Nat} (f : Requester → Requester) (h : n ≠ m) : (s.setReq n f).reqAt m = s.reqAt m :=
  getD_upd_ne f {} h

theorem State.portAt_setPort {s : State} {n : Nat} (f : FabPort → FabPort) (h : n < s.fab.ports.length) : (s.setPort n f).portAt n = f (s.portAt n) :=
  getD_upd_self f {} h

theorem State.portAt_setPort_ne {s : State} {n m : Nat} (f : FabPort → FabPort) (h : n ≠ m) : (s.setPort n f).portAt m = s.portAt m :=
  getD_upd_ne f {} h

theorem State.slotAt_setSlot {s : State} {n : Nat} (f : ReqSlot → ReqSlot) (h : n < s.fab.slots.length) : (s.setSlot n f).slotAt n = f (s.slotAt n) :=
  getD_upd_self f {} h

theorem State.slotAt_setSlot_ne {s : State} {n m : Nat} (f : ReqSlot → ReqSlot) (h : n ≠ m) : (s.setSlot n f).slotAt m = s.slotAt m :=
  getD_upd_ne f {} h

theorem State.dieCal_setDieCal {s : State} {n : Nat} (f : DieCal → DieCal) (h : n < s.cal.dies.length) : (s.setDieCal n f).dieCal n = f (s.dieCal n) :=
  getD_upd_self f {} h

theorem State.dieCal_setDieCal_ne {s : State} {n m : Nat} (f : DieCal → DieCal) (h : n ≠ m) : (s.setDieCal n f).dieCal m = s.dieCal m :=
  getD_upd_ne f {} h

theorem State.outCal_setOutCal {s : State} {n : Nat} (f : OutCal → OutCal) (h : n < s.cal.outs.length) : (s.setOutCal n f).outCal n = f (s.outCal n) :=
  getD_upd_self f {} h

theorem State.outCal_setOutCal_ne {s : State} {n m : Nat} (f : OutCal → OutCal) (h : n ≠ m) : (s.setOutCal n f).outCal m = s.outCal m :=
  getD_upd_ne f {} h

theorem State.streamAt_setStream {s : State} {n : Nat} (f : Stream → Stream) (h : n < s.host.streams.length) : (s.setStream n f).streamAt n = f (s.streamAt n) :=
  getD_upd_self f {} h

theorem State.streamAt_setStream_ne {s : State} {n m : Nat} (f : Stream → Stream) (h : n ≠ m) : (s.setStream n f).streamAt m = s.streamAt m :=
  getD_upd_ne f {} h

theorem State.tpdoAt_setTpdo {s : State} {n : Nat} (f : Tpdo → Tpdo) (h : n < s.can.tpdos.length) : (s.setTpdo n f).tpdoAt n = f (s.tpdoAt n) :=
  getD_upd_self f {} h

theorem State.tpdoAt_setTpdo_ne {s : State} {n m : Nat} (f : Tpdo → Tpdo) (h : n ≠ m) : (s.setTpdo n f).tpdoAt m = s.tpdoAt m :=
  getD_upd_ne f {} h

end Sys2Proof.Machine
end

