-- ==== Sys2Proof/Laws/Write.lean ====
section
/-! SUPPORT. What a write that has a row of its own does: journalled, and its entry's effect at once. -/

namespace Sys2Proof.Machine

theorem live_of {s : State} (f : State → State) (h : Live s) : live s f = f s := by
  unfold live
  rw [h]
  rfl

theorem timed_of {s : State} (f : State → State) (h : Runs s) : timed s f = f s := by
  unfold timed
  rw [h.1, h.2]
  rfl

/-! A change at the host port and a transfer over a link do not meet. -/

theorem many_host {α : Type} (f : α → State → State) (g : HostSys → HostSys) (h : ∀ a s, f a (s.setHost g) = (f a s).setHost g) :
    ∀ (l : List α) (s : State), (s.setHost g).many l f = (s.many l f).setHost g
  | [], _ => rfl
  | a :: r, s => by
    have := many_host f g h r (f a s)
    simp only [State.many, List.foldl_cons] at this ⊢
    rw [h, this]

theorem showLeftUp_host (s : State) (g : HostSys → HostSys) (l : Nat) : showLeftUp (s.setHost g) l = (showLeftUp s l).setHost g := by
  have e : (s.setHost g).linkAt l = s.linkAt l := rfl
  unfold showLeftUp
  rw [e]
  split <;> rfl

theorem publishLink_host (s : State) (g : HostSys → HostSys) (l : Nat) : publishLink (s.setHost g) l = (publishLink s l).setHost g := by
  have hm : ∀ s : State, ((s.setHost g).many (linkRecord (s.linkAt l)) fun e s =>
      if l < 7 then s.put (key (0x2020 + l) e.1) e.2 else s.dput (key (0x2020 + l) e.1) e.2) =
      (s.many (linkRecord (s.linkAt l)) fun e s =>
      if l < 7 then s.put (key (0x2020 + l) e.1) e.2 else s.dput (key (0x2020 + l) e.1) e.2).setHost g :=
    fun s => many_host _ g (fun a s => by split <;> rfl) _ s
  unfold publishLink
  have e : (s.setHost g).linkAt l = s.linkAt l := rfl
  rw [e, hm]
  exact showLeftUp_host _ g l

theorem carry_host (s : State) (g : HostSys → HostSys) (l : Nat) (rev : Bool) (ws : List Nat) (h : (carry s l rev ws 0).1 = true) :
    (carry (s.setHost g) l rev ws 0).1 = true ∧ (carry (s.setHost g) l rev ws 0).2.2 = (carry s l rev ws 0).2.2.setHost g := by
  have e : (s.setHost g).linkAt l = s.linkAt l := rfl
  have u : (s.setHost g).linkUp l = s.linkUp l := rfl
  unfold carry at h ⊢
  rw [u, e]
  generalize carryPath ((s.linkAt l).dir rev) ws 0 = r at h ⊢
  obtain ⟨r1, w, r2⟩ := r
  by_cases hu : s.linkUp l = true
  · simp only [hu, if_true] at h ⊢
    cases w with
    | accepted => exact ⟨rfl, publishLink_host (s.setLink l fun k => injectDone (k.setDir rev r1)) g l⟩
    | _ => simp at h
  · simp [hu] at h

theorem carriedTo_host {s : State} {g : HostSys → HostSys} {die : Nat} {ws : List Nat} {f : State → State} (h : (crossed s die ws).1 = true) :
    carriedTo (s.setHost g) die ws f = f ((crossed s die ws).2.setHost g) := by
  unfold carriedTo
  unfold crossed at h ⊢
  split
  · rename_i l hl
    simp only [hl] at h ⊢
    have k := carry_host s g l true ws h
    unfold carried
    simp only [k.1, if_true, k.2]
  · rename_i hl
    simp only [hl]

theorem crossed_host (s : State) (die : Nat) (ws : List Nat) : (crossed s die ws).2.host = s.host := by
  unfold crossed
  split
  · rfl
  · exact (carry_fits (s00 := s) (fp := 102) (by decide) (Fits.refl _ s) _ _ _ _).host (by decide)

theorem setHost_id {s : State} {g : HostSys → HostSys} (h : g s.host = s.host) : s.setHost g = s := by
  unfold State.setHost
  rw [h]

theorem setHost_setHost (s : State) (f g : HostSys → HostSys) : (s.setHost f).setHost g = s.setHost (g ∘ f) := rfl

/-- Nothing comes in where nothing waits. -/
theorem refill_quiet {s : State} (h : QuietPort s) : refill s = s := by
  obtain ⟨_, h2, h3, h4⟩ := h
  have e : refillHolding s = s := by unfold refillHolding; rw [h3]
  unfold refill
  dsimp only
  rw [e, h2]
  unfold odResume
  simp only [List.length_nil, refillStalled, h4, odResumeN]

/-- An accepted write takes effect on the state in which it is journalled and has come to its die. -/
theorem named_write {s : State} {via : Iface} {base count i sub : Nat} {d : Datum} (hi : i < count)
    (hd : streamData (base + i) sub = none) (h : Accepts s via (base + i) sub d) :
    namedWrite s via base count i sub d =
      refill (applyWrite serveRemote (arrived s via (base + i) sub d) via (base + i) sub d) := by
  obtain ⟨_, hon, hok, ⟨hp, hst, hh, _⟩, hrec, hx⟩ := h
  generalize hI : base + i = index at *
  have h0 : (hostAccept s via index sub d).1 = 0 := by
    unfold hostAccept
    simp [hok]
  have h1 : (journalled s via index sub d).host = s.host :=
    (hostAccept_fits (s00 := s) (fp := 524322) (by decide) (Fits.refl _ s) via index sub d).host (by decide)
  have hf : frameRefuse index sub d = 0 := by
    unfold frameRefuse
    rw [hd]
    simp only [Option.isSome_none, Bool.false_eq_true, if_false]
    refine Classical.byContradiction fun k => ?_
    unfold writeRefuse at hok
    rw [if_pos k] at hok
    exact k hok
  have hpc : ∀ c, pendingCount s c = 0 := fun c => by unfold pendingCount; rw [hp]; rfl
  let p : Posted := { via := via, index := index, sub := sub, d := d, ticket := ticketOf s (journalled s via index sub d) }
  have hpost : hostPost s via index sub d = (0, postWrite (journalled s via index sub d) p) := by
    unfold hostPost
    rw [hd]
    unfold acceptPost
    simp only [h0, ne_eq, not_true_eq_false, if_false]
    rfl
  have hw : hostWrite s via .silent index sub d = (some 0, postWrite (journalled s via index sub d) p) := by
    unfold hostWrite
    simp only [hf, ne_eq, not_true_eq_false, if_false, hh, Option.isSome_none, Bool.false_eq_true, hpc, heldBack, hst, List.any_nil,
      Bool.or_false, hpost]
    split <;> rfl
  have hpd : (postWrite (journalled s via index sub d) p).host.posted = [p] := by
    change (journalled s via index sub d).host.posted ++ [p] = [p]
    rw [h1, hp]
    rfl
  have hready : postedReady (postWrite (journalled s via index sub d) p) p = true := by
    unfold postedReady behindOther
    rw [hpd]
    have hdie : dieReachable (postWrite (journalled s via index sub d) p) (dieOf index sub) = true := by
      change dieReachable (journalled s via index sub d) (dieOf index sub) = true
      unfold crossing crossed at hx
      unfold dieReachable
      split
      · rfl
      · rename_i hz
        unfold linkOfDie at hx
        simp only [hz, if_false] at hx
        by_cases h1 : dieOf index sub = 1
        · simp only [h1, if_true] at hx ⊢
          unfold carry at hx
          split at hx
          · assumption
          · cases hx
        · simp only [h1, if_false] at hx ⊢
          unfold carry at hx
          split at hx
          · assumption
          · cases hx
    simp only [p, hdie, Bool.true_and, List.takeWhile_cons, bne_self_eq_false, Bool.false_eq_true, if_false, List.any_nil, Bool.not_false,
      Bool.and_true]
    exact hrec
  unfold namedWrite
  rw [hI, if_pos ⟨hi, hon⟩]
  unfold writeNow
  rw [hw]
  simp only
  have hwait : waitingWrites (postWrite (journalled s via index sub d) p) = 1 := by
    unfold waitingWrites
    rw [hpd]
    change [p].length + (journalled s via index sub d).host.stalled.length + b2n (journalled s via index sub d).host.holding.isSome = 1
    rw [h1, hst, hh]
    rfl
  unfold settleIsland
  rw [hwait]
  unfold flushIsland flushIsland takeEffect
  rw [hpd]
  have hpi : (islandOf p.index p.sub == islandOf index sub) = true := by simp [p]
  simp only [takeFirst, hpi, if_true, hready]
  unfold postWrite
  rw [carriedTo_host hx]
  have hre : ((crossed (journalled s via index sub d) (dieOf p.index p.sub) (transferWords (key p.index p.sub) p.d)).2.setHost
      fun h => { h with posted := h.posted ++ [p] }).setHost (fun h => { h with posted := [] }) = arrived s via index sub d := by
    rw [setHost_setHost]
    have hc := crossed_host (journalled s via index sub d) (dieOf index sub) (transferWords (key index sub) d)
    refine setHost_id ?_
    change ({ (crossed _ _ _).2.host with posted := [] } : HostSys) = (crossed _ _ _).2.host
    have : (crossed (journalled s via index sub d) (dieOf index sub) (transferWords (key index sub) d)).2.host.posted = [] := by
      rw [hc, h1, hp]
    rw [← this]
  rw [hre]
  rfl

/-- The same for the code of a COMMAND entry. -/
theorem named_command {s : State} {via : Iface} {base count i sub code : Nat} (hi : i < count)
    (hd : streamData (base + i) sub = none) (h : Accepts s via (base + i) sub ⟨1, code⟩) :
    namedCommand s via base count i sub code =
      refill (applyWrite serveRemote (arrived s via (base + i) sub ⟨1, code⟩) via (base + i) sub ⟨1, code⟩) := named_write hi hd h

theorem snd_ite {α β : Type} {c : Prop} [Decidable c] {x y : α × β} {b : β} (h : x.2 = b) (k : y.2 = b) : (if c then x else y).2 = b := by
  split
  · exact h
  · exact k

/-- The checks of a write change nothing, but for the reads of cells that a store write takes. -/
theorem writeRefuse_state {s : State} {via : Iface} {index sub : Nat} {d : Datum} (h : index ≠ 0x2310) :
    (writeRefuse s via index sub d).2 = s := by
  have ho : (objectRefuse s via index sub d).2 = s := by
    unfold objectRefuse storeRefuse
    extract_lets p v
    clear_value p v
    simp only [h, false_and, if_false]
    repeat' (first | rfl | refine snd_ite ?_ ?_)
  unfold writeRefuse
  repeat' (first | rfl | exact ho | refine snd_ite ?_ ?_)

/-- Acceptance touches the change journal and nothing else. -/
theorem journalled_fits {s : State} {via : Iface} {index sub : Nat} {d : Datum} (h : index ≠ 0x2310) (h0 : (writeRefuse s via index sub d).1 = 0) :
    Fits 524288 s (journalled s via index sub d) := by
  unfold journalled hostAccept
  extract_lets r
  have h1 : r.1 = 0 := h0
  have h2 : r.2 = s := writeRefuse_state h
  clear_value r
  simp only [h1, h2, ne_eq, not_true_eq_false, if_false]
  exact journalWrite_fits (by decide) (Fits.refl _ s) _ _ _ _ _

end Sys2Proof.Machine
end

