-- ==== Sys2Proof/Laws/Links.lean ====
section
/-! SUPPORT. What publishing a link's record does. -/

namespace Sys2Proof.Machine

theorem many_link {α : Type} (l : List α) (f : α → State → State) (h : ∀ a s, (f a s).link = s.link) (s : State) :
    (s.many l f).link = s.link := by
  unfold State.many
  induction l generalizing s with
  | nil => rfl
  | cons a r ih =>
    rw [List.foldl_cons, ih, h]

theorem linkAt_of_link {s t : State} (l : Nat) (h : t.link = s.link) : t.linkAt l = s.linkAt l := by
  unfold State.linkAt
  rw [h]

theorem showLeftUp_linkAt {s : State} {l : Nat} (h : l < s.link.links.length) :
    ∃ b, (showLeftUp s l).linkAt l = { s.linkAt l with leftSeen := b } := by
  unfold showLeftUp
  split
  · refine ⟨false, ?_⟩
    rw [linkAt_of_link (s := s.setLink l fun k => { k with leftSeen := false }) l (by simp only [State.hist, State.put_link]),
      State.linkAt_setLink _ h]
  · exact ⟨(s.linkAt l).leftSeen, rfl⟩

/-- Publishing a record shows it and leaves the links as they are, but for the note of a departure from UP. -/
theorem publishLink_linkAt {s : State} {l : Nat} (h : l < s.link.links.length) :
    ∃ b, (publishLink s l).linkAt l = { s.linkAt l with leftSeen := b } := by
  unfold publishLink
  split
  · have hm := many_link (linkRecord (s.linkAt l)) (fun e s => s.put (key (0x2020 + l) e.1) e.2) (fun _ _ => rfl) s
    generalize (s.many (linkRecord (s.linkAt l)) fun e s => s.put (key (0x2020 + l) e.1) e.2) = m at hm
    obtain ⟨b, hb⟩ := showLeftUp_linkAt (s := m) (l := l) (by rw [hm]; exact h)
    exact ⟨b, by rw [hb, linkAt_of_link l hm]⟩
  · have hm := many_link (linkRecord (s.linkAt l)) (fun e s => s.dput (key (0x2020 + l) e.1) e.2) (fun _ _ => rfl) s
    generalize (s.many (linkRecord (s.linkAt l)) fun e s => s.dput (key (0x2020 + l) e.1) e.2) = m at hm
    obtain ⟨b, hb⟩ := showLeftUp_linkAt (s := m) (l := l) (by rw [hm]; exact h)
    exact ⟨b, by rw [hb, linkAt_of_link l hm]⟩

end Sys2Proof.Machine
end

