-- ==== Sys2Proof/Tests/Slice0.lean ====
section
/-! SUPPORT. Small tests, each about one step: the WellFormed smoke, and for every statement states and operands that meet its hypotheses, with what it
says of them. -/

section
set_option Elab.async false

open Sys2Proof Sys2Proof.Machine

/-- Does a command go on? -/
def ran : Host.Outcome State Fault Refusal → Bool
  | .next _ => true
  | .fault _ => false
  | .refused _ => false

/-- The state that a command leaves. -/
def after : Host.Outcome State Fault Refusal → State
  | .next t => t
  | .fault _ => State.reset
  | .refused _ => State.reset

/-- The device once its boot has ended: dictionary open, links UP, every step done. -/
def ready : State :=
  { State.reset with
    boot := { State.reset.boot with booting := false, open_ := true, done := List.replicate 8 true }
    link := { State.reset.link with ready := true, links := List.replicate 13 { state := .up }, throttled := List.replicate 6 false }
    host := { State.reset.host with mode := 7 }
    nv := { State.reset.nv with busy := false } }

/-- The same with one link as given. -/
def withLink (l : Nat) (k : Link) : State := ready.setLink l fun _ => k

def shapeB (s : State) : Bool :=
  s.link.links.length == 13 && s.link.hubPaths.length == 28 && s.link.throttled.length == 6 && s.chan.chans.length == 96
    && s.chan.gates.length == 24 && s.tcs.length == 4 && s.cups.length == 96 && s.dp.dplls.length == 16 && s.dp.carafes.length == 16
    && s.ctxs.length == 256 && s.ap.aplls.length == 8 && s.ap.outs.length == 96 && s.sched.entries.length == 64
    && s.eng.requesters.length == 24 && s.cal.dies.length == 6 && s.cal.outs.length == 96 && s.col.sources.length == 39
    && s.fab.ports.length == 4 && s.fab.slots.length == 4

theorem shape_of {s : State} (h : shapeB s = true) : ShapeWf s := by
  simp only [shapeB, Bool.and_eq_true, beq_iff_eq] at h
  obtain ⟨⟨⟨⟨⟨⟨⟨⟨⟨⟨⟨⟨⟨⟨⟨⟨⟨⟨h1, h2⟩, h3⟩, h4⟩, h5⟩, h6⟩, h7⟩, h8⟩, h9⟩, h10⟩, h11⟩, h12⟩, h13⟩, h14⟩, h15⟩, h16⟩, h17⟩, h18⟩, h19⟩ := h
  exact ⟨h1, h2, h3, h4, h5, h6, h7, h8, h9, h10, h11, h12, h13, h14, h15, h16, h17, h18, h19⟩

theorem stamps_of {s : State} (h : (s.chan.chans.all fun c => decide (c.captured = c.delivered + c.dropSlice + c.dropHub + fifoCount c.fifo)) = true) :
    StampBalance s := by
  intro c hc
  simpa [ChanOk] using List.all_eq_true.mp h c hc

/-- The snapshot balance, as a test: the slice's latch splits the FIFO at its first marker. -/
def snapB (s : State) : Bool :=
  (List.range s.chan.chans.length).all fun n =>
    let c := s.chanAt n
    match s.link.snap with
    | none => noMarker c.fifo
    | some p =>
      if p.chan = n then
        match p.slice with
        | none => noMarker c.fifo && p.delivered + p.dropHub + p.held == c.delivered + c.dropHub
        | some (cap, dropS) =>
          let pre := c.fifo.takeWhile fun x => x != FifoItem.marker
          let post := c.fifo.drop (pre.length + 1)
          c.fifo == pre ++ FifoItem.marker :: post && noMarker pre && noMarker post && cap == p.delivered + p.dropHub + dropS + p.held + pre.length
      else noMarker c.fifo

theorem snap_of {s : State} (h : snapB s = true) : SnapBalance s := by
  intro n c hc
  have hn : n < s.chan.chans.length := (List.getElem?_eq_some_iff.mp hc).1
  have hc' : s.chanAt n = c := by simp [State.chanAt, List.getD, hc]
  have h1 := List.all_eq_true.mp h n (List.mem_range.mpr hn)
  simp only [hc'] at h1
  cases e : s.link.snap with
  | none =>
    rw [e] at h1
    exact h1
  | some p =>
    rw [e] at h1
    dsimp only at h1 ⊢
    by_cases e2 : p.chan = n
    · rw [if_pos e2] at h1 ⊢
      unfold SnapOk
      cases e3 : p.slice with
      | none =>
        rw [e3] at h1
        simpa using h1
      | some x =>
        obtain ⟨cap, dropS⟩ := x
        rw [e3] at h1
        simp only [Bool.and_eq_true, beq_iff_eq] at h1
        obtain ⟨⟨⟨a, b⟩, d⟩, f⟩ := h1
        exact ⟨_, _, a, b, d, f⟩
    · rw [if_neg e2] at h1 ⊢
      exact h1

/-- A link that has sent three words of which the receiver has accepted one. -/
def busyDir : PathDir := { head := 63, ahead := 1, retained := [1, 2, 3], sent := 3 }

/-- Channel 95 with a stamp ahead of the marker, and one behind it. -/
def snapState (fifo : List FifoItem) (p : Snap) : State :=
  { ready.setChan 95 fun c => { c with fifo := fifo, captured := 1, dropSlice := 0, delivered := 0 } with
    link := { ready.link with snap := some p } }


/-- The device as a CANopen node in OPERATIONAL, with node-ID 5. -/
def onCan (c : CanSys) : State := { ready with can := { c with joined := true, node := 5 } }

/-- Channel 95 as a running INPUT, with a slice as given. -/
def input (c : Chan) : State := (ready.put (key 0x305F 1) 1).setChan 95 fun _ => c

/-- A stamp of channel 95. -/
def stamp95 : Stamp := { chan := 95, time := 5 * 65536, raw := 5 * 65536 }

/-- A FIFO of 64 stamps. -/
def fullFifo : List FifoItem := List.replicate 64 (.stamp stamp95)

/-- Gate 23 as given, with channel 95 as its stop. -/
def gated (g : Gate) : State := (ready.put (key 0x3317 9) 95).setGate 23 fun _ => g

/-- Channel 95 under cupping, in a state and with monitors as given. -/
def cupped (st : Nat) (c : Cup) : State :=
  ((ready.put (key 0x305F 1) 1).put (key 0x315F 5) 1).setCup 95 fun _ => { c with st := st, score := if st = 0 then 0 else 255 }

/-- Both monitors have published. -/
def formed : Cup := { freqFormed := true, driftFormed := true, t0 := some 0, samples := [{}] }

/-- Samples of 0.1 s, whose phase runs as the square of their number. -/
def squares : List CupSample := (List.range 6).map fun (j : Nat) => { m := (100 * j : Nat), t := (6553600000000 * j : Nat), x := (65536 * j * j : Nat) }

/-- DPLL 15 as given, with ENABLE 1 and channel 95 as its candidate 3 at priority 1, which S knows as QUALIFIED. -/
def dpll (d : Dpll) : State :=
  (((ready.put (key 0x340F 1) 1).put (key 0x341F 4) 0x1005F).setDpll 15 fun _ => d).setDp fun x => { x with chanState := List.replicate 96 3 }

/-- An update up to the point where a root announces a changed grade, which touches no DPLL. -/
def updateCore (s : State) (k : Nat) (l : List PhaseSample) : State :=
  let r := samplesArrive (schedPlaced s k) k l
  let s1 := apllUpdate (dpUpdate r.1 k r.2) k
  dpStep7 (tieSend (s1.setDpll k fun d => { d with timeline48 := d.timeline48 + d.inc48, updAt := s.now }) k) k

theorem updateCore_of {s : State} (k : Nat) (l : List PhaseSample) (h : Runs s) (hk : k < 16) :
    (after (exec (.dpllUpdate k l) s)).dp = (updateCore s k l).dp ∧ (after (exec (.dpllUpdate k l) s)).dr = (updateCore s k l).dr := by
  have e : after (exec (.dpllUpdate k l) s) = gradeFollow (updateCore s k l) := by
    show after (execDpllUpdate k l s) = _
    unfold execDpllUpdate
    show live s (fun s => dpllUpdate s k l) = _
    rw [live_of _ h.1]
    unfold dpllUpdate updateCore
    rw [if_neg (by simp [h.2]), if_pos hk]
  have f := gradeFollow_fits (fp := 133418) (by decide) (Fits.refl _ (updateCore s k l))
  rw [e]
  exact ⟨f.dp (by decide), f.dr (by decide)⟩

/-- The carafe of DPLL 15 as given. -/
def carafe (c : Carafe) : State := ready.setCarafe 15 fun _ => c

/-- 64 slots of 48 h, alike. -/
def flatCarafe : List CarEntry := (List.range 64).map fun (i : Nat) => { at_ := 2000 - (i : Int), temp := some 400, ffo := some 1000 }

/-- APLL 7 as given, with channel 95 as an output of it that divides by 5, in group 3. -/
def apll (a : Apll) : State :=
  ((((ready.put (key 0x305F 1) 2).put (key 0x305F 0x0A) 7).put (key 0x305F 0x0B) 5).put (key 0x305F 0x11) 3).setApll 7 fun _ => a

/-- Counter 3 as given, with one entry of 3603h set. -/
def tcw (c : Tc) (sub v : Nat) : State := (ready.setTc 3 fun _ => c).put (key 0x3603 sub) v

/-- A 40-byte record of the action table: target, counter, policy, instant in 2^−16 ns, argument and value. -/
def actRec (target counter policy instant arg value : Nat) : Nat :=
  target + counter * 2 ^ 8 + policy * 2 ^ 16 + time12 instant * 2 ^ 32 + arg * 2 ^ 192 + value * 2 ^ 256

/-- The device with record r in entry 63, its state q, and counter 3 set and at v. -/
def actw (r v : Nat) (q : SchedEntry) : State :=
  (((tcw { unset := false, val := v * 2 ^ 32 } 7 0).put (key 0x3623 0x14) r).setSched 63 fun _ => q).setLink 6 fun l => l

/-- Context 200 as given, ENABLED, of KIND k on PORT p with engine 2; port state and reference state ps and rs; instance 1 runs, ETH0 is UP. -/
def cxw (k p ps rs : Nat) (x : Ctx) : State :=
  (((((ready.setCtx 200 fun _ => { x with engine := some 2 }).put (key 0x37C8 7)
    (putBytes (putBytes (putBytes contextDefault 0 1 k) 1 2 (1 + p * 256)) 64 2 (ps + rs * 256))).put (key 0x37C8 6) 1).put (key 0x3601 0x22) 1).put
      (key 0x3611 2) 1).put (key 0x3612 1) 0x8000

/-- The same with some bytes of the record set. -/
def Sys2Proof.Machine.State.withRec (s : State) (o n v : Nat) : State := s.putCtxRec 200 o n v

/-- The device with identity 17, of root r, port 3 in STATE st and as given; TC0 is set. -/
def fabw (r st : Nat) (x : FabPort) : State :=
  ((({ ready with od := [(key 0x2000 3, 17), (key 0x2000 4, 0), (key 0x3800 0x0B, r)] } : State).setPort 3 fun _ => x).setTc 0 fun c => { c with unset := false }).put
    (key 0x3807 2) st

/-- The same with a fabric state. -/
def fabx (r : Nat) (f : FabSys → FabSys) : State := (fabw r 2 {}).setFab f

/-- Calibration runs; die C5 as given, its slice 2 with a record of version 1 alone; the device's UNIQUE_ID_LO is 17. -/
def calw (x : DieCal) : State :=
  (({ ready with od := [(key 0x2000 3, 17), (key 0x2500 5, 0x3F), (key 0x2515 3, 1), (key 0x2525 3, 1)] } : State).setCal
    fun c => { c with running := true, sweep := true }).setDieCal 5 fun _ => x

/-- The same, where channel 82 of the slice has ROLE INPUT. -/
def caln (x : DieCal) : State := (calw x).put (key 0x3052 1) 1

/-- A flat pass and one whose captures all land in two bins. -/
def flatPass : List Nat := List.replicate 512 8
def lumpPass : List Nat := 2048 :: 2048 :: List.replicate 510 0

/-- The store as given; the hold-up capacitor is at 5.0 V; the device's UNIQUE_ID_LO is 17. -/
def nvw (f : NvmSys → NvmSys) : State :=
  (({ ready with od := [(key 0x2000 3, 17)] } : State).nvSet fun v => { v with vhold := 5000 }).nvSet f

/-- Two host pages of two writes, with their counts. -/
def hostTwo (v : NvmSys) : NvmSys :=
  { v with slots := [⟨.host, 6144, 7⟩, ⟨.host, 8191, 9⟩], hostWrites := 2,
           sram := { v.sram with dev := { v.sram.dev with accepted := 12, committed := 10, pending := 2 } } }

/-- A journal page that has waited since 1 s. -/
def oneRecord (v : NvmSys) : NvmSys :=
  { v with journal := { v.journal with staged := [⟨5, 0⟩] }, queue := [.journal],
           sram := { v.sram with dev := { v.sram.dev with accepted := 3, committed := 2, pending := 1 } } }

/-- A copy of record 3 with a byte of data and a SEQ, in the cells at an address. -/
def withCopy (v : NvmSys) (a seq x : Nat) : NvmSys := { v with cells := cellsPut v.cells a (copyBytes 3 seq ⟨1, x⟩) 17 }

/-- The arbiter and the engines as given; the time is 10 s; the device's UNIQUE_ID_LO is 17. -/
def engw (f : EngSys → EngSys) : State := ({ ready with now := 10000000000, od := [(key 0x2000 3, 17)] } : State).setEng f

/-- Requesters as given, the others as they are. -/
def reqw (l : List (Nat × Requester)) (x : EngSys) : EngSys := { x with requesters := l.foldl (fun m e => m.set e.1 e.2) x.requesters }

/-- The collector as given, out of the fault state; the time is 10 s; the device's UNIQUE_ID_LO is 17. -/
def colw (f : ColSys → ColSys) : State :=
  (({ ready with now := 10000000000, od := [(key 0x2000 3, 17)] } : State).setCol fun c => { c with fault := false }).setCol f

/-- The fault queue holds one message of 9 s. -/
def said (s : State) (w : Nat) : State := { s with faultIn := [⟨w, 9000000000⟩] }

/-- The device right after its release, with the boot steps given that have ended. -/
def bootw (done : List Nat) : State :=
  { State.reset with boot := { State.reset.boot with done := (List.range 8).map fun i => done.contains i } }

/-- The device in reset, for the causes given. -/
def inReset (causes : List Nat) : State := { State.reset with boot := { State.reset.boot with inReset := true, causes := causes } }

/-- An image of 64 bytes of version 7 in IMAGE_A or IMAGE_B, VALID. -/
def imageIn (s : State) (i : Nat) : State :=
  let h := 1 + 64 * 256 ^ 4 + 7 * 256 ^ 8
  let v := h + crc32 h 20 44 * 256 ^ 16
  s.nvSet fun x => { x with cells := cellsPut x.cells (imageBase i) v 64, sram := { x.sram with dev := { x.sram.dev with images := x.sram.dev.images.set i 2 } } }


/-- One path's words in balance, as a test. -/
def pathB (d : PathDir) : Bool :=
  decide (d.ahead ≤ d.retained.length) && decide (d.retained.length ≤ 64) && cut 32 (d.accepted + d.retained.length) == d.sent

/-- Every invariant, as a test. -/
def soundB (s : State) : Bool :=
  storeWf defaultOf s.od && storeWf defaultOf s.dr && storeWf (fun _ => (255 : Byte)) s.nv.cells && shapeB s
    && (s.link.links.all fun k => pathB k.fwd && pathB k.rev)
    && (s.chan.chans.all fun c => decide (c.captured = c.delivered + c.dropSlice + c.dropHub + fifoCount c.fifo)) && snapB s
    && decide (s.nv.sram.dev.accepted = s.nv.sram.dev.committed + s.nv.sram.dev.rolledBack + s.nv.sram.dev.pending) && s.nv.array.isNone

theorem path_of {d : PathDir} (h : pathB d = true) : PathOk d := by
  simp only [pathB, Bool.and_eq_true, decide_eq_true_eq, beq_iff_eq] at h
  exact ⟨h.1.1, h.1.2, h.2⟩

theorem sound_of {s : State} (h : soundB s = true) : Sound s := by
  simp only [soundB, Bool.and_eq_true, decide_eq_true_eq] at h
  obtain ⟨⟨⟨⟨⟨⟨⟨⟨h1, h2⟩, h3⟩, h4⟩, h5⟩, h6⟩, h7⟩, h8⟩, h9⟩ := h
  refine ⟨⟨h1, h2⟩, h3, shape_of h4, fun k hk => ?_, stamps_of h6, snap_of h7, h8, fun x hx => ?_⟩
  · have := List.all_eq_true.mp h5 k hk
    simp only [Bool.and_eq_true] at this
    exact ⟨path_of this.1, path_of this.2⟩
  · rw [Option.isNone_iff_eq_none] at h9
    simp [h9] at hx

/-- One step of a state with a command in front, and whether the parts that it may not touch stay. -/
def keeps (l : List Part) (s t : State) : Bool := (Part.all.filter fun p => !(l.contains p)).all fun p => partB p
where
  partB (p : Part) : Bool := match p with
    | .now => t.now == s.now
    | .od => t.od == s.od
    | .dr => t.dr == s.dr
    | .out => decide (t.out = s.out)
    | .free => t.free == s.free
    | .faultIn => decide (t.faultIn = s.faultIn)
    | .link => decide (t.link = s.link)
    | .chan => decide (t.chan = s.chan)
    | .tcs => decide (t.tcs = s.tcs)
    | .cups => decide (t.cups = s.cups)
    | .dp => decide (t.dp = s.dp)
    | .ctxs => decide (t.ctxs = s.ctxs)
    | .ptp => decide (t.ptp = s.ptp)
    | .ap => decide (t.ap = s.ap)
    | .sched => decide (t.sched = s.sched)
    | .engDown => decide (t.engDown = s.engDown)
    | .eng => decide (t.eng = s.eng)
    | .fab => decide (t.fab = s.fab)
    | .cal => decide (t.cal = s.cal)
    | .nv => decide (t.nv = s.nv)
    | .col => decide (t.col = s.col)
    | .can => decide (t.can = s.can)
    | .host => decide (t.host = s.host)
    | .boot => decide (t.boot = s.boot)
    | .resetReq => decide (t.resetReq = s.resetReq)

theorem test_front : (ready.command .snapshotLatchArrives).pending = [.snapshotLatchArrives] := by decide +kernel
theorem test_idle : ready.pending = [] ∧ (after (step ready)).now = 4 := by decide +kernel

theorem test_LinkWordsAreAcceptedOnce_1 : ShapeWf (withLink 12 { state := .up, fwd := busyDir }) ∧
    ((fun (s : State) (l : Nat) (n : Nat) (rev : Bool) => (fun d => Live s ∧ l < 13 ∧ s.linkUp l = true ∧ n ≤ d.ahead ∧
        ran (exec (.linkAckReceived (.link l rev) n) s) = true ∧ (fun (t : State) => t.linkUp l = true ∧
        ((t.linkAt l).dir rev).retained = d.retained.drop n ∧ ((t.linkAt l).dir rev).accepted = (d.accepted + n) % 2 ^ 32 ∧
        ((t.linkAt l).dir rev).sent = d.sent ∧
        (t.linkAt l).dir (!rev) = (s.linkAt l).dir (!rev)) (after (exec (.linkAckReceived (.link l rev) n) s))) ((s.linkAt l).dir rev)) (withLink 12 { state := .up, fwd := busyDir }) (12) (1) (false)) := by
  refine ⟨shape_of (by decide +kernel), ?_⟩
  decide +kernel

theorem test_LinkWordsAreAcceptedOnce_2 : ShapeWf (withLink 12 { state := .up, fwd := busyDir }) ∧
    ((fun (s : State) (l : Nat) (pos : Nat) (word : Nat) (rev : Bool) (parity : Bool) => (fun d => Live s ∧ l < 13 ∧ s.linkUp l = true ∧
        pos = (d.head + d.ahead) % 64 ∧ d.ahead < d.retained.length ∧ d.awaiting = false ∧ d.inject = 0 ∧ parityOk word parity = true ∧
        ran (exec (.dieLinkWordReceived (.link l rev) pos word parity) s) = true ∧ (fun (t : State) => t.linkUp l = true ∧
        ((t.linkAt l).dir rev).ahead = d.ahead + 1 ∧ ((t.linkAt l).dir rev).retained.length = d.retained.length ∧
        ((t.linkAt l).dir rev).refused = d.refused) (after (exec (.dieLinkWordReceived (.link l rev) pos word parity) s))) ((s.linkAt l).dir rev)) (withLink 12 { state := .up, fwd := busyDir }) (12) (0) (0) (false) (false)) := by
  refine ⟨shape_of (by decide +kernel), ?_⟩
  decide +kernel

theorem test_LinkWordsAreAcceptedOnce_3 : ShapeWf (withLink 12 { state := .up, fwd := { busyDir with refusals := 2 } }) ∧
    ((fun (s : State) (l : Nat) (pos : Nat) (word : Nat) (rev : Bool) (parity : Bool) => (fun d => Live s ∧ l < 13 ∧ s.linkUp l = true ∧
        pos = (d.head + d.ahead) % 64 ∧ d.ahead < d.retained.length ∧ d.awaiting = false ∧ parityOk word parity = false ∧ d.refusals < 3 ∧
        ran (exec (.dieLinkWordReceived (.link l rev) pos word parity) s) = true ∧ (fun (t : State) => t.linkUp l = true ∧
        ((t.linkAt l).dir rev).awaiting = true ∧ ((t.linkAt l).dir rev).ahead = d.ahead ∧ ((t.linkAt l).dir rev).retained = d.retained ∧
        ((t.linkAt l).dir rev).refused = (d.refused + 1) % 2 ^ 32) (after (exec (.dieLinkWordReceived (.link l rev) pos word parity) s))) ((s.linkAt l).dir rev)) (withLink 12 { state := .up, fwd := { busyDir with refusals := 2 } }) (12) (0) (0) (false) (true)) := by
  refine ⟨shape_of (by decide +kernel), ?_⟩
  decide +kernel

theorem test_LinkWordsAreAcceptedOnce_4 : ShapeWf (withLink 12 { state := .up, fwd := { busyDir with refusals := 3 } }) ∧
    ((fun (s : State) (l : Nat) (pos : Nat) (word : Nat) (rev : Bool) (parity : Bool) => (fun d => Live s ∧ l < 13 ∧ s.linkUp l = true ∧
        pos = (d.head + d.ahead) % 64 ∧ d.ahead < d.retained.length ∧ d.awaiting = false ∧ parityOk word parity = false ∧ d.refusals = 3 ∧
        ran (exec (.dieLinkWordReceived (.link l rev) pos word parity) s) = true ∧ (fun (t : State) => (t.linkAt l).state = .training ∧
        ((t.linkAt l).dir rev).retained = d.retained ∧
        t.faultIn = s.faultIn ++ [⟨faultWord (receivingDie l rev) 0 1 l, s.now⟩]) (after (exec (.dieLinkWordReceived (.link l rev) pos word parity) s))) ((s.linkAt l).dir rev)) (withLink 12 { state := .up, fwd := { busyDir with refusals := 3 } }) (12) (0) (0) (false) (true)) := by
  refine ⟨shape_of (by decide +kernel), ?_⟩
  decide +kernel

theorem test_LinkWordsAreAcceptedOnce_5 : ShapeWf (withLink 12 { state := .up, fwd := { busyDir with awaiting := true } }) ∧
    ((fun (s : State) (l : Nat) (rev : Bool) => (fun d => Live s ∧ l < 13 ∧ s.linkUp l = true ∧ d.awaiting = true ∧
        ran (exec (.linkReplay (.link l rev)) s) = true ∧ (fun (t : State) => ((t.linkAt l).dir rev).awaiting = false ∧
        ((t.linkAt l).dir rev).retained = d.retained ∧
        ((t.linkAt l).dir rev).replays = (d.replays + 1) % 2 ^ 32) (after (exec (.linkReplay (.link l rev)) s))) ((s.linkAt l).dir rev)) (withLink 12 { state := .up, fwd := { busyDir with awaiting := true } }) (12) (false)) := by
  refine ⟨shape_of (by decide +kernel), ?_⟩
  decide +kernel

theorem test_TrainingKeepsTheRetainedWords_1 : ShapeWf (withLink 0 { state := .training, fwd := busyDir }) ∧
    ((fun (s : State) (l : Nat) => Live s ∧ l < 13 ∧ (s.linkAt l).state = .training ∧ ran (exec (.linkTrainingAttemptEnd l true) s) = true ∧
        (fun (t : State) => t.linkUp l = true ∧ (t.linkAt l).fwd.retained = (s.linkAt l).fwd.retained ∧
        (t.linkAt l).rev.retained = (s.linkAt l).rev.retained ∧ (t.linkAt l).fwd.awaiting = false ∧
        (t.linkAt l).rev.awaiting = false) (after (exec (.linkTrainingAttemptEnd l true) s))) (withLink 0 { state := .training, fwd := busyDir }) (0)) := by
  refine ⟨shape_of (by decide +kernel), ?_⟩
  decide +kernel

theorem test_TrainingKeepsTheRetainedWords_2 : ShapeWf (withLink 12 { state := .training, fails := 1 }) ∧
    ((fun (s : State) (l : Nat) => Live s ∧ l < 13 ∧ (s.linkAt l).state = .training ∧ (s.linkAt l).fails < 2 ∧
        ran (exec (.linkTrainingAttemptEnd l false) s) = true ∧ (fun (t : State) => (t.linkAt l).state = .training ∧
        (t.linkAt l).fails = (s.linkAt l).fails + 1 ∧
        t.faultIn = s.faultIn) (after (exec (.linkTrainingAttemptEnd l false) s))) (withLink 12 { state := .training, fails := 1 }) (12)) := by
  refine ⟨shape_of (by decide +kernel), ?_⟩
  decide +kernel

theorem test_TrainingKeepsTheRetainedWords_3 : ShapeWf (withLink 0 { state := .training, fails := 2, fwd := busyDir }) ∧
    ((fun (s : State) (l : Nat) => Live s ∧ l < 13 ∧ (s.linkAt l).state = .training ∧ (s.linkAt l).fails = 2 ∧
        ran (exec (.linkTrainingAttemptEnd l false) s) = true ∧ (fun (t : State) => (t.linkAt l).state = .down ∧
        (t.linkAt l).fwd.retained = (s.linkAt l).fwd.retained ∧ (t.linkAt l).rev.retained = (s.linkAt l).rev.retained ∧
        t.faultIn.take (s.faultIn.length + 1) = s.faultIn ++ [⟨faultWord (if l < 7 then 0 else 1) 0 2 l, s.now⟩]) (after (exec (.linkTrainingAttemptEnd l false) s))) (withLink 0 { state := .training, fails := 2, fwd := busyDir }) (0)) := by
  refine ⟨shape_of (by decide +kernel), ?_⟩
  decide +kernel

theorem test_TrainingKeepsTheRetainedWords_4 : ShapeWf (withLink 12 { state := .down, rev := busyDir }) ∧
    ((fun (s : State) (l : Nat) => Live s ∧ l < 13 ∧ (s.linkAt l).state = .down ∧ ran (exec (.linkDownRetryTimer l true) s) = true ∧
        (fun (t : State) => t.linkUp l = true ∧ (t.linkAt l).fwd.retained = (s.linkAt l).fwd.retained ∧
        (t.linkAt l).rev.retained = (s.linkAt l).rev.retained) (after (exec (.linkDownRetryTimer l true) s))) (withLink 12 { state := .down, rev := busyDir }) (12)) := by
  refine ⟨shape_of (by decide +kernel), ?_⟩
  decide +kernel

theorem test_LinkCommandsAct_1 : ShapeWf (withLink 12 { state := .up, fwd := busyDir, rev := { sent := 5, accepted := 5, inject := 2 } }) ∧
    ((fun (s : State) (via : Iface) (l : Nat) => l < 13 ∧ Accepts s via (0x2020 + l) 0x0C ⟨1, 1⟩ ∧ s.linkUp l = true ∧
        ran (exec (.linkRetrain via l) s) = true ∧ (fun (t : State) => (t.linkAt l).state = .training ∧
        (t.linkAt l).fwd.retained = (s.linkAt l).fwd.retained ∧
        (t.linkAt l).rev.retained = (s.linkAt l).rev.retained) (after (exec (.linkRetrain via l) s))) (withLink 12 { state := .up, fwd := busyDir, rev := { sent := 5, accepted := 5, inject := 2 } }) (.parallel) (12)) := by
  refine ⟨shape_of (by decide +kernel), ?_⟩
  decide +kernel

theorem test_LinkCommandsAct_2 : ShapeWf (withLink 12 { state := .up, fwd := busyDir, rev := { sent := 5, accepted := 5, inject := 2 } }) ∧
    ((fun (s : State) (via : Iface) (l : Nat) => l < 13 ∧ Accepts s via (0x2020 + l) 0x0C ⟨1, 2⟩ ∧
        ran (exec (.linkClearCounters via l) s) = true ∧
        (fun (t : State) => (t.linkAt l).fwd = { (s.linkAt l).fwd with sent := (s.linkAt l).fwd.retained.length, accepted := 0, refused := 0, replays := 0, exhausted := 0 } ∧ (t.linkAt l).rev = { (s.linkAt l).rev with sent := (s.linkAt l).rev.retained.length, accepted := 0, refused := 0, replays := 0, exhausted := 0 } ∧ (t.linkAt l).retrains = 0 ∧ (t.linkAt l).lastRetrain = 0) (after (exec (.linkClearCounters via l) s))) (withLink 12 { state := .up, fwd := busyDir, rev := { sent := 5, accepted := 5, inject := 2 } }) (.parallel) (12)) := by
  refine ⟨shape_of (by decide +kernel), ?_⟩
  decide +kernel

theorem test_LinkCommandsAct_3 : ShapeWf (withLink 12 { state := .up, fwd := busyDir, rev := { sent := 5, accepted := 5, inject := 2 } }) ∧
    ((fun (s : State) (via : Iface) (l : Nat) => l < 13 ∧ Accepts s via (0x2020 + l) 0x0D ⟨1, 1⟩ ∧
        ran (exec (.errorInjectSingle via l) s) = true ∧ (fun (t : State) => (t.linkAt l).fwd.inject = 1 ∧ (t.linkAt l).rev.inject = 0 ∧
        (t.linkAt l).errorInject = 1) (after (exec (.errorInjectSingle via l) s))) (withLink 12 { state := .up, fwd := busyDir, rev := { sent := 5, accepted := 5, inject := 2 } }) (.parallel) (12)) := by
  refine ⟨shape_of (by decide +kernel), ?_⟩
  decide +kernel

theorem test_LinkCommandsAct_4 : ShapeWf (withLink 12 { state := .up, fwd := busyDir, rev := { sent := 5, accepted := 5, inject := 2 } }) ∧
    ((fun (s : State) (via : Iface) (l : Nat) => l < 13 ∧ Accepts s via (0x2020 + l) 0x0D ⟨1, 2⟩ ∧
        ran (exec (.errorInjectExhaust via l) s) = true ∧ (fun (t : State) => (t.linkAt l).fwd.inject = 4 ∧ (t.linkAt l).rev.inject = 0 ∧
        (t.linkAt l).errorInject = 2) (after (exec (.errorInjectExhaust via l) s))) (withLink 12 { state := .up, fwd := busyDir, rev := { sent := 5, accepted := 5, inject := 2 } }) (.parallel) (12)) := by
  refine ⟨shape_of (by decide +kernel), ?_⟩
  decide +kernel

theorem test_LinkCommandsAct_5 : ShapeWf (withLink 12 { state := .up, fwd := busyDir, rev := { sent := 5, accepted := 5, inject := 2 } }) ∧
    ((fun (s : State) (via : Iface) (l : Nat) => l < 13 ∧ Accepts s via (0x2020 + l) 0x0D ⟨1, 3⟩ ∧
        ran (exec (.errorInjectSingleReverse via l) s) = true ∧ (fun (t : State) => (t.linkAt l).fwd.inject = 0 ∧
        (t.linkAt l).rev.inject = 1 ∧
        (t.linkAt l).errorInject = 3) (after (exec (.errorInjectSingleReverse via l) s))) (withLink 12 { state := .up, fwd := busyDir, rev := { sent := 5, accepted := 5, inject := 2 } }) (.parallel) (12)) := by
  refine ⟨shape_of (by decide +kernel), ?_⟩
  decide +kernel

theorem test_LinkCommandsAct_6 : ShapeWf (withLink 12 { state := .up, fwd := busyDir, rev := { sent := 5, accepted := 5, inject := 2 } }) ∧
    ((fun (s : State) (via : Iface) (l : Nat) => l < 13 ∧ Accepts s via (0x2020 + l) 0x0D ⟨1, 4⟩ ∧
        ran (exec (.errorInjectExhaustReverse via l) s) = true ∧ (fun (t : State) => (t.linkAt l).fwd.inject = 0 ∧
        (t.linkAt l).rev.inject = 4 ∧
        (t.linkAt l).errorInject = 4) (after (exec (.errorInjectExhaustReverse via l) s))) (withLink 12 { state := .up, fwd := busyDir, rev := { sent := 5, accepted := 5, inject := 2 } }) (.parallel) (12)) := by
  refine ⟨shape_of (by decide +kernel), ?_⟩
  decide +kernel

theorem test_LinkCommandsAct_7 : ShapeWf (withLink 12 { state := .up, fwd := busyDir, rev := { sent := 5, accepted := 5, inject := 2 } }) ∧
    ((fun (s : State) (via : Iface) (l : Nat) => l < 13 ∧ Accepts s via (0x2020 + l) 0x0D ⟨1, 0⟩ ∧
        ran (exec (.errorInjectOff via l) s) = true ∧ (fun (t : State) => (t.linkAt l).fwd.inject = 0 ∧ (t.linkAt l).rev.inject = 0 ∧
        (t.linkAt l).errorInject = 0) (after (exec (.errorInjectOff via l) s))) (withLink 12 { state := .up, fwd := busyDir, rev := { sent := 5, accepted := 5, inject := 2 } }) (.parallel) (12)) := by
  refine ⟨shape_of (by decide +kernel), ?_⟩
  decide +kernel

theorem test_SnapshotIsInBalance_1 :
    ((fun (s : State) (via : Iface) (n : Nat) => n < 96 ∧ (s.linkAt (dieOfChan n)).state ≠ .down ∧ Accepts s via 0x2030 1 ⟨1, n⟩ ∧
        ran (exec (.snapChannelWrite via ⟨1, n⟩) s) = true ∧ (fun (t : State) => t.rd (key 0x2030 0x0C) = 1 ∧ t.rd (key 0x2030 1) = n ∧
        t.link.snap = some { chan := n, delivered := (s.chanAt n).delivered, dropHub := (s.chanAt n).dropHub }) (after (exec (.snapChannelWrite via ⟨1, n⟩) s))) (ready) (.parallel) (95)) := by
  decide +kernel

theorem test_SnapshotIsInBalance_2 : ShapeWf (snapState [.stamp {}] { chan := 95 }) ∧
    ((fun (s : State) (p : Snap) => Live s ∧ p.chan < 96 ∧ s.link.snap = some p ∧ p.slice = none ∧
        Crosses s (dieOfChan p.chan) true (oneWord 3 p.chan) ∧ ran (exec (.snapshotLatchArrives) s) = true ∧
        (fun (t : State) => t.link.snap = some { p with slice := some ((s.chanAt p.chan).captured, (s.chanAt p.chan).dropSlice) } ∧
        (t.chanAt p.chan).fifo = (s.chanAt p.chan).fifo ++ [.marker]) (after (exec (.snapshotLatchArrives) s))) (snapState [.stamp {}] { chan := 95 }) ({ chan := 95 })) := by
  refine ⟨shape_of (by decide +kernel), ?_⟩
  decide +kernel

theorem test_SnapshotIsInBalance_3 : SnapBalance (snapState [.marker] { chan := 95, held := 1, slice := some (1, 0) }) ∧ ShapeWf (snapState [.marker] { chan := 95, held := 1, slice := some (1, 0) }) ∧
    ((fun (s : State) (p : Snap) (captured : Nat) (dropSlice : Nat) (r : List FifoItem) => Live s ∧ p.chan < 96 ∧ s.link.snap = some p ∧
        p.slice = some (captured, dropSlice) ∧ (s.chanAt p.chan).fifo = .marker :: r ∧
        Crosses s (dieOfChan p.chan) false (oneWord 4 p.chan) ∧ ran (exec (.snapshotMarkerArrives) s) = true ∧
        (fun (t : State) => t.rd (key 0x2030 0x0C) = 2 ∧ t.link.snap = none ∧ t.rd (key 0x2030 2) = (s.rd (key 0x2030 2) + 1) % 2 ^ 16 ∧
        t.rd (key 0x2030 3) + 2 ^ 32 * t.rd (key 0x2030 4) = captured % 2 ^ 64 ∧
        t.rd (key 0x2030 5) + 2 ^ 32 * t.rd (key 0x2030 6) = p.delivered % 2 ^ 64 ∧
        t.rd (key 0x2030 7) + 2 ^ 32 * t.rd (key 0x2030 8) = dropSlice % 2 ^ 64 ∧
        t.rd (key 0x2030 9) + 2 ^ 32 * t.rd (key 0x2030 0x0A) = p.dropHub % 2 ^ 64 ∧ t.rd (key 0x2030 0x0B) = p.held % 2 ^ 32 ∧
        captured = p.delivered + dropSlice + p.dropHub + p.held) (after (exec (.snapshotMarkerArrives) s))) (snapState [.marker] { chan := 95, held := 1, slice := some (1, 0) }) ({ chan := 95, held := 1, slice := some (1, 0) }) (1) (0) ([])) := by
  refine ⟨snap_of (by decide +kernel), shape_of (by decide +kernel), ?_⟩
  decide +kernel

theorem test_mirror : Live ready ∧ Crosses (ready.dput (key 0x342F 0x1C) 7) 6 false (transferWords (key 0x342F 0)
      (packed ((mirrored 0x342F).map fun sub => (widthOf 0x342F sub, dieValue (ready.dput (key 0x342F 0x1C) 7) 0x342F sub)))) ∧
    (after (exec (.mirrorRefresh 0x342F) (ready.dput (key 0x342F 0x1C) 7))).rd (key 0x342F 0x1C) = 7 := by decide +kernel

theorem test_WritesArePostedRefusedAndTaken_1 :
    ((fun (s : State) (via : Iface) (index : Nat) (sub : Nat) (d : Datum) => Live s ∧ viaOn s via = true ∧
        (writeRefuse s via index sub d).1 = 0 ∧ index ≠ 0x2310 ∧ pendingCount s (ifaceClass via) < 1024 ∧ s.host.holding = none ∧
        s.host.stalled = [] ∧ streamSelf index sub = false ∧ ran (exec (.objectWrite via index sub d) s) = true ∧
        (fun (t : State) => t.host.posted = s.host.posted ++ [⟨via, index, sub, d, ticketOf s (journalled s via index sub d), false⟩] ∧
        t.od = s.od) (after (exec (.objectWrite via index sub d) s))) (ready) (.parallel) (0x2001) (1) (⟨1, 3⟩)) := by
  decide +kernel

theorem test_WritesArePostedRefusedAndTaken_2 :
    ((fun (s : State) (index : Nat) (sub : Nat) (d : Datum) => Live s ∧ viaOn s .parallel = true ∧
        (writeRefuse s .parallel index sub d).1 ≠ 0 ∧ index ≠ 0x2310 ∧ pendingCount s 0 < 1024 ∧ streamSelf index sub = false ∧
        ran (exec (.objectWrite .parallel index sub d) s) = true ∧ (fun (t : State) => t.host = s.host ∧ t.nv = s.nv ∧
        t.rd (key 0x2101 1) = (writeRefuse s .parallel index sub d).1 % 2 ^ 32 ∧
        t.rd (key 0x2101 2) = index % 2 ^ 16 * 2 ^ 16 + sub % 2 ^ 8 * 2 ^ 8 ∧ t.rd (key 0x2101 3) = (s.rd (key 0x2101 3) + 1) % 2 ^ 32 ∧
        bit (t.rd (key 0x2100 2)) 0 = true) (after (exec (.objectWrite .parallel index sub d) s))) (ready) (0x2000) (1) (⟨4, 1⟩)) := by
  decide +kernel

theorem test_WritesArePostedRefusedAndTaken_3 :
    ((fun (s : State) (via : Iface) (index : Nat) (d : Datum) => Live s ∧ histMask index ≠ 0 ∧ s.host.posted = [⟨via, index, 3, d, 0, false⟩] ∧
        s.host.holding = none ∧ dieReachable s (dieOf index 3) = true ∧ ran (exec (.writeTakesEffect via (islandOf index 3)) s) = true ∧
        (fun (t : State) => t.host.posted = [] ∧
        t.rd (key index 3) = d.val &&& histMask index) (after (exec (.writeTakesEffect via (islandOf index 3)) s))) (ready.setHost fun h => { h with posted := [⟨.parallel, 0x3100, 3, ⟨4, 0xFFFFFFFF⟩, 0, false⟩] }) (.parallel) (0x3100) (⟨4, 0xFFFFFFFF⟩)) := by
  decide +kernel

theorem test_WritesArePostedRefusedAndTaken_4 :
    ((fun (s : State) (via : Iface) (index : Nat) (d : Datum) => Live s ∧ histMask index ≠ 0 ∧ dieOf index 2 = 0 ∧ Accepts s via index 2 d ∧
        ran (exec (.historyW1cWrite via index 2 d) s) = true ∧
        (fun (t : State) => t.rd (key index 2) = clearBits (s.rd (key index 2)) d.val ∧
        t.dr = s.dr) (after (exec (.historyW1cWrite via index 2 d) s))) (ready.put (key 0x2018 2) 0x6001) (.parallel) (0x2018) (⟨4, 0x2001⟩)) := by
  decide +kernel

theorem test_BusesReachTheDictionary_1 :
    ((fun (s : State) (index : Nat) (sub : Nat) => Live s ∧ busOn s 0 = true ∧ halfBytes index sub = some 4 ∧
        (readEntry s .parallel index sub).1 = 0 ∧ ran (exec (.parallelReadHalf0 index sub) s) = true ∧
        (fun (t : State) => t.host.readLatch = some (key index sub, (readEntry s .parallel index sub).2.1.val, 0) ∧
        t.out.head? = some (.bus ((readEntry s .parallel index sub).2.1.val % 65536))) (after (exec (.parallelReadHalf0 index sub) s))) (ready) (0x2000) (1)) := by
  decide +kernel

theorem test_BusesReachTheDictionary_2 :
    ((fun (s : State) (index : Nat) (sub : Nat) (v : Nat) (x : Nat) => Live s ∧ busOn s 0 = true ∧ halfBytes index sub = some 4 ∧
        s.host.readLatch = some (key index sub, v, x) ∧ ran (exec (.parallelReadHalf1 index sub) s) = true ∧
        (fun (t : State) => t.out = .bus (v / 65536 % 65536) :: s.out ∧ t.host = s.host ∧
        t.od = s.od) (after (exec (.parallelReadHalf1 index sub) s))) (ready.setHost fun h => { h with readLatch := some (key 0x2000 1, 0xABCD9608, 0) }) (0x2000) (1) (0xABCD9608) (0)) := by
  decide +kernel

theorem test_BusesReachTheDictionary_3 :
    ((fun (s : State) (index : Nat) (sub : Nat) (hd : Nat) => Live s ∧ busOn s 0 = true ∧ halfBytes index sub = some 4 ∧
        s.host.writeLatch = none ∧ ran (exec (.parallelWriteHalf0 index sub hd) s) = true ∧
        (fun (t : State) => t.host.writeLatch = some (key index sub, hd % 65536, 0) ∧ t.host.posted = s.host.posted ∧ t.od = s.od ∧
        t.nv = s.nv) (after (exec (.parallelWriteHalf0 index sub hd) s))) (ready) (0x1005) (0) (0x1234)) := by
  decide +kernel

theorem test_BusesReachTheDictionary_4 :
    ((fun (s : State) (index : Nat) (sub : Nat) (hd : Nat) (low : Nat) (x : Nat) => Live s ∧ busOn s 0 = true ∧ halfBytes index sub = some 4 ∧
        s.host.writeLatch = some (key index sub, low, x) ∧ low < 65536 ∧ streamSelf index sub = false ∧ index ≠ 0x2310 ∧
        pendingCount s 0 < 1024 ∧
        (writeRefuse (s.setHost fun h => { h with writeLatch := none }) .parallel index sub ⟨4, low + hd % 65536 * 65536⟩).1 = 0 ∧
        ran (exec (.parallelWriteHalf1 index sub hd) s) = true ∧ (fun (t : State) => t.host.writeLatch = none ∧
        t.host.posted = s.host.posted ++ [⟨.parallel, index, sub, ⟨4, low + hd % 65536 * 65536⟩, ticketOf s (journalled s .parallel index sub ⟨4, low + hd % 65536 * 65536⟩), false⟩]) (after (exec (.parallelWriteHalf1 index sub hd) s))) (ready.setHost fun h => { h with writeLatch := some (key 0x2102 2, 7, 0) }) (0x2102) (2) (0x1234) (7) (0)) := by
  decide +kernel

theorem test_BusesReachTheDictionary_5 :
    ((fun (s : State) (index : Nat) (sub : Nat) (n : Nat) => Live s ∧ busOn s 1 = true ∧ streamData index sub = none ∧
        (readBase s .spi index sub).1 = 0 ∧ (readBase s .spi index sub).2.1.len ≤ 512 ∧ ran (exec (.spiRead index sub n) s) = true ∧
        (fun (t : State) => t.out.length = 1) (after (exec (.spiRead index sub n) s))) (ready) (0x2000) (1) (6)) := by
  decide +kernel

theorem test_BusesReachTheDictionary_6 :
    ((fun (s : State) (index : Nat) (sub : Nat) (d : Datum) => Live s ∧ busOn s 1 = true ∧ (writeRefuse s .spi index sub d).1 = 0 ∧
        index ≠ 0x2310 ∧ pendingCount s 1 < 1024 ∧ s.host.holding = none ∧ streamSelf index sub = false ∧
        ran (exec (.spiWrite index sub d) s) = true ∧
        (fun (t : State) => t.host.posted = s.host.posted ++ [⟨.spi, index, sub, d, ticketOf s (journalled s .spi index sub d), false⟩]) (after (exec (.spiWrite index sub d) s))) (ready) (0x2001) (1) (⟨1, 3⟩)) := by
  decide +kernel

theorem test_BusesReachTheDictionary_7 :
    ((fun (s : State) (n : Nat) => Live s ∧ busOn s 1 = true ∧ ran (exec (.spiStatus n) s) = true ∧
        (fun (t : State) => t.out.length = 1) (after (exec (.spiStatus n) s))) (ready) (6)) := by
  decide +kernel

theorem test_BusesReachTheDictionary_8 :
    ((fun (s : State) (index : Nat) (sub : Nat) => Live s ∧ busOn s 1 = true ∧ ran (exec (.spiInvalidFrame index sub) s) = true ∧
        (fun (t : State) => t.rd (key 0x2101 4) = 0x05040001 ∧ t.rd (key 0x2101 6) = (s.rd (key 0x2101 6) + 1) % 2 ^ 32 ∧
        bit (t.rd (key 0x2100 2)) 1 = true ∧ t.host = s.host) (after (exec (.spiInvalidFrame index sub) s))) (ready) (0x2000) (1)) := by
  decide +kernel

theorem test_StreamObjectsTransfer_1 :
    ((fun (s : State) (spi : Bool) => Live s ∧ s.host.streams.length = 2 ∧ streamOn s spi = true ∧ QuietPort s ∧
        Accepts s (streamVia spi) (0x2102 + b2n spi) 5 ⟨1, 1⟩ ∧ (s.streamAt (b2n spi)).state = 0 ∧
        streamSelf (streamTarget s (b2n spi)).1 (streamTarget s (b2n spi)).2 = false ∧
        (readBase s (streamVia spi) (streamTarget s (b2n spi)).1 (streamTarget s (b2n spi)).2).1 = 0 ∧
        ran (exec (.openRead spi) s) = true ∧ (fun (t : State) => (t.streamAt (b2n spi)).state = 1 ∧ (t.streamAt (b2n spi)).position = 0 ∧
        t.rd (key (0x2102 + b2n spi) 2) = (readBase s (streamVia spi) (streamTarget s (b2n spi)).1 (streamTarget s (b2n spi)).2).2.1.len) (after (exec (.openRead spi) s))) ((ready.put (key 0x2103 1) 0x10180100).put (key 0x2103 2) 4) (true)) := by
  decide +kernel

theorem test_StreamObjectsTransfer_2 :
    ((fun (s : State) (spi : Bool) => Live s ∧ s.host.streams.length = 2 ∧ streamOn s spi = true ∧ QuietPort s ∧
        Accepts s (streamVia spi) (0x2102 + b2n spi) 5 ⟨1, 2⟩ ∧ openWriteRefuse s (b2n spi) = 0 ∧ ran (exec (.openWrite spi) s) = true ∧
        (fun (t : State) => (t.streamAt (b2n spi)).state = 2 ∧ (t.streamAt (b2n spi)).position = 0 ∧
        t.host.posted = s.host.posted) (after (exec (.openWrite spi) s))) ((ready.put (key 0x2103 1) 0x10050000).put (key 0x2103 2) 4) (true)) := by
  decide +kernel

theorem test_StreamObjectsTransfer_3 :
    ((fun (s : State) (spi : Bool) => Live s ∧ s.host.streams.length = 2 ∧ streamOn s spi = true ∧ QuietPort s ∧
        Accepts s (streamVia spi) (0x2102 + b2n spi) 5 ⟨1, 3⟩ ∧ ran (exec (.close_ spi) s) = true ∧
        (fun (t : State) => t.streamAt (b2n spi) = {} ∧
        t.host.posted = s.host.posted) (after (exec (.close_ spi) s))) ((ready.put (key 0x2103 1) 0x10180100).put (key 0x2103 2) 4) (true)) := by
  decide +kernel

theorem test_StreamObjectsTransfer_4 :
    ((fun (s : State) (spi : Bool) (n : Nat) => Live s ∧ s.host.streams.length = 2 ∧ streamOn s spi = true ∧ QuietPort s ∧ spi = false ∧
        openRefuse s 0x2102 3 = 0 ∧ (s.streamAt 0).state = 1 ∧ (s.streamAt 0).position + 2 < s.rd (key 0x2102 2) ∧
        (s.streamAt 0).base ≤ (s.streamAt 0).position ∧ (s.streamAt 0).position + 2 ≤ (s.streamAt 0).base + (s.streamAt 0).block.len ∧
        ran (exec (.streamDataRead false n) s) = true ∧ (fun (t : State) => (t.streamAt 0).position = (s.streamAt 0).position + 2 ∧
        (t.streamAt 0).state = 1) (after (exec (.streamDataRead false n) s))) ((ready.put (key 0x2102 2) 4).setStream 0 fun _ => { state := 1, block := ⟨4, 0x04030201⟩ }) (false) (2)) := by
  decide +kernel

theorem test_StreamObjectsTransfer_5 :
    ((fun (s : State) (spi : Bool) (d : Datum) => Live s ∧ s.host.streams.length = 2 ∧ streamOn s spi = true ∧ QuietPort s ∧ spi = true ∧
        openRefuse s 0x2103 3 = 0 ∧ pendingCount s 1 < 1024 ∧ (s.streamAt 1).state = 2 ∧
        (s.streamAt 1).position + d.len < s.rd (key 0x2103 2) ∧ ran (exec (.streamDataWrite true d) s) = true ∧
        (fun (t : State) => (t.streamAt 1).position = (s.streamAt 1).position + d.len ∧ (t.streamAt 1).state = 2 ∧
        t.host.posted = s.host.posted) (after (exec (.streamDataWrite true d) s))) ((ready.put (key 0x2103 2) 4).setStream 1 fun _ => { state := 2 }) (true) (⟨2, 0x0102⟩)) := by
  decide +kernel

theorem test_SystemEntriesAct_1 :
    ((fun (s : State) (via : Iface) => Accepts s via 0x2001 2 ⟨1, 0x5A⟩ ∧ ran (exec (.deviceReset via) s) = true ∧
        (fun (t : State) => t.nv.swReset = true ∧ Job.journal ∈ t.nv.queue) (after (exec (.deviceReset via) s))) (ready) (.parallel)) := by
  decide +kernel

theorem test_SystemEntriesAct_2 :
    ((fun (s : State) (via : Iface) => Accepts s via 0x1003 0 ⟨1, 0⟩ ∧ ran (exec (.clearErrorList via ⟨1, 0⟩) s) = true ∧
        (fun (t : State) => t.rd (key 0x1003 0) = 0 ∧ t.rd (key 0x1003 1) = 0 ∧
        t.rd (key 0x1003 16) = 0) (after (exec (.clearErrorList via ⟨1, 0⟩) s))) ((ready.put (key 0x1003 1) 5).put (key 0x1003 0) 1) (.parallel)) := by
  decide +kernel

theorem test_SystemEntriesAct_3 :
    ((fun (s : State) (via : Iface) (d : Datum) => Accepts s via 0x1010 1 d ∧
        imageBytes (makeImage (journalled s via 0x1010 1 d) true) ≤ 1792 ∧
        imageBytes (makeImage (journalled s via 0x1010 1 d) false) ≤ 34816 ∧ ran (exec (.storeParameters via 1 d) s) = true ∧
        (fun (t : State) => t.nv.sram.comm = makeImage (journalled s via 0x1010 1 d) true ∧
        t.nv.sram.app = makeImage (journalled s via 0x1010 1 d) false ∧
        Job.store ∈ t.nv.queue) (after (exec (.storeParameters via 1 d) s))) ({ ready with ctxs := List.replicate 256 { pool := true } }) (.parallel) (⟨4, 0x65766173⟩)) := by
  decide +kernel

theorem test_SystemEntriesAct_4 :
    ((fun (s : State) (via : Iface) (d : Datum) => Accepts s via 0x1011 1 d ∧ ran (exec (.restoreDefaultParameters via 1 d) s) = true ∧
        (fun (t : State) => t.nv.sram.loadAll = true ∧ Job.store ∈ t.nv.queue ∧
        t.od = s.od) (after (exec (.restoreDefaultParameters via 1 d) s))) (ready) (.parallel) (⟨4, 0x64616F6C⟩)) := by
  decide +kernel

theorem test_SystemEntriesAct_5 :
    ((fun (s : State) (via : Iface) (d : Datum) => Accepts s via 0x1F50 1 d ∧ s.nv.download = none ∧ d.len < 1024 ∧
        ran (exec (.programDataWrite via d) s) = true ∧
        (fun (t : State) => t.nv.download = some { by_ := via, received := d.len, rest := ⟨d.len, d.val % 2 ^ (8 * d.len)⟩ } ∧
        t.nv.flash = 1 ∧ t.rd (key 0x2045 1) = 1 ∧
        t.rd (key 0x2045 3) = d.len) (after (exec (.programDataWrite via d) s))) (ready) (.parallel) (⟨512, 2 ^ 4095⟩)) := by
  decide +kernel

theorem test_SystemEntriesAct_6 :
    ((fun (s : State) (via : Iface) => Accepts s via 0x1F51 1 ⟨1, 1⟩ ∧ s.nv.download = none ∧ s.nv.sram.dev.images.length = 2 ∧
        downloadTarget s < 2 ∧ s.nv.decay = [] ∧
        imageSound (journalled s via 0x1F51 1 ⟨1, 1⟩ |>.put (key 0x1F51 1) 1) (downloadTarget s) = false ∧
        ran (exec (.programStart via) s) = true ∧ (fun (t : State) => t.rd (key 0x2045 1) = 3 ∧
        t.nv.sram.dev.images.getD (downloadTarget s) 0 = 3 ∧
        t.nv.sram.dev.bootImage = s.nv.sram.dev.bootImage) (after (exec (.programStart via) s))) (ready) (.parallel)) := by
  decide +kernel

theorem test_SystemEntriesAct_7 :
    ((fun (s : State) (via : Iface) => Accepts s via 0x1F51 1 ⟨1, 0⟩ ∧ s.nv.download ≠ none ∧ s.nv.sram.dev.images.length = 2 ∧
        downloadTarget s < 2 ∧ ran (exec (.programStop via) s) = true ∧ (fun (t : State) => t.nv.download = none ∧
        t.rd (key 0x2045 1) = 4 ∧ t.nv.sram.dev.images.getD (downloadTarget s) 0 = 3 ∧
        t.nv.flash = 0) (after (exec (.programStop via) s))) (ready.nvSet fun v => { v with download := some {} }) (.parallel)) := by
  decide +kernel

theorem test_SystemEntriesAct_8 :
    ((fun (s : State) (via : Iface) => Accepts s via 0x1F51 1 ⟨1, 3⟩ ∧ s.nv.sram.dev.images.length = 2 ∧ downloadTarget s < 2 ∧
        ran (exec (.programClear via) s) = true ∧ (fun (t : State) => t.nv.download = none ∧
        t.nv.sram.dev.images.getD (downloadTarget s) 0 = 0 ∧
        Job.commit .download 1 ∈ t.nv.queue) (after (exec (.programClear via) s))) (ready) (.parallel)) := by
  decide +kernel

theorem test_SystemEntriesAct_9 :
    ((fun (s : State) (log : Bool) => Live s ∧ (s.ring log).staged ≠ [] ∧ ran (exec (.journalCommitTimer log) s) = true ∧
        (fun (t : State) => (if log then Job.eventLog else Job.journal) ∈ t.nv.queue) (after (exec (.journalCommitTimer log) s))) (ready.setRing true fun g => { g with staged := [{}] }) (true)) := by
  decide +kernel

theorem test_NetworkManagementTouchesTheNodeOnly_1 :
    ((fun (s : State) => Live s ∧ nmtMine s 0 = true ∧ ran (exec (.nmtStartRemoteNode 0) s) = true ∧
        (fun (t : State) => t = s.setCan fun c => { c with nmt := 2 }) (after (exec (.nmtStartRemoteNode 0) s))) (onCan { nmt := 1 })) := by
  decide +kernel

theorem test_NetworkManagementTouchesTheNodeOnly_2 :
    ((fun (s : State) => Live s ∧ nmtMine s 0 = true ∧ ran (exec (.nmtStopRemoteNode 0) s) = true ∧
        (fun (t : State) => t = s.setCan fun c => { c with nmt := 0 }) (after (exec (.nmtStopRemoteNode 0) s))) (onCan { nmt := 2 })) := by
  decide +kernel

theorem test_NetworkManagementTouchesTheNodeOnly_3 :
    ((fun (s : State) => Live s ∧ nmtMine s 0 = true ∧ ran (exec (.nmtEnterPreOperational 0) s) = true ∧
        (fun (t : State) => t = s.setCan fun c => { c with nmt := 1 }) (after (exec (.nmtEnterPreOperational 0) s))) (onCan { nmt := 2 })) := by
  decide +kernel

theorem test_NetworkManagementTouchesTheNodeOnly_4 :
    ((fun (s : State) => Live s ∧ nmtMine s 0 = true ∧ s.can.pendingNode = none ∧ ran (exec (.nmtResetCommunication 0) s) = true ∧
        (fun (t : State) => t.can.nmt = 1 ∧ t.can.node = s.can.node ∧ t.can.nominal = s.rd (key 0x2104 3) ∧
        t.can.data = s.rd (key 0x2104 4) ∧ (t.can.fd = (s.rd (key 0x2104 5) == 1)) ∧ t.od = s.od ∧ t.dp = s.dp ∧ t.ap = s.ap ∧
        t.tcs = s.tcs ∧ t.chan = s.chan) (after (exec (.nmtResetCommunication 0) s))) (onCan { nmt := 2 })) := by
  decide +kernel

theorem test_NetworkManagementTouchesTheNodeOnly_5 :
    ((fun (s : State) => Live s ∧ nmtMine s 0 = true ∧ s.rd (key 0x2104 6) = 1 ∧ ran (exec (.nmtResetNode 0) s) = true ∧
        (fun (t : State) => t.resetReq = some (dueCause s.resetReq 4)) (after (exec (.nmtResetNode 0) s))) ((onCan { nmt := 2 }).put (key 0x2104 6) 1)) := by
  decide +kernel

theorem test_NetworkManagementTouchesTheNodeOnly_6 :
    ((fun (s : State) => Live s ∧ nmtMine s 0 = true ∧ s.rd (key 0x2104 6) = 0 ∧ s.can.pendingNode = none ∧
        ran (exec (.nmtResetNode 0) s) = true ∧ (fun (t : State) => t.resetReq = s.resetReq ∧ t.can.nmt = 1 ∧ t.dp = s.dp ∧ t.ap = s.ap ∧
        t.tcs = s.tcs) (after (exec (.nmtResetNode 0) s))) (onCan { nmt := 2 })) := by
  decide +kernel

theorem test_NetworkManagementTouchesTheNodeOnly_7 :
    ((fun (s : State) => Live s ∧ nodeOk s = true ∧ s.rd (key 0x1017 0) ≠ 0 ∧ s.can.nmt ≠ 3 ∧ ran (exec (.heartbeatTimer) s) = true ∧
        (fun (t : State) => t = s.send (.can (0x700 + s.can.node) ⟨1, nmtCode s.can.nmt⟩)) (after (exec (.heartbeatTimer) s))) ((onCan { nmt := 2 }).put (key 0x1017 0) 100)) := by
  decide +kernel

theorem test_NetworkManagementTouchesTheNodeOnly_8 :
    ((fun (s : State) (passive : Bool) (busOff : Bool) => Live s ∧ ran (exec (.canErrorStateChange passive busOff) s) = true ∧
        (fun (t : State) => t.can = { s.can with passive := passive, busOff := busOff } ∧ (busOff = true → s.can.busOff = false →
        bit (t.rd (key 0x2100 2)) 4 = true)) (after (exec (.canErrorStateChange passive busOff) s))) (onCan { nmt := 2 }) (true) (true)) := by
  decide +kernel

theorem test_LssServicesAnswer_1 :
    ((fun (s : State) => Live s ∧ canOn s = true ∧ ran (exec (.lssSwitchStateGlobal true) s) = true ∧
        (fun (t : State) => t = s.setCan fun c => { c with lss := true }) (after (exec (.lssSwitchStateGlobal true) s))) (onCan { nmt := 1 })) := by
  decide +kernel

theorem test_LssServicesAnswer_3 :
    ((fun (s : State) (n : Nat) => Live s ∧ canOn s = true ∧ s.can.lss = true ∧ 1 ≤ n ∧ n ≤ 127 ∧ ran (exec (.lssConfigureNodeId n) s) = true ∧
        (fun (t : State) => t.can.pendingNode = some n ∧ t.can.node = s.can.node ∧
        t.out = .can 0x7E4 ⟨8, 0x11⟩ :: s.out) (after (exec (.lssConfigureNodeId n) s))) (onCan { nmt := 1, lss := true }) (127)) := by
  decide +kernel

theorem test_LssServicesAnswer_4 :
    ((fun (s : State) (rate : Nat) => Live s ∧ canOn s = true ∧ s.can.lss = true ∧ rate ≤ 4 ∧
        ran (exec (.lssConfigureBitTiming 0 rate) s) = true ∧ (fun (t : State) => t.can.pendingTiming = some (0, rate) ∧
        t.can.nominal = s.can.nominal ∧
        t.out = .can 0x7E4 ⟨8, 0x13⟩ :: s.out) (after (exec (.lssConfigureBitTiming 0 rate) s))) (onCan { nmt := 1, lss := true }) (4)) := by
  decide +kernel

theorem test_LssServicesAnswer_5 :
    ((fun (s : State) (delay : Nat) (rate : Nat) => Live s ∧ canOn s = true ∧ s.can.lss = true ∧ s.can.pendingTiming = some (0, rate) ∧
        ran (exec (.lssActivateBitTiming delay) s) = true ∧
        (fun (t : State) => t = s.setCan fun c => { c with nominal := 4 - rate }) (after (exec (.lssActivateBitTiming delay) s))) (onCan { nmt := 1, lss := true, pendingTiming := some (0, 4) }) (0) (4)) := by
  decide +kernel

theorem test_LssServicesAnswer_6 :
    ((fun (s : State) (n : Nat) => Live s ∧ canOn s = true ∧ s.can.lss = true ∧ s.can.pendingNode = some n ∧
        ran (exec (.lssStoreConfiguration) s) = true ∧ (fun (t : State) => t.nv.sram.dev.lssNode = some n ∧ Job.store ∈ t.nv.queue ∧
        t.out = .can 0x7E4 ⟨8, 0x17⟩ :: s.out) (after (exec (.lssStoreConfiguration) s))) (onCan { nmt := 1, lss := true, pendingNode := some 9 }) (9)) := by
  decide +kernel

theorem test_LssServicesAnswer_7 :
    ((fun (s : State) => Live s ∧ canOn s = true ∧ s.can.lss = true ∧ ran (exec (.lssInquireIdentity 0x5E) s) = true ∧
        (fun (t : State) => t = s.send (.can 0x7E4 ⟨8, 0x5E + s.can.node * 256⟩)) (after (exec (.lssInquireIdentity 0x5E) s))) (onCan { nmt := 1, lss := true })) := by
  decide +kernel

theorem test_LssServicesAnswer_9 :
    ((fun (s : State) => Live s ∧ canOn s = true ∧ s.can.node = 0xFF ∧ ran (exec (.lssIdentifyNonConfigured) s) = true ∧
        (fun (t : State) => t = s.send (.can 0x7E4 ⟨8, 0x50⟩)) (after (exec (.lssIdentifyNonConfigured) s))) ({ ready with can := { joined := true } })) := by
  decide +kernel

theorem test_CanopenTransfersAndPdos_1 :
    ((fun (s : State) (usdo : Bool) (index : Nat) (sub : Nat) (d : Datum) => Live s ∧ sdoOn s = true ∧ engineUp s 15 = true ∧
        s.sdoAt usdo = none ∧ ((usdo = true → s.can.fd = true)) ∧ (writeRefuse s (sdoVia usdo) index sub d).1 = 0 ∧ index ≠ 0x2310 ∧
        streamSelf index sub = false ∧ pendingCount s 2 < 1024 ∧ s.host.stalled = [] ∧
        ran (exec (.sdoDownload usdo index sub (.whole d)) s) = true ∧
        (fun (t : State) => t.out.head? = some (.answer (sdoVia usdo) index sub 0 {}) ∧
        t.host.posted = s.host.posted ++ [⟨sdoVia usdo, index, sub, d, ticketOf s (journalled s (sdoVia usdo) index sub d), false⟩]) (after (exec (.sdoDownload usdo index sub (.whole d)) s))) (onCan { nmt := 2 }) (false) (0x2001) (1) (⟨1, 3⟩)) := by
  decide +kernel

theorem test_CanopenTransfersAndPdos_2 :
    ((fun (s : State) (usdo : Bool) (index : Nat) (sub : Nat) (d : Datum) => Live s ∧ sdoOn s = true ∧ engineUp s 15 = true ∧
        s.sdoAt usdo = none ∧ ((usdo = true → s.can.fd = true)) ∧ (writeRefuse s (sdoVia usdo) index sub d).1 ≠ 0 ∧ index ≠ 0x2310 ∧
        streamSelf index sub = false ∧ pendingCount s 2 < 1024 ∧ s.host.stalled = [] ∧
        ran (exec (.sdoDownload usdo index sub (.whole d)) s) = true ∧
        (fun (t : State) => t.out.head? = some (.answer (sdoVia usdo) index sub (writeRefuse s (sdoVia usdo) index sub d).1 {}) ∧
        t.host.posted = s.host.posted ∧
        t.rd (key 0x2101 7) = (writeRefuse s (sdoVia usdo) index sub d).1 % 2 ^ 32) (after (exec (.sdoDownload usdo index sub (.whole d)) s))) (onCan { nmt := 2 }) (false) (0x2000) (1) (⟨4, 0⟩)) := by
  decide +kernel

theorem test_CanopenTransfersAndPdos_3 :
    ((fun (s : State) (usdo : Bool) (index : Nat) (sub : Nat) => Live s ∧ sdoOn s = true ∧ engineUp s 15 = true ∧ s.sdoAt usdo = none ∧
        ((usdo = true → s.can.fd = true)) ∧ (readEntry s (sdoVia usdo) index sub).1 = 0 ∧
        (readEntry s (sdoVia usdo) index sub).2.1.len ≤ 4 ∧ ran (exec (.sdoUpload usdo index sub none) s) = true ∧
        (fun (t : State) => t.out.head? = some (.answer (sdoVia usdo) index sub 0 (readEntry s (sdoVia usdo) index sub).2.1)) (after (exec (.sdoUpload usdo index sub none) s))) (onCan { nmt := 2 }) (false) (0x2000) (1)) := by
  decide +kernel

theorem test_CanopenTransfersAndPdos_4 :
    ((fun (s : State) (x : Transfer) => Live s ∧ sdoOn s = true ∧ engineUp s 15 = true ∧ s.sdoAt false = some x ∧ x.upload = true ∧
        x.block = none ∧ ran (exec (.sdoSegment false (.up x.toggle)) s) = true ∧
        (fun (t : State) => t.out.head? = some (.answer .canSdo x.index x.sub 0 ⟨min 7 (x.data.len - x.sent), bytesAt x.data.val x.sent (min 7 (x.data.len - x.sent))⟩)) (after (exec (.sdoSegment false (.up x.toggle)) s))) (onCan { nmt := 2, sdo := [some { upload := true, data := ⟨8, 0x0807060504030201⟩, size := 8 }, none] }) ({ upload := true, data := ⟨8, 0x0807060504030201⟩, size := 8 })) := by
  decide +kernel

theorem test_CanopenTransfersAndPdos_5 :
    ((fun (s : State) (x : Transfer) => Live s ∧ s.sdoAt false = some x ∧ ran (exec (.sdoTimeout false) s) = true ∧
        (fun (t : State) => t.sdoAt false = none ∧ t.out = .answer .canSdo x.index x.sub 0x05040000 {} :: s.out ∧
        t.rd (key 0x2101 7) = 0x05040000 ∧ t.rd (key 0x2101 9) = (s.rd (key 0x2101 9) + 1) % 2 ^ 32 ∧
        bit (t.rd (key 0x2100 2)) 2 = true) (after (exec (.sdoTimeout false) s))) (onCan { nmt := 2, sdo := [some {}, none] }) ({})) := by
  decide +kernel

theorem test_CanopenTransfersAndPdos_6 :
    ((fun (s : State) => Live s ∧ s.can.tpdos.length = 8 ∧ pdoOn s 0x1800 = true ∧ tpdoType s 0 = 1 ∧ (s.tpdoAt 0).queued = none ∧
        ran (exec (.syncReceived 0) s) = true ∧
        (fun (t : State) => (t.tpdoAt 0).queued = some (tpdoValue s 0)) (after (exec (.syncReceived 0) s))) (((onCan { nmt := 2 }).put (key 0x1800 1) 0x180).put (key 0x1800 2) 1)) := by
  decide +kernel

theorem test_CanopenTransfersAndPdos_7 :
    ((fun (s : State) (p : Nat) (d : Datum) => Live s ∧ p < 8 ∧ s.can.tpdos.length = 8 ∧ pdoOn s (0x1800 + p) = true ∧
        (s.tpdoAt p).queued = some d ∧ ran (exec (.tpdoTransmit p) s) = true ∧
        (fun (t : State) => t.out = .can (s.rd (key (0x1800 + p) 1) % 2 ^ 29) d :: s.out ∧
        (t.tpdoAt p).queued = none) (after (exec (.tpdoTransmit p) s))) (((onCan { nmt := 2 }).put (key 0x1807 1) 0x480).setTpdo 7 fun x => { x with queued := some ⟨1, 5⟩ }) (7) (⟨1, 5⟩)) := by
  decide +kernel

theorem test_CanopenTransfersAndPdos_8 :
    ((fun (s : State) (p : Nat) => Live s ∧ p < 8 ∧ pdoOn s (0x1800 + p) = true ∧ 254 ≤ tpdoType s p ∧ s.rd (key (0x1800 + p) 5) ≠ 0 ∧
        (s.tpdoAt p).lastAt = none ∧ ran (exec (.tpdoEventTimer p) s) = true ∧
        (fun (t : State) => t.out = .can (s.rd (key (0x1800 + p) 1) % 2 ^ 29) (tpdoValue s p) :: s.out) (after (exec (.tpdoEventTimer p) s))) ((((onCan { nmt := 2 }).put (key 0x1807 1) 0x480).put (key 0x1807 2) 255).put (key 0x1807 5) 10) (7)) := by
  decide +kernel

theorem test_CanopenTransfersAndPdos_9 :
    ((fun (s : State) (p : Nat) (d : Datum) (e : Nat × Nat × Nat) => Live s ∧ p < 8 ∧ pdoOn s (0x1400 + p) = true ∧
        mapping s (0x1600 + p) = [e] ∧ e.2.2 ≤ d.len ∧ (writeRefuse s (.canPdo p) e.1 e.2.1 ⟨e.2.2, bytesAt d.val 0 e.2.2⟩).1 = 0 ∧
        e.1 ≠ 0x2310 ∧ pendingCount s 2 < 1024 ∧ streamSelf e.1 e.2.1 = false ∧ ran (exec (.rpdoReceived p d) s) = true ∧
        (fun (t : State) => t.host.posted = s.host.posted ++ [⟨.canPdo p, e.1, e.2.1, ⟨e.2.2, bytesAt d.val 0 e.2.2⟩, ticketOf s (journalled s (.canPdo p) e.1 e.2.1 ⟨e.2.2, bytesAt d.val 0 e.2.2⟩), false⟩]) (after (exec (.rpdoReceived p d) s))) ((((onCan { nmt := 2 }).put (key 0x1407 1) 0x500).put (key 0x1607 1) 0x20010108).put (key 0x1607 0) 1) (7) (⟨1, 3⟩) ((0x2001, 1, 1))) := by
  decide +kernel

theorem test_CanopenTransfersAndPdos_10 :
    ((fun (s : State) (p : Nat) (d : Datum) (e : Nat × Nat × Nat) => Live s ∧ p < 8 ∧ pdoOn s (0x1400 + p) = true ∧
        mapping s (0x1600 + p) = [e] ∧ d.len < e.2.2 ∧ ran (exec (.rpdoReceived p d) s) = true ∧
        (fun (t : State) => bit (t.rd (key 0x2100 2)) 6 = true ∧
        t.host = s.host) (after (exec (.rpdoReceived p d) s))) ((((onCan { nmt := 2 }).put (key 0x1407 1) 0x500).put (key 0x1607 1) 0x20010108).put (key 0x1607 0) 1) (7) (⟨0, 0⟩) ((0x2001, 1, 1))) := by
  decide +kernel

theorem test_CanopenTransfersAndPdos_11 :
    ((fun (s : State) (e : Nat × Bool) (r : List (Nat × Bool)) => Live s ∧ s.col.emcy = e :: r ∧ nodeOk s = true ∧ s.can.nmt = 1 ∧
        entryValue s 0x1014 0 < 2 ^ 31 ∧ s.can.emcyAt = none ∧ ran (exec (.emcyTransmit) s) = true ∧ (fun (t : State) => t.col.emcy = r ∧
        t.out = .can (entryValue s 0x1014 0 % 2 ^ 29) ⟨8, e.1⟩ :: s.out) (after (exec (.emcyTransmit) s))) ((onCan { nmt := 1 }).setCol fun c => { c with emcy := [(7, false)] }) ((7, false)) ([])) := by
  decide +kernel

theorem test_EdgesAreCapturedDroppedOrSkipped_1 : ShapeWf (input { captured := 65537 }) ∧
    ((fun (s : State) (n : Nat) (coarse : Nat) (bin : Nat) (frac : Nat) => Live s ∧ n < 96 ∧ bootPast s 5 = true ∧ s.chCfg n 1 = 1 ∧
        s.chCfg n 5 = 0 ∧ s.chCfg n 6 = 0 ∧ (s.chanAt n).fresh = true ∧ (s.chanAt n).late = false ∧ (s.chanAt n).los = false ∧
        (s.chanAt n).lastKept = none ∧ fifoCount (s.chanAt n).fifo < 64 ∧ ran (exec (.channelEdge n false coarse bin frac) s) = true ∧
        (fun (t : State) => (t.chanAt n).fifo.length = 1 ∧ (t.chanAt n).captured = (s.chanAt n).captured + 1 ∧
        (t.chanAt n).dropSlice = (s.chanAt n).dropSlice ∧
        (t.chanAt n).fresh = false) (after (exec (.channelEdge n false coarse bin frac) s))) (input { captured := 65537 }) (95) (100) (3) (0)) := by
  refine ⟨shape_of (by decide +kernel), ?_⟩
  decide +kernel

theorem test_EdgesAreCapturedDroppedOrSkipped_2 : ShapeWf (input { fifo := fullFifo }) ∧
    ((fun (s : State) (n : Nat) (coarse : Nat) (bin : Nat) (frac : Nat) => Live s ∧ n < 96 ∧ bootPast s 5 = true ∧ s.chCfg n 1 = 1 ∧
        s.chCfg n 5 = 0 ∧ s.chCfg n 6 = 0 ∧ (s.chanAt n).fresh = true ∧ (s.chanAt n).los = false ∧ (s.chanAt n).lastKept = none ∧
        64 ≤ fifoCount (s.chanAt n).fifo ∧ ran (exec (.channelEdge n false coarse bin frac) s) = true ∧
        (fun (t : State) => (t.chanAt n).fifo = (s.chanAt n).fifo ∧ (t.chanAt n).captured = (s.chanAt n).captured + 1 ∧
        (t.chanAt n).dropSlice = (s.chanAt n).dropSlice + 1) (after (exec (.channelEdge n false coarse bin frac) s))) (input { fifo := fullFifo }) (95) (100) (3) (0)) := by
  refine ⟨shape_of (by decide +kernel), ?_⟩
  decide +kernel

theorem test_EdgesAreCapturedDroppedOrSkipped_3 : ShapeWf ((input { fresh := false }).put (key 0x305F 7) 2) ∧
    ((fun (s : State) (n : Nat) (coarse : Nat) (bin : Nat) (frac : Nat) => Live s ∧ n < 96 ∧ bootPast s 5 = true ∧ s.chCfg n 1 = 1 ∧
        s.chCfg n 5 = 0 ∧ s.chCfg n 6 = 0 ∧ (s.chanAt n).fresh = false ∧ (s.chanAt n).late = false ∧
        (s.chanAt n).count + 1 < decimation s n ∧ ran (exec (.channelEdge n false coarse bin frac) s) = true ∧
        (fun (t : State) => (t.chanAt n).fifo = (s.chanAt n).fifo ∧ (t.chanAt n).captured = (s.chanAt n).captured ∧
        (t.chanAt n).count = (s.chanAt n).count + 1) (after (exec (.channelEdge n false coarse bin frac) s))) ((input { fresh := false }).put (key 0x305F 7) 2) (95) (100) (3) (0)) := by
  refine ⟨shape_of (by decide +kernel), ?_⟩
  decide +kernel

theorem test_EdgesAreCapturedDroppedOrSkipped_4 : ShapeWf ({ input { fresh := false, lastKept := some 13107200 } with od := [(key 0x2515 16, 1), (key 0x305F 1, 1)] }) ∧
    ((fun (s : State) (n : Nat) (coarse : Nat) (bin : Nat) (frac : Nat) (r : Int) => Live s ∧ n < 96 ∧ bootPast s 5 = true ∧ s.chCfg n 1 = 1 ∧
        s.chCfg n 5 = 0 ∧ s.chCfg n 6 = 0 ∧ edgeDue s n = true ∧ (s.chanAt n).late = false ∧ (s.chanAt n).lastKept = some r ∧
        edgeTime s n false coarse bin < r + 4 * 65536 ∧ ran (exec (.channelEdge n false coarse bin frac) s) = true ∧
        (fun (t : State) => (t.chanAt n).fifo = (s.chanAt n).fifo ∧ (t.chanAt n).captured = (s.chanAt n).captured ∧
        (t.chanAt n).dropSlice = (s.chanAt n).dropSlice ∧ (t.chanAt n).late = true ∧
        t.drd (key (0x3200 + n) 8) = (s.drd (key (0x3200 + n) 8) + 1) % 2 ^ 32) (after (exec (.channelEdge n false coarse bin frac) s))) ({ input { fresh := false, lastKept := some 13107200 } with od := [(key 0x2515 16, 1), (key 0x305F 1, 1)] }) (95) (100) (3) (0) (13107200)) := by
  refine ⟨shape_of (by decide +kernel), ?_⟩
  decide +kernel

theorem test_EdgesAreCapturedDroppedOrSkipped_5 : ShapeWf (ready) ∧
    ((fun (s : State) (n : Nat) (via : Iface) (d : Datum) => Live s ∧ n < 96 ∧ Accepts s via (0x3000 + n) 1 d ∧ bootPast s 5 = true ∧
        ran (exec (.channelRoleWrite via n d) s) = true ∧ (fun (t : State) => t.rd (key (0x3000 + n) 1) = d.val ∧
        (t.chanAt n).fresh = true ∧
        (t.chanAt n).captured = (s.chanAt n).captured) (after (exec (.channelRoleWrite via n d) s))) (ready) (95) (.parallel) (⟨1, 1⟩)) := by
  refine ⟨shape_of (by decide +kernel), ?_⟩
  decide +kernel

theorem test_EdgesAreCapturedDroppedOrSkipped_6 : ShapeWf (input { second := 9 }) ∧
    ((fun (s : State) (n : Nat) => Live s ∧ n < 96 ∧ ran (exec (.rateSecond) s) = true ∧
        (fun (t : State) => t.drd (key (0x3200 + n) 9) = (s.chanAt n).second % 2 ^ 32 ∧
        (t.chanAt n).second = 0) (after (exec (.rateSecond) s))) (input { second := 9 }) (95)) := by
  refine ⟨shape_of (by decide +kernel), ?_⟩
  decide +kernel

theorem full_of {n : Nat} (s : State) (h : ringSize ≤ n + 1) :
    hubFull (s.setChans fun c => { c with ring := List.replicate (n + 1) { cup := true } }) = true := by
  unfold hubFull State.setChans
  simp [List.replicate_succ, h]

/-- The stamp buffer full of stamps that cupping has not taken. -/
def hubOverflow : State :=
  (input { fifo := [.stamp stamp95] }).setChans fun c => { c with ring := List.replicate ringSize { cup := true } }

theorem test_hub_overflow : Live hubOverflow ∧ linkDrains hubOverflow (dieOfChan 95) = true ∧ (hubOverflow.chanAt 95).fifo = [.stamp stamp95] ∧
    ingestGrant hubOverflow (dieOfChan 95) = .granted { taken := [0, 0, 0, 0, 0, 1] } ∧
    (carry hubOverflow (dieOfChan 95) false (stampRecord 95 stamp95.seq) 0).1 = true ∧ hubFull hubOverflow = true := by
  exact ⟨by decide +kernel, by decide +kernel, by decide +kernel, by decide +kernel, by decide +kernel, full_of _ (by decide)⟩

theorem test_StampsReachTheirConsumers_1 : ShapeWf (input { fifo := [.stamp stamp95, .marker] }) ∧
    ((fun (s : State) (n : Nat) (replays : Nat) (x : Stamp) (r : List FifoItem) (gr : Ingest) => Live s ∧ n < 96 ∧
        linkDrains s (dieOfChan n) = true ∧ (s.chanAt n).fifo = .stamp x :: r ∧ ingestGrant s (dieOfChan n) = .granted gr ∧
        (carry s (dieOfChan n) false (stampRecord n x.seq) replays).1 = true ∧ hubFull s = false ∧
        ran (exec (.stampIngest n replays false) s) = true ∧ (fun (t : State) => (t.chanAt n).fifo = r ∧
        (t.chanAt n).delivered = (s.chanAt n).delivered + 1 ∧ (t.chanAt n).dropHub = (s.chanAt n).dropHub ∧ (t.chanAt n).lastSeq = x.seq ∧
        (s.fb 0x12 = 0 →
        t.rd (key (0x3200 + n) 0x0A) = stampWords (deliveredStamp s n x (carry s (dieOfChan n) false (stampRecord n x.seq) replays).2.1))) (after (exec (.stampIngest n replays false) s))) (input { fifo := [.stamp stamp95, .marker] }) (95) (0) (stamp95) ([.marker]) ({ window := 0, taken := [0, 0, 0, 0, 0, 1] })) := by
  refine ⟨shape_of (by decide +kernel), ?_⟩
  decide +kernel

theorem test_StampsReachTheirConsumers_3 : ShapeWf (ready.setChans fun c => { c with ring := [{ stamp := stamp95, host := true }] }) ∧
    ((fun (s : State) (n : Nat) (via : Iface) (whole : Bool) (x : Stamp) => Live s ∧ n < 96 ∧ viaOn s via = true ∧ s.boot.open_ = true ∧
        oldestUnread s.chan.ring n = some x ∧ ran (exec (.stampPop via n whole) s) = true ∧
        (fun (t : State) => stampLatch t (ifaceLatch via) n = stampWords x ∧ t.chan.ring = markRead s.chan.ring n ∧
        t.chan.chans = s.chan.chans) (after (exec (.stampPop via n whole) s))) (ready.setChans fun c => { c with ring := [{ stamp := stamp95, host := true }] }) (95) (.spi) (true) (stamp95)) := by
  refine ⟨shape_of (by decide +kernel), ?_⟩
  decide +kernel

theorem test_StampsReachTheirConsumers_4 : ShapeWf (ready) ∧
    ((fun (s : State) (n : Nat) (via : Iface) (whole : Bool) => Live s ∧ n < 96 ∧ viaOn s via = true ∧ s.boot.open_ = true ∧
        oldestUnread s.chan.ring n = none ∧ ran (exec (.stampPop via n whole) s) = true ∧
        (fun (t : State) => stampLatch t (ifaceLatch via) n = 2 ^ 96 - 1 ∧
        t.chan.ring = s.chan.ring) (after (exec (.stampPop via n whole) s))) (ready) (95) (.spi) (false)) := by
  refine ⟨shape_of (by decide +kernel), ?_⟩
  decide +kernel

theorem test_StampsReachTheirConsumers_5 : ShapeWf ((((ready.put (key 0x2610 1) 2).put (key 0x3611 0x12) 1).setChans fun c => { c with ring := [{ stamp := stamp95, eth := true }], eth := { lost := 3 } })) ∧
    ((fun (s : State) (n : Nat) => Live s ∧ n < 96 ∧ exportOpen s false = true ∧ (exportRecords s false).1 ≠ [] ∧
        ran (exec (.exportFlushTimer false) s) = true ∧ (fun (t : State) => t.out.length = s.out.length + 1 ∧
        t.chan.eth = { sequence := (s.chan.eth.sequence + 1) % 2 ^ 32, lost := 0 } ∧
        t.rd (key 0x2610 5) = (s.rd (key 0x2610 5) + 1) % 2 ^ 32) (after (exec (.exportFlushTimer false) s))) ((((ready.put (key 0x2610 1) 2).put (key 0x3611 0x12) 1).setChans fun c => { c with ring := [{ stamp := stamp95, eth := true }], eth := { lost := 3 } })) (95)) := by
  refine ⟨shape_of (by decide +kernel), ?_⟩
  decide +kernel

theorem test_GatesRunToDone_1 : ShapeWf ((gated { state := .done, stops := [{}] }).put (key 0x3317 8) 95) ∧
    ((fun (s : State) (g : Nat) (via : Iface) => Live s ∧ g < 24 ∧ Accepts s via (0x3300 + g) 6 ⟨1, 1⟩ ∧ s.gateCfg g 8 < 96 ∧
        ran (exec (.gateArm via g) s) = true ∧ (fun (t : State) => (t.gateAt g).state = .armed ∧ (t.gateAt g).stops = [] ∧
        (t.gateAt g).early = 0 ∧ t.rd (key (0x3300 + g) 1) = 1 ∧
        t.rd (key (0x3300 + g) 0x21) = 0) (after (exec (.gateArm via g) s))) ((gated { state := .done, stops := [{}] }).put (key 0x3317 8) 95) (23) (.parallel)) := by
  refine ⟨shape_of (by decide +kernel), ?_⟩
  decide +kernel

theorem test_GatesRunToDone_2 : ShapeWf (gated {}) ∧
    ((fun (s : State) (g : Nat) (via : Iface) => Live s ∧ g < 24 ∧ Accepts s via (0x3300 + g) 6 ⟨1, 1⟩ ∧ s.gateCfg g 8 = 0x7E ∧
        ran (exec (.gateArm via g) s) = true ∧ (fun (t : State) => (t.gateAt g).state = .open_ ∧ (t.gateAt g).start = gateNow s g ∧
        t.rd (key (0x3300 + g) 1) = 2) (after (exec (.gateArm via g) s))) (gated {}) (23) (.parallel)) := by
  refine ⟨shape_of (by decide +kernel), ?_⟩
  decide +kernel

theorem test_GatesRunToDone_3 : ShapeWf (gated { state := .open_, stops := [{}] }) ∧
    ((fun (s : State) (g : Nat) (via : Iface) => Live s ∧ g < 24 ∧ Accepts s via (0x3300 + g) 6 ⟨1, 2⟩ ∧ gateBusy (s.gateAt g) = true ∧
        ran (exec (.gateAbort via g) s) = true ∧ (fun (t : State) => (t.gateAt g).state = .done ∧ (t.gateAt g).cause = 3 ∧
        (t.gateAt g).stops = (s.gateAt g).stops ∧ t.rd (key (0x3300 + g) 0x1F) = 3 ∧
        t.rd (key (0x3300 + g) 2) = s.rd (key (0x3300 + g) 2) ||| 3) (after (exec (.gateAbort via g) s))) (gated { state := .open_, stops := [{}] }) (23) (.parallel)) := by
  refine ⟨shape_of (by decide +kernel), ?_⟩
  decide +kernel

theorem test_GatesRunToDone_4 : ShapeWf (gated { state := .open_, start := 7 }) ∧
    ((fun (s : State) (g : Nat) => Live s ∧ g < 24 ∧ (s.gateAt g).state = .open_ ∧ gateIsFreq s g = false ∧
        ran (exec (.gateDeadline g) s) = true ∧ (fun (t : State) => (t.gateAt g).state = .closing ∧ (t.gateAt g).cause = 1 ∧
        (t.gateAt g).deadline = (s.gateAt g).start + (s.gateCfg g 0x1A * 65536 : Nat) ∧
        (t.gateAt g).stops = (s.gateAt g).stops) (after (exec (.gateDeadline g) s))) (gated { state := .open_, start := 7 }) (23)) := by
  refine ⟨shape_of (by decide +kernel), ?_⟩
  decide +kernel

theorem test_GatesRunToDone_5 : ShapeWf ((gated { state := .closing, cause := 1, deadline := 7 }).put (key 0x3317 7) 0) ∧
    ((fun (s : State) (g : Nat) (c : Nat) (raw : Int) (lag : Nat) => Live s ∧ g < 24 ∧ c < 6 ∧ Crosses s c false (oneWord 5 c) ∧
        (s.gateAt g).state = .closing ∧ gateIsFreq s g = false ∧ (∀ e ∈ gateDies s g, e = c) ∧
        (s.gateAt g).deadline ≤ (if s.gateCfg g 7 = 1 then before ((tcNow s (gateTc s g) : Int) - lag) (((unsent s c).filter fun x : Stamp => x.tc == gateTc s g).map fun x : Stamp => (x.time : Int)) else before raw ((unsent s c).map fun x : Stamp => x.raw)) ∧ ran (exec (.watermarkReceived c raw lag) s) = true ∧ (fun (t : State) => (t.gateAt g).state = .done ∧ (t.gateAt g).cause = (s.gateAt g).cause ∧ (t.gateAt g).valid = true ∧ (t.gateAt g).stops = (s.gateAt g).stops ∧ bit (t.rd (key (0x3300 + g) 2)) 0 = true) (after (exec (.watermarkReceived c raw lag) s))) ((gated { state := .closing, cause := 1, deadline := 7 }).put (key 0x3317 7) 0) (23) (5) (7) (0)) := by
  refine ⟨shape_of (by decide +kernel), ?_⟩
  decide +kernel

theorem test_MeasurementTimeBaseFollowsTheSosc_1 : ShapeWf (ready.setBase fun b => { b with sosc := true, soscTen := true }) ∧
    ((fun (s : State) => Live s ∧ ran (exec (.soscAbsent) s) = true ∧ (fun (t : State) => t.chan.base.sosc = false ∧
        t.chan.base.soscTen = false) (after (exec (.soscAbsent) s))) (ready.setBase fun b => { b with sosc := true, soscTen := true })) := by
  refine ⟨shape_of (by decide +kernel), ?_⟩
  decide +kernel

theorem test_MeasurementTimeBaseFollowsTheSosc_2 : ShapeWf (ready) ∧
    ((fun (s : State) => Live s ∧ s.chan.base.sosc = false ∧ ran (exec (.soscPresent) s) = true ∧
        (fun (t : State) => t = s.setBase fun b => { b with sosc := true, soscTen := false, soscSince := s.now }) (after (exec (.soscPresent) s))) (ready)) := by
  refine ⟨shape_of (by decide +kernel), ?_⟩
  decide +kernel

theorem test_MeasurementTimeBaseFollowsTheSosc_3 : ShapeWf (ready.setBase fun b => { b with inUse := true }) ∧
    ((fun (s : State) => Live s ∧ s.chan.base.inUse = true ∧ s.chan.base.sosc = false ∧ ran (exec (.timebaseFallback) s) = true ∧
        (fun (t : State) => t.chan.base.inUse = false ∧ t.chan.base.fallback = true ∧
        bit (t.rd (key 0x2600 2)) 0 = true) (after (exec (.timebaseFallback) s))) (ready.setBase fun b => { b with inUse := true })) := by
  refine ⟨shape_of (by decide +kernel), ?_⟩
  decide +kernel

theorem test_MeasurementTimeBaseFollowsTheSosc_4 : ShapeWf ((ready.put (key 0x2601 1) 1).setBase fun b => { b with sosc := true, fallback := true }) ∧
    ((fun (s : State) => Live s ∧ s.chan.base.inUse = false ∧ s.chan.base.sosc = true ∧ s.rd (key 0x2601 1) = 1 ∧
        ran (exec (.timebaseSoscReturn) s) = true ∧ (fun (t : State) => t.chan.base.inUse = true ∧ t.chan.base.fallback = false ∧
        t.chan.base.soscTen = true ∧
        bit (t.rd (key 0x2600 2)) 1 = true) (after (exec (.timebaseSoscReturn) s))) ((ready.put (key 0x2601 1) 1).setBase fun b => { b with sosc := true, fallback := true })) := by
  refine ⟨shape_of (by decide +kernel), ?_⟩
  decide +kernel

theorem test_MeasurementTimeBaseFollowsTheSosc_5 : ShapeWf ((ready.put (key 0x2601 1) 1).setBase fun b => { b with inUse := true }) ∧
    ((fun (s : State) (via : Iface) => Live s ∧ Accepts s via 0x2601 1 ⟨1, 0⟩ ∧ ran (exec (.timebaseSourceWrite via ⟨1, 0⟩) s) = true ∧
        (fun (t : State) => t.chan.base.inUse = false ∧ t.chan.base.fallback = false ∧
        t.rd (key 0x2601 1) = 0) (after (exec (.timebaseSourceWrite via ⟨1, 0⟩) s))) ((ready.put (key 0x2601 1) 1).setBase fun b => { b with inUse := true }) (.parallel)) := by
  refine ⟨shape_of (by decide +kernel), ?_⟩
  decide +kernel

theorem test_MeasurementTimeBaseFollowsTheSosc_6 : ShapeWf (ready) ∧
    ((fun (s : State) (via : Iface) => Live s ∧ Accepts s via 0x2601 1 ⟨1, 1⟩ ∧ s.chan.base.inUse = false ∧ s.chan.base.soscTen = false ∧
        ran (exec (.timebaseSourceWrite via ⟨1, 1⟩) s) = true ∧ (fun (t : State) => t.chan.base.inUse = false ∧
        t.chan.base.fallback = true ∧ bit (t.rd (key 0x2600 2)) 0 = true ∧
        t.rd (key 0x2601 1) = 1) (after (exec (.timebaseSourceWrite via ⟨1, 1⟩) s))) (ready) (.parallel)) := by
  refine ⟨shape_of (by decide +kernel), ?_⟩
  decide +kernel

theorem test_MeasurementTimeBaseFollowsTheSosc_7 : ShapeWf (ready.setBase fun b => { b with sosc := true, soscTen := true }) ∧
    ((fun (s : State) (via : Iface) => Live s ∧ Accepts s via 0x2601 1 ⟨1, 1⟩ ∧ s.chan.base.inUse = false ∧ s.chan.base.soscTen = true ∧
        ran (exec (.timebaseSourceWrite via ⟨1, 1⟩) s) = true ∧ (fun (t : State) => t.chan.base.inUse = true ∧
        t.chan.base.fallback = false ∧
        t.rd (key 0x2601 1) = 1) (after (exec (.timebaseSourceWrite via ⟨1, 1⟩) s))) (ready.setBase fun b => { b with sosc := true, soscTen := true }) (.parallel)) := by
  refine ⟨shape_of (by decide +kernel), ?_⟩
  decide +kernel

theorem test_MeasurementTimeBaseFollowsTheSosc_8 : ShapeWf (ready.setDp fun d => { d with mxo := true }) ∧
    ((fun (s : State) (via : Iface) (d : Datum) => Live s ∧ Accepts s via 0x2601 2 d ∧ ran (exec (.soscHzWrite via d) s) = true ∧
        (fun (t : State) => t.rd (key 0x2601 2) = d.val ∧ t.chan.base.hzPending = true ∧ t.chan.base.hzInUse = s.chan.base.hzInUse ∧
        t.chan.base.soscSince = s.now) (after (exec (.soscHzWrite via d) s))) (ready.setDp fun d => { d with mxo := true }) (.parallel) (⟨4, 20000000⟩)) := by
  refine ⟨shape_of (by decide +kernel), ?_⟩
  decide +kernel

theorem test_MeasurementTimeBaseFollowsTheSosc_9 : ShapeWf (ready.setTc 0 fun t => { t with val := 7 * 65536000000000 * 2 ^ 32 }) ∧
    ((fun (s : State) (via : Iface) (sosc : Bool) => Live s ∧ Accepts s via (0x2602 + b2n sosc) 5 ⟨1, 1⟩ ∧
        ran (exec (.dateNow via sosc) s) = true ∧
        (fun (t : State) => t.rd (key (0x2602 + b2n sosc) 3) = tcNow s 0 / 65536000000000 % 2 ^ 48) (after (exec (.dateNow via sosc) s))) (ready.setTc 0 fun t => { t with val := 7 * 65536000000000 * 2 ^ 32 }) (.parallel) (true)) := by
  refine ⟨shape_of (by decide +kernel), ?_⟩
  decide +kernel

theorem test_MeasurementTimeBaseFollowsTheSosc_10 : ShapeWf ((ready.put (key 0x2603 1) (2 ^ 48 - 5)).setTc 0 fun t => { t with unset := true }) ∧
    ((fun (s : State) (sosc : Bool) => Live s ∧ (s.tcAt 0).unset = true ∧ ran (exec (.timebaseModelEval) s) = true ∧
        (fun (t : State) => t.rd (key (0x2602 + b2n sosc) 4) = s.rd (key (0x2602 + b2n sosc) 1) % 2 ^ 48) (after (exec (.timebaseModelEval) s))) ((ready.put (key 0x2603 1) (2 ^ 48 - 5)).setTc 0 fun t => { t with unset := true }) (true)) := by
  refine ⟨shape_of (by decide +kernel), ?_⟩
  decide +kernel

theorem test_CuppingCommandsAct_1 : ShapeWf (((cupped 0 formed).put (key 0x315F 5) 0).put (key 0x305F 7) 10) ∧
    ((fun (s : State) (via : Iface) (n : Nat) => Live s ∧ n < 96 ∧ Accepts s via (0x3100 + n) 5 ⟨1, 1⟩ ∧ engineUp s 12 = true ∧
        s.chCfg n 1 = 1 ∧ (s.cupAt n).st = 0 ∧ bootPast s 5 = true ∧ ran (exec (.cuppingEnableWrite via n ⟨1, 1⟩) s) = true ∧
        (fun (t : State) => t.rd (key (0x3100 + n) 0x22) = 2 ∧ t.rd (key (0x3100 + n) 0x23) = 0 ∧ (t.cupAt n).t0 = none ∧
        (t.chanAt n).fresh = true ∧
        t.rd (key (0x3100 + n) 5) = 1) (after (exec (.cuppingEnableWrite via n ⟨1, 1⟩) s))) (((cupped 0 formed).put (key 0x315F 5) 0).put (key 0x305F 7) 10) (.parallel) (95)) := by
  refine ⟨shape_of (by decide +kernel), ?_⟩
  decide +kernel

theorem test_CuppingCommandsAct_2 : ShapeWf (cupped 3 formed) ∧
    ((fun (s : State) (via : Iface) (n : Nat) => Live s ∧ n < 96 ∧ Accepts s via (0x3100 + n) 5 ⟨1, 0⟩ ∧ engineUp s 12 = true ∧
        (s.cupAt n).st ≠ 0 ∧ bootPast s 5 = true ∧ ran (exec (.cuppingEnableWrite via n ⟨1, 0⟩) s) = true ∧
        (fun (t : State) => t.rd (key (0x3100 + n) 0x22) = 0 ∧ t.rd (key (0x3100 + n) 0x23) = 0 ∧ t.rd (key (0x3100 + n) 5) = 0 ∧
        bit (t.rd (key (0x3100 + n) 2)) 6 = true) (after (exec (.cuppingEnableWrite via n ⟨1, 0⟩) s))) (cupped 3 formed) (.parallel) (95)) := by
  refine ⟨shape_of (by decide +kernel), ?_⟩
  decide +kernel

theorem test_CuppingCommandsAct_3 : ShapeWf ((cupped 1 formed).setChan 95 fun c => { c with fresh := false }) ∧
    ((fun (s : State) (via : Iface) (n : Nat) => Live s ∧ n < 96 ∧ Accepts s via (0x3100 + n) 8 ⟨1, 1⟩ ∧ engineUp s 12 = true ∧
        underCupping s n = true ∧ (s.cupAt n).cmds = [] ∧ (s.cupAt n).st ≠ 0 ∧ (((s.cupAt n).st = 1 ∨ (s.chanAt n).los = false ∧
        (s.cupAt n).fell = false)) ∧ ran (exec (.requalify via n) s) = true ∧ (fun (t : State) => t.rd (key (0x3100 + n) 0x22) = 2 ∧
        t.rd (key (0x3100 + n) 0x23) = 0 ∧ (t.cupAt n).t0 = none ∧ (t.chanAt n).fresh = true ∧ bit (t.rd (key (0x3100 + n) 2)) 8 = true ∧
        bit (t.rd (key (0x3100 + n) 2)) 2 = true) (after (exec (.requalify via n) s))) ((cupped 1 formed).setChan 95 fun c => { c with fresh := false }) (.parallel) (95)) := by
  refine ⟨shape_of (by decide +kernel), ?_⟩
  decide +kernel

theorem test_CuppingCommandsAct_4 : ShapeWf (cupped 3 formed) ∧
    ((fun (s : State) (via : Iface) (n : Nat) => Live s ∧ n < 96 ∧ Accepts s via (0x3100 + n) 8 ⟨1, 2⟩ ∧ engineUp s 12 = true ∧
        underCupping s n = true ∧ (s.cupAt n).cmds = [] ∧ (s.cupAt n).st ≠ 0 ∧ (((s.cupAt n).st = 1 ∨ (s.chanAt n).los = false ∧
        (s.cupAt n).fell = false)) ∧ ran (exec (.disqualify via n) s) = true ∧ (fun (t : State) => t.rd (key (0x3100 + n) 0x22) = 1 ∧
        t.rd (key (0x3100 + n) 0x23) = 4 ∧ t.faultIn = s.faultIn ++ [⟨faultWord 0 1 5 n, s.now⟩] ∧
        t.chan = s.chan) (after (exec (.disqualify via n) s))) (cupped 3 formed) (.parallel) (95)) := by
  refine ⟨shape_of (by decide +kernel), ?_⟩
  decide +kernel

theorem test_CuppingCommandsAct_5 : ShapeWf ((cupped 3 formed).put (key 0x315F 0x27) 5) ∧
    ((fun (s : State) (via : Iface) (n : Nat) => Live s ∧ n < 96 ∧ Accepts s via (0x3100 + n) 8 ⟨1, 3⟩ ∧ engineUp s 12 = true ∧
        underCupping s n = true ∧ (s.cupAt n).cmds = [] ∧ (s.cupAt n).st ≠ 0 ∧ (((s.cupAt n).st = 1 ∨ (s.chanAt n).los = false ∧
        (s.cupAt n).fell = false)) ∧ ran (exec (.restartStats via n) s) = true ∧
        (fun (t : State) => t.rd (key (0x3100 + n) 0x22) = (s.cupAt n).st ∧ (t.cupAt n).st = (s.cupAt n).st ∧ (t.cupAt n).t0 = none ∧
        (t.cupAt n).freqFormed = false ∧ t.chan = s.chan ∧ t.rd (key (0x3100 + n) 0x27) = 0xFFFFFFFF ∧
        bit (t.rd (key (0x3100 + n) 2)) 8 = true) (after (exec (.restartStats via n) s))) ((cupped 3 formed).put (key 0x315F 0x27) 5) (.parallel) (95)) := by
  refine ⟨shape_of (by decide +kernel), ?_⟩
  decide +kernel

theorem test_CuppingCommandsAct_6 : ShapeWf (cupped 0 {}) ∧
    ((fun (s : State) (via : Iface) (n : Nat) => Live s ∧ n < 96 ∧ Accepts s via (0x3100 + n) 8 ⟨1, 1⟩ ∧ (s.cupAt n).st = 0 ∧
        ran (exec (.requalify via n) s) = true ∧ (fun (t : State) => t.od = s.od ∧ t.cups = s.cups ∧
        t.chan = s.chan) (after (exec (.requalify via n) s))) (cupped 0 {}) (.parallel) (95)) := by
  refine ⟨shape_of (by decide +kernel), ?_⟩
  decide +kernel

theorem test_CupScoreAndStateFollowR140_1 : ShapeWf (cupped 3 formed) ∧
    ((fun (s : State) (n : Nat) => Live s ∧ n < 96 ∧ engineUp s 12 = true ∧ underCupping s n = true ∧ cupHears s n = true ∧
        (s.chanAt n).los = false ∧ 2 ≤ (s.cupAt n).st ∧ ran (exec (.losDeclared n) s) = true ∧
        (fun (t : State) => (t.chanAt n).los = true ∧ t.rd (key (0x3100 + n) 0x31) = ((s.cupAt n).losCount + 1) % 2 ^ 32 ∧
        t.rd (key (0x3100 + n) 0x22) = 1 ∧ t.rd (key (0x3100 + n) 0x23) = 1 ∧ t.rd (key (0x3100 + n) 0x24) = 0 ∧
        t.faultIn = s.faultIn ++ [⟨faultWord 0 1 3 n, s.now⟩, ⟨faultWord 0 1 5 n, s.now⟩]) (after (exec (.losDeclared n) s))) (cupped 3 formed) (95)) := by
  refine ⟨shape_of (by decide +kernel), ?_⟩
  decide +kernel

theorem test_CupScoreAndStateFollowR140_2 : ShapeWf (cupped 3 { formed with freqFlag := true, drift := 5 }) ∧
    ((fun (s : State) (n : Nat) => Live s ∧ n < 96 ∧ CupSteady s n ∧ scoreFormed s n = true ∧ (s.chanAt n).los = false ∧
        (s.cupAt n).outOfRange = false ∧ ran (exec (.cupEvaluation n) s) = true ∧
        (fun (t : State) => t.rd (key (0x3100 + n) 0x24) = 255 - (if (s.cupAt n).freqFlag then s.cupReg n 0x0E else 0) - min 255 (s.cupReg n 0x11 * absI (s.cupAt n).drift / s.cupReg n 0x10) - penaltyW s n) (after (exec (.cupEvaluation n) s))) (cupped 3 { formed with freqFlag := true, drift := 5 }) (95)) := by
  refine ⟨shape_of (by decide +kernel), ?_⟩
  decide +kernel

theorem test_CupScoreAndStateFollowR140_3 : ShapeWf (cupped 3 { formed with freqFlag := true }) ∧
    ((fun (s : State) (n : Nat) => Live s ∧ n < 96 ∧ CupSteady s n ∧ scoreFormed s n = true ∧ (s.chanAt n).los = false ∧ (s.cupAt n).st = 3 ∧
        cupScore s n < s.cupReg n 0x1F ∧ s.cupReg n 0x20 ≤ cupScore s n ∧ ran (exec (.cupEvaluation n) s) = true ∧
        (fun (t : State) => t.rd (key (0x3100 + n) 0x22) = 4 ∧ t.rd (key (0x3100 + n) 0x23) = (s.cupAt n).cause % 256 ∧
        t.faultIn = s.faultIn ++ [⟨faultWord 0 1 4 n, s.now⟩] ∧
        bit (t.rd (key (0x3100 + n) 2)) 4 = true) (after (exec (.cupEvaluation n) s))) (cupped 3 { formed with freqFlag := true }) (95)) := by
  refine ⟨shape_of (by decide +kernel), ?_⟩
  decide +kernel

theorem test_CupScoreAndStateFollowR140_4 : ShapeWf (cupped 2 { formed with qualRun := 1000 }) ∧
    ((fun (s : State) (n : Nat) => Live s ∧ n < 96 ∧ engineUp s 12 = true ∧ qualCond s n = true ∧ 100 * s.cupReg n 0x21 ≤ (s.cupAt n).qualRun ∧
        ran (exec (.qualifyTimeExpiry n) s) = true ∧ (fun (t : State) => t.rd (key (0x3100 + n) 0x22) = 3 ∧
        t.rd (key (0x3100 + n) 0x23) = 0 ∧
        bit (t.rd (key (0x3100 + n) 2)) 3 = true) (after (exec (.qualifyTimeExpiry n) s))) (cupped 2 { formed with qualRun := 1000 }) (95)) := by
  refine ⟨shape_of (by decide +kernel), ?_⟩
  decide +kernel

theorem test_CupScoreAndStateFollowR140_5 : ShapeWf (cupped 1 { formed with clearRun := 200, cause := 1 }) ∧
    ((fun (s : State) (n : Nat) => Live s ∧ n < 96 ∧ engineUp s 12 = true ∧ cupHears s n = true ∧ (s.cupAt n).st = 1 ∧ (s.cupAt n).cause = 1 ∧
        (s.chanAt n).los = false ∧ 100 * s.cupReg n 0x0A ≤ (s.cupAt n).clearRun ∧ ran (exec (.losClearTimeExpiry n) s) = true ∧
        (fun (t : State) => t.rd (key (0x3100 + n) 0x22) = 2 ∧ t.rd (key (0x3100 + n) 0x23) = 1 ∧ (t.cupAt n).t0 = none ∧
        (t.chanAt n).fresh = true) (after (exec (.losClearTimeExpiry n) s))) (cupped 1 { formed with clearRun := 200, cause := 1 }) (95)) := by
  refine ⟨shape_of (by decide +kernel), ?_⟩
  decide +kernel

theorem test_CupScoreAndStateFollowR140_6 : ShapeWf (cupped 3 formed) ∧
    ((fun (s : State) (n : Nat) => Live s ∧ n < 96 ∧
        Crosses s (dieOfChan n + 7) false (transferWords (key (0x3100 + n) 1) ⟨4, b2n (s.chanAt n).los⟩) ∧
        ran (exec (.losSignalArrives n) s) = true ∧
        (fun (t : State) => t.dp = { s.dp with chanLos := s.dp.chanLos.set n (s.chanAt n).los } ∧
        t.cups = s.cups) (after (exec (.losSignalArrives n) s))) (cupped 3 formed) (95)) := by
  refine ⟨shape_of (by decide +kernel), ?_⟩
  decide +kernel

theorem test_CupScoreAndStateFollowR140_7 : ShapeWf (cupped 3 formed) ∧
    ((fun (s : State) (n : Nat) => Live s ∧ n < 96 ∧
        Crosses s 6 true (transferWords (key (0x3100 + n) 0x22) ⟨4, (s.cupAt n).st + (s.cupAt n).score * 2 ^ 8⟩) ∧
        ran (exec (.cupStateArrives n) s) = true ∧
        (fun (t : State) => t.dp = { s.dp with chanState := s.dp.chanState.set n (s.cupAt n).st, chanScore := s.dp.chanScore.set n (s.cupAt n).score } ∧ t.cups = s.cups) (after (exec (.cupStateArrives n) s))) (cupped 3 formed) (95)) := by
  refine ⟨shape_of (by decide +kernel), ?_⟩
  decide +kernel

theorem test_CuppingMonitorsPublish_1 : ShapeWf (cupped 3 { formed with missing := 5 }) ∧
    ((fun (s : State) (n : Nat) => Live s ∧ n < 96 ∧ underCupping s n = true ∧ ran (exec (.sampleIntervalEnd n) s) = true ∧
        (fun (t : State) => t = (s.setCup n fun c => { c with missing := c.missing + 1 }).hist (0x3100 + n) (2 ^ 9) ∧
        (t.cupAt n).missing = (s.cupAt n).missing + 1 ∧
        bit (t.rd (key (0x3100 + n) 2)) 9 = true) (after (exec (.sampleIntervalEnd n) s))) (cupped 3 { formed with missing := 5 }) (95)) := by
  refine ⟨shape_of (by decide +kernel), ?_⟩
  decide +kernel

theorem test_CuppingMonitorsPublish_2 : ShapeWf (cupped 3 { samples := [{}, { m := 1000, t := second16, x := -655360000 }] }) ∧
    ((fun (s : State) (n : Nat) (a : CupSample) (b : CupSample) (w : List CupSample) => Live s ∧ n < 96 ∧ underCupping s n = true ∧
        CupSteady s n ∧ ((s.cupAt n).samples.filter fun p => decide ((s.cupAt n).freqBase + (s.cupAt n).freqWin * freqN s n ≤ p.m ∧
        p.m ≤ (s.cupAt n).freqBase + (s.cupAt n).freqWin * freqN s n + freqN s n)) = a :: w ∧ w.getLast? = some b ∧ a.t < b.t ∧
        ran (exec (.freqWindowEnd n) s) = true ∧
        (fun (t : State) => t.rdI 32 (key (0x3100 + n) 0x25) = satI 32 (qd ((b.x - a.x) * 10 ^ 12) (b.t - a.t).toNat).round ∧
        (t.cupAt n).freq = satI 32 (qd ((b.x - a.x) * 10 ^ 12) (b.t - a.t).toNat).round ∧ (t.cupAt n).freqFormed = true ∧
        (t.cupAt n).freqWin = (s.cupAt n).freqWin + 1 ∧
        ((qi (s.cupReg n 0x0C : Nat)).lt (qd ((b.x - a.x) * 10 ^ 12) (b.t - a.t).toNat).abs = true →
        (t.cupAt n).freqFlag = true)) (after (exec (.freqWindowEnd n) s))) (cupped 3 { samples := [{}, { m := 1000, t := second16, x := -655360000 }] }) (95) ({}) ({ m := 1000, t := second16, x := -655360000 }) ([{ m := 1000, t := second16, x := -655360000 }])) := by
  refine ⟨shape_of (by decide +kernel), ?_⟩
  decide +kernel

theorem test_CuppingMonitorsPublish_3 : ShapeWf ({ cupped 3 formed with engDown := [12] }) ∧
    ((fun (s : State) (n : Nat) => Live s ∧ n < 96 ∧ underCupping s n = true ∧ engineUp s 12 = false ∧ ran (exec (.freqWindowEnd n) s) = true ∧
        (fun (t : State) => t = s.setEng fun x => { x with held := x.held ++ [(1, n, 0)] }) (after (exec (.freqWindowEnd n) s))) ({ cupped 3 formed with engDown := [12] }) (95)) := by
  refine ⟨shape_of (by decide +kernel), ?_⟩
  decide +kernel

theorem test_CuppingMonitorsPublish_4 : ShapeWf (cupped 3 { samples := [{}, { m := 1000, t := second16, x := 6553600 }, { m := 2000, t := 2 * second16, x := 13107200 }] }) ∧
    ((fun (s : State) (n : Nat) (slope : Int) => Live s ∧ n < 96 ∧ underCupping s n = true ∧ CupSteady s n ∧
        driftSlope ((s.cupAt n).samples.filter fun p => decide ((s.cupAt n).driftBase ≤ p.t ∧
        (s.cupAt n).driftBase + ((s.cupAt n).driftBin + 1) * ((s.cupReg n 0x0F * second16 : Nat) / 16) - (s.cupReg n 0x0F * second16 : Nat) ≤ p.t ∧ p.t ≤ (s.cupAt n).driftBase + ((s.cupAt n).driftBin + 1) * ((s.cupReg n 0x0F * second16 : Nat) / 16))) = some slope ∧ ran (exec (.driftBinEnd n) s) = true ∧ (fun (t : State) => t.rdI 32 (key (0x3100 + n) 0x26) = satI 32 slope ∧ (t.cupAt n).driftFormed = true ∧ (t.cupAt n).driftBin = (s.cupAt n).driftBin + 1) (after (exec (.driftBinEnd n) s))) (cupped 3 { samples := [{}, { m := 1000, t := second16, x := 6553600 }, { m := 2000, t := 2 * second16, x := 13107200 }] }) (95) (100000)) := by
  refine ⟨shape_of (by decide +kernel), ?_⟩
  decide +kernel

theorem test_CuppingMonitorsPublish_5 : ShapeWf (cupped 3 { formed with samples := squares, mtieStep := [49, 0, 0, 0, 0] }) ∧
    ((fun (s : State) (n : Nat) (i : Nat) (v : Int) => Live s ∧ n < 96 ∧ underCupping s n = true ∧ CupSteady s n ∧ i < 5 ∧
        (s.cupAt n).mtieStep.length = 5 ∧ ((i = 0 → cupPps s n = false)) ∧
        mtieValue (s.cupAt n).samples i ((s.cupAt n).mtieStep.getD i 0 + 1) = some v ∧ ran (exec (.mtieStep n i) s) = true ∧
        (fun (t : State) => t.rd (key (0x3100 + n) (0x27 + i)) = wanderPs (qi v) ∧
        (t.cupAt n).mtieStep.getD i 0 = (s.cupAt n).mtieStep.getD i 0 + 1) (after (exec (.mtieStep n i) s))) (cupped 3 { formed with samples := squares, mtieStep := [49, 0, 0, 0, 0] }) (95) (0) (65536 * 9)) := by
  refine ⟨shape_of (by decide +kernel), ?_⟩
  decide +kernel

theorem test_CuppingMonitorsPublish_6 : ShapeWf (cupped 3 { formed with samples := squares, tdevBlock := [5, 0, 0, 0, 0] }) ∧
    ((fun (s : State) (n : Nat) (i : Nat) => Live s ∧ n < 96 ∧ underCupping s n = true ∧ CupSteady s n ∧ i < 5 ∧ ((i = 0 →
        cupPps s n = false)) ∧ 4 ≤ (secondDiffs (s.cupAt n).samples i 32 ((s.cupAt n).tdevBlock.getD i 0)).length ∧
        ran (exec (.tdevBlockEnd n i) s) = true ∧
        (fun (t : State) => t.rd (key (0x3100 + n) (0x2C + i)) = 816) (after (exec (.tdevBlockEnd n i) s))) (cupped 3 { formed with samples := squares, tdevBlock := [5, 0, 0, 0, 0] }) (95) (0)) := by
  refine ⟨shape_of (by decide +kernel), ?_⟩
  decide +kernel

theorem test_CuppingMonitorsPublish_7 : ShapeWf (cupped 3 { formed with samples := squares, tdevBlock := [0, 0, 0, 0, 4] }) ∧
    ((fun (s : State) (n : Nat) (i : Nat) => Live s ∧ n < 96 ∧ underCupping s n = true ∧ CupSteady s n ∧ i < 5 ∧
        (s.cupAt n).tdevBlock.length = 5 ∧ (secondDiffs (s.cupAt n).samples i 32 ((s.cupAt n).tdevBlock.getD i 0)).length < 4 ∧
        ran (exec (.tdevBlockEnd n i) s) = true ∧ (fun (t : State) => t.od = s.od ∧ (t.cupAt n).tdev = (s.cupAt n).tdev ∧
        (t.cupAt n).tdevBlock.getD i 0 = (s.cupAt n).tdevBlock.getD i 0 + 1) (after (exec (.tdevBlockEnd n i) s))) (cupped 3 { formed with samples := squares, tdevBlock := [0, 0, 0, 0, 4] }) (95) (4)) := by
  refine ⟨shape_of (by decide +kernel), ?_⟩
  decide +kernel

theorem test_DpllCommandsWaitForTheUpdate_1 : ShapeWf (dpll { state := .locked, enabled := true, sel := some 3 }) ∧
    ((fun (s : State) (via : Iface) (k : Nat) (d : Datum) => Live s ∧ k < 16 ∧ Accepts s via (0x3400 + k) 1 d ∧
        ran (exec (.dpllEnableWrite via k d) s) = true ∧ (fun (t : State) => t.rd (key (0x3400 + k) 1) = d.val ∧
        t.dp = s.dp) (after (exec (.dpllEnableWrite via k d) s))) (dpll { state := .locked, enabled := true, sel := some 3 }) (.parallel) (15) (⟨1, 0⟩)) := by
  refine ⟨shape_of (by decide +kernel), ?_⟩
  decide +kernel

theorem test_DpllCommandsWaitForTheUpdate_2 : ShapeWf (dpll { state := .holdover, enabled := true, sel := some 3, holdoff := some 5 }) ∧
    ((fun (s : State) (via : Iface) (k : Nat) (d : Datum) => Live s ∧ k < 16 ∧ Accepts s via (0x3400 + k) 2 d ∧
        ran (exec (.switchModeWrite via k d) s) = true ∧ (fun (t : State) => t.rd (key (0x3400 + k) 2) = d.val ∧
        (t.dpllAt k).holdoff = none ∧ (t.dpllAt k).modeNew = true ∧
        (t.dpllAt k).state = (s.dpllAt k).state) (after (exec (.switchModeWrite via k d) s))) (dpll { state := .holdover, enabled := true, sel := some 3, holdoff := some 5 }) (.parallel) (15) (⟨1, 0⟩)) := by
  refine ⟨shape_of (by decide +kernel), ?_⟩
  decide +kernel

theorem test_DpllCommandsWaitForTheUpdate_3 : ShapeWf (dpll { state := .locked, enabled := true, sel := some 3 }) ∧
    ((fun (s : State) (via : Iface) (k : Nat) (e : Nat) (d : Datum) => Live s ∧ k < 16 ∧ e < 16 ∧ (s.dpllAt k).wtr.length = 16 ∧
        Accepts s via (0x3410 + k) (e + 1) d ∧ d.val % 65536 ≠ candSource s k e ∧ ran (exec (.candidateWrite via k e d) s) = true ∧
        (fun (t : State) => candWord t k e = d.val % 2 ^ 22 ∧ (t.dpllAt k).wordsNew = true ∧ (t.dpllAt k).wtr.getD e none = none ∧
        (t.dpllAt k).state = (s.dpllAt k).state) (after (exec (.candidateWrite via k e d) s))) (dpll { state := .locked, enabled := true, sel := some 3 }) (.parallel) (15) (15) (⟨4, 0x20400⟩)) := by
  refine ⟨shape_of (by decide +kernel), ?_⟩
  decide +kernel

theorem test_DpllCommandsWaitForTheUpdate_4 : ShapeWf (dpll { state := .locked, enabled := true, sel := some 3 }) ∧
    ((fun (s : State) (via : Iface) (k : Nat) => Live s ∧ k < 16 ∧ Accepts s via (0x3400 + k) 0x18 ⟨1, 1⟩ ∧
        ran (exec (.openLoop via k) s) = true ∧ (fun (t : State) => (t.dpllAt k).cmds = (s.dpllAt k).cmds ++ [1] ∧ t.dr = s.dr ∧
        (t.dpllAt k).state = (s.dpllAt k).state) (after (exec (.openLoop via k) s))) (dpll { state := .locked, enabled := true, sel := some 3 }) (.parallel) (15)) := by
  refine ⟨shape_of (by decide +kernel), ?_⟩
  decide +kernel

theorem test_DpllCommandsWaitForTheUpdate_5 : ShapeWf (dpll { state := .locked, enabled := true, sel := some 3 }) ∧
    ((fun (s : State) (via : Iface) (k : Nat) => Live s ∧ k < 16 ∧ Accepts s via (0x3400 + k) 0x18 ⟨1, 2⟩ ∧
        ran (exec (.closeLoop via k) s) = true ∧ (fun (t : State) => (t.dpllAt k).cmds = (s.dpllAt k).cmds ++ [2] ∧ t.dr = s.dr ∧
        (t.dpllAt k).state = (s.dpllAt k).state) (after (exec (.closeLoop via k) s))) (dpll { state := .locked, enabled := true, sel := some 3 }) (.parallel) (15)) := by
  refine ⟨shape_of (by decide +kernel), ?_⟩
  decide +kernel

theorem test_DpllCommandsWaitForTheUpdate_6 : ShapeWf (dpll { state := .locked, enabled := true, sel := some 3 }) ∧
    ((fun (s : State) (via : Iface) (k : Nat) => Live s ∧ k < 16 ∧ Accepts s via (0x3400 + k) 0x18 ⟨1, 3⟩ ∧
        ran (exec (.forceFreerun via k) s) = true ∧ (fun (t : State) => (t.dpllAt k).cmds = (s.dpllAt k).cmds ++ [3] ∧ t.dr = s.dr ∧
        (t.dpllAt k).state = (s.dpllAt k).state) (after (exec (.forceFreerun via k) s))) (dpll { state := .locked, enabled := true, sel := some 3 }) (.parallel) (15)) := by
  refine ⟨shape_of (by decide +kernel), ?_⟩
  decide +kernel

theorem test_DpllCommandsWaitForTheUpdate_7 : ShapeWf (dpll { state := .locked, enabled := true, sel := some 3 }) ∧
    ((fun (s : State) (via : Iface) (k : Nat) => Live s ∧ k < 16 ∧ Accepts s via (0x3400 + k) 0x18 ⟨1, 4⟩ ∧
        ran (exec (.forceHoldover via k) s) = true ∧ (fun (t : State) => (t.dpllAt k).cmds = (s.dpllAt k).cmds ++ [4] ∧ t.dr = s.dr ∧
        (t.dpllAt k).state = (s.dpllAt k).state) (after (exec (.forceHoldover via k) s))) (dpll { state := .locked, enabled := true, sel := some 3 }) (.parallel) (15)) := by
  refine ⟨shape_of (by decide +kernel), ?_⟩
  decide +kernel

theorem test_DpllCommandsWaitForTheUpdate_8 : ShapeWf (dpll { state := .locked, enabled := true, sel := some 3 }) ∧
    ((fun (s : State) (via : Iface) (k : Nat) => Live s ∧ k < 16 ∧ Accepts s via (0x3400 + k) 0x18 ⟨1, 5⟩ ∧
        ran (exec (.release via k) s) = true ∧ (fun (t : State) => (t.dpllAt k).cmds = (s.dpllAt k).cmds ++ [5] ∧ t.dr = s.dr ∧
        (t.dpllAt k).state = (s.dpllAt k).state) (after (exec (.release via k) s))) (dpll { state := .locked, enabled := true, sel := some 3 }) (.parallel) (15)) := by
  refine ⟨shape_of (by decide +kernel), ?_⟩
  decide +kernel

theorem test_DpllCommandsWaitForTheUpdate_9 : ShapeWf (dpll { state := .locked, enabled := true, sel := some 3 }) ∧
    ((fun (s : State) (via : Iface) (k : Nat) => Live s ∧ k < 16 ∧ Accepts s via (0x3400 + k) 0x18 ⟨1, 6⟩ ∧
        ran (exec (.clearWtr via k) s) = true ∧ (fun (t : State) => (t.dpllAt k).cmds = (s.dpllAt k).cmds ++ [6] ∧ t.dr = s.dr ∧
        (t.dpllAt k).state = (s.dpllAt k).state) (after (exec (.clearWtr via k) s))) (dpll { state := .locked, enabled := true, sel := some 3 }) (.parallel) (15)) := by
  refine ⟨shape_of (by decide +kernel), ?_⟩
  decide +kernel

theorem test_DpllCommandsWaitForTheUpdate_10 : ShapeWf (dpll { state := .locked, enabled := true, sel := some 3 }) ∧
    ((fun (s : State) (via : Iface) (k : Nat) (d : Datum) => Live s ∧ k < 16 ∧ Accepts s via (0x3400 + k) 0x17 d ∧
        ran (exec (.dpllTamp via k d) s) = true ∧ (fun (t : State) => (t.dpllAt k).tampReq = (s.dpllAt k).tampReq ++ [toI 64 d.val] ∧
        (t.dpllAt k).offset = (s.dpllAt k).offset ∧
        t.dr = s.dr) (after (exec (.dpllTamp via k d) s))) (dpll { state := .locked, enabled := true, sel := some 3 }) (.parallel) (15) (⟨8, 3276800⟩)) := by
  refine ⟨shape_of (by decide +kernel), ?_⟩
  decide +kernel

theorem test_DpllCommandsWaitForTheUpdate_11 : ShapeWf (dpll { state := .software, enabled := true }) ∧
    ((fun (s : State) (via : Iface) (k : Nat) (d : Datum) => Live s ∧ k < 16 ∧ Accepts s via (0x3400 + k) 0x16 d ∧
        ran (exec (.swFfoWrite via k d) s) = true ∧ (fun (t : State) => t.rd (key (0x3400 + k) 0x16) = d.val ∧
        t.dp = s.dp) (after (exec (.swFfoWrite via k d) s))) (dpll { state := .software, enabled := true }) (.parallel) (15) (⟨6, 5⟩)) := by
  refine ⟨shape_of (by decide +kernel), ?_⟩
  decide +kernel

theorem test_DpllCommandsWaitForTheUpdate_12 : ShapeWf (dpll { state := .locked, enabled := true, wtr := List.replicate 16 (some 7) }) ∧
    ((fun (s : State) (k : Nat) (e : Nat) => Live s ∧ k < 16 ∧ candWaiting s k e = true ∧ ran (exec (.wtrExpiry k e) s) = true ∧
        (fun (t : State) => (t.dpllAt k).wtr = (s.dpllAt k).wtr.set e none ∧ bit (t.drd (key (0x3420 + k) 2)) 30 = true ∧
        t.od = s.od) (after (exec (.wtrExpiry k e) s))) (dpll { state := .locked, enabled := true, wtr := List.replicate 16 (some 7) }) (15) (3)) := by
  refine ⟨shape_of (by decide +kernel), ?_⟩
  decide +kernel

theorem test_DpllCommandsWaitForTheUpdate_13 : ShapeWf (dpll { state := .holdover, enabled := true, sel := some 3, holdoff := some 5 }) ∧
    ((fun (s : State) (k : Nat) => Live s ∧ k < 16 ∧ (s.dpllAt k).holdoff ≠ none ∧ s.dpCfg k 2 ≠ 2 ∧ ran (exec (.holdOffExpiry k) s) = true ∧
        (fun (t : State) => (t.dpllAt k).holdoff = none ∧ (t.dpllAt k).sel = none ∧
        (t.dpllAt k).state = (s.dpllAt k).state) (after (exec (.holdOffExpiry k) s))) (dpll { state := .holdover, enabled := true, sel := some 3, holdoff := some 5 }) (15)) := by
  refine ⟨shape_of (by decide +kernel), ?_⟩
  decide +kernel

theorem test_DpllCommandsWaitForTheUpdate_14 : ShapeWf ((dpll { state := .acquiring, enabled := true, sel := some 3 }).put (key 0x340F 0x14) 60) ∧
    ((fun (s : State) (k : Nat) (e : Nat) => Live s ∧ k < 16 ∧ (s.dpllAt k).state = .acquiring ∧ s.dpCfg k 0x14 ≠ 0 ∧
        (s.dpllAt k).acqReq = false ∧ (s.dpllAt k).sel = some e ∧ s.dpCfg k 5 ≠ 0 ∧ ran (exec (.acqTimeout k) s) = true ∧
        (fun (t : State) => (t.dpllAt k).acqReq = true ∧
        (t.dpllAt k).wtr = (s.dpllAt k).wtr.set e (some (s.now + s.dpCfg k 5 * 1000000000)) ∧
        t.faultIn = s.faultIn ++ [⟨faultWord 1 1 0x0B k, s.now⟩]) (after (exec (.acqTimeout k) s))) ((dpll { state := .acquiring, enabled := true, sel := some 3 }).put (key 0x340F 0x14) 60) (15) (3)) := by
  refine ⟨shape_of (by decide +kernel), ?_⟩
  decide +kernel

theorem test_DpllCommandsWaitForTheUpdate_15 : ShapeWf ((dpll {}).setCol fun c => { c with holds := 0x8000 }) ∧
    ((fun (s : State) (k : Nat) => Live s ∧ k < 16 ∧ Crosses s 6 true (transferWords (key (0x3420 + k) 1) ⟨1, 1⟩) ∧ bit s.col.holds k = true ∧
        ran (exec (.faultHoldArrives k) s) = true ∧ (fun (t : State) => (t.dpllAt k).faultReq = true ∧
        (t.dpllAt k).state = (s.dpllAt k).state ∧
        (t.dpllAt k).faultHold = (s.dpllAt k).faultHold) (after (exec (.faultHoldArrives k) s))) ((dpll {}).setCol fun c => { c with holds := 0x8000 }) (15)) := by
  refine ⟨shape_of (by decide +kernel), ?_⟩
  decide +kernel

theorem test_DpllCommandsWaitForTheUpdate_16 : ShapeWf (dpll { faultReq := true, faultHold := true }) ∧
    ((fun (s : State) (k : Nat) => Live s ∧ k < 16 ∧ Crosses s 6 true (transferWords (key (0x3420 + k) 1) ⟨1, 0⟩) ∧ bit s.col.holds k = false ∧
        ran (exec (.faultHoldRemoved k) s) = true ∧ (fun (t : State) => (t.dpllAt k).faultReq = false ∧
        (t.dpllAt k).state = (s.dpllAt k).state ∧
        (t.dpllAt k).faultHold = (s.dpllAt k).faultHold) (after (exec (.faultHoldRemoved k) s))) (dpll { faultReq := true, faultHold := true }) (15)) := by
  refine ⟨shape_of (by decide +kernel), ?_⟩
  decide +kernel

theorem test_DpllTransitionsFollowR169_1 : ShapeWf ((dpll { enabled := true, state := .pouring, sel := some 3, po := 9, cmdHold := true }).put (key 0x340F 1) 0) ∧
    ((fun (s : State) (k : Nat) (samples : List PhaseSample) => Runs s ∧ k < 16 ∧ (s.dpllAt k).enabled = true ∧ s.dpCfg k 1 = 0 ∧
        (fun (t : State) => (t.dpllAt k).state = .freerun ∧ (t.dpllAt k).lastCause = 25 ∧ (t.dpllAt k).po = 0 ∧
        (t.dpllAt k).withdrawn = (s.dpllAt k).withdrawn + (s.dpllAt k).po ∧ (t.dpllAt k).transitions = (s.dpllAt k).transitions + 1 ∧
        (t.dpllAt k).cmdHold = false ∧
        bit (t.drd (key (0x3420 + k) 2)) 25 = true) (updateCore s k samples)) ((dpll { enabled := true, state := .pouring, sel := some 3, po := 9, cmdHold := true }).put (key 0x340F 1) 0) (15) ([])) := by
  refine ⟨shape_of (by decide +kernel), ?_⟩
  decide +kernel

theorem test_DpllTransitionsFollowR169_2 : ShapeWf (dpll { enabled := true, state := .pouring, po := 9, cmds := [1], sel := some 3 }) ∧
    ((fun (s : State) (k : Nat) (samples : List PhaseSample) => Runs s ∧ k < 16 ∧ (s.dpllAt k).enabled = true ∧ s.dpCfg k 1 = 1 ∧
        (s.dpllAt k).faultReq = false ∧ (s.dpllAt k).faultHold = false ∧ (s.dpllAt k).cmdHold = false ∧ (s.dpllAt k).cmds = [1] ∧
        (s.dpllAt k).state ≠ .software ∧ (fun (t : State) => (t.dpllAt k).state = .software ∧ (t.dpllAt k).lastCause = 23 ∧
        (t.dpllAt k).lastFrom = (s.dpllAt k).state ∧ (t.dpllAt k).po = 0 ∧
        (t.dpllAt k).withdrawn = (s.dpllAt k).withdrawn + (s.dpllAt k).po) (updateCore s k samples)) (dpll { enabled := true, state := .pouring, po := 9, cmds := [1], sel := some 3 }) (15) ([])) := by
  refine ⟨shape_of (by decide +kernel), ?_⟩
  decide +kernel

theorem test_DpllTransitionsFollowR169_3 : ShapeWf (dpll { enabled := true, state := .pouring, po := 9, cmds := [3], sel := some 3 }) ∧
    ((fun (s : State) (k : Nat) (samples : List PhaseSample) => Runs s ∧ k < 16 ∧ (s.dpllAt k).enabled = true ∧ s.dpCfg k 1 = 1 ∧
        (s.dpllAt k).faultReq = false ∧ (s.dpllAt k).faultHold = false ∧ (s.dpllAt k).cmds = [3] ∧ (s.dpllAt k).state ≠ .freerun ∧
        (fun (t : State) => (t.dpllAt k).state = .freerun ∧ (t.dpllAt k).lastCause = 22 ∧ (t.dpllAt k).cmdHold = true ∧
        (t.dpllAt k).po = 0) (updateCore s k samples)) (dpll { enabled := true, state := .pouring, po := 9, cmds := [3], sel := some 3 }) (15) ([])) := by
  refine ⟨shape_of (by decide +kernel), ?_⟩
  decide +kernel

theorem test_DpllTransitionsFollowR169_4 : ShapeWf ((dpll { enabled := true, state := .locked, cmds := [4], sel := some 3 }).setCarafe 15 fun c => { c with prep := some { valid := true } }) ∧
    ((fun (s : State) (k : Nat) (samples : List PhaseSample) => Runs s ∧ k < 16 ∧ (s.dpllAt k).enabled = true ∧ s.dpCfg k 1 = 1 ∧
        (s.dpllAt k).faultReq = false ∧ (s.dpllAt k).faultHold = false ∧ (s.dpllAt k).cmds = [4] ∧ (s.dpllAt k).state.tracks = true ∧
        carafeServes s k = true ∧ (fun (t : State) => (t.dpllAt k).state = .holdover ∧ (t.dpllAt k).lastCause = 22 ∧
        (t.dpllAt k).cmdHold = true ∧
        (t.dpllAt k).holdoff = none) (updateCore s k samples)) ((dpll { enabled := true, state := .locked, cmds := [4], sel := some 3 }).setCarafe 15 fun c => { c with prep := some { valid := true } }) (15) ([])) := by
  refine ⟨shape_of (by decide +kernel), ?_⟩
  decide +kernel

theorem test_DpllTransitionsFollowR169_5 : ShapeWf ((dpll { enabled := true, state := .locked, faultReq := true, sel := some 3 }).setCarafe 15 fun c => { c with prep := some { valid := true } }) ∧
    ((fun (s : State) (k : Nat) (samples : List PhaseSample) => Runs s ∧ k < 16 ∧ (s.dpllAt k).enabled = true ∧ s.dpCfg k 1 = 1 ∧
        (s.dpllAt k).faultReq = true ∧ (s.dpllAt k).faultHold = false ∧ (s.dpllAt k).state.tracks = true ∧ carafeServes s k = true ∧
        (fun (t : State) => (t.dpllAt k).state = .holdover ∧ (t.dpllAt k).lastCause = 20 ∧
        (t.dpllAt k).faultHold = true) (updateCore s k samples)) ((dpll { enabled := true, state := .locked, faultReq := true, sel := some 3 }).setCarafe 15 fun c => { c with prep := some { valid := true } }) (15) ([])) := by
  refine ⟨shape_of (by decide +kernel), ?_⟩
  decide +kernel

theorem test_DpllTransitionsFollowR169_6 : ShapeWf (dpll { enabled := true, state := .freerun, cmds := [5], cmdHold := true }) ∧
    ((fun (s : State) (k : Nat) (samples : List PhaseSample) (e : Nat) => Runs s ∧ k < 16 ∧ (s.dpllAt k).enabled = true ∧ s.dpCfg k 1 = 1 ∧
        (s.dpllAt k).faultReq = false ∧ (s.dpllAt k).faultHold = false ∧ (s.dpllAt k).cmdHold = true ∧ (s.dpllAt k).cmds = [5] ∧
        (s.dpllAt k).state = .freerun ∧ (s.dpllAt k).holdoff = none ∧ s.dpCfg k 2 = 0 ∧ e < 16 ∧ ((∀ i, i < 16 →
        (candFit s k i = true ↔ i = e))) ∧ (fun (t : State) => (t.dpllAt k).state = .acquiring ∧ (t.dpllAt k).sel = some e ∧
        (t.dpllAt k).lastCause = 22 ∧
        (t.dpllAt k).cmdHold = false) (updateCore s k samples)) (dpll { enabled := true, state := .freerun, cmds := [5], cmdHold := true }) (15) ([]) (3)) := by
  refine ⟨shape_of (by decide +kernel), ?_⟩
  decide +kernel

theorem test_DpllTransitionsFollowR169_7 : ShapeWf (((dpll { enabled := true, state := .pouring, po := 9, sel := some 3 }).setDp fun x => { x with chanState := List.replicate 96 1 }).setCarafe 15 fun c => { c with prep := some { valid := true } }) ∧
    ((fun (s : State) (k : Nat) (samples : List PhaseSample) (c : Nat) => Runs s ∧ k < 16 ∧ (s.dpllAt k).enabled = true ∧ s.dpCfg k 1 = 1 ∧
        (s.dpllAt k).faultReq = false ∧ (s.dpllAt k).faultHold = false ∧ (s.dpllAt k).cmdHold = false ∧ (s.dpllAt k).cmds = [] ∧
        (s.dpllAt k).state.tracks = true ∧ (s.dpllAt k).sel = some c ∧ candUsable s k c = false ∧ s.dpCfg k 2 ≠ 2 ∧ s.dpCfg k 6 ≠ 0 ∧
        carafeServes s k = true ∧ (fun (t : State) => (t.dpllAt k).state = .holdover ∧ (t.dpllAt k).lastCause = 10 ∧
        (t.dpllAt k).lastFrom = (s.dpllAt k).state ∧ (t.dpllAt k).holdoff = some (s.now + s.dpCfg k 6 * 1000000) ∧
        (t.dpllAt k).sel = some c ∧
        (t.dpllAt k).withdrawn = (s.dpllAt k).withdrawn + (s.dpllAt k).po) (updateCore s k samples)) (((dpll { enabled := true, state := .pouring, po := 9, sel := some 3 }).setDp fun x => { x with chanState := List.replicate 96 1 }).setCarafe 15 fun c => { c with prep := some { valid := true } }) (15) ([]) (3)) := by
  refine ⟨shape_of (by decide +kernel), ?_⟩
  decide +kernel

theorem test_DpllTransitionsFollowR169_8 : ShapeWf ((dpll { enabled := true, state := .locked, sel := some 3 }).setDp fun x => { x with chanState := List.replicate 96 1 }) ∧
    ((fun (s : State) (k : Nat) (samples : List PhaseSample) (c : Nat) => Runs s ∧ k < 16 ∧ (s.dpllAt k).enabled = true ∧ s.dpCfg k 1 = 1 ∧
        (s.dpllAt k).faultReq = false ∧ (s.dpllAt k).faultHold = false ∧ (s.dpllAt k).cmdHold = false ∧ (s.dpllAt k).cmds = [] ∧
        (s.dpllAt k).state.tracks = true ∧ (s.dpllAt k).sel = some c ∧ candUsable s k c = false ∧ s.dpCfg k 2 ≠ 2 ∧
        carafeServes s k = false ∧ (fun (t : State) => (t.dpllAt k).state = .freerun ∧ (t.dpllAt k).lastCause = 18 ∧
        (t.dpllAt k).lastFrom = (s.dpllAt k).state ∧ (t.dpllAt k).transitions = (s.dpllAt k).transitions + 1 ∧
        bit (t.drd (key (0x3420 + k) 2)) 10 = true ∧ bit (t.drd (key (0x3420 + k) 2)) 18 = true ∧
        bit (t.drd (key (0x3420 + k) 2)) 0 = true) (updateCore s k samples)) ((dpll { enabled := true, state := .locked, sel := some 3 }).setDp fun x => { x with chanState := List.replicate 96 1 }) (15) ([]) (3)) := by
  refine ⟨shape_of (by decide +kernel), ?_⟩
  decide +kernel

theorem test_DpllTransitionsFollowR169_9 : ShapeWf (dpll { enabled := true, state := .freerun }) ∧
    ((fun (s : State) (k : Nat) (samples : List PhaseSample) (e : Nat) => Runs s ∧ k < 16 ∧ (s.dpllAt k).enabled = true ∧ s.dpCfg k 1 = 1 ∧
        (s.dpllAt k).faultReq = false ∧ (s.dpllAt k).faultHold = false ∧ (s.dpllAt k).cmdHold = false ∧ (s.dpllAt k).cmds = [] ∧
        (s.dpllAt k).state = .freerun ∧ (s.dpllAt k).holdoff = none ∧ s.dpCfg k 2 = 0 ∧ e < 16 ∧ ((∀ i, i < 16 →
        (candFit s k i = true ↔ i = e))) ∧ (fun (t : State) => (t.dpllAt k).state = .acquiring ∧ (t.dpllAt k).sel = some e ∧
        (t.dpllAt k).lastCause = 6) (updateCore s k samples)) (dpll { enabled := true, state := .freerun }) (15) ([]) (3)) := by
  refine ⟨shape_of (by decide +kernel), ?_⟩
  decide +kernel

theorem test_DpllTransitionsFollowR169_10 : ShapeWf (dpll { enabled := true, state := .freerun, cmdHold := true }) ∧
    ((fun (s : State) (k : Nat) (samples : List PhaseSample) => Runs s ∧ k < 16 ∧ (s.dpllAt k).enabled = true ∧ s.dpCfg k 1 = 1 ∧
        dpHeld (s.dpllAt k) = true ∧ (s.dpllAt k).faultReq = (s.dpllAt k).faultHold ∧ (s.dpllAt k).cmds = [] ∧
        (((s.dpllAt k).state = .freerun ∨ (s.dpllAt k).state = .holdover)) ∧ (fun (t : State) => (t.dpllAt k).state = (s.dpllAt k).state ∧
        (t.dpllAt k).transitions = (s.dpllAt k).transitions) (updateCore s k samples)) (dpll { enabled := true, state := .freerun, cmdHold := true }) (15) ([])) := by
  refine ⟨shape_of (by decide +kernel), ?_⟩
  decide +kernel

theorem test_ledger : Runs ready ∧ ShapeWf ready := ⟨by decide +kernel, shape_of (by decide +kernel)⟩

theorem test_CarafeRecordsAndPrepares_1 : ShapeWf (carafe { tier1 := [{ at_ := 4 }] }) ∧
    ((fun (s : State) (k : Nat) => Live s ∧ k < 16 ∧ ran (exec (.carafeSecond) s) = true ∧ (fun (t : State) => t.dp.second = s.dp.second + 1 ∧
        (t.carafeAt k).tier1.head? = some { at_ := s.dp.second } ∧
        (t.carafeAt k).sent.length = 1) (after (exec (.carafeSecond) s))) (carafe { tier1 := [{ at_ := 4 }] }) (15)) := by
  refine ⟨shape_of (by decide +kernel), ?_⟩
  decide +kernel

theorem test_CarafeRecordsAndPrepares_2 : ShapeWf (carafe { tier1 := [{ at_ := 4 }], sent := [{ second := 4, ffo := 7, valid := true }] }) ∧
    ((fun (s : State) (k : Nat) (x : CarSample) (r : List CarSample) => Live s ∧ k < 16 ∧ (s.carafeAt k).sent = x :: r ∧
        Crosses s 6 false (transferWords (key (0x3430 + k) 0x1F) ⟨8, carWord { ffo := some x.ffo, temp := x.temp }⟩) ∧
        ran (exec (.carafeSampleArrives k) s) = true ∧ (fun (t : State) => (t.carafeAt k).sent = r ∧
        (t.carafeAt k).tier1 = [{ at_ := 4, ffo := some 7 }] ∧
        t.rd (key (0x3430 + k) 0x1D) = 1) (after (exec (.carafeSampleArrives k) s))) (carafe { tier1 := [{ at_ := 4 }], sent := [{ second := 4, ffo := 7, valid := true }] }) (15) ({ second := 4, ffo := 7, valid := true }) ([])) := by
  refine ⟨shape_of (by decide +kernel), ?_⟩
  decide +kernel

theorem test_CarafeRecordsAndPrepares_3 : ShapeWf (carafe {}) ∧
    ((fun (s : State) (k : Nat) => Live s ∧ k < 16 ∧ engineUp s 13 = true ∧ ran (exec (.holdoverPrepare k) s) = true ∧
        (fun (t : State) => (t.carafeAt k).prepSent.isSome = true ∧
        (t.carafeAt k).prep = (s.carafeAt k).prep) (after (exec (.holdoverPrepare k) s))) (carafe {}) (15)) := by
  refine ⟨shape_of (by decide +kernel), ?_⟩
  decide +kernel

theorem test_CarafeRecordsAndPrepares_4 : ShapeWf (carafe { prepSent := some { weight := 900, valid := true } }) ∧
    ((fun (s : State) (k : Nat) (p : Prep) => Live s ∧ k < 16 ∧ (s.carafeAt k).prepSent = some p ∧
        Crosses s 6 true (transferWords (key (0x3430 + k) 0x17) ⟨6, ofI 48 p.mean.round⟩) ∧ ran (exec (.preparedValueArrives k) s) = true ∧
        (fun (t : State) => (t.carafeAt k).prep = some p ∧
        (t.carafeAt k).visit = (s.carafeAt k).visit) (after (exec (.preparedValueArrives k) s))) (carafe { prepSent := some { weight := 900, valid := true } }) (15) ({ weight := 900, valid := true })) := by
  refine ⟨shape_of (by decide +kernel), ?_⟩
  decide +kernel

theorem test_HoldoverVisitsAndTemperatures_1 : ShapeWf (carafe { visit := some { prep := { mean := qi (-5) } } }) ∧
    ((fun (s : State) (k : Nat) (v : Visit) => Live s ∧ k < 16 ∧ engineUp s 13 = true ∧ (s.carafeAt k).visit = some v ∧ v.frozen = false ∧
        Crosses s 6 true (transferWords (key (0x3430 + k) 0x16) ⟨6, ofI 48 (visitY s k v s.dp.second)⟩) ∧
        ran (exec (.holdoverCorrection k) s) = true ∧ (fun (t : State) => (t.carafeAt k).corr = some (visitY s k v s.dp.second) ∧
        t.rdI 48 (key (0x3430 + k) 0x16) = visitY s k v s.dp.second ∧
        t.rd (key (0x3430 + k) 0x1B) = min (2 ^ 32 - 1) (s.dp.second - v.entry)) (after (exec (.holdoverCorrection k) s))) (carafe { visit := some { prep := { mean := qi (-5) } } }) (15) ({ prep := { mean := qi (-5) } })) := by
  refine ⟨shape_of (by decide +kernel), ?_⟩
  decide +kernel

theorem test_HoldoverVisitsAndTemperatures_2 : ShapeWf (carafe { visit := some { y := 9, frozen := true } }) ∧
    ((fun (s : State) (k : Nat) (v : Visit) => Live s ∧ k < 16 ∧ engineUp s 13 = true ∧ (s.carafeAt k).visit = some v ∧ v.frozen = true ∧
        Crosses s 6 true (transferWords (key (0x3430 + k) 0x16) ⟨6, ofI 48 v.y⟩) ∧ ran (exec (.holdoverCorrection k) s) = true ∧
        (fun (t : State) => (t.carafeAt k).corr = some v.y ∧
        (t.carafeAt k).visit = some v) (after (exec (.holdoverCorrection k) s))) (carafe { visit := some { y := 9, frozen := true } }) (15) ({ y := 9, frozen := true })) := by
  refine ⟨shape_of (by decide +kernel), ?_⟩
  decide +kernel

theorem test_HoldoverVisitsAndTemperatures_3 : ShapeWf ((carafe { visit := some {} }).setDp fun d => { d with second := 14400 }) ∧
    ((fun (s : State) (k : Nat) (v : Visit) => Live s ∧ k < 16 ∧ (s.carafeAt k).visit = some v ∧ v.alarm = false ∧ s.hoCfg k 0x21 ≠ 0 ∧
        s.hoCfg k 0x21 ≤ s.dp.second - v.entry ∧ ran (exec (.holdoverAlarm k) s) = true ∧
        (fun (t : State) => t.faultIn = s.faultIn ++ [⟨faultWord 0 2 0x0C k, s.now⟩] ∧ bit (t.rd (key (0x3430 + k) 2)) 7 = true ∧
        (t.carafeAt k).visit = some { v with alarm := true }) (after (exec (.holdoverAlarm k) s))) ((carafe { visit := some {} }).setDp fun d => { d with second := 14400 }) (15) ({})) := by
  refine ⟨shape_of (by decide +kernel), ?_⟩
  decide +kernel

theorem test_HoldoverVisitsAndTemperatures_4 : ShapeWf (carafe { visit := some { alarm := true } }) ∧
    ((fun (s : State) (k : Nat) (v : Visit) => Live s ∧ k < 16 ∧ (s.carafeAt k).visit = some v ∧ v.alarm = true ∧
        ran (exec (.holdoverAlarm k) s) = true ∧
        (fun (t : State) => t = s) (after (exec (.holdoverAlarm k) s))) (carafe { visit := some { alarm := true } }) (15) ({ alarm := true })) := by
  refine ⟨shape_of (by decide +kernel), ?_⟩
  decide +kernel

theorem test_HoldoverVisitsAndTemperatures_5 : ShapeWf ((carafe { stale := true }).put (key 0x343F 9) 1) ∧
    ((fun (s : State) (k : Nat) (via : Iface) (d : Datum) => Live s ∧ k < 16 ∧ Accepts s via (0x3430 + k) 0x0A d ∧
        ran (exec (.hostTempWrite via k d) s) = true ∧ (fun (t : State) => t.rd (key (0x3430 + k) 0x0A) = d.val ∧
        (t.carafeAt k).stale = false ∧ (t.carafeAt k).hostSet = true ∧ (t.carafeAt k).hostOld = false ∧ (s.hoCfg k 9 = 1 →
        (t.carafeAt k).lastTemp = some (toI 16 d.val))) (after (exec (.hostTempWrite via k d) s))) ((carafe { stale := true }).put (key 0x343F 9) 1) (15) (.spi) (⟨2, 0xFC90⟩)) := by
  refine ⟨shape_of (by decide +kernel), ?_⟩
  decide +kernel

theorem test_HoldoverVisitsAndTemperatures_6 : ShapeWf ((carafe {}).put (key 0x343F 9) 1) ∧
    ((fun (s : State) (k : Nat) => Live s ∧ k < 16 ∧ s.hoCfg k 9 = 1 ∧ (s.carafeAt k).stale = false ∧ ran (exec (.tempStaleTimer k) s) = true ∧
        (fun (t : State) => (t.carafeAt k).hostOld = true ∧ (t.carafeAt k).stale = true ∧ (t.carafeAt k).staleSeen = true ∧
        bit (t.rd (key (0x3430 + k) 2)) 6 = true) (after (exec (.tempStaleTimer k) s))) ((carafe {}).put (key 0x343F 9) 1) (15)) := by
  refine ⟨shape_of (by decide +kernel), ?_⟩
  decide +kernel

theorem test_HoldoverVisitsAndTemperatures_7 : ShapeWf (carafe { tier1 := [{}], visit := some {} }) ∧
    ((fun (s : State) (k : Nat) => Live s ∧ k < 16 ∧ s.dp.mxo = false ∧ s.chan.base.sosc = false ∧ ran (exec (.baseChangeToMxo) s) = true ∧
        (fun (t : State) => t.dp.mxo = true ∧ (t.carafeAt k).tier1 = [] ∧ t.ap.relocking = true ∧
        (t.carafeAt k).visit = some { frozen := true }) (after (exec (.baseChangeToMxo) s))) (carafe { tier1 := [{}], visit := some {} }) (15)) := by
  refine ⟨shape_of (by decide +kernel), ?_⟩
  decide +kernel

theorem test_HoldoverVisitsAndTemperatures_8 : ShapeWf (((carafe { tier2 := [{}] }).setDp fun d => { d with mxo := true }).setBase fun b => { b with sosc := true, hzPending := true, hzInUse := 7 }) ∧
    ((fun (s : State) (k : Nat) => Live s ∧ k < 16 ∧ s.dp.mxo = true ∧ s.chan.base.sosc = true ∧ ran (exec (.baseChangeToSosc) s) = true ∧
        (fun (t : State) => t.dp.mxo = false ∧ (t.carafeAt k).tier1 = [] ∧ (t.carafeAt k).tier2 = [] ∧ t.ap.relocking = true ∧
        t.chan.base.hzPending = false ∧ (s.chan.base.hzPending = true →
        t.chan.base.hzInUse = s.rd (key 0x2601 2))) (after (exec (.baseChangeToSosc) s))) (((carafe { tier2 := [{}] }).setDp fun d => { d with mxo := true }).setBase fun b => { b with sosc := true, hzPending := true, hzInUse := 7 }) (15)) := by
  refine ⟨shape_of (by decide +kernel), ?_⟩
  decide +kernel

theorem test_FitsAndModels_1 : ShapeWf ((carafe {}).put (key 0x343F 8) 1) ∧
    ((fun (s : State) (via : Iface) (k : Nat) => Live s ∧ k < 16 ∧ Accepts s via (0x3430 + k) 0x0E ⟨1, 1⟩ ∧ engineUp s 13 = true ∧
        s.dp.fitNow = none ∧ ((∀ i, i < 16 → (s.carafeAt i).fitWait = false)) ∧ ran (exec (.fit via k) s) = true ∧
        (fun (t : State) => t.dp.fitNow = some k ∧ t.rd (key 0x2044 1) = 1 ∧ t.rd (key 0x2044 6) = k ∧
        (t.carafeAt k).fitWait = false) (after (exec (.fit via k) s))) ((carafe {}).put (key 0x343F 8) 1) (.parallel) (15)) := by
  refine ⟨shape_of (by decide +kernel), ?_⟩
  decide +kernel

theorem test_FitsAndModels_2 : ShapeWf ((carafe {}).put (key 0x343F 8) 1) ∧
    ((fun (s : State) (k : Nat) => Live s ∧ k < 16 ∧ s.hoCfg k 8 ≠ 0 ∧ s.hoCfg k 0x0B ≠ 0 ∧ engineUp s 13 = true ∧ s.dp.fitNow = none ∧
        ((∀ i, i < 16 → (s.carafeAt i).fitWait = false)) ∧ ran (exec (.fitIntervalTimer k) s) = true ∧
        (fun (t : State) => t.dp.fitNow = some k ∧ t.rd (key 0x2044 1) = 1 ∧ t.rd (key 0x2044 6) = k ∧
        (t.carafeAt k).fitWait = false) (after (exec (.fitIntervalTimer k) s))) ((carafe {}).put (key 0x343F 8) 1) (15)) := by
  refine ⟨shape_of (by decide +kernel), ?_⟩
  decide +kernel

theorem test_FitsAndModels_3 : ShapeWf ((carafe {}).setDp fun d => { d with fitNow := some 15 }) ∧
    ((fun (s : State) (k : Nat) => Live s ∧ k < 16 ∧ s.dp.fitNow = some k ∧ (fitSlots s k).length < 64 ∧ ((∀ i, i < 16 →
        (s.carafeAt i).fitWait = false)) ∧ ran (exec (.fitComplete k) s) = true ∧ (fun (t : State) => t.dp.fitNow = none ∧
        t.rd (key 0x2044 1) = 3 ∧ t.rd (key 0x2044 5) = 0x08000024 ∧ bit (t.rd (key (0x3430 + k) 2)) 4 = true ∧
        t.faultIn = s.faultIn ++ [⟨faultWord 0 2 0x0E k, s.now⟩] ∧ t.rd (key (0x3430 + k) 0x0F) = s.rd (key (0x3430 + k) 0x0F) ∧
        t.rd (key (0x3430 + k) 0x20) = s.rd (key (0x3430 + k) 0x20)) (after (exec (.fitComplete k) s))) ((carafe {}).setDp fun d => { d with fitNow := some 15 }) (15)) := by
  refine ⟨shape_of (by decide +kernel), ?_⟩
  decide +kernel

theorem test_FitsAndModels_4 : ShapeWf ((carafe { tier2 := flatCarafe }).setDp fun d => { d with fitNow := some 15, second := 128064 }) ∧
    ((fun (s : State) (k : Nat) => Live s ∧ k < 16 ∧ s.dp.fitNow = some k ∧ 64 ≤ (fitSlots s k).length ∧ ((∀ i, i < 16 →
        (s.carafeAt i).fitWait = false)) ∧ ran (exec (.fitComplete k) s) = true ∧ (fun (t : State) => t.dp.fitNow = none ∧
        t.rd (key (0x3430 + k) 0x20) = 1 ∧
        t.rd (key (0x3430 + k) 0x0F) = 0) (after (exec (.fitComplete k) s))) ((carafe { tier2 := flatCarafe }).setDp fun d => { d with fitNow := some 15, second := 128064 }) (15)) := by
  refine ⟨shape_of (by decide +kernel), ?_⟩
  decide +kernel

theorem test_FitsAndModels_5 : ShapeWf (carafe { tier1 := [{}], tier2 := [{}], visit := some {} }) ∧
    ((fun (s : State) (via : Iface) (k : Nat) => Live s ∧ k < 16 ∧ Accepts s via (0x3430 + k) 0x0E ⟨1, 2⟩ ∧
        ran (exec (.clearCarafe via k) s) = true ∧ (fun (t : State) => (t.carafeAt k).tier1 = [] ∧ (t.carafeAt k).tier2 = [] ∧
        (t.carafeAt k).visit = (s.carafeAt k).visit ∧ t.rd (key (0x3430 + k) 0x1D) = 0 ∧ t.rd (key (0x3430 + k) 0x1E) = 0 ∧
        bit (t.rd (key (0x3430 + k) 2)) 5 = true) (after (exec (.clearCarafe via k) s))) (carafe { tier1 := [{}], tier2 := [{}], visit := some {} }) (.parallel) (15)) := by
  refine ⟨shape_of (by decide +kernel), ?_⟩
  decide +kernel

theorem test_FitsAndModels_6 : ShapeWf (((carafe {}).put (key 0x343F 0x0F) 7).put (key 0x343F 0x12) 8) ∧
    ((fun (s : State) (via : Iface) (k : Nat) => Live s ∧ k < 16 ∧ Accepts s via (0x3430 + k) 0x0E ⟨1, 3⟩ ∧
        ran (exec (.clearModel via k) s) = true ∧ (fun (t : State) => t.rd (key (0x3430 + k) 0x0F) = 0 ∧ t.rd (key (0x3430 + k) 0x10) = 0 ∧
        t.rd (key (0x3430 + k) 0x11) = 0 ∧ t.rd (key (0x3430 + k) 0x13) = 0 ∧ t.rd (key (0x3430 + k) 0x20) = 0 ∧
        t.rd (key (0x3430 + k) 0x12) = s.rd (key (0x3430 + k) 0x12) ∧
        t.dp = s.dp) (after (exec (.clearModel via k) s))) (((carafe {}).put (key 0x343F 0x0F) 7).put (key 0x343F 0x12) 8) (.parallel) (15)) := by
  refine ⟨shape_of (by decide +kernel), ?_⟩
  decide +kernel

theorem test_FitsAndModels_7 : ShapeWf ((carafe { tier1 := [{}] }).setTc 0 fun t => { t with unset := false }) ∧
    ((fun (s : State) (via : Iface) (k : Nat) (d : Datum) => Live s ∧ k < 16 ∧ Accepts s via (0x3430 + k) 0x1F d ∧
        ran (exec (.carafeWrite via k d) s) = true ∧
        (fun (t : State) => (t.carafeAt k).tier1 = []) (after (exec (.carafeWrite via k d) s))) ((carafe { tier1 := [{}] }).setTc 0 fun t => { t with unset := false }) (.spi) (15) (⟨32768, 1 + 5 * 2 ^ 64⟩)) := by
  refine ⟨shape_of (by decide +kernel), ?_⟩
  decide +kernel

theorem test_FitsAndModels_8 : ShapeWf (carafe { visit := some {} }) ∧
    ((fun (s : State) (via : Iface) (k : Nat) (d : Datum) => Live s ∧ k < 16 ∧ Accepts s via (0x3430 + k) 0x20 d ∧
        ran (exec (.modelValidWrite via k d) s) = true ∧ (fun (t : State) => t.rd (key (0x3430 + k) 0x20) = d.val ∧
        t.dp = s.dp) (after (exec (.modelValidWrite via k d) s))) (carafe { visit := some {} }) (.parallel) (15) (⟨1, 1⟩)) := by
  refine ⟨shape_of (by decide +kernel), ?_⟩
  decide +kernel

theorem test_ApllStatesFollowR217_1 : ShapeWf (apll {}) ∧
    ((fun (s : State) (via : Iface) (j : Nat) => Live s ∧ j < 8 ∧ Accepts s via (0x3500 + j) 5 ⟨1, 1⟩ ∧ bootPast s 5 = true ∧ s.apCfg j 5 = 0 ∧
        s.ap.relocking = false ∧ (s.apllAt j).state = .off ∧ ran (exec (.apllEnableWrite via j ⟨1, 1⟩) s) = true ∧
        (fun (t : State) => (t.apllAt j).state = .locking ∧ (t.apllAt j).counting = false ∧ t.drd (key (0x3500 + j) 0x13) = 1 ∧
        t.drd (key (0x3500 + j) 0x14) = 156250000000000) (after (exec (.apllEnableWrite via j ⟨1, 1⟩) s))) (apll {}) (.parallel) (7)) := by
  refine ⟨shape_of (by decide +kernel), ?_⟩
  decide +kernel

theorem test_ApllStatesFollowR217_2 : ShapeWf ((apll { state := .locked, returned := true }).put (key 0x3507 5) 1) ∧
    ((fun (s : State) (via : Iface) (j : Nat) => Live s ∧ j < 8 ∧ Accepts s via (0x3500 + j) 5 ⟨1, 0⟩ ∧ bootPast s 5 = true ∧
        apllReturned s j = true ∧ ran (exec (.apllEnableWrite via j ⟨1, 0⟩) s) = true ∧ (fun (t : State) => (t.apllAt j).state = .off ∧
        (t.apllAt j).aligned = false ∧ (t.apllAt j).returned = false ∧ t.drd (key (0x3500 + j) 0x13) = 0 ∧ t.rd (key (0x3500 + j) 5) = 0 ∧
        (t.apllAt j).changeovers = (s.apllAt j).changeovers + 1 ∧
        bit (t.drd (key (0x3500 + j) 2)) 4 = true) (after (exec (.apllEnableWrite via j ⟨1, 0⟩) s))) ((apll { state := .locked, returned := true }).put (key 0x3507 5) 1) (.parallel) (7)) := by
  refine ⟨shape_of (by decide +kernel), ?_⟩
  decide +kernel

theorem test_ApllStatesFollowR217_3 : ShapeWf (apll { state := .locked, aligned := true }) ∧
    ((fun (s : State) (via : Iface) (j : Nat) => Live s ∧ j < 8 ∧ Accepts s via (0x3500 + j) 0x12 ⟨1, 1⟩ ∧ (s.apllAt j).state = .locked ∧
        ran (exec (.apllRelock via j) s) = true ∧ (fun (t : State) => (t.apllAt j).state = .locking ∧ (t.apllAt j).counting = false ∧
        t.drd (key (0x3500 + j) 0x13) = 1) (after (exec (.apllRelock via j) s))) (apll { state := .locked, aligned := true }) (.parallel) (7)) := by
  refine ⟨shape_of (by decide +kernel), ?_⟩
  decide +kernel

theorem test_ApllStatesFollowR217_4 : ShapeWf (apll { lockLosses := 4, changeovers := 5 }) ∧
    ((fun (s : State) (via : Iface) (j : Nat) => Live s ∧ j < 8 ∧ Accepts s via (0x3500 + j) 0x12 ⟨1, 2⟩ ∧
        ran (exec (.apllClearCounters via j) s) = true ∧
        (fun (t : State) => (t.apllAt j) = { (s.apllAt j) with lockLosses := 0, changeovers := 0 } ∧ t.drd (key (0x3500 + j) 0x17) = 0 ∧
        t.drd (key (0x3500 + j) 0x19) = 0) (after (exec (.apllClearCounters via j) s))) (apll { lockLosses := 4, changeovers := 5 }) (.parallel) (7)) := by
  refine ⟨shape_of (by decide +kernel), ?_⟩
  decide +kernel

theorem test_ApllStatesFollowR217_5 : ShapeWf (apll { state := .locking }) ∧
    ((fun (s : State) (j : Nat) (band : Nat) => Live s ∧ j < 8 ∧ (s.apllAt j).state = .locking ∧ ran (exec (.bandSelectDone j band) s) = true ∧
        (fun (t : State) => (t.apllAt j).counting = true ∧ (t.apllAt j).passes = 0 ∧
        (t.apllAt j).state = .locking) (after (exec (.bandSelectDone j band) s))) (apll { state := .locking }) (7) (9)) := by
  refine ⟨shape_of (by decide +kernel), ?_⟩
  decide +kernel

theorem test_ApllStatesFollowR217_6 : ShapeWf (apll { state := .locking, counting := true, passes := 7, nEff := qi (100 * 2 ^ 48) }) ∧
    ((fun (s : State) (j : Nat) (count : Nat) => Live s ∧ j < 8 ∧ (s.apllAt j).state = .locking ∧ (s.apllAt j).counting = true ∧
        ((qi count).sub (expectedCount s j)).abs.le (qi (s.apCfg j 0x0D : Nat)) = true ∧ s.apCfg j 0x0E ≤ (s.apllAt j).passes + 1 ∧
        ran (exec (.lockWindowEnd j count) s) = true ∧ (fun (t : State) => (t.apllAt j).state = .locked ∧ (t.apllAt j).aligned = true ∧
        (t.apllAt j).step = 0 ∧ (t.apllAt j).returned = false ∧ t.drd (key (0x3500 + j) 0x13) = 2 ∧
        bit (t.drd (key (0x3500 + j) 2)) 0 = true) (after (exec (.lockWindowEnd j count) s))) (apll { state := .locking, counting := true, passes := 7, nEff := qi (100 * 2 ^ 48) }) (7) (12804)) := by
  refine ⟨shape_of (by decide +kernel), ?_⟩
  decide +kernel

theorem test_ApllStatesFollowR217_7 : ShapeWf (apll { state := .locked, fails := 1, nEff := qi (100 * 2 ^ 48) }) ∧
    ((fun (s : State) (j : Nat) (count : Nat) => Live s ∧ j < 8 ∧ (s.apllAt j).state = .locked ∧
        ((qi count).sub (expectedCount s j)).abs.le (qi (s.apCfg j 0x0D : Nat)) = false ∧ s.apCfg j 0x0F ≤ (s.apllAt j).fails + 1 ∧
        ran (exec (.lockWindowEnd j count) s) = true ∧ (fun (t : State) => (t.apllAt j).state = .locking ∧ (t.apllAt j).counting = true ∧
        (t.apllAt j).aligned = false ∧ (t.apllAt j).lockLosses = (s.apllAt j).lockLosses + 1 ∧ t.drd (key (0x3500 + j) 0x13) = 1 ∧
        t.faultIn = s.faultIn ++ [⟨faultWord 1 2 0x0F (0x10 + j), s.now⟩] ∧
        bit (t.drd (key (0x3500 + j) 2)) 1 = true) (after (exec (.lockWindowEnd j count) s))) (apll { state := .locked, fails := 1, nEff := qi (100 * 2 ^ 48) }) (7) (12795)) := by
  refine ⟨shape_of (by decide +kernel), ?_⟩
  decide +kernel

theorem test_ApllStatesFollowR217_8 : ShapeWf (apll { state := .locking, counting := true, passes := 4 }) ∧
    ((fun (s : State) (j : Nat) => Live s ∧ j < 8 ∧ (s.apllAt j).state = .locking ∧ ran (exec (.lockingTimeout j) s) = true ∧
        (fun (t : State) => (t.apllAt j).state = .locking ∧ (t.apllAt j).counting = false ∧
        (t.apllAt j).passes = 0) (after (exec (.lockingTimeout j) s))) (apll { state := .locking, counting := true, passes := 4 }) (7)) := by
  refine ⟨shape_of (by decide +kernel), ?_⟩
  decide +kernel

theorem test_ApllStatesFollowR217_9 : ShapeWf ((apll { state := .inputLost }).setAp fun a => { a with relocking := true }) ∧
    ((fun (s : State) (j : Nat) => Live s ∧ j < 8 ∧ s.ap.relocking = true ∧ (s.apllAt j).state = .inputLost ∧
        ran (exec (.refRelockComplete) s) = true ∧ (fun (t : State) => t.ap.relocking = false ∧ (t.apllAt j).state = .locking ∧
        t.drd (key (0x3500 + j) 0x13) = 1 ∧
        bit (t.drd (key (0x3500 + j) 2)) 3 = true) (after (exec (.refRelockComplete) s))) ((apll { state := .inputLost }).setAp fun a => { a with relocking := true }) (7)) := by
  refine ⟨shape_of (by decide +kernel), ?_⟩
  decide +kernel

theorem test_ApllStatesFollowR217_10 : ShapeWf ((apll { state := .locked }).setOut 95 fun o => { o with unaligned := false }) ∧
    ((fun (s : State) (j : Nat) => Live s ∧ j < 8 ∧ (s.apllAt j).state = .locked ∧ (s.apllAt j).returned = false ∧
        ran (exec (.returnHoldExpiry j) s) = true ∧ (fun (t : State) => (t.apllAt j).returned = true ∧
        (t.apllAt j).changeovers = (s.apllAt j).changeovers + 1 ∧
        (t.outAt 95).unaligned = true) (after (exec (.returnHoldExpiry j) s))) ((apll { state := .locked }).setOut 95 fun o => { o with unaligned := false }) (7)) := by
  refine ⟨shape_of (by decide +kernel), ?_⟩
  decide +kernel

theorem test_RampProfilesRun_1 : ShapeWf (apll { state := .locked }) ∧
    ((fun (s : State) (via : Iface) (j : Nat) => Live s ∧ j < 8 ∧ Accepts s via (0x3508 + j) 3 ⟨1, 1⟩ ∧
        ran (exec (.rampStart via j) s) = true ∧ (fun (t : State) => (t.apllAt j) = { (s.apllAt j) with startReq := true } ∧
        t.dr = s.dr) (after (exec (.rampStart via j) s))) (apll { state := .locked }) (.parallel) (7)) := by
  refine ⟨shape_of (by decide +kernel), ?_⟩
  decide +kernel

theorem test_RampProfilesRun_2 : ShapeWf (apll { ramp := .running, nRamp := -7 }) ∧
    ((fun (s : State) (via : Iface) (j : Nat) => Live s ∧ j < 8 ∧ Accepts s via (0x3508 + j) 3 ⟨1, 2⟩ ∧ s.rampCfg j 1 = 0 ∧
        (s.apllAt j).ramp = .running ∧ ran (exec (.rampStop via j) s) = true ∧ (fun (t : State) => (t.apllAt j).ramp = .ended ∧
        (t.apllAt j).nRamp = (s.apllAt j).nRamp ∧ t.drd (key (0x3508 + j) 4) = 3 ∧
        bit (t.drd (key (0x3500 + j) 2)) 8 = true) (after (exec (.rampStop via j) s))) (apll { ramp := .running, nRamp := -7 }) (.parallel) (7)) := by
  refine ⟨shape_of (by decide +kernel), ?_⟩
  decide +kernel

theorem test_RampProfilesRun_3 : ShapeWf ((apll { ramp := .running, nRamp := -7 }).put (key 0x350F 1) 2) ∧
    ((fun (s : State) (via : Iface) (j : Nat) => Live s ∧ j < 8 ∧ Accepts s via (0x3508 + j) 3 ⟨1, 2⟩ ∧ s.rampCfg j 1 ≠ 0 ∧
        (s.apllAt j).ramp = .running ∧ ran (exec (.rampStop via j) s) = true ∧ (fun (t : State) => (t.apllAt j).ramp = .stopping ∧
        (t.apllAt j).nRamp = (s.apllAt j).nRamp ∧ (t.apllAt j).seg = (s.apllAt j).seg ∧
        t.drd (key (0x3508 + j) 4) = 2) (after (exec (.rampStop via j) s))) ((apll { ramp := .running, nRamp := -7 }).put (key 0x350F 1) 2) (.parallel) (7)) := by
  refine ⟨shape_of (by decide +kernel), ?_⟩
  decide +kernel

theorem test_RampProfilesRun_4 : ShapeWf (apll { ramp := .ended, nRamp := 9 }) ∧
    ((fun (s : State) (via : Iface) (j : Nat) => Live s ∧ j < 8 ∧ Accepts s via (0x3508 + j) 3 ⟨1, 3⟩ ∧
        ran (exec (.rampClear via j) s) = true ∧ (fun (t : State) => (t.apllAt j) = { (s.apllAt j) with clearReq := true } ∧
        t.dr = s.dr) (after (exec (.rampClear via j) s))) (apll { ramp := .ended, nRamp := 9 }) (.parallel) (7)) := by
  refine ⟨shape_of (by decide +kernel), ?_⟩
  decide +kernel

theorem test_RampProfilesRun_5 : ShapeWf ((apll { state := .locked, ramp := .running, segTime := 1 }).put (key 0x350F 2) 2) ∧
    ((fun (s : State) (j : Nat) => Live s ∧ j < 8 ∧ (((s.apllAt j).ramp = .running ∨ (s.apllAt j).ramp = .stopping)) ∧
        (s.apllAt j).state = .locked ∧ s.rampCfg j (0x19 + (s.apllAt j).seg) ≤ (s.apllAt j).segTime ∧ (s.apllAt j).reversed = false ∧
        (s.apllAt j).seg + 1 < s.rampCfg j 2 ∧ ran (exec (.rampSegmentEnd j) s) = true ∧
        (fun (t : State) => (t.apllAt j).seg = (s.apllAt j).seg + 1 ∧ (t.apllAt j).segTime = 0 ∧ (t.apllAt j).ramp = (s.apllAt j).ramp ∧
        t.drd (key (0x3508 + j) 5) = (s.apllAt j).seg + 1) (after (exec (.rampSegmentEnd j) s))) ((apll { state := .locked, ramp := .running, segTime := 1 }).put (key 0x350F 2) 2) (7)) := by
  refine ⟨shape_of (by decide +kernel), ?_⟩
  decide +kernel

theorem test_RampProfilesRun_6 : ShapeWf ((apll { state := .locked, ramp := .running, segTime := 1 }).put (key 0x350F 1) 2) ∧
    ((fun (s : State) (j : Nat) => Live s ∧ j < 8 ∧ (((s.apllAt j).ramp = .running ∨ (s.apllAt j).ramp = .stopping)) ∧
        (s.apllAt j).state = .locked ∧ s.rampCfg j (0x19 + (s.apllAt j).seg) ≤ (s.apllAt j).segTime ∧ (s.apllAt j).reversed = false ∧
        s.rampCfg j 2 ≤ (s.apllAt j).seg + 1 ∧ s.rampCfg j 1 = 2 ∧ ran (exec (.rampSegmentEnd j) s) = true ∧
        (fun (t : State) => (t.apllAt j).reversed = true ∧ (t.apllAt j).seg = (s.apllAt j).seg ∧ (t.apllAt j).segTime = 0 ∧
        (t.apllAt j).cycles = (s.apllAt j).cycles) (after (exec (.rampSegmentEnd j) s))) ((apll { state := .locked, ramp := .running, segTime := 1 }).put (key 0x350F 1) 2) (7)) := by
  refine ⟨shape_of (by decide +kernel), ?_⟩
  decide +kernel

theorem test_RampProfilesRun_7 : ShapeWf (apll { state := .locked, ramp := .running, segTime := 1, nRamp := 5 }) ∧
    ((fun (s : State) (j : Nat) => Live s ∧ j < 8 ∧ (((s.apllAt j).ramp = .running ∨ (s.apllAt j).ramp = .stopping)) ∧
        (s.apllAt j).state = .locked ∧ s.rampCfg j (0x19 + (s.apllAt j).seg) ≤ (s.apllAt j).segTime ∧ (s.apllAt j).reversed = false ∧
        s.rampCfg j 2 ≤ (s.apllAt j).seg + 1 ∧ s.rampCfg j 1 = 0 ∧ ran (exec (.rampSegmentEnd j) s) = true ∧
        (fun (t : State) => (t.apllAt j).ramp = .ended ∧ (t.apllAt j).cycles = (s.apllAt j).cycles + 1 ∧
        (t.apllAt j).nRamp = (s.apllAt j).nRamp ∧ t.drd (key (0x3508 + j) 4) = 3 ∧
        bit (t.drd (key (0x3500 + j) 2)) 8 = true) (after (exec (.rampSegmentEnd j) s))) (apll { state := .locked, ramp := .running, segTime := 1, nRamp := 5 }) (7)) := by
  refine ⟨shape_of (by decide +kernel), ?_⟩
  decide +kernel

theorem test_RampProfilesRun_8 : ShapeWf (((apll { state := .locked, ramp := .running, seg := 1, segTime := 1 }).put (key 0x350F 1) 1).put (key 0x350F 2) 2) ∧
    ((fun (s : State) (j : Nat) => Live s ∧ j < 8 ∧ (((s.apllAt j).ramp = .running ∨ (s.apllAt j).ramp = .stopping)) ∧
        (s.apllAt j).state = .locked ∧ s.rampCfg j (0x19 + (s.apllAt j).seg) ≤ (s.apllAt j).segTime ∧ (s.apllAt j).reversed = false ∧
        s.rampCfg j 2 ≤ (s.apllAt j).seg + 1 ∧ s.rampCfg j 1 = 1 ∧ (s.apllAt j).ramp = .running ∧ ran (exec (.rampSegmentEnd j) s) = true ∧
        (fun (t : State) => (t.apllAt j).ramp = .running ∧ (t.apllAt j).seg = 0 ∧ (t.apllAt j).cycles = (s.apllAt j).cycles + 1 ∧
        (t.apllAt j).segTime = 0) (after (exec (.rampSegmentEnd j) s))) (((apll { state := .locked, ramp := .running, seg := 1, segTime := 1 }).put (key 0x350F 1) 1).put (key 0x350F 2) 2) (7)) := by
  refine ⟨shape_of (by decide +kernel), ?_⟩
  decide +kernel

theorem test_OutputPathsAlign_1 : ShapeWf (((apll { state := .locked, returned := true }).put (key 0x305F 0x0E) 1).setOut 95 fun o => { o with unaligned := false, running := true }) ∧
    ((fun (s : State) (via : Iface) (n : Nat) (d : Datum) => Live s ∧ n < 96 ∧ Accepts s via (0x3000 + n) 0x0A d ∧ bootPast s 5 = true ∧
        ran (exec (.outSourceWrite via n d) s) = true ∧ (fun (t : State) => t.rd (key (0x3000 + n) 0x0A) = d.val ∧
        (t.outAt n).unaligned = (s.chCfg n 0x0E == 1 && decide (1 < s.chCfg n 0x0B) || (s.outAt n).unaligned) ∧
        (t.outAt n).running = (s.outAt n).running) (after (exec (.outSourceWrite via n d) s))) (((apll { state := .locked, returned := true }).put (key 0x305F 0x0E) 1).setOut 95 fun o => { o with unaligned := false, running := true }) (.parallel) (95) (⟨1, 0x13⟩)) := by
  refine ⟨shape_of (by decide +kernel), ?_⟩
  decide +kernel

theorem test_OutputPathsAlign_2 : ShapeWf ((apll { state := .locked, returned := true }).setOut 95 fun o => { o with unaligned := false }) ∧
    ((fun (s : State) (via : Iface) (n : Nat) (d : Datum) => Live s ∧ n < 96 ∧ Accepts s via (0x3000 + n) 0x0B d ∧ bootPast s 5 = true ∧
        ran (exec (.outDividerWrite via n d) s) = true ∧ (fun (t : State) => t.rd (key (0x3000 + n) 0x0B) = d.val ∧
        (t.outAt n).unaligned = (decide (1 < d.val) || (s.outAt n).unaligned)) (after (exec (.outDividerWrite via n d) s))) ((apll { state := .locked, returned := true }).setOut 95 fun o => { o with unaligned := false }) (.parallel) (95) (⟨4, 1⟩)) := by
  refine ⟨shape_of (by decide +kernel), ?_⟩
  decide +kernel

theorem test_OutputPathsAlign_3 : ShapeWf ((apll { state := .locked, returned := true }).setOut 95 fun o => { o with unaligned := false }) ∧
    ((fun (s : State) (via : Iface) (n : Nat) (d : Datum) => Live s ∧ n < 96 ∧ Accepts s via (0x3000 + n) 0x0E d ∧ bootPast s 5 = true ∧
        ran (exec (.outEnableWrite via n d) s) = true ∧ (fun (t : State) => t.rd (key (0x3000 + n) 0x0E) = d.val ∧
        (t.outAt n).running = (d.val == 1) ∧ (t.outAt n).unaligned = (s.outAt n).unaligned ∧
        (t.outAt n).forced = (s.outAt n).forced) (after (exec (.outEnableWrite via n d) s))) ((apll { state := .locked, returned := true }).setOut 95 fun o => { o with unaligned := false }) (.parallel) (95) (⟨1, 1⟩)) := by
  refine ⟨shape_of (by decide +kernel), ?_⟩
  decide +kernel

theorem test_OutputPathsAlign_4 : ShapeWf ((apll { state := .locked, returned := true }).setOut 95 fun o => { o with unaligned := false }) ∧
    ((fun (s : State) (via : Iface) (n : Nat) => Live s ∧ n < 96 ∧ Accepts s via 0x2630 5 ⟨1, n⟩ ∧ 1 < s.chCfg n 0x0B ∧
        alignEligible s n = true ∧ ran (exec (.alignOutput via ⟨1, n⟩) s) = true ∧
        (fun (t : State) => t.outAt n = { s.outAt n with aligning := true, waiting := false, reached := false, lead := alignLead s n } ∧
        t.outAt 94 = s.outAt 94 ∧
        t.dr = s.dr) (after (exec (.alignOutput via ⟨1, n⟩) s))) ((apll { state := .locked, returned := true }).setOut 95 fun o => { o with unaligned := false }) (.parallel) (95)) := by
  refine ⟨shape_of (by decide +kernel), ?_⟩
  decide +kernel

theorem test_OutputPathsAlign_5 : ShapeWf ((apll { state := .locked, returned := true }).setOut 95 fun o => { o with unaligned := false }) ∧
    ((fun (s : State) (via : Iface) (n : Nat) (d : Datum) => Live s ∧ n < 96 ∧ Accepts s via 0x2630 6 d ∧
        ran (exec (.alignGroups via d) s) = true ∧ (fun (t : State) => t.outAt n = (if bit d.val (s.chCfg n 0x11) = true ∧
        1 < s.chCfg n 0x0B ∧
        alignEligible s n = true then { s.outAt n with aligning := true, waiting := false, reached := false, lead := alignLead s n } else s.outAt n) ∧ t.dr = s.dr) (after (exec (.alignGroups via d) s))) ((apll { state := .locked, returned := true }).setOut 95 fun o => { o with unaligned := false }) (.parallel) (95) (⟨2, 0x8⟩)) := by
  refine ⟨shape_of (by decide +kernel), ?_⟩
  decide +kernel

theorem test_OutputPathsAlign_6 : ShapeWf ((apll { state := .locked, returned := true }).setOut 95 fun o => { o with reached := true }) ∧
    ((fun (s : State) (n : Nat) => Live s ∧ n < 96 ∧ (s.outAt n).reached = true ∧ outOnBypass s n = false ∧
        ran (exec (.alignedEdge n) s) = true ∧ (fun (t : State) => (t.outAt n).unaligned = false ∧ (t.outAt n).reached = false ∧
        t.od = s.od ∧
        t.dr = s.dr) (after (exec (.alignedEdge n) s))) ((apll { state := .locked, returned := true }).setOut 95 fun o => { o with reached := true }) (95)) := by
  refine ⟨shape_of (by decide +kernel), ?_⟩
  decide +kernel

theorem test_CounterRequestsAndDisciplines_1 : ShapeWf (tcw { unset := false, val := 5 } 7 0) ∧
    ((fun (s : State) (via : Iface) (i : Nat) (d : Datum) => Live s ∧ i < 4 ∧ Accepts s via (0x3600 + i) 6 d ∧
        ran (exec (.setTime via i d) s) = true ∧
        (fun (t : State) => (t.tcAt i) = { (s.tcAt i) with reqs := (s.tcAt i).reqs ++ [.set (ofTime80 d.val)] } ∧ t.tcAt 2 = s.tcAt 2 ∧
        t.od = s.od) (after (exec (.setTime via i d) s))) (tcw { unset := false, val := 5 } 7 0) (.parallel) (3) (⟨10, 0x3B9AC9FF000000000007⟩)) := by
  refine ⟨shape_of (by decide +kernel), ?_⟩
  decide +kernel

theorem test_CounterRequestsAndDisciplines_2 : ShapeWf (tcw { unset := false, val := 5 } 7 0) ∧
    ((fun (s : State) (via : Iface) (i : Nat) (d : Datum) => Live s ∧ i < 4 ∧ Accepts s via (0x3600 + i) 0x0F d ∧
        ran (exec (.tcTamp via i d) s) = true ∧
        (fun (t : State) => (t.tcAt i) = { (s.tcAt i) with reqs := (s.tcAt i).reqs ++ [.tamp (toI 64 d.val)] } ∧ t.tcAt 2 = s.tcAt 2 ∧
        t.od = s.od) (after (exec (.tcTamp via i d) s))) (tcw { unset := false, val := 5 } 7 0) (.parallel) (3) (⟨8, 0xFFFFFFFFFFFFFF00⟩)) := by
  refine ⟨shape_of (by decide +kernel), ?_⟩
  decide +kernel

theorem test_CounterRequestsAndDisciplines_3 : ShapeWf (tcw { unset := false, val := 5 } 7 0) ∧
    ((fun (s : State) (via : Iface) (i : Nat) (d : Datum) => Live s ∧ i < 4 ∧ Accepts s via (0x3600 + i) 0x10 d ∧
        ran (exec (.pourAmountWrite via i d) s) = true ∧ (fun (t : State) => (t.tcAt i).requested = -256 ∧ (t.tcAt i).po = -256 ∧
        t.tcAt 2 = s.tcAt 2 ∧
        t.od = s.od) (after (exec (.pourAmountWrite via i d) s))) (tcw { unset := false, val := 5 } 7 0) (.parallel) (3) (⟨8, 0xFFFFFFFFFFFFFF00⟩)) := by
  refine ⟨shape_of (by decide +kernel), ?_⟩
  decide +kernel

theorem test_CounterRequestsAndDisciplines_4 : ShapeWf (tcw { requested := 9, po := 7, pouring := true } 7 0) ∧
    ((fun (s : State) (via : Iface) (i : Nat) => Live s ∧ i < 4 ∧ Accepts s via (0x3600 + i) 0x12 ⟨1, 1⟩ ∧
        ran (exec (.pourAbort via i) s) = true ∧ (fun (t : State) => (t.tcAt i).withdrawn = 7 ∧ (t.tcAt i).po = 0 ∧ t.tcAt 2 = s.tcAt 2 ∧
        t.od = s.od) (after (exec (.pourAbort via i) s))) (tcw { requested := 9, po := 7, pouring := true } 7 0) (.parallel) (3)) := by
  refine ⟨shape_of (by decide +kernel), ?_⟩
  decide +kernel

theorem test_CounterRequestsAndDisciplines_5 : ShapeWf (tcw { requested := 9, pouring := true } 7 0) ∧
    ((fun (s : State) (i : Nat) => Live s ∧ i < 4 ∧ Runs s ∧ (s.tcAt i).pouring = true ∧ (s.tcAt i).po = 0 ∧
        ran (exec (.tcPourDone i) s) = true ∧ (fun (t : State) => (t.tcAt i).pouring = false ∧
        bit (t.rd (key (0x3600 + i) 2)) 4 = true) (after (exec (.tcPourDone i) s))) (tcw { requested := 9, pouring := true } 7 0) (3)) := by
  refine ⟨shape_of (by decide +kernel), ?_⟩
  decide +kernel

theorem test_CounterRequestsAndDisciplines_6 : ShapeWf (tcw { unset := false, val := 5 } 7 0) ∧
    ((fun (s : State) (via : Iface) (i : Nat) (d : Datum) => Live s ∧ i < 4 ∧ Accepts s via (0x3600 + i) 9 d ∧
        ran (exec (.incrementWrite via i d) s) = true ∧ (fun (t : State) => t.rd (key (0x3600 + i) 9) = d.val ∧
        t.tcs = s.tcs) (after (exec (.incrementWrite via i d) s))) (tcw { unset := false, val := 5 } 7 0) (.parallel) (3) (⟨8, 1125899909094424⟩)) := by
  refine ⟨shape_of (by decide +kernel), ?_⟩
  decide +kernel

theorem test_CounterRequestsAndDisciplines_7 : ShapeWf (tcw { val := 77, offset := 5, tieLast48 := 281474976710656250 } 7 2) ∧
    ((fun (s : State) (via : Iface) (i : Nat) => Live s ∧ i < 4 ∧ Accepts s via (0x3600 + i) 7 ⟨1, 0⟩ ∧ s.boot.booting = false ∧
        ran (exec (.disciplineSwi via i) s) = true ∧ (fun (t : State) => t.rd (key (0x3600 + i) 7) = 0 ∧
        t.rd (key (0x3600 + i) 9) = 1125899906842625 ∧ (t.tcAt i).hws = .notHws ∧ (t.tcAt i).offset = 0 ∧
        (t.tcAt i).val = 77) (after (exec (.disciplineSwi via i) s))) (tcw { val := 77, offset := 5, tieLast48 := 281474976710656250 } 7 2) (.parallel) (3)) := by
  refine ⟨shape_of (by decide +kernel), ?_⟩
  decide +kernel

theorem test_CounterRequestsAndDisciplines_8 : ShapeWf (tcw { val := 77, offset := 5 } 7 0) ∧
    ((fun (s : State) (via : Iface) (i : Nat) => Live s ∧ i < 4 ∧ Accepts s via (0x3600 + i) 7 ⟨1, 1⟩ ∧ s.boot.booting = false ∧
        tcHws s i = false ∧ ran (exec (.disciplineHws via i) s) = true ∧ (fun (t : State) => t.rd (key (0x3600 + i) 7) = 1 ∧
        (t.tcAt i).hws = .noMaster ∧ (t.tcAt i).offset = 0 ∧
        (t.tcAt i).val = 77) (after (exec (.disciplineHws via i) s))) (tcw { val := 77, offset := 5 } 7 0) (.parallel) (3)) := by
  refine ⟨shape_of (by decide +kernel), ?_⟩
  decide +kernel

theorem test_CounterRequestsAndDisciplines_9 : ShapeWf (tcw { val := 7700000000 * 2 ^ 48, po := 4, requested := 4 } 7 0) ∧
    ((fun (s : State) (via : Iface) (i : Nat) => (fun diff : Int => (fun secs => (fun x => Live s ∧ i < 4 ∧
        Accepts s via (0x3600 + i) 7 ⟨1, 2⟩ ∧ s.boot.booting = false ∧ tcTied s i = false ∧ ran (exec (.disciplineTied via i) s) = true ∧
        (fun (t : State) => t.rd (key (0x3600 + i) 7) = 2 ∧ (t.tcAt i).po = 0 ∧ (t.tcAt i).withdrawn = 4 ∧ (t.tcAt i).tieSeconds = 8 ∧
        (t.tcAt i).tampTotal = 300000000 * 65536 ∧ (t.tcAt i).stepGen = 1 ∧
        (t.tcAt i).val = 8000000000 * 2 ^ 48) (after (exec (.disciplineTied via i) s))) (secs * (1000000000 * 2 ^ 48) - diff)) ((qd diff (1000000000 * 2 ^ 48)).round)) (((s.tcAt i).val : Int) - (timelineNow s (s.dpllAt (s.tcReg i 8))).1)) (tcw { val := 7700000000 * 2 ^ 48, po := 4, requested := 4 } 7 0) (.parallel) (3)) := by
  refine ⟨shape_of (by decide +kernel), ?_⟩
  decide +kernel

theorem test_tick_plain : tcTied (tcw { val := tcModulus - 1 } 7 0) 3 = false ∧ (after (step (tcw { val := tcModulus - 1 } 7 0))).tcAt 3 = { val := 2 ^ 50 - 1 } := by
  decide +kernel
theorem test_tick_set : let t := after (step (tcw { reqs := [.set 9], stepGen := 65535 } 7 0))
    tcNow t 3 = 9 ∧ (t.tcAt 3).unset = false ∧ (t.tcAt 3).stepGen = 0 ∧ (t.tcAt 3).tampTotal = 9 - 262144 := by decide +kernel
theorem test_tick_tamp : let t := after (step (tcw { reqs := [.tamp (-5)] } 7 1))
    (t.tcAt 3).val = 2 ^ 50 - 5 * 2 ^ 32 ∧ (t.tcAt 3).unset = true ∧ (t.tcAt 3).offset = -5 ∧ t.faultIn = [⟨faultWord 0 3 0x13 0x103, 4⟩] := by decide +kernel
theorem test_tick_pour : let t := after (step (tcw { po := -1, requested := -1, pourAcc := 9765624 } 7 1))
    (t.tcAt 3).po = 0 ∧ (t.tcAt 3).offset = -1 ∧ (t.tcAt 3).val = 2 ^ 50 - 2 ^ 32 := by decide +kernel

theorem test_CountersTieTrackAndPulse_1 : ShapeWf (tcw { tieSent := [(5, 0), (6, 0)] } 7 2) ∧
    ((fun (s : State) (i : Nat) (x : Int × Int) (r : List (Int × Int)) => Runs s ∧ i < 4 ∧ tcTied s i = true ∧ (s.tcAt i).tieSent = x :: r ∧
        Crosses s 6 false (transferWords (key (0x3600 + i) 9) ⟨8, ofI 64 x.1⟩) ∧ (s.tcAt i).tieOwed = [] ∧
        ran (exec (.tieIncrementArrives i) s) = true ∧ (fun (t : State) => (t.tcAt i).tieNext = [(5, 0)] ∧
        (t.tcAt i).tieSent = [(6, 0)]) (after (exec (.tieIncrementArrives i) s))) (tcw { tieSent := [(5, 0), (6, 0)] } 7 2) (3) ((5, 0)) ([(6, 0)])) := by
  refine ⟨shape_of (by decide +kernel), ?_⟩
  decide +kernel

theorem test_CountersTieTrackAndPulse_2 : ShapeWf (tcw { tieSent := [(50, 0)], tieOwed := [40] } 7 2) ∧
    ((fun (s : State) (i : Nat) (x : Int × Int) (r : List (Int × Int)) (p : Int) => Runs s ∧ i < 4 ∧ tcTied s i = true ∧
        (s.tcAt i).tieSent = x :: r ∧ Crosses s 6 false (transferWords (key (0x3600 + i) 9) ⟨8, ofI 64 x.1⟩) ∧ (s.tcAt i).tieOwed = [p] ∧
        ran (exec (.tieIncrementArrives i) s) = true ∧ (fun (t : State) => (t.tcAt i).catch48 = 10 ∧ (t.tcAt i).catchLeft = 4000 ∧
        bit (t.rd (key (0x3600 + i) 2)) 6 = true ∧
        t.faultIn = s.faultIn ++ [⟨faultWord 0 3 0x15 (0x100 + i), s.now⟩]) (after (exec (.tieIncrementArrives i) s))) (tcw { tieSent := [(50, 0)], tieOwed := [40] } 7 2) (3) ((50, 0)) ([]) (40)) := by
  refine ⟨shape_of (by decide +kernel), ?_⟩
  decide +kernel

theorem test_CountersTieTrackAndPulse_3 : ShapeWf (tcw { hws := .noMaster, settle := 3, offsets := [{ offset := 5 }] } 7 1) ∧
    ((fun (s : State) (i : Nat) (o : TcOffset) (r : List TcOffset) => Runs s ∧ i < 4 ∧ tcHws s i = true ∧ (s.tcAt i).offsets = o :: r ∧
        o.valid = false ∧ ran (exec (.hwsOffset i) s) = true ∧ (fun (t : State) => (t.tcAt i).settle = 0 ∧
        t.od = s.od) (after (exec (.hwsOffset i) s))) (tcw { hws := .noMaster, settle := 3, offsets := [{ offset := 5 }] } 7 1) (3) ({ offset := 5 }) ([])) := by
  refine ⟨shape_of (by decide +kernel), ?_⟩
  decide +kernel

theorem test_CountersTieTrackAndPulse_4 : ShapeWf (tcw { hws := .lastRate, settle := 2, master := 9, offset := 3, offsets := [{ offset := 5, master := 9, valid := true }] } 7 1) ∧
    ((fun (s : State) (i : Nat) (o : TcOffset) (r : List TcOffset) => Runs s ∧ i < 4 ∧ tcHws s i = true ∧ (s.tcAt i).offsets = o :: r ∧
        o.valid = true ∧ (((s.tcAt i).hws = .noMaster ∨ (s.tcAt i).hws = .lastRate)) ∧ (s.tcAt i).master = o.master ∧
        (s.tcAt i).settle + 1 < s.tcReg i 0x0E ∧ ran (exec (.hwsOffset i) s) = true ∧ (fun (t : State) => (t.tcAt i).settle = 3 ∧
        (t.tcAt i).lastError = 8 ∧
        t.od = s.od) (after (exec (.hwsOffset i) s))) (tcw { hws := .lastRate, settle := 2, master := 9, offset := 3, offsets := [{ offset := 5, master := 9, valid := true }] } 7 1) (3) ({ offset := 5, master := 9, valid := true }) ([])) := by
  refine ⟨shape_of (by decide +kernel), ?_⟩
  decide +kernel

theorem test_CountersTieTrackAndPulse_5 : ShapeWf (tcw { hws := .noMaster, settle := 3, master := 9, offset := 3, offsets := [{ offset := 5, master := 9, valid := true }] } 7 1) ∧
    ((fun (s : State) (i : Nat) (o : TcOffset) (r : List TcOffset) => Runs s ∧ i < 4 ∧ tcHws s i = true ∧ (s.tcAt i).offsets = o :: r ∧
        o.valid = true ∧ (((s.tcAt i).hws = .noMaster ∨ (s.tcAt i).hws = .lastRate)) ∧ (s.tcAt i).master = o.master ∧
        s.tcReg i 0x0E ≤ (s.tcAt i).settle + 1 ∧ ran (exec (.hwsOffset i) s) = true ∧ (fun (t : State) => (t.tcAt i).hws = .tracking ∧
        bit (t.rd (key (0x3600 + i) 2)) 2 = true ∧ (t.tcAt i).unset = false ∧
        (t.tcAt i).tampTotal = 8) (after (exec (.hwsOffset i) s))) (tcw { hws := .noMaster, settle := 3, master := 9, offset := 3, offsets := [{ offset := 5, master := 9, valid := true }] } 7 1) (3) ({ offset := 5, master := 9, valid := true }) ([])) := by
  refine ⟨shape_of (by decide +kernel), ?_⟩
  decide +kernel

theorem test_CountersTieTrackAndPulse_6 : ShapeWf (tcw { unset := false, hws := .tracking, master := 9, offset := 3, offsets := [{ offset := 6553600000, master := 9, valid := true }] } 7 1) ∧
    ((fun (s : State) (i : Nat) (o : TcOffset) (r : List TcOffset) => (fun e => Runs s ∧ i < 4 ∧ tcHws s i = true ∧
        (s.tcAt i).offsets = o :: r ∧ o.valid = true ∧ (s.tcAt i).hws = .tracking ∧ (s.tcAt i).master = o.master ∧
        (((s.tcAt i).unset = true ∨ s.tcReg i 0x0D * 65536 < absI (o.offset + (s.tcAt i).offset))) ∧ ran (exec (.hwsOffset i) s) = true ∧
        (fun (t : State) => (t.tcAt i).tampTotal = 6553600003 ∧ (t.tcAt i).stepGen = 1 ∧ (t.tcAt i).offset = 3 ∧
        t.rd (key (0x3600 + i) 9) = s.rd (key (0x3600 + i) 9)) (after (exec (.hwsOffset i) s))) (o.offset + (s.tcAt i).offset)) (tcw { unset := false, hws := .tracking, master := 9, offset := 3, offsets := [{ offset := 6553600000, master := 9, valid := true }] } 7 1) (3) ({ offset := 6553600000, master := 9, valid := true }) ([])) := by
  refine ⟨shape_of (by decide +kernel), ?_⟩
  decide +kernel

theorem test_CountersTieTrackAndPulse_7 : ShapeWf (tcw { unset := false, hws := .tracking, master := 9, lastMeas := some 0, offsets := [{ offset := -137626, meas := 4096000000000, master := 9, valid := true }] } 7 1) ∧
    ((fun (s : State) (i : Nat) (o : TcOffset) (r : List TcOffset) (p : Int) => (fun e => Runs s ∧ i < 4 ∧ tcHws s i = true ∧
        (s.tcAt i).offsets = o :: r ∧ o.valid = true ∧ (s.tcAt i).hws = .tracking ∧ (s.tcAt i).master = o.master ∧
        (s.tcAt i).unset = false ∧ absI (o.offset + (s.tcAt i).offset) ≤ s.tcReg i 0x0D * 65536 ∧ (s.tcAt i).lastMeas = some p ∧
        p < o.meas ∧ ran (exec (.hwsOffset i) s) = true ∧
        (fun (t : State) => t.rd (key (0x3600 + i) 9) = 1125899904762463 ∨ t.rd (key (0x3600 + i) 9) < 1125899906842624 ∧
        (t.tcAt i).tampTotal = 0 ∧
        (t.tcAt i).lastMeas = some 4096000000000) (after (exec (.hwsOffset i) s))) (o.offset + (s.tcAt i).offset)) (tcw { unset := false, hws := .tracking, master := 9, lastMeas := some 0, offsets := [{ offset := -137626, meas := 4096000000000, master := 9, valid := true }] } 7 1) (3) ({ offset := -137626, meas := 4096000000000, master := 9, valid := true }) ([]) (0)) := by
  refine ⟨shape_of (by decide +kernel), ?_⟩
  decide +kernel

theorem test_CountersTieTrackAndPulse_8 : ShapeWf (tcw { unset := false, hws := .tracking, master := 9, offsets := [{ offset := 1, master := 8, valid := true }] } 7 1) ∧
    ((fun (s : State) (i : Nat) (o : TcOffset) (r : List TcOffset) => Runs s ∧ i < 4 ∧ tcHws s i = true ∧ (s.tcAt i).offsets = o :: r ∧
        o.valid = true ∧ (s.tcAt i).hws = .tracking ∧ (s.tcAt i).master ≠ o.master ∧ 1 < s.tcReg i 0x0E ∧
        ran (exec (.hwsOffset i) s) = true ∧ (fun (t : State) => (t.tcAt i).hws = .lastRate ∧ (t.tcAt i).settle = 1 ∧
        (t.tcAt i).lastRates = 1 ∧ bit (t.rd (key (0x3600 + i) 2)) 1 = true ∧ bit (t.rd (key (0x3600 + i) 2)) 3 = true ∧
        t.rd (key (0x3600 + i) 9) = s.rd (key (0x3600 + i) 9) ∧
        ⟨faultWord 0 3 0x14 (0x100 + i), s.now⟩ ∈ t.faultIn) (after (exec (.hwsOffset i) s))) (tcw { unset := false, hws := .tracking, master := 9, offsets := [{ offset := 1, master := 8, valid := true }] } 7 1) (3) ({ offset := 1, master := 8, valid := true }) ([])) := by
  refine ⟨shape_of (by decide +kernel), ?_⟩
  decide +kernel

theorem test_CountersTieTrackAndPulse_9 : ShapeWf (tcw { val := 2500 * 2 ^ 48, pulseAt := 1000 } 0x13 1000) ∧
    ((fun (s : State) (i : Nat) (period : Nat) (phase : Nat) (a : Nat) => Runs s ∧ i < 4 ∧ period = s.tcReg i 0x13 ∧ phase = s.tcReg i 0x14 ∧
        period ≠ 0 ∧ phase ≤ tcNow s i / 65536 ∧ (s.tcAt i).pulseAt < a ∧ a = pulseFloor period phase (tcNow s i / 65536) ∧
        ran (exec (.pulseInstant i) s) = true ∧ (fun (t : State) => t.out = [.pulse i (2000 * 65536) 2] ∧
        t.od = s.od) (after (exec (.pulseInstant i) s))) (tcw { val := 2500 * 2 ^ 48, pulseAt := 1000 } 0x13 1000) (3) (1000) (0) (2000)) := by
  refine ⟨shape_of (by decide +kernel), ?_⟩
  decide +kernel

theorem test_ScheduledActionsRun_1 : ShapeWf (actw 0 0 {}) ∧
    ((fun (s : State) (via : Iface) (e : Nat) (d : Datum) => Live s ∧ e < 64 ∧ Accepts s via (0x3620 + e / 16) (5 + e % 16) d ∧
        ran (exec (.entryWrite via e d) s) = true ∧ (fun (t : State) => schedRec t e = d.val ∧ t.sched = s.sched ∧ t.tcs = s.tcs ∧
        t.out = s.out) (after (exec (.entryWrite via e d) s))) (actw 0 0 {}) (.parallel) (63) (⟨40, actRec 5 3 0 9 0 0⟩)) := by
  refine ⟨shape_of (by decide +kernel), ?_⟩
  decide +kernel

theorem test_ScheduledActionsRun_2 : ShapeWf (actw (actRec 5 3 0 9 0 0) 7 { runs := 4, flags := 3 }) ∧
    ((fun (s : State) (via : Iface) (e : Nat) (b : Nat) (d : Datum) => Live s ∧ e < 64 ∧ b < 4 ∧ Accepts s via (0x3620 + b) 0x25 d ∧
        ran (exec (.arm via b d) s) = true ∧ (fun (t : State) => t.schedAt 63 = { state := 1, since := 7 } ∧ t.schedAt 62 = s.schedAt 62 ∧
        t.od = s.od) (after (exec (.arm via b d) s))) (actw (actRec 5 3 0 9 0 0) 7 { runs := 4, flags := 3 }) (.parallel) (63) (3) (⟨2, 0x8000⟩)) := by
  refine ⟨shape_of (by decide +kernel), ?_⟩
  decide +kernel

theorem test_ScheduledActionsRun_3 : ShapeWf (actw (actRec 5 3 0 9 0 0) 7 { state := 1, runs := 4 }) ∧
    ((fun (s : State) (via : Iface) (e : Nat) (b : Nat) (d : Datum) => Live s ∧ e < 64 ∧ b < 4 ∧ Accepts s via (0x3620 + b) 0x26 d ∧
        ran (exec (.disarm via b d) s) = true ∧ (fun (t : State) => t.schedAt 63 = { runs := 4 } ∧ t.schedAt 62 = s.schedAt 62 ∧
        t.od = s.od) (after (exec (.disarm via b d) s))) (actw (actRec 5 3 0 9 0 0) 7 { state := 1, runs := 4 }) (.parallel) (63) (3) (⟨2, 0xFFFF⟩)) := by
  refine ⟨shape_of (by decide +kernel), ?_⟩
  decide +kernel

theorem test_ScheduledActionsRun_4 : ShapeWf (actw (actRec 5 3 0 10 0 0) 9 { state := 1 }) ∧
    ((fun (s : State) (e : Nat) => Live s ∧ e < 64 ∧ Runs s ∧ ((∀ i, i < e → dueNow s i = false ∧ alignFlight s i = none)) ∧
        alignFlight s e = none ∧ (s.schedAt e).due = false ∧ tcNow s (recCounter (schedRec s e)) < schedInstant s e ∧
        ran (exec (.actionDue e) s) = true ∧
        (fun (t : State) => t = s) (after (exec (.actionDue e) s))) (actw (actRec 5 3 0 10 0 0) 9 { state := 1 }) (63)) := by
  refine ⟨shape_of (by decide +kernel), ?_⟩
  decide +kernel

theorem test_ScheduledActionsRun_5 : ShapeWf (actw (actRec 6 3 1 9 0 0) 9 { state := 1, since := 4 }) ∧
    ((fun (s : State) (e : Nat) => Live s ∧ e < 64 ∧ Runs s ∧ ((∀ i, i < e → dueNow s i = false ∧ alignFlight s i = none)) ∧
        alignFlight s e = none ∧ dueNow s e = true ∧ schedLate s e = true ∧ recDrop (schedRec s e) = true ∧ recPeriod (schedRec s e) = 0 ∧
        ran (exec (.actionDue e) s) = true ∧ (fun (t : State) => (t.schedAt e).state = 2 ∧ (t.schedAt e).drops = 1 ∧
        bit (t.rd (key (0x3620 + e / 16) 2)) (16 + e % 16) = true ∧ t.tcs = s.tcs ∧
        t.faultIn = [⟨faultWord 0 6 0x1B 0x43F, 0⟩]) (after (exec (.actionDue e) s))) (actw (actRec 6 3 1 9 0 0) 9 { state := 1, since := 4 }) (63)) := by
  refine ⟨shape_of (by decide +kernel), ?_⟩
  decide +kernel

theorem test_ScheduledActionsRun_6 : ShapeWf (actw (actRec 5 3 0 131072000 3 0) 131072009 { state := 1 }) ∧
    ((fun (s : State) (e : Nat) => Live s ∧ e < 64 ∧ Runs s ∧ ((∀ i, i < e → dueNow s i = false ∧ alignFlight s i = none)) ∧
        alignFlight s e = none ∧ dueNow s e = true ∧ schedLate s e = false ∧ recTarget (schedRec s e) = 5 ∧ recPeriod (schedRec s e) = 0 ∧
        ran (exec (.actionDue e) s) = true ∧ (fun (t : State) => (t.schedAt e).state = 2 ∧ (t.schedAt e).runs = 1 ∧
        (t.schedAt e).captured = time12 131072009 ∧ bit (t.rd (key (0x3620 + e / 16) 2)) (0 + e % 16) = true ∧
        t.faultIn = s.faultIn) (after (exec (.actionDue e) s))) (actw (actRec 5 3 0 131072000 3 0) 131072009 { state := 1 }) (63)) := by
  refine ⟨shape_of (by decide +kernel), ?_⟩
  decide +kernel

theorem test_ScheduledActionsRun_7 : ShapeWf (actw (actRec 6 3 0 131072000 2 77) 131072009 { state := 1 }) ∧
    ((fun (s : State) (e : Nat) (a : Nat) => Live s ∧ e < 64 ∧ Runs s ∧ ((∀ i, i < e → dueNow s i = false ∧ alignFlight s i = none)) ∧
        alignFlight s e = none ∧ dueNow s e = true ∧ schedLate s e = false ∧ recTarget (schedRec s e) = 6 ∧ a = recArg (schedRec s e) ∧
        a < 4 ∧ tcTied s a = false ∧ ran (exec (.actionDue e) s) = true ∧ (fun (t : State) => (t.schedAt e).runs = 1 ∧
        (t.tcAt 2).reqs = [.tamp 77] ∧
        bit (t.rd (key (0x3620 + e / 16) 2)) (0 + e % 16) = true) (after (exec (.actionDue e) s))) (actw (actRec 6 3 0 131072000 2 77) 131072009 { state := 1 }) (63) (2)) := by
  refine ⟨shape_of (by decide +kernel), ?_⟩
  decide +kernel

theorem test_ScheduledActionsRun_8 : ShapeWf ((actw (actRec 6 3 0 131072000 2 77) 131072009 { state := 1 }).put (key 0x3602 7) 2) ∧
    ((fun (s : State) (e : Nat) (a : Nat) => Live s ∧ e < 64 ∧ Runs s ∧ ((∀ i, i < e → dueNow s i = false ∧ alignFlight s i = none)) ∧
        alignFlight s e = none ∧ dueNow s e = true ∧ schedLate s e = false ∧ recTarget (schedRec s e) = 6 ∧ a = recArg (schedRec s e) ∧
        tcTied s a = true ∧ wholeSecond (toI 64 (recValue (schedRec s e))) = false ∧ ran (exec (.actionDue e) s) = true ∧
        (fun (t : State) => (t.schedAt e).runs = 1 ∧ (t.schedAt e).code = 0x06090030 ∧ t.tcs = s.tcs ∧
        bit (t.rd (key (0x3620 + e / 16) 2)) (16 + e % 16) = true ∧
        ⟨faultWord 0 6 0x1C (0x400 + e), s.now⟩ ∈ t.faultIn) (after (exec (.actionDue e) s))) ((actw (actRec 6 3 0 131072000 2 77) 131072009 { state := 1 }).put (key 0x3602 7) 2) (63) (2)) := by
  refine ⟨shape_of (by decide +kernel), ?_⟩
  decide +kernel

theorem test_ScheduledActionsRun_9 : ShapeWf (actw (actRec 8 3 0 131072000 15 77) 131072009 { state := 1 }) ∧
    ((fun (s : State) (e : Nat) => Live s ∧ e < 64 ∧ Runs s ∧ ((∀ i, i < e → dueNow s i = false ∧ alignFlight s i = none)) ∧
        alignFlight s e = none ∧ dueNow s e = true ∧ schedLate s e = false ∧ 7 ≤ recTarget (schedRec s e) ∧
        ran (exec (.actionDue e) s) = true ∧ (fun (t : State) => t.sched.toS.length = 1 ∧ (t.schedAt e).runs = 1 ∧
        bit (t.rd (key (0x3620 + e / 16) 2)) (0 + e % 16) = true) (after (exec (.actionDue e) s))) (actw (actRec 8 3 0 131072000 15 77) 131072009 { state := 1 }) (63)) := by
  refine ⟨shape_of (by decide +kernel), ?_⟩
  decide +kernel

theorem test_ScheduledActionsRun_10 : ShapeWf (actw (actRec 1 3 0 131072000 95 (4 * 2 ^ 32)) 65536000 { state := 1 }) ∧
    ((fun (s : State) (e : Nat) => Live s ∧ e < 64 ∧ Runs s ∧ (s.schedAt e).state = 1 ∧ (s.schedAt e).sent = false ∧
        1 ≤ recTarget (schedRec s e) ∧ recTarget (schedRec s e) ≤ 3 ∧ schedInstant s e ≤ tcNow s (recCounter (schedRec s e)) + 65536000 ∧
        recDrop (schedRec s e) = false ∧ ran (exec (.actionDispatch e) s) = true ∧ (fun (t : State) => t.out = [.dispatch 63 131072000] ∧
        (t.schedAt e).sent = true ∧
        t.sched.flights.length = 1) (after (exec (.actionDispatch e) s))) (actw (actRec 1 3 0 131072000 95 (4 * 2 ^ 32)) 65536000 { state := 1 }) (63)) := by
  refine ⟨shape_of (by decide +kernel), ?_⟩
  decide +kernel

theorem test_ScheduledActionsRun_11 : ShapeWf (((actw (actRec 1 3 0 131072000 95 1) 131072000 { state := 1, sent := true }).put (key 0x305F 1) 2).setFlights [{ entry := 63, rec_ := actRec 1 3 0 131072000 95 1, instant := 131072000 }]) ∧
    ((fun (s : State) (e : Nat) (f : Flight) (r : List Flight) (n : Nat) (v : Nat) => (fun at_ => Live s ∧ e < 64 ∧ Runs s ∧
        takeFlight e s.sched.flights = some (f, r) ∧ recTarget f.rec_ = 1 ∧ f.instant ≤ tcNow s (recCounter f.rec_) ∧ f.entry = e ∧
        n = recArg f.rec_ ∧ n < 96 ∧ v = recValue f.rec_ ∧ ((s.chCfg n 1 = 2 ∨ s.chCfg n 1 = 3)) ∧ s.chCfg n 0x0E = 0 ∧
        (s.outAt n).forced = false ∧ (((s.outAt n).pulseFrom = at_ → (s.outAt n).edgeBy ≤ e)) ∧ ran (exec (.edgeActionFires e) s) = true ∧
        (fun (t : State) => (t.outAt 95).overlay = 1 ∧ (t.schedAt e).runs = 1 ∧ (t.schedAt e).state = 2 ∧
        bit (t.rd (key (0x3620 + e / 16) 2)) (0 + e % 16) = true ∧
        t.sched.flights = []) (after (exec (.edgeActionFires e) s))) (s.now * 65536 - (if f.passed = true then 0 else tcNow s (recCounter f.rec_) - f.instant) + fineUnits (s.chCfg n 0x0D))) (((actw (actRec 1 3 0 131072000 95 1) 131072000 { state := 1, sent := true }).put (key 0x305F 1) 2).setFlights [{ entry := 63, rec_ := actRec 1 3 0 131072000 95 1, instant := 131072000 }]) (63) ({ entry := 63, rec_ := actRec 1 3 0 131072000 95 1, instant := 131072000 }) ([]) (95) (1)) := by
  refine ⟨shape_of (by decide +kernel), ?_⟩
  decide +kernel

theorem test_ScheduledActionsRun_12 : ShapeWf ((((actw (actRec 1 3 0 131072000 95 1) 131072000 { state := 1, sent := true }).put (key 0x305F 1) 2).put (key 0x305F 0x0E) 1).setFlights [{ entry := 63, rec_ := actRec 1 3 0 131072000 95 1, instant := 131072000 }]) ∧
    ((fun (s : State) (e : Nat) (f : Flight) (r : List Flight) (n : Nat) => Live s ∧ e < 64 ∧ Runs s ∧
        takeFlight e s.sched.flights = some (f, r) ∧ recTarget f.rec_ = 1 ∧ f.instant ≤ tcNow s (recCounter f.rec_) ∧ f.entry = e ∧
        n = recArg f.rec_ ∧ n < 96 ∧ s.chCfg n 0x0E = 1 ∧ ran (exec (.edgeActionFires e) s) = true ∧ (fun (t : State) => t.ap = s.ap ∧
        (t.schedAt e).runs = 1 ∧ (t.schedAt e).code = 0x08000021 ∧
        bit (t.rd (key (0x3620 + e / 16) 2)) (16 + e % 16) = true) (after (exec (.edgeActionFires e) s))) ((((actw (actRec 1 3 0 131072000 95 1) 131072000 { state := 1, sent := true }).put (key 0x305F 1) 2).put (key 0x305F 0x0E) 1).setFlights [{ entry := 63, rec_ := actRec 1 3 0 131072000 95 1, instant := 131072000 }]) (63) ({ entry := 63, rec_ := actRec 1 3 0 131072000 95 1, instant := 131072000 }) ([]) (95)) := by
  refine ⟨shape_of (by decide +kernel), ?_⟩
  decide +kernel

theorem test_ScheduledActionsRun_13 : ShapeWf ((actw 0 0 {}).setToS [{ entry := 63, rec_ := actRec 8 3 0 131072000 15 77 }]) ∧
    ((fun (s : State) (e : Nat) (f : Flight) (r : List Flight) (k : Nat) => Live s ∧ e < 64 ∧ Runs s ∧ takeFlight e s.sched.toS = some (f, r) ∧
        Crosses s 6 true (transferWords (key (0x3400 + k) 0x17) ⟨8, recValue f.rec_⟩) ∧ recTarget f.rec_ = 8 ∧ k = recArg f.rec_ ∧ k < 16 ∧
        ran (exec (.schedDpllActionArrives e) s) = true ∧ (fun (t : State) => t.sched.toS = r ∧ t.sched.atS = s.sched.atS ++ [f] ∧
        (t.dpllAt k).tampReq = (s.dpllAt k).tampReq ++ [toI 64 (recValue f.rec_)] ∧
        t.sched.entries = s.sched.entries) (after (exec (.schedDpllActionArrives e) s))) ((actw 0 0 {}).setToS [{ entry := 63, rec_ := actRec 8 3 0 131072000 15 77 }]) (63) ({ entry := 63, rec_ := actRec 8 3 0 131072000 15 77 }) ([]) (15)) := by
  refine ⟨shape_of (by decide +kernel), ?_⟩
  decide +kernel

theorem test_ScheduledActionsRun_14 : ShapeWf ((actw 0 0 {}).setToS [{ entry := 63, rec_ := actRec 7 3 0 131072000 15 4 }]) ∧
    ((fun (s : State) (e : Nat) (f : Flight) (r : List Flight) (k : Nat) (c : Nat) => Live s ∧ e < 64 ∧ Runs s ∧
        takeFlight e s.sched.toS = some (f, r) ∧ Crosses s 6 true (transferWords (key (0x3400 + k) 0x18) ⟨8, recValue f.rec_⟩) ∧
        recTarget f.rec_ = 7 ∧ k = recArg f.rec_ ∧ k < 16 ∧ c = recValue f.rec_ ∧ 1 ≤ c ∧ c ≤ 6 ∧ dpCommandRefuse s k c (s.dpCfg k 1) = 0 ∧
        ran (exec (.schedDpllActionArrives e) s) = true ∧ (fun (t : State) => t.sched.toS = r ∧
        (t.dpllAt k).cmds = (s.dpllAt k).cmds ++ [c] ∧
        t.sched.entries = s.sched.entries) (after (exec (.schedDpllActionArrives e) s))) ((actw 0 0 {}).setToS [{ entry := 63, rec_ := actRec 7 3 0 131072000 15 4 }]) (63) ({ entry := 63, rec_ := actRec 7 3 0 131072000 15 4 }) ([]) (15) (4)) := by
  refine ⟨shape_of (by decide +kernel), ?_⟩
  decide +kernel

theorem test_ContextsDeliverOffsets_1 : ShapeWf ((cxw 1 0 9 3 {}).put (key 0x37C8 6) 0) ∧
    ((fun (s : State) (via : Iface) (c : Nat) (d : Datum) => Live s ∧ c < 256 ∧ Accepts s via (0x3700 + c) 5 d ∧
        ran (exec (.contextConfigWrite via c d) s) = true ∧ (fun (t : State) => t.rd (key (0x3700 + c) 7) = contextDefault + 4 ∧
        (t.ctxAt c) = {} ∧
        t.tcs = s.tcs) (after (exec (.contextConfigWrite via c d) s))) ((cxw 1 0 9 3 {}).put (key 0x37C8 6) 0) (.parallel) (200) (⟨64, contextDefault + 4⟩)) := by
  refine ⟨shape_of (by decide +kernel), ?_⟩
  decide +kernel

theorem test_ContextsDeliverOffsets_2 : ShapeWf ((cxw 1 0 9 3 { delays := [4] }).put (key 0x37C8 6) 0) ∧
    ((fun (s : State) (via : Iface) (c : Nat) => Live s ∧ c < 256 ∧ Accepts s via (0x3700 + c) 6 ⟨1, 1⟩ ∧ s.boot.booting = false ∧
        cxEnabled s c = false ∧ ran (exec (.contextEnableWrite via c ⟨1, 1⟩) s) = true ∧ (fun (t : State) => cxEnabled t c = true ∧
        cxPortState t c = 1 ∧ (t.ctxAt c).engine ≠ none ∧
        (t.ctxAt c).delays = []) (after (exec (.contextEnableWrite via c ⟨1, 1⟩) s))) ((cxw 1 0 9 3 { delays := [4] }).put (key 0x37C8 6) 0) (.parallel) (200)) := by
  refine ⟨shape_of (by decide +kernel), ?_⟩
  decide +kernel

theorem test_ContextsDeliverOffsets_3 : ShapeWf (cxw 1 0 9 3 { delays := [4] }) ∧
    ((fun (s : State) (via : Iface) (c : Nat) => Live s ∧ c < 256 ∧ Accepts s via (0x3700 + c) 6 ⟨1, 0⟩ ∧ s.boot.booting = false ∧
        cxEnabled s c = true ∧ ran (exec (.contextEnableWrite via c ⟨1, 0⟩) s) = true ∧ (fun (t : State) => cxEnabled t c = false ∧
        cxRef t c = 0 ∧
        (t.ctxAt c).engine = none) (after (exec (.contextEnableWrite via c ⟨1, 0⟩) s))) (cxw 1 0 9 3 { delays := [4] }) (.parallel) (200)) := by
  refine ⟨shape_of (by decide +kernel), ?_⟩
  decide +kernel

theorem test_ContextsDeliverOffsets_4 : ShapeWf (((cxw 4 0 0 2 {}).put (key 0x3601 7) 1).put (key 0x3601 0x0A) 200) ∧
    ((fun (s : State) (via : Iface) (c : Nat) (d : Datum) => Live s ∧ c < 256 ∧ Accepts s via (0x3700 + c) 8 d ∧ cxKind s c = 4 ∧
        cxEnabled s c = true ∧ bit (byteAt d.val 20) 1 = false ∧ bytesAt d.val 18 2 = s.ctxRec c 98 2 ∧
        ran (exec (.offsetInWrite via c d) s) = true ∧ (fun (t : State) => t.ctxRec c 128 8 = 5 ∧ t.ctxRec c 146 2 = 1 ∧
        t.ctxRec c 164 4 = 1 ∧ cxRef t c = 2 ∧
        (t.tcAt 1).offsets = [⟨5, 7 * 65536000000000, 200, 0, true⟩]) (after (exec (.offsetInWrite via c d) s))) (((cxw 4 0 0 2 {}).put (key 0x3601 7) 1).put (key 0x3601 0x0A) 200) (.parallel) (200) (⟨24, 0x1 * 2 ^ 160 + 7 * 2 ^ 64 + 5⟩)) := by
  refine ⟨shape_of (by decide +kernel), ?_⟩
  decide +kernel

theorem test_ContextsDeliverOffsets_5 : ShapeWf (cxw 4 0 0 3 { qualified := true, running := true }) ∧
    ((fun (s : State) (via : Iface) (c : Nat) (d : Datum) => Live s ∧ c < 256 ∧ Accepts s via (0x3700 + c) 8 d ∧ cxKind s c = 4 ∧
        cxEnabled s c = true ∧ bit (byteAt d.val 20) 1 = true ∧ ran (exec (.offsetInWrite via c d) s) = true ∧
        (fun (t : State) => cxRef t c = 1 ∧ (t.ctxAt c).qualified = false ∧
        t.ctxRec c 146 2 = 0) (after (exec (.offsetInWrite via c d) s))) (cxw 4 0 0 3 { qualified := true, running := true }) (.parallel) (200) (⟨24, 0x2 * 2 ^ 160 + 5⟩)) := by
  refine ⟨shape_of (by decide +kernel), ?_⟩
  decide +kernel

theorem test_ContextsDeliverOffsets_6 : ShapeWf (cxw 1 0 9 2 { qualified := true }) ∧
    ((fun (s : State) (c : Nat) => Live s ∧ c < 256 ∧ Runs s ∧ ran (exec (.contextStateChange c) s) = true ∧
        (fun (t : State) => cxRef t c = 3 ∧
        bit (t.rd (key (0x3700 + c) 2)) 0 = true) (after (exec (.contextStateChange c) s))) (cxw 1 0 9 2 { qualified := true }) (200)) := by
  refine ⟨shape_of (by decide +kernel), ?_⟩
  decide +kernel

theorem test_ContextsDeliverOffsets_7 : ShapeWf (cxw 1 0 9 3 { qualified := true, running := true }) ∧
    ((fun (s : State) (c : Nat) => Live s ∧ c < 256 ∧ Runs s ∧ cxEnabled s c = true ∧ cxKind s c ≠ 0 ∧ (s.ctxAt c).timedOut = false ∧
        ran (exec (.offsetTimeout c) s) = true ∧ (fun (t : State) => cxRef t c = 1 ∧ t.ctxRec c 244 4 = (s.ctxRec c 244 4 + 1) % 2 ^ 32 ∧
        bit (t.rd (key (0x3700 + c) 2)) 3 = true ∧ ⟨faultWord 0 4 0x17 (0x200 + c), s.now⟩ ∈ t.faultIn ∧
        (t.ctxAt c).timedOut = true) (after (exec (.offsetTimeout c) s))) (cxw 1 0 9 3 { qualified := true, running := true }) (200)) := by
  refine ⟨shape_of (by decide +kernel), ?_⟩
  decide +kernel

theorem test_ContextsDeliverOffsets_8 : ShapeWf ((cxw 1 0 9 2 { running := true }).withRec 89 1 248 |>.withRec 15 1 249) ∧
    ((fun (s : State) (c : Nat) => Live s ∧ c < 256 ∧ Runs s ∧ cxEnabled s c = true ∧ cxKind s c = 1 ∧ (s.ctxAt c).running = true ∧
        (s.ctxAt c).timedOut = false ∧ cxRef s c = 2 ∧ cxPortState s c = 9 ∧ s.ctxRec c 89 1 < s.ctxRec c 15 1 ∧
        ran (exec (.contextQualifyTime c) s) = true ∧ (fun (t : State) => cxRef t c = 4 ∧
        (t.ctxAt c).qualified = true) (after (exec (.contextQualifyTime c) s))) ((cxw 1 0 9 2 { running := true }).withRec 89 1 248 |>.withRec 15 1 249) (200)) := by
  refine ⟨shape_of (by decide +kernel), ?_⟩
  decide +kernel

theorem test_ContextsDeliverOffsets_9 : ShapeWf ((cxw 1 0 9 3 {}).withRec 200 4 7) ∧
    ((fun (s : State) (via : Iface) (c : Nat) => Live s ∧ c < 256 ∧ Accepts s via (0x3700 + c) 9 ⟨1, 1⟩ ∧
        ran (exec (.contextClearCounters via c) s) = true ∧ (fun (t : State) => t.ctxRec c 192 64 = 0 ∧
        t.ctxRec c 0 192 = s.ctxRec c 0 192 ∧ t.ctxs = s.ctxs ∧
        t.tcs = s.tcs) (after (exec (.contextClearCounters via c) s))) ((cxw 1 0 9 3 {}).withRec 200 4 7) (.parallel) (200)) := by
  refine ⟨shape_of (by decide +kernel), ?_⟩
  decide +kernel

theorem test_ContextsDeliverOffsets_10 : ShapeWf (cxw 1 0 9 3 { delays := [4], foreign := [{}] }) ∧
    ((fun (s : State) (via : Iface) (c : Nat) => Live s ∧ c < 256 ∧ Accepts s via (0x3700 + c) 9 ⟨1, 2⟩ ∧ cxPtp s c = true ∧
        cxEnabled s c = true ∧ s.tcReg (cxCounter s c) 0x22 = 1 ∧ cxPortState s c ≠ 1 ∧ ran (exec (.contextRestart via c) s) = true ∧
        (fun (t : State) => cxPortState t c = 1 ∧ (t.ctxAt c).foreign = [] ∧ (t.ctxAt c).delays = [] ∧
        t.ctxRec c 146 2 = 0) (after (exec (.contextRestart via c) s))) (cxw 1 0 9 3 { delays := [4], foreign := [{}] }) (.parallel) (200)) := by
  refine ⟨shape_of (by decide +kernel), ?_⟩
  decide +kernel

theorem test_PtpMessagesFormOffsets_1 : ShapeWf (cxw 1 0 8 2 { delays := [100, 201] }) ∧
    ((fun (s : State) (c : Nat) (m : PtpMsg) => c < 256 ∧ Runs s ∧ ctxLive s c = true ∧ ctxServed s c = true ∧ fromMaster s c m.src = true ∧
        m.twoStep = false ∧ ran (exec (.ptpSyncRx c m) s) = true ∧ (fun (t : State) => (t.ctxAt c).ms = some (990, 5000) ∧
        t.ctxRec c 216 4 = (s.ctxRec c 216 4 + 1) % 2 ^ 32 ∧ cxPortState t c = 9 ∧
        t.ctxRec c 128 8 = ofI 64 (151 - 990) ∨ t.ctxRec c 128 8 = ofI 64 (150 - 990) ∧
        t.ctxRec c 146 2 = 1) (after (exec (.ptpSyncRx c m) s))) (cxw 1 0 8 2 { delays := [100, 201] }) (200) ({ time := 5000, stamp := 4000, corr := 10 })) := by
  refine ⟨shape_of (by decide +kernel), ?_⟩
  decide +kernel

theorem test_PtpMessagesFormOffsets_2 : ShapeWf (cxw 1 0 8 2 {}) ∧
    ((fun (s : State) (c : Nat) (m : PtpMsg) => c < 256 ∧ Runs s ∧ ctxLive s c = true ∧ ctxServed s c = true ∧ fromMaster s c m.src = true ∧
        m.twoStep = true ∧ ran (exec (.ptpSyncRx c m) s) = true ∧ (fun (t : State) => (t.ctxAt c).sync = some (4, 5000, 10) ∧
        t.ctxRec c 216 4 = (s.ctxRec c 216 4 + 1) % 2 ^ 32) (after (exec (.ptpSyncRx c m) s))) (cxw 1 0 8 2 {}) (200) ({ seq := 4, time := 5000, corr := 10, twoStep := true })) := by
  refine ⟨shape_of (by decide +kernel), ?_⟩
  decide +kernel

theorem test_PtpMessagesFormOffsets_3 : ShapeWf (cxw 1 0 9 2 { sync := some (4, 5000, 10) }) ∧
    ((fun (s : State) (c : Nat) (m : PtpMsg) (t2 : Int) (corr : Int) => c < 256 ∧ Runs s ∧ ctxLive s c = true ∧ ctxServed s c = true ∧
        fromMaster s c m.src = true ∧ (s.ctxAt c).sync = some (m.seq, t2, corr) ∧ ran (exec (.ptpFollowUpRx c m) s) = true ∧
        (fun (t : State) => (t.ctxAt c).ms = some (t2 - m.stamp - corr - m.corr, t2) ∧ (t.ctxAt c).sync = none ∧
        t.ctxRec c 220 4 = (s.ctxRec c 220 4 + 1) % 2 ^ 32) (after (exec (.ptpFollowUpRx c m) s))) (cxw 1 0 9 2 { sync := some (4, 5000, 10) }) (200) ({ seq := 4, stamp := 4000, corr := 1 }) (5000) (10)) := by
  refine ⟨shape_of (by decide +kernel), ?_⟩
  decide +kernel

theorem test_PtpMessagesFormOffsets_4 : ShapeWf (cxw 1 0 8 2 { req := some (4, 6000), ms := some (990, 5000), delays := [7] }) ∧
    ((fun (s : State) (c : Nat) (m : PtpMsg) (t2 : Int) (t3 : Int) (ms : Int) => c < 256 ∧ Runs s ∧ ctxLive s c = true ∧ ctxServed s c = true ∧
        fromMaster s c m.src = true ∧ cxP2P s c = false ∧ (s.ctxAt c).req = some (m.seq, t3) ∧ (s.ctxAt c).ms = some (ms, t2) ∧
        ran (exec (.ptpDelayRespRx c m) s) = true ∧ (fun (t : State) => (t.ctxAt c).delays = [990, 7] ∧
        t.ctxRec c 228 4 = (s.ctxRec c 228 4 + 1) % 2 ^ 32 ∧
        cxPortState t c = 9) (after (exec (.ptpDelayRespRx c m) s))) (cxw 1 0 8 2 { req := some (4, 6000), ms := some (990, 5000), delays := [7] }) (200) ({ seq := 4, stamp := 7000, corr := 10 }) (5000) (6000) (990)) := by
  refine ⟨shape_of (by decide +kernel), ?_⟩
  decide +kernel

theorem test_PtpMessagesFormOffsets_5 : ShapeWf (cxw 1 0 6 1 {}) ∧
    ((fun (s : State) (c : Nat) (m : PtpMsg) => c < 256 ∧ Runs s ∧ ctxLive s c = true ∧ ctxServed s c = true ∧ portUp s (cxPort s c) = true ∧
        cxPort s c < 2 ∧ cxPortState s c = 6 ∧ cxP2P s c = false ∧ ran (exec (.ptpDelayReqRx c m) s) = true ∧
        (fun (t : State) => t.out.length = 1 ∧ t.ctxRec c 224 4 = (s.ctxRec c 224 4 + 1) % 2 ^ 32 ∧
        t.ctxRec c 204 4 = (s.ctxRec c 204 4 + 1) % 2 ^ 32) (after (exec (.ptpDelayReqRx c m) s))) (cxw 1 0 6 1 {}) (200) ({ seq := 4 })) := by
  refine ⟨shape_of (by decide +kernel), ?_⟩
  decide +kernel

theorem test_PtpMessagesFormOffsets_6 : ShapeWf ((cxw 1 0 6 1 {}).withRec 4 1 1) ∧
    ((fun (s : State) (c : Nat) (m : PtpMsg) => c < 256 ∧ Runs s ∧ ctxLive s c = true ∧ ctxServed s c = true ∧ portUp s (cxPort s c) = true ∧
        cxPort s c < 2 ∧ cxP2P s c = true ∧ cxPortState s c ≠ 1 ∧ ran (exec (.ptpPdelayReqRx c m) s) = true ∧
        (fun (t : State) => t.out.length = s.out.length + (if cxOneStep s c then 1 else 2) ∧
        t.ctxRec c 224 4 = (s.ctxRec c 224 4 + 1) % 2 ^ 32 ∧
        t.ctxRec c 204 4 = (s.ctxRec c 204 4 + (if cxOneStep s c then 1 else 2)) % 2 ^ 32 ∧
        t.ctxs = s.ctxs) (after (exec (.ptpPdelayReqRx c m) s))) ((cxw 1 0 6 1 {}).withRec 4 1 1) (200) ({ seq := 4 })) := by
  refine ⟨shape_of (by decide +kernel), ?_⟩
  decide +kernel

theorem test_PtpMessagesFormOffsets_7 : ShapeWf ((cxw 1 0 6 1 { req := some (4, 6000) }).withRec 4 1 1) ∧
    ((fun (s : State) (c : Nat) (m : PtpMsg) (t1 : Int) => c < 256 ∧ Runs s ∧ ctxLive s c = true ∧ ctxServed s c = true ∧ cxP2P s c = true ∧
        cxProfile s c = 1 ∧ m.followUp = false ∧ m.twoStep = false ∧ (s.ctxAt c).req = some (m.seq, t1) ∧ 0 < s.ctxRec c 12 1 ∧
        cxPortState s c ≠ 1 ∧ ran (exec (.ptpPdelayRespRx c m) s) = true ∧ (fun (t : State) => (t.ctxAt c).delays = [40] ∧
        t.ctxRec c 228 4 = (s.ctxRec c 228 4 + 1) % 2 ^ 32) (after (exec (.ptpPdelayRespRx c m) s))) ((cxw 1 0 6 1 { req := some (4, 6000) }).withRec 4 1 1) (200) ({ seq := 4, time := 6100, corr := 20 }) (6000)) := by
  refine ⟨shape_of (by decide +kernel), ?_⟩
  decide +kernel

theorem test_PtpMessagesFormOffsets_8 : ShapeWf ((cxw 1 0 6 1 { req := some (4, 6000) }).withRec 4 1 1) ∧
    ((fun (s : State) (c : Nat) (m : PtpMsg) (t1 : Int) => c < 256 ∧ Runs s ∧ ctxLive s c = true ∧ ctxServed s c = true ∧ cxP2P s c = true ∧
        m.followUp = false ∧ m.twoStep = true ∧ (s.ctxAt c).req = some (m.seq, t1) ∧ cxPortState s c ≠ 1 ∧
        ran (exec (.ptpPdelayRespRx c m) s) = true ∧ (fun (t : State) => (t.ctxAt c).presp = some (4, 0, 6100, 20) ∧
        t.ctxRec c 228 4 = (s.ctxRec c 228 4 + 1) % 2 ^ 32) (after (exec (.ptpPdelayRespRx c m) s))) ((cxw 1 0 6 1 { req := some (4, 6000) }).withRec 4 1 1) (200) ({ seq := 4, time := 6100, corr := 20, twoStep := true }) (6000)) := by
  refine ⟨shape_of (by decide +kernel), ?_⟩
  decide +kernel

theorem test_PtpMessagesFormOffsets_9 : ShapeWf (cxw 1 0 4 1 {}) ∧
    ((fun (s : State) (c : Nat) (a : Announce) => c < 256 ∧ Runs s ∧ ctxLive s c = true ∧ ctxServed s c = true ∧ (s.ctxAt c).foreign = [] ∧
        cxPortState s c = 4 ∧ cxProfile s c ≠ 4 ∧ cxRole s c ≠ 1 ∧ ((∀ x, x < 256 → x ≠ c → cxEnabled s x = false)) ∧
        ran (exec (.ptpAnnounceRx c a) s) = true ∧ (fun (t : State) => (t.ctxAt c).foreign = [⟨a, 1, s.now⟩] ∧
        t.ctxRec c 232 4 = (s.ctxRec c 232 4 + 1) % 2 ^ 32) (after (exec (.ptpAnnounceRx c a) s))) (cxw 1 0 4 1 {}) (200) ({ src := 9 })) := by
  refine ⟨shape_of (by decide +kernel), ?_⟩
  decide +kernel

theorem test_PtpMessagesFormOffsets_10 : ShapeWf (cxw 1 0 4 1 {}) ∧
    ((fun (s : State) (c : Nat) => c < 256 ∧ Runs s ∧ ctxLive s c = true ∧ ctxServed s c = true ∧ cxPortState s c = 4 ∧ slaveOnly s c = false ∧
        (s.ctxAt c).foreign = [] ∧ ((∀ x, x < 256 → x ≠ c → cxEnabled s x = false)) ∧ ran (exec (.announceReceiptTimeout c) s) = true ∧
        (fun (t : State) => cxPortState t c = 5 ∧ bit (t.rd (key (0x3700 + c) 2)) 2 = true ∧
        ⟨faultWord 0 4 0x17 (0x200 + c), s.now⟩ ∈ t.faultIn ∧
        t.ctxRec c 248 4 = (s.ctxRec c 248 4 + 1) % 2 ^ 32) (after (exec (.announceReceiptTimeout c) s))) (cxw 1 0 4 1 {}) (200)) := by
  refine ⟨shape_of (by decide +kernel), ?_⟩
  decide +kernel

theorem test_PtpMessagesFormOffsets_11 : ShapeWf (cxw 1 0 5 1 {}) ∧
    ((fun (s : State) (c : Nat) => c < 256 ∧ Runs s ∧ ctxLive s c = true ∧ ctxServed s c = true ∧ cxPortState s c = 5 ∧
        ran (exec (.preMasterQualificationTimeout c) s) = true ∧ (fun (t : State) => cxPortState t c = 6 ∧
        (t.ctxAt c).delays = []) (after (exec (.preMasterQualificationTimeout c) s))) (cxw 1 0 5 1 {}) (200)) := by
  refine ⟨shape_of (by decide +kernel), ?_⟩
  decide +kernel

theorem test_PtpMessagesFormOffsets_12 : ShapeWf (cxw 1 0 6 1 { seqSync := 65535 }) ∧
    ((fun (s : State) (c : Nat) => c < 256 ∧ Runs s ∧ ctxLive s c = true ∧ ctxServed s c = true ∧ portUp s (cxPort s c) = true ∧
        cxPort s c < 2 ∧ cxPortState s c = 6 ∧ granted s c 0 = true ∧ ran (exec (.ptpSyncInterval c) s) = true ∧
        (fun (t : State) => t.out.length = 2 ∧ t.ctxRec c 192 4 = (s.ctxRec c 192 4 + 1) % 2 ^ 32 ∧
        t.ctxRec c 196 4 = (s.ctxRec c 196 4 + 1) % 2 ^ 32 ∧
        (t.ctxAt c).seqSync = 0) (after (exec (.ptpSyncInterval c) s))) (cxw 1 0 6 1 { seqSync := 65535 }) (200)) := by
  refine ⟨shape_of (by decide +kernel), ?_⟩
  decide +kernel

theorem test_PtpMessagesFormOffsets_13 : ShapeWf (cxw 1 0 8 2 { seqReq := 3 }) ∧
    ((fun (s : State) (c : Nat) => c < 256 ∧ Runs s ∧ ctxLive s c = true ∧ ctxServed s c = true ∧ portUp s (cxPort s c) = true ∧
        cxPort s c < 2 ∧ ((cxPortState s c = 8 ∨ cxPortState s c = 9)) ∧ ran (exec (.ptpDelayReqInterval c) s) = true ∧
        (fun (t : State) => t.out.length = 1 ∧ t.ctxRec c 200 4 = (s.ctxRec c 200 4 + 1) % 2 ^ 32 ∧
        (t.ctxAt c).req = some (3, 0)) (after (exec (.ptpDelayReqInterval c) s))) (cxw 1 0 8 2 { seqReq := 3 }) (200)) := by
  refine ⟨shape_of (by decide +kernel), ?_⟩
  decide +kernel

theorem test_PtpMessagesFormOffsets_14 : ShapeWf (cxw 1 0 6 1 { seqAnn := 3 }) ∧
    ((fun (s : State) (c : Nat) => c < 256 ∧ Runs s ∧ ctxLive s c = true ∧ ctxServed s c = true ∧ portUp s (cxPort s c) = true ∧
        cxPort s c < 2 ∧ cxPortState s c = 6 ∧ granted s c 11 = true ∧ ran (exec (.ptpAnnounceInterval c) s) = true ∧
        (fun (t : State) => t.out.length = 1 ∧ t.ctxRec c 208 4 = (s.ctxRec c 208 4 + 1) % 2 ^ 32 ∧
        (t.ctxAt c).seqAnn = 4) (after (exec (.ptpAnnounceInterval c) s))) (cxw 1 0 6 1 { seqAnn := 3 }) (200)) := by
  refine ⟨shape_of (by decide +kernel), ?_⟩
  decide +kernel

theorem test_PtpMessagesFormOffsets_15 : ShapeWf (cxw 2 0 8 1 { grants := [(0, 5, 1)] }) ∧
    ((fun (s : State) (c : Nat) (g : Signal) => c < 256 ∧ Runs s ∧ ctxLive s c = true ∧ ctxServed s c = true ∧ cxKind s c = 2 ∧
        (s.ctxAt c).pool = false ∧ g.kind = 1 ∧ g.duration ≠ 0 ∧ cxPortState s c ≠ 1 ∧ ran (exec (.ptpSignalingRx c g) s) = true ∧
        (fun (t : State) => (t.ctxAt c).grants = [(0, 3000000000, 3)] ∧
        t.ctxRec c 236 4 = (s.ctxRec c 236 4 + 1) % 2 ^ 32) (after (exec (.ptpSignalingRx c g) s))) (cxw 2 0 8 1 { grants := [(0, 5, 1)] }) (200) ({ kind := 1, type_ := 0, duration := 3 })) := by
  refine ⟨shape_of (by decide +kernel), ?_⟩
  decide +kernel

theorem test_PtpMessagesFormOffsets_16 : ShapeWf (cxw 1 0 6 1 {}) ∧
    ((fun (s : State) (c : Nat) (g : Signal) => c < 256 ∧ Runs s ∧ ctxLive s c = true ∧ ctxServed s c = true ∧ cxKind s c = 1 ∧
        cxPortState s c = 6 ∧ g.kind = 0 ∧ s.rd (key 0x3610 8) = 0 ∧ ran (exec (.ptpSignalingRx c g) s) = true ∧
        (fun (t : State) => t.rd (key 0x3610 0x0A) = 1 ∧
        ⟨faultWord 0 4 0x18 (0x200 + c), s.now⟩ ∈ t.faultIn) (after (exec (.ptpSignalingRx c g) s))) (cxw 1 0 6 1 {}) (200) ({ kind := 0, type_ := 0, duration := 3 })) := by
  refine ⟨shape_of (by decide +kernel), ?_⟩
  decide +kernel

theorem test_PtpMessagesFormOffsets_17 : ShapeWf (cxw 2 0 8 1 { grants := [(0, 5, 1), (9, 4, 1)] }) ∧
    ((fun (s : State) (c : Nat) (g : Nat × Nat × Nat) => c < 256 ∧ Runs s ∧ (s.ctxAt c).pool = false ∧ firstGrant (s.ctxAt c).grants = some g ∧
        ran (exec (.grantExpiry c) s) = true ∧ (fun (t : State) => (t.ctxAt c).grants = [(0, 5, 1)] ∧
        bit (t.rd (key (0x3700 + c) 2)) 4 = true) (after (exec (.grantExpiry c) s))) (cxw 2 0 8 1 { grants := [(0, 5, 1), (9, 4, 1)] }) (200) ((9, 4, 1))) := by
  refine ⟨shape_of (by decide +kernel), ?_⟩
  decide +kernel

theorem test_PtpMessagesFormOffsets_18 : ShapeWf (cxw 2 0 6 1 { pool := true, grants := [(9, 4, 1)] }) ∧
    ((fun (s : State) (c : Nat) (g : Nat × Nat × Nat) => c < 256 ∧ Runs s ∧ (s.ctxAt c).pool = true ∧ (s.ctxAt c).grants = [g] ∧
        ran (exec (.grantExpiry c) s) = true ∧ (fun (t : State) => (t.ctxAt c) = {} ∧ cxEnabled t c = false ∧
        cxKind t c = 0) (after (exec (.grantExpiry c) s))) (cxw 2 0 6 1 { pool := true, grants := [(9, 4, 1)] }) (200) ((9, 4, 1))) := by
  refine ⟨shape_of (by decide +kernel), ?_⟩
  decide +kernel

theorem test_PtpMessagesFormOffsets_19 : ShapeWf ((cxw 2 0 8 1 {}).withRec 3 1 2) ∧
    ((fun (s : State) (c : Nat) => (fun n => c < 256 ∧ Runs s ∧ ctxLive s c = true ∧ ctxServed s c = true ∧ portUp s (cxPort s c) = true ∧
        cxPort s c < 2 ∧ cxKind s c = 2 ∧ (s.ctxAt c).pool = false ∧ cxRole s c = 2 ∧ cxPortState s c ≠ 1 ∧
        ran (exec (.grantRenewalTimer c) s) = true ∧ (fun (t : State) => t.out.length = 3 ∧ t.ctxRec c 212 4 = 3 ∧
        (t.ctxAt c).seqSig = 3) (after (exec (.grantRenewalTimer c) s))) (([11, 0, 9].filter fun ty => grantWanted s c ty).length)) ((cxw 2 0 8 1 {}).withRec 3 1 2) (200)) := by
  refine ⟨shape_of (by decide +kernel), ?_⟩
  decide +kernel

theorem test_EthernetAndVirtualPorts_1 : ShapeWf ((cxw 1 0x1F 6 1 {}).put (key 0x3611 4) 0x0A000001) ∧
    ((fun (s : State) (p : Nat) (target : Nat) (d : Datum) => Live s ∧ Runs s ∧ p < 2 ∧ portUp s p = true ∧ target ≠ 0 ∧
        ((target = s.rd (key 0x3611 (4 + 16 * p)) ∨ target = ipv6Of s p)) ∧ ran (exec (.arpNdpRx p target d) s) = true ∧
        (fun (t : State) => t.out.length = 1 ∧
        t.od = s.od) (after (exec (.arpNdpRx p target d) s))) ((cxw 1 0x1F 6 1 {}).put (key 0x3611 4) 0x0A000001) (0) (0x0A000001) (⟨6, 5⟩)) := by
  refine ⟨shape_of (by decide +kernel), ?_⟩
  decide +kernel

theorem test_EthernetAndVirtualPorts_2 : ShapeWf (((cxw 2 0 8 1 {}).withRec 5 1 1).withRec 16 16 0x0A000001) ∧
    ((fun (s : State) (c : Nat) => Live s ∧ Runs s ∧ c < 256 ∧ cxKind s c = 2 ∧ cxEnabled s c = true ∧ cxPort s c < 2 ∧
        portUp s (cxPort s c) = true ∧ s.ctxRec c 5 1 ≠ 0 ∧ ran (exec (.peerResolveTimer) s) = true ∧
        (fun (t : State) => .eth (cxPort s c) 0x101 ⟨16, s.ctxRec c 16 16⟩ ∈ t.out ∧
        t.od = s.od) (after (exec (.peerResolveTimer) s))) (((cxw 2 0 8 1 {}).withRec 5 1 1).withRec 16 16 0x0A000001) (200)) := by
  refine ⟨shape_of (by decide +kernel), ?_⟩
  decide +kernel

theorem test_EthernetAndVirtualPorts_3 : ShapeWf (((cxw 2 0 8 1 {}).withRec 5 1 1).withRec 16 16 0x0A000001) ∧
    ((fun (s : State) (p : Nat) (c : Nat) (target : Nat) (d : Datum) => Live s ∧ Runs s ∧ c < 256 ∧ p < 2 ∧ portUp s p = true ∧ target ≠ 0 ∧
        target ≠ s.rd (key 0x3611 (4 + 16 * p)) ∧ target ≠ ipv6Of s p ∧ peerAt s c p target = true ∧
        ran (exec (.arpNdpRx p target d) s) = true ∧ (fun (t : State) => (t.ctxAt c).peerMac = some (d.val % 2 ^ 48) ∧ t.out = s.out ∧
        t.od = s.od) (after (exec (.arpNdpRx p target d) s))) (((cxw 2 0 8 1 {}).withRec 5 1 1).withRec 16 16 0x0A000001) (0) (200) (0x0A000001) (⟨6, 5⟩)) := by
  refine ⟨shape_of (by decide +kernel), ?_⟩
  decide +kernel

theorem test_EthernetAndVirtualPorts_4 : ShapeWf (cxw 1 0x1F 6 1 {}) ∧
    ((fun (s : State) (p : Nat) (bad : Bool) => Live s ∧ Runs s ∧ p < 2 ∧ portUp s p = true ∧ ((bad = true ∨ s.rd (key 0x3610 5) ≠ 1)) ∧
        ran (exec (.ethOtherFrameRx p bad) s) = true ∧
        (fun (t : State) => t.rd (key 0x3611 ((if bad then 0x0D else 0x0C) + 16 * p)) = cut 32 (s.rd (key 0x3611 ((if bad then 0x0D else 0x0C) + 16 * p)) + 1) ∧ t.out = s.out ∧ t.tcs = s.tcs) (after (exec (.ethOtherFrameRx p bad) s))) (cxw 1 0x1F 6 1 {}) (0) (true)) := by
  refine ⟨shape_of (by decide +kernel), ?_⟩
  decide +kernel

theorem test_EthernetAndVirtualPorts_5 : ShapeWf ((cxw 1 0x1F 6 1 {}).put (key 0x3610 5) 1) ∧
    ((fun (s : State) (p : Nat) (residence : Int) (d : Datum) => Live s ∧ Runs s ∧ p < 2 ∧ portUp s p = true ∧ s.rd (key 0x3610 5) = 1 ∧
        s.rd (key 0x3610 0x0C) < 2 ^ 32 ∧ ran (exec (.passthroughFrame p false residence false d) s) = true ∧
        (fun (t : State) => t.out.head? = some (.eth (1 - p) 0x200 (if residenceDue d = true then corrected d (counterSpan s (s.rd (key 0x3610 6) % 4) residence) else d)) ∧ t.rd (key 0x3610 0x0C) = cut 32 (s.rd (key 0x3610 0x0C) + b2n (residenceDue d)) ∧ t.rd (key 0x3610 0x0B) = s.rd (key 0x3610 0x0B)) (after (exec (.passthroughFrame p false residence false d) s))) ((cxw 1 0x1F 6 1 {}).put (key 0x3610 5) 1) (0) (65536) (⟨60, 0xF788 * 2 ^ 96⟩)) := by
  refine ⟨shape_of (by decide +kernel), ?_⟩
  decide +kernel

theorem test_EthernetAndVirtualPorts_6 : ShapeWf ((cxw 1 0x1F 6 1 {}).put (key 0x3610 5) 1) ∧
    ((fun (s : State) (p : Nat) (residence : Int) (full : Bool) (d : Datum) => Live s ∧ Runs s ∧ p < 2 ∧ portUp s p = true ∧
        s.rd (key 0x3610 5) = 1 ∧ ran (exec (.passthroughFrame p true residence full d) s) = true ∧ (fun (t : State) => t.out = s.out ∧
        t.rd (key 0x3611 (0x0D + 16 * p)) = cut 32 (s.rd (key 0x3611 (0x0D + 16 * p)) + 1) ∧
        t.rd (key 0x3610 0x0C) = s.rd (key 0x3610 0x0C)) (after (exec (.passthroughFrame p true residence full d) s))) ((cxw 1 0x1F 6 1 {}).put (key 0x3610 5) 1) (0) (65536) (false) (⟨60, 0⟩)) := by
  refine ⟨shape_of (by decide +kernel), ?_⟩
  decide +kernel

theorem test_EthernetAndVirtualPorts_7 : ShapeWf ((cxw 1 0x1F 6 1 {}).put (key 0x3610 5) 1) ∧
    ((fun (s : State) (p : Nat) (residence : Int) (d : Datum) => Live s ∧ Runs s ∧ p < 2 ∧ portUp s p = true ∧ s.rd (key 0x3610 5) = 1 ∧
        ran (exec (.passthroughFrame p false residence true d) s) = true ∧ (fun (t : State) => t.out = (offerFrame s p d).out ∧
        t.rd (key 0x3610 0x0B) = cut 32 (s.rd (key 0x3610 0x0B) + 1) ∧
        bit (t.rd (key 0x3610 2)) 3 = true) (after (exec (.passthroughFrame p false residence true d) s))) ((cxw 1 0x1F 6 1 {}).put (key 0x3610 5) 1) (0) (65536) (⟨60, 0⟩)) := by
  refine ⟨shape_of (by decide +kernel), ?_⟩
  decide +kernel

theorem test_EthernetAndVirtualPorts_8 : ShapeWf (cxw 1 0x1F 6 1 {}) ∧
    ((fun (s : State) (p : Nat) (up : Bool) => Live s ∧ Runs s ∧ p < 2 ∧ portUp s p ≠ up ∧ 2 ≤ s.dp.recSince.length ∧ ((up = true →
        s.rd (key 0x3611 (1 + 16 * p)) ≠ 0)) ∧ ran (exec (.ethLinkChange p up) s) = true ∧
        (fun (t : State) => t.rd (key 0x3611 (2 + 16 * p)) = b2n up ∧ bit (t.rd (key 0x3610 2)) p = true ∧
        t.faultIn = s.faultIn ++ (if up then [] else [⟨faultWord 0 5 0x19 (0x300 + p), s.now⟩]) ∧
        t.dp.recSince.getD p none = (if up then some s.now else none) ∧
        t.ctxs = s.ctxs) (after (exec (.ethLinkChange p up) s))) (cxw 1 0x1F 6 1 {}) (0) (false)) := by
  refine ⟨shape_of (by decide +kernel), ?_⟩
  decide +kernel

theorem test_EthernetAndVirtualPorts_9 : ShapeWf ({ cxw 1 0x1F 6 1 {} with ptp := { txq := [⟨8, 1⟩, ⟨8, 2⟩], nextTag := 2 } }) ∧
    ((fun (s : State) (via : Iface) (d : Datum) (r : List Datum) => Live s ∧ viaOn s via = true ∧ s.ptp.txq = d :: r ∧
        dieReachable s 0 = true ∧ s.boot.open_ = true ∧ ran (exec (.txRecordPop via) s) = true ∧ (fun (t : State) => t.ptp.txq = [⟨8, 2⟩] ∧
        t.od = s.od) (after (exec (.txRecordPop via) s))) ({ cxw 1 0x1F 6 1 {} with ptp := { txq := [⟨8, 1⟩, ⟨8, 2⟩], nextTag := 2 } }) (.parallel) (⟨8, 1⟩) ([⟨8, 2⟩])) := by
  refine ⟨shape_of (by decide +kernel), ?_⟩
  decide +kernel

theorem test_EthernetAndVirtualPorts_10 : ShapeWf (cxw 1 0x1F 8 1 { stamps := [⟨7, 1, 3, 0, 0⟩] }) ∧
    ((fun (s : State) (via : Iface) (c : Nat) (d : Datum) (w : Waiting) (r : List Waiting) (time : Int) => Live s ∧ c < 256 ∧
        Accepts s via 0x3612 4 d ∧ ((∀ x, x < 256 → (cxPort s x = 0x10 + byteAt d.val 0 ↔ x = c))) ∧ (s.ctxAt c).stamps = w :: r ∧
        w.tag = bytesAt d.val 2 2 ∧ w.type_ = 1 ∧
        time = ((bytesAt d.val 4 6 * 1000000000 + bytesAt d.val 10 4) * 65536 + bytesAt d.val 14 2 : Nat) ∧
        ran (exec (.txStampWrite via d) s) = true ∧ (fun (t : State) => (t.ctxAt c).req = some (3, 131072) ∧ (t.ctxAt c).stamps = [] ∧
        t.od = s.od) (after (exec (.txStampWrite via d) s))) (cxw 1 0x1F 8 1 { stamps := [⟨7, 1, 3, 0, 0⟩] }) (.parallel) (200) (⟨16, 15 + 7 * 2 ^ 16 + 2 * 2 ^ 80⟩) (⟨7, 1, 3, 0, 0⟩) ([]) (131072)) := by
  refine ⟨shape_of (by decide +kernel), ?_⟩
  decide +kernel

theorem test_EthernetAndVirtualPorts_11 : ShapeWf (cxw 1 0x1F 8 1 { stamps := [⟨7, 1, 3, 0, 0⟩] }) ∧
    ((fun (s : State) (c : Nat) (w : Waiting) (r : List Waiting) => Live s ∧ Runs s ∧ c < 256 ∧ (s.ctxAt c).stamps = w :: r ∧
        ran (exec (.txStampMissing c) s) = true ∧ (fun (t : State) => (t.ctxAt c).stamps = r ∧
        t.ctxRec c 252 4 = (s.ctxRec c 252 4 + 1) % 2 ^ 32 ∧ bit (t.rd (key (0x3700 + c) 2)) 5 = true ∧
        t.rd (key 0x3612 7) = cut 32 (s.rd (key 0x3612 7) + 1) ∧ bit (t.rd (key 0x3610 2)) 5 = true ∧
        (t.ctxAt c).req = (s.ctxAt c).req) (after (exec (.txStampMissing c) s))) (cxw 1 0x1F 8 1 { stamps := [⟨7, 1, 3, 0, 0⟩] }) (200) (⟨7, 1, 3, 0, 0⟩) ([])) := by
  refine ⟨shape_of (by decide +kernel), ?_⟩
  decide +kernel

theorem test_EthernetAndVirtualPorts_12 : ShapeWf (cxw 1 0x1F 6 1 {}) ∧
    ((fun (s : State) (via : Iface) (d : Datum) => Live s ∧ Accepts s via 0x3612 2 d ∧
        msgOffset ⟨bytesAt d.val 2 2, bytesAt d.val 16 (bytesAt d.val 2 2)⟩ = none ∧ ran (exec (.rxRecordWrite via d) s) = true ∧
        (fun (t : State) => t.ctxs = s.ctxs) (after (exec (.rxRecordWrite via d) s))) (cxw 1 0x1F 6 1 {}) (.parallel) (⟨76, 15 + 60 * 2 ^ 16⟩)) := by
  refine ⟨shape_of (by decide +kernel), ?_⟩
  decide +kernel

theorem test_EthernetAndVirtualPorts_13 : ShapeWf (cxw 1 0x1F 9 2 {}) ∧
    ((fun (s : State) (via : Iface) (c : Nat) (d : Datum) (o : Nat) => Live s ∧ Accepts s via 0x3612 2 d ∧
        msgOffset ⟨bytesAt d.val 2 2, bytesAt d.val 16 (bytesAt d.val 2 2)⟩ = some o ∧
        frameContext s (0x10 + byteAt d.val 0) ⟨bytesAt d.val 2 2, bytesAt d.val 16 (bytesAt d.val 2 2)⟩ o = some c ∧
        ran (exec (.rxRecordWrite via d) s) = true ∧
        (fun (t : State) => t.ctxRec c 220 4 = (s.ctxRec c 220 4 + 1) % 2 ^ 32) (after (exec (.rxRecordWrite via d) s))) (cxw 1 0x1F 9 2 {}) (.parallel) (200) (⟨116, 15 + 100 * 2 ^ 16 + 0xF788 * 2 ^ 224 + 0x8 * 2 ^ 240⟩) (14)) := by
  refine ⟨shape_of (by decide +kernel), ?_⟩
  decide +kernel

theorem test_EthernetAndVirtualPorts_14 : ShapeWf (((cxw 1 0x1F 6 1 {}).put (key 0x3611 1) 1).put (key 0x3611 0x11) 1) ∧
    ((fun (s : State) (via : Iface) (d : Datum) => Live s ∧ Accepts s via 0x3610 5 d ∧ ran (exec (.passthroughWrite via d) s) = true ∧
        (fun (t : State) => t.rd (key 0x3610 5) = d.val ∧ t.ctxs = s.ctxs ∧ t.tcs = s.tcs ∧
        t.out = s.out) (after (exec (.passthroughWrite via d) s))) (((cxw 1 0x1F 6 1 {}).put (key 0x3611 1) 1).put (key 0x3611 0x11) 1) (.parallel) (⟨1, 1⟩)) := by
  refine ⟨shape_of (by decide +kernel), ?_⟩
  decide +kernel

theorem test_FabricPortsTrainAndMeter_1 : ShapeWf (fabw 17 0 {}) ∧
    ((fun (s : State) (via : Iface) (p : Nat) => Live s ∧ p < 4 ∧ Accepts s via (0x3804 + p) 1 ⟨1, 1⟩ ∧ s.boot.booting = false ∧ s.fp p 1 = 0 ∧
        s.fp p 2 = 0 ∧ ran (exec (.fabModeWrite via p ⟨1, 1⟩) s) = true ∧ (fun (t : State) => t.fp p 1 = 1 ∧ t.fp p 2 = 1 ∧
        (t.portAt p).trying = true ∧
        bit (t.fb 2) (12 + p) = true) (after (exec (.fabModeWrite via p ⟨1, 1⟩) s))) (fabw 17 0 {}) (.parallel) (3)) := by
  refine ⟨shape_of (by decide +kernel), ?_⟩
  decide +kernel

theorem test_FabricPortsTrainAndMeter_2 : ShapeWf ((fabw 17 2 {}).put (key 0x3807 1) 1) ∧
    ((fun (s : State) (via : Iface) (p : Nat) => Live s ∧ p < 4 ∧ Accepts s via (0x3804 + p) 1 ⟨1, 0⟩ ∧ s.boot.booting = false ∧ s.fp p 1 = 1 ∧
        fabUp s p = true) ((fabw 17 2 {}).put (key 0x3807 1) 1) (.parallel) (3)) := by
  refine ⟨shape_of (by decide +kernel), ?_⟩
  decide +kernel

theorem test_FabricPortsTrainAndMeter_3 : ShapeWf (fabw 17 2 {}) ∧
    ((fun (s : State) (via : Iface) (p : Nat) (d : Datum) => Live s ∧ p < 4 ∧ Accepts s via (0x3804 + p) 4 d ∧ s.boot.booting = false ∧
        d.val = 0xFF ∧ s.fp p 5 = 1 ∧ ran (exec (.txApllWrite via p d) s) = true ∧ (fun (t : State) => t.fp p 4 = d.val ∧ t.fp p 5 = 1 ∧
        t.fp p 2 = 2) (after (exec (.txApllWrite via p d) s))) (fabw 17 2 {}) (.parallel) (3) (⟨1, 0xFF⟩)) := by
  refine ⟨shape_of (by decide +kernel), ?_⟩
  decide +kernel

theorem test_FabricPortsTrainAndMeter_4 : ShapeWf (((fabw 17 2 {}).setApll 7 fun _ => { state := .locked, returned := true }).put (key 0x3507 0x14) 156250000000000) ∧
    ((fun (s : State) (via : Iface) (p : Nat) (j : Nat) => Live s ∧ p < 4 ∧ Accepts s via (0x3804 + p) 4 ⟨1, j⟩ ∧ s.boot.booting = false ∧
        j < 8 ∧ apllReturned s j = true ∧ s.fp p 5 = 1 ∧
        fabUp s p = true) (((fabw 17 2 {}).setApll 7 fun _ => { state := .locked, returned := true }).put (key 0x3507 0x14) 156250000000000) (.parallel) (3) (7)) := by
  refine ⟨shape_of (by decide +kernel), ?_⟩
  decide +kernel

theorem test_FabricPortsTrainAndMeter_5 : ShapeWf ((fabw 17 1 { trying := true }).put (key 0x3807 6) 5) ∧
    ((fun (s : State) (p : Nat) => Live s ∧ p < 4 ∧ Runs s ∧ s.fp p 2 = 1 ∧
        (s.portAt p).trying = true) ((fabw 17 1 { trying := true }).put (key 0x3807 6) 5) (3)) := by
  refine ⟨shape_of (by decide +kernel), ?_⟩
  decide +kernel

theorem test_FabricPortsTrainAndMeter_6 : ShapeWf (fabw 17 1 { trying := true, lastUp := some (9, 2), classes := [{}, { issued := 60 }, {}, {}] }) ∧
    ((fun (s : State) (p : Nat) (x : FabInit) (c : Nat) => (fun ac => (fun freed => (fun occ => (fun lost => Live s ∧ p < 4 ∧ Runs s ∧
        s.fp p 2 = 1 ∧ (s.portAt p).trying = true ∧ (s.portAt p).classes.length = 4 ∧ (s.portAt p).lastUp = some (x.id, x.boot) ∧
        c < 4) (cut 32 (((s.portAt p).cls c).issued + 2 ^ 32 - ac % 2 ^ 32))) ((x.classes.getD c []).getD 3 0)) ((x.classes.getD c []).getD 2 0)) ((x.classes.getD c []).getD 1 0)) (fabw 17 1 { trying := true, lastUp := some (9, 2), classes := [{}, { issued := 60 }, {}, {}] }) (3) ({ id := 9, boot := 2, root := 17, classes := [[], [256, 10, 4, 6, 0], [], []] }) (1)) := by
  refine ⟨shape_of (by decide +kernel), ?_⟩
  decide +kernel

theorem test_FabricPortsTrainAndMeter_7 : ShapeWf (fabw 17 1 { trying := true }) ∧
    ((fun (s : State) (p : Nat) (x : FabInit) => Live s ∧ p < 4 ∧ Runs s ∧ s.fp p 2 = 1 ∧ (s.portAt p).trying = true ∧
        ran (exec (.fabTrainingAttemptEnd p false x) s) = true ∧
        (fun (t : State) => t = s.setPort p fun y => { y with trying := false }) (after (exec (.fabTrainingAttemptEnd p false x) s))) (fabw 17 1 { trying := true }) (3) ({})) := by
  refine ⟨shape_of (by decide +kernel), ?_⟩
  decide +kernel

theorem test_FabricPortsTrainAndMeter_8 : ShapeWf (fabw 17 1 {}) ∧
    ((fun (s : State) (p : Nat) => Live s ∧ p < 4 ∧ Runs s ∧ s.fp p 2 = 1 ∧ ran (exec (.fabTrainingRetryTimer p) s) = true ∧
        (fun (t : State) => t = s.setPort p fun y => { y with trying := true }) (after (exec (.fabTrainingRetryTimer p) s))) (fabw 17 1 {}) (3)) := by
  refine ⟨shape_of (by decide +kernel), ?_⟩
  decide +kernel

theorem test_FabricPortsTrainAndMeter_9 : ShapeWf (fabw 17 2 {}) ∧
    ((fun (s : State) (p : Nat) => Live s ∧ p < 4 ∧ Runs s ∧ fabUp s p = true) (fabw 17 2 {}) (3)) := by
  refine ⟨shape_of (by decide +kernel), ?_⟩
  decide +kernel

theorem test_FabricPortsTrainAndMeter_10 : ShapeWf (fabw 17 2 {}) ∧
    ((fun (s : State) (p : Nat) => Live s ∧ p < 4 ∧ Runs s ∧ fabUp s p = true) (fabw 17 2 {}) (3)) := by
  refine ⟨shape_of (by decide +kernel), ?_⟩
  decide +kernel

theorem test_FabricPortsTrainAndMeter_11 : ShapeWf (fabw 17 2 {}) ∧
    ((fun (s : State) (via : Iface) (p : Nat) => Live s ∧ p < 4 ∧ Accepts s via (0x3804 + p) 0x11 ⟨1, 1⟩ ∧
        fabUp s p = true) (fabw 17 2 {}) (.parallel) (3)) := by
  refine ⟨shape_of (by decide +kernel), ?_⟩
  decide +kernel

theorem test_FabricPortsTrainAndMeter_12 : ShapeWf (fabw 17 1 {}) ∧
    ((fun (s : State) (via : Iface) (p : Nat) => Live s ∧ p < 4 ∧ Accepts s via (0x3804 + p) 0x11 ⟨1, 1⟩ ∧ fabUp s p = false ∧
        ran (exec (.fabPortRetrain via p) s) = true ∧
        (fun (t : State) => t.fab = s.fab) (after (exec (.fabPortRetrain via p) s))) (fabw 17 1 {}) (.parallel) (3)) := by
  refine ⟨shape_of (by decide +kernel), ?_⟩
  decide +kernel

theorem test_FabricPortsTrainAndMeter_13 : ShapeWf (((fabw 17 2 {}).put (key 0x3807 0x0E) 6).put (key 0x3807 0x10) 6) ∧
    ((fun (s : State) (via : Iface) (p : Nat) => Live s ∧ p < 4 ∧ Accepts s via (0x3804 + p) 0x11 ⟨1, 2⟩ ∧
        ran (exec (.fabPortClearCounters via p) s) = true ∧ (fun (t : State) => t.fp p 0x0C = 0 ∧ t.fp p 0x0D = 0 ∧ t.fp p 0x0E = 0 ∧
        t.fp p 0x10 = 0 ∧ t.fp p 2 = s.fp p 2 ∧
        t.fab = s.fab) (after (exec (.fabPortClearCounters via p) s))) (((fabw 17 2 {}).put (key 0x3807 0x0E) 6).put (key 0x3807 0x10) 6) (.parallel) (3)) := by
  refine ⟨shape_of (by decide +kernel), ?_⟩
  decide +kernel

theorem test_FabricPortsTrainAndMeter_14 : ShapeWf (((fabw 17 1 { txApll := 7 }).put (key 0x3807 4) 7).put (key 0x3807 5) 0) ∧
    ((fun (s : State) (p : Nat) => Live s ∧ p < 4 ∧ Runs s ∧ s.fp p 5 = 0 ∧ (s.portAt p).txApll = s.fp p 4 ∧ s.fp p 4 < 8 ∧
        (s.apllAt (s.fp p 4)).state ≠ .locked ∧ ran (exec (.txReferenceChange p) s) = true ∧ (fun (t : State) => t.fp p 5 = 1 ∧
        t.fp p 2 = (if fabUp s p then 1 else s.fp p 2)) (after (exec (.txReferenceChange p) s))) (((fabw 17 1 { txApll := 7 }).put (key 0x3807 4) 7).put (key 0x3807 5) 0) (3)) := by
  refine ⟨shape_of (by decide +kernel), ?_⟩
  decide +kernel

theorem test_FabricPortsTrainAndMeter_15 : ShapeWf (fabw 17 2 {}) ∧
    ((fun (s : State) (p : Nat) (cls : Nat) (freed : Nat) => Live s ∧ p < 4 ∧ Runs s ∧ fabUp s p = true ∧ cls < 4 ∧
        fabQueued (s.portAt p) = 0 ∧ (s.portAt p).classes.length = 4 ∧ ran (exec (.creditRx p cls freed) s) = true ∧
        (fun (t : State) => t = s.setPort p fun x => x.setClass cls fun y => { y with heardFreed := cut 32 freed }) (after (exec (.creditRx p cls freed) s))) (fabw 17 2 {}) (3) (3) (77)) := by
  refine ⟨shape_of (by decide +kernel), ?_⟩
  decide +kernel

theorem test_FabricPortsTrainAndMeter_16 : ShapeWf (fabw 17 2 { classes := [{}, { issued := 256, queue := [{ f := { type_ := 2, payload := ⟨4, 9⟩ } }] }, {}, {}] }) ∧
    ((fun (s : State) (p : Nat) (freed : Nat) (x : TxFrame) (a0 : FabClass) (a1 : FabClass) (a2 : FabClass) (a3 : FabClass) => Live s ∧ p < 4 ∧
        Runs s ∧ fabUp s p = true ∧ (s.portAt p).classes = [a0, { a1 with queue := [x] }, a2, a3] ∧ a0.queue = [] ∧ a2.queue = [] ∧
        a3.queue = [] ∧ x.hold = none ∧ slotCode s p ≠ 3 ∧
        cut 32 (a1.issued + 2 ^ 32 - cut 32 (cut 32 freed + a1.adj)) + fabCells x.f.payload.len ≤ 256 ∧
        ran (exec (.creditRx p 1 freed) s) = true ∧ (fun (t : State) => t.out = .frame p x.f :: s.out ∧
        ((t.portAt p).cls 1).issued = cut 32 (((s.portAt p).cls 1).issued + fabCells x.f.payload.len) ∧
        ((t.portAt p).cls 1).queue = []) (after (exec (.creditRx p 1 freed) s))) (fabw 17 2 { classes := [{}, { issued := 256, queue := [{ f := { type_ := 2, payload := ⟨4, 9⟩ } }] }, {}, {}] }) (3) (1) ({ f := { type_ := 2, payload := ⟨4, 9⟩ } }) ({}) ({ issued := 256 }) ({}) ({})) := by
  refine ⟨shape_of (by decide +kernel), ?_⟩
  decide +kernel

theorem test_FabricPortsTrainAndMeter_17 : ShapeWf (fabw 17 2 {}) ∧
    ((fun (s : State) (p : Nat) (c : Nat) => Live s ∧ p < 4 ∧ Runs s ∧ fabUp s p = true ∧ c < 4 ∧ ran (exec (.creditReportTimer) s) = true ∧
        (fun (t : State) => .fab p c 0x101 0 ⟨4, cut 32 ((s.portAt p).cls c).freed⟩ ∈ t.out ∧
        t.od = s.od) (after (exec (.creditReportTimer) s))) (fabw 17 2 {}) (3) (2)) := by
  refine ⟨shape_of (by decide +kernel), ?_⟩
  decide +kernel

theorem test_FabricPortsTrainAndMeter_18 : ShapeWf (fabw 17 2 {}) ∧
    ((fun (s : State) (p : Nat) (f : FabFrame) => Live s ∧ p < 4 ∧ Runs s ∧ fabUp s p = true ∧ f.cls < 4 ∧ (s.portAt p).classes.length = 4 ∧
        ran (exec (.fabFrameRx p f true) s) = true ∧ (fun (t : State) => t.fp p 0x0E = 1 ∧ ((t.portAt p).cls 3).accepted = 2 ∧
        ((t.portAt p).cls 3).freed = 2 ∧
        t.out.length = 1) (after (exec (.fabFrameRx p f true) s))) (fabw 17 2 {}) (3) ({ cls := 3, payload := ⟨100, 0⟩ })) := by
  refine ⟨shape_of (by decide +kernel), ?_⟩
  decide +kernel

theorem test_FabricPortsTrainAndMeter_19 : ShapeWf (fabw 17 2 {}) ∧
    ((fun (s : State) (p : Nat) (f : FabFrame) => Live s ∧ p < 4 ∧ Runs s ∧ fabUp s p = true ∧ f.version = 1 ∧ f.length = f.payload.len ∧
        f.length ≤ 2048 ∧ typeOk f = true ∧ f.cls ≠ 0 ∧ f.cls < 4 ∧ (s.portAt p).boundary = false ∧ (s.portAt p).classes.length = 4 ∧
        f.dest ≠ 0 ∧ f.dest ≠ s.fb 0x0A ∧ f.dest ≠ 0xFFF ∧ f.hops = 0 ∧ ran (exec (.fabFrameRx p f false) s) = true ∧
        (fun (t : State) => t.rd (key 0x3802 6) = cut 32 (s.rd (key 0x3802 6) + 1) ∧
        ((t.portAt p).cls f.cls).freed = cut 32 (((s.portAt p).cls f.cls).freed + fabCells f.payload.len) ∧ t.fab.pending = s.fab.pending ∧
        t.fp p 0x0E = s.fp p 0x0E) (after (exec (.fabFrameRx p f false) s))) (fabw 17 2 {}) (3) ({ cls := 2, type_ := 0x30, dest := 5, hops := 0, length := 8, payload := ⟨8, 0⟩ })) := by
  refine ⟨shape_of (by decide +kernel), ?_⟩
  decide +kernel

theorem test_FabricPortsTrainAndMeter_20 : ShapeWf (fabw 17 2 {}) ∧
    ((fun (s : State) (p : Nat) (f : FabFrame) => Live s ∧ p < 4 ∧ Runs s ∧ fabUp s p = true ∧ f.version = 1 ∧ f.length = f.payload.len ∧
        f.length ≤ 2048 ∧ typeOk f = true ∧ f.cls ≠ 0 ∧ f.cls < 4 ∧ (s.portAt p).boundary = false ∧ (s.portAt p).classes.length = 4 ∧
        f.dest ≠ 0 ∧ f.dest ≠ s.fb 0x0A ∧ f.dest ≠ 0xFFF ∧ f.hops ≠ 0 ∧ routeLookup s f.dest = none ∧ s.fab.pending.length < 32 ∧
        ran (exec (.fabFrameRx p f false) s) = true ∧
        (fun (t : State) => t.fab.pending = s.fab.pending ++ [{ f := { f with hops := f.hops - 1 }, hold := some p }] ∧
        ((t.portAt p).cls f.cls).freed = ((s.portAt p).cls f.cls).freed ∧ t.od = s.od ∧
        t.out = s.out) (after (exec (.fabFrameRx p f false) s))) (fabw 17 2 {}) (3) ({ cls := 2, type_ := 0x30, dest := 5, hops := 9, length := 8, payload := ⟨8, 0⟩ })) := by
  refine ⟨shape_of (by decide +kernel), ?_⟩
  decide +kernel

theorem test_FabricPortsTrainAndMeter_21 : ShapeWf ((fabw 17 2 {}).put (key 0x380B 2) 1) ∧
    ((fun (s : State) (via : Iface) (p : Nat) => Live s ∧ p < 4 ∧ Accepts s via (0x3808 + p) 3 ⟨1, 1⟩ ∧
        ran (exec (.slotTableCommit via p) s) = true ∧ (fun (t : State) => (t.portAt p).pendingTable = some 1 ∧
        t.rd (key (0x3808 + p) 5) = 1 ∧
        t.rd (key (0x3808 + p) 1) = s.rd (key (0x3808 + p) 1)) (after (exec (.slotTableCommit via p) s))) ((fabw 17 2 {}).put (key 0x380B 2) 1) (.parallel) (3)) := by
  refine ⟨shape_of (by decide +kernel), ?_⟩
  decide +kernel

theorem test_FabricPortsTrainAndMeter_22 : ShapeWf (fabw 17 2 { pendingTable := some 1 }) ∧
    ((fun (s : State) (p : Nat) (v : Nat) => Live s ∧ p < 4 ∧ Runs s ∧ (s.portAt p).pendingTable = some v ∧
        ran (exec (.slotFrameBoundary) s) = true ∧ (fun (t : State) => (t.portAt p) = { (s.portAt p) with pendingTable := none } ∧
        t.rd (key (0x3808 + p) 1) = v ∧ t.rd (key (0x3808 + p) 5) = 0 ∧
        t.rd (key (0x3808 + p) 4) = cut 16 (s.rd (key (0x3808 + p) 4) + 1) ∧ bit (t.fb 2) 11 = true ∧
        t.out = s.out) (after (exec (.slotFrameBoundary) s))) (fabw 17 2 { pendingTable := some 1 }) (3) (1)) := by
  refine ⟨shape_of (by decide +kernel), ?_⟩
  decide +kernel

theorem test_FabricElectsRoutesAndAddresses_1 : ShapeWf (fabw 17 2 {}) ∧
    ((fun (s : State) (p : Nat) (d : Datum) => Live s ∧ p < 4 ∧ Runs s ∧ fabUp s p = true ∧ d.len = 32 ∧
        (s.portAt p).classes.length = 4) (fabw 17 2 {}) (3) (⟨32, 9 + 5 * 2 ^ 64 + 9 * 2 ^ 96 + 3 * 2 ^ 160 + 8 * 2 ^ 176 + 2 * 2 ^ 192⟩)) := by
  refine ⟨shape_of (by decide +kernel), ?_⟩
  decide +kernel

theorem test_FabricElectsRoutesAndAddresses_2 : ShapeWf (fabw 17 2 {}) ∧
    ((fun (s : State) (p : Nat) => Live s ∧ p < 4 ∧ Runs s ∧ fabUp s p = true ∧ slotCode s p ≠ 3 ∧ fabQueued (s.portAt p) = 0 ∧
        (s.portAt p).classes.length = 4 ∧ fabInFlight ((s.portAt p).cls 1) ≤ 255 ∧ ran (exec (.helloTimer) s) = true ∧
        (fun (t : State) => .frame p { cls := 1, type_ := 1, src := s.fb 0x0A, length := 32, payload := datumOf (helloBytes s p) } ∈ t.out ∧ t.od = s.od) (after (exec (.helloTimer) s))) (fabw 17 2 {}) (3)) := by
  refine ⟨shape_of (by decide +kernel), ?_⟩
  decide +kernel

theorem test_FabricElectsRoutesAndAddresses_3 : ShapeWf (fabw 17 2 {}) ∧
    ((fun (s : State) (p : Nat) => Live s ∧ p < 4 ∧ Runs s ∧ isRoot s = true ∧ ran (exec (.rootSeqTimer) s) = true ∧
        (fun (t : State) => t.fab = { s.fab with rootSeq := cut 16 (s.fab.rootSeq + 1) } ∧
        t.od = s.od) (after (exec (.rootSeqTimer) s))) (fabw 17 2 {}) (3)) := by
  refine ⟨shape_of (by decide +kernel), ?_⟩
  decide +kernel

theorem test_FabricElectsRoutesAndAddresses_4 : ShapeWf ((fabw 9 2 { nbrRoot := 9, heard := true, fresh := true }).put (key 0x3800 0x0E) 3) ∧
    ((fun (s : State) (p : Nat) => Live s ∧ p < 4 ∧ Runs s ∧
        isRoot s = false) ((fabw 9 2 { nbrRoot := 9, heard := true, fresh := true }).put (key 0x3800 0x0E) 3) (3)) := by
  refine ⟨shape_of (by decide +kernel), ?_⟩
  decide +kernel

theorem test_FabricElectsRoutesAndAddresses_5 : ShapeWf (fabw 17 2 {}) ∧
    ((fun (s : State) (p : Nat) (d : Datum) => Live s ∧ p < 4 ∧ Runs s ∧ fabUp s p = true ∧ d.len = 4 ∧ (s.portAt p).boundary = false ∧
        (s.portAt p).classes.length = 4 ∧ ran (exec (.routeUpdateRx p d) s) = true ∧
        (fun (t : State) => (t.portAt p).vector = ((s.portAt p).vector.filter fun x => x.1 != d.val % 4096) ++ [(d.val % 4096, byteAt d.val 2, s.now)] ∧ ((t.portAt p).cls 1).freed = cut 32 (((s.portAt p).cls 1).freed + 1) ∧ t.od = s.od ∧ ((s.portAt p).vector = [] → t.fab.rebuilding = true)) (after (exec (.routeUpdateRx p d) s))) (fabw 17 2 {}) (3) (⟨4, 5 + 2 * 2 ^ 16⟩)) := by
  refine ⟨shape_of (by decide +kernel), ?_⟩
  decide +kernel

theorem test_FabricElectsRoutesAndAddresses_6 : ShapeWf (fabw 17 2 {}) ∧
    ((fun (s : State) (p : Nat) => Live s ∧ p < 4 ∧ Runs s ∧ fabUp s p = true ∧ (s.portAt p).boundary = false ∧ engineUp s 14 = true ∧
        ran (exec (.routeUpdateTimer) s) = true ∧ (fun (t : State) => (t.portAt p).lastUpdate = some s.now ∧ t.od = s.od ∧
        t.fab.table = s.fab.table) (after (exec (.routeUpdateTimer) s))) (fabw 17 2 {}) (3)) := by
  refine ⟨shape_of (by decide +kernel), ?_⟩
  decide +kernel

theorem test_FabricElectsRoutesAndAddresses_7 : ShapeWf (fabw 17 2 { vector := [(5, 2, 0), (6, 1, 0)] }) ∧
    ((fun (s : State) (p : Nat) (addr : Nat) => Live s ∧ p < 4 ∧ Runs s ∧ (s.portAt p).vector.any (fun x => x.1 == addr) = true ∧
        ran (exec (.routeExpiry p addr) s) = true ∧
        (fun (t : State) => (t.portAt p).vector = (s.portAt p).vector.filter (fun y => y.1 != addr) ∧ t.fab.rebuilding = true ∧
        t.fab.table = s.fab.table ∧
        t.od = s.od) (after (exec (.routeExpiry p addr) s))) (fabw 17 2 { vector := [(5, 2, 0), (6, 1, 0)] }) (3) (5)) := by
  refine ⟨shape_of (by decide +kernel), ?_⟩
  decide +kernel

theorem test_FabricElectsRoutesAndAddresses_8 : ShapeWf (fabx 17 fun f => { f with back := [(5, 3, 2)], rebuilding := true, again := true }) ∧
    ((fun (s : State) (p : Nat) => Live s ∧ p < 4 ∧ Runs s ∧ s.fab.rebuilding = true ∧ ran (exec (.routeRebuildDone) s) = true ∧
        (fun (t : State) => t.fab.table = s.fab.back ∧ t.fab.rebuilding = s.fab.again ∧
        t.rd (key 0x3802 1) = cut 32 (s.rd (key 0x3802 1) + 1) ∧ t.rd (key 0x3802 2) = cut 32 (s.rd (key 0x3802 2) + 1) ∧
        t.fb 0x0F = 1 + s.fab.back.length) (after (exec (.routeRebuildDone) s))) (fabx 17 fun f => { f with back := [(5, 3, 2)], rebuilding := true, again := true }) (3)) := by
  refine ⟨shape_of (by decide +kernel), ?_⟩
  decide +kernel

theorem test_FabricElectsRoutesAndAddresses_9 : ShapeWf (fabx 17 fun f => { f with pending := [{}, { hold := some 1 }] }) ∧
    ((fun (s : State) (p : Nat) (x : TxFrame) (r : List TxFrame) => Live s ∧ p < 4 ∧ Runs s ∧ s.fab.pending = x :: r ∧
        ran (exec (.pendingFrameExpiry) s) = true ∧ (fun (t : State) => t.fab.pending = r ∧
        t.rd (key 0x3802 3) = cut 32 (s.rd (key 0x3802 3) + 1) ∧ t.fab.noroute = some s.now ∧ (s.fab.noroute = none →
        bit (t.fb 2) 8 = true ∧
        t.faultIn = s.faultIn ++ [⟨faultWord 0 8 0x22 0x510, s.now⟩])) (after (exec (.pendingFrameExpiry) s))) (fabx 17 fun f => { f with pending := [{}, { hold := some 1 }] }) (3) ({}) ([{ hold := some 1 }])) := by
  refine ⟨shape_of (by decide +kernel), ?_⟩
  decide +kernel

theorem test_FabricElectsRoutesAndAddresses_10 : ShapeWf (fabw 17 2 {}) ∧
    ((fun (s : State) (p : Nat) (d : Datum) => (fun id => (fun want => Live s ∧ p < 4 ∧ Runs s ∧ fabUp s p = true ∧ engineUp s 14 = true ∧
        isRoot s = true ∧ d.len = 10 ∧ (s.portAt p).boundary = false ∧ (s.portAt p).classes.length = 4 ∧ id ≠ identity s ∧ 1 ≤ want ∧
        want ≤ 4094 ∧ (s.fab.assigned.all fun a => a.2.1 != want) = true ∧ ran (exec (.addressRequestRx p d) s) = true ∧
        (fun (t : State) => (id, want, s.now) ∈ t.fab.assigned ∧ (id, p) ∈ t.fab.relay ∧
        t.fb 0x0A = s.fb 0x0A) (after (exec (.addressRequestRx p d) s))) (bytesAt d.val 8 2)) (bytesAt d.val 0 8)) (fabw 17 2 {}) (3) (⟨10, 9 + 5 * 2 ^ 64⟩)) := by
  refine ⟨shape_of (by decide +kernel), ?_⟩
  decide +kernel

theorem test_FabricElectsRoutesAndAddresses_11 : ShapeWf (fabw 9 2 {}) ∧
    ((fun (s : State) (p : Nat) (d : Datum) => Live s ∧ p < 4 ∧ Runs s ∧ fabUp s p = true ∧ engineUp s 14 = true ∧ isRoot s = false ∧
        d.len = 10 ∧ (s.portAt p).boundary = false ∧ (s.portAt p).classes.length = 4 ∧ bytesAt d.val 0 8 = identity s ∧
        bytesAt d.val 8 2 ≠ 0 ∧ bytesAt d.val 8 2 ≠ s.fb 0x0A ∧ ran (exec (.addressGrantRx p d) s) = true ∧
        (fun (t : State) => t.fb 0x0A = bytesAt d.val 8 2 ∧ bit (t.fb 2) 1 = true ∧ t.fab.rebuilding = true ∧
        t.rd (key 0x2043 1) = 1) (after (exec (.addressGrantRx p d) s))) (fabw 9 2 {}) (3) (⟨10, 17 + 5 * 2 ^ 64⟩)) := by
  refine ⟨shape_of (by decide +kernel), ?_⟩
  decide +kernel

theorem test_FabricElectsRoutesAndAddresses_12 : ShapeWf (fabw 9 2 {}) ∧
    ((fun (s : State) (p : Nat) (d : Datum) => Live s ∧ p < 4 ∧ Runs s ∧ fabUp s p = true ∧ engineUp s 14 = true ∧ isRoot s = false ∧
        d.len = 10 ∧ (s.portAt p).boundary = false ∧ (s.portAt p).classes.length = 4 ∧ bytesAt d.val 0 8 = identity s ∧
        bytesAt d.val 8 2 = 0 ∧ ran (exec (.addressGrantRx p d) s) = true ∧ (fun (t : State) => t.fb 0x0A = 0 ∧ bit (t.fb 2) 7 = true ∧
        t.rd (key 0x2043 1) = 3 ∧ t.rd (key 0x2043 5) = 0x08000022 ∧
        ⟨faultWord 0 8 0x21 0x510, s.now⟩ ∈ t.faultIn) (after (exec (.addressGrantRx p d) s))) (fabw 9 2 {}) (3) (⟨10, 17⟩)) := by
  refine ⟨shape_of (by decide +kernel), ?_⟩
  decide +kernel

theorem test_FabricElectsRoutesAndAddresses_13 : ShapeWf ((fabw 17 2 {}).put (key 0x3800 9) 6) ∧
    ((fun (s : State) (p : Nat) => Live s ∧ p < 4 ∧ Runs s ∧ s.fb 0x0A = 0 ∧ engineUp s 14 = true ∧ isRoot s = true ∧ 1 ≤ s.fb 9 ∧
        s.fb 9 ≤ 4094 ∧ (s.fab.assigned.all fun a => a.2.1 != s.fb 9 || a.1 == identity s) = true ∧
        ran (exec (.addressRetryTimer) s) = true ∧ (fun (t : State) => t.fb 0x0A = s.fb 9 ∧
        (identity s, s.fb 9, s.now) ∈ t.fab.assigned) (after (exec (.addressRetryTimer) s))) ((fabw 17 2 {}).put (key 0x3800 9) 6) (3)) := by
  refine ⟨shape_of (by decide +kernel), ?_⟩
  decide +kernel

theorem test_FabricElectsRoutesAndAddresses_14 : ShapeWf (fabx 17 fun f => { f with assigned := [(9, 5, 0), (17, 6, 0)] }) ∧
    ((fun (s : State) (p : Nat) (ident : Nat) => Live s ∧ p < 4 ∧ Runs s ∧ isRoot s = true ∧ ident ≠ identity s ∧
        ran (exec (.addressHoldExpiry ident) s) = true ∧
        (fun (t : State) => t.fab = { s.fab with assigned := s.fab.assigned.filter fun a => a.1 != ident } ∧
        t.od = s.od) (after (exec (.addressHoldExpiry ident) s))) (fabx 17 fun f => { f with assigned := [(9, 5, 0), (17, 6, 0)] }) (3) (9)) := by
  refine ⟨shape_of (by decide +kernel), ?_⟩
  decide +kernel

theorem test_FabricElectsRoutesAndAddresses_15 : ShapeWf (((fabw 17 2 {}).put (key 0x3800 0x0A) 6).put (key 0x2043 1) 1) ∧
    ((fun (s : State) (p : Nat) => Live s ∧ p < 4 ∧ Runs s ∧ s.rd (key 0x2043 1) = 1 ∧ s.fb 0x0A ≠ 0 ∧ ran (exec (.discoveryDone) s) = true ∧
        (fun (t : State) => t.rd (key 0x2043 1) = 2 ∧ t.rd (key 0x2043 3) = s.fb 0x0F ∧ t.rd (key 0x2043 4) = s.fb 0x0F ∧
        t.rd (key 0x2043 5) = 0 ∧ bit (t.fb 2) 2 = true ∧
        t.fab = s.fab) (after (exec (.discoveryDone) s))) (((fabw 17 2 {}).put (key 0x3800 0x0A) 6).put (key 0x2043 1) 1) (3)) := by
  refine ⟨shape_of (by decide +kernel), ?_⟩
  decide +kernel

theorem test_FabricElectsRoutesAndAddresses_16 : ShapeWf (((fabw 9 2 {}).put (key 0x3800 0x0A) 6).put (key 0x3800 0x0E) 3) ∧
    ((fun (s : State) (via : Iface) (p : Nat) => Live s ∧ p < 4 ∧ Accepts s via (0x3800 + 0) 0x14 ⟨1, 1⟩ ∧ isRoot s = false ∧ s.fb 0x0A ≠ 0 ∧
        ran (exec (.rediscover via) s) = true ∧ (fun (t : State) => t.fb 0x0A = 0 ∧ bit (t.fb 2) 1 = true ∧
        t.fab.rebuilding = true) (after (exec (.rediscover via) s))) (((fabw 9 2 {}).put (key 0x3800 0x0A) 6).put (key 0x3800 0x0E) 3) (.parallel) (3)) := by
  refine ⟨shape_of (by decide +kernel), ?_⟩
  decide +kernel

theorem test_FabricElectsRoutesAndAddresses_17 : ShapeWf (((fabw 17 2 {}).put (key 0x3802 3) 6).put (key 0x3807 0x0E) 6) ∧
    ((fun (s : State) (via : Iface) (p : Nat) => Live s ∧ p < 4 ∧ Accepts s via (0x3800 + 0) 0x14 ⟨1, 2⟩ ∧
        ran (exec (.fabClearCounters via) s) = true ∧ (fun (t : State) => t.rd (key 0x3802 1) = 0 ∧ t.rd (key 0x3802 3) = 0 ∧
        t.rd (key 0x3802 5) = 0 ∧ t.rd (key 0x3802 6) = 0 ∧ t.fp p 0x0C = 0 ∧ t.fp p 0x0E = 0 ∧ t.fp p 0x10 = 0 ∧
        t.fab = s.fab) (after (exec (.fabClearCounters via) s))) (((fabw 17 2 {}).put (key 0x3802 3) 6).put (key 0x3807 0x0E) 6) (.parallel) (3)) := by
  refine ⟨shape_of (by decide +kernel), ?_⟩
  decide +kernel

theorem test_FabricTimeAccessAndBlends_1 : ShapeWf (fabw 17 2 { seq := 255 }) ∧
    ((fun (s : State) (p : Nat) (r : Nat) => Live s ∧ p < 4 ∧ r < 4 ∧ Runs s ∧ fabUp s p = true ∧ ran (exec (.linkTimingSlot p) s) = true ∧
        (fun (t : State) => (t.portAt p).seq = 0 ∧ (t.portAt p).req = some (255, 0, 0) ∧
        t.out = [.fab 3 0 0x102 0 ⟨2, 255⟩]) (after (exec (.linkTimingSlot p) s))) (fabw 17 2 { seq := 255 }) (3) (2)) := by
  refine ⟨shape_of (by decide +kernel), ?_⟩
  decide +kernel

theorem test_FabricTimeAccessAndBlends_2 : ShapeWf (fabw 17 2 { nbrFlags := 5 }) ∧
    ((fun (s : State) (p : Nat) (r : Nat) => Live s ∧ p < 4 ∧ r < 4 ∧ Runs s ∧ fabRole s p = 2 ∧ slotCode s p ≠ 3 ∧
        fabQueued (s.portAt p) = 0 ∧ (s.portAt p).classes.length = 4 ∧ fabInFlight ((s.portAt p).cls 0) ≤ 127 ∧
        ran (exec (.timeDownSlot p) s) = true ∧
        (fun (t : State) => .frame p { cls := 0, type_ := 0x11, src := s.fb 0x0A, length := 12, payload := datumOf (le 8 (s.fb 0x0B) ++ le 2 (s.fb 0x0C) ++ le 2 s.fab.rootSeq) } ∈ t.out ∧ t.od = s.od) (after (exec (.timeDownSlot p) s))) (fabw 17 2 { nbrFlags := 5 }) (3) (2)) := by
  refine ⟨shape_of (by decide +kernel), ?_⟩
  decide +kernel

theorem test_FabricTimeAccessAndBlends_3 : ShapeWf (fabw 17 2 {}) ∧
    ((fun (s : State) (p : Nat) (r : Nat) (seq : Nat) (time : Int) (phi : Int) => Live s ∧ p < 4 ∧ r < 4 ∧ Runs s ∧ fabUp s p = true ∧
        ran (exec (.markerRequestRx p seq time phi) s) = true ∧ (fun (t : State) => (t.portAt p).phi = phi ∧
        .fab p 0 0x103 0 ⟨2, cut 8 seq⟩ ∈ t.out ∧ t.out.length = 2 ∧
        t.od = s.od) (after (exec (.markerRequestRx p seq time phi) s))) (fabw 17 2 {}) (3) (2) (7) (100) (-3)) := by
  refine ⟨shape_of (by decide +kernel), ?_⟩
  decide +kernel

theorem test_FabricTimeAccessAndBlends_4 : ShapeWf (fabw 17 2 { req := some (7, 100, 0) }) ∧
    ((fun (s : State) (p : Nat) (r : Nat) (seq : Nat) (time : Int) (t1 : Int) (gen : Nat) => Live s ∧ p < 4 ∧ r < 4 ∧ Runs s ∧
        (s.portAt p).req = some (cut 8 seq, t1, gen) ∧ ran (exec (.markerResponseRx p seq time) s) = true ∧
        (fun (t : State) => t = s.setPort p fun x => { x with t4 := some time }) (after (exec (.markerResponseRx p seq time) s))) (fabw 17 2 { req := some (7, 100, 0) }) (3) (2) (7) (900) (100) (0)) := by
  refine ⟨shape_of (by decide +kernel), ?_⟩
  decide +kernel

theorem test_FabricTimeAccessAndBlends_5 : ShapeWf (fabw 17 2 { req := some (7, 100, 0), t4 := some 900 }) ∧
    ((fun (s : State) (p : Nat) (r : Nat) (d : Datum) (phi : Int) (t1 : Int) (t2 : Int) (t3 : Int) (t4 : Int) => Live s ∧ p < 4 ∧ r < 4 ∧
        Runs s ∧ fabUp s p = true ∧ (s.portAt p).boundary = false ∧ (s.portAt p).classes.length = 4 ∧ d.len = 36 ∧
        (s.portAt p).req = some (byteAt d.val 0, t1, (s.tcAt (fabTc s)).stepGen) ∧ (s.portAt p).t4 = some t4 ∧
        (((s.portAt p).nbrGen = none ∨ (s.portAt p).nbrGen = some (bytesAt d.val 2 2))) ∧ (s.portAt p).delays = [] ∧
        t2 = ofTime12 (bytesAt d.val 4 12) ∧ t3 = ofTime12 (bytesAt d.val 16 12) ∧ ran (exec (.timingFollowUpRx p d phi) s) = true ∧
        (fun (t : State) => (t.portAt p).req = none ∧
        (t.portAt p).offsets = (((t2 - t1) - ((t2 - t1 + (t4 - t3)) / 2) + (s.portAt p).asym) :: (s.portAt p).offsets).take 64 ∧
        t.rd (key (0x3804 + p) 0x0C) = cut 32 (s.rd (key (0x3804 + p) 0x0C) + 1) ∧
        t.rdI 64 (key (0x3804 + p) 0x0A) = toI 64 (ofI 64 ((t2 - t1 + (t4 - t3)) / 2))) (after (exec (.timingFollowUpRx p d phi) s))) (fabw 17 2 { req := some (7, 100, 0), t4 := some 900 }) (3) (2) (⟨36, 7 + 500 * 2 ^ 112 + 600 * 2 ^ 208⟩) (0) (100) (500) (600) (900)) := by
  refine ⟨shape_of (by decide +kernel), ?_⟩
  decide +kernel

theorem test_FabricTimeAccessAndBlends_6 : ShapeWf (fabw 17 2 { req := some (7, 100, 0) }) ∧
    ((fun (s : State) (p : Nat) (r : Nat) => Live s ∧ p < 4 ∧ r < 4 ∧ Runs s ∧ ran (exec (.exchangeFollowUpTimeout p) s) = true ∧
        (fun (t : State) => t = s.setPort p fun x => { x with req := none, t4 := none }) (after (exec (.exchangeFollowUpTimeout p) s))) (fabw 17 2 { req := some (7, 100, 0) }) (3) (2)) := by
  refine ⟨shape_of (by decide +kernel), ?_⟩
  decide +kernel

theorem test_FabricTimeAccessAndBlends_7 : ShapeWf (fabw 17 2 {}) ∧
    ((fun (s : State) (p : Nat) (r : Nat) (d : Datum) => Live s ∧ p < 4 ∧ r < 4 ∧ Runs s ∧ fabUp s p = true ∧ (s.portAt p).boundary = false ∧
        (s.portAt p).classes.length = 4 ∧ d.len = 12) (fabw 17 2 {}) (3) (2) (⟨12, 9 + 3 * 2 ^ 64 + 8 * 2 ^ 80⟩)) := by
  refine ⟨shape_of (by decide +kernel), ?_⟩
  decide +kernel

theorem test_FabricTimeAccessAndBlends_8 : ShapeWf (fabx 17 fun f => { f with store := [{ requester := 9, chan := 1, boot := 3, reqId := 8193 }] }) ∧
    ((fun (s : State) (p : Nat) (r : Nat) (src : Nat) (d : Datum) (y : OdStored) => Live s ∧ p < 4 ∧ r < 4 ∧ Runs s ∧ fabUp s p = true ∧
        (s.portAt p).boundary = false ∧ (s.portAt p).classes.length = 4 ∧ engineUp s 15 = true ∧ d.len ≤ 2048 ∧
        s.fab.store.find? (fun z => z.requester == bytesAt d.val 0 8 && z.chan == bytesAt d.val 8 2 / 8192) = some y ∧
        y.boot = bytesAt d.val 16 2 ∧ y.reqId = bytesAt d.val 8 2 ∧ ran (exec (.odRequestRx p src d) s) = true ∧
        (fun (t : State) => t.fab.store = s.fab.store.map (fun z => if z.requester = y.requester ∧
        z.chan = y.chan then { z with used := s.now } else z) ∧ t.nv = s.nv ∧
        t.tcs = s.tcs) (after (exec (.odRequestRx p src d) s))) (fabx 17 fun f => { f with store := [{ requester := 9, chan := 1, boot := 3, reqId := 8193 }] }) (3) (2) (5) (⟨18, 9 + 8193 * 2 ^ 64 + 3 * 2 ^ 128⟩) ({ requester := 9, chan := 1, boot := 3, reqId := 8193 })) := by
  refine ⟨shape_of (by decide +kernel), ?_⟩
  decide +kernel

theorem test_FabricTimeAccessAndBlends_9 : ShapeWf (fabw 17 2 {}) ∧
    ((fun (s : State) (p : Nat) (r : Nat) (src : Nat) (d : Datum) => Live s ∧ p < 4 ∧ r < 4 ∧ Runs s ∧ fabUp s p = true ∧
        (s.portAt p).boundary = false ∧ (s.portAt p).classes.length = 4 ∧ engineUp s 15 = true ∧ d.len ≤ 2048 ∧
        (s.fab.store.any fun z => z.requester == bytesAt d.val 0 8 && z.chan == bytesAt d.val 8 2 / 8192) = false ∧
        s.fab.store.length < 512 ∧ byteAt d.val 10 = 1 ∧ ran (exec (.odRequestRx p src d) s) = true ∧
        (fun (t : State) => (t.fab.store.any fun z => z.requester == bytesAt d.val 0 8 && z.chan == bytesAt d.val 8 2 / 8192 && z.boot == bytesAt d.val 16 2 && z.reqId == bytesAt d.val 8 2) = true ∧ t.fab.waiting = s.fab.waiting) (after (exec (.odRequestRx p src d) s))) (fabw 17 2 {}) (3) (2) (5) (⟨18, 9 + 8193 * 2 ^ 64 + 1 * 2 ^ 80 + 0x05 * 2 ^ 88 + 0x3600 * 2 ^ 96 + 3 * 2 ^ 128⟩)) := by
  refine ⟨shape_of (by decide +kernel), ?_⟩
  decide +kernel

theorem test_FabricTimeAccessAndBlends_10 : ShapeWf (((fabw 17 2 {}).put (key 0x3822 6) 1).setSlot 2 fun x => { x with count := 4 }) ∧
    ((fun (s : State) (p : Nat) (r : Nat) (src : Nat) (d : Datum) => Live s ∧ p < 4 ∧ r < 4 ∧ Runs s ∧ fabUp s p = true ∧
        (s.portAt p).boundary = false ∧ (s.portAt p).classes.length = 4 ∧ d.len ≤ 2048 ∧ bytesAt d.val 0 2 / 8192 = r ∧ s.rq r 6 = 1 ∧
        bytesAt d.val 0 2 % 8192 = (s.slotAt r).count ∧ bytesAt d.val 8 4 = 0 ∧ byteAt d.val 2 = 0x81 ∧
        ran (exec (.odResponseRx p src d) s) = true ∧ (fun (t : State) => t.rq r 6 = 2 ∧ t.rq r 7 = 0 ∧
        t.rq r 4 = bytesAt d.val 12 (bytesAt d.val 6 2) ∧ (t.slotAt r).len = bytesAt d.val 6 2 ∧
        bit (t.fb 2) (16 + r) = true) (after (exec (.odResponseRx p src d) s))) (((fabw 17 2 {}).put (key 0x3822 6) 1).setSlot 2 fun x => { x with count := 4 }) (3) (2) (5) (⟨14, (2 * 8192 + 4) + 0x81 * 2 ^ 16 + 2 * 2 ^ 48 + 0x1234 * 2 ^ 96⟩)) := by
  refine ⟨shape_of (by decide +kernel), ?_⟩
  decide +kernel

theorem test_FabricTimeAccessAndBlends_11 : ShapeWf (((fabw 17 2 {}).put (key 0x3822 6) 1).setSlot 2 fun x => { x with count := 4 }) ∧
    ((fun (s : State) (p : Nat) (r : Nat) (src : Nat) (d : Datum) => Live s ∧ p < 4 ∧ r < 4 ∧ Runs s ∧ fabUp s p = true ∧
        (s.portAt p).boundary = false ∧ (s.portAt p).classes.length = 4 ∧ d.len ≤ 2048 ∧ bytesAt d.val 0 2 / 8192 = r ∧ s.rq r 6 = 1 ∧
        bytesAt d.val 0 2 % 8192 = (s.slotAt r).count ∧ bytesAt d.val 8 4 ≠ 0 ∧ ran (exec (.odResponseRx p src d) s) = true ∧
        (fun (t : State) => t.rq r 6 = 3 ∧ t.rq r 7 = bytesAt d.val 8 4 ∧
        bit (t.fb 2) (16 + r) = true) (after (exec (.odResponseRx p src d) s))) (((fabw 17 2 {}).put (key 0x3822 6) 1).setSlot 2 fun x => { x with count := 4 }) (3) (2) (5) (⟨12, (2 * 8192 + 4) + 0x82 * 2 ^ 16 + 0x06090030 * 2 ^ 64⟩)) := by
  refine ⟨shape_of (by decide +kernel), ?_⟩
  decide +kernel

theorem test_FabricTimeAccessAndBlends_12 : ShapeWf (fabw 17 2 {}) ∧
    ((fun (s : State) (p : Nat) (r : Nat) (src : Nat) (d : Datum) => Live s ∧ p < 4 ∧ r < 4 ∧ Runs s ∧ fabUp s p = true ∧
        (s.portAt p).boundary = false ∧ (s.portAt p).classes.length = 4 ∧ d.len ≤ 2048 ∧ ran (exec (.stampBatchRx p src d) s) = true ∧
        (fun (t : State) => ((t.portAt p).cls 2).freed = cut 32 (((s.portAt p).cls 2).freed + fabCells d.len) ∧ t.od = s.od ∧
        t.tcs = s.tcs ∧ t.fab.pending = s.fab.pending) (after (exec (.stampBatchRx p src d) s))) (fabw 17 2 {}) (3) (2) (5) (⟨20, 7⟩)) := by
  refine ⟨shape_of (by decide +kernel), ?_⟩
  decide +kernel

theorem test_FabricTimeAccessAndBlends_13 : ShapeWf (((fabw 17 2 {}).put (key 0x3822 1) 5).setSlot 2 fun x => { x with count := 8191 }) ∧
    ((fun (s : State) (via : Iface) (p : Nat) (r : Nat) => Live s ∧ p < 4 ∧ r < 4 ∧ Accepts s via (0x3820 + r) 5 ⟨1, 1⟩ ∧
        s.rq r 1 ≠ s.fb 0x0A ∧ ran (exec (.requestRead via r) s) = true ∧ (fun (t : State) => t.rq r 6 = 1 ∧
        (t.slotAt r).count = ((s.slotAt r).count + 1) % 8192 ∧
        (t.slotAt r).left = s.rq r 9) (after (exec (.requestRead via r) s))) (((fabw 17 2 {}).put (key 0x3822 1) 5).setSlot 2 fun x => { x with count := 8191 }) (.parallel) (3) (2)) := by
  refine ⟨shape_of (by decide +kernel), ?_⟩
  decide +kernel

theorem test_FabricTimeAccessAndBlends_14 : ShapeWf (((fabw 17 2 {}).put (key 0x3822 1) 5).put (key 0x3822 3) 2) ∧
    ((fun (s : State) (via : Iface) (p : Nat) (r : Nat) => Live s ∧ p < 4 ∧ r < 4 ∧ Accepts s via (0x3820 + r) 5 ⟨1, 2⟩ ∧
        s.rq r 1 ≠ s.fb 0x0A ∧ ran (exec (.requestWrite via r) s) = true ∧ (fun (t : State) => t.rq r 6 = 1 ∧
        (t.slotAt r).count = ((s.slotAt r).count + 1) % 8192 ∧ (t.slotAt r).left = s.rq r 9 ∧
        (t.slotAt r).sent.len = 18 + s.rq r 3) (after (exec (.requestWrite via r) s))) (((fabw 17 2 {}).put (key 0x3822 1) 5).put (key 0x3822 3) 2) (.parallel) (3) (2)) := by
  refine ⟨shape_of (by decide +kernel), ?_⟩
  decide +kernel

theorem test_FabricTimeAccessAndBlends_15 : ShapeWf ((fabw 17 2 {}).put (key 0x3822 6) 1) ∧
    ((fun (s : State) (via : Iface) (p : Nat) (r : Nat) => Live s ∧ p < 4 ∧ r < 4 ∧ Accepts s via (0x3820 + r) 5 ⟨1, 3⟩ ∧
        ran (exec (.requestCancel via r) s) = true ∧ (fun (t : State) => t.rq r 6 = 0 ∧ t.rq r 7 = 0 ∧
        t.fab = s.fab) (after (exec (.requestCancel via r) s))) ((fabw 17 2 {}).put (key 0x3822 6) 1) (.parallel) (3) (2)) := by
  refine ⟨shape_of (by decide +kernel), ?_⟩
  decide +kernel

theorem test_FabricTimeAccessAndBlends_16 : ShapeWf ((fabw 17 2 {}).put (key 0x3822 6) 1) ∧
    ((fun (s : State) (p : Nat) (r : Nat) => Live s ∧ p < 4 ∧ r < 4 ∧ Runs s ∧ s.rq r 6 = 1 ∧ (s.slotAt r).left = 0 ∧
        ran (exec (.requestTimeout r) s) = true ∧ (fun (t : State) => t.rq r 6 = 3 ∧ t.rq r 7 = 0x05040000 ∧ bit (t.fb 2) (16 + r) = true ∧
        t.fab = s.fab) (after (exec (.requestTimeout r) s))) ((fabw 17 2 {}).put (key 0x3822 6) 1) (3) (2)) := by
  refine ⟨shape_of (by decide +kernel), ?_⟩
  decide +kernel

theorem test_FabricTimeAccessAndBlends_17 : ShapeWf ((((fabw 17 2 {}).put (key 0x3822 1) 5).put (key 0x3822 6) 1).setSlot 2 fun x => { x with left := 3 }) ∧
    ((fun (s : State) (p : Nat) (r : Nat) => Live s ∧ p < 4 ∧ r < 4 ∧ Runs s ∧ s.rq r 6 = 1 ∧ (s.slotAt r).left ≠ 0 ∧ s.rq r 1 ≠ s.fb 0x0A ∧
        ran (exec (.requestTimeout r) s) = true ∧ (fun (t : State) => t.rq r 6 = 1 ∧
        (t.slotAt r) = { (s.slotAt r) with left := (s.slotAt r).left - 1 }) (after (exec (.requestTimeout r) s))) ((((fabw 17 2 {}).put (key 0x3822 1) 5).put (key 0x3822 6) 1).setSlot 2 fun x => { x with left := 3 }) (3) (2)) := by
  refine ⟨shape_of (by decide +kernel), ?_⟩
  decide +kernel

theorem test_FabricTimeAccessAndBlends_18 : ShapeWf (((fabw 17 2 { boundary := true, nbrRoot := 9, offsets := List.replicate 64 (-640) }).put (key 0x3801 7) 1).put (key 0x3801 9) 9) ∧
    ((fun (s : State) (p : Nat) (r : Nat) => Live s ∧ p < 4 ∧ r < 4 ∧ Runs s ∧ fabUp s p = true ∧ (s.portAt p).boundary = true ∧
        (s.portAt p).nbrRoot = s.bl 9 ∧ 64 ≤ (s.portAt p).offsets.length ∧ ((∀ q, q < p → (s.portAt q).boundary = false)) ∧ s.bl 7 = 1 ∧
        s.bl 1 ≠ 0 ∧ bit (s.portAt p).nbrFlags 2 = true ∧ ran (exec (.blendMeasureDone) s) = true ∧ (fun (t : State) => t.bl 7 = 2 ∧
        t.bl 0x0A = ofI 64 (-(roundDiv (sumI (s.portAt p).offsets) 64))) (after (exec (.blendMeasureDone) s))) (((fabw 17 2 { boundary := true, nbrRoot := 9, offsets := List.replicate 64 (-640) }).put (key 0x3801 7) 1).put (key 0x3801 9) 9) (3) (2)) := by
  refine ⟨shape_of (by decide +kernel), ?_⟩
  decide +kernel

theorem test_FabricTimeAccessAndBlends_19 : ShapeWf (fabw 17 2 {}) ∧
    ((fun (s : State) (p : Nat) (r : Nat) (d : Datum) => Live s ∧ p < 4 ∧ r < 4 ∧ Runs s ∧ fabUp s p = true ∧ (s.portAt p).classes.length = 4 ∧
        d.len = 16 ∧ isRoot s = true ∧ s.fab.accepted = [] ∧ s.bl 1 ≠ 0 ∧ treePorts s = [] ∧ ((∀ q, q < 4 →
        (s.portAt q).boundary = false)) ∧ ran (exec (.blendProposalRx p d) s) = true ∧ (fun (t : State) => t.fab.accepted.length = 1 ∧
        (t.fab.accepted.any fun a => a.1 == bytesAt d.val 0 8) = true ∧
        ((t.portAt p).cls 1).freed = cut 32 (((s.portAt p).cls 1).freed + 1) ∧
        t.tcs = s.tcs) (after (exec (.blendProposalRx p d) s))) (fabw 17 2 {}) (3) (2) (⟨16, 9 + 640 * 2 ^ 64⟩)) := by
  refine ⟨shape_of (by decide +kernel), ?_⟩
  decide +kernel

theorem test_FabricTimeAccessAndBlends_20 : ShapeWf (fabw 17 2 {}) ∧
    ((fun (s : State) (p : Nat) (r : Nat) (dest : Nat) (d : Datum) => Live s ∧ p < 4 ∧ r < 4 ∧ Runs s ∧ fabUp s p = true ∧
        (s.portAt p).classes.length = 4 ∧ d.len = 41 ∧ ((dest = 0 ∨ dest = 0xFFF ∨ dest = s.fb 0x0A)) ∧ bytesAt d.val 8 8 = s.fb 0x0B ∧
        s.bl 7 < 3 ∧ fabNow s ≤ ofTime12 (bytesAt d.val 24 12) ∧ ran (exec (.blendAnnounceRx p dest d) s) = true ∧
        (fun (t : State) => t.bl 7 = 3 ∧ t.bl 8 = 2 ∧ t.bl 9 = bytesAt d.val 0 8 ∧ t.bl 0x0A = bytesAt d.val 16 8 ∧
        t.bl 0x0B = time80 (ofTime12 (bytesAt d.val 24 12)).toNat ∧
        t.tcs = s.tcs) (after (exec (.blendAnnounceRx p dest d) s))) (fabw 17 2 {}) (3) (2) (0) (⟨41, 9 + 17 * 2 ^ 64 + 640 * 2 ^ 128 + 5 * 2 ^ 192 + 100 * 2 ^ 288⟩)) := by
  refine ⟨shape_of (by decide +kernel), ?_⟩
  decide +kernel

theorem test_FabricTimeAccessAndBlends_21 : ShapeWf ((fabx 17 fun f => { f with blend := some { winner := 9, delta := 640, rate := 100 } }).put (key 0x3801 7) 3) ∧
    ((fun (s : State) (p : Nat) (r : Nat) (b : Blend) => Live s ∧ p < 4 ∧ r < 4 ∧ Runs s ∧ s.fab.blend = some b ∧ s.bl 7 = 3 ∧
        b.instant ≤ fabNow s ∧ b.step = false ∧ tcTied s (fabTc s) = false ∧ ran (exec (.blendInstant) s) = true ∧
        (fun (t : State) => t.bl 7 = 4 ∧ bit (t.fb 2) 4 = true ∧ (t.tcAt (fabTc s)).blendLeft = (s.tcAt (fabTc s)).blendLeft + b.delta ∧
        (t.tcAt (fabTc s)).blendRate = b.rate ∧ (t.tcAt (fabTc s)).val = (s.tcAt (fabTc s)).val ∧
        ⟨faultWord 0 8 0x23 0x510, s.now⟩ ∈ t.faultIn) (after (exec (.blendInstant) s))) ((fabx 17 fun f => { f with blend := some { winner := 9, delta := 640, rate := 100 } }).put (key 0x3801 7) 3) (3) (2) ({ winner := 9, delta := 640, rate := 100 })) := by
  refine ⟨shape_of (by decide +kernel), ?_⟩
  decide +kernel

theorem test_FabricTimeAccessAndBlends_22 : ShapeWf ((fabx 17 fun f => { f with blend := some { winner := 9, delta := 640, step := true } }).put (key 0x3801 7) 3) ∧
    ((fun (s : State) (p : Nat) (r : Nat) (b : Blend) => Live s ∧ p < 4 ∧ r < 4 ∧ Runs s ∧ s.fab.blend = some b ∧ s.bl 7 = 3 ∧
        b.instant ≤ fabNow s ∧ b.step = true ∧ tcTied s (fabTc s) = false ∧ ran (exec (.blendInstant) s) = true ∧
        (fun (t : State) => t.bl 7 = 5 ∧ bit (t.fb 2) 4 = true ∧ t.bl 0x0D = cut 32 (s.bl 0x0D + 1) ∧
        (t.tcAt (fabTc s)).blendTotal = (s.tcAt (fabTc s)).blendTotal + b.delta ∧ (t.tcAt (fabTc s)).unset = false ∧ (b.delta ≠ 0 →
        (t.tcAt (fabTc s)).val = ((((s.tcAt (fabTc s)).val : Int) + b.delta * 2 ^ 32) % (tcModulus : Nat)).toNat) ∧
        ⟨faultWord 0 8 0x24 0x510, s.now⟩ ∈ t.faultIn) (after (exec (.blendInstant) s))) ((fabx 17 fun f => { f with blend := some { winner := 9, delta := 640, step := true } }).put (key 0x3801 7) 3) (3) (2) ({ winner := 9, delta := 640, step := true })) := by
  refine ⟨shape_of (by decide +kernel), ?_⟩
  decide +kernel

theorem test_FabricTimeAccessAndBlends_23 : ShapeWf ((fabw 17 2 {}).put (key 0x3801 7) 4) ∧
    ((fun (s : State) (p : Nat) (r : Nat) => Live s ∧ p < 4 ∧ r < 4 ∧ Runs s ∧ s.bl 7 = 4 ∧ tcTied s (fabTc s) = false ∧
        (s.tcAt (fabTc s)).blendLeft = 0 ∧ ran (exec (.blendPourDone) s) = true ∧ (fun (t : State) => t.bl 7 = 5 ∧ t.tcs = s.tcs ∧
        t.fab = s.fab) (after (exec (.blendPourDone) s))) ((fabw 17 2 {}).put (key 0x3801 7) 4) (3) (2)) := by
  refine ⟨shape_of (by decide +kernel), ?_⟩
  decide +kernel

theorem test_FabricTimeAccessAndBlends_24 : ShapeWf ((fabx 17 fun f => { f with blend := some { winner := 9, delta := 640, rate := 100 } }).put (key 0x3801 7) 5) ∧
    ((fun (s : State) (p : Nat) (r : Nat) (b : Blend) => Live s ∧ p < 4 ∧ r < 4 ∧ Runs s ∧ s.fab.blend = some b ∧
        s.bl 7 = 5) ((fabx 17 fun f => { f with blend := some { winner := 9, delta := 640, rate := 100 } }).put (key 0x3801 7) 5) (3) (2) ({ winner := 9, delta := 640, rate := 100 })) := by
  refine ⟨shape_of (by decide +kernel), ?_⟩
  decide +kernel

theorem test_FabricTimeAccessAndBlends_25 : ShapeWf ((fabx 17 fun f => { f with alignWait := [7] }).setApll 7 fun _ => { state := .locked, returned := true }) ∧
    ((fun (s : State) (p : Nat) (r : Nat) => Live s ∧ p < 4 ∧ r < 4 ∧ Runs s ∧ s.fab.alignWait ≠ [] ∧
        (s.fab.alignWait.all (apllReturned s)) = true ∧ ran (exec (.blendAlign) s) = true ∧ (fun (t : State) => t.fab.alignWait = [] ∧
        (s.bl 6 = 0 → t.ap = s.ap) ∧
        t.od = s.od) (after (exec (.blendAlign) s))) ((fabx 17 fun f => { f with alignWait := [7] }).setApll 7 fun _ => { state := .locked, returned := true }) (3) (2)) := by
  refine ⟨shape_of (by decide +kernel), ?_⟩
  decide +kernel

theorem test_FabricTimeAccessAndBlends_26 : ShapeWf (fabx 17 fun f => { f with store := [{ requester := 9, chan := 1 }] }) ∧
    ((fun (s : State) (p : Nat) (r : Nat) (e : OdStored) => Live s ∧ p < 4 ∧ r < 4 ∧ Runs s ∧ s.fab.store = [e] ∧ s.fab.waiting = [] ∧
        ran (exec (.odStoreEntryExpiry) s) = true ∧ (fun (t : State) => t.fab.store = [] ∧
        t.od = s.od) (after (exec (.odStoreEntryExpiry) s))) (fabx 17 fun f => { f with store := [{ requester := 9, chan := 1 }] }) (3) (2) ({ requester := 9, chan := 1 })) := by
  refine ⟨shape_of (by decide +kernel), ?_⟩
  decide +kernel

theorem test_CalibrationStepsRotate_1 : ShapeWf (caln { slice := 2 }) ∧
    ((fun (s : State) (d : Nat) (rate : Nat) => Live s ∧ d < 6 ∧ (s.dieCal d).slices.length = 17 ∧ s.cal.running = true ∧ s.cal.sweep = true ∧
        (s.dieCal d).phase = 0 ∧ bit (s.rd (key 0x2500 5)) d = true ∧ (s.dieCal d).stopped = false ∧
        (s.sliceCal d (s.dieCal d).slice).failed = false ∧ sliceNeeds s d (s.dieCal d).slice = true ∧ (s.dieCal d).parked = none ∧
        ran (exec (.calStepStart d rate) s) = true ∧ (fun (t : State) => (t.dieCal d).phase = 1 ∧ (t.dieCal d).rate = rate ∧
        t.od = s.od) (after (exec (.calStepStart d rate) s))) (caln { slice := 2 }) (5) (7)) := by
  refine ⟨shape_of (by decide +kernel), ?_⟩
  decide +kernel

theorem test_CalibrationStepsRotate_2 : ShapeWf (calw { slice := 2 }) ∧
    ((fun (s : State) (d : Nat) (rate : Nat) => Live s ∧ d < 6 ∧ (s.dieCal d).slices.length = 17 ∧ s.cal.running = true ∧ s.cal.sweep = true ∧
        (s.dieCal d).phase = 0 ∧ bit (s.rd (key 0x2500 5)) d = true ∧ (s.dieCal d).stopped = false ∧
        (s.sliceCal d (s.dieCal d).slice).failed = false ∧ sliceNeeds s d (s.dieCal d).slice = false ∧
        ownOnly (s.rd (key 0x2500 8)) (s.dieCal d).slice = false ∧ ran (exec (.calStepStart d rate) s) = true ∧
        (fun (t : State) => (t.dieCal d).phase = 2 ∧ (t.dieCal d).aux = true ∧
        t.od = s.od) (after (exec (.calStepStart d rate) s))) (calw { slice := 2 }) (5) (7)) := by
  refine ⟨shape_of (by decide +kernel), ?_⟩
  decide +kernel

theorem test_CalibrationStepsRotate_3 : ShapeWf (caln { slice := 2, phase := 1, rate := 125000000 }) ∧
    ((fun (s : State) (d : Nat) (mismatch : Option Int) => Live s ∧ d < 6 ∧ (s.dieCal d).slices.length = 17 ∧ (s.dieCal d).phase = 1 ∧
        (s.dieCal d).slice < 16 ∧ ran (exec (.calHandoverCut d mismatch) s) = true ∧ (fun (t : State) => (t.chanAt 82).onSpare = true ∧
        (t.dieCal d).phase = 2 ∧ (t.dieCal d).aux = false ∧
        t.od = s.od) (after (exec (.calHandoverCut d mismatch) s))) (caln { slice := 2, phase := 1, rate := 125000000 }) (5) (none)) := by
  refine ⟨shape_of (by decide +kernel), ?_⟩
  decide +kernel

theorem test_CalibrationStepsRotate_4 : ShapeWf (calw { slice := 2, phase := 2, aux := true, count := 12 }) ∧
    ((fun (s : State) (d : Nat) (hist : List Nat) => Live s ∧ d < 6 ∧ (s.dieCal d).slices.length = 17 ∧
        (((s.dieCal d).phase = 2 ∨ (s.dieCal d).phase = 3)) ∧ (s.dieCal d).processing = false ∧ passFlat hist = true ∧
        sumN hist = 2 ^ (s.dieCal d).count ∧ ran (exec (.calPassComplete d hist) s) = true ∧
        (fun (t : State) => (t.dieCal d).processing = true ∧ (t.dieCal d).phase = 2 ∧
        t.od = s.od) (after (exec (.calPassComplete d hist) s))) (calw { slice := 2, phase := 2, aux := true, count := 12 }) (5) (flatPass)) := by
  refine ⟨shape_of (by decide +kernel), ?_⟩
  decide +kernel

theorem test_CalibrationStepsRotate_5 : ShapeWf (caln { slice := 2, phase := 2, rate := 125000000, count := 12 }) ∧
    ((fun (s : State) (d : Nat) (hist : List Nat) => Live s ∧ d < 6 ∧ (s.dieCal d).slices.length = 17 ∧
        (((s.dieCal d).phase = 2 ∨ (s.dieCal d).phase = 3)) ∧ (s.dieCal d).processing = false ∧ passFlat hist = false ∧
        sumN hist = 2 ^ (s.dieCal d).count ∧ (s.dieCal d).aux = false ∧ ownOnly (s.dieCal d).policy (s.dieCal d).slice = false ∧
        ran (exec (.calPassComplete d hist) s) = true ∧ (fun (t : State) => (t.dieCal d).aux = true ∧ (t.dieCal d).auxRest = true ∧
        t.od = s.od) (after (exec (.calPassComplete d hist) s))) (caln { slice := 2, phase := 2, rate := 125000000, count := 12 }) (5) (lumpPass)) := by
  refine ⟨shape_of (by decide +kernel), ?_⟩
  decide +kernel

theorem test_CalibrationStepsRotate_6 : ShapeWf (calw { slice := 2, phase := 2, aux := true, count := 12 }) ∧
    ((fun (s : State) (d : Nat) (hist : List Nat) => Live s ∧ d < 6 ∧ (s.dieCal d).slices.length = 17 ∧
        (((s.dieCal d).phase = 2 ∨ (s.dieCal d).phase = 3)) ∧ (s.dieCal d).processing = false ∧ passFlat hist = false ∧
        sumN hist = 2 ^ (s.dieCal d).count ∧ (s.dieCal d).aux = true ∧ (s.dieCal d).slice < 17 ∧
        ran (exec (.calPassComplete d hist) s) = true ∧ (fun (t : State) => (t.sliceCal d (s.dieCal d).slice).failed = true ∧
        (t.dieCal d).phase = 0 ∧ bit (t.rd (key 0x2500 2)) 5 = true ∧ ⟨faultWord (d + 2) 1 0x26 (s.dieCal d).slice, s.now⟩ ∈ t.faultIn ∧
        sliceRec t d (s.dieCal d).slice = sliceRec s d (s.dieCal d).slice) (after (exec (.calPassComplete d hist) s))) (calw { slice := 2, phase := 2, aux := true, count := 12 }) (5) (lumpPass)) := by
  refine ⟨shape_of (by decide +kernel), ?_⟩
  decide +kernel

theorem test_CalibrationStepsRotate_7 : ShapeWf (caln { slice := 2, phase := 3, rate := 125000000 }) ∧
    ((fun (s : State) (d : Nat) => Live s ∧ d < 6 ∧ (s.dieCal d).slices.length = 17 ∧ (((s.dieCal d).phase = 2 ∨ (s.dieCal d).phase = 3)) ∧
        (s.dieCal d).processing = false ∧ (s.dieCal d).aux = false ∧ ownOnly (s.dieCal d).policy (s.dieCal d).slice = false ∧
        ran (exec (.calPassTimeout d) s) = true ∧ (fun (t : State) => (t.dieCal d).aux = true ∧ (t.dieCal d).phase = 3 ∧
        t.od = s.od) (after (exec (.calPassTimeout d) s))) (caln { slice := 2, phase := 3, rate := 125000000 }) (5)) := by
  refine ⟨shape_of (by decide +kernel), ?_⟩
  decide +kernel

theorem test_CalibrationStepsRotate_8 : ShapeWf (caln { slice := 2, phase := 3, rate := 125000000, policy := 1 }) ∧
    ((fun (s : State) (d : Nat) => Live s ∧ d < 6 ∧ (s.dieCal d).slices.length = 17 ∧ (((s.dieCal d).phase = 2 ∨ (s.dieCal d).phase = 3)) ∧
        (s.dieCal d).processing = false ∧ (s.dieCal d).aux = false ∧ ownOnly (s.dieCal d).policy (s.dieCal d).slice = true ∧
        (s.dieCal d).abandoned = false ∧ ran (exec (.calPassTimeout d) s) = true ∧ (fun (t : State) => (t.dieCal d).phase = 0 ∧
        bit (t.rd (key 0x2500 2)) 4 = true ∧ ⟨faultWord (d + 2) 1 0x27 (s.dieCal d).slice, s.now⟩ ∈ t.faultIn ∧
        (t.dieCal d).slice = (s.dieCal d).slice ∧ (t.dieCal d).abandoned = true ∧
        sliceRec t d (s.dieCal d).slice = sliceRec s d (s.dieCal d).slice) (after (exec (.calPassTimeout d) s))) (caln { slice := 2, phase := 3, rate := 125000000, policy := 1 }) (5)) := by
  refine ⟨shape_of (by decide +kernel), ?_⟩
  decide +kernel

theorem test_CalibrationStepsRotate_9 : ShapeWf (calw { slice := 2, phase := 2, aux := true, processing := true }) ∧
    ((fun (s : State) (d : Nat) (trims : Nat) => Live s ∧ d < 6 ∧ (s.dieCal d).slices.length = 17 ∧ (s.dieCal d).processing = true ∧
        (s.dieCal d).phase = 2 ∧ (s.sliceCal d (s.dieCal d).slice).rails < 9 ∧ ran (exec (.calProcessingDone d trims) s) = true ∧
        (fun (t : State) => (t.dieCal d).phase = 3 ∧ (t.dieCal d).processing = false ∧ trimOf (t.dieCal d).trims 255 ≤ 3 ∧
        t.od = s.od) (after (exec (.calProcessingDone d trims) s))) (calw { slice := 2, phase := 2, aux := true, processing := true }) (5) (2 ^ 1024 / 15 * 8)) := by
  refine ⟨shape_of (by decide +kernel), ?_⟩
  decide +kernel

theorem test_CalibrationStepsRotate_10 : ShapeWf (calw { slice := 2, phase := 3, aux := true, processing := true, hist := flatPass }) ∧
    ((fun (s : State) (d : Nat) (trims : Nat) => Live s ∧ d < 6 ∧ (s.dieCal d).slices.length = 17 ∧ (s.dieCal d).processing = true ∧
        (s.dieCal d).phase = 3 ∧ (inlTable (s.dieCal d).hist).all (fun v => decide (absI v ≤ 4194)) = true ∧
        ran (exec (.calProcessingDone d trims) s) = true ∧ (fun (t : State) => (t.dieCal d).phase = 4 ∧ (t.dieCal d).inl.getD 0 1 = 0 ∧
        t.od = s.od) (after (exec (.calProcessingDone d trims) s))) (calw { slice := 2, phase := 3, aux := true, processing := true, hist := flatPass }) (5) (0)) := by
  refine ⟨shape_of (by decide +kernel), ?_⟩
  decide +kernel

theorem test_CalibrationStepsRotate_11 : ShapeWf ((caln { slice := 2, phase := 4, inl := List.replicate 32 0 }).setChan 82 fun c => { c with onSpare := true }) ∧
    ((fun (s : State) (d : Nat) (offsets : Nat) (table : Nat) (residual : Nat) => Live s ∧ d < 6 ∧ (s.dieCal d).slices.length = 17 ∧
        (s.dieCal d).phase = 4 ∧ (s.dieCal d).slice < 16 ∧ sliceNeeds s d (s.dieCal d).slice = true ∧
        (s.chanAt (16 * d + (s.dieCal d).slice)).onSpare = true ∧ ran (exec (.calOffsetsDone d offsets table residual) s) = true ∧
        (fun (t : State) => (t.dieCal d).phase = 5 ∧
        (t.dieCal d).offsets = 5) (after (exec (.calOffsetsDone d offsets table residual) s))) ((caln { slice := 2, phase := 4, inl := List.replicate 32 0 }).setChan 82 fun c => { c with onSpare := true }) (5) (5) (6) (7)) := by
  refine ⟨shape_of (by decide +kernel), ?_⟩
  decide +kernel

theorem test_CalibrationStepsRotate_12 : ShapeWf ((calw { slice := 2, phase := 4, hist := flatPass, inl := List.replicate 32 0, aux := true })) ∧
    ((fun (s : State) (d : Nat) => Live s ∧ d < 6 ∧ (s.dieCal d).slices.length = 17 ∧ (s.dieCal d).phase = 4 ∧ (s.dieCal d).slice < 17 ∧
        sliceNeeds s d (s.dieCal d).slice = false) ((calw { slice := 2, phase := 4, hist := flatPass, inl := List.replicate 32 0, aux := true })) (5)) := by
  refine ⟨shape_of (by decide +kernel), ?_⟩
  decide +kernel

theorem test_CalibrationStepsRotate_13 : ShapeWf ((caln { slice := 2, phase := 5, hist := flatPass, inl := List.replicate 32 0 }).setChan 82 fun c => { c with onSpare := true }) ∧
    ((fun (s : State) (d : Nat) => Live s ∧ d < 6 ∧ (s.dieCal d).slices.length = 17 ∧ (s.dieCal d).phase = 5 ∧
        (s.dieCal d).slice < 16) ((caln { slice := 2, phase := 5, hist := flatPass, inl := List.replicate 32 0 }).setChan 82 fun c => { c with onSpare := true }) (5)) := by
  refine ⟨shape_of (by decide +kernel), ?_⟩
  decide +kernel

theorem test_CalibrationStepsRotate_14 : ShapeWf ((caln { slice := 2, phase := 3, rate := 125000000 }).setLink 5 fun l => { l with state := .down }) ∧
    ((fun (s : State) (d : Nat) => Live s ∧ d < 6 ∧ (s.dieCal d).slices.length = 17 ∧ s.linkUp d = false ∧ (s.dieCal d).phase ≠ 0 ∧
        (s.dieCal d).abandoned = false ∧ ran (exec (.calLinkAbandonTimer d) s) = true ∧ (fun (t : State) => (t.dieCal d).phase = 0 ∧
        bit (t.rd (key 0x2500 2)) 4 = true ∧ ⟨faultWord (d + 2) 1 0x27 (s.dieCal d).slice, s.now⟩ ∈ t.faultIn ∧
        (t.dieCal d).slice = (s.dieCal d).slice ∧ (t.dieCal d).abandoned = true ∧
        sliceRec t d (s.dieCal d).slice = sliceRec s d (s.dieCal d).slice) (after (exec (.calLinkAbandonTimer d) s))) ((caln { slice := 2, phase := 3, rate := 125000000 }).setLink 5 fun l => { l with state := .down }) (5)) := by
  refine ⟨shape_of (by decide +kernel), ?_⟩
  decide +kernel

theorem test_CalibrationStepsRotate_15 : ShapeWf ((caln { slice := 2, phase := 3, abandoned := true }).setLink 5 fun l => { l with state := .down }) ∧
    ((fun (s : State) (d : Nat) => Live s ∧ d < 6 ∧ (s.dieCal d).slices.length = 17 ∧ s.linkUp d = false ∧ (s.dieCal d).phase ≠ 0 ∧
        (s.dieCal d).abandoned = true ∧ ran (exec (.calLinkAbandonTimer d) s) = true ∧ (fun (t : State) => (t.dieCal d).phase = 0 ∧
        bit (t.rd (key 0x2500 2)) 4 = true ∧ (t.dieCal d).abandoned = false ∧
        (t.dieCal d).slice = nextSlice (s.dieCal d) (s.dieCal d).slice) (after (exec (.calLinkAbandonTimer d) s))) ((caln { slice := 2, phase := 3, abandoned := true }).setLink 5 fun l => { l with state := .down }) (5)) := by
  refine ⟨shape_of (by decide +kernel), ?_⟩
  decide +kernel

theorem test_CalibrationRecordsAndTracking_1 : ShapeWf (calw { stopped := true, sweepSteps := 4 }) ∧
    ((fun (s : State) (via : Iface) => Live s ∧ Accepts s via (0x2500 + 0) 0x0C ⟨1, 1⟩ ∧ ((s.cal.sweep = false ∨ s.cal.now_ = false)) ∧
        ran (exec (.sweepNow via) s) = true ∧ (fun (t : State) => t.cal.sweep = true ∧ t.cal.now_ = true ∧ t.cal.position = 0 ∧
        t.rd (key 0x2042 1) = 1 ∧ t.rd (key 0x2042 6) = 0xFF ∧ (∀ d, d < 6 → (t.dieCal d).stopped = false ∧
        (t.dieCal d).sweepSteps = 0)) (after (exec (.sweepNow via) s))) (calw { stopped := true, sweepSteps := 4 }) (.parallel)) := by
  refine ⟨shape_of (by decide +kernel), ?_⟩
  decide +kernel

theorem test_CalibrationRecordsAndTracking_2 : ShapeWf ((calw { sweepSteps := 4 }).setCal fun c => { c with now_ := true }) ∧
    ((fun (s : State) (via : Iface) => Live s ∧ Accepts s via (0x2500 + 0) 0x0C ⟨1, 1⟩ ∧ s.cal.sweep = true ∧ s.cal.now_ = true ∧
        ran (exec (.sweepNow via) s) = true ∧ (fun (t : State) => t.cal = s.cal ∧
        t.od = s.od) (after (exec (.sweepNow via) s))) ((calw { sweepSteps := 4 }).setCal fun c => { c with now_ := true }) (.parallel)) := by
  refine ⟨shape_of (by decide +kernel), ?_⟩
  decide +kernel

theorem test_CalibrationRecordsAndTracking_3 : ShapeWf (calw {}) ∧
    ((fun (s : State) (via : Iface) => Live s ∧ Accepts s via (0x2500 + 0) 0x0C ⟨1, 2⟩) (calw {}) (.parallel)) := by
  refine ⟨shape_of (by decide +kernel), ?_⟩
  decide +kernel

theorem test_CalibrationRecordsAndTracking_4 : ShapeWf ((calw {}).put (key 0x2500 5) 0) ∧
    ((fun (s : State) (via : Iface) => Live s ∧ Accepts s via (0x2500 + 0) 0x0C ⟨1, 3⟩ ∧ calBlank s.cal.area = true ∧
        ran (exec (.restoreShadow via) s) = true ∧ (fun (t : State) => t.rd (key 0x2500 0x0E) = 0 ∧ t.cal = s.cal ∧
        t.chan = s.chan) (after (exec (.restoreShadow via) s))) ((calw {}).put (key 0x2500 5) 0) (.parallel)) := by
  refine ⟨shape_of (by decide +kernel), ?_⟩
  decide +kernel

theorem test_CalibrationRecordsAndTracking_5 : ShapeWf (calw {}) ∧
    ((fun (s : State) (via : Iface) (d : Datum) => Live s ∧ Accepts s via (0x2500 + 0) 5 d ∧ ran (exec (.calEnableWrite via d) s) = true ∧
        (fun (t : State) => t.rd (key 0x2500 5) = d.val ∧ t.cal.dies.map (fun x => x.phase) = s.cal.dies.map (fun x => x.phase) ∧
        t.chan = s.chan) (after (exec (.calEnableWrite via d) s))) (calw {}) (.parallel) (⟨1, 0x1F⟩)) := by
  refine ⟨shape_of (by decide +kernel), ?_⟩
  decide +kernel

theorem test_CalibrationRecordsAndTracking_6 : ShapeWf (({ calw {} with now := 5 } : State).put (key 0x2500 5) 0) ∧
    ((fun (s : State) (via : Iface) (c : Nat) (i : Nat) (d : Datum) => Live s ∧ c < 6 ∧ i < 17 ∧ (s.dieCal c).slices.length = 17 ∧
        Accepts s via (0x2510 + c) (i + 1) d) (({ calw {} with now := 5 } : State).put (key 0x2500 5) 0) (.parallel) (5) (2) (⟨216, 1 + 2 * 2 ^ 8 + 7 * 2 ^ 16 + 17 * 2 ^ 32 + 9 * 2 ^ 192⟩)) := by
  refine ⟨shape_of (by decide +kernel), ?_⟩
  decide +kernel

theorem test_CalibrationRecordsAndTracking_7 : ShapeWf ((calw {}).put (key 0x2500 5) 0) ∧
    ((fun (s : State) (via : Iface) (c : Nat) (i : Nat) (d : Datum) => Live s ∧ c < 6 ∧ i < 16 ∧
        Accepts s via (0x2520 + c) (i + 1) d) ((calw {}).put (key 0x2500 5) 0) (.parallel) (5) (2) (⟨52, 1 + 82 * 2 ^ 8 + 7 * 2 ^ 16 + 17 * 2 ^ 32 + 9 * 2 ^ 64⟩)) := by
  refine ⟨shape_of (by decide +kernel), ?_⟩
  decide +kernel

theorem test_CalibrationRecordsAndTracking_8 : ShapeWf (((calw {}).put (key 0x305F 1) 2).put (key 0x305F 0x0E) 1) ∧
    ((fun (s : State) (n : Nat) (err : Int) => Live s ∧ n < 96 ∧ outTracked s n = true ∧
        (((s.dieCal (n / 16)).phase = 0 ∨ (s.dieCal (n / 16)).slice ≠ n % 16)) ∧ ran (exec (.outputTracking n err) s) = true ∧
        (fun (t : State) => t.outCal n = { s.outCal n with delayError := satI 16 err, track := (s.outCal n).track - clampI 10 (satI 16 err) } ∧ t.faultIn = s.faultIn ++ (if s.rd (key 0x2500 0x0B) < absI (satI 16 err) then [⟨faultWord (n / 16 + 2) 1 0x29 (0x100 + n), s.now⟩] else []) ∧ t.ap = s.ap) (after (exec (.outputTracking n err) s))) (((calw {}).put (key 0x305F 1) 2).put (key 0x305F 0x0E) 1) (95) (-2600)) := by
  refine ⟨shape_of (by decide +kernel), ?_⟩
  decide +kernel

theorem test_CalibrationRecordsAndTracking_9 : ShapeWf ((calw {}).put (key 0x2530 6) 100) ∧
    ((fun (s : State) (c : Nat) (move : Int) (err : Int) => Live s ∧ c < 6 ∧ ran (exec (.branchTrimStep c move err) s) = true ∧
        (fun (t : State) => t.rd (key 0x2530 6) = 99 ∧
        t.drdI 16 (key 0x2530 12) = -3) (after (exec (.branchTrimStep c move err) s))) ((calw {}).put (key 0x2530 6) 100) (5) (-9) (-3)) := by
  refine ⟨shape_of (by decide +kernel), ?_⟩
  decide +kernel

theorem test_CalibrationRecordsAndTracking_10 : ShapeWf ((((calw {}).setApll 7 fun _ => { state := .locked }).put (key 0x2530 0x14) (5 + 63 * 256 + 0 * 65536)).dput (key 0x2530 0x1C) 60) ∧
    ((fun (s : State) (j : Nat) (amp : Int) (gain : Int) (margin : Nat) => Live s ∧ j < 8 ∧ (s.apllAt j).state = .locked ∧
        ran (exec (.apllTrimStep j amp gain margin) s) = true ∧
        (fun (t : State) => t.rd (key 0x2530 (0x0D + j)) = codeStep (codeStep (s.rd (key 0x2530 (0x0D + j))) 8 6 amp) 16 6 gain ∧
        t.drd (key 0x2530 (0x15 + j)) = min margin 100 ∧ t.faultIn = s.faultIn ++ (if margin < 10 ∧
        10 ≤ s.drd (key 0x2530 (0x15 + j)) then [⟨faultWord 1 2 0x12 (0x10 + j), s.now⟩] else []) ∧
        t.ap = s.ap) (after (exec (.apllTrimStep j amp gain margin) s))) ((((calw {}).setApll 7 fun _ => { state := .locked }).put (key 0x2530 0x14) (5 + 63 * 256 + 0 * 65536)).dput (key 0x2530 0x1C) 60) (7) (4) (-4) (9)) := by
  refine ⟨shape_of (by decide +kernel), ?_⟩
  decide +kernel

theorem test_CalibrationRecordsAndTracking_11 : ShapeWf (calw {}) ∧
    ((fun (s : State) (l : Nat) (ctle : Int) (dfe1 : Int) (dfe2 : Int) => Live s ∧ l < 6 ∧ bit (s.rd (key 0x2540 0x0D)) l = false ∧
        ran (exec (.laneAdaptStep l ctle dfe1 dfe2) s) = true ∧
        (fun (t : State) => t.rd (key 0x2540 (7 + l)) = codeStep (codeStep (codeStep (s.rd (key 0x2540 (7 + l))) 0 8 ctle) 8 8 dfe1) 16 8 dfe2 ∧ t.cal = s.cal) (after (exec (.laneAdaptStep l ctle dfe1 dfe2) s))) (calw {}) (5) (9) (-1) (0)) := by
  refine ⟨shape_of (by decide +kernel), ?_⟩
  decide +kernel

theorem test_CalibrationRecordsAndTracking_12 : ShapeWf ((calw {}).put (key 0x2540 0x0D) 0x20) ∧
    ((fun (s : State) (l : Nat) (ctle : Int) (dfe1 : Int) (dfe2 : Int) => Live s ∧ l < 6 ∧ bit (s.rd (key 0x2540 0x0D)) l = true ∧
        ran (exec (.laneAdaptStep l ctle dfe1 dfe2) s) = true ∧
        (fun (t : State) => t = s) (after (exec (.laneAdaptStep l ctle dfe1 dfe2) s))) ((calw {}).put (key 0x2540 0x0D) 0x20) (5) (9) (-1) (0)) := by
  refine ⟨shape_of (by decide +kernel), ?_⟩
  decide +kernel

theorem test_CalibrationRecordsAndTracking_13 : ShapeWf (calw {}) ∧
    ((fun (s : State) (l : Nat) (width : Nat) => Live s ∧ l < 6 ∧ s.cal.eyeLow.length = 6 ∧ width < s.rd (key 0x2540 0x0E) ∧ width ≤ 10000 ∧
        s.cal.eyeLow.getD l false = false ∧ ran (exec (.eyeMonitor l width) s) = true ∧
        (fun (t : State) => t.rd (key 0x2540 (l + 1)) = width ∧ t.cal.eyeLow.getD l false = true ∧
        t.faultIn = s.faultIn ++ [⟨faultWord 0 9 0x2A (0x600 + l), s.now⟩] ∧
        bit (t.rd (key 0x2500 2)) 8 = true) (after (exec (.eyeMonitor l width) s))) (calw {}) (5) (3999)) := by
  refine ⟨shape_of (by decide +kernel), ?_⟩
  decide +kernel

theorem test_CalibrationRecordsAndTracking_14 : ShapeWf ((calw {}).setCal fun c => { c with eyeLow := [false, false, false, false, false, true] }) ∧
    ((fun (s : State) (l : Nat) (width : Nat) => Live s ∧ l < 6 ∧ s.cal.eyeLow.length = 6 ∧ width ≤ s.rd (key 0x2540 0x0E) + 500 ∧
        width ≤ 10000 ∧ s.cal.eyeLow.getD l false = true ∧ ran (exec (.eyeMonitor l width) s) = true ∧
        (fun (t : State) => t.rd (key 0x2540 (l + 1)) = width ∧ t.cal = s.cal ∧
        t.faultIn = s.faultIn) (after (exec (.eyeMonitor l width) s))) ((calw {}).setCal fun c => { c with eyeLow := [false, false, false, false, false, true] }) (5) (4300)) := by
  refine ⟨shape_of (by decide +kernel), ?_⟩
  decide +kernel

theorem test_StoresCommitsAndScrubs_1 :
    ((fun (s : State) (via : Iface) => (fun w => Live s ∧ Accepts s via (0x2300 + 0) 5 ⟨1, 1⟩ ∧ ran (exec (.store via) s) = true ∧
        (fun (t : State) => t.nv = { w.nv with queue := if w.nv.queue.contains .store then w.nv.queue else w.nv.queue ++ [.store] } ∧
        t.od = w.od) (after (exec (.store via) s))) (journalled s via (0x2300 + 0) 5 ⟨1, 1⟩)) (nvw id) (.spi)) := by
  decide +kernel

theorem test_StoresCommitsAndScrubs_2 :
    ((fun (s : State) => Live s ∧ s.nv.pfBoot = false ∧ s.nv.running = none ∧ s.nv.queue.head? = some .store ∧ storeSupplies s = true ∧
        1800 * 2000000 ≤ s.rd (key 0x2300 6) * (s.nv.vhold * s.nv.vhold - 3300 * 3300) ∧ ran (exec (.storeStart) s) = true ∧
        (fun (t : State) => t.nv = { s.nv with queue := s.nv.queue.erase .store, running := some .store, array := none } ∧
        t.rd (key 0x2040 1) = 1 ∧ t.rd (key 0x2040 3) = 0 ∧
        t.rd (key 0x2040 4) = 65536) (after (exec (.storeStart) s))) (nvw fun v => { v with queue := [.store, .journal] })) := by
  decide +kernel

theorem test_StoresCommitsAndScrubs_3 :
    ((fun (s : State) => Live s ∧ s.nv.pfBoot = false ∧ s.nv.running = none ∧ s.nv.queue.head? = some .store ∧ 0 < s.rd (key 0x2300 6) ∧
        s.rd (key 0x2300 6) * (s.nv.vhold * s.nv.vhold - 3300 * 3300) < 1800 * 2000000 ∧ ran (exec (.storeStart) s) = true ∧
        (fun (t : State) => t.nv.queue = s.nv.queue.erase .store ∧ t.nv.running = none ∧ t.nv.array = s.nv.array ∧
        t.rd (key 0x2040 1) = 3 ∧ t.rd (key 0x2040 5) = 0x08000022 ∧
        bit (t.rd (key 0x2300 2)) 4 = true) (after (exec (.storeStart) s))) (nvw fun v => { v with queue := [.store, .journal], vhold := 4200 })) := by
  decide +kernel

theorem test_StoresCommitsAndScrubs_4 :
    ((fun (s : State) => Live s ∧ s.nv.powerFail = false ∧ s.nv.running = some .store ∧ ran (exec (.storeComplete) s) = true ∧
        (fun (t : State) => t.nv.running = none ∧ t.nv.sram.storeCount = (s.nv.sram.storeCount + 1) % 2 ^ 32 ∧
        t.nv.array = some { t.nv.sram with area := s.cal.area } ∧ t.nv.sram.cause = 0 ∧ t.nv.sram.dev = s.nv.sram.dev ∧
        bit (t.rd (key 0x2300 2)) 3 = true ∧ t.rd (key 0x2040 1) = 2 ∧
        t.rd (key 0x2040 3) = s.rd (key 0x2040 4)) (after (exec (.storeComplete) s))) (nvw fun v => { v with running := some .store, sram := { v.sram with storeCount := 2 ^ 32 - 1 } })) := by
  decide +kernel

theorem test_StoresCommitsAndScrubs_5 :
    ((fun (s : State) (n : Nat) => Live s ∧ s.nv.running = none ∧ s.nv.waiting = false ∧ s.nv.pfBoot = false ∧ engineUp s 15 = true ∧
        s.nv.queue.head? = some (.commit .host n) ∧ slotsOf s .host ≠ [] ∧ storeSupplies s = true ∧
        (140 + 60 * (slotsOf s .host).length + 900) * 2000000 ≤ s.rd (key 0x2300 6) * (s.nv.vhold * s.nv.vhold - 3300 * 3300) ∧
        ran (exec (.commitStart) s) = true ∧
        (fun (t : State) => t.nv.area_ = some { pages := (slotsOf s .host).foldl (fun m z => storeIns m z.page z.data) [], writes := n } ∧
        t.nv.running = some (.commit .host n) ∧ t.nv.queue = s.nv.queue.drop 1 ∧ t.nv.slots = s.nv.slots ∧ t.nv.cells = s.nv.cells ∧
        t.rd (key 0x2041 1) = 1 ∧
        t.rd (key 0x2041 4) = 256 * (slotsOf s .host).length) (after (exec (.commitStart) s))) (nvw fun v => hostTwo { v with queue := [.commit .host 2, .store] }) (2)) := by
  decide +kernel

theorem test_StoresCommitsAndScrubs_6 :
    ((fun (s : State) (n : Nat) => Live s ∧ s.nv.running = none ∧ s.nv.waiting = false ∧ s.nv.pfBoot = false ∧ engineUp s 15 = true ∧
        s.nv.queue.head? = some (.commit .host n) ∧ slotsOf s .host ≠ [] ∧ 0 < s.rd (key 0x2300 6) ∧
        s.rd (key 0x2300 6) * (s.nv.vhold * s.nv.vhold - 3300 * 3300) < (140 + 60 * (slotsOf s .host).length + 900) * 2000000 ∧
        ran (exec (.commitStart) s) = true ∧ (fun (t : State) => t.nv.hostCommit = false ∧ t.nv.queue = s.nv.queue.drop 1 ∧
        t.nv.slots = s.nv.slots ∧ t.nv.cells = s.nv.cells ∧ t.nv.area_ = s.nv.area_ ∧ t.nv.sram = s.nv.sram ∧ t.rd (key 0x2041 1) = 3 ∧
        t.rd (key 0x2041 5) = 0x08000022 ∧
        bit (t.rd (key 0x2300 2)) 4 = true) (after (exec (.commitStart) s))) (nvw fun v => hostTwo { v with queue := [.commit .host 2, .store], hostCommit := true, vhold := 3400 }) (2)) := by
  decide +kernel

theorem test_StoresCommitsAndScrubs_7 :
    ((fun (s : State) => Live s ∧ s.nv.running = none ∧ s.nv.waiting = false ∧ s.nv.pfBoot = false ∧ engineUp s 15 = true ∧
        s.nv.queue.head? = some .journal ∧ s.nv.journal.staged ≠ [] ∧ 0 < s.rd (key 0x2300 6) ∧
        s.rd (key 0x2300 6) * (s.nv.vhold * s.nv.vhold - 3300 * 3300) < 1100 * 2000000 ∧ ran (exec (.commitStart) s) = true ∧
        (fun (t : State) => t.nv.waiting = true ∧ t.nv.queue = s.nv.queue ∧ t.nv.journal = s.nv.journal ∧ t.nv.running = none ∧
        t.nv.sram = s.nv.sram ∧
        bit (t.rd (key 0x2300 2)) 4 = true) (after (exec (.commitStart) s))) (nvw fun v => oneRecord { v with vhold := 3400 })) := by
  decide +kernel

theorem test_StoresCommitsAndScrubs_8 :
    ((fun (s : State) => Live s ∧ s.nv.running = none ∧ s.nv.waiting = true ∧ s.nv.pfBoot = false ∧ engineUp s 15 = true ∧
        s.nv.queue.head? = some .journal ∧ s.nv.journal.staged ≠ [] ∧ s.nv.journal.waiting = [] ∧ storeSupplies s = true ∧
        1100 * 2000000 ≤ s.rd (key 0x2300 6) * (s.nv.vhold * s.nv.vhold - 3300 * 3300)) (nvw fun v => { oneRecord v with waiting := true })) := by
  decide +kernel

theorem test_StoresCommitsAndScrubs_9 :
    ((fun (s : State) => Live s ∧ s.nv.waiting = false ∧ ran (exec (.energyRecheckTimer) s) = true ∧
        (fun (t : State) => t = s) (after (exec (.energyRecheckTimer) s))) (nvw oneRecord)) := by
  decide +kernel

theorem test_StoresCommitsAndScrubs_10 :
    ((fun (s : State) (z : Seal) => Live s ∧ storeWf (fun _ => (255 : Byte)) s.nv.cells = true ∧ s.nv.running = some (.commit .host z.writes) ∧
        s.nv.area_ = some z ∧ (z.pages.map (fun q => q.1)).Nodup ∧ z.writes ≤ s.nv.sram.dev.pending ∧ s.nv.powerFail = false ∧
        s.nv.swReset = false ∧ ran (exec (.commitComplete) s) = true ∧ (fun (t : State) => storeRd 0xFF t.nv.cells (256 * 8191) = 0x77 ∧
        storeRd 0xFF t.nv.cells (256 * 8191 + 255) = 0 ∧ t.nv.decay = [] ∧ slotsOf t .host = [] ∧ t.nv.sram.dev.committed = 12 ∧
        t.nv.sram.dev.pending = 0 ∧ t.nv.sram.dev.commits = 1 ∧
        t.rd (key 0x2041 1) = 2) (after (exec (.commitComplete) s))) (nvw fun v => { hostTwo v with running := some (.commit .host 2), area_ := some { pages := [(8191, 0x77)], writes := 2 }, hostCommit := true, decay := [(256 * 8191 + 8, 2)] }) ({ pages := [(8191, 0x77)], writes := 2 })) := by
  decide +kernel

theorem test_StoresCommitsAndScrubs_11 :
    ((fun (s : State) (mv : Nat) => Live s ∧ mv < 65536 ∧ ran (exec (.vholdSample mv) s) = true ∧ (fun (t : State) => t.nv.vhold = mv ∧
        t.rd (key 0x2300 7) = mv ∧ t.nv.sram = s.nv.sram) (after (exec (.vholdSample mv) s))) (nvw id) (4410)) := by
  decide +kernel

theorem test_StoresCommitsAndScrubs_12 :
    ((fun (s : State) (via : Iface) => (fun w => Live s ∧ Accepts s via (0x2300 + 0) 5 ⟨1, 2⟩ ∧ ran (exec (.scrubNow via) s) = true ∧
        (fun (t : State) => t.nv = { w.nv with scrubbing := true } ∧
        t.od = w.od) (after (exec (.scrubNow via) s))) (journalled s via (0x2300 + 0) 5 ⟨1, 2⟩)) (nvw id) (.spi)) := by
  decide +kernel

theorem test_StoresCommitsAndScrubs_13 :
    ((fun (s : State) (g : Nat) (last : Bool) => Live s ∧ s.nv.scrubbing = true ∧ g % 8 = 0 ∧ g < 0x400000 ∧ s.nv.decay = [(g, 1)] ∧
        s.nv.fixes.contains g = false ∧ ran (exec (.scrubRead g [] last) s) = true ∧
        (fun (t : State) => t.nv.sram.dev.corrected = s.nv.sram.dev.corrected + 1 ∧ t.nv.fixes = s.nv.fixes ++ [g] ∧
        t.rd (key 0x2303 4) = g ∧ bit (t.rd (key 0x2300 2)) 8 = true ∧ t.nv.decay = s.nv.decay ∧ t.nv.scrubbing = !last ∧
        t.nv.sram.dev.passes = s.nv.sram.dev.passes + b2n last ∧
        t.nv.cells = s.nv.cells) (after (exec (.scrubRead g [] last) s))) (nvw fun v => { v with scrubbing := true, decay := [(0x3FFFF8, 1)] }) (0x3FFFF8) (true)) := by
  decide +kernel

theorem test_StoresCommitsAndScrubs_14 :
    ((fun (s : State) (g : Nat) (decayed : List (Nat × Nat)) (last : Bool) => Live s ∧ (s.rd (key 0x2303 1) = 1 ∨ s.nv.scrubbing = true) ∧
        ran (exec (.scrubRead g decayed last) s) = true ∧ (fun (t : State) => t.nv.scrubbing = !last ∧
        t.nv.sram.dev.passes = s.nv.sram.dev.passes + b2n last ∧ t.nv.cells = s.nv.cells ∧
        t.nv.slots = s.nv.slots) (after (exec (.scrubRead g decayed last) s))) (nvw fun v => { v with scrubbing := true }) (0x100000) ([(0x100000, 2), (0x100009, 1)]) (true)) := by
  decide +kernel

theorem test_StoresCommitsAndScrubs_15 :
    ((fun (s : State) (g : Nat) (last : Bool) => Live s ∧ s.nv.scrubbing = true ∧ g % 8 = 0 ∧ 0xC0000 ≤ g ∧ g < 0x180000 ∧ s.nv.decay = [] ∧
        s.rd (key 0x2000 5) = 0 ∧ s.nv.sram.dev.images.length = 2 ∧ ran (exec (.scrubRead g [(g, 2)] last) s) = true ∧
        (fun (t : State) => t.nv.sram.dev.uncorrectable = s.nv.sram.dev.uncorrectable + 1 ∧ t.rd (key 0x2303 5) = g ∧
        bit (t.rd (key 0x2300 2)) 9 = true ∧ imageState t 1 = 3 ∧
        imageState t 0 = imageState s 0) (after (exec (.scrubRead g [(g, 2)] last) s))) (nvw fun v => { v with scrubbing := true, sram := { v.sram with dev := { v.sram.dev with images := [2, 2] } } }) (0x17FFF8) (false)) := by
  decide +kernel

theorem test_StoresCommitsAndScrubs_16 :
    ((fun (s : State) (g : Nat) (r : List Nat) => Live s ∧ s.nv.running = none ∧ s.nv.waiting = false ∧ s.nv.queue = [] ∧ s.nv.fixes = g :: r ∧
        storeSupplies s = true ∧ 1100 * 2000000 ≤ s.rd (key 0x2300 6) * (s.nv.vhold * s.nv.vhold - 3300 * 3300) ∧
        ran (exec (.commitStart) s) = true ∧ (fun (t : State) => t.nv.fixes = r ∧
        t.nv.sram.dev = { s.nv.sram.dev with rewrites := s.nv.sram.dev.rewrites + 1 } ∧ t.nv.decay = storeDel s.nv.decay g ∧
        t.nv.slots = s.nv.slots) (after (exec (.commitStart) s))) (nvw fun v => { v with decay := [(8, 1)], fixes := [8] }) (8) ([])) := by
  decide +kernel

theorem test_HostWindowAndPowerFail_1 :
    ((fun (s : State) (via : Iface) (d : Datum) => (fun w => Live s ∧
        Accepts s via (0x2310 + 0) 4 d) (journalled s via (0x2310 + 0) 4 d)) ((nvw hostTwo).put (key 0x2310 1) 0x1FFEFF) (.spi) (⟨2, 0xBBAA⟩)) := by
  decide +kernel

theorem test_HostWindowAndPowerFail_2 :
    ((fun (s : State) (via : Iface) => (fun w => Live s ∧ Accepts s via (0x2310 + 0) 5 ⟨1, 1⟩ ∧ slotsOf s .host ≠ [] ∧
        s.nv.hostCommit = false ∧ w.nv.queue.contains (.commit .host s.nv.hostWrites) = false ∧ ran (exec (.hostCommit via) s) = true ∧
        (fun (t : State) => t.nv = { w.nv with queue := w.nv.queue ++ [.commit .host s.nv.hostWrites], hostCommit := true }) (after (exec (.hostCommit via) s))) (journalled s via (0x2310 + 0) 5 ⟨1, 1⟩)) (nvw hostTwo) (.spi)) := by
  decide +kernel

theorem test_HostWindowAndPowerFail_3 :
    ((fun (s : State) (via : Iface) => (fun w => Live s ∧ Accepts s via (0x2310 + 0) 5 ⟨1, 1⟩ ∧
        slotsOf s .host = []) (journalled s via (0x2310 + 0) 5 ⟨1, 1⟩)) (nvw id) (.spi)) := by
  decide +kernel

theorem test_HostWindowAndPowerFail_4 :
    ((fun (s : State) (via : Iface) => (fun w => Live s ∧ Accepts s via (0x2310 + 0) 5 ⟨1, 2⟩ ∧ slotsOf s .host ≠ [] ∧
        s.nv.hostCommit = false ∧ s.nv.hostWrites ≤ s.nv.sram.dev.pending ∧ ran (exec (.hostDiscard via) s) = true ∧
        (fun (t : State) => slotsOf t .host = [] ∧ t.nv.hostWrites = 0 ∧
        t.nv.sram.dev.rolledBack = w.nv.sram.dev.rolledBack + s.nv.hostWrites ∧
        t.nv.sram.dev.pending = w.nv.sram.dev.pending - s.nv.hostWrites ∧ t.nv.sram.dev.committed = w.nv.sram.dev.committed ∧
        bit (t.rd (key 0x2300 2)) 6 = true ∧
        t.nv.cells = s.nv.cells) (after (exec (.hostDiscard via) s))) (journalled s via (0x2310 + 0) 5 ⟨1, 2⟩)) (nvw hostTwo) (.spi)) := by
  decide +kernel

theorem test_HostWindowAndPowerFail_5 :
    ((fun (s : State) => Live s ∧ slotsOf s .host ≠ [] ∧ s.nv.hostCommit = false ∧ s.nv.hostWrites ≤ s.nv.sram.dev.pending ∧
        ran (exec (.hostTimeout) s) = true ∧ (fun (t : State) => slotsOf t .host = [] ∧ t.nv.hostWrites = 0 ∧
        t.nv.sram.dev.rolledBack = s.nv.sram.dev.rolledBack + s.nv.hostWrites ∧
        t.nv.sram.dev.pending = s.nv.sram.dev.pending - s.nv.hostWrites ∧ t.nv.sram.dev.committed = s.nv.sram.dev.committed ∧
        bit (t.rd (key 0x2300 2)) 6 = true ∧ t.nv.cells = s.nv.cells ∧
        bit (t.rd (key 0x2300 2)) 7 = true) (after (exec (.hostTimeout) s))) (nvw hostTwo)) := by
  decide +kernel

theorem test_HostWindowAndPowerFail_6 :
    ((fun (s : State) => Live s ∧ s.nv.hostCommit = true ∧ ran (exec (.hostTimeout) s) = true ∧
        (fun (t : State) => t = s) (after (exec (.hostTimeout) s))) (nvw fun v => { hostTwo v with hostCommit := true })) := by
  decide +kernel

theorem test_HostWindowAndPowerFail_7 :
    ((fun (s : State) => Live s ∧ 0 < s.rd (key 0x2300 6) ∧ s.nv.powerFail = false ∧ s.nv.running = none ∧ s.nv.journal.staged ≠ [] ∧
        slotsOf s .host ≠ [] ∧ slotsOf s .record = [] ∧ slotsOf s .download = [] ∧ s.nv.hostWrites ≤ s.nv.sram.dev.pending ∧
        ran (exec (.pfailFall) s) = true ∧ (fun (t : State) => t.nv.powerFail = true ∧ t.nv.pfail = true ∧ t.nv.pfStep = 3 ∧
        bit (t.rd (key 0x2300 2)) 5 = true ∧ ⟨faultWord 0 0x0A 0x2C 0x700, s.now⟩ ∈ t.faultIn ∧ slotsOf t .host = [] ∧
        slotsOf t .record = [] ∧ slotsOf t .download = [] ∧ t.nv.queue = [.pfLogs, .pfStore] ∧
        t.nv.sram.dev.rolledBack = s.nv.sram.dev.rolledBack + s.nv.hostWrites ∧ t.nv.journal = s.nv.journal ∧
        t.nv.pfClosed = false) (after (exec (.pfailFall) s))) (nvw fun v => { hostTwo (oneRecord v) with queue := [.commit .host 2, .store], hostCommit := true })) := by
  decide +kernel

theorem test_HostWindowAndPowerFail_8 :
    ((fun (s : State) => Live s ∧ 0 < s.rd (key 0x2300 6) ∧ s.nv.powerFail = false ∧ s.nv.running ≠ none ∧ ran (exec (.pfailFall) s) = true ∧
        (fun (t : State) => t.nv.powerFail = true ∧ t.nv.pfStep = 1 ∧ t.nv.slots = s.nv.slots ∧
        t.nv.running = s.nv.running) (after (exec (.pfailFall) s))) (nvw fun v => { hostTwo v with running := some .store })) := by
  decide +kernel

theorem test_HostWindowAndPowerFail_9 :
    ((fun (s : State) => Live s ∧ s.rd (key 0x2300 6) = 0 ∧ ran (exec (.pfailFall) s) = true ∧
        (fun (t : State) => t.nv = { s.nv with pfail := true } ∧ t.od = s.od ∧
        t.faultIn = s.faultIn) (after (exec (.pfailFall) s))) ((nvw hostTwo).put (key 0x2300 6) 0)) := by
  decide +kernel

theorem test_HostWindowAndPowerFail_10 :
    ((fun (s : State) => Live s ∧ (∀ x ∈ s.nv.supplies, x = true) ∧ ran (exec (.pfailRise) s) = true ∧
        (fun (t : State) => t.nv = { s.nv with pfail := false, powerFail := false, pfClosed := false, pfBoot := false, pfStep := 0 } ∧
        t.od = s.od) (after (exec (.pfailRise) s))) (nvw fun v => { v with pfail := true, powerFail := true, pfClosed := true, pfStep := 3 })) := by
  decide +kernel

theorem test_RecordsKeepTwoCopies_1 :
    ((fun (s : State) (via : Iface) (d : Datum) => (fun w => Live s ∧ s.nv.decay = [] ∧ Accepts s via (0x2320 + 0) 2 d ∧
        (s.rd (key 0x2320 1)) < 1024 ∧ slotsOf s .record = [] ∧ 1 ≤ d.len ∧ d.len ≤ 240 ∧
        recordServed s (s.rd (key 0x2320 1)) = none) (journalled s via (0x2320 + 0) 2 d)) ((nvw id).put (key 0x2320 1) 3) (.spi) (⟨2, 0xBBAA⟩)) := by
  decide +kernel

theorem test_RecordsKeepTwoCopies_2 :
    ((fun (s : State) (via : Iface) (d : Datum) (b : Bool) => (fun w => Live s ∧ s.nv.decay = [] ∧ Accepts s via (0x2320 + 0) 2 d ∧
        (s.rd (key 0x2320 1)) < 1024 ∧ slotsOf s .record = [] ∧ 1 ≤ d.len ∧ d.len ≤ 240 ∧
        recordServed s (s.rd (key 0x2320 1)) = some b) (journalled s via (0x2320 + 0) 2 d)) ((nvw fun v => withCopy v 0x180600 7 0x33).put (key 0x2320 1) 3) (.spi) (⟨2, 0xBBAA⟩) (false)) := by
  decide +kernel

theorem test_RecordsKeepTwoCopies_3 :
    ((fun (s : State) (via : Iface) => (fun w => Live s ∧ s.nv.decay = [] ∧ Accepts s via (0x2320 + 0) 5 ⟨1, 1⟩ ∧
        (s.rd (key 0x2320 1)) < 1024 ∧
        slotsOf s .record = []) (journalled s via (0x2320 + 0) 5 ⟨1, 1⟩)) ((nvw fun v => withCopy v 0x180600 7 0x33).put (key 0x2320 1) 3) (.spi)) := by
  decide +kernel

theorem test_RecordsKeepTwoCopies_4 :
    ((fun (s : State) (via : Iface) (b : Bool) => (fun w => Live s ∧ s.nv.decay = [] ∧ Accepts s via (0x2320 + 0) 5 ⟨1, 2⟩ ∧
        (s.rd (key 0x2320 1)) < 1024 ∧ slotsOf s .record = [] ∧
        recordServed s (s.rd (key 0x2320 1)) = some b) (journalled s via (0x2320 + 0) 5 ⟨1, 2⟩)) ((nvw fun v => withCopy v 0x180700 7 0x33).put (key 0x2320 1) 3) (.spi) (true)) := by
  decide +kernel

theorem test_RecordsKeepTwoCopies_5 :
    ((fun (s : State) (via : Iface) (d : Datum) => Live s ∧ s.nv.decay = [] ∧
        Accepts s via (0x2320 + 0) 1 d) (nvw fun v => withCopy v 0x180600 7 0x33) (.spi) (⟨2, 3⟩)) := by
  decide +kernel

theorem test_RecordsKeepTwoCopies_6 :
    ((fun (s : State) (r : Nat) => Live s ∧ s.nv.decay = [] ∧ r < 1024 ∧ copyValid s r false = true ∧ copyValid s r true = true ∧
        copySeq s r false = copySeq s r true ∧ copyContent s r false ≠ copyContent s r true ∧
        s.nv.tied.contains r = false) (nvw fun v => withCopy (withCopy v 0x180600 7 0x33) 0x180700 7 0x34) (3)) := by
  decide +kernel

theorem test_EnginesRestartAlone_1 :
    ((fun (s : State) (e : Nat) => Live s ∧ e < 16 ∧ engineUp s e = true ∧
        ((s.eng.restarts.getD e []).filter fun u => decide (s.now ≤ u + 1000000000)).length < 2 ∧ ran (exec (.engineWatchdog e) s) = true ∧
        (fun (t : State) => t.engDown = e :: s.engDown ∧ (∀ l ∈ t.eng.locks, l.holder ≠ e ∧ e ∉ l.waiters) ∧
        (∀ w ∈ t.eng.staged, w.q ≠ e) ∧ (∀ w ∈ s.eng.staged, w.q ≠ e → w ∈ t.eng.staged) ∧
        ⟨faultWord 0 12 0x33 (0x0900 + e), s.now⟩ ∈ t.faultIn ∧ bit (t.rd (key 0x2400 2)) 1 = true ∧ t.rd (key (0x2410 + e) 1) = 1 ∧
        t.rd (key (0x2410 + e) 4) = min (s.rd (key (0x2410 + e) 4) + 1) 65535 ∧ t.resetReq = s.resetReq ∧
        t.chan = s.chan) (after (exec (.engineWatchdog e) s))) (engw fun x => { x with locks := [⟨7, 15, 0, [3, 4]⟩, ⟨9, 2, 0, [15]⟩], staged := [⟨15, 7, 0, 5⟩, ⟨2, 9, 1, 6⟩], restarts := x.restarts.set 15 [8999999999, 9000000000] }) (15)) := by
  decide +kernel

theorem test_EnginesRestartAlone_2 :
    ((fun (s : State) (e : Nat) => Live s ∧ e < 16 ∧ engineUp s e = true ∧
        ((s.eng.restarts.getD e []).filter fun u => decide (s.now ≤ u + 1000000000)).length = 2 ∧ ran (exec (.engineWatchdog e) s) = true ∧
        (fun (t : State) => t.resetReq = some (dueCause s.resetReq 7)) (after (exec (.engineWatchdog e) s))) (engw fun x => { x with restarts := x.restarts.set 15 [9000000000, 9999999999] }) (15)) := by
  decide +kernel

theorem test_EnginesRestartAlone_3 :
    ((fun (s : State) (e : Nat) => Live s ∧ engineUp s e = false ∧ ran (exec (.engineWatchdog e) s) = true ∧
        (fun (t : State) => t = s) (after (exec (.engineWatchdog e) s))) ({ engw id with engDown := [15] }) (15)) := by
  decide +kernel

theorem test_EnginesRestartAlone_4 :
    ((fun (s : State) (e : Nat) => Live s ∧ e < 16 ∧ e ≠ 12 ∧ e ≠ 13 ∧ engineUp s e = false ∧ ran (exec (.engineRestartDone e) s) = true ∧
        (fun (t : State) => t.engDown = s.engDown.filter fun x => x != e ∧ t.rd (key (0x2410 + e) 1) = 0 ∧ t.eng = s.eng ∧ t.dp = s.dp ∧
        t.cups = s.cups) (after (exec (.engineRestartDone e) s))) (({ engw id with engDown := [3, 15] } : State).put (key 0x241F 1) 1) (15)) := by
  decide +kernel

theorem test_EnginesRestartAlone_5 :
    ((fun (s : State) (e : Nat) (load : Nat) => Live s ∧ e < 16 ∧ s.eng.overloaded.length = 16 ∧ 9500 < load ∧ load ≤ 10000 ∧
        s.eng.overloaded.getD e false = false ∧ ran (exec (.engineOverload e load) s) = true ∧
        (fun (t : State) => t.eng.overloaded.getD e false = true ∧ t.faultIn = s.faultIn ++ [⟨faultWord 0 12 0x34 (0x0900 + e), s.now⟩] ∧
        bit (t.rd (key 0x2400 2)) 2 = true ∧
        t.rd (key (0x2410 + e) 2) = load) (after (exec (.engineOverload e load) s))) (engw id) (15) (9501)) := by
  decide +kernel

theorem test_EnginesRestartAlone_6 :
    ((fun (s : State) (e : Nat) (load : Nat) => Live s ∧ e < 16 ∧ s.eng.overloaded.length = 16 ∧ load ≤ 10000 ∧
        s.eng.overloaded.getD e false = true ∧ ran (exec (.engineOverload e load) s) = true ∧
        (fun (t : State) => t.eng.overloaded.getD e false = decide (8000 ≤ load) ∧ t.faultIn = s.faultIn ∧
        t.rd (key (0x2410 + e) 2) = load) (after (exec (.engineOverload e load) s))) (engw fun x => { x with overloaded := x.overloaded.set 15 true }) (15) (8000)) := by
  decide +kernel

theorem test_EnginesRestartAlone_7 :
    ((fun (s : State) (via : Iface) (d : Datum) => Live s ∧ Accepts s via (0x2420 + 0) 1 d) (engw id) (.spi) (⟨256, 11⟩)) := by
  decide +kernel

theorem test_ArbiterGrantsOneEachCycle_1 : ShapeWf (engw fun x => { reqw [(15, { waited := 70, aged := true, waits := 2 ^ 40 })] x with pointers := [0, 15, 3, 0, 0] }) ∧
    ((fun (s : State) (reqs : List StoreReq) (w : Nat) => Live s ∧ (∀ q ∈ (reqs.map fun r : StoreReq => r.q), q < 24) ∧
        (reqs.map fun r : StoreReq => r.q).Nodup ∧ w ∈ (reqs.map fun r : StoreReq => r.q) ∧
        ((∀ q ∈ (reqs.map fun r : StoreReq => r.q), q = w ∨ levelOf s w < levelOf s q ∨ (levelOf s w = levelOf s q ∧
        rrPlace s w < rrPlace s q))) ∧ ran (exec (.contextStoreRequest reqs) s) = true ∧ (fun (t : State) => (t.reqAt w).grants = 1 ∧
        (t.reqAt w).waited = 0 ∧ (t.reqAt w).agedGrants = 1 ∧ t.eng.pointers = [0, 16, 3, 0, 0] ∧ (t.reqAt 18).waits = 1 ∧
        (t.reqAt 3).turn = 2 ∧
        (t.reqAt 18).turn = 1) (after (exec (.contextStoreRequest reqs) s))) (engw fun x => { reqw [(15, { waited := 70, aged := true, waits := 2 ^ 40 })] x with pointers := [0, 15, 3, 0, 0] }) ([⟨18, 0, 0, none⟩, ⟨15, 255, 7, none⟩, ⟨3, 1, 1, none⟩]) (15)) := by
  refine ⟨shape_of (by decide +kernel), ?_⟩
  decide +kernel

theorem test_ArbiterGrantsOneEachCycle_2 : ShapeWf (engw id) ∧
    ((fun (s : State) (q : Nat) (c : Nat) (line : Nat) (v : Nat) => Live s ∧ q < 24 ∧ c < 256 ∧ line < 8 ∧ holds s q c = false ∧
        ran (exec (.contextStoreRequest [⟨q, c, line, some v⟩]) s) = true ∧ (fun (t : State) => t.ctxRec 255 448 64 = 99 ∧
        t.ctxRec 255 384 64 = 0) (after (exec (.contextStoreRequest [⟨q, c, line, some v⟩]) s))) (engw id) (23) (255) (7) (99)) := by
  refine ⟨shape_of (by decide +kernel), ?_⟩
  decide +kernel

theorem test_ArbiterGrantsOneEachCycle_3 : ShapeWf (engw fun x => { x with locks := [⟨255, 15, 0, []⟩] }) ∧
    ((fun (s : State) (q : Nat) (c : Nat) (line : Nat) (v : Nat) => Live s ∧ q < 16 ∧ holds s q c = true ∧
        ran (exec (.contextStoreRequest [⟨q, c, line, some v⟩]) s) = true ∧
        (fun (t : State) => t.eng.staged = s.eng.staged ++ [⟨q, c, line, v⟩] ∧
        t.od = s.od) (after (exec (.contextStoreRequest [⟨q, c, line, some v⟩]) s))) (engw fun x => { x with locks := [⟨255, 15, 0, []⟩] }) (15) (255) (7) (99)) := by
  refine ⟨shape_of (by decide +kernel), ?_⟩
  decide +kernel

theorem test_ArbiterGrantsOneEachCycle_4 : ShapeWf (engw (reqw [(23, { waited := 64 })])) ∧
    ((fun (s : State) (q : Nat) => Live s ∧ q < 24 ∧ classOf s q ≠ 0 ∧ s.rd (key 0x2400 6) ≤ (s.reqAt q).waited ∧
        ran (exec (.requesterAged q) s) = true ∧
        (fun (t : State) => (t.reqAt q) = { (s.reqAt q) with aged := true }) (after (exec (.requesterAged q) s))) (engw (reqw [(23, { waited := 64 })])) (23)) := by
  refine ⟨shape_of (by decide +kernel), ?_⟩
  decide +kernel

theorem test_ArbiterGrantsOneEachCycle_5 : ShapeWf (engw (reqw [(16, { waited := 64 })])) ∧
    ((fun (s : State) (q : Nat) => Live s ∧ ((classOf s q = 0 ∨ (s.reqAt q).waited < s.rd (key 0x2400 6))) ∧
        ran (exec (.requesterAged q) s) = true ∧
        (fun (t : State) => t = s) (after (exec (.requesterAged q) s))) (engw (reqw [(16, { waited := 64 })])) (16)) := by
  refine ⟨shape_of (by decide +kernel), ?_⟩
  decide +kernel

theorem test_ArbiterGrantsOneEachCycle_6 : ShapeWf (engw (reqw [(23, { grants := 2 ^ 32 + 5, waits := 7, longest := 8, agedGrants := 9 })])) ∧
    ((fun (s : State) (via : Iface) => Live s ∧ Accepts s via (0x2400 + 0) 8 ⟨1, 1⟩ ∧ ran (exec (.arbiterSnapshot via) s) = true ∧
        (fun (t : State) => t.rd (key 0x2447 2) = 5 ∧ t.rd (key 0x2447 3) = 1 ∧ t.rd (key 0x2447 7) = 9 ∧ t.rd (key 0x2400 9) = 1 ∧
        bit (t.rd (key 0x2400 2)) 5 = true) (after (exec (.arbiterSnapshot via) s))) (engw (reqw [(23, { grants := 2 ^ 32 + 5, waits := 7, longest := 8, agedGrants := 9 })])) (.spi)) := by
  refine ⟨shape_of (by decide +kernel), ?_⟩
  decide +kernel

theorem test_ArbiterGrantsOneEachCycle_7 : ShapeWf ((engw (reqw [(23, { grants := 5, waited := 3 })])).put (key 0x241F 7) 9) ∧
    ((fun (s : State) (via : Iface) => Live s ∧ Accepts s via (0x2400 + 0) 8 ⟨1, 2⟩ ∧ ran (exec (.arbiterClearCounters via) s) = true ∧
        (fun (t : State) => t.reqAt 23 = { waited := 3 } ∧
        t.rd (key 0x241F 7) = 0) (after (exec (.arbiterClearCounters via) s))) ((engw (reqw [(23, { grants := 5, waited := 3 })])).put (key 0x241F 7) 9) (.spi)) := by
  refine ⟨shape_of (by decide +kernel), ?_⟩
  decide +kernel

theorem test_ArbiterGrantsOneEachCycle_8 : ShapeWf (engw id) ∧
    ((fun (s : State) (via : Iface) (q : Nat) (d : Datum) => Live s ∧ q < 24 ∧ Accepts s via (0x2430 + q) 1 d ∧ hostGuarantee s = true ∧
        (((q = 16 ∧ d.val ≠ 0) ∨ (q ≠ 16 ∧ q ≠ 17 ∧ d.val = 0))) ∧ ran (exec (.classWrite via q d) s) = true ∧
        (fun (t : State) => t.rd (key (0x2430 + q) 1) = d.val ∧ t.faultIn = s.faultIn ++ [⟨faultWord 0 13 0x37 0x0910, s.now⟩] ∧
        bit (t.rd (key 0x2400 2)) 0 = true ∧ t.eng = s.eng) (after (exec (.classWrite via q d) s))) (engw id) (.spi) (23) (⟨1, 0⟩)) := by
  refine ⟨shape_of (by decide +kernel), ?_⟩
  decide +kernel

theorem test_ArbiterGrantsOneEachCycle_9 : ShapeWf (engw id) ∧
    ((fun (s : State) (via : Iface) (q : Nat) (d : Datum) => Live s ∧ q < 24 ∧ Accepts s via (0x2430 + q) 1 d ∧ q = 17 ∧
        ran (exec (.classWrite via q d) s) = true ∧ (fun (t : State) => t.rd (key (0x2430 + q) 1) = d.val ∧ t.faultIn = s.faultIn ∧
        t.eng = s.eng) (after (exec (.classWrite via q d) s))) (engw id) (.spi) (17) (⟨1, 3⟩)) := by
  refine ⟨shape_of (by decide +kernel), ?_⟩
  decide +kernel

theorem test_LocksQueueRefuseAndBreak_1 : ShapeWf (engw fun x => { x with locks := [⟨254, 15, 0, []⟩, ⟨271, 3, 0, []⟩], nextAge := 6 }) ∧
    ((fun (s : State) (q : Nat) (id : Nat) => Live s ∧ q < 16 ∧ id < 272 ∧ s.lockOf id = none ∧ (((id < 256 ∧ heldCount s q true = 0 ∧
        heldCount s q false < 4) ∨ (256 ≤ id ∧ heldCount s q true < 2))) ∧ ran (exec (.lockRequest q id) s) = true ∧
        (fun (t : State) => (t.reqAt q).result = 0 ∧ (t.reqAt q).grants = (s.reqAt q).grants + 1 ∧
        t.eng.locks = s.eng.locks ++ [⟨id, q, s.now, []⟩] ∧ t.od = s.od ∧
        (t.reqAt q).age = some ((s.reqAt q).age.getD s.eng.nextAge)) (after (exec (.lockRequest q id) s))) (engw fun x => { x with locks := [⟨254, 15, 0, []⟩, ⟨271, 3, 0, []⟩], nextAge := 6 }) (15) (255)) := by
  refine ⟨shape_of (by decide +kernel), ?_⟩
  decide +kernel

theorem test_LocksQueueRefuseAndBreak_2 : ShapeWf (engw fun x => { x with locks := [⟨254, 15, 0, []⟩, ⟨271, 3, 0, [2]⟩] }) ∧
    ((fun (s : State) (q : Nat) (id : Nat) => Live s ∧ q < 16 ∧ id < 272 ∧ (s.lockOf id).isSome = true ∧ holds s q id = false ∧ (((id < 256 ∧
        heldCount s q true = 0 ∧ heldCount s q false < 4) ∨ (256 ≤ id ∧ heldCount s q true < 2))) ∧
        ran (exec (.lockRequest q id) s) = true ∧ (fun (t : State) => (t.reqAt q).result = 1 ∧
        (t.reqAt q).grants = (s.reqAt q).grants + 1 ∧ t.eng.locks = s.eng.locks.map fun l => if l.id = id ∧
        q ∉ l.waiters then { l with waiters := l.waiters ++ [q] } else l) (after (exec (.lockRequest q id) s))) (engw fun x => { x with locks := [⟨254, 15, 0, []⟩, ⟨271, 3, 0, [2]⟩] }) (15) (271)) := by
  refine ⟨shape_of (by decide +kernel), ?_⟩
  decide +kernel

theorem test_LocksQueueRefuseAndBreak_3 : ShapeWf (engw fun x => { x with locks := [⟨271, 15, 0, []⟩] }) ∧
    ((fun (s : State) (q : Nat) (id : Nat) => Live s ∧ q < 16 ∧ id < 256 ∧ 0 < heldCount s q true ∧ ran (exec (.lockRequest q id) s) = true ∧
        (fun (t : State) => (t.reqAt q).result = 2 ∧ (t.reqAt q).grants = (s.reqAt q).grants + 1 ∧ t.eng.locks = s.eng.locks ∧
        t.rd (key (0x2410 + q) 6) = (s.rd (key (0x2410 + q) 6) + 1) % 2 ^ 32 ∧ bit (t.rd (key 0x2400 2)) 4 = true ∧
        t.faultIn = s.faultIn ++ [⟨faultWord 0 12 0x36 (0x0900 + q), s.now⟩]) (after (exec (.lockRequest q id) s))) (engw fun x => { x with locks := [⟨271, 15, 0, []⟩] }) (15) (255)) := by
  refine ⟨shape_of (by decide +kernel), ?_⟩
  decide +kernel

theorem test_LocksQueueRefuseAndBreak_4 : ShapeWf (engw fun x => { x with locks := [⟨271, 15, 0, []⟩, ⟨270, 15, 0, []⟩, ⟨256, 2, 0, []⟩] }) ∧
    ((fun (s : State) (q : Nat) (id : Nat) => Live s ∧ q < 18 ∧ id < 272 ∧ holds s q id = false ∧ (((id < 256 ∧ heldCount s q true = 0 ∧
        4 ≤ heldCount s q false) ∨ (q < 16 ∧ 256 ≤ id ∧ 2 ≤ heldCount s q true))) ∧ ran (exec (.lockRequest q id) s) = true ∧
        (fun (t : State) => (t.reqAt q).result = 3 ∧ (t.reqAt q).grants = (s.reqAt q).grants + 1 ∧
        t.eng.locks = s.eng.locks) (after (exec (.lockRequest q id) s))) (engw fun x => { x with locks := [⟨271, 15, 0, []⟩, ⟨270, 15, 0, []⟩, ⟨256, 2, 0, []⟩] }) (15) (256)) := by
  refine ⟨shape_of (by decide +kernel), ?_⟩
  decide +kernel

theorem test_LocksQueueRefuseAndBreak_5 : ShapeWf (engw fun x => { x with locks := [⟨271, 15, 0, []⟩] }) ∧
    ((fun (s : State) (q : Nat) (id : Nat) => Live s ∧ q < 16 ∧ id < 272 ∧ holds s q id = true ∧ (((id < 256 ∧
        heldCount s q true = 0) ∨ 256 ≤ id)) ∧ ran (exec (.lockRequest q id) s) = true ∧ (fun (t : State) => (t.reqAt q).result = 4 ∧
        (t.reqAt q).grants = (s.reqAt q).grants + 1 ∧
        t.eng.locks = s.eng.locks) (after (exec (.lockRequest q id) s))) (engw fun x => { x with locks := [⟨271, 15, 0, []⟩] }) (15) (271)) := by
  refine ⟨shape_of (by decide +kernel), ?_⟩
  decide +kernel

theorem test_LocksQueueRefuseAndBreak_6 : ShapeWf (engw fun x => { reqw [(15, { age := some 4 })] x with locks := [⟨255, 15, 9999948500, [3, 2]⟩], staged := [⟨15, 255, 7, 99⟩] }) ∧
    ((fun (s : State) (q : Nat) (c : Nat) (line : Nat) (v : Nat) (since : Nat) (ws : List Nat) => Live s ∧ q < 16 ∧ c < 256 ∧ line < 8 ∧
        s.eng.locks = [⟨c, q, since, ws⟩] ∧ q ∉ ws ∧ s.eng.staged = [⟨q, c, line, v⟩] ∧ (s.reqAt q).age.isSome = true ∧
        ran (exec (.lockRelease q false) s) = true ∧ (fun (t : State) => t.ctxRec 255 448 64 = 99 ∧
        t.eng.locks = [⟨255, 3, 10000000000, [2]⟩] ∧ t.rd (key 0x241F 7) = 51500 ∧
        (t.reqAt 15).grants = 2) (after (exec (.lockRelease q false) s))) (engw fun x => { reqw [(15, { age := some 4 })] x with locks := [⟨255, 15, 9999948500, [3, 2]⟩], staged := [⟨15, 255, 7, 99⟩] }) (15) (255) (7) (99) (9999948500) ([3, 2])) := by
  refine ⟨shape_of (by decide +kernel), ?_⟩
  decide +kernel

theorem test_LocksQueueRefuseAndBreak_7 : ShapeWf (engw fun x => { reqw [(15, { age := some 4 })] x with locks := [⟨255, 15, 0, [3, 2]⟩, ⟨256, 2, 0, [15]⟩], staged := [⟨15, 255, 7, 99⟩] }) ∧
    ((fun (s : State) (q : Nat) => Live s ∧ q < 24 ∧ ran (exec (.lockRelease q true) s) = true ∧ (fun (t : State) => t.eng.staged = [] ∧
        (∀ l ∈ t.eng.locks, l.holder ≠ 15 ∧ 15 ∉ l.waiters) ∧
        t.nv = s.nv) (after (exec (.lockRelease q true) s))) (engw fun x => { reqw [(15, { age := some 4 })] x with locks := [⟨255, 15, 0, [3, 2]⟩, ⟨256, 2, 0, [15]⟩], staged := [⟨15, 255, 7, 99⟩] }) (15)) := by
  refine ⟨shape_of (by decide +kernel), ?_⟩
  decide +kernel

theorem test_LocksQueueRefuseAndBreak_8 : ShapeWf (engw fun x => { x with locks := [⟨255, 15, 9999950000, [3, 2]⟩, ⟨270, 15, 9999950000, [2]⟩], staged := [⟨15, 255, 7, 99⟩] }) ∧
    ((fun (s : State) (l : Lock) => Live s ∧ l ∈ s.eng.locks ∧ l.holder < 16 ∧ (l.waiters.isEmpty = false) ∧
        l.since + s.rd (key 0x2400 5) * 1000 ≤ s.now ∧ ((∀ m ∈ s.eng.locks, m = l ∨ l.id < m.id)) ∧
        (∀ m ∈ s.eng.locks, l.holder ∉ m.waiters) ∧ ran (exec (.holdLimitExpiry) s) = true ∧
        (fun (t : State) => (∀ m ∈ t.eng.locks, m.holder ≠ l.holder ∧ l.holder ∉ m.waiters) ∧ (∀ w ∈ t.eng.staged, w.q ≠ l.holder) ∧
        t.rd (key 0x2400 0x0A) = (s.rd (key 0x2400 0x0A) + 1) % 2 ^ 32 ∧
        t.rd (key (0x2410 + l.holder) 5) = (s.rd (key (0x2410 + l.holder) 5) + 1) % 2 ^ 32 ∧ bit (t.rd (key 0x2400 2)) 3 = true ∧
        t.faultIn = s.faultIn ++ [⟨faultWord 0 12 0x35 (0x0900 + l.holder), s.now⟩] ∧
        t.nv = s.nv) (after (exec (.holdLimitExpiry) s))) (engw fun x => { x with locks := [⟨255, 15, 9999950000, [3, 2]⟩, ⟨270, 15, 9999950000, [2]⟩], staged := [⟨15, 255, 7, 99⟩] }) (⟨255, 15, 9999950000, [3, 2]⟩)) := by
  refine ⟨shape_of (by decide +kernel), ?_⟩
  decide +kernel

theorem test_LocksQueueRefuseAndBreak_9 : ShapeWf (engw fun x => { reqw [(7, { age := some 4 }), (3, { age := some 5 })] x with locks := [⟨40, 7, 9999950000, [3]⟩, ⟨41, 3, 9999950600, [7]⟩] }) ∧
    ((fun (s : State) (p : Nat) (q : Nat) (a : Nat) (b : Nat) (t0 : Nat) (t1 : Nat) (m : Nat) (n : Nat) => Live s ∧ p < 16 ∧ q < 16 ∧ p ≠ q ∧
        a < b ∧ s.eng.locks = [⟨a, p, t0, [q]⟩, ⟨b, q, t1, [p]⟩] ∧ t0 + s.rd (key 0x2400 5) * 1000 ≤ s.now ∧ (s.reqAt p).age = some m ∧
        (s.reqAt q).age = some n ∧ m < n ∧ ran (exec (.holdLimitExpiry) s) = true ∧
        (fun (t : State) => t.eng.locks.any (fun m => m.id == b && m.holder == p) = true ∧ (∀ m ∈ t.eng.locks, m.holder ≠ q ∧
        q ∉ m.waiters) ∧ t.rd (key (0x2410 + q) 5) = (s.rd (key (0x2410 + q) 5) + 1) % 2 ^ 32 ∧
        ⟨faultWord 0 12 0x35 (0x0900 + q), s.now⟩ ∈ t.faultIn) (after (exec (.holdLimitExpiry) s))) (engw fun x => { reqw [(7, { age := some 4 }), (3, { age := some 5 })] x with locks := [⟨40, 7, 9999950000, [3]⟩, ⟨41, 3, 9999950600, [7]⟩] }) (7) (3) (40) (41) (9999950000) (9999950600) (4) (5)) := by
  refine ⟨shape_of (by decide +kernel), ?_⟩
  decide +kernel

theorem test_LocksQueueRefuseAndBreak_10 : ShapeWf (engw fun x => { x with locks := [⟨255, 15, 9999950001, [3, 2]⟩] }) ∧
    ((fun (s : State) => Live s ∧ ((∀ m ∈ s.eng.locks, m.waiters.isEmpty = true ∨ s.now < m.since + s.rd (key 0x2400 5) * 1000)) ∧
        ran (exec (.holdLimitExpiry) s) = true ∧
        (fun (t : State) => t = s) (after (exec (.holdLimitExpiry) s))) (engw fun x => { x with locks := [⟨255, 15, 9999950001, [3, 2]⟩] })) := by
  refine ⟨shape_of (by decide +kernel), ?_⟩
  decide +kernel

theorem test_FaultMessagesClassifyAndReact_1 : ShapeWf (said ((colw id).put (key 0x2200 9) 0) 0x208F0011) ∧
    ((fun (s : State) (m : Msg) => (fun src => (fun base => Live s ∧ messageNext s = some m ∧ m.word < 2 ^ 32 ∧ allocated src = true ∧
        Comes s m ∧ inShadow s src m.at_ = false ∧ base < 2 ∧ s.rd (key 0x2200 9) = 0 ∧ byteAt (sourceCfg s src) 1 ≤ base ∧
        ran (exec (.faultMessage) s) = true ∧ (fun (t : State) => srcBit t 0 src = true ∧
        (t.sourceAt src).messages = ((s.sourceAt src).messages + 1) % 2 ^ 32 ∧
        (t.sourceAt src).consequential = (s.sourceAt src).consequential ∧ t.rd (key 0x2200 0x0D) = (s.rd (key 0x2200 0x0D) + 1) % 2 ^ 32 ∧
        srcBit t 1 src = true ∧ srcBit t 2 src = false ∧ t.col.fault = false ∧
        bit (t.rd (key 0x2200 2)) 0 = true) (after (exec (.faultMessage) s))) (s.rd (key 0x2201 (m.word / 65536 % 64)))) (m.word / 2 ^ 22 % 1024)) (said ((colw id).put (key 0x2200 9) 0) 0x208F0011) (⟨0x208F0011, 9000000000⟩)) := by
  refine ⟨shape_of (by decide +kernel), ?_⟩
  decide +kernel

theorem test_FaultMessagesClassifyAndReact_2 : ShapeWf (said (((((colw fun c => { c with cfgs := [(130, sourceDefault 130 + 3 * 256 ^ 2 + 4 * 256 ^ 8 + 5 * 256 ^ 10)] }).put (key 0x2200 9) 0).put (key 0x2201 0x11) 2).put (key 0x305F 1) 2).put (key 0x305F 0x11) 2) 0x20910020) ∧
    ((fun (s : State) (m : Msg) => (fun src => (fun base => Live s ∧ messageNext s = some m ∧ m.word < 2 ^ 32 ∧ allocated src = true ∧
        Comes s m ∧ inShadow s src m.at_ = false ∧ base = 2 ∧ byteAt (sourceCfg s src) 2 < 4 ∧ s.rd (key 0x2200 9) = 0 ∧
        byteAt (sourceCfg s src) 1 ≤ base ∧ ran (exec (.faultMessage) s) = true ∧ (fun (t : State) => srcBit t 0 src = true ∧
        (t.sourceAt src).messages = ((s.sourceAt src).messages + 1) % 2 ^ 32 ∧
        (t.sourceAt src).consequential = (s.sourceAt src).consequential ∧ t.rd (key 0x2200 0x0D) = (s.rd (key 0x2200 0x0D) + 1) % 2 ^ 32 ∧
        t.col.fault = true ∧ t.col.quietFrom = some m.at_ ∧
        t.rd (key 0x2200 0x10) = (if s.col.fault then s.rd (key 0x2200 0x10) else (s.rd (key 0x2200 0x10) + 1) % 2 ^ 32) ∧
        srcBit t 2 src = true ∧ bit (t.rd (key 0x2200 2)) 1 = true ∧ t.col.groups = 4 ∧ t.col.holds = 5 ∧
        t.col.shadows = [⟨[2, 3, 129, 130], 9000000000⟩] ∧
        (t.outAt 95).forced = true) (after (exec (.faultMessage) s))) (s.rd (key 0x2201 (m.word / 65536 % 64)))) (m.word / 2 ^ 22 % 1024)) (said (((((colw fun c => { c with cfgs := [(130, sourceDefault 130 + 3 * 256 ^ 2 + 4 * 256 ^ 8 + 5 * 256 ^ 10)] }).put (key 0x2200 9) 0).put (key 0x2201 0x11) 2).put (key 0x305F 1) 2).put (key 0x305F 0x11) 2) 0x20910020) (⟨0x20910020, 9000000000⟩)) := by
  refine ⟨shape_of (by decide +kernel), ?_⟩
  decide +kernel

theorem test_FaultMessagesClassifyAndReact_3 : ShapeWf (said ((colw id).put (key 0x2203 1) 0x4000) 0x208F0011) ∧
    ((fun (s : State) (m : Msg) => (fun src => (fun base => Live s ∧ messageNext s = some m ∧ m.word < 2 ^ 32 ∧ allocated src = true ∧
        Comes s m ∧ inShadow s src m.at_ = false ∧ base = 1 ∧ s.rd (key 0x2200 9) = 1 ∧ levelAny s 1 = true ∧
        byteAt (sourceCfg s src) 1 ≤ 1 ∧ byteAt (sourceCfg s src) 2 = 0 ∧ ran (exec (.faultMessage) s) = true ∧
        (fun (t : State) => srcBit t 0 src = true ∧ (t.sourceAt src).messages = ((s.sourceAt src).messages + 1) % 2 ^ 32 ∧
        (t.sourceAt src).consequential = (s.sourceAt src).consequential ∧ t.rd (key 0x2200 0x0D) = (s.rd (key 0x2200 0x0D) + 1) % 2 ^ 32 ∧
        t.col.fault = true ∧ t.col.quietFrom = some m.at_ ∧
        t.rd (key 0x2200 0x10) = (if s.col.fault then s.rd (key 0x2200 0x10) else (s.rd (key 0x2200 0x10) + 1) % 2 ^ 32) ∧
        srcBit t 2 src = true ∧ srcBit t 1 src = false ∧
        bit (t.rd (key 0x2200 2)) 3 = true) (after (exec (.faultMessage) s))) (s.rd (key 0x2201 (m.word / 65536 % 64)))) (m.word / 2 ^ 22 % 1024)) (said ((colw id).put (key 0x2203 1) 0x4000) 0x208F0011) (⟨0x208F0011, 9000000000⟩)) := by
  refine ⟨shape_of (by decide +kernel), ?_⟩
  decide +kernel

theorem test_FaultMessagesClassifyAndReact_4 : ShapeWf (said (((colw fun c => { c with cfgs := [(1, sourceDefault 1 + 1 + 256)] }).setSource 1 fun x => { x with times := [8000000000] }).put (key 0x2200 9) 0) 0x0043005F) ∧
    ((fun (s : State) (m : Msg) (u : Nat) => (fun src => (fun base => Live s ∧ messageNext s = some m ∧ m.word < 2 ^ 32 ∧
        allocated src = true ∧ Comes s m ∧ inShadow s src m.at_ = false ∧ base = 0 ∧ s.rd (key 0x2200 9) = 0 ∧
        byteAt (sourceCfg s src) 1 = 1 ∧ byteAt (sourceCfg s src) 0 = 2 ∧ (s.sourceAt src).times = [u] ∧ u ≤ m.at_ ∧
        m.at_ ≤ u + bytesAt (sourceCfg s src) 4 4 * 1000000 ∧ ran (exec (.faultMessage) s) = true ∧
        (fun (t : State) => srcBit t 0 src = true ∧ (t.sourceAt src).messages = ((s.sourceAt src).messages + 1) % 2 ^ 32 ∧
        (t.sourceAt src).consequential = (s.sourceAt src).consequential ∧ t.rd (key 0x2200 0x0D) = (s.rd (key 0x2200 0x0D) + 1) % 2 ^ 32 ∧
        srcBit t 1 src = true ∧ bit (t.rd (key 0x2200 2)) 4 = true ∧
        (t.sourceAt src).promotions = 1) (after (exec (.faultMessage) s))) (s.rd (key 0x2201 (m.word / 65536 % 64)))) (m.word / 2 ^ 22 % 1024)) (said (((colw fun c => { c with cfgs := [(1, sourceDefault 1 + 1 + 256)] }).setSource 1 fun x => { x with times := [8000000000] }).put (key 0x2200 9) 0) 0x0043005F) (⟨0x0043005F, 9000000000⟩) (8000000000)) := by
  refine ⟨shape_of (by decide +kernel), ?_⟩
  decide +kernel

theorem test_FaultMessagesClassifyAndReact_5 : ShapeWf (said (((colw id).put (key 0x2200 8) 0x8001).put (key 0x2201 0x1E) 3) 0x01DE0502) ∧
    ((fun (s : State) (m : Msg) => (fun src => (fun base => Live s ∧ messageNext s = some m ∧ m.word < 2 ^ 32 ∧ allocated src = true ∧
        Comes s m ∧ inShadow s src m.at_ = false ∧ base = 3 ∧ byteAt (sourceCfg s src) 1 ≤ 3 ∧ byteAt (sourceCfg s src) 2 = 0 ∧
        s.rd (key 0x2200 8) < 65536 ∧ ran (exec (.faultMessage) s) = true ∧ (fun (t : State) => srcBit t 0 src = true ∧
        (t.sourceAt src).messages = ((s.sourceAt src).messages + 1) % 2 ^ 32 ∧
        (t.sourceAt src).consequential = (s.sourceAt src).consequential ∧ t.rd (key 0x2200 0x0D) = (s.rd (key 0x2200 0x0D) + 1) % 2 ^ 32 ∧
        t.col.fault = true ∧ t.col.quietFrom = some m.at_ ∧
        t.rd (key 0x2200 0x10) = (if s.col.fault then s.rd (key 0x2200 0x10) else (s.rd (key 0x2200 0x10) + 1) % 2 ^ 32) ∧
        srcBit t 3 src = true ∧ bit (t.rd (key 0x2200 2)) 2 = true ∧
        t.col.groups = 0x8001) (after (exec (.faultMessage) s))) (s.rd (key 0x2201 (m.word / 65536 % 64)))) (m.word / 2 ^ 22 % 1024)) (said (((colw id).put (key 0x2200 8) 0x8001).put (key 0x2201 0x1E) 3) 0x01DE0502) (⟨0x01DE0502, 9000000000⟩)) := by
  refine ⟨shape_of (by decide +kernel), ?_⟩
  decide +kernel

theorem test_FaultMessagesClassifyAndReact_6 : ShapeWf (said (colw fun c => { c with shadows := [⟨[2, 3], 0⟩, ⟨[130], 8999990000⟩] }) 0x20900010) ∧
    ((fun (s : State) (m : Msg) => (fun src => Live s ∧ messageNext s = some m ∧ m.word < 2 ^ 32 ∧ allocated src = true ∧ Comes s m ∧
        (∃ h ∈ s.col.shadows, src ∈ h.covers ∧ m.at_ ≤ h.from_ + 10000) ∧ ran (exec (.faultMessage) s) = true ∧
        (fun (t : State) => (t.sourceAt src).consequential = ((s.sourceAt src).consequential + 1) % 2 ^ 32 ∧
        (t.sourceAt src).messages = (s.sourceAt src).messages ∧ (t.sourceAt src).times = (s.sourceAt src).times ∧
        t.rd (key 0x2200 0x0E) = (s.rd (key 0x2200 0x0E) + 1) % 2 ^ 32 ∧ bit (t.rd (key 0x2200 2)) 6 = true ∧ (∀ level, level < 4 →
        srcBit t level src = srcBit s level src) ∧ t.col.fault = s.col.fault ∧ t.col.quietFrom = s.col.quietFrom ∧
        t.col.groups = s.col.groups ∧ t.col.holds = s.col.holds ∧
        t.col.shadows = s.col.shadows) (after (exec (.faultMessage) s))) (m.word / 2 ^ 22 % 1024)) (said (colw fun c => { c with shadows := [⟨[2, 3], 0⟩, ⟨[130], 8999990000⟩] }) 0x20900010) (⟨0x20900010, 9000000000⟩)) := by
  refine ⟨shape_of (by decide +kernel), ?_⟩
  decide +kernel

theorem test_FaultMessagesClassifyAndReact_7 : ShapeWf (said ((colw id).setLink 6 fun l => { l with state := .down }) 0x20900010) ∧
    ((fun (s : State) (m : Msg) => Live s ∧ s.faultIn = [m] ∧
        messageComes s m = false) (said ((colw id).setLink 6 fun l => { l with state := .down }) 0x20900010) (⟨0x20900010, 9000000000⟩)) := by
  refine ⟨shape_of (by decide +kernel), ?_⟩
  decide +kernel

theorem test_FaultMessagesClassifyAndReact_8 : ShapeWf ((colw id).put (key 0x2200 9) 0) ∧
    ((fun (s : State) (via : Iface) (d : Datum) => (fun src => Live s ∧ Accepts s via (0x2200 + 0) 0x0B d ∧ inShadow s src s.now = false ∧
        s.rd (key 0x2201 (d.val / 65536 % 64)) < 2 ∧ s.rd (key 0x2200 9) = 0 ∧ byteAt (sourceCfg s src) 1 = 0 ∧
        ran (exec (.inject via d) s) = true ∧ (fun (t : State) => srcBit t 0 src = true ∧
        (t.sourceAt src).messages = ((s.sourceAt src).messages + 1) % 2 ^ 32 ∧ (t.sourceAt src).times.head? = some s.now ∧
        bit (t.rd (key 0x2200 2)) 8 = true ∧
        t.rd (key 0x2200 0x0D) = (s.rd (key 0x2200 0x0D) + 1) % 2 ^ 32) (after (exec (.inject via d) s))) (d.val / 2 ^ 22 % 1024)) ((colw id).put (key 0x2200 9) 0) (.spi) (⟨4, 0x03B80000⟩)) := by
  refine ⟨shape_of (by decide +kernel), ?_⟩
  decide +kernel

theorem test_FaultsAreAcknowledgedAndLeft_1 : ShapeWf (((colw id).put (key 0x2205 32) 0xFF).put (key 0x2204 32) 0xFF) ∧
    ((fun (s : State) (via : Iface) (level : Nat) (w : Nat) (d : Datum) => Live s ∧ 1 ≤ level ∧ level ≤ 3 ∧ w < 32 ∧
        Accepts s via (0x2202 + level) (w + 1) d ∧ ran (exec (.unackW1cWrite via level w d) s) = true ∧
        (fun (t : State) => t.rd (key 0x2205 32) = 0xF0 ∧ t.rd (key 0x2204 32) = 0xFF ∧
        t.col = s.col) (after (exec (.unackW1cWrite via level w d) s))) (((colw id).put (key 0x2205 32) 0xFF).put (key 0x2204 32) 0xFF) (.spi) (3) (31) (⟨4, 0x0F⟩)) := by
  refine ⟨shape_of (by decide +kernel), ?_⟩
  decide +kernel

theorem test_FaultsAreAcknowledgedAndLeft_2 : ShapeWf (((colw id).put (key 0x2205 32) 0xFF).put (key 0x2202 32) 0xFF) ∧
    ((fun (s : State) (via : Iface) => Live s ∧ Accepts s via (0x2200 + 0) 0x0A ⟨1, 1⟩ ∧ ran (exec (.ackAll via) s) = true ∧
        (fun (t : State) => t.rd (key 0x2205 32) = 0 ∧
        t.rd (key 0x2202 32) = 0xFF) (after (exec (.ackAll via) s))) (((colw id).put (key 0x2205 32) 0xFF).put (key 0x2202 32) 0xFF) (.spi)) := by
  refine ⟨shape_of (by decide +kernel), ?_⟩
  decide +kernel

theorem test_FaultsAreAcknowledgedAndLeft_3 : ShapeWf (((colw id).put (key 0x2205 32) 0xFF).put (key 0x2202 32) 0xFF) ∧
    ((fun (s : State) (via : Iface) => Live s ∧ Accepts s via (0x2200 + 0) 0x0A ⟨1, 3⟩ ∧ ran (exec (.clearSticky via) s) = true ∧
        (fun (t : State) => t.rd (key 0x2205 32) = 0xFF ∧
        t.rd (key 0x2202 32) = 0) (after (exec (.clearSticky via) s))) (((colw id).put (key 0x2205 32) 0xFF).put (key 0x2202 32) 0xFF) (.spi)) := by
  refine ⟨shape_of (by decide +kernel), ?_⟩
  decide +kernel

theorem test_FaultsAreAcknowledgedAndLeft_4 : ShapeWf (((colw id).setSource 911 fun x => { x with messages := 4 }).put (key 0x2200 0x10) 3) ∧
    ((fun (s : State) (via : Iface) => Live s ∧ Accepts s via (0x2200 + 0) 0x0A ⟨1, 4⟩ ∧ ran (exec (.collectorClearCounters via) s) = true ∧
        (fun (t : State) => (∀ x ∈ t.col.sources, x.messages = 0 ∧ x.promotions = 0 ∧ x.consequential = 0 ∧ x.escalations = 0) ∧
        t.col.fault = s.col.fault ∧ t.rd (key 0x2200 0x0C) = 0 ∧ t.rd (key 0x2200 0x0D) = 0 ∧ t.rd (key 0x2200 0x0E) = 0 ∧
        t.rd (key 0x2200 0x10) = 0) (after (exec (.collectorClearCounters via) s))) (((colw id).setSource 911 fun x => { x with messages := 4 }).put (key 0x2200 0x10) 3) (.spi)) := by
  refine ⟨shape_of (by decide +kernel), ?_⟩
  decide +kernel

theorem test_FaultsAreAcknowledgedAndLeft_5 : ShapeWf ((((colw fun c => { c with fault := true, groups := 4, holds := 5, quietFrom := some 9000000000 }).setOut 95 fun o => { o with forced := true }).put (key 0x305F 0x0B) 2).put (key 0x305F 1) 2) ∧
    ((fun (s : State) (via : Iface) => Live s ∧ Accepts s via (0x2200 + 0) 0x0A ⟨1, 2⟩ ∧ s.col.fault = true ∧ s.boot.booting = false ∧
        ran (exec (.recover via) s) = true ∧ (fun (t : State) => t.col.fault = false ∧ t.col.groups = 0 ∧ t.col.holds = 0 ∧
        t.col.quietFrom = none ∧ (t.outAt 95).forced = false ∧ t.rd (key 0x2200 0x0C) = (s.rd (key 0x2200 0x0C) + 1) % 2 ^ 32 ∧
        bit (t.rd (key 0x2200 2)) 5 = true ∧ t.col.emcy.length = 1 ∧
        (t.outAt 95).unaligned = true) (after (exec (.recover via) s))) ((((colw fun c => { c with fault := true, groups := 4, holds := 5, quietFrom := some 9000000000 }).setOut 95 fun o => { o with forced := true }).put (key 0x305F 0x0B) 2).put (key 0x305F 1) 2) (.spi)) := by
  refine ⟨shape_of (by decide +kernel), ?_⟩
  decide +kernel

theorem test_FaultsAreAcknowledgedAndLeft_6 : ShapeWf (colw id) ∧
    ((fun (s : State) (via : Iface) => (fun w => Live s ∧ Accepts s via (0x2200 + 0) 0x0A ⟨1, 2⟩ ∧ s.col.fault = false ∧
        ran (exec (.recover via) s) = true ∧
        (fun (t : State) => t.col = s.col) (after (exec (.recover via) s))) (journalled s via (0x2200 + 0) 0x0A ⟨1, 2⟩)) (colw id) (.spi)) := by
  refine ⟨shape_of (by decide +kernel), ?_⟩
  decide +kernel

theorem test_FaultsAreAcknowledgedAndLeft_7 : ShapeWf ((((colw fun c => { c with fault := true, groups := 4, holds := 5, quietFrom := some 9000000000 }).setOut 95 fun o => { o with forced := true }).put (key 0x305F 0x0B) 2).put (key 0x305F 1) 2) ∧
    ((fun (s : State) => Live s ∧ s.col.fault = true ∧ s.rd (key 0x2200 6) ≠ 0 ∧ s.col.quietFrom.isSome = true ∧ s.boot.booting = false ∧
        ran (exec (.quietPeriodExpiry) s) = true ∧ (fun (t : State) => t.col.fault = false ∧ t.col.groups = 0 ∧ t.col.holds = 0 ∧
        t.col.quietFrom = none ∧ (t.outAt 95).forced = false ∧ t.rd (key 0x2200 0x0C) = (s.rd (key 0x2200 0x0C) + 1) % 2 ^ 32 ∧
        bit (t.rd (key 0x2200 2)) 5 = true ∧ t.col.emcy.length = 1 ∧
        (t.outAt 95).unaligned = true) (after (exec (.quietPeriodExpiry) s))) ((((colw fun c => { c with fault := true, groups := 4, holds := 5, quietFrom := some 9000000000 }).setOut 95 fun o => { o with forced := true }).put (key 0x305F 0x0B) 2).put (key 0x305F 1) 2)) := by
  refine ⟨shape_of (by decide +kernel), ?_⟩
  decide +kernel

theorem test_FaultsAreAcknowledgedAndLeft_8 : ShapeWf ((colw fun c => { c with fault := true, quietFrom := some 9000000000 }).put (key 0x2200 6) 0) ∧
    ((fun (s : State) => Live s ∧ ((s.col.fault = false ∨ s.rd (key 0x2200 6) = 0)) ∧ ran (exec (.quietPeriodExpiry) s) = true ∧
        (fun (t : State) => t.col.fault = true) (after (exec (.quietPeriodExpiry) s))) ((colw fun c => { c with fault := true, quietFrom := some 9000000000 }).put (key 0x2200 6) 0)) := by
  refine ⟨shape_of (by decide +kernel), ?_⟩
  decide +kernel

theorem test_FaultsAreAcknowledgedAndLeft_9 : ShapeWf (colw fun c => { c with shadows := [⟨[1], 9999990000⟩, ⟨[2], 9999989999⟩] }) ∧
    ((fun (s : State) => Live s ∧ ran (exec (.shadowExpiry) s) = true ∧
        (fun (t : State) => t.col.shadows = [⟨[1], 9999990000⟩]) (after (exec (.shadowExpiry) s))) (colw fun c => { c with shadows := [⟨[1], 9999990000⟩, ⟨[2], 9999989999⟩] })) := by
  refine ⟨shape_of (by decide +kernel), ?_⟩
  decide +kernel

theorem test_FaultsAreAcknowledgedAndLeft_10 : ShapeWf (((colw id).put (key 0x2210 1) 911).setSource 911 fun x => { x with times := [5] }) ∧
    ((fun (s : State) (via : Iface) (d : Datum) => (fun src => Live s ∧ Accepts s via (0x2210 + 0) 2 d ∧ d.val < 2 ^ 320 ∧
        allocated src = true ∧ storeWf sourceDefault s.col.cfgs = true ∧ ran (exec (.sourceConfigWrite via d) s) = true ∧
        (fun (t : State) => sourceCfg t 911 = 2 + 256 + 65536 + 500 * 2 ^ 32 + 3 * 2 ^ 64 ∧
        (t.sourceAt 911).times = []) (after (exec (.sourceConfigWrite via d) s))) (s.rd (key 0x2210 1))) (((colw id).put (key 0x2210 1) 911).setSource 911 fun x => { x with times := [5] }) (.spi) (⟨40, 2 + 256 + 65536 + 500 * 2 ^ 32 + 3 * 2 ^ 64 + 0x0F * 2 ^ 24⟩)) := by
  refine ⟨shape_of (by decide +kernel), ?_⟩
  decide +kernel

theorem test_FaultsAreAcknowledgedAndLeft_11 : ShapeWf (((colw id).setSource 911 fun x => { x with messages := 4, escalations := 1 }).put (key 0x2202 29) (2 ^ 15)) ∧
    ((fun (s : State) (via : Iface) (d : Datum) => Live s ∧ Accepts s via (0x2210 + 0) 1 d ∧ ran (exec (.sourceSelectWrite via d) s) = true ∧
        (fun (t : State) => t.rd (key 0x2210 1) = d.val ∧ t.rd (key 0x2210 3) = sourceCounts s d.val ∧
        t.rd (key 0x2210 4) = sourceState s d.val ∧
        t.col = s.col) (after (exec (.sourceSelectWrite via d) s))) (((colw id).setSource 911 fun x => { x with messages := 4, escalations := 1 }).put (key 0x2202 29) (2 ^ 15)) (.spi) (⟨2, 911⟩)) := by
  refine ⟨shape_of (by decide +kernel), ?_⟩
  decide +kernel

theorem test_FaultsAreAcknowledgedAndLeft_12 : ShapeWf ((colw fun c => { c with fabric := [9], tries := 3 }).setFab fun x => { x with lsnOut := some 32769, lsnCount := 1 }) ∧
    ((fun (s : State) => Live s ∧ s.col.fabric ≠ [] ∧ ((s.fab.lsnOut = none ∨ s.col.tries < 4)) ∧ ran (exec (.fabricListenerSend) s) = true ∧
        (fun (t : State) => t.col.tries = s.col.tries + 1 ∧ t.col.fabric = s.col.fabric ∧
        t.fab.lsnOut.isSome = true) (after (exec (.fabricListenerSend) s))) ((colw fun c => { c with fabric := [9], tries := 3 }).setFab fun x => { x with lsnOut := some 32769, lsnCount := 1 })) := by
  refine ⟨shape_of (by decide +kernel), ?_⟩
  decide +kernel

theorem test_FaultsAreAcknowledgedAndLeft_13 : ShapeWf ((colw fun c => { c with fabric := [9, 10], tries := 4 }).setFab fun x => { x with lsnOut := some 32769, lsnCount := 1 }) ∧
    ((fun (s : State) => Live s ∧ s.col.fabric ≠ [] ∧ s.fab.lsnOut.isSome = true ∧ 4 ≤ s.col.tries ∧
        ran (exec (.fabricListenerSend) s) = true ∧ (fun (t : State) => t.col.fabric = s.col.fabric.drop 1 ∧ t.col.tries = 0 ∧
        t.rd (key 0x2220 8) = (s.rd (key 0x2220 8) + 1) % 2 ^ 32 ∧
        t.fab.lsnOut = none) (after (exec (.fabricListenerSend) s))) ((colw fun c => { c with fabric := [9, 10], tries := 4 }).setFab fun x => { x with lsnOut := some 32769, lsnCount := 1 })) := by
  refine ⟨shape_of (by decide +kernel), ?_⟩
  decide +kernel

theorem test_FaultsAreAcknowledgedAndLeft_14 : ShapeWf (colw fun c => { c with inbox := List.replicate 255 1 }) ∧
    ((fun (s : State) (via : Iface) (d : Datum) => Live s ∧ Accepts s via (0x2230 + 0) 1 d ∧ s.col.inbox.length < 256 ∧
        ran (exec (.inboxWrite via d) s) = true ∧ (fun (t : State) => t.col.inbox = s.col.inbox ++ [d.val % 2 ^ 64] ∧
        t.rd (key 0x2230 4) = s.rd (key 0x2230 4)) (after (exec (.inboxWrite via d) s))) (colw fun c => { c with inbox := List.replicate 255 1 }) (.spi) (⟨8, 2 ^ 64 - 1⟩)) := by
  refine ⟨shape_of (by decide +kernel), ?_⟩
  decide +kernel

theorem test_FaultsAreAcknowledgedAndLeft_15 : ShapeWf (colw fun c => { c with inbox := List.replicate 256 1 }) ∧
    ((fun (s : State) (via : Iface) (d : Datum) => Live s ∧ Accepts s via (0x2230 + 0) 1 d ∧ s.col.inbox.length = 256 ∧
        ran (exec (.inboxWrite via d) s) = true ∧ (fun (t : State) => t.col.inbox = s.col.inbox ∧
        t.rd (key 0x2230 4) = (s.rd (key 0x2230 4) + 1) % 2 ^ 32) (after (exec (.inboxWrite via d) s))) (colw fun c => { c with inbox := List.replicate 256 1 }) (.spi) (⟨8, 2⟩)) := by
  refine ⟨shape_of (by decide +kernel), ?_⟩
  decide +kernel

theorem test_FaultsAreAcknowledgedAndLeft_16 : ShapeWf (colw fun c => { c with inbox := [7, 8] }) ∧
    ((fun (s : State) (via : Iface) (v : Nat) (r : List Nat) => Live s ∧ viaOn s via = true ∧ s.boot.open_ = true ∧ s.col.inbox = v :: r ∧
        ran (exec (.inboxRead via) s) = true ∧ (fun (t : State) => t.col.inbox = r ∧
        t.out = .answer via 0x2230 2 0 ⟨8, v⟩ :: s.out) (after (exec (.inboxRead via) s))) (colw fun c => { c with inbox := [7, 8] }) (.spi) (7) ([8])) := by
  refine ⟨shape_of (by decide +kernel), ?_⟩
  decide +kernel

theorem test_FaultsAreAcknowledgedAndLeft_17 : ShapeWf (colw id) ∧
    ((fun (s : State) (via : Iface) => Live s ∧ viaOn s via = true ∧ s.boot.open_ = true ∧ s.col.inbox = [] ∧
        ran (exec (.inboxRead via) s) = true ∧ (fun (t : State) => t.col = s.col ∧
        t.out = .answer via 0x2230 2 0 ⟨8, 2 ^ 64 - 1⟩ :: s.out) (after (exec (.inboxRead via) s))) (colw id) (.spi)) := by
  refine ⟨shape_of (by decide +kernel), ?_⟩
  decide +kernel

theorem test_FaultsAreAcknowledgedAndLeft_18 : ShapeWf (colw id) ∧
    ((fun (s : State) (temps : List Int) (d : Nat) => Live s ∧ d < 8 ∧ dieReachable s d = true ∧ s.col.hot.length = 8 ∧
        (s.rd (key 0x2200 0x0F) : Int) ≤ temps.getD d 0 ∧ temps.getD d 0 < 32768 ∧ s.col.hot.getD d false = false ∧
        ran (exec (.dieTempRefresh temps) s) = true ∧ (fun (t : State) => t.rdI 16 (key 0x2012 (d + 1)) = temps.getD d 0 ∧
        t.col.hot.getD d false = true ∧
        ⟨faultWord d 0x0F 0x39 0, s.now⟩ ∈ t.faultIn) (after (exec (.dieTempRefresh temps) s))) (colw id) ([0, 0, 0, 0, 0, 0, 0, 3000]) (7)) := by
  refine ⟨shape_of (by decide +kernel), ?_⟩
  decide +kernel

theorem test_FaultsAreAcknowledgedAndLeft_19 : ShapeWf (colw fun c => { c with hot := List.replicate 8 true }) ∧
    ((fun (s : State) (temps : List Int) => Live s ∧ ((∀ d, d < 8 → dieReachable s d = true)) ∧ s.col.hot = List.replicate 8 true ∧
        80 ≤ s.rd (key 0x2200 0x0F) ∧ ran (exec (.dieTempRefresh temps) s) = true ∧ (fun (t : State) => t.faultIn = s.faultIn ∧
        t.col.hot.getD 1 true = false) (after (exec (.dieTempRefresh temps) s))) (colw fun c => { c with hot := List.replicate 8 true }) ([2000, -5])) := by
  refine ⟨shape_of (by decide +kernel), ?_⟩
  decide +kernel

theorem test_ResetIsEnteredAndReleased_1 :
    ((fun (s : State) (rail : Nat) (lost : Bool) (isSealed : Bool) => ran (exec (.supplyValidChange rail false lost isSealed) s) = true ∧
        (fun (t : State) => t.nv.supplies = s.nv.supplies.set rail false ∧
        t.resetReq = some (dueCause s.resetReq (if lost then 1 else 3)) ∧ t.boot.causes = (if lost then 1 else 3) :: s.boot.causes ∧
        t.nv.slots = [] ∧ t.nv.cells = s.nv.cells ∧ t.nv.array = s.nv.array ∧
        t.nv.area_ = (if isSealed then s.nv.area_ else s.nv.area_.map fun _ => { pages := [], writes := 0 })) (after (exec (.supplyValidChange rail false lost isSealed) s))) (nvw fun v => { hostTwo v with area_ := some { pages := [(5, 6)] } }) (10) (false) (false)) := by
  decide +kernel

theorem test_ResetIsEnteredAndReleased_2 :
    ((fun (s : State) (rail : Nat) (lost : Bool) (isSealed : Bool) => s.nv.powerFail = false ∧
        ran (exec (.supplyValidChange rail true lost isSealed) s) = true ∧
        (fun (t : State) => t.nv = { s.nv with supplies := s.nv.supplies.set rail true } ∧ t.resetReq = s.resetReq ∧
        t.boot = s.boot) (after (exec (.supplyValidChange rail true lost isSealed) s))) ((inReset [1]).nvSet fun v => { v with supplies := v.supplies.set 10 false }) (10) (false) (false)) := by
  decide +kernel

theorem test_ResetIsEnteredAndReleased_3 :
    ((fun (s : State) => s.boot.rstLow = false ∧ ran (exec (.rstNLow true) s) = true ∧ (fun (t : State) => t.boot.rstLow = true ∧
        t.resetReq = some (dueCause s.resetReq 2) ∧ t.boot.causes = 2 :: s.boot.causes ∧
        t.nv = s.nv) (after (exec (.rstNLow true) s))) (ready)) := by
  decide +kernel

theorem test_ResetIsEnteredAndReleased_4 :
    ((fun (s : State) => ran (exec (.rstNLow false) s) = true ∧ (fun (t : State) => t.boot = { s.boot with rstLow := false } ∧
        t.resetReq = s.resetReq ∧
        t.nv = s.nv) (after (exec (.rstNLow false) s))) ((inReset [2]).setBoot fun b => { b with rstLow := true })) := by
  decide +kernel

theorem test_ResetIsEnteredAndReleased_5 :
    ((fun (s : State) => s.boot.tap = false ∧ ran (exec (.jtagResetInstruction true) s) = true ∧ (fun (t : State) => t.boot.tap = true ∧
        t.resetReq = some (dueCause s.resetReq 6) ∧ t.boot.causes = 6 :: s.boot.causes ∧
        t.nv = s.nv) (after (exec (.jtagResetInstruction true) s))) (ready)) := by
  decide +kernel

theorem test_ResetIsEnteredAndReleased_6 :
    ((fun (s : State) => ran (exec (.jtagResetInstruction false) s) = true ∧ (fun (t : State) => t.boot = { s.boot with tap := false } ∧
        t.resetReq = s.resetReq ∧
        t.nv = s.nv) (after (exec (.jtagResetInstruction false) s))) ((inReset [6]).setBoot fun b => { b with tap := true })) := by
  decide +kernel

theorem test_ResetIsEnteredAndReleased_7 :
    ((fun (s : State) (c : Nat) => s.boot.inReset = false ∧ s.resetReq = some c ∧ c ≠ 1 ∧ c ≠ 3 ∧ s.boot.causes.contains 1 = false ∧
        s.boot.causes.contains 3 = false ∧ s.nv.running = none ∧ slotsOf s .host ≠ [] ∧ slotsOf s .record = [] ∧ slotsOf s .download = [] ∧
        s.nv.hostWrites ≤ s.nv.sram.dev.pending ∧ s.nv.journal.staged = [] ∧ s.nv.events.staged = [] ∧ ran (exec (.resetAssert) s) = true ∧
        (fun (t : State) => t.od = State.reset.od ∧ t.dr = State.reset.dr ∧ t.ctxs = State.reset.ctxs ∧ t.boot.inReset = true ∧
        t.nv.slots = [] ∧ t.nv.sram.dev.rolledBack = 2 ∧
        t.nv.sram.dev.pending = 0) (after (exec (.resetAssert) s))) ({ nvw hostTwo with resetReq := some 5, boot := { ready.boot with causes := [5] } }) (5)) := by
  decide +kernel

theorem test_ResetIsEnteredAndReleased_8 :
    ((fun (s : State) (c : Nat) (z : Seal) => s.boot.inReset = false ∧ s.resetReq = some c ∧ c ≠ 1 ∧ c ≠ 3 ∧ s.boot.causes.contains 1 = false ∧
        s.boot.causes.contains 3 = false ∧ storeWf (fun _ => (255 : Byte)) s.nv.cells = true ∧
        s.nv.running = some (.commit .host z.writes) ∧ s.nv.area_ = some z ∧ (z.pages.map (fun q => q.1)).Nodup ∧
        z.writes ≤ s.nv.sram.dev.pending ∧ s.nv.journal.staged = [] ∧ s.nv.events.staged = [] ∧ ran (exec (.resetAssert) s) = true ∧
        (fun (t : State) => storeRd 0xFF t.nv.cells (256 * 8191) = 0x77 ∧ t.nv.area_ = none ∧
        t.nv.sram.dev.committed = 12) (after (exec (.resetAssert) s))) ({ nvw (fun v => { hostTwo v with running := some (.commit .host 2), area_ := some { pages := [(8191, 0x77)], writes := 2 } }) with resetReq := some 2, boot := { ready.boot with causes := [2] } }) (2) ({ pages := [(8191, 0x77)], writes := 2 })) := by
  decide +kernel

theorem test_ResetIsEnteredAndReleased_9 :
    ((fun (s : State) => s.boot.inReset = false ∧ ((s.resetReq = some 1 ∨ s.resetReq = some 3)) ∧ ran (exec (.resetAssert) s) = true ∧
        (fun (t : State) => t.boot.inReset = true ∧ t.cal.area = 0 ∧ t.nv.cells = s.nv.cells ∧ t.nv.array = s.nv.array ∧
        t.nv.area_ = s.nv.area_ ∧ t.nv.sram = s.nv.sram) (after (exec (.resetAssert) s))) ({ nvw hostTwo with resetReq := some 3 })) := by
  decide +kernel

theorem test_ResetIsEnteredAndReleased_10 :
    ((fun (s : State) => s.boot.inReset = false ∧ s.resetReq = none ∧ s.boot.rstLow = false ∧ s.boot.tap = false ∧
        (∀ x ∈ s.nv.supplies, x = true) ∧ ran (exec (.resetAssert) s) = true ∧
        (fun (t : State) => t.boot.inReset = false) (after (exec (.resetAssert) s))) (nvw hostTwo)) := by
  decide +kernel

theorem test_ResetIsEnteredAndReleased_11 :
    ((fun (s : State) => s.boot.inReset = true ∧ ((s.boot.rstLow = true ∨ s.boot.tap = true ∨ false ∈ s.nv.supplies)) ∧
        ran (exec (.resetRelease) s) = true ∧
        (fun (t : State) => t.boot.inReset = true) (after (exec (.resetRelease) s))) ((inReset [1]).nvSet fun v => { v with supplies := v.supplies.set 10 false })) := by
  decide +kernel

theorem test_ResetIsEnteredAndReleased_12 :
    ((fun (s : State) (c : Nat) => s.boot.inReset = true ∧ s.boot.rstLow = false ∧ s.boot.tap = false ∧ (∀ x ∈ s.nv.supplies, x = true) ∧
        c ∈ s.boot.causes ∧ c ∈ [1, 3, 2, 6, 7, 4, 5] ∧
        (∀ x ∈ s.boot.causes, [1, 3, 2, 6, 7, 4, 5].idxOf c ≤ [1, 3, 2, 6, 7, 4, 5].idxOf x) ∧ ran (exec (.resetRelease) s) = true ∧
        (fun (t : State) => t.host.mode = s.boot.strapMode ∧ t.host.nid = s.boot.strapNid ∧ t.boot.inReset = false ∧
        t.boot.booting = true ∧ t.boot.done = List.replicate 8 false ∧ t.rd (key 0x2000 8) = c ∧ t.rd (key 0x2046 1) = 1 ∧
        t.rd (key 0x2046 3) = 0 ∧ t.rd (key 0x2046 4) = 8 ∧ t.resetReq = none ∧
        t.nv = { s.nv with powerFail := s.nv.pfail, pfBoot := s.nv.pfail } ∧ t.dp = s.dp ∧
        t.col = s.col) (after (exec (.resetRelease) s))) (((inReset [5, 4, 7, 6, 2]).setBoot fun b => { b with strapMode := 7, strapNid := 127 }).nvSet fun v => { v with pfail := true }) (2)) := by
  decide +kernel

theorem test_BootRunsItsSteps_1 :
    ((fun (s : State) (mode : Nat) (nid : Nat) (sosc : Bool) => s.boot.done.length = 8 ∧ stepTurn s 0 [] = true ∧ mode < 8 ∧ nid < 128 ∧
        ran (exec (.bootClocksDone mode nid sosc) s) = true ∧ (fun (t : State) => t.host = s.host ∧ t.boot.strapMode = mode ∧
        t.boot.strapNid = nid ∧ t.dp.mxo = !sosc ∧ t.chan.base.sosc = sosc ∧ t.chan.base.inUse = s.chan.base.inUse ∧
        t.boot.done = s.boot.done.set 0 true ∧
        t.rd (key 0x2046 3) = (t.boot.done.filter id).length) (after (exec (.bootClocksDone mode nid sosc) s))) (bootw [1, 2]) (7) (127) (false)) := by
  decide +kernel

theorem test_BootRunsItsSteps_2 :
    ((fun (s : State) => s.boot.done.length = 8 ∧ stepTurn s 1 [] = true ∧ s.nv.area_ = none ∧ s.rd (key 0x2000 8) ≠ 1 ∧
        s.rd (key 0x2000 8) ≠ 3 ∧ s.nv.journal.staged = [] ∧ ran (exec (.bootRecoveryDone) s) = true ∧
        (fun (t : State) => t.nv.sram.dev.bootCount = (s.nv.sram.dev.bootCount + 1) % 2 ^ 32 ∧
        t.rd (key 0x2000 7) = t.nv.sram.dev.bootCount ∧ t.rd (key 0x2300 9) = 0 ∧ t.nv.busy = false ∧ t.nv.cells = s.nv.cells ∧
        t.nv.sram.comm = s.nv.sram.comm ∧
        (t.nv.journal.staged.head?.map fun r => (byteAt r.val 14, bytesAt r.val 16 2, bytesAt r.val 28 4)) = some (7, s.rd (key 0x2000 8) % 65536, t.nv.sram.dev.bootCount) ∧ t.boot.done = s.boot.done.set 1 true ∧ t.rd (key 0x2046 3) = (t.boot.done.filter id).length) (after (exec (.bootRecoveryDone) s))) ((((bootw [0]).put (key 0x2000 8) 5).devSet fun d => { d with bootCount := 2 ^ 32 - 1 }).nvSet fun v => { v with journal := { v.journal with waiting := [⟨9, 0⟩] } })) := by
  decide +kernel

theorem test_BootRunsItsSteps_3 :
    ((fun (s : State) => s.boot.done.length = 8 ∧ stepTurn s 1 [] = true ∧ s.nv.area_ = none ∧ s.nv.decay = [] ∧
        ((s.rd (key 0x2000 8) = 1 ∨ s.rd (key 0x2000 8) = 3)) ∧ s.nv.journal.staged = [] ∧ s.nv.journal.waiting = [] ∧
        ran (exec (.bootRecoveryDone) s) = true ∧ (fun (t : State) => t.nv.sram.storeCount = 4 ∧ t.nv.sram.dev.bootCount = 7 ∧
        t.nv.stale = true ∧ t.nv.sram.dev.rolledBack = 7 ∧
        t.cal.area = 77) (after (exec (.bootRecoveryDone) s))) ((bootw [0]).nvSet fun v => { v with array := some { storeCount := 4, dev := { bootCount := 6, accepted := 9, committed := 2, rolledBack := 3, pending := 4 }, area := 77 } })) := by
  decide +kernel

theorem test_BootRunsItsSteps_4 :
    ((fun (s : State) (z : Seal) => s.boot.done.length = 8 ∧ stepTurn s 1 [] = true ∧ storeWf (fun _ => (255 : Byte)) s.nv.cells = true ∧
        s.nv.area_ = some z ∧ badGroups s 0x40000000 4160 = [] ∧ (z.pages.map (fun q => q.1)).Nodup ∧
        ran (exec (.bootRecoveryDone) s) = true ∧ (fun (t : State) => storeRd 0xFF t.nv.cells (256 * 6144) = 5 ∧ t.nv.area_ = none ∧
        t.rd (key 0x2300 9) = 1 ∧
        t.faultIn.length = 2) (after (exec (.bootRecoveryDone) s))) ((bootw []).nvSet fun v => { v with area_ := some { pages := [(6144, 5)], writes := 1 } }) ({ pages := [(6144, 5)], writes := 1 })) := by
  decide +kernel

theorem test_BootRunsItsSteps_5 :
    ((fun (s : State) => s.boot.done.length = 8 ∧ stepTurn s 2 [1] = true ∧ imageRuns s s.nv.sram.dev.bootImage = true ∧
        s.nv.decay = []) (imageIn (bootw [0, 1]) 0)) := by
  decide +kernel

theorem test_BootRunsItsSteps_6 :
    ((fun (s : State) => s.boot.done.length = 8 ∧ stepTurn s 2 [1] = true ∧ imageRuns s s.nv.sram.dev.bootImage = false ∧
        imageRuns s (1 - s.nv.sram.dev.bootImage) = true) (imageIn (bootw [0, 1]) 1)) := by
  decide +kernel

theorem test_BootRunsItsSteps_7 :
    ((fun (s : State) => s.boot.done.length = 8 ∧ stepTurn s 2 [1] = true ∧ imageRuns s s.nv.sram.dev.bootImage = false ∧
        imageRuns s (1 - s.nv.sram.dev.bootImage) = false ∧ ran (exec (.bootFirmwareDone) s) = true ∧
        (fun (t : State) => t.boot.loader = true ∧ t.boot.done = s.boot.done ∧ t.nv.flash = 2 ∧ t.rd (key 0x2046 1) = 3 ∧
        t.rd (key 0x2046 3) = 2 ∧ t.rd (key 0x2046 5) = 0x08000022 ∧ t.rd (key 0x2000 6) = 0 ∧
        t.can.joined = true) (after (exec (.bootFirmwareDone) s))) (bootw [0, 1])) := by
  decide +kernel

theorem test_BootRunsItsSteps_8 :
    ((fun (s : State) (e : Nat × Datum) => s.boot.done.length = 8 ∧ stepTurn s 3 [0, 2] = true ∧ calBlank s.cal.area = true ∧
        s.nv.sram.loadAll = false ∧ s.nv.sram.loadComm = false ∧ s.nv.sram.loadApp = false ∧ s.nv.sram.comm = [] ∧ s.nv.sram.app = [e] ∧
        0x300000 ≤ e.1 ∧ e.1 < 0x370000 ∧ formRefuse (e.1 / 256) (e.1 % 256) e.2 = 0 ∧
        unreserved (e.1 / 256) (e.1 % 256) e.2.val = e.2.val ∧ comboBroken (s.put e.1 e.2.val) (e.1 / 256) (e.1 % 256) e.2 = 0 ∧
        ran (exec (.bootRestoreDone) s) = true ∧ (fun (t : State) => t.rd 0x300001 = 1 ∧ t.boot.open_ = true ∧
        t.rd (key 0x2046 3) = 4) (after (exec (.bootRestoreDone) s))) ((bootw [0, 1, 2]).nvSet fun v => { v with sram := { v.sram with app := [(0x300001, ⟨1, 1⟩)] } }) ((0x300001, ⟨1, 1⟩))) := by
  decide +kernel

theorem test_BootRunsItsSteps_9 :
    ((fun (s : State) (e : Nat × Datum) => s.boot.done.length = 8 ∧ stepTurn s 3 [0, 2] = true ∧ calBlank s.cal.area = true ∧
        s.nv.sram.loadAll = false ∧ s.nv.sram.loadComm = false ∧ s.nv.sram.loadApp = false ∧ s.nv.sram.comm = [] ∧ s.nv.sram.app = [e] ∧
        s.boot.result = 0 ∧ 0x300000 ≤ e.1 ∧ e.1 < 0x370000 ∧ formRefuse (e.1 / 256) (e.1 % 256) e.2 ≠ 0 ∧
        comboBroken s (e.1 / 256) (e.1 % 256) e.2 = 0 ∧ ran (exec (.bootRestoreDone) s) = true ∧ (fun (t : State) => t.rd 0x300001 = 0 ∧
        t.boot.result ≠ 0 ∧
        t.rd (key 0x2046 3) = 4) (after (exec (.bootRestoreDone) s))) ((bootw [0, 1, 2]).nvSet fun v => { v with sram := { v.sram with app := [(0x300001, ⟨1, 9⟩)] } }) ((0x300001, ⟨1, 9⟩))) := by
  decide +kernel

theorem test_BootRunsItsSteps_10 :
    ((fun (s : State) => s.boot.done.length = 8 ∧ stepTurn s 3 [0, 2] = true ∧ s.nv.sram.loadAll = true ∧
        ran (exec (.bootRestoreDone) s) = true ∧
        (fun (t : State) => t.nv.sram = { s.nv.sram with comm := [], app := [], loadAll := false, loadComm := false, loadApp := false } ∧
        t.boot.open_ = true ∧ t.boot.result = s.boot.result ∧
        t.boot.done = s.boot.done.set 3 true) (after (exec (.bootRestoreDone) s))) ((bootw [0, 1, 2]).nvSet fun v => { v with sram := { v.sram with loadAll := true, app := [(0x300001, ⟨1, 9⟩)] } })) := by
  decide +kernel

theorem test_BootRunsItsSteps_11 :
    ((fun (s : State) => s.boot.done.length = 8 ∧ stepTurn s 4 [3] = true) (bootw [0, 1, 2, 3])) := by
  decide +kernel

theorem test_BootRunsItsSteps_12 :
    ((fun (s : State) => s.boot.done.length = 8 ∧
        stepTurn s 5 [4] = true) ((((bootw [0, 1, 2, 3, 4]).put (key 0x305F 1) 2).put (key 0x305F 0x0E) 1).put (key 0x3507 5) 1)) := by
  decide +kernel

theorem test_BootRunsItsSteps_13 :
    ((fun (s : State) => s.boot.done.length = 8 ∧ stepTurn s 6 [5] = true ∧ ran (exec (.bootSynthesisDone) s) = true ∧
        (fun (t : State) => t.ap = s.ap ∧ t.dp = s.dp ∧ t.boot.done = s.boot.done.set 6 true ∧
        t.rd (key 0x2046 3) = (t.boot.done.filter id).length) (after (exec (.bootSynthesisDone) s))) (bootw [0, 1, 2, 3, 4, 5])) := by
  decide +kernel

theorem test_BootRunsItsSteps_14 :
    ((fun (s : State) => s.boot.done.length = 8 ∧ stepTurn s 7 [6] = true ∧
        s.boot.fault = false) ((bootw [0, 1, 2, 3, 4, 5, 6]).setCan fun c => { c with node := 5 })) := by
  decide +kernel

theorem test_BootRunsItsSteps_15 :
    ((fun (s : State) => s.boot.done.length = 8 ∧ stepTurn s 7 [6] = true ∧ s.boot.fault = true ∧ s.col.fault = true ∧
        s.col.quietOver = false) ((bootw [0, 1, 2, 3, 4, 5, 6]).setBoot fun b => { b with fault := true })) := by
  decide +kernel

theorem test_BootRunsItsSteps_16 :
    ((fun (s : State) => s.boot.done.length = 8 ∧ stepTurn s 7 [6] = false ∧ ran (exec (.bootDone) s) = true ∧
        (fun (t : State) => t.boot.booting = true) (after (exec (.bootDone) s))) (bootw [0, 1, 2, 3, 4, 5])) := by
  decide +kernel

theorem test_parts : ran (exec (.tcPourDone 3) ready) = true ∧ Part.dp ∉ touched (.tcPourDone 3) ∧
    keeps (touched (.tcPourDone 3)) ready (after (exec (.tcPourDone 3) ready)) = true := by decide +kernel
theorem test_write_parts : entryWrite (.dpllTamp .spi 15 ⟨8, 7⟩) = some (.spi, 0x340F, 0x17, ⟨8, 7⟩) ∧
    Accepts ready .spi 0x340F 0x17 ⟨8, 7⟩ ∧ Part.ap ∉ writeTouched (.dpllTamp .spi 15 ⟨8, 7⟩) ∧
    keeps (writeTouched (.dpllTamp .spi 15 ⟨8, 7⟩)) ready (after (exec (.dpllTamp .spi 15 ⟨8, 7⟩) ready)) = true := by decide +kernel

theorem test_objects : ShapeWf ready ∧ (Instr.cupEvaluation 95).wf = true ∧ objectsTouched (.cupEvaluation 95) = some [(0x315F, 1)] ∧
    inObjects [(0x315F, 1)] 0x315E = false ∧ ran (exec (.cupEvaluation 95) ready) = true := by
  refine ⟨shape_of (by decide +kernel), ?_⟩
  decide +kernel
theorem test_write_objects : ShapeWf ready ∧ (Instr.hostTempWrite .spi 15 ⟨2, 300⟩).wf = true ∧
    entryWrite (.hostTempWrite .spi 15 ⟨2, 300⟩) = some (.spi, 0x343F, 0x0A, ⟨2, 300⟩) ∧ Accepts ready .spi 0x343F 0x0A ⟨2, 300⟩ ∧
    objectsWritten (.hostTempWrite .spi 15 ⟨2, 300⟩) = some [] ∧ inObjects [(0x343F, 1)] 0x343E = false ∧
    (after (exec (.hostTempWrite .spi 15 ⟨2, 300⟩) ready)).rd (key 0x343F 0x0A) = 300 ∧
    (after (exec (.hostTempWrite .spi 15 ⟨2, 300⟩) ready)).rd (key 0x343E 0x0A) = ready.rd (key 0x343E 0x0A) := by
  refine ⟨shape_of (by decide +kernel), ?_⟩
  decide +kernel

theorem test_step_ready : (ready.command (.nmtStartRemoteNode 0)).pending ≠ [] ∧ ran (step (ready.command (.nmtStartRemoteNode 0))) = true := by
  decide +kernel
theorem test_sound_ready : Sound (ready.command (.nmtStartRemoteNode 0)) := sound_of (by decide +kernel)

theorem test_reset_default : State.reset.rd (key 0x3430 0x21) = 14400 ∧ State.reset.drd (key 0x3507 1) = 8 := by decide +kernel

theorem test_cause_order : (inReset [5, 4, 7, 6, 2]).boot.inReset = true ∧ heldInReset (inReset [5, 4, 7, 6, 2]) = false ∧
    (∀ x ∈ [5, 4, 7, 6, 2], [1, 3, 2, 6, 7, 4, 5].idxOf 2 ≤ [1, 3, 2, 6, 7, 4, 5].idxOf x) ∧
    (after (exec .resetRelease (inReset [5, 4, 7, 6, 2]))).rd (key 0x2000 8) = 2 := by decide +kernel
theorem test_boot_abandoned : (bootw [0, 1, 2]).boot.inReset = false ∧ (bootw [0, 1, 2]).boot.booting = true ∧
    (after (exec .resetRelease (after (exec .resetAssert { bootw [0, 1, 2] with resetReq := some 7 })))).boot.done = List.replicate 8 false ∧
    (after (exec .resetRelease (after (exec .resetAssert { bootw [0, 1, 2] with resetReq := some 7 })))).rd (key 0x2000 8) = 7 := by decide +kernel

/-- Engine 15 has restarted twice within 1 s. -/
def twice : State := engw fun x => { x with restarts := x.restarts.set 15 [9000000000, 9999999999] }
theorem test_third_restart : Live twice ∧ engineUp twice 15 = true ∧ twice.eng.restarts.length = 16 ∧ twice.resetReq = none ∧ twice.boot.causes = [] ∧
    2 ≤ ((twice.eng.restarts.getD 15 []).filter fun u => decide (twice.now ≤ u + 1000000000)).length ∧
    (after (exec (.engineWatchdog 15) twice)).resetReq = some 7 := by decide +kernel
theorem test_first_restart : Live (engw id) ∧ engineUp (engw id) 15 = true ∧ (engw id).eng.restarts.length = 16 ∧
    (after (exec (.engineWatchdog 15) (engw id))).resetReq = none := by decide +kernel

/-- A seal with one page, over cells that hold two. -/
def sealed_ : State := (nvw fun v => { hostTwo v with running := some (.commit .host 2), area_ := some { pages := [(8191, 0x77)], writes := 2 } })
theorem test_reads_window : sealed_.boot.open_ = true ∧ sealed_.rd (key 0x2310 1) + sealed_.rd (key 0x2310 2) ≤ 0x400000 ∧
    (eccRead sealed_ (sealed_.rd (key 0x2310 1)) (sealed_.rd (key 0x2310 2))).1 ≠ 2 := by decide +kernel
theorem test_reads_seal : Live sealed_ ∧ storeWf (fun _ => (255 : Byte)) sealed_.nv.cells = true ∧ nvByte sealed_ (256 * 8191) = 0x77 ∧
    nvByte (after (exec .commitComplete sealed_)) (256 * 8191) = 0x77 ∧ (after (exec .commitComplete sealed_)).nv.area_ = none := by decide +kernel

theorem test_pending_write : streamData 0x3400 2 = none ∧ (0x3400 : Nat) ≠ 0x2011 ∧
    (readEntry { ready with host := { ready.host with posted := [{ via := .spi, index := 0x3400, sub := 2, d := ⟨1, 1⟩ }] } } .spi 0x3400 2).2.1 = ⟨1, ready.rd (key 0x3400 2)⟩ := by
  decide +kernel

/-- Ill-formed: each has one operand out of its range. -/
theorem test_ill_formed_1 : (([.objectWrite (.canPdo 8) 0 0 ⟨1, 0⟩, .objectWrite .spi (65536) 0 ⟨1, 0⟩, .objectWrite .spi 0 (256) ⟨1, 0⟩, .objectWrite .spi 0 0 ⟨1, 256⟩,
     .writeTakesEffect (.canPdo 8) 0, .writeTakesEffect .spi (148), .historyW1cWrite (.canPdo 8) 0 0 ⟨1, 0⟩, .historyW1cWrite .spi (65536) 0 ⟨1, 0⟩,
     .historyW1cWrite .spi 0 (256) ⟨1, 0⟩, .historyW1cWrite .spi 0 0 ⟨1, 256⟩, .dieLinkWordReceived (.link 13 default) 0 0 false,
     .dieLinkWordReceived default (64) 0 false, .dieLinkWordReceived default 0 (2 ^ 32) false, .linkReplay (.link 13 default),
     .linkAckReceived (.link 13 default) 0, .linkAckReceived default (64 + 1), .linkTrainingAttemptEnd (13) false, .linkDownRetryTimer (13) false,
     .linkRetrain (.canPdo 8) 0, .linkRetrain .spi (13), .linkClearCounters (.canPdo 8) 0, .linkClearCounters .spi (13),
     .errorInjectSingle (.canPdo 8) 0, .errorInjectSingle .spi (13), .errorInjectExhaust (.canPdo 8) 0, .errorInjectExhaust .spi (13),
     .errorInjectSingleReverse (.canPdo 8) 0, .errorInjectSingleReverse .spi (13), .errorInjectExhaustReverse (.canPdo 8) 0,
     .errorInjectExhaustReverse .spi (13), .errorInjectOff (.canPdo 8) 0, .errorInjectOff .spi (13), .mirrorRefresh (65536),
     .channelEdge (96) false 0 0 0, .channelEdge 0 false 0 (512) 0, .channelEdge 0 false 0 0 (262144), .stampIngest (96) 0 false,
     .snapChannelWrite (.canPdo 8) ⟨1, 0⟩, .snapChannelWrite .spi ⟨1, 256⟩, .watermarkReceived (6) default 0, .parallelReadHalf0 (65536) 0,
     .parallelReadHalf0 0 (256), .parallelReadHalf1 (65536) 0, .parallelReadHalf1 0 (256), .parallelWriteHalf0 (65536) 0 0,
     .parallelWriteHalf0 0 (256) 0, .parallelWriteHalf0 0 0 (65536), .parallelWriteHalf1 (65536) 0 0, .parallelWriteHalf1 0 (256) 0,
     .parallelWriteHalf1 0 0 (65536), .spiRead (65536) 0 0, .spiRead 0 (256) 0, .spiWrite (65536) 0 ⟨1, 0⟩, .spiWrite 0 (256) ⟨1, 0⟩,
     .spiWrite 0 0 ⟨1, 256⟩, .spiInvalidFrame (65536) 0, .spiInvalidFrame 0 (256), .streamDataWrite false ⟨1, 256⟩, .deviceReset (.canPdo 8),
     .nmtStartRemoteNode (256)] : List Instr).all fun c => !c.wf) = true := by decide +kernel

/-- Ill-formed: each has one operand out of its range. -/
theorem test_ill_formed_2 : (([.nmtStopRemoteNode (256), .nmtEnterPreOperational (256), .nmtResetCommunication (256), .nmtResetNode (256),
     .lssSwitchStateSelective (2 ^ 32) 0 0 0, .lssSwitchStateSelective 0 (2 ^ 32) 0 0, .lssSwitchStateSelective 0 0 (2 ^ 32) 0,
     .lssSwitchStateSelective 0 0 0 (2 ^ 32), .lssConfigureNodeId (256), .lssConfigureBitTiming (256) 0, .lssConfigureBitTiming 0 (256),
     .lssInquireIdentity (5), .lssIdentifyRemoteSlave (2 ^ 32) 0 0 0 0 0, .lssIdentifyRemoteSlave 0 (2 ^ 32) 0 0 0 0,
     .lssIdentifyRemoteSlave 0 0 (2 ^ 32) 0 0 0, .lssIdentifyRemoteSlave 0 0 0 (2 ^ 32) 0 0, .lssIdentifyRemoteSlave 0 0 0 0 (2 ^ 32) 0,
     .lssIdentifyRemoteSlave 0 0 0 0 0 (2 ^ 32), .sdoDownload false (65536) 0 default, .sdoDownload false 0 (256) default,
     .sdoDownload false 0 0 (.whole ⟨0, 1⟩), .sdoUpload false (65536) 0 none, .sdoUpload false 0 (256) none, .sdoSegment false (.blockEnd default 8),
     .syncReceived (256), .tpdoTransmit (8), .tpdoEventTimer (8), .rpdoReceived (8) ⟨1, 0⟩, .rpdoReceived 0 ⟨1, 256⟩,
     .clearErrorList (.canPdo 8) ⟨1, 0⟩, .clearErrorList .spi ⟨1, 256⟩, .storeParameters (.canPdo 8) 0 ⟨1, 0⟩, .storeParameters .spi (256) ⟨1, 0⟩,
     .storeParameters .spi 0 ⟨1, 256⟩, .restoreDefaultParameters (.canPdo 8) 0 ⟨1, 0⟩, .restoreDefaultParameters .spi (256) ⟨1, 0⟩,
     .restoreDefaultParameters .spi 0 ⟨1, 256⟩, .programDataWrite (.canPdo 8) ⟨1, 0⟩, .programDataWrite .spi ⟨1, 256⟩, .programStart (.canPdo 8),
     .programStop (.canPdo 8), .programClear (.canPdo 8), .stampPop (.canPdo 8) 0 false, .stampPop .spi (96) false,
     .channelRoleWrite (.canPdo 8) 0 ⟨1, 0⟩, .channelRoleWrite .spi (96) ⟨1, 0⟩, .channelRoleWrite .spi 0 ⟨1, 256⟩, .gateArm (.canPdo 8) 0,
     .gateArm .spi (24), .gateAbort (.canPdo 8) 0, .gateAbort .spi (24), .gateDeadline (24), .timebaseSourceWrite (.canPdo 8) ⟨1, 0⟩,
     .timebaseSourceWrite .spi ⟨1, 256⟩, .soscHzWrite (.canPdo 8) ⟨1, 0⟩, .soscHzWrite .spi ⟨1, 256⟩, .dateNow (.canPdo 8) false,
     .cuppingEnableWrite (.canPdo 8) 0 ⟨1, 0⟩, .cuppingEnableWrite .spi (96) ⟨1, 0⟩, .cuppingEnableWrite .spi 0 ⟨1, 256⟩] : List Instr).all fun c => !c.wf) = true := by decide +kernel

/-- Ill-formed: each has one operand out of its range. -/
theorem test_ill_formed_3 : (([.requalify (.canPdo 8) 0, .requalify .spi (96), .disqualify (.canPdo 8) 0, .disqualify .spi (96), .restartStats (.canPdo 8) 0,
     .restartStats .spi (96), .sampleIntervalEnd (96), .losDeclared (96), .losSignalArrives (96), .freqWindowEnd (96), .driftBinEnd (96),
     .mtieStep (96) 0, .mtieStep 0 (5), .tdevBlockEnd (96) 0, .tdevBlockEnd 0 (5), .cupEvaluation (96), .qualifyTimeExpiry (96),
     .losClearTimeExpiry (96), .cupStateArrives (96), .dpllUpdate (16) [], .dpllUpdate 0 [{ entry := 16 }], .wtrExpiry (16) 0, .wtrExpiry 0 (16),
     .holdOffExpiry (16), .acqTimeout (16), .dpllEnableWrite (.canPdo 8) 0 ⟨1, 0⟩, .dpllEnableWrite .spi (16) ⟨1, 0⟩,
     .dpllEnableWrite .spi 0 ⟨1, 256⟩, .switchModeWrite (.canPdo 8) 0 ⟨1, 0⟩, .switchModeWrite .spi (16) ⟨1, 0⟩, .switchModeWrite .spi 0 ⟨1, 256⟩,
     .candidateWrite (.canPdo 8) 0 0 ⟨1, 0⟩, .candidateWrite .spi (16) 0 ⟨1, 0⟩, .candidateWrite .spi 0 (16) ⟨1, 0⟩,
     .candidateWrite .spi 0 0 ⟨1, 256⟩, .openLoop (.canPdo 8) 0, .openLoop .spi (16), .closeLoop (.canPdo 8) 0, .closeLoop .spi (16),
     .forceFreerun (.canPdo 8) 0, .forceFreerun .spi (16), .forceHoldover (.canPdo 8) 0, .forceHoldover .spi (16), .release (.canPdo 8) 0,
     .release .spi (16), .clearWtr (.canPdo 8) 0, .clearWtr .spi (16), .dpllTamp (.canPdo 8) 0 ⟨1, 0⟩, .dpllTamp .spi (16) ⟨1, 0⟩,
     .dpllTamp .spi 0 ⟨1, 256⟩, .swFfoWrite (.canPdo 8) 0 ⟨1, 0⟩, .swFfoWrite .spi (16) ⟨1, 0⟩, .swFfoWrite .spi 0 ⟨1, 256⟩, .faultHoldArrives (16),
     .faultHoldRemoved (16), .carafeSampleArrives (16), .holdoverPrepare (16), .preparedValueArrives (16), .holdoverCorrection (16),
     .holdoverAlarm (16)] : List Instr).all fun c => !c.wf) = true := by decide +kernel

/-- Ill-formed: each has one operand out of its range. -/
theorem test_ill_formed_4 : (([.fit (.canPdo 8) 0, .fit .spi (16), .fitIntervalTimer (16), .fitComplete (16), .clearCarafe (.canPdo 8) 0, .clearCarafe .spi (16),
     .clearModel (.canPdo 8) 0, .clearModel .spi (16), .carafeWrite (.canPdo 8) 0 ⟨1, 0⟩, .carafeWrite .spi (16) ⟨1, 0⟩,
     .carafeWrite .spi 0 ⟨1, 256⟩, .modelValidWrite (.canPdo 8) 0 ⟨1, 0⟩, .modelValidWrite .spi (16) ⟨1, 0⟩, .modelValidWrite .spi 0 ⟨1, 256⟩,
     .hostTempWrite (.canPdo 8) 0 ⟨1, 0⟩, .hostTempWrite .spi (16) ⟨1, 0⟩, .hostTempWrite .spi 0 ⟨1, 256⟩, .tempStaleTimer (16),
     .apllEnableWrite (.canPdo 8) 0 ⟨1, 0⟩, .apllEnableWrite .spi (8) ⟨1, 0⟩, .apllEnableWrite .spi 0 ⟨1, 256⟩, .apllRelock (.canPdo 8) 0,
     .apllRelock .spi (8), .apllClearCounters (.canPdo 8) 0, .apllClearCounters .spi (8), .bandSelectDone (8) 0, .bandSelectDone 0 (64),
     .lockWindowEnd (8) 0, .lockingTimeout (8), .returnHoldExpiry (8), .rampStart (.canPdo 8) 0, .rampStart .spi (8), .rampStop (.canPdo 8) 0,
     .rampStop .spi (8), .rampClear (.canPdo 8) 0, .rampClear .spi (8), .rampSegmentEnd (8), .outSourceWrite (.canPdo 8) 0 ⟨1, 0⟩,
     .outSourceWrite .spi (96) ⟨1, 0⟩, .outSourceWrite .spi 0 ⟨1, 256⟩, .outDividerWrite (.canPdo 8) 0 ⟨1, 0⟩, .outDividerWrite .spi (96) ⟨1, 0⟩,
     .outDividerWrite .spi 0 ⟨1, 256⟩, .outEnableWrite (.canPdo 8) 0 ⟨1, 0⟩, .outEnableWrite .spi (96) ⟨1, 0⟩, .outEnableWrite .spi 0 ⟨1, 256⟩,
     .alignOutput (.canPdo 8) ⟨1, 0⟩, .alignOutput .spi ⟨1, 256⟩, .alignGroups (.canPdo 8) ⟨1, 0⟩, .alignGroups .spi ⟨1, 256⟩, .alignedEdge (96),
     .setTime (.canPdo 8) 0 ⟨1, 0⟩, .setTime .spi (4) ⟨1, 0⟩, .setTime .spi 0 ⟨1, 256⟩, .tcTamp (.canPdo 8) 0 ⟨1, 0⟩, .tcTamp .spi (4) ⟨1, 0⟩,
     .tcTamp .spi 0 ⟨1, 256⟩, .pourAmountWrite (.canPdo 8) 0 ⟨1, 0⟩, .pourAmountWrite .spi (4) ⟨1, 0⟩, .pourAmountWrite .spi 0 ⟨1, 256⟩] : List Instr).all fun c => !c.wf) = true := by decide +kernel

/-- Ill-formed: each has one operand out of its range. -/
theorem test_ill_formed_5 : (([.pourAbort (.canPdo 8) 0, .pourAbort .spi (4), .tcPourDone (4), .incrementWrite (.canPdo 8) 0 ⟨1, 0⟩, .incrementWrite .spi (4) ⟨1, 0⟩,
     .incrementWrite .spi 0 ⟨1, 256⟩, .disciplineSwi (.canPdo 8) 0, .disciplineSwi .spi (4), .disciplineHws (.canPdo 8) 0, .disciplineHws .spi (4),
     .disciplineTied (.canPdo 8) 0, .disciplineTied .spi (4), .tieIncrementArrives (4), .hwsOffset (4), .pulseInstant (4), .contextStateChange (256),
     .offsetTimeout (256), .contextQualifyTime (256), .ptpSyncRx (256) default, .ptpFollowUpRx (256) default, .ptpDelayReqRx (256) default,
     .ptpDelayRespRx (256) default, .ptpPdelayReqRx (256) default, .ptpPdelayRespRx (256) default, .ptpAnnounceRx (256) default,
     .ptpSignalingRx (256) default, .ptpSyncInterval (256), .ptpDelayReqInterval (256), .ptpAnnounceInterval (256), .announceReceiptTimeout (256),
     .grantExpiry (256), .grantRenewalTimer (256), .arpNdpRx (2) 0 ⟨1, 0⟩, .arpNdpRx 0 0 ⟨1, 256⟩, .ethOtherFrameRx (2) false,
     .passthroughFrame (2) false default false ⟨1, 0⟩, .passthroughFrame 0 false default false ⟨1, 256⟩, .ethLinkChange (2) false,
     .rxRecordWrite (.canPdo 8) ⟨1, 0⟩, .rxRecordWrite .spi ⟨1, 256⟩, .txRecordPop (.canPdo 8), .txStampWrite (.canPdo 8) ⟨1, 0⟩,
     .txStampWrite .spi ⟨1, 256⟩, .txStampMissing (256), .contextConfigWrite (.canPdo 8) 0 ⟨1, 0⟩, .contextConfigWrite .spi (256) ⟨1, 0⟩,
     .contextConfigWrite .spi 0 ⟨1, 256⟩, .contextEnableWrite (.canPdo 8) 0 ⟨1, 0⟩, .contextEnableWrite .spi (256) ⟨1, 0⟩,
     .contextEnableWrite .spi 0 ⟨1, 256⟩, .offsetInWrite (.canPdo 8) 0 ⟨1, 0⟩, .offsetInWrite .spi (256) ⟨1, 0⟩, .offsetInWrite .spi 0 ⟨1, 256⟩,
     .contextClearCounters (.canPdo 8) 0, .contextClearCounters .spi (256), .contextRestart (.canPdo 8) 0, .contextRestart .spi (256),
     .passthroughWrite (.canPdo 8) ⟨1, 0⟩, .passthroughWrite .spi ⟨1, 256⟩, .entryWrite (.canPdo 8) 0 ⟨1, 0⟩] : List Instr).all fun c => !c.wf) = true := by decide +kernel

/-- Ill-formed: each has one operand out of its range. -/
theorem test_ill_formed_6 : (([.entryWrite .spi (64) ⟨1, 0⟩, .entryWrite .spi 0 ⟨1, 256⟩, .arm (.canPdo 8) 0 ⟨1, 0⟩, .arm .spi (4) ⟨1, 0⟩, .arm .spi 0 ⟨1, 256⟩,
     .disarm (.canPdo 8) 0 ⟨1, 0⟩, .disarm .spi (4) ⟨1, 0⟩, .disarm .spi 0 ⟨1, 256⟩, .actionDue (64), .actionDispatch (64), .edgeActionFires (64),
     .schedDpllActionArrives (64), .fabModeWrite (.canPdo 8) 0 ⟨1, 0⟩, .fabModeWrite .spi (4) ⟨1, 0⟩, .fabModeWrite .spi 0 ⟨1, 256⟩,
     .txApllWrite (.canPdo 8) 0 ⟨1, 0⟩, .txApllWrite .spi (4) ⟨1, 0⟩, .txApllWrite .spi 0 ⟨1, 256⟩, .fabTrainingAttemptEnd (4) false default,
     .fabTrainingRetryTimer (4), .fabBerFail (4), .fabHelloTimeout (4), .fabPortRetrain (.canPdo 8) 0, .fabPortRetrain .spi (4),
     .fabPortClearCounters (.canPdo 8) 0, .fabPortClearCounters .spi (4), .txReferenceChange (4), .creditRx (4) 0 0, .creditRx 0 (4) 0,
     .fabFrameRx (4) default false, .fabFrameRx 0 { version := 16 } false, .helloRx (4) ⟨1, 0⟩, .helloRx 0 ⟨1, 256⟩, .routeUpdateRx (4) ⟨1, 0⟩,
     .routeUpdateRx 0 ⟨1, 256⟩, .routeExpiry (4) 0, .routeExpiry 0 (4096), .addressRequestRx (4) ⟨1, 0⟩, .addressRequestRx 0 ⟨1, 256⟩,
     .addressGrantRx (4) ⟨1, 0⟩, .addressGrantRx 0 ⟨1, 256⟩, .addressHoldExpiry (2 ^ 64), .rediscover (.canPdo 8), .fabClearCounters (.canPdo 8),
     .slotTableCommit (.canPdo 8) 0, .slotTableCommit .spi (4), .linkTimingSlot (4), .timeDownSlot (4), .markerRequestRx (4) 0 default default,
     .markerResponseRx (4) 0 default, .timingFollowUpRx (4) ⟨1, 0⟩ default, .timingFollowUpRx 0 ⟨1, 256⟩ default, .exchangeFollowUpTimeout (4),
     .timeDownRx (4) ⟨1, 0⟩, .timeDownRx 0 ⟨1, 256⟩, .odRequestRx (4) 0 ⟨1, 0⟩, .odRequestRx 0 (4096) ⟨1, 0⟩, .odRequestRx 0 0 ⟨1, 256⟩,
     .odResponseRx (4) 0 ⟨1, 0⟩, .odResponseRx 0 (4096) ⟨1, 0⟩] : List Instr).all fun c => !c.wf) = true := by decide +kernel

/-- Ill-formed: each has one operand out of its range. -/
theorem test_ill_formed_7 : (([.odResponseRx 0 0 ⟨1, 256⟩, .stampBatchRx (4) 0 ⟨1, 0⟩, .stampBatchRx 0 (4096) ⟨1, 0⟩, .stampBatchRx 0 0 ⟨1, 256⟩, .requestRead (.canPdo 8) 0,
     .requestRead .spi (4), .requestWrite (.canPdo 8) 0, .requestWrite .spi (4), .requestCancel (.canPdo 8) 0, .requestCancel .spi (4),
     .requestTimeout (4), .blendProposalRx (4) ⟨1, 0⟩, .blendProposalRx 0 ⟨1, 256⟩, .blendAnnounceRx (4) 0 ⟨1, 0⟩, .blendAnnounceRx 0 (4096) ⟨1, 0⟩,
     .blendAnnounceRx 0 0 ⟨1, 256⟩, .calStepStart (6) 0, .calHandoverCut (6) none, .calPassComplete (6) [], .calPassTimeout (6),
     .calProcessingDone (6) 0, .calOffsetsDone (6) 0 0 0, .calLinkAbandonTimer (6), .sweepNow (.canPdo 8), .saveShadow (.canPdo 8),
     .restoreShadow (.canPdo 8), .calEnableWrite (.canPdo 8) ⟨1, 0⟩, .calEnableWrite .spi ⟨1, 256⟩, .sliceRecordWrite (.canPdo 8) 0 0 ⟨1, 0⟩,
     .sliceRecordWrite .spi (6) 0 ⟨1, 0⟩, .sliceRecordWrite .spi 0 (17) ⟨1, 0⟩, .sliceRecordWrite .spi 0 0 ⟨1, 256⟩,
     .outputRecordWrite (.canPdo 8) 0 0 ⟨1, 0⟩, .outputRecordWrite .spi (6) 0 ⟨1, 0⟩, .outputRecordWrite .spi 0 (16) ⟨1, 0⟩,
     .outputRecordWrite .spi 0 0 ⟨1, 256⟩, .outputTracking (96) default, .branchTrimStep (6) default default, .apllTrimStep (8) default default 0,
     .laneAdaptStep (6) default default default, .eyeMonitor (6) 0, .eyeMonitor 0 (10000 + 1), .store (.canPdo 8), .scrubNow (.canPdo 8),
     .writeData (.canPdo 8) ⟨1, 0⟩, .writeData .spi ⟨1, 256⟩, .hostCommit (.canPdo 8), .hostDiscard (.canPdo 8), .recordDataWrite (.canPdo 8) ⟨1, 0⟩,
     .recordDataWrite .spi ⟨1, 256⟩, .recordErase (.canPdo 8), .recordRepair (.canPdo 8), .recordSelectWrite (.canPdo 8) ⟨1, 0⟩,
     .recordSelectWrite .spi ⟨1, 256⟩, .recordTie (1024), .engineWatchdog (16), .engineRestartDone (16), .engineOverload (16) 0,
     .contextStoreRequest [{ q := 24 }], .contextStoreRequest [{ ctx := 256 }]] : List Instr).all fun c => !c.wf) = true := by decide +kernel

/-- Ill-formed: each has one operand out of its range. -/
theorem test_ill_formed_8 : (([.contextStoreRequest [{ line := 8 }], .requesterAged (24), .lockRequest (24) 0, .lockRequest 0 (272), .lockRelease (24) false,
     .arbiterSnapshot (.canPdo 8), .arbiterClearCounters (.canPdo 8), .assignWrite (.canPdo 8) ⟨1, 0⟩, .assignWrite .spi ⟨1, 256⟩,
     .classWrite (.canPdo 8) 0 ⟨1, 0⟩, .classWrite .spi (24) ⟨1, 0⟩, .classWrite .spi 0 ⟨1, 256⟩, .inject (.canPdo 8) ⟨1, 0⟩, .inject .spi ⟨1, 256⟩,
     .unackW1cWrite (.canPdo 8) 1 0 ⟨1, 0⟩, .unackW1cWrite .spi 0 0 ⟨1, 0⟩, .unackW1cWrite .spi 4 0 ⟨1, 0⟩, .unackW1cWrite .spi 1 (32) ⟨1, 0⟩,
     .unackW1cWrite .spi 1 0 ⟨1, 256⟩, .ackAll (.canPdo 8), .recover (.canPdo 8), .clearSticky (.canPdo 8), .collectorClearCounters (.canPdo 8),
     .sourceConfigWrite (.canPdo 8) ⟨1, 0⟩, .sourceConfigWrite .spi ⟨1, 256⟩, .sourceSelectWrite (.canPdo 8) ⟨1, 0⟩,
     .sourceSelectWrite .spi ⟨1, 256⟩, .inboxWrite (.canPdo 8) ⟨1, 0⟩, .inboxWrite .spi ⟨1, 256⟩, .inboxRead (.canPdo 8),
     .supplyValidChange (11) false false false, .bootClocksDone (8) 0 false, .bootClocksDone 0 (128) false,
     .preMasterQualificationTimeout (256)] : List Instr).all fun c => !c.wf) = true := by decide +kernel

/-- The checks of the parts of a command. -/
theorem test_ill_formed_parts : (Iface.fabric 4096).wf = false ∧ (Path.hub 28).wf = false ∧ (Xfer.whole ⟨2, 65536⟩).wf = false ∧
    (Seg.down false ⟨1, 256⟩ false).wf = false ∧ (Seg.sub 128 ⟨1, 0⟩ false).wf = false ∧ (Seg.sub 0 ⟨1, 256⟩ false).wf = false ∧
    (Seg.ackBlock 0 128).wf = false := by decide +kernel

/-- The frame's header fields. -/
theorem test_ill_formed_frames : (([{ version := 16 }, { cls := 16 }, { type_ := 256 }, { dest := 4096 }, { src := 4096 }, { hops := 256 },
    { payload := ⟨1, 256⟩ }] : List FabFrame).all fun f => !f.wf) = true := by decide +kernel

/-- The largest operands are well-formed. -/
theorem test_well_formed : ([.linkRetrain (.fabric 4095) 12, .requalify (.canPdo 7) 95, .candidateWrite .canLss 15 15 ⟨4, 0xFFFFFFFF⟩, .lockRequest 23 271,
    .unackW1cWrite .parallel 3 31 ⟨4, 0xFFFFFFFF⟩, .entryWrite .spi 63 ⟨40, 256 ^ 40 - 1⟩] : List Instr).all (fun c => c.wf) = true := by decide +kernel


end
end

section
/-! PROOFS. Every command goes on, keeps the parts that its row of `touched` does not name, and keeps the device sound. -/

namespace Sys2Proof.Machine

/-- The bit of a part in the sets of `Fits`. -/
def Part.bit (p : Part) : Nat := Part.all.idxOf p

/-- `t` comes from `s` with the queue and every part outside the table `l` as they were, and it is sound if `s` is. -/
structure Keeps (l : List Part) (s t : State) : Prop where
  pending : t.pending = s.pending
  same : ∀ p, p ∉ l → Part.same s t p
  sound : Sound s → Sound t

/-- Does the table `l` name every part whose bit stands in the set `m`? -/
def bitsIn (m : Nat) (l : List Part) : Bool := Part.all.all fun p => l.elem p || !m.testBit p.bit

theorem bitsIn_testBit {m : Nat} {l : List Part} (h : bitsIn m l = true) {p : Part} (hp : p ∉ l) : m.testBit p.bit = false := by
  have hall : p ∈ Part.all := by cases p <;> decide
  have := List.all_eq_true.mp h p hall
  simpa only [List.elem_eq_mem, hp, decide_false, Bool.false_or, Bool.not_eq_true'] using this

theorem Fits.same {l : Nat} {s t : State} (h : Fits l s t) {p : Part} (hp : l.testBit p.bit = false) : Part.same s t p := by
  cases p with
  | now => exact h.now hp
  | od => exact h.od hp
  | dr => exact h.dr hp
  | out => exact h.out hp
  | free => exact h.free hp
  | faultIn => exact h.faultIn hp
  | link => exact h.link hp
  | chan => exact h.chan hp
  | tcs => exact h.tcs hp
  | cups => exact h.cups hp
  | dp => exact h.dp hp
  | ctxs => exact h.ctxs hp
  | ptp => exact h.ptp hp
  | ap => exact h.ap hp
  | sched => exact h.sched hp
  | engDown => exact h.engDown hp
  | eng => exact h.eng hp
  | fab => exact h.fab hp
  | cal => exact h.cal hp
  | nv => exact h.nv hp
  | col => exact h.col hp
  | can => exact h.can hp
  | host => exact h.host hp
  | boot => exact h.boot hp
  | resetReq => exact h.resetReq hp

theorem Fits.sound {l : Nat} {s t : State} (h : Fits l s t) (k : Sound s) : Sound t where
  dict := h.dict k.dict
  array := h.array k.array
  shape := h.shape k.shape
  links := h.links k.links
  stamps := h.stamps k.stamps
  snap := h.snap k.stamps k.snap
  writes := h.writes k.writes

theorem Fits.keeps {m : Nat} {l : List Part} {s t : State} (hm : bitsIn m l = true) (h : Fits m s t) : Keeps l s t :=
  ⟨h.pending, fun _ hp => h.same (bitsIn_testBit hm hp), h.sound⟩

theorem within_self (m : Nat) : within m m = true := by simp only [within, Nat.and_self, BEq.rfl]

theorem Fits.live {m : Nat} {s y : State} (h : Fits m s y) (f : State → State) (hf : Fits m s (f y)) : Fits m s (live y f) :=
  .ite _ h hf

theorem Fits.timed {m : Nat} {s y : State} (h : Fits m s y) (f : State → State) (hf : Fits m s (f y)) : Fits m s (timed y f) :=
  .ite _ h hf

/-- The operation `f` touches at most the set `m`, wherever it stands in a command: the form of the model's laws. -/
def Touches (m : Nat) (f : State → State) : Prop := ∀ fp s y, within m fp = true → Fits fp s y → Fits fp s (f y)

/-- A command goes on from every state, and keeps what its row of `touched` does not name. -/
def Goes (c : Instr) : Prop := ∀ s, ∃ t, exec c s = .next t ∧ Keeps (touched c) s t

section Rows
variable {c : Instr} {m : Nat} {f : State → State}

/-! A row whose operation is `f`, which may touch the set `m`: run always, out of reset, once the boot has come to step 8. -/

theorem goes_always (he : ∀ s, exec c s = next (f s)) (hf : Touches m f)
    (hm : bitsIn m (touched c) = true) : Goes c :=
  fun s => ⟨f s, he s, (hf m s s (within_self m) (.refl m s)).keeps hm⟩

theorem goes_live (he : ∀ s, exec c s = next (live s f)) (hf : Touches m f)
    (hm : bitsIn m (touched c) = true) : Goes c :=
  goes_always he (fun fp s y b h => h.live f (hf fp s y b h)) hm

theorem goes_timed (he : ∀ s, exec c s = next (timed s f)) (hf : Touches m f)
    (hm : bitsIn m (touched c) = true) : Goes c :=
  goes_always he (fun fp s y b h => h.timed f (hf fp s y b h)) hm

/-! A row that is a write of the host may touch what any write waiting before it may. -/

theorem bitsIn_allButTime : bitsIn 33554430 (Part.all.filter (· ≠ .now)) = true := by decide

theorem goes_write (he : ∀ s, exec c s = next (live s f)) (hf : Touches 33554430 f)
    (hm : touched c = Part.all.filter (· ≠ .now)) : Goes c :=
  goes_live he hf (hm ▸ bitsIn_allButTime)

/-- A row that publishes a monitor's result, or keeps it while the engine restarts. -/
theorem goes_result {kind n i : Nat} (he : ∀ s, exec c s = next (live s fun s => cupResult s kind n i f))
    (hf : Touches 25166498 f) (hm : bitsIn 25232034 (touched c) = true) : Goes c :=
  goes_live (m := 25232034) he
    (fun _ _ _ b h => cupResult_fits (within_trans (by decide) b) h _ _ _ _ fun _ k => hf _ _ _ (within_trans (by decide) b) k) hm

end Rows

/-- An access from the fabric may touch what a write may. -/
theorem serveRemote_serves {m : Nat} {s : State} (hm : within 33554430 m = true) (y : State) (src : Nat) (wr : Bool) (index sub : Nat) (d : Datum)
    (h : Fits m s y) : Fits m s (serveRemote y src wr index sub d).2.2 :=
  serveRemote_fits (within_trans (by decide) hm) h ..

/-- Every row of the table: its operation's law gives what it may touch, and the table of `touched` names all of it. -/
theorem exec_goes (c : Instr) : Goes c := by
  cases c with
  | snapChannelWrite | clearErrorList | storeParameters | restoreDefaultParameters | programDataWrite | channelRoleWrite
  | timebaseSourceWrite | soscHzWrite | cuppingEnableWrite | dpllEnableWrite | switchModeWrite | dpllTamp | swFfoWrite | carafeWrite
  | modelValidWrite | hostTempWrite | apllEnableWrite | outSourceWrite | outDividerWrite | outEnableWrite | alignOutput | alignGroups
  | setTime | tcTamp | pourAmountWrite | incrementWrite | rxRecordWrite | txStampWrite | contextConfigWrite | contextEnableWrite
  | offsetInWrite | passthroughWrite | entryWrite | arm | disarm | fabModeWrite | txApllWrite | calEnableWrite | writeData
  | recordDataWrite | recordSelectWrite | assignWrite | classWrite | inject | sourceConfigWrite | sourceSelectWrite | inboxWrite =>
    exact goes_write (fun _ => rfl) (fun _ _ _ b h => namedWrite_fits b h ..) rfl
  | linkRetrain | linkClearCounters | errorInjectSingle | errorInjectExhaust | errorInjectSingleReverse | errorInjectExhaustReverse
  | errorInjectOff | deviceReset | programStart | programStop | programClear | gateArm | gateAbort | dateNow | requalify | disqualify
  | restartStats | openLoop | closeLoop | forceFreerun | forceHoldover | release | clearWtr | fit | clearCarafe | clearModel | apllRelock
  | apllClearCounters | rampStart | rampStop | rampClear | pourAbort | disciplineSwi | disciplineHws | disciplineTied
  | contextClearCounters | contextRestart | fabPortRetrain | fabPortClearCounters | rediscover | fabClearCounters | slotTableCommit
  | requestRead | requestWrite | requestCancel | sweepNow | saveShadow | restoreShadow | store | scrubNow | hostCommit | hostDiscard
  | recordErase | recordRepair | arbiterSnapshot | arbiterClearCounters | ackAll | recover | clearSticky | collectorClearCounters =>
    exact goes_write (fun _ => rfl) (fun _ _ _ b h => namedCommand_fits b h ..) rfl
  | candidateWrite | sliceRecordWrite | outputRecordWrite | unackW1cWrite =>
    exact goes_write (fun _ => rfl) (fun _ _ _ b h => .ite _ (namedWrite_fits b h ..) h) rfl
  | helloRx | routeUpdateRx | addressRequestRx | addressGrantRx | timeDownRx | odRequestRx | odResponseRx | stampBatchRx
  | blendProposalRx | blendAnnounceRx =>
    exact goes_timed (fun _ => rfl) (fun _ _ _ b h => fabFrameOf_fits b h _ _ _ _ _ _ _ (serveRemote_serves b)) rfl
  | objectWrite => exact goes_live (fun _ => rfl) (fun _ _ _ b h => objectWrite_fits b h ..) rfl
  | writeTakesEffect => exact goes_live (fun _ => rfl) (fun _ _ _ b h => effectOf_fits b h ..) rfl
  | historyW1cWrite => exact goes_live (fun _ => rfl) (fun _ _ _ b h => .ite _ (writeNow_fits b h ..) h) rfl
  | dieLinkWordReceived => exact goes_live (fun _ => rfl) (fun _ _ _ b h => pathWord_fits b h ..) rfl
  | linkReplay => exact goes_live (fun _ => rfl) (fun _ _ _ b h => replayPath_fits b h ..) rfl
  | linkAckReceived => exact goes_live (fun _ => rfl) (fun _ _ _ b h => ackPath_fits b h ..) rfl
  | linkTrainingAttemptEnd => exact goes_live (fun _ => rfl) (fun _ _ _ b h => linkAttempt_fits b h ..) rfl
  | linkDownRetryTimer => exact goes_live (fun _ => rfl) (fun _ _ _ b h => linkRetryDown_fits b h ..) rfl
  | mirrorRefresh => exact goes_live (fun _ => rfl) (fun _ _ _ b h => mirrorRefresh_fits b h ..) rfl
  | channelEdge => exact goes_live (fun _ => rfl) (fun _ _ _ b h => edgeArrives_fits b h ..) rfl
  | stampIngest => exact goes_live (fun _ => rfl) (fun _ _ _ b h => stampIngest_fits b h ..) rfl
  | snapshotLatchArrives => exact goes_live (fun _ => rfl) (fun _ _ _ b h => snapLatch_fits b h ..) rfl
  | snapshotMarkerArrives => exact goes_live (fun _ => rfl) (fun _ _ _ b h => snapMarker_fits b h ..) rfl
  | watermarkReceived => exact goes_live (fun _ => rfl) (fun _ _ _ b h => watermark_fits b h ..) rfl
  | parallelReadHalf0 => exact goes_live (fun _ => rfl) (fun _ _ _ b h => busRead_fits b h ..) rfl
  | parallelReadHalf1 => exact goes_live (fun _ => rfl) (fun _ _ _ b h => busRead_fits b h ..) rfl
  | parallelWriteHalf0 => exact goes_live (fun _ => rfl) (fun _ _ _ b h => busWriteLow_fits b h ..) rfl
  | parallelWriteHalf1 => exact goes_live (fun _ => rfl) (fun _ _ _ b h => busWriteHigh_fits b h ..) rfl
  | spiRead => exact goes_live (fun _ => rfl) (fun _ _ _ b h => spiRead_fits b h ..) rfl
  | spiWrite => exact goes_live (fun _ => rfl) (fun _ _ _ b h => spiWrite_fits b h ..) rfl
  | spiStatus => exact goes_live (fun _ => rfl) (fun _ _ _ b h => spiStatusFrame_fits b h ..) rfl
  | spiInvalidFrame => exact goes_live (fun _ => rfl) (fun _ _ _ b h => spiInvalid_fits b h ..) rfl
  | openRead => exact goes_live (fun _ => rfl) (fun _ _ _ b h => streamDo_fits b h ..) rfl
  | openWrite => exact goes_live (fun _ => rfl) (fun _ _ _ b h => streamDo_fits b h ..) rfl
  | close_ => exact goes_live (fun _ => rfl) (fun _ _ _ b h => streamDo_fits b h ..) rfl
  | streamDataRead => exact goes_live (fun _ => rfl) (fun _ _ _ b h => streamGet_fits b h ..) rfl
  | streamDataWrite => exact goes_live (fun _ => rfl) (fun _ _ _ b h => streamPut_fits b h ..) rfl
  | nmtStartRemoteNode => exact goes_live (fun _ => rfl) (fun _ _ _ b h => nmtGo_fits b h ..) rfl
  | nmtStopRemoteNode => exact goes_live (fun _ => rfl) (fun _ _ _ b h => nmtGo_fits b h ..) rfl
  | nmtEnterPreOperational => exact goes_live (fun _ => rfl) (fun _ _ _ b h => nmtGo_fits b h ..) rfl
  | nmtResetCommunication => exact goes_live (fun _ => rfl) (fun _ _ _ b h => nmtResetComm_fits b h ..) rfl
  | nmtResetNode => exact goes_live (fun _ => rfl) (fun _ _ _ b h => nmtResetNode_fits b h ..) rfl
  | lssSwitchStateGlobal => exact goes_live (fun _ => rfl) (fun _ _ _ b h => lssGlobal_fits b h ..) rfl
  | lssSwitchStateSelective => exact goes_live (fun _ => rfl) (fun _ _ _ b h => lssSelective_fits b h ..) rfl
  | lssConfigureNodeId => exact goes_live (fun _ => rfl) (fun _ _ _ b h => lssNode_fits b h ..) rfl
  | lssConfigureBitTiming => exact goes_live (fun _ => rfl) (fun _ _ _ b h => lssTiming_fits b h ..) rfl
  | lssActivateBitTiming => exact goes_live (fun _ => rfl) (fun _ _ _ b h => lssActivate_fits b h ..) rfl
  | lssStoreConfiguration => exact goes_live (fun _ => rfl) (fun _ _ _ b h => lssStore_fits b h ..) rfl
  | lssInquireIdentity => exact goes_live (fun _ => rfl) (fun _ _ _ b h => lssInquire_fits b h ..) rfl
  | lssIdentifyRemoteSlave => exact goes_live (fun _ => rfl) (fun _ _ _ b h => lssIdentify_fits b h ..) rfl
  | lssIdentifyNonConfigured => exact goes_live (fun _ => rfl) (fun _ _ _ b h => lssIdentifyNone_fits b h ..) rfl
  | sdoDownload =>
    exact goes_live (fun _ => rfl) (fun _ _ _ b h => sdoServed_fits (within_trans (by decide) b) h _ _ _ _ fun _ k => sdoDownload_fits b k ..) rfl
  | sdoUpload =>
    exact goes_live (fun _ => rfl) (fun _ _ _ b h => sdoServed_fits (within_trans (by decide) b) h _ _ _ _ fun _ k => sdoUpload_fits b k ..) rfl
  | sdoSegment => exact goes_live (fun _ => rfl) (fun _ _ _ b h => sdoSegServed_fits b h ..) rfl
  | sdoTimeout => exact goes_live (fun _ => rfl) (fun _ _ _ b h => sdoTimeout_fits b h ..) rfl
  | syncReceived => exact goes_live (fun _ => rfl) (fun _ _ _ b h => syncReceived_fits b h ..) rfl
  | tpdoTransmit => exact goes_live (fun _ => rfl) (fun _ _ _ b h => tpdoTransmit_fits b h ..) rfl
  | tpdoEventTimer => exact goes_live (fun _ => rfl) (fun _ _ _ b h => tpdoTimer_fits b h ..) rfl
  | rpdoReceived => exact goes_live (fun _ => rfl) (fun _ _ _ b h => rpdoReceived_fits b h ..) rfl
  | emcyTransmit => exact goes_live (fun _ => rfl) (fun _ _ _ b h => emcyTransmit_fits b h ..) rfl
  | heartbeatTimer => exact goes_live (fun _ => rfl) (fun _ _ _ b h => heartbeat_fits b h ..) rfl
  | journalCommitTimer => exact goes_live (fun _ => rfl) (fun _ _ _ b h => logTimer_fits b h ..) rfl
  | stampPop => exact goes_live (fun _ => rfl) (fun _ _ _ b h => namedRead_fits b h ..) rfl
  | exportFlushTimer => exact goes_live (fun _ => rfl) (fun _ _ _ b h => exportSend_fits b h ..) rfl
  | rateSecond => exact goes_live (fun _ => rfl) (fun _ _ _ b h => wholeSecondEnd_fits b h ..) rfl
  | gateDeadline => exact goes_live (fun _ => rfl) (fun _ _ _ b h => gateDeadline_fits b h ..) rfl
  | soscAbsent => exact goes_live (fun _ => rfl) (fun _ _ _ b h => soscAbsent_fits b h ..) rfl
  | timebaseFallback => exact goes_live (fun _ => rfl) (fun _ _ _ b h => tbFallback_fits b h ..) rfl
  | timebaseSoscReturn => exact goes_live (fun _ => rfl) (fun _ _ _ b h => tbReturn_fits b h ..) rfl
  | timebaseModelEval => exact goes_live (fun _ => rfl) (fun _ _ _ b h => tbEval_fits b h ..) rfl
  | sampleIntervalEnd => exact goes_live (fun _ => rfl) (fun _ _ _ b h => sampleMissing_fits b h ..) rfl
  | losDeclared => exact goes_live (fun _ => rfl) (fun _ _ _ b h => losDeclared_fits b h ..) rfl
  | losSignalArrives => exact goes_live (fun _ => rfl) (fun _ _ _ b h => dpLosArrives_fits b h ..) rfl
  | freqWindowEnd => exact goes_result (fun _ => rfl) (fun _ _ _ b h => freqWindowEnd_fits b h ..) rfl
  | driftBinEnd => exact goes_result (fun _ => rfl) (fun _ _ _ b h => driftBinEnd_fits b h ..) rfl
  | mtieStep => exact goes_result (fun _ => rfl) (fun _ _ _ b h => mtieStepEnd_fits b h ..) rfl
  | tdevBlockEnd => exact goes_result (fun _ => rfl) (fun _ _ _ b h => tdevBlockEnd_fits b h ..) rfl
  | cupEvaluation => exact goes_live (fun _ => rfl) (fun _ _ _ b h => cupTick_fits b h ..) rfl
  | qualifyTimeExpiry => exact goes_live (fun _ => rfl) (fun _ _ _ b h => cupQualifyExpiry_fits b h ..) rfl
  | losClearTimeExpiry => exact goes_live (fun _ => rfl) (fun _ _ _ b h => cupClearExpiry_fits b h ..) rfl
  | cupStateArrives => exact goes_live (fun _ => rfl) (fun _ _ _ b h => dpCupArrives_fits b h ..) rfl
  | dpllUpdate => exact goes_live (fun _ => rfl) (fun _ _ _ b h => dpllUpdate_fits b h ..) rfl
  | wtrExpiry => exact goes_live (fun _ => rfl) (fun _ _ _ b h => dpWtrExpiry_fits b h ..) rfl
  | holdOffExpiry => exact goes_live (fun _ => rfl) (fun _ _ _ b h => dpHoldoffEnd_fits b h ..) rfl
  | acqTimeout => exact goes_live (fun _ => rfl) (fun _ _ _ b h => dpAcqTimeout_fits b h ..) rfl
  | faultHoldArrives => exact goes_live (fun _ => rfl) (fun _ _ _ b h => faultHold_fits b h ..) rfl
  | faultHoldRemoved => exact goes_live (fun _ => rfl) (fun _ _ _ b h => faultHold_fits b h ..) rfl
  | carafeSecond => exact goes_live (fun _ => rfl) (fun _ _ _ b h => carafeSecond_fits b h ..) rfl
  | carafeSampleArrives => exact goes_live (fun _ => rfl) (fun _ _ _ b h => carafeArrive_fits b h ..) rfl
  | holdoverPrepare => exact goes_live (fun _ => rfl) (fun _ _ _ b h => holdPrepare_fits b h ..) rfl
  | preparedValueArrives => exact goes_live (fun _ => rfl) (fun _ _ _ b h => holdPrepArrive_fits b h ..) rfl
  | holdoverCorrection => exact goes_live (fun _ => rfl) (fun _ _ _ b h => holdCorrect_fits b h ..) rfl
  | holdoverAlarm => exact goes_live (fun _ => rfl) (fun _ _ _ b h => holdAlarm_fits b h ..) rfl
  | fitIntervalTimer => exact goes_live (fun _ => rfl) (fun _ _ _ b h => fitTimer_fits b h ..) rfl
  | fitComplete => exact goes_live (fun _ => rfl) (fun _ _ _ b h => fitComplete_fits b h ..) rfl
  | tempStaleTimer => exact goes_live (fun _ => rfl) (fun _ _ _ b h => tempStale_fits b h ..) rfl
  | baseChangeToMxo => exact goes_live (fun _ => rfl) (fun _ _ _ b h => baseToMxo_fits b h ..) rfl
  | baseChangeToSosc => exact goes_live (fun _ => rfl) (fun _ _ _ b h => baseToSosc_fits b h ..) rfl
  | refRelockComplete => exact goes_live (fun _ => rfl) (fun _ _ _ b h => refRelocked_fits b h ..) rfl
  | bandSelectDone => exact goes_live (fun _ => rfl) (fun _ _ _ b h => bandKept_fits b h ..) rfl
  | lockWindowEnd => exact goes_live (fun _ => rfl) (fun _ _ _ b h => lockWindow_fits b h ..) rfl
  | lockingTimeout => exact goes_live (fun _ => rfl) (fun _ _ _ b h => lockingTimeout_fits b h ..) rfl
  | returnHoldExpiry => exact goes_live (fun _ => rfl) (fun _ _ _ b h => returnHoldEnd_fits b h ..) rfl
  | rampSegmentEnd => exact goes_live (fun _ => rfl) (fun _ _ _ b h => rampSegmentEnd_fits b h ..) rfl
  | alignedEdge => exact goes_live (fun _ => rfl) (fun _ _ _ b h => alignedEdge_fits b h ..) rfl
  | tcPourDone => exact goes_timed (fun _ => rfl) (fun _ _ _ b h => tcPourDone_fits b h ..) rfl
  | tieIncrementArrives => exact goes_timed (fun _ => rfl) (fun _ _ _ b h => tieArrive_fits b h ..) rfl
  | hwsOffset => exact goes_timed (fun _ => rfl) (fun _ _ _ b h => hwsOffset_fits b h ..) rfl
  | pulseInstant => exact goes_timed (fun _ => rfl) (fun _ _ _ b h => pulseInstant_fits b h ..) rfl
  | contextStateChange => exact goes_timed (fun _ => rfl) (fun _ _ _ b h => ctxRefresh_fits b h ..) rfl
  | offsetTimeout => exact goes_timed (fun _ => rfl) (fun _ _ _ b h => offsetTimeout_fits b h ..) rfl
  | contextQualifyTime => exact goes_timed (fun _ => rfl) (fun _ _ _ b h => ctxQualify_fits b h ..) rfl
  | ptpSyncRx => exact goes_timed (fun _ => rfl) (fun _ _ _ b h => syncRx_fits b h ..) rfl
  | ptpFollowUpRx => exact goes_timed (fun _ => rfl) (fun _ _ _ b h => followUpRx_fits b h ..) rfl
  | ptpDelayReqRx => exact goes_timed (fun _ => rfl) (fun _ _ _ b h => delayReqRx_fits b h ..) rfl
  | ptpDelayRespRx => exact goes_timed (fun _ => rfl) (fun _ _ _ b h => delayRespRx_fits b h ..) rfl
  | ptpPdelayReqRx => exact goes_timed (fun _ => rfl) (fun _ _ _ b h => pdelayReqRx_fits b h ..) rfl
  | ptpPdelayRespRx => exact goes_timed (fun _ => rfl) (fun _ _ _ b h => pdelayRespRx_fits b h ..) rfl
  | ptpAnnounceRx => exact goes_timed (fun _ => rfl) (fun _ _ _ b h => announceRx_fits b h ..) rfl
  | ptpSignalingRx => exact goes_timed (fun _ => rfl) (fun _ _ _ b h => signalingRx_fits b h ..) rfl
  | ptpSyncInterval => exact goes_timed (fun _ => rfl) (fun _ _ _ b h => syncInterval_fits b h ..) rfl
  | ptpDelayReqInterval => exact goes_timed (fun _ => rfl) (fun _ _ _ b h => delayInterval_fits b h ..) rfl
  | ptpAnnounceInterval => exact goes_timed (fun _ => rfl) (fun _ _ _ b h => announceInterval_fits b h ..) rfl
  | announceReceiptTimeout => exact goes_timed (fun _ => rfl) (fun _ _ _ b h => announceTimeout_fits b h ..) rfl
  | grantExpiry => exact goes_timed (fun _ => rfl) (fun _ _ _ b h => grantExpiry_fits b h ..) rfl
  | grantRenewalTimer => exact goes_timed (fun _ => rfl) (fun _ _ _ b h => grantRenewal_fits b h ..) rfl
  | arpNdpRx => exact goes_timed (fun _ => rfl) (fun _ _ _ b h => arpRx_fits b h ..) rfl
  | peerResolveTimer => exact goes_timed (fun _ => rfl) (fun _ _ _ b h => peerResolve_fits b h ..) rfl
  | ethOtherFrameRx => exact goes_timed (fun _ => rfl) (fun _ _ _ b h => ethOther_fits b h ..) rfl
  | passthroughFrame => exact goes_timed (fun _ => rfl) (fun _ _ _ b h => passFrame_fits b h ..) rfl
  | ethLinkChange => exact goes_timed (fun _ => rfl) (fun _ _ _ b h => ethLink_fits b h ..) rfl
  | txRecordPop => exact goes_live (fun _ => rfl) (fun _ _ _ b h => namedRead_fits b h ..) rfl
  | txStampMissing => exact goes_timed (fun _ => rfl) (fun _ _ _ b h => txStampMissing_fits b h ..) rfl
  | actionDue => exact goes_timed (fun _ => rfl) (fun _ _ _ b h => actionDue_fits b h ..) rfl
  | actionDispatch => exact goes_timed (fun _ => rfl) (fun _ _ _ b h => actionDispatch_fits b h ..) rfl
  | edgeActionFires => exact goes_timed (fun _ => rfl) (fun _ _ _ b h => edgeFires_fits b h ..) rfl
  | schedDpllActionArrives => exact goes_timed (fun _ => rfl) (fun _ _ _ b h => schedArrives_fits b h ..) rfl
  | fabTrainingAttemptEnd => exact goes_timed (fun _ => rfl) (fun _ _ _ b h => fabTrained_fits b h ..) rfl
  | fabTrainingRetryTimer => exact goes_timed (fun _ => rfl) (fun _ _ _ b h => fabRetry_fits b h ..) rfl
  | fabBerFail => exact goes_timed (fun _ => rfl) (fun _ _ _ b h => fabRetrain_fits b h ..) rfl
  | fabHelloTimeout => exact goes_timed (fun _ => rfl) (fun _ _ _ b h => fabRetrain_fits b h ..) rfl
  | txReferenceChange => exact goes_timed (fun _ => rfl) (fun _ _ _ b h => txFollow_fits b h ..) rfl
  | creditRx => exact goes_timed (fun _ => rfl) (fun _ _ _ b h => creditRx_fits b h ..) rfl
  | creditReportTimer => exact goes_timed (fun _ => rfl) (fun _ _ _ b h => creditReport_fits b h ..) rfl
  | fabFrameRx => exact goes_timed (fun _ => rfl) (fun _ _ _ b h => fabFrame_fits b h _ _ _ _ (serveRemote_serves b)) rfl
  | helloTimer => exact goes_timed (fun _ => rfl) (fun _ _ _ b h => helloTimer_fits b h ..) rfl
  | rootSeqTimer => exact goes_timed (fun _ => rfl) (fun _ _ _ b h => rootSeqTimer_fits b h ..) rfl
  | rootTimeout => exact goes_timed (fun _ => rfl) (fun _ _ _ b h => rootTimeout_fits b h ..) rfl
  | routeUpdateTimer => exact goes_timed (fun _ => rfl) (fun _ _ _ b h => routeUpdateTimer_fits b h ..) rfl
  | routeExpiry => exact goes_timed (fun _ => rfl) (fun _ _ _ b h => routeExpiry_fits b h ..) rfl
  | routeRebuildDone => exact goes_timed (fun _ => rfl) (fun _ _ _ b h => rebuildDone_fits b h ..) rfl
  | pendingFrameExpiry => exact goes_timed (fun _ => rfl) (fun _ _ _ b h => pendingExpiry_fits b h ..) rfl
  | addressRetryTimer => exact goes_timed (fun _ => rfl) (fun _ _ _ b h => addressRetry_fits b h ..) rfl
  | addressHoldExpiry => exact goes_timed (fun _ => rfl) (fun _ _ _ b h => addressHold_fits b h ..) rfl
  | discoveryDone => exact goes_timed (fun _ => rfl) (fun _ _ _ b h => discoveryDone_fits b h ..) rfl
  | slotFrameBoundary => exact goes_timed (fun _ => rfl) (fun _ _ _ b h => slotBoundary_fits b h ..) rfl
  | linkTimingSlot => exact goes_timed (fun _ => rfl) (fun _ _ _ b h => linkTiming_fits b h ..) rfl
  | timeDownSlot => exact goes_timed (fun _ => rfl) (fun _ _ _ b h => timeDownSlot_fits b h ..) rfl
  | markerRequestRx => exact goes_timed (fun _ => rfl) (fun _ _ _ b h => markerRequest_fits b h ..) rfl
  | markerResponseRx => exact goes_timed (fun _ => rfl) (fun _ _ _ b h => markerResponse_fits b h ..) rfl
  | timingFollowUpRx => exact goes_timed (fun _ => rfl) (fun _ _ _ b h =>
      fabFrameOf_fits b (State.setPort_fits (within_trans (by decide) b) h _ _) _ _ _ _ _ _ _ (serveRemote_serves b)) rfl
  | exchangeFollowUpTimeout => exact goes_timed (fun _ => rfl) (fun _ _ _ b h => exchangeTimeout_fits b h ..) rfl
  | requestTimeout => exact goes_timed (fun _ => rfl) (fun _ _ _ b h => requestTimeout_fits b h _ _ (serveRemote_serves b)) rfl
  | blendMeasureDone => exact goes_timed (fun _ => rfl) (fun _ _ _ b h => blendMeasured_fits b h ..) rfl
  | blendInstant => exact goes_timed (fun _ => rfl) (fun _ _ _ b h => blendInstant_fits b h ..) rfl
  | blendPourDone => exact goes_timed (fun _ => rfl) (fun _ _ _ b h => blendPoured_fits b h ..) rfl
  | blendEnd => exact goes_timed (fun _ => rfl) (fun _ _ _ b h => blendEnd_fits b h ..) rfl
  | blendAlign => exact goes_timed (fun _ => rfl) (fun _ _ _ b h => blendAlign_fits b h ..) rfl
  | calStepStart => exact goes_live (fun _ => rfl) (fun _ _ _ b h => stepStart_fits b h ..) rfl
  | calHandoverCut => exact goes_live (fun _ => rfl) (fun _ _ _ b h => handoverCut_fits b h ..) rfl
  | calPassComplete => exact goes_live (fun _ => rfl) (fun _ _ _ b h => passComplete_fits b h ..) rfl
  | calPassTimeout => exact goes_live (fun _ => rfl) (fun _ _ _ b h => passTimeout_fits b h ..) rfl
  | calProcessingDone => exact goes_live (fun _ => rfl) (fun _ _ _ b h => processingDone_fits b h ..) rfl
  | calOffsetsDone => exact goes_live (fun _ => rfl) (fun _ _ _ b h => offsetsDone_fits b h ..) rfl
  | calLinkAbandonTimer => exact goes_live (fun _ => rfl) (fun _ _ _ b h => linkAbandon_fits b h ..) rfl
  | outputTracking => exact goes_live (fun _ => rfl) (fun _ _ _ b h => outTrack_fits b h ..) rfl
  | branchTrimStep => exact goes_live (fun _ => rfl) (fun _ _ _ b h => branchStep_fits b h ..) rfl
  | apllTrimStep => exact goes_live (fun _ => rfl) (fun _ _ _ b h => apllTrim_fits b h ..) rfl
  | laneAdaptStep => exact goes_live (fun _ => rfl) (fun _ _ _ b h => laneStep_fits b h ..) rfl
  | eyeMonitor => exact goes_live (fun _ => rfl) (fun _ _ _ b h => eyeMonitor_fits b h ..) rfl
  | scrubRead => exact goes_live (fun _ => rfl) (fun _ _ _ b h => scrubRead_fits b h ..) rfl
  | storeStart => exact goes_live (fun _ => rfl) (fun _ _ _ b h => storeStart_fits b h ..) rfl
  | storeComplete => exact goes_live (fun _ => rfl) (fun _ _ _ b h => storeComplete_fits b h ..) rfl
  | commitStart => exact goes_live (fun _ => rfl) (fun _ _ _ b h => commitStart_fits b h ..) rfl
  | commitComplete => exact goes_live (fun _ => rfl) (fun _ _ _ b h => commitComplete_fits b h ..) rfl
  | energyRecheckTimer => exact goes_live (fun _ => rfl) (fun _ _ _ b h => energyRecheck_fits b h ..) rfl
  | vholdSample => exact goes_live (fun _ => rfl) (fun _ _ _ b h => vholdSample_fits b h ..) rfl
  | hostTimeout => exact goes_live (fun _ => rfl) (fun _ _ _ b h => hostTimeout_fits b h ..) rfl
  | pfailFall => exact goes_always (fun _ => rfl) (fun _ _ _ b h => pfailDown_fits b h ..) rfl
  | pfailRise => exact goes_always (fun _ => rfl) (fun _ _ _ b h => pfailUp_fits b h ..) rfl
  | recordTie => exact goes_live (fun _ => rfl) (fun _ _ _ b h => recordRead_fits b h ..) rfl
  | engineWatchdog => exact goes_live (fun _ => rfl) (fun _ _ _ b h => engineWatchdog_fits b h ..) rfl
  | engineRestartDone => exact goes_live (fun _ => rfl) (fun _ _ _ b h => engineBack_fits b h ..) rfl
  | engineOverload => exact goes_live (fun _ => rfl) (fun _ _ _ b h => engineOverload_fits b h ..) rfl
  | contextStoreRequest => exact goes_live (fun _ => rfl) (fun _ _ _ b h => storeCycle_fits b h ..) rfl
  | requesterAged => exact goes_live (fun _ => rfl) (fun _ _ _ b h => requesterAged_fits b h ..) rfl
  | lockRequest => exact goes_live (fun _ => rfl) (fun _ _ _ b h => lockRequest_fits b h ..) rfl
  | lockRelease => exact goes_live (fun _ => rfl) (fun _ _ _ b h => lockRelease_fits b h ..) rfl
  | holdLimitExpiry => exact goes_live (fun _ => rfl) (fun _ _ _ b h => holdLimit_fits b h ..) rfl
  | faultMessage => exact goes_live (fun _ => rfl) (fun _ _ _ b h => faultMessage_fits b h ..) rfl
  | quietPeriodExpiry => exact goes_live (fun _ => rfl) (fun _ _ _ b h => quietExpiry_fits b h ..) rfl
  | shadowExpiry => exact goes_live (fun _ => rfl) (fun _ _ _ b h => shadowExpiry_fits b h ..) rfl
  | fabricListenerSend => exact goes_live (fun _ => rfl) (fun _ _ _ b h => fabricListenerSend_fits b h ..) rfl
  | inboxRead => exact goes_live (fun _ => rfl) (fun _ _ _ b h => namedRead_fits b h ..) rfl
  | dieTempRefresh => exact goes_live (fun _ => rfl) (fun _ _ _ b h => dieTemps_fits b h ..) rfl
  | supplyValidChange => exact goes_always (fun _ => rfl) (fun _ _ _ b h => supplyChange_fits b h ..) rfl
  | rstNLow => exact goes_always (fun _ => rfl) (fun _ _ _ b h => rstLow_fits b h ..) rfl
  | jtagResetInstruction => exact goes_always (fun _ => rfl) (fun _ _ _ b h => tapReset_fits b h ..) rfl
  | resetAssert => exact goes_always (fun _ => rfl) (fun _ _ _ b h => resetAssert_fits b h ..) rfl
  | resetRelease => exact goes_always (fun _ => rfl) (fun _ _ _ b h => resetRelease_fits b h ..) rfl
  | bootClocksDone => exact goes_always (fun _ => rfl) (fun _ _ _ b h => bootClocks_fits b h ..) rfl
  | bootRecoveryDone => exact goes_always (fun _ => rfl) (fun _ _ _ b h => bootRecovery_fits b h ..) rfl
  | bootFirmwareDone => exact goes_always (fun _ => rfl) (fun _ _ _ b h => bootFirmware_fits b h ..) rfl
  | bootRestoreDone => exact goes_always (fun _ => rfl) (fun _ _ _ b h => bootRestore_fits b h ..) rfl
  | bootCalibrationDone => exact goes_always (fun _ => rfl) (fun _ _ _ b h => bootCalibration_fits b h ..) rfl
  | bootChannelsDone => exact goes_always (fun _ => rfl) (fun _ _ _ b h => bootChannels_fits b h ..) rfl
  | bootSynthesisDone => exact goes_always (fun _ => rfl) (fun _ _ _ b h => bootSynthesis_fits b h ..) rfl
  | bootDone => exact goes_always (fun _ => rfl) (fun _ _ _ b h => bootDone_fits b h ..) rfl
  | canErrorStateChange => exact goes_live (fun _ => rfl) (fun _ _ _ b h => canErrors_fits b h ..) rfl
  | soscPresent => exact goes_live (fun _ => rfl) (fun _ _ _ b h => soscPresent_fits b h ..) rfl
  | preMasterQualificationTimeout => exact goes_timed (fun _ => rfl) (fun _ _ _ b h => preMasterEnd_fits b h ..) rfl
  | odStoreEntryExpiry => exact goes_timed (fun _ => rfl) (fun _ _ _ b h => odExpiry_fits b h _ (serveRemote_serves b)) rfl

/-- The frame of every row, by parts of the state (R1, R20). -/
theorem exec_frame (c : Instr) (s : State) :
    ∃ t, exec c s = .next t ∧ t.pending = s.pending ∧ ∀ p, p ∉ touched c → Part.same s t p := by
  obtain ⟨t, ht, hk⟩ := exec_goes c s
  exact ⟨t, ht, hk.pending, hk.same⟩

/-- The queue has no part in soundness. -/
theorem Sound.withQueue {s : State} (h : Sound s) (q : List Instr) : Sound { s with pending := q } where
  dict := h.dict
  array := h.array
  shape := { h.shape with }
  links := h.links
  stamps := h.stamps
  snap := h.snap
  writes := h.writes

theorem step_of_empty {s : State} (h : s.pending = []) : step s = .next (idleTick s) := by simp only [step, h]

theorem step_of_front {s : State} {c : Instr} {r : List Instr} (h : s.pending = c :: r) : step s = exec c { s with pending := r } := by
  simp only [step, h]

theorem step_keeps_sound {s t : State} (h : Sound s) (hs : step s = .next t) : Sound t ∧ t.pending = s.pending.tail := by
  cases hp : s.pending with
  | nil =>
    have ht : idleTick s = t := Host.Outcome.next.inj ((step_of_empty hp).symm.trans hs)
    have hk : Fits 155947 s t := ht ▸ idleTick_fits (by decide) (.refl _ s)
    exact ⟨hk.sound h, by rw [hk.pending, hp]; rfl⟩
  | cons c r =>
    obtain ⟨u, hu, hk⟩ := exec_goes c { s with pending := r }
    have ht : u = t := Host.Outcome.next.inj (hu.symm.trans ((step_of_front hp).symm.trans hs))
    subst ht
    exact ⟨hk.sound (h.withQueue r), hk.pending⟩

/-- Settles O54: each operation's law of `Fits` keeps every invariant, and each row is one of those operations. -/
theorem everyStepKeepsSound : Obligations.EveryStepKeepsSound := fun _ _ => step_keeps_sound

end Sys2Proof.Machine
end

section
/-! PROOFS. The state after reset. -/

namespace Sys2Proof.Machine

theorem storeGet_map_const {α : Type} (f : Nat → Nat) (v : α) (k : Nat) :
    ∀ l : List Nat, storeGet (l.map fun j => (f j, v)) k = if ∃ j ∈ l, f j = k then some v else none
  | [] => (if_neg fun ⟨_, hj, _⟩ => List.not_mem_nil hj).symm
  | a :: r => by
    rw [List.map_cons, storeGet, storeGet_map_const f v k r]
    by_cases h : f a = k
    · rw [if_pos h, if_pos ⟨a, List.mem_cons_self, h⟩]
    · simp only [h, if_false, List.mem_cons, exists_eq_or_imp, false_or]

theorem getD_ite {α : Type} (c : Prop) [Decidable c] (v d : α) (o : Option α) :
    (if c then some v else o).getD d = if c then v else o.getD d := by
  split
  · exact Option.getD_some
  · rfl

theorem reset_sound : Sound State.reset where
  dict := reset_dict
  array := rfl
  shape := reset_shape
  links := reset_links
  stamps := reset_stamps
  snap := reset_snap
  writes := ⟨rfl, fun _ h => nomatch h⟩

theorem reset_rd (k : Key) : State.reset.rd k =
    if k = key 0x2000 8 then 1 else if k = key 0x2046 1 then 1 else if k = key 0x2046 4 then 8 else defaultOf k := by
  change (storeGet [(key 0x2000 8, 1), (key 0x2046 1, 1), (key 0x2046 4, 8)] k).getD (defaultOf k) = _
  simp only [storeGet, eq_comm (b := k), getD_ite, Option.getD_none]

theorem apll_status_key (k : Nat) :
    (∃ j ∈ List.range 8, 0x350001 + 256 * j = k) ↔ k % 256 = 1 ∧ 0x3500 ≤ k / 256 ∧ k / 256 < 0x3508 := by
  constructor
  · rintro ⟨j, hj, rfl⟩
    have := List.mem_range.mp hj
    omega
  · rintro ⟨h1, h2, h3⟩
    exact ⟨k / 256 - 0x3500, List.mem_range.mpr (by omega), by omega⟩

theorem reset_drd (k : Key) : State.reset.drd k =
    if k % 256 = 1 ∧ 0x3500 ≤ k / 256 ∧ k / 256 < 0x3508 then 8 else defaultOf k := by
  change (storeGet ((List.range 8).map fun j => (0x350001 + 256 * j, 8)) k).getD (defaultOf k) = _
  simp only [storeGet_map_const, apll_status_key, getD_ite, Option.getD_none]

theorem reset_tcs : ∀ c ∈ State.reset.tcs, c.unset = true ∧ c.val = 0 := by
  intro c hc
  rw [List.eq_of_mem_replicate hc]
  exact ⟨rfl, rfl⟩

theorem reset_linkUp (l : Nat) : State.reset.linkUp l = false := by
  have h : State.reset.linkAt l = {} := by
    change (List.replicate 13 ({} : Link)).getD l {} = {}
    simp only [List.getD_eq_getElem?_getD, List.getElem?_replicate, getD_ite, Option.getD_none, ite_self]
  unfold State.linkUp
  rw [h]
  rfl

/-- Settles O55: every unit stands at its start, where each balance is 0 = 0. -/
theorem resetIsSound : Obligations.ResetIsSound := ⟨reset_sound, rfl⟩

/-- Settles O56: the listed entries are read off the two sparse maps of the reset state; all others read their default. -/
theorem resetLeavesTheDefaults : Obligations.ResetLeavesTheDefaults :=
  ⟨reset_rd, reset_drd, rfl, rfl, rfl, rfl, reset_tcs, rfl, rfl, reset_linkUp⟩

end Sys2Proof.Machine
end

section
/-! PROOFS. A row whose operand names no unit of the device. -/

namespace Sys2Proof.Machine

/-- A candidate write for a DPLL that does not exist does nothing. -/
theorem exec_candidateWrite_of_noDpll (s : State) (via : Iface) {k : Nat} (e : Nat) (d : Datum) (hk : 16 ≤ k) :
    exec (.candidateWrite via k e d) s = .next s := by
  have hw : ∀ s : State, namedWrite s via 0x3410 16 k (e + 1) d = s := fun s => if_neg fun h => absurd h.1 (by omega)
  change next (live s fun s => if e < 16 then namedWrite s via 0x3410 16 k (e + 1) d else s) = next s
  simp only [hw, ite_self, live]

/-- The device once its boot has ended: the dictionary open, and the change journal free to take a record. -/
def booted : State :=
  { State.reset with
    boot := { State.reset.boot with booting := false, open_ := true }
    nv := { State.reset.nv with busy := false } }

/-- A write of MASK (3420h.03), which is where entry 2 of the candidates of a DPLL 16 would stand. -/
theorem booted_accepts_mask : Accepts booted (.fabric 1) 0x3420 3 ⟨4, 1⟩ :=
  ⟨rfl, rfl, by decide +kernel, ⟨rfl, rfl, rfl, rfl⟩, by decide +kernel, by decide +kernel⟩

theorem booted_mask : booted.rd (key 0x3420 3) = 0 := by decide +kernel

theorem booted_mask_written :
    (refill (applyWrite serveRemote (arrived booted (.fabric 1) 0x3420 3 ⟨4, 1⟩) (.fabric 1) 0x3420 3 ⟨4, 1⟩)).rd (key 0x3420 3) = 1 := by
  decide +kernel

/-- Refutes O52: its second part holds a row to the entry that `entryWrite` names, and `entryWrite` names one for a candidate write of any
DPLL number. CANDIDATE_WRITE for DPLL 16, entry 2, names 3420h.03, the MASK of DPLL 0's record: a write of MASK is accepted there, but the
command does nothing, since no DPLL 16 exists. (Its first part, the frame of every row, holds: `exec_frame`.) -/
theorem not_everyCommandKeepsTheOtherParts : ¬ Obligations.EveryCommandKeepsTheOtherParts := by
  rintro ⟨-, hwrite⟩
  obtain ⟨t, ht, hval, -⟩ := hwrite (.candidateWrite (.fabric 1) 16 2 ⟨4, 1⟩) booted (.fabric 1) 0x3420 3 ⟨4, 1⟩ rfl booted_accepts_mask
  have hid : booted = t := by
    rw [exec_candidateWrite_of_noDpll booted (.fabric 1) 2 ⟨4, 1⟩ (by decide)] at ht
    injection ht
  have hmask := congrArg (·.rd (key 0x3420 3)) (hid.trans hval)
  simp only [booted_mask, booted_mask_written] at hmask
  exact absurd hmask (by decide)

end Sys2Proof.Machine
end

section
/-! PROOFS. A row that acts out of reset does what its operation does. -/

namespace Sys2Proof.Machine

theorem exec_of_live {c : Instr} {f : State → State} {s : State} (he : exec c s = next (live s f)) (h : Live s) : exec c s = .next (f s) := by
  rw [he, live_of f h]

theorem exec_unique {c : Instr} {s t u : State} (ht : exec c s = .next t) (hu : exec c s = .next u) : t = u :=
  Host.Outcome.next.inj (ht.symm.trans hu)

end Sys2Proof.Machine
end

section
/-! PROOFS. What a read answers does not depend on the writes that wait (R61). -/

namespace Sys2Proof.Machine

/-- The state with other writes waiting at the host port. -/
def State.withPosted (s : State) (l : List Posted) : State := { s with host := { s.host with posted := l } }

/-- Two reads answer alike: the same refusal and the same bytes, whatever state each leaves. -/
def SameAnswer (a b : Nat × Datum × State) : Prop := a.1 = b.1 ∧ a.2.1 = b.2.1

theorem SameAnswer.ite {c : Prop} [Decidable c] {a b x y : Nat × Datum × State} (h : SameAnswer a b) (k : SameAnswer x y) :
    SameAnswer (if c then a else x) (if c then b else y) := by
  split
  · exact h
  · exact k

section Pending
variable (s : State) (l : List Posted)

/-! Only 2011h shows the writes that wait. -/

theorem dieEntry_withPosted {index : Nat} (sub : Nat) (h : index ≠ 0x2011) :
    dieEntry (s.withPosted l) index sub = dieEntry s index sub := by
  unfold dieEntry
  simp only [h, if_false]
  rfl

theorem entryValue_withPosted {index : Nat} (sub : Nat) (h : index ≠ 0x2011) :
    entryValue (s.withPosted l) index sub = entryValue s index sub := by
  unfold entryValue
  rw [dieEntry_withPosted s l sub h]
  rfl

theorem entryDatum_withPosted (r : Row) {index : Nat} (sub : Nat) (h : index ≠ 0x2011) :
    entryDatum (s.withPosted l) r index sub = entryDatum s r index sub := by
  have hlen : entryLen (s.withPosted l) r index sub = entryLen s r index sub := by
    unfold entryLen
    rw [entryValue_withPosted s l sub h]
    rfl
  unfold entryDatum
  rw [hlen, entryValue_withPosted s l sub h]

/-! Entries that pop on a read, or that are read from the cells. -/

theorem txRecord_withPosted : (txRecord (s.withPosted l)).1 = (txRecord s).1 := by
  unfold txRecord
  cases h : s.ptp.txq <;> simp only [State.withPosted, h]

theorem inboxRead_withPosted : (inboxRead (s.withPosted l)).1 = (inboxRead s).1 := by
  unfold inboxRead
  cases h : s.col.inbox <;> simp only [State.withPosted, h]

theorem nvBytes_withPosted (n : Nat) : ∀ a, nvBytes (s.withPosted l) a n = nvBytes s a n := by
  induction n with
  | zero => exact fun _ => rfl
  | succ n ih =>
    intro a
    change nvByte s a + 256 * nvBytes (s.withPosted l) (a + 1) n = _
    rw [ih]
    rfl

theorem readData_withPosted : SameAnswer (readData (s.withPosted l)) (readData s) :=
  .ite ⟨rfl, rfl⟩ (.ite ⟨rfl, rfl⟩ ⟨rfl, congrArg (Datum.mk _) (nvBytes_withPosted s l ..)⟩)

theorem logRead_withPosted (log : Bool) (seq : Nat) : SameAnswer (logRead (s.withPosted l) log seq) (logRead s log seq) :=
  .ite (.ite ⟨rfl, rfl⟩ ⟨rfl, congrArg (Datum.mk _) (nvBytes_withPosted s l ..)⟩) ⟨rfl, rfl⟩

theorem nvPage_withPosted : nvPage (s.withPosted l) = nvPage s := funext fun _ => nvBytes_withPosted s l ..

theorem badGroups_withPosted : badGroups (s.withPosted l) = badGroups s := rfl

theorem copySeq_withPosted : copySeq (s.withPosted l) = copySeq s := by
  unfold copySeq
  rw [nvPage_withPosted]

theorem copyLen_withPosted : copyLen (s.withPosted l) = copyLen s := by
  unfold copyLen
  rw [nvPage_withPosted]

theorem copyContent_withPosted : copyContent (s.withPosted l) = copyContent s := by
  unfold copyContent
  rw [nvPage_withPosted, copyLen_withPosted]

theorem copyCorrected_withPosted : copyCorrected (s.withPosted l) = copyCorrected s := rfl

theorem copyValid_withPosted : copyValid (s.withPosted l) = copyValid s := by
  unfold copyValid
  rw [nvPage_withPosted, badGroups_withPosted]

theorem recordServed_withPosted : recordServed (s.withPosted l) = recordServed s := by
  unfold recordServed
  rw [copyValid_withPosted, copySeq_withPosted, copyContent_withPosted, copyCorrected_withPosted]

theorem recordData_withPosted : SameAnswer (recordData (s.withPosted l)) (recordData s) := by
  have hrd : (s.withPosted l).rd (key 0x2320 1) = s.rd (key 0x2320 1) := rfl
  unfold recordData
  rw [recordServed_withPosted, copyLen_withPosted, nvPage_withPosted, hrd]
  dsimp only
  cases recordServed s (s.rd (key 0x2320 1)) <;> exact ⟨rfl, rfl⟩

theorem readBase_withPosted (via : Iface) {index : Nat} (sub : Nat) (h : index ≠ 0x2011) :
    SameAnswer (readBase (s.withPosted l) via index sub) (readBase s via index sub) := by
  unfold readBase
  cases findRow index sub with
  | none => exact ⟨rfl, rfl⟩
  | some r =>
    have hplain : SameAnswer (0, entryDatum (s.withPosted l) r index sub, s.withPosted l) (0, entryDatum s r index sub, s) :=
      ⟨rfl, entryDatum_withPosted s l r sub h⟩
    have hstamp (n : Nat) : stampLatch (if popsOnRead index sub then popStamp (s.withPosted l) (ifaceLatch via) n else s.withPosted l) (ifaceLatch via) n =
        stampLatch (if popsOnRead index sub then popStamp s (ifaceLatch via) n else s) (ifaceLatch via) n := by
      split <;> rfl
    refine .ite ⟨rfl, rfl⟩ (.ite ⟨rfl, ?_⟩ (.ite ⟨rfl, txRecord_withPosted s l⟩ (.ite ⟨rfl, congrArg (Datum.mk 8) (inboxRead_withPosted s l)⟩
      (.ite (readData_withPosted s l) (.ite (recordData_withPosted s l) (.ite (logRead_withPosted s l ..) (.ite (logRead_withPosted s l ..)
        (.ite ⟨rfl, rfl⟩ hplain))))))))
    simp only [hstamp]

end Pending

/-- Settles O60: every operation that a read goes through looks at the host port only for its interface settings and its streams, but for
2011h, which counts the writes that wait. -/
theorem pendingWritesAreNotRead : Obligations.PendingWritesAreNotRead := by
  intro s via index sub l hcount hdata
  unfold readEntry
  rw [hdata]
  exact readBase_withPosted s l via sub hcount

end Sys2Proof.Machine
end

section
/-! PROOFS. The CANopen node: network management (R68 to R72) and the LSS services (R70). -/

namespace Sys2Proof.Machine

/-! Network management. -/

theorem nmtGo_of_mine {s : State} {node : Nat} (st : Nat) (h : nmtMine s node = true) :
    nmtGo s node st = s.setCan fun c => { c with nmt := st } := if_pos h

theorem node_of_nodeOk {s : State} (h : nodeOk s = true) : s.can.node ≠ 0xFF := by
  simp only [nodeOk, Bool.and_eq_true, bne_iff_ne] at h
  exact h.2

theorem node_of_mine {s : State} {node : Nat} (h : nmtMine s node = true) : s.can.node ≠ 0xFF := by
  simp only [nmtMine, Bool.and_eq_true] at h
  exact node_of_nodeOk h.1.1

/-- Reset Communication touches the node, the writes that its transfers hold back, and what is sent. -/
theorem resetCommunication_frame (s : State) : Fits 6291464 s (resetCommunication s) :=
  resetCommunication_fits (by decide) (.refl _ s)

/-- A node that keeps its node-ID starts again in PRE_OPERATIONAL with the settings of 2104h (R71). -/
theorem resetCommunication_can {s : State} (hnode : s.can.node ≠ 0xFF) (hp : s.can.pendingNode = none) :
    (resetCommunication s).can = { s.can with
      nmt := 1, fd := s.rd (key 0x2104 5) == 1, nominal := s.rd (key 0x2104 3), data := s.rd (key 0x2104 4)
      lss := false, sdo := [none, none], tpdos := List.replicate 8 {} } := by
  unfold resetCommunication
  simp only [hp, hnode, if_false, Option.isSome_none, Bool.false_eq_true]
  unfold bootUp
  split <;> rfl

theorem nmtResetNode_of_full {s : State} {node : Nat} (h : nmtMine s node = true) (hf : s.rd (key 0x2104 6) = 1) :
    nmtResetNode s node = s.resetDue (some 4) := (if_pos h).trans (if_pos hf)

theorem nmtResetNode_of_not_full {s : State} {node : Nat} (h : nmtMine s node = true) (hf : s.rd (key 0x2104 6) ≠ 1) :
    nmtResetNode s node = resetCommunication s := (if_pos h).trans (if_neg hf)

/-- An event's bit stands in the HISTORY that it is set in. -/
theorem bit_hist_self (s : State) (index i : Nat) : bit ((s.hist index (2 ^ i)).rd (key index 2)) i = true := by
  unfold State.hist
  rw [State.rd_put_self]
  simp only [bit, setBits, Nat.testBit_or, Nat.testBit_two_pow_self, Bool.or_true]

theorem canErrors_can (s : State) (passive busOff : Bool) :
    (canErrors s passive busOff).can = { s.can with passive := passive, busOff := busOff } := by
  unfold canErrors State.when
  split <;> rfl

theorem canErrors_of_entered {s : State} (passive : Bool) (h : s.can.busOff = false) :
    canErrors s passive true = (s.setCan fun c => { c with passive := passive, busOff := true }).hist 0x2100 (2 ^ 4) := by
  unfold canErrors State.when
  rw [h]
  rfl

/-- Settles O11: NMT commands set the NMT state alone, and the frame of Reset Communication leaves every timing function out. -/
theorem networkManagementTouchesTheNodeOnly : Obligations.NetworkManagementTouchesTheNodeOnly := by
  intro s hl
  refine ⟨fun h => ⟨_, exec_of_live rfl hl, nmtGo_of_mine 2 h⟩, fun h => ⟨_, exec_of_live rfl hl, nmtGo_of_mine 0 h⟩,
    fun h => ⟨_, exec_of_live rfl hl, nmtGo_of_mine 1 h⟩, fun h hp => ?_, fun h hf => ?_, fun h hf hp => ?_, fun hn hc hs => ?_,
    fun passive busOff => ?_⟩
  · have hr : nmtResetComm s 0 = resetCommunication s := if_pos h
    have hfit := resetCommunication_frame s
    refine ⟨resetCommunication s, hr ▸ exec_of_live rfl hl, ?_⟩
    rw [resetCommunication_can (node_of_mine h) hp]
    exact ⟨rfl, rfl, rfl, rfl, rfl, hfit.od (by decide), hfit.dp (by decide), hfit.ap (by decide), hfit.tcs (by decide), hfit.chan (by decide)⟩
  · exact ⟨_, exec_of_live rfl hl, by rw [nmtResetNode_of_full h hf]; rfl⟩
  · have hr : nmtResetNode s 0 = resetCommunication s := nmtResetNode_of_not_full h (by rw [hf]; decide)
    have hfit := resetCommunication_frame s
    refine ⟨resetCommunication s, hr ▸ exec_of_live rfl hl, hfit.resetReq (by decide), ?_, hfit.dp (by decide), hfit.ap (by decide), hfit.tcs (by decide)⟩
    rw [resetCommunication_can (node_of_mine h) hp]
  · exact ⟨_, exec_of_live rfl hl, if_pos ⟨hn, hc, hs⟩⟩
  · refine ⟨_, exec_of_live rfl hl, canErrors_can s passive busOff, ?_⟩
    rintro rfl hwas
    rw [canErrors_of_entered passive hwas]
    exact bit_hist_self _ _ _

/-! The LSS services. -/

/-! What an LSS service journals leaves the node as it is; an answer is all that it sends. -/

@[simp] theorem lssJournal_can (s : State) (sub old new : Nat) : (lssJournal s sub old new).can = s.can :=
  (lssJournal_fits (fp := 524288) (by decide) (.refl _ s) sub old new).can (by decide)

@[simp] theorem lssJournal_out (s : State) (sub old new : Nat) : (lssJournal s sub old new).out = s.out :=
  (lssJournal_fits (fp := 524288) (by decide) (.refl _ s) sub old new).out (by decide)

@[simp] theorem lssSend_can (s : State) (cs v : Nat) : (lssSend s cs v).can = s.can := rfl

@[simp] theorem lssSend_out (s : State) (cs v : Nat) : (lssSend s cs v).out = .can 0x7E4 ⟨8, cs + v * 256⟩ :: s.out := rfl

/-- A node in the configuration state is served (R70). -/
theorem lss_served {s : State} (hon : canOn s = true) (hc : s.can.lss = true) : ¬(canOn s = false ∨ s.can.lss = false) := by
  simp only [hon, hc, Bool.true_eq_false, or_self, not_false_eq_true]

theorem lssNode_of_valid {s : State} {n : Nat} (hon : canOn s = true) (hc : s.can.lss = true) (h1 : 1 ≤ n) (h2 : n ≤ 127) :
    lssNode s n = lssSend (lssJournal (s.setCan fun c => { c with pendingNode := some n }) 1 s.can.node n) 0x11 0 :=
  (if_neg (lss_served hon hc)).trans (if_pos (.inl ⟨h1, h2⟩))

theorem lssTiming_of_valid {s : State} {rate : Nat} (hon : canOn s = true) (hc : s.can.lss = true) (h : rate ≤ 4) :
    lssTiming s 0 rate =
      lssSend (lssJournal (s.setCan fun c => { c with pendingTiming := some (0, rate) }) 3 s.can.nominal (4 - rate)) 0x13 0 :=
  (if_neg (lss_served hon hc)).trans (if_pos ⟨rfl, h⟩)

theorem lssActivate_of_pending {s : State} {rate : Nat} (delay : Nat) (hon : canOn s = true) (hc : s.can.lss = true)
    (h : s.can.pendingTiming = some (0, rate)) : lssActivate s delay = s.setCan fun c => { c with nominal := 4 - rate } := by
  refine (if_neg (lss_served hon hc)).trans ?_
  rw [h]

theorem mem_queue_jobPut (s : State) (j : Job) : j ∈ (jobPut s j).nv.queue := by
  change j ∈ if s.nv.queue.contains j = true then s.nv.queue else s.nv.queue ++ [j]
  split
  · rename_i h
    exact List.contains_iff_mem.mp h
  · exact List.mem_append_right _ (List.mem_singleton_self j)

theorem lssStore_of_pending {s : State} {n : Nat} (hon : canOn s = true) (hc : s.can.lss = true) (h : s.can.pendingNode = some n) :
    lssStore s = lssSend (requestStore (s.devSet fun d => { d with
      lssNode := some n, lssTiming := if s.can.pendingTiming.isSome then s.can.pendingTiming else d.lssTiming })) 0x17 0 := by
  refine (if_neg (lss_served hon hc)).trans ?_
  rw [h]

/-- Settles O12: each service is served, and what it journals or stores leaves the node as it has been set. -/
theorem lssServicesAnswer : Obligations.LssServicesAnswer := by
  intro s hl hon
  refine ⟨⟨_, exec_of_live rfl hl, ?_⟩, ⟨_, exec_of_live rfl hl, ?_⟩, fun n hc h1 h2 => ?_, fun rate hc hr => ?_, fun delay rate hc ht => ?_,
    fun n hc hn => ?_, fun hc => ?_, ⟨_, exec_of_live rfl hl, ?_⟩, fun hn => ⟨_, exec_of_live rfl hl, if_pos ⟨hon, hn⟩⟩⟩
  · simp only [lssGlobal, hon, Bool.true_eq_false, false_and, if_false]
  · simp only [lssSelective, hon, and_self, if_true]
    exact ⟨rfl, rfl⟩
  · refine ⟨_, exec_of_live rfl hl, ?_⟩
    simp only [lssNode_of_valid hon hc h1 h2, lssSend_can, lssSend_out, lssJournal_can, lssJournal_out, State.setCan_can, State.setCan_out,
      Nat.zero_mul, Nat.add_zero, and_self]
  · refine ⟨_, exec_of_live rfl hl, ?_⟩
    simp only [lssTiming_of_valid hon hc hr, lssSend_can, lssSend_out, lssJournal_can, lssJournal_out, State.setCan_can, State.setCan_out,
      Nat.zero_mul, Nat.add_zero, and_self]
  · exact ⟨_, exec_of_live rfl hl, lssActivate_of_pending delay hon hc ht⟩
  · refine ⟨_, exec_of_live rfl hl, ?_⟩
    rw [lssStore_of_pending hon hc hn]
    exact ⟨rfl, mem_queue_jobPut _ _, rfl⟩
  · refine ⟨_, exec_of_live rfl hl, (if_neg (lss_served hon hc)).trans rfl⟩
  · simp only [lssIdentify, hon, Nat.le_refl, and_self, if_true]
    rfl

end Sys2Proof.Machine
end

section
/-! PROOFS. Counterexamples at the host's interfaces: what waits elsewhere in the device and a statement leaves open. -/

namespace Sys2Proof.Machine

/-! A write taking effect (R20, R26). -/

/-- A write of the MASK of 2100h by the parallel bus waits, and a write of 2001h.01 by CANopen is held back. -/
def heldBackBehindMask : State :=
  booted.setHost fun h => { h with
    posted := [⟨.parallel, 0x2100, 3, ⟨4, 0xFF⟩, 0, false⟩]
    stalled := [⟨⟨.canSdo, 0x2001, 1, ⟨1, 3⟩, 0, false⟩, .silent⟩] }

/-- The MASK takes effect, and the write that was held back comes in behind it. -/
theorem heldBackBehindMask_posted :
    (effectOf heldBackBehindMask .parallel (islandOf 0x2100 3)).host.posted = [⟨.canSdo, 0x2001, 1, ⟨1, 3⟩, 1, false⟩] := by
  decide +kernel

/-- Refutes O7: its third part says that nothing waits once the only posted write, of a MASK, has taken effect. It leaves open what the
limit of R26 holds back: in `heldBackBehindMask` such a write is accepted at that moment and waits in its turn. -/
theorem not_writesArePostedRefusedAndTaken : ¬ Obligations.WritesArePostedRefusedAndTaken := by
  intro h
  obtain ⟨-, -, htakes, -⟩ := h heldBackBehindMask .parallel 0x2100 3 ⟨4, 0xFF⟩ rfl
  obtain ⟨t, ht, hnone, -⟩ := htakes (by decide) rfl rfl rfl
  have hgo : exec (.writeTakesEffect .parallel (islandOf 0x2100 3)) heldBackBehindMask = .next _ := exec_of_live rfl rfl
  rw [exec_unique ht hgo, heldBackBehindMask_posted] at hnone
  exact List.cons_ne_nil _ _ hnone

/-! A read over SPI (R21, R62, R63). -/

theorem at_le (b : Bool) (i : Nat) : at_ b i ≤ 2 ^ i := by
  unfold at_
  split
  · exact Nat.le_refl _
  · exact Nat.zero_le _

/-- The status byte shows the error bit of SPI as its bit 7 (R63). -/
theorem spiStatus_error (s : State) : 128 ≤ spiStatus s ↔ bit (s.rd (key 0x2100 2)) 1 = true := by
  have h2 := at_le s.host.holding.isSome 2
  have h3 := at_le (irqSummary s 1 != 0) 3
  have h4 := at_le (irqSummary s 0 != 0) 4
  have h5 := at_le s.boot.booting 5
  have h6 := at_le s.nv.busy 6
  unfold spiStatus
  cases bit (s.rd (key 0x2100 2)) 1
  · simp only [at_, Bool.false_eq_true, if_false, iff_false, Nat.not_le] at *
    omega
  · simp only [at_, if_true, iff_true] at *
    omega

/-- A READ that nothing refuses returns the status byte of the state in which it is served: for a stream's COMMAND, behind the writes to
the host port (R21). -/
theorem spiRead_status {s t : State} {index sub : Nat} (n : Nat) (ht : streamSettled s index sub = t) (hon : busOn t 1 = true)
    (hd : streamData index sub = none) (hr : (readBase t .spi index sub).1 = 0) (hlen : (readBase t .spi index sub).2.1.len ≤ 512) :
    ∃ l, (spiRead s index sub n).out.head? = some (.spi (spiStatus t :: l)) := by
  unfold spiRead
  simp only [ht, hon, hd, hr, Bool.true_eq_false, if_false, true_and, Nat.not_lt.mpr hlen, ne_eq, not_true_eq_false]
  exact ⟨_, rfl⟩

theorem spi_status_unique {o : Option Sent} {a b : Nat} {l m : List Nat} (h : o = some (.spi (a :: l))) (k : o = some (.spi (b :: m))) :
    a = b := by
  rw [h] at k
  injection k with k
  injection k with k
  exact (List.cons.inj k).1

/-- HISTORY of 2100h holds the error bit of SPI, and a write that clears it waits. -/
def errorClearPosted : State :=
  (booted.put (key 0x2100 2) 2).setHost fun h => { h with posted := [⟨.parallel, 0x2100, 2, ⟨4, 2⟩, 0, false⟩] }

theorem errorClearPosted_error : bit (errorClearPosted.rd (key 0x2100 2)) 1 = true := by decide +kernel

theorem errorClearPosted_settled : bit ((streamSettled errorClearPosted 0x2103 5).rd (key 0x2100 2)) 1 = false := by decide +kernel

/-- Refutes O8: its fifth part has every SPI READ but one of a stream's DATA return the status byte of the state in which it comes. A
stream's COMMAND acts behind the writes to the host port (R21), so its READ lets them take effect first; in `errorClearPosted` that
clears bit 7 of the status byte. -/
theorem not_busesReachTheDictionary : ¬ Obligations.BusesReachTheDictionary := by
  intro h
  obtain ⟨-, -, -, -, hread, -⟩ := h errorClearPosted 0x2103 5 0 0 rfl
  obtain ⟨t, ht, hout⟩ := hread rfl rfl (by decide +kernel) (by decide +kernel)
  have hgo : exec (.spiRead 0x2103 5 0) errorClearPosted = .next _ := exec_of_live rfl rfl
  obtain ⟨l, hsettled⟩ := spiRead_status (s := errorClearPosted) (index := 0x2103) (sub := 5) 0 rfl (by decide +kernel) rfl
    (by decide +kernel) (by decide +kernel)
  rw [exec_unique ht hgo] at hout
  have hstatus := spi_status_unique hsettled hout
  have herr : 128 ≤ spiStatus errorClearPosted := (spiStatus_error _).mpr errorClearPosted_error
  rw [← hstatus, spiStatus_error, errorClearPosted_settled] at herr
  exact Bool.false_ne_true herr

/-! A write of a stream's DATA (R66). -/

/-- SPI's stream writes the carafe of DPLL 0, 32768 bytes, and has 511 of them. -/
def blockAlmostFull : State :=
  ((booted.put (key 0x2103 1) 0x34301F00).put (key 0x2103 2) 32768).setStream 1 fun _ => { state := 2, position := 511, block := ⟨511, 0⟩ }

/-- The byte that fills the first block of 512 posts it. -/
theorem blockAlmostFull_posts :
    (streamPut blockAlmostFull true ⟨1, 0⟩).host.posted = [⟨.spi, 0x3430, 0x1F, ⟨512, 0⟩, 0, true⟩] := by
  decide +kernel

/-- Refutes O9: its last part says that a write of DATA before the last posts nothing. A DOMAIN above 512 bytes is posted in blocks of 512
as they fill (R66), as the 512th byte of `blockAlmostFull` does, long before its 32768th. -/
theorem not_streamObjectsTransfer : ¬ Obligations.StreamObjectsTransfer := by
  intro h
  obtain ⟨-, -, -, -, hwrite⟩ := h blockAlmostFull true rfl rfl rfl ⟨rfl, rfl, rfl, rfl⟩
  obtain ⟨t, ht, -, -, hposted⟩ := hwrite ⟨1, 0⟩ rfl rfl (by decide) rfl (by decide +kernel)
  have hgo : exec (.streamDataWrite true ⟨1, 0⟩) blockAlmostFull = .next _ := exec_of_live rfl rfl
  rw [exec_unique ht hgo, blockAlmostFull_posts] at hposted
  exact List.cons_ne_nil _ _ hposted

/-! Program control (R372, R385). -/

/-- The commit of a chunk of a download runs. -/
def chunkCommitting : State := booted.nvSet fun v => { v with running := some (.commit .download 1) }

theorem chunkCommitting_accepts_clear : Accepts chunkCommitting .parallel 0x1F51 1 ⟨1, 3⟩ :=
  ⟨rfl, rfl, by decide +kernel, ⟨rfl, rfl, rfl, rfl⟩, by decide +kernel, by decide +kernel⟩

/-- The header page of CLEAR waits for the slots, and nothing is asked of the cells yet. -/
theorem chunkCommitting_cleared : (namedCommand chunkCommitting .parallel 0x1F51 1 0 1 3).nv.queue = [] := by decide +kernel

/-- Refutes O10: its eighth part says that CLEAR leaves the commit of the header page in the queue. While the commit of a chunk runs, as in
`chunkCommitting`, the slots are taken and the page waits for them (R372, R385): the queue holds nothing. -/
theorem not_systemEntriesAct : ¬ Obligations.SystemEntriesAct := by
  intro h
  obtain ⟨-, -, -, -, -, -, -, hclear, -⟩ := h chunkCommitting .parallel
  obtain ⟨t, ht, -, -, hqueued⟩ := hclear chunkCommitting_accepts_clear rfl (by decide)
  have hgo : exec (.programClear .parallel) chunkCommitting = .next _ := exec_of_live rfl rfl
  rw [exec_unique ht hgo, chunkCommitting_cleared] at hqueued
  exact List.not_mem_nil hqueued

/-! SDO time-outs (R26, R74). -/

/-- A transfer whose write is held back waits for the device and not for a segment: it does not time out. -/
theorem sdoTimeout_of_held {s : State} {usdo : Bool} {x : Transfer} (hx : s.sdoAt usdo = some x) (h : x.held = true) : sdoTimeout s usdo = s := by
  unfold sdoTimeout
  simp only [hx, h, if_true]

/-- The value of an SDO download has come whole, and its write is held back. -/
def heldDownload : State := booted.setCan fun c => { c with joined := true, node := 5, nmt := 2, sdo := [some { ended := true, held := true }, none] }

/-- Refutes O13: its fifth part has every transfer aborted by the time-out, and `heldDownload` has one that waits for its write. -/
theorem not_canopenTransfersAndPdos : ¬ Obligations.CanopenTransfersAndPdos := by
  intro h
  obtain ⟨-, -, -, -, htimeout, -⟩ := h heldDownload 0 rfl
  obtain ⟨t, ht, hover, -⟩ := htimeout { ended := true, held := true } rfl
  have hgo : exec (.sdoTimeout false) heldDownload = .next (sdoTimeout heldDownload false) :=
    exec_of_live (f := fun s => sdoTimeout s false) rfl rfl
  rw [exec_unique ht hgo, sdoTimeout_of_held rfl rfl] at hover
  exact absurd hover (by decide)

end Sys2Proof.Machine
end

section
/-! PROOFS. A write of an entry of the hub. -/

namespace Sys2Proof.Machine

/-- An operation that touches the store alone leaves the state as it is, but for the store. -/
theorem Fits.eq_nvSet {s t : State} (h : Fits 524288 s t) : t = s.nvSet fun _ => t.nv := by
  cases s
  cases t
  simp only [State.nvSet, State.mk.injEq]
  exact ⟨h.pending, h.now rfl, h.od rfl, h.dr rfl, h.out rfl, h.free rfl, h.faultIn rfl, h.link rfl, h.chan rfl, h.tcs rfl, h.cups rfl,
    h.dp rfl, h.ctxs rfl, h.ptp rfl, h.ap rfl, h.sched rfl, h.engDown rfl, h.eng rfl, h.fab rfl, h.cal rfl, trivial, h.col rfl, h.can rfl,
    h.host rfl, h.boot rfl, h.resetReq rfl⟩

/-- An accepted write of an entry that lives in the hub comes to it in the state of before, but for the store, which holds its journal
record (R15). -/
theorem arrived_of_hub {s : State} {via : Iface} {index sub : Nat} {d : Datum} (h : Accepts s via index sub d) (hi : index ≠ 0x2310)
    (hdie : dieOf index sub = 0) : ∃ v, arrived s via index sub d = s.nvSet fun _ => v := by
  obtain ⟨-, -, hok, -⟩ := h
  have harr : arrived s via index sub d = journalled s via index sub d := by
    unfold arrived crossing crossed
    rw [hdie]
    rfl
  exact ⟨_, harr.trans (journalled_fits hi hok).eq_nvSet⟩

/-- Nothing waits at the host port behind an operation that touches neither the port nor the fabric. -/
theorem Fits.quietPort {l : Nat} {s t : State} (h : Fits l s t) (hhost : l.testBit 22 = false) (hfab : l.testBit 17 = false)
    (hq : QuietPort s) : QuietPort t := by
  unfold QuietPort
  rw [h.host hhost, h.fab hfab]
  exact hq

theorem dieOf_cup {n : Nat} (sub : Nat) (hn : n < 96) : dieOf (0x3100 + n) sub = 0 := by
  unfold dieOf
  repeat rw [if_neg (by omega)]

theorem streamData_cup (n sub : Nat) : streamData (0x3100 + n) sub = none := by
  unfold streamData
  split
  · rw [if_neg (by omega), if_neg (by omega)]
  · rfl

/-- Past HISTORY, MASK and ROUTE, a write of an entry of 3100h+n is one of chapter 04. -/
theorem applyWrite_cup (s : State) (via : Iface) {n sub : Nat} (d : Datum) (hn : n < 96) (hsub : 4 < sub) :
    applyWrite serveRemote s via (0x3100 + n) sub d = applyCup s n sub d.val := by
  unfold applyWrite
  dsimp only
  repeat rw [if_neg (by omega)]
  rw [if_pos (by omega), Nat.add_sub_cancel_left]

/-- An accepted write of an entry of channel n's cupping acts on the state of before, but for the store. -/
theorem cup_write {s : State} {via : Iface} {n sub : Nat} {d : Datum} (hn : n < 96) (hsub : 4 < sub) (h : Accepts s via (0x3100 + n) sub d) :
    ∃ v, namedWrite s via 0x3100 96 n sub d = applyCup (s.nvSet fun _ => v) n sub d.val := by
  obtain ⟨v, hv⟩ := arrived_of_hub h (by omega) (dieOf_cup sub hn)
  have ⟨_, _, _, hq, _⟩ := h
  have hq' : QuietPort (applyCup (s.nvSet fun _ => v) n sub d.val) :=
    (applyCup_fits (fp := 25166498) (by decide) (Fits.refl _ (s.nvSet fun _ => v)) n sub d.val).quietPort (by decide) (by decide) hq
  exact ⟨v, by rw [named_write hn (streamData_cup n sub) h, hv, applyWrite_cup _ _ _ hn hsub, refill_quiet hq']⟩

end Sys2Proof.Machine
end

section
/-! PROOFS. Cupping (chapter 04): what its commands do to a channel's state, its record and its slice. -/

namespace Sys2Proof.Machine

/-! HISTORY (R88). -/

theorem State.rd_hist_ne (s : State) {index sub : Nat} (m : Nat) (hsub : sub < 256) (h : sub ≠ 2) :
    (s.hist index m).rd (key index sub) = s.rd (key index sub) :=
  State.rd_put_ne _ _ fun e => h ((key_inj hsub (by decide)).mp e).2

/-- An event leaves the bits of HISTORY that are set. -/
theorem bit_hist_of_bit {s : State} {index i : Nat} (m : Nat) (h : bit (s.rd (key index 2)) i = true) :
    bit ((s.hist index m).rd (key index 2)) i = true := by
  unfold State.hist
  rw [State.rd_put_self]
  simp only [bit, setBits, Nat.testBit_or, Bool.or_eq_true] at h ⊢
  exact .inl h

/-! What the operations on other parts leave of channel n's cupping. -/

theorem cupAt_of_cups {s t : State} (n : Nat) (h : t.cups = s.cups) : t.cupAt n = s.cupAt n := by
  unfold State.cupAt
  rw [h]

theorem chanAt_of_chan {s t : State} (n : Nat) (h : t.chan = s.chan) : t.chanAt n = s.chanAt n := by
  unfold State.chanAt
  rw [h]

theorem rd_of_od {s t : State} (k : Key) (h : t.od = s.od) : t.rd k = s.rd k := by
  unfold State.rd
  rw [h]

/-! The record of R147. -/

theorem many_cons {α : Type} (s : State) (a : α) (l : List α) (f : α → State → State) : s.many (a :: l) f = (f a s).many l f := rfl

section Entries
variable {index sub : Nat} {l : List (Nat × Nat)}

/-- The entries of an object that are not set keep their values. -/
theorem many_put_rd_of_not_mem (s : State) (hsub : sub < 256) (hl : ∀ e ∈ l, e.1 < 256) (h : sub ∉ l.map Prod.fst) :
    (s.many l fun e s => s.put (key index e.1) e.2).rd (key index sub) = s.rd (key index sub) := by
  induction l generalizing s with
  | nil => rfl
  | cons e l ih =>
    rw [List.forall_mem_cons] at hl
    rw [List.map_cons, List.mem_cons, not_or] at h
    rw [many_cons, ih _ hl.2 h.2]
    exact State.rd_put_ne _ _ fun k => h.1 ((key_inj hsub hl.1).mp k).2

/-- Entries of an object set one after the other, none of them twice: each reads the value it was set to. -/
theorem many_put_rd_of_mem {v : Nat} (s : State) (hl : ∀ e ∈ l, e.1 < 256) (hnodup : (l.map Prod.fst).Nodup) (h : (sub, v) ∈ l) :
    (s.many l fun e s => s.put (key index e.1) e.2).rd (key index sub) = v := by
  induction l generalizing s with
  | nil => exact absurd h List.not_mem_nil
  | cons e l ih =>
    rw [List.forall_mem_cons] at hl
    rw [List.map_cons, List.nodup_cons] at hnodup
    rw [many_cons]
    rcases List.mem_cons.mp h with rfl | h
    · rw [many_put_rd_of_not_mem _ hl.1 hl.2 hnodup.1, State.rd_put_self]
    · exact ih _ hl.2 hnodup.2 h

end Entries

theorem cupRecord_subs (s : State) (n : Nat) : (cupRecord s n).map Prod.fst = (List.range 19).map (0x22 + ·) := rfl

theorem cupRecord_sub {s : State} {n : Nat} {e : Nat × Nat} (h : e ∈ cupRecord s n) : 0x22 ≤ e.1 ∧ e.1 < 256 := by
  have hsub := List.mem_map_of_mem (f := Prod.fst) h
  rw [cupRecord_subs, List.mem_map] at hsub
  obtain ⟨i, hi, hsub⟩ := hsub
  have := List.mem_range.mp hi
  omega

theorem cupPublish_rd_of_mem {s : State} {n sub v : Nat} (h : (sub, v) ∈ cupRecord s n) :
    (cupPublish s n).rd (key (0x3100 + n) sub) = v :=
  many_put_rd_of_mem s (fun _ he => (cupRecord_sub he).2) (by rw [cupRecord_subs]; decide) h

theorem cupPublish_rd_of_lt (s : State) {n sub : Nat} (h : sub < 0x22) :
    (cupPublish s n).rd (key (0x3100 + n) sub) = s.rd (key (0x3100 + n) sub) := by
  refine many_put_rd_of_not_mem s (by omega) (fun _ he => (cupRecord_sub he).2) fun hmem => ?_
  obtain ⟨e, he, hsub⟩ := List.mem_map.mp hmem
  have := (cupRecord_sub he).1
  omega

/-! Restarts and entries into a state (R132, R140, R144). -/

section Transitions
variable {s : State} {n : Nat}

theorem statsRestart_cupAt (hn : n < s.cups.length) :
    (statsRestart s n).cupAt n =
      { st := (s.cupAt n).st, cause := (s.cupAt n).cause, score := (s.cupAt n).score, losCount := (s.cupAt n).losCount,
        missing := (s.cupAt n).missing, cmds := (s.cupAt n).cmds, fell := (s.cupAt n).fell, since := (s.cupAt n).since,
        clearRun := (s.cupAt n).clearRun } :=
  State.cupAt_setCup _ hn

theorem length_cups_statsRestart : (statsRestart s n).cups.length = s.cups.length := length_upd ..

theorem statsRestart_history : bit ((statsRestart s n).rd (key (0x3100 + n) 2)) 8 = true := bit_hist_self ..

/-- Beside the fault messages, an entry sets the state with its cause and time, clears the timers, and sets a bit of HISTORY. -/
theorem cupEnter_eq (st : Nat) (cause : Option Nat) :
    ∃ l, cupEnter s n st cause = { (s.setCup n fun c =>
        { c with st := st, cause := cause.getD c.cause, since := s.now, qualRun := 0, clearRun := 0 }).hist (0x3100 + n) (cupEnterBit st) with
      faultIn := l } := by
  unfold cupEnter
  dsimp only
  split
  · exact ⟨_, rfl⟩
  · split
    · exact ⟨_, rfl⟩
    · exact ⟨_, rfl⟩

theorem cupEnter_cupAt (hn : n < s.cups.length) (st : Nat) (cause : Option Nat) :
    (cupEnter s n st cause).cupAt n =
      { s.cupAt n with st := st, cause := cause.getD (s.cupAt n).cause, since := s.now, qualRun := 0, clearRun := 0 } := by
  obtain ⟨l, h⟩ := cupEnter_eq (s := s) (n := n) st cause
  rw [h]
  exact State.cupAt_setCup _ hn

theorem cupEnter_rd (st : Nat) (cause : Option Nat) (k : Key) :
    (cupEnter s n st cause).rd k = (s.hist (0x3100 + n) (cupEnterBit st)).rd k := by
  obtain ⟨l, h⟩ := cupEnter_eq (s := s) (n := n) st cause
  rw [h]
  rfl

theorem length_cups_cupEnter (st : Nat) (cause : Option Nat) : (cupEnter s n st cause).cups.length = s.cups.length := by
  obtain ⟨l, h⟩ := cupEnter_eq (s := s) (n := n) st cause
  rw [h]
  exact length_upd ..

theorem cupEnter_chan (st : Nat) (cause : Option Nat) : (cupEnter s n st cause).chan = s.chan := by
  obtain ⟨l, h⟩ := cupEnter_eq (s := s) (n := n) st cause
  rw [h]
  rfl

theorem cupEnter_disqualified_faultIn (cause : Option Nat) :
    (cupEnter s n cupDisqualified cause).faultIn = s.faultIn ++ [⟨faultWord 0 1 5 n, s.now⟩] := rfl

theorem length_cups_cupRequalify (cause : Option Nat) : (cupRequalify s n cause).cups.length = s.cups.length :=
  (length_cups_cupEnter ..).trans (length_upd ..)

theorem cupRequalify_cupAt (hn : n < s.cups.length) (cause : Option Nat) :
    ((cupRequalify s n cause).cupAt n).st = cupQualifying ∧
      ((cupRequalify s n cause).cupAt n).cause = cause.getD (s.cupAt n).cause ∧ ((cupRequalify s n cause).cupAt n).t0 = none := by
  have hcup : (decimRestart (statsRestart s n) n).cupAt n = _ := (cupAt_of_cups n rfl).trans (statsRestart_cupAt hn)
  unfold cupRequalify
  rw [cupEnter_cupAt ((length_upd ..).symm ▸ hn), hcup]
  exact ⟨rfl, rfl, rfl⟩

theorem cupRequalify_fresh (hn : n < s.chan.chans.length) (cause : Option Nat) : ((cupRequalify s n cause).chanAt n).fresh = true := by
  unfold cupRequalify
  rw [chanAt_of_chan n (cupEnter_chan ..), decimRestart, State.chanAt_setChan (s := statsRestart s n) _ hn]

theorem cupRequalify_rd (cause : Option Nat) (k : Key) :
    (cupRequalify s n cause).rd k = ((s.hist (0x3100 + n) (2 ^ 8)).hist (0x3100 + n) (2 ^ 2)).rd k := cupEnter_rd ..

/-! What an evaluation does beside its transition (R137, R147). -/

/-- The end of an evaluation: the score once more, the timer of a condition that does not hold, and the record. -/
def cupConclude (s : State) (n : Nat) : State :=
  let s1 := cupJudge s n
  cupPublish (s1.when (!qualCond s1 n && cupHears s1 n) fun s => s.setCup n fun c => { c with qualRun := 0 }) n

theorem cupEvaluate_eq (hup : engineUp s 12 = true) (h : underCupping s n = true ∨ (s.cupAt n).st ≠ 0) :
    cupEvaluate s n = cupConclude (cupTransition (cupJudge s n) n) n := if_pos ⟨hup, h⟩

theorem cupJudge_cupAt (hn : n < s.cups.length) :
    (cupJudge s n).cupAt n = { s.cupAt n with score := cupScore s n, hold := (s.cupAt n).hold && !scoreFormed s n } :=
  State.cupAt_setCup _ hn

/-- The end of an evaluation touches the score, the timer and the record. -/
theorem cupConclude_cases (hn : n < s.cups.length) :
    ∃ (t : State) (q : Nat), cupConclude s n = cupPublish t n ∧ t.od = s.od ∧ t.faultIn = s.faultIn ∧ t.chan = s.chan ∧
      t.cupAt n = { s.cupAt n with score := cupScore s n, hold := (s.cupAt n).hold && !scoreFormed s n, qualRun := q } := by
  have hn' : n < (cupJudge s n).cups.length := by
    rw [cupJudge, State.setCup_cups, length_upd]
    exact hn
  unfold cupConclude State.when
  dsimp only
  split
  · exact ⟨_, 0, rfl, rfl, rfl, rfl, by rw [State.cupAt_setCup _ hn', cupJudge_cupAt hn]⟩
  · exact ⟨_, _, rfl, rfl, rfl, rfl, cupJudge_cupAt hn⟩

theorem cupConclude_cupAt (hn : n < s.cups.length) :
    ∃ q, (cupConclude s n).cupAt n =
      { s.cupAt n with score := cupScore s n, hold := (s.cupAt n).hold && !scoreFormed s n, qualRun := q } := by
  obtain ⟨t, q, ht, -, -, -, hcup⟩ := cupConclude_cases hn
  have hcups := (cupPublish_fits (fp := 2) (by decide) (Fits.refl _ t) n).cups (by decide)
  exact ⟨q, by rw [ht, cupAt_of_cups n hcups, hcup]⟩

theorem cupConclude_chan (hn : n < s.cups.length) : (cupConclude s n).chan = s.chan := by
  obtain ⟨t, q, ht, -, -, hchan, -⟩ := cupConclude_cases hn
  rw [ht, (cupPublish_fits (fp := 2) (by decide) (Fits.refl _ t) n).chan (by decide), hchan]

theorem cupConclude_faultIn (hn : n < s.cups.length) : (cupConclude s n).faultIn = s.faultIn := by
  obtain ⟨t, q, ht, -, hfault, -, -⟩ := cupConclude_cases hn
  rw [ht, (cupPublish_fits (fp := 2) (by decide) (Fits.refl _ t) n).faultIn (by decide), hfault]

theorem cupConclude_rd_of_lt (hn : n < s.cups.length) {sub : Nat} (hsub : sub < 0x22) :
    (cupConclude s n).rd (key (0x3100 + n) sub) = s.rd (key (0x3100 + n) sub) := by
  obtain ⟨t, q, ht, hod, -⟩ := cupConclude_cases hn
  rw [ht, cupPublish_rd_of_lt t hsub, rd_of_od _ hod]

/-- The record shows the state, its cause and the first MTIE as they are after the transition. -/
theorem cupConclude_record (hn : n < s.cups.length) :
    (cupConclude s n).rd (key (0x3100 + n) 0x22) = (s.cupAt n).st ∧ (cupConclude s n).rd (key (0x3100 + n) 0x23) = (s.cupAt n).cause ∧
      (cupConclude s n).rd (key (0x3100 + n) 0x27) = (s.cupAt n).mtie.getD 0 0xFFFFFFFF := by
  obtain ⟨t, q, ht, -, -, -, hcup⟩ := cupConclude_cases hn
  have hrec : ∀ sub v, (sub, v) ∈ cupRecord t n → (cupConclude s n).rd (key (0x3100 + n) sub) = v := fun sub v h => by
    rw [ht, cupPublish_rd_of_mem h]
  refine ⟨hrec _ _ ?_, hrec _ _ ?_, hrec _ _ ?_⟩ <;> simp [cupRecord, hcup, List.range_succ]

/-! The transitions of ENABLE and COMMAND (R127, R140, R141). -/

theorem cupTransition_of_unused (hin : underCupping s n = true) (hst : (s.cupAt n).st = 0) :
    cupTransition s n = cupRequalify (s.setChan n fun c => { c with los := false }) n (some 0) := by
  unfold cupTransition
  simp only [hin, hst, Bool.true_eq_false, if_false, if_true]

theorem cupTransition_of_left (hin : underCupping s n = false) (hst : (s.cupAt n).st ≠ 0) :
    cupTransition s n = cupEnter (s.setCup n fun c => { c with cmds := [], fell := false }) n cupUnused (some 0) := by
  unfold cupTransition
  simp only [hin, hst, if_false, if_true]

/-- A command is the first trigger met where neither LOS nor the fall of the link takes the channel out of a usable state. -/
theorem cupTransition_of_command {v : Nat} {r : List Nat} (hin : underCupping s n = true) (hst : (s.cupAt n).st ≠ 0)
    (hfirst : (s.cupAt n).st = 1 ∨ (s.chanAt n).los = false ∧ (s.cupAt n).fell = false) (hcmds : (s.cupAt n).cmds = v :: r) :
    cupTransition s n = cupObey (s.setCup n fun c => { c with cmds := r, fell := false }) n v := by
  have hlos : ¬(cupHears s n ∧ 2 ≤ (s.cupAt n).st ∧ (s.chanAt n).los) := by
    rintro ⟨-, h2, hlos⟩
    rcases hfirst with h | ⟨h, -⟩
    · omega
    · exact Bool.false_ne_true (h.symm.trans hlos)
  have hfell : ¬((s.cupAt n).fell ∧ 2 ≤ (s.cupAt n).st) := by
    rintro ⟨hfell, h2⟩
    rcases hfirst with h | ⟨-, h⟩
    · omega
    · exact Bool.false_ne_true (h.symm.trans hfell)
  unfold cupTransition
  simp only [hin, hst, hlos, hfell, hcmds, Bool.true_eq_false, if_false]

/-- An accepted command is met at once by an evaluation, which obeys it in a state with the dictionary, the slice, the messages and the
reference state of before. -/
theorem cupCommand_obeyed {v : Nat} (hn : n < s.cups.length) (hup : engineUp s 12 = true) (hin : underCupping s n = true)
    (hcmds : (s.cupAt n).cmds = []) (hst : (s.cupAt n).st ≠ 0)
    (hfirst : (s.cupAt n).st = 1 ∨ (s.chanAt n).los = false ∧ (s.cupAt n).fell = false) (hv : 1 ≤ v ∧ v ≤ 3) :
    ∃ u, cupCommand s n v = cupConclude (cupObey u n v) n ∧ u.od = s.od ∧ u.chan = s.chan ∧ u.faultIn = s.faultIn ∧ u.now = s.now ∧
      u.cups.length = s.cups.length ∧ (u.cupAt n).st = (s.cupAt n).st := by
  let queued := s.setCup n fun c => { c with cmds := c.cmds ++ [v] }
  let judged := cupJudge queued n
  have hlen : judged.cups.length = s.cups.length := (length_upd ..).trans (length_upd ..)
  have hcup : judged.cupAt n = { s.cupAt n with
      cmds := [v], score := cupScore queued n, hold := (queued.cupAt n).hold && !scoreFormed queued n } := by
    rw [cupJudge_cupAt ((length_upd ..).symm ▸ hn), State.cupAt_setCup _ hn, hcmds]
    rfl
  have hgo : cupCommand s n v = cupEvaluate queued n := if_neg (by omega)
  have hobey : cupTransition judged n = cupObey (judged.setCup n fun c => { c with cmds := [], fell := false }) n v := by
    refine cupTransition_of_command hin ?_ ?_ ?_
    · rw [hcup]
      exact hst
    · rw [hcup]
      exact hfirst
    · rw [hcup]
  refine ⟨_, (hgo.trans (cupEvaluate_eq (s := queued) hup (.inl hin))).trans (congrArg (cupConclude · n) hobey), rfl, rfl, rfl, rfl,
    (length_upd ..).trans hlen, ?_⟩
  rw [State.cupAt_setCup _ (hlen.symm ▸ hn), hcup]

/-! The effect of each write (R127, R132, R140, R144, R147). -/

/-- What an evaluation shows that has restarted statistics and decimator. -/
theorem cupConclude_cupRequalify (hn : n < s.cups.length) (hm : n < s.chan.chans.length) (cause : Option Nat) :
    let t := cupConclude (cupRequalify s n cause) n
    t.rd (key (0x3100 + n) 0x22) = cupQualifying ∧ t.rd (key (0x3100 + n) 0x23) = cause.getD (s.cupAt n).cause ∧ (t.cupAt n).t0 = none ∧
      (t.chanAt n).fresh = true ∧ bit (t.rd (key (0x3100 + n) 2)) 8 = true ∧ bit (t.rd (key (0x3100 + n) 2)) 2 = true ∧
      ∀ sub, sub < 0x22 → sub ≠ 2 → t.rd (key (0x3100 + n) sub) = s.rd (key (0x3100 + n) sub) := by
  have hlen : n < (cupRequalify s n cause).cups.length := (length_cups_cupRequalify ..).symm ▸ hn
  obtain ⟨hst, hcause, ht0⟩ := cupRequalify_cupAt hn cause
  obtain ⟨hrst, hrcause, -⟩ := cupConclude_record hlen
  obtain ⟨q, hcup⟩ := cupConclude_cupAt hlen
  refine ⟨hrst.trans hst, hrcause.trans hcause, by rw [hcup, ht0], ?_, ?_, ?_, fun sub hsub hne => ?_⟩
  · rw [chanAt_of_chan n (cupConclude_chan hlen), cupRequalify_fresh hm]
  · rw [cupConclude_rd_of_lt hlen (by decide), cupRequalify_rd]
    exact bit_hist_of_bit _ (bit_hist_self ..)
  · rw [cupConclude_rd_of_lt hlen (by decide), cupRequalify_rd]
    exact bit_hist_self ..
  · rw [cupConclude_rd_of_lt hlen hsub, cupRequalify_rd, State.rd_hist_ne _ _ (by omega) hne, State.rd_hist_ne _ _ (by omega) hne]

/-- What an evaluation shows in which the channel has entered a state. -/
theorem cupConclude_cupEnter (hn : n < s.cups.length) (st cause : Nat) :
    let t := cupConclude (cupEnter s n st (some cause)) n
    t.rd (key (0x3100 + n) 0x22) = st ∧ t.rd (key (0x3100 + n) 0x23) = cause ∧ t.chan = s.chan ∧
      t.faultIn = (cupEnter s n st (some cause)).faultIn ∧
      ∀ sub, sub < 0x22 → t.rd (key (0x3100 + n) sub) = (s.hist (0x3100 + n) (cupEnterBit st)).rd (key (0x3100 + n) sub) := by
  have hlen : n < (cupEnter s n st (some cause)).cups.length := (length_cups_cupEnter ..).symm ▸ hn
  obtain ⟨hrst, hrcause, -⟩ := cupConclude_record hlen
  rw [cupEnter_cupAt hn] at hrst hrcause
  exact ⟨hrst, hrcause, (cupConclude_chan hlen).trans (cupEnter_chan ..), cupConclude_faultIn hlen,
    fun sub hsub => (cupConclude_rd_of_lt hlen hsub).trans (cupEnter_rd ..)⟩

/-- The channel comes under cupping. -/
theorem cupFollow_of_unused (hn : n < s.cups.length) (hup : engineUp s 12 = true) (hin : underCupping s n = true)
    (hst : (s.cupAt n).st = 0) :
    cupFollow s n = cupConclude (cupRequalify ((cupJudge s n).setChan n fun c => { c with los := false }) n (some 0)) n := by
  have hjudge := congrArg Cup.st (cupJudge_cupAt hn)
  unfold cupFollow
  rw [hin, hst, if_neg (by decide), cupEvaluate_eq hup (.inl hin), cupTransition_of_unused (s := cupJudge s n) hin (hjudge.trans hst)]

/-- The channel leaves cupping. -/
theorem cupFollow_of_left (hn : n < s.cups.length) (hup : engineUp s 12 = true) (hin : underCupping s n = false)
    (hst : (s.cupAt n).st ≠ 0) :
    cupFollow s n =
      cupConclude (cupEnter ((cupJudge s n).setCup n fun c => { c with cmds := [], fell := false }) n cupUnused (some 0)) n := by
  have hjudge := congrArg Cup.st (cupJudge_cupAt hn)
  have hst' : ((s.cupAt n).st != 0) = true := bne_iff_ne.mpr hst
  unfold cupFollow
  rw [hin, hst', if_neg (by decide), cupEvaluate_eq hup (.inr hst),
    cupTransition_of_left (s := cupJudge s n) hin fun h => hst (hjudge.symm.trans h)]

end Transitions

end Sys2Proof.Machine
end

section
/-! PROOFS. Cupping (chapter 04): ENABLE and COMMAND. -/

namespace Sys2Proof.Machine

section Writes
variable {s : State} {n : Nat}

theorem underCupping_put_enable (v : Nat) : underCupping (s.put (key (0x3100 + n) 5) v) n = (v == 1 && s.chCfg n 1 == 1) := by
  have hrole : (s.put (key (0x3100 + n) 5) v).chCfg n 1 = s.chCfg n 1 :=
    State.rd_put_ne _ _ fun h => absurd ((key_inj (by decide) (by decide)).mp h).2 (by decide)
  unfold underCupping State.cupReg
  rw [State.rd_put_self, hrole]

theorem applyCup_enable {v : Nat} (hboot : bootPast s 5 = true) :
    applyCup s n 5 v = cupFollow (s.put (key (0x3100 + n) 5) v) n := if_pos hboot

/-- ENABLE 1 on an INPUT (R127). -/
theorem applyCup_enable_on (hn : n < s.cups.length) (hm : n < s.chan.chans.length) (hup : engineUp s 12 = true) (hrole : s.chCfg n 1 = 1)
    (hst : (s.cupAt n).st = 0) (hboot : bootPast s 5 = true) :
    let t := applyCup s n 5 1
    t.rd (key (0x3100 + n) 0x22) = 2 ∧ t.rd (key (0x3100 + n) 0x23) = 0 ∧ (t.cupAt n).t0 = none ∧ (t.chanAt n).fresh = true ∧
      t.rd (key (0x3100 + n) 5) = 1 := by
  have hin : underCupping (s.put (key (0x3100 + n) 5) 1) n = true := by rw [underCupping_put_enable, hrole]; rfl
  have hlen : n < (cupJudge (s.put (key (0x3100 + n) 5) 1) n).cups.length := (length_upd ..).symm ▸ hn
  rw [applyCup_enable hboot, cupFollow_of_unused (s := s.put (key (0x3100 + n) 5) 1) hn hup hin hst]
  obtain ⟨hst', hcause, ht0, hfresh, -, -, hrest⟩ :=
    cupConclude_cupRequalify (s := (cupJudge (s.put (key (0x3100 + n) 5) 1) n).setChan n fun c => { c with los := false }) hlen
      ((length_upd ..).symm ▸ hm) (some 0)
  exact ⟨hst', hcause, ht0, hfresh, (hrest 5 (by decide) (by decide)).trans (State.rd_put_self ..)⟩

/-- ENABLE 0 (R127). -/
theorem applyCup_enable_off (hn : n < s.cups.length) (hup : engineUp s 12 = true) (hst : (s.cupAt n).st ≠ 0) (hboot : bootPast s 5 = true) :
    let t := applyCup s n 5 0
    t.rd (key (0x3100 + n) 0x22) = 0 ∧ t.rd (key (0x3100 + n) 0x23) = 0 ∧ t.rd (key (0x3100 + n) 5) = 0 ∧
      bit (t.rd (key (0x3100 + n) 2)) 6 = true := by
  have hlen : n < ((cupJudge (s.put (key (0x3100 + n) 5) 0) n).setCup n fun c => { c with cmds := [], fell := false }).cups.length :=
    (length_upd ..).symm ▸ (length_upd ..).symm ▸ hn
  rw [applyCup_enable hboot, cupFollow_of_left (s := s.put (key (0x3100 + n) 5) 0) hn hup (underCupping_put_enable 0) hst]
  obtain ⟨hst', hcause, -, -, hrest⟩ := cupConclude_cupEnter hlen cupUnused 0
  refine ⟨hst', hcause, ?_, ?_⟩
  · rw [hrest 5 (by decide), State.rd_hist_ne _ _ (by decide) (by decide)]
    exact State.rd_put_self ..
  · rw [hrest 2 (by decide)]
    exact bit_hist_self ..

/-! A command that an evaluation obeys: no trigger comes before it (R141). -/

section Commands
variable (hn : n < s.cups.length) (hup : engineUp s 12 = true) (hin : underCupping s n = true) (hcmds : (s.cupAt n).cmds = [])
  (hst : (s.cupAt n).st ≠ 0) (hfirst : (s.cupAt n).st = 1 ∨ (s.chanAt n).los = false ∧ (s.cupAt n).fell = false)
include hn hup hin hcmds hst hfirst

theorem cupCommand_requalify (hm : n < s.chan.chans.length) :
    let t := cupCommand s n 1
    t.rd (key (0x3100 + n) 0x22) = 2 ∧ t.rd (key (0x3100 + n) 0x23) = 0 ∧ (t.cupAt n).t0 = none ∧ (t.chanAt n).fresh = true ∧
      bit (t.rd (key (0x3100 + n) 2)) 8 = true ∧ bit (t.rd (key (0x3100 + n) 2)) 2 = true := by
  obtain ⟨u, hobey, -, hchan, -, -, hlen, -⟩ := cupCommand_obeyed hn hup hin hcmds hst hfirst (v := 1) (by decide)
  obtain ⟨hst', hcause, ht0, hfresh, hrestarted, hentered, -⟩ :=
    cupConclude_cupRequalify (s := u) (hlen.symm ▸ hn) (hchan.symm ▸ hm) (some 0)
  rw [hobey]
  exact ⟨hst', hcause, ht0, hfresh, hrestarted, hentered⟩

theorem cupCommand_disqualify :
    let t := cupCommand s n 2
    t.rd (key (0x3100 + n) 0x22) = 1 ∧ t.rd (key (0x3100 + n) 0x23) = 4 ∧ t.faultIn = s.faultIn ++ [⟨faultWord 0 1 5 n, s.now⟩] ∧
      t.chan = s.chan := by
  obtain ⟨u, hobey, -, hchan, hfault, hnow, hlen, -⟩ := cupCommand_obeyed hn hup hin hcmds hst hfirst (v := 2) (by decide)
  obtain ⟨hst', hcause, hchan', hfault', -⟩ := cupConclude_cupEnter (s := u) (hlen.symm ▸ hn) cupDisqualified 4
  rw [cupEnter_disqualified_faultIn, hfault, hnow] at hfault'
  rw [hobey]
  exact ⟨hst', hcause, hfault', hchan'.trans hchan⟩

theorem cupCommand_restartStats :
    let t := cupCommand s n 3
    t.rd (key (0x3100 + n) 0x22) = (s.cupAt n).st ∧ (t.cupAt n).st = (s.cupAt n).st ∧ (t.cupAt n).t0 = none ∧
      (t.cupAt n).freqFormed = false ∧ t.chan = s.chan ∧ t.rd (key (0x3100 + n) 0x27) = 0xFFFFFFFF ∧
      bit (t.rd (key (0x3100 + n) 2)) 8 = true := by
  obtain ⟨u, hobey, -, hchan, -, -, hlen, hsame⟩ := cupCommand_obeyed hn hup hin hcmds hst hfirst (v := 3) (by decide)
  have hlen' : n < (statsRestart u n).cups.length := length_cups_statsRestart.symm ▸ hlen.symm ▸ hn
  obtain ⟨hrst, -, hrmtie⟩ := cupConclude_record hlen'
  obtain ⟨q, hcup⟩ := cupConclude_cupAt hlen'
  rw [statsRestart_cupAt (hlen.symm ▸ hn)] at hrst hrmtie hcup
  rw [hobey]
  refine ⟨hrst.trans hsame, (congrArg Cup.st hcup).trans hsame, congrArg Cup.t0 hcup, congrArg Cup.freqFormed hcup,
    (cupConclude_chan hlen').trans hchan, hrmtie, ?_⟩
  exact (congrArg (bit · 8) (cupConclude_rd_of_lt hlen' (by decide))).trans statsRestart_history

end Commands

theorem cupCommand_of_unused (v : Nat) (hst : (s.cupAt n).st = 0) : cupCommand s n v = s := if_pos (.inl hst)

/-- A row that is an accepted write of an entry of channel n's cupping. -/
theorem exec_cup_write {via : Iface} {sub : Nat} {d : Datum} (c : Instr) (hlive : Live s) (hn : n < 96) (hsub : 4 < sub)
    (h : Accepts s via (0x3100 + n) sub d) (hc : exec c s = next (live s fun s => namedWrite s via 0x3100 96 n sub d)) :
    ∃ v, exec c s = .next (applyCup (s.nvSet fun _ => v) n sub d.val) := by
  obtain ⟨v, hv⟩ := cup_write hn hsub h
  exact ⟨v, (exec_of_live hc hlive).trans (congrArg _ hv)⟩

end Writes

/-- Settles O18: an accepted write of ENABLE or COMMAND acts at once; a command is obeyed where no trigger comes before it, and the
evaluation shows the transition as it was made. -/
theorem cuppingCommandsAct : Obligations.CuppingCommandsAct := by
  intro s via n hlive hs hn
  have hcups : n < s.cups.length := hs.cups.symm ▸ hn
  have hchans : n < s.chan.chans.length := hs.chans.symm ▸ hn
  refine ⟨fun hacc hup hrole hst hboot => ?_, fun hacc hup hst hboot => ?_, fun hacc hup hin hcmds hst hfirst => ?_,
    fun hacc hup hin hcmds hst hfirst => ?_, fun hacc hup hin hcmds hst hfirst => ?_, fun hacc hst => ?_⟩
  · obtain ⟨v, hgo⟩ := exec_cup_write (.cuppingEnableWrite via n ⟨1, 1⟩) hlive hn (by decide) hacc rfl
    exact ⟨_, hgo, applyCup_enable_on (s := s.nvSet fun _ => v) hcups hchans hup hrole hst hboot⟩
  · obtain ⟨v, hgo⟩ := exec_cup_write (.cuppingEnableWrite via n ⟨1, 0⟩) hlive hn (by decide) hacc rfl
    exact ⟨_, hgo, applyCup_enable_off (s := s.nvSet fun _ => v) hcups hup hst hboot⟩
  · obtain ⟨v, hgo⟩ := exec_cup_write (.requalify via n) hlive hn (by decide) hacc rfl
    exact ⟨_, hgo, cupCommand_requalify (s := s.nvSet fun _ => v) hcups hup hin hcmds hst hfirst hchans⟩
  · obtain ⟨v, hgo⟩ := exec_cup_write (.disqualify via n) hlive hn (by decide) hacc rfl
    exact ⟨_, hgo, cupCommand_disqualify (s := s.nvSet fun _ => v) hcups hup hin hcmds hst hfirst⟩
  · obtain ⟨v, hgo⟩ := exec_cup_write (.restartStats via n) hlive hn (by decide) hacc rfl
    exact ⟨_, hgo, cupCommand_restartStats (s := s.nvSet fun _ => v) hcups hup hin hcmds hst hfirst⟩
  · obtain ⟨v, hgo⟩ := exec_cup_write (.requalify via n) hlive hn (by decide) hacc rfl
    have hnone : applyCup (s.nvSet fun _ => v) n 8 1 = s.nvSet fun _ => v := cupCommand_of_unused (s := s.nvSet fun _ => v) 1 hst
    exact ⟨_, hgo.trans (congrArg _ hnone), rfl, rfl, rfl⟩

end Sys2Proof.Machine
end

section
/-! PROOFS. Counterexamples about the results of cupping (chapter 04): what E12 holds and a statement leaves unbounded. -/

namespace Sys2Proof.Machine

/-- The device once its boot has ended, with the C–H link of C0 UP and channel 0 under cupping, as E12 holds it. -/
def bootedCup (c : Cup) : State :=
  (((booted.put (key 0x3000 1) 1).put (key 0x3100 5) 1).setLink 0 fun k => { k with state := .up }).setCup 0 fun _ => c

theorem bootedCup_shape (c : Cup) : ShapeWf (bootedCup c) :=
  { reset_sound.shape with links := length_upd .., cups := length_upd .. }

/-! The cause of a state (R140). -/

/-- QUALIFIED at a score of 95, with a cause above the codes of R140. -/
def wideCause : Cup := { st := 3, cause := 256, freqFormed := true, driftFormed := true, freqFlag := true }

/-- DISQ_CAUSE shows the cause as it is kept, whatever the width of the entry. -/
theorem wideCause_published : (cupTick (bootedCup wideCause) 0).rd (key 0x3100 0x23) = 256 := by decide +kernel

/-- Refutes O19: its third part has DISQ_CAUSE show the cause that was kept modulo 2^8. It leaves open what the cause may be, and the
record takes it uncut: 256 in `wideCause`, which DEGRADED keeps and shows. (No run comes there, since the codes of R140 end at 4.) -/
theorem not_cupScoreAndStateFollowR140 : ¬ Obligations.CupScoreAndStateFollowR140 := by
  intro h
  obtain ⟨-, -, hdegrade, -⟩ := h (bootedCup wideCause) 0 rfl (bootedCup_shape _) (by decide)
  obtain ⟨t, ht, -, hcause, -⟩ := hdegrade (by decide +kernel) rfl rfl rfl (by decide +kernel) (by decide +kernel)
  have hgo : exec (.cupEvaluation 0) (bootedCup wideCause) = .next (cupTick (bootedCup wideCause) 0) :=
    exec_of_live (f := fun s => cupTick s 0) rfl rfl
  rw [exec_unique ht hgo, wideCause_published] at hcause
  exact absurd hcause (by decide)

/-! MTIE (R136). -/

/-- QUALIFIED with one sample and a step of MTIE at 0.1 s about to end, but with no place for its value. -/
def placelessMtie : Cup := { st := 3, samples := [{}], mtie := [], mtieStep := [9, 0, 0, 0, 0] }

/-- The peak to peak of one sample is 0. -/
theorem placelessMtie_value : mtieValue placelessMtie.samples 0 10 = some 0 := by decide +kernel

/-- A value without a place is lost: MTIE_0 shows NOT_AVAILABLE. -/
theorem placelessMtie_published : (mtieStepEnd (bootedCup placelessMtie) 0 0).rd (key 0x3100 0x27) = 0xFFFFFFFF := by decide +kernel

/-- Refutes O20: its fifth part has a step of τ/10 publish the value found. It asks for five counts of steps, and leaves open how many
values of MTIE E12 holds: in `placelessMtie` there is none, and the value found, 0, is not published. (No run comes there, since reset and
each restart leave five.) -/
theorem not_cuppingMonitorsPublish : ¬ Obligations.CuppingMonitorsPublish := by
  intro h
  have hsteady : CupSteady (bootedCup placelessMtie) 0 := by decide +kernel
  obtain ⟨-, -, -, -, hmtie, -⟩ := h (bootedCup placelessMtie) 0 rfl (bootedCup_shape _) (by decide) (by decide +kernel)
  obtain ⟨t, ht, hval, -⟩ := hmtie 0 0 hsteady (by decide) rfl (fun _ => by decide +kernel) placelessMtie_value
  have hgo : exec (.mtieStep 0 0) (bootedCup placelessMtie) = .next (mtieStepEnd (bootedCup placelessMtie) 0 0) := exec_of_live rfl rfl
  rw [exec_unique ht hgo] at hval
  exact absurd (placelessMtie_published.symm.trans hval) (by decide)

end Sys2Proof.Machine
end

section
/-! PROOFS. A write of an entry of S or a C die, as it comes over the link from H (R20, R27). -/

namespace Sys2Proof.Machine

/-- `u` comes from `s` by the way of a write over a link of H: the link's words and their record, and the store with the journal record. -/
structure WriteArrives (s u : State) : Prop where
  same : ∃ o k v, u = { s with od := o, link := k, nv := v }
  rd : ∀ index sub, 0x2027 ≤ index → sub < 256 → u.rd (key index sub) = s.rd (key index sub)

namespace WriteArrives
variable {s u : State} (h : WriteArrives s u)
include h

theorem now : u.now = s.now := by obtain ⟨_, _, _, rfl⟩ := h.same; rfl
theorem dr : u.dr = s.dr := by obtain ⟨_, _, _, rfl⟩ := h.same; rfl
theorem tcs : u.tcs = s.tcs := by obtain ⟨_, _, _, rfl⟩ := h.same; rfl
theorem ap : u.ap = s.ap := by obtain ⟨_, _, _, rfl⟩ := h.same; rfl
theorem boot : u.boot = s.boot := by obtain ⟨_, _, _, rfl⟩ := h.same; rfl

theorem quietPort (hq : QuietPort s) : QuietPort u := by obtain ⟨_, _, _, rfl⟩ := h.same; exact hq

end WriteArrives

theorem many_put_same (index : Nat) (l : List (Nat × Nat)) (s : State) :
    ∃ o, (s.many l fun e s => s.put (key index e.1) e.2) = { s with od := o } := by
  induction l generalizing s with
  | nil => exact ⟨s.od, rfl⟩
  | cons e l ih =>
    obtain ⟨o, ho⟩ := ih (s.put (key index e.1) e.2)
    exact ⟨o, ho⟩

theorem many_put_rd_of_key_ne {index : Nat} {k : Key} (l : List (Nat × Nat)) (s : State) (h : ∀ e ∈ l, k ≠ key index e.1) :
    (s.many l fun e s => s.put (key index e.1) e.2).rd k = s.rd k := by
  induction l generalizing s with
  | nil => rfl
  | cons e l ih =>
    rw [List.forall_mem_cons] at h
    rw [many_cons, ih _ h.2, State.rd_put_ne _ _ h.1]

theorem setLink_arrives (s : State) (l : Nat) (f : Link → Link) : WriteArrives s (s.setLink l f) := ⟨⟨_, _, _, rfl⟩, fun _ _ _ _ => rfl⟩

theorem showLeftUp_arrives (s : State) (l : Nat) : WriteArrives s (showLeftUp s l) := by
  unfold showLeftUp
  split
  · exact ⟨⟨_, _, _, rfl⟩, fun index sub hi hsub => State.rd_put_ne _ _ fun e =>
      absurd ((key_inj hsub (by decide)).mp e).1 (by omega)⟩
  · exact ⟨⟨_, _, _, rfl⟩, fun _ _ _ _ => rfl⟩

theorem WriteArrives.trans {s t u : State} (h : WriteArrives s t) (k : WriteArrives t u) : WriteArrives s u := by
  refine ⟨?_, fun index sub hi hsub => (k.rd index sub hi hsub).trans (h.rd index sub hi hsub)⟩
  obtain ⟨_, _, _, rfl⟩ := h.same
  obtain ⟨_, _, _, rfl⟩ := k.same
  exact ⟨_, _, _, rfl⟩

theorem linkRecord_sub {k : Link} {e : Nat × Nat} (h : e ∈ linkRecord k) : e.1 < 256 := by
  have hall : (linkRecord k).all (fun e => decide (e.1 < 256)) = true := rfl
  exact of_decide_eq_true (List.all_eq_true.mp hall e h)

/-- The record of a link of H stands in the hub (R36). -/
theorem publishLink_arrives (s : State) {l : Nat} (hl : l < 7) : WriteArrives s (publishLink s l) := by
  have hrec : WriteArrives s (s.many (linkRecord (s.linkAt l)) fun e s => s.put (key (0x2020 + l) e.1) e.2) := by
    obtain ⟨o, ho⟩ := many_put_same (0x2020 + l) (linkRecord (s.linkAt l)) s
    refine ⟨⟨o, s.link, s.nv, ho⟩, fun index sub hi hsub => many_put_rd_of_key_ne _ s fun e he hk => ?_⟩
    have := ((key_inj hsub (linkRecord_sub he)).mp hk).1
    omega
  unfold publishLink
  simp only [hl, if_true]
  exact hrec.trans (showLeftUp_arrives _ l)

/-- A transfer that comes through leaves the state as it is, but for its link. -/
theorem carry_arrives {s : State} {l : Nat} {rev : Bool} {ws : List Nat} (hl : l < 7) (h : (carry s l rev ws 0).1 = true) :
    WriteArrives s (carry s l rev ws 0).2.2 := by
  unfold carry at h ⊢
  split at h
  · rename_i hup
    rw [if_pos hup]
    generalize carryPath ((s.linkAt l).dir rev) ws 0 = r at h ⊢
    obtain ⟨p, fate, n⟩ := r
    cases fate with
    | accepted => exact (setLink_arrives s l fun k => injectDone (k.setDir rev p)).trans (publishLink_arrives _ hl)
    | _ => cases h
  · cases h

/-- An accepted write of an entry of S or a C die comes to it over the die's link. -/
theorem arrived_of_link {s : State} {via : Iface} {index sub l : Nat} {d : Datum} (h : Accepts s via index sub d) (hi : index ≠ 0x2310)
    (hdie : linkOfDie (dieOf index sub) = some l) (hl : l < 7) : WriteArrives s (arrived s via index sub d) := by
  obtain ⟨-, -, hok, -, -, hcross⟩ := h
  have hjournal := (journalled_fits (via := via) (sub := sub) (d := d) hi hok).eq_nvSet
  have hstart : WriteArrives s (journalled s via index sub d) := by
    rw [hjournal]
    exact ⟨⟨_, _, _, rfl⟩, fun _ _ _ _ => rfl⟩
  unfold arrived
  unfold crossing crossed at hcross ⊢
  rw [hdie] at hcross ⊢
  exact hstart.trans (carry_arrives hl hcross)

theorem streamData_of_index {index sub : Nat} (h : 0x2104 ≤ index) : streamData index sub = none := by
  unfold streamData
  split
  · rw [if_neg (by omega), if_neg (by omega)]
  · rfl

/-- A named write of an entry over a link acts on the state in which it arrives, where its operation touches neither the host port nor the
fabric. -/
theorem named_write_of_link {s : State} {via : Iface} {base count i sub l m : Nat} {d : Datum} {f : State → State} (hi : i < count)
    (h : Accepts s via (base + i) sub d) (hlow : 0x2311 ≤ base + i) (hdie : linkOfDie (dieOf (base + i) sub) = some l) (hl : l < 7)
    (happly : ∀ u, applyWrite serveRemote u via (base + i) sub d = f u) (hfits : ∀ u, Fits m u (f u))
    (hhost : m.testBit 22 = false) (hfab : m.testBit 17 = false) :
    ∃ u, WriteArrives s u ∧ namedWrite s via base count i sub d = f u := by
  have harr := arrived_of_link h (by omega) hdie hl
  have ⟨_, _, _, hq, _⟩ := h
  refine ⟨_, harr, ?_⟩
  rw [named_write hi (streamData_of_index (by omega)) h, happly]
  exact refill_quiet ((hfits _).quietPort hhost hfab (harr.quietPort hq))

end Sys2Proof.Machine
end

section
/-! PROOFS. The synthesis (chapter 07): a write of an entry of the APLLs, the ramps and ALIGN, and the records that S keeps. -/

namespace Sys2Proof.Machine

/-! A write of an entry of 2630h, 3500h+j or 3508h+j. -/

/-- The entries of the synthesis that live on S and that chapter 07 acts upon: 2630h, 3500h+j and 3508h+j, but for HISTORY, MASK and ROUTE. -/
structure SynthEntry (index sub : Nat) : Prop where
  object : index = 0x2630 ∨ 0x3500 ≤ index ∧ index < 0x3510
  entry : 4 < sub ∨ 0x3508 ≤ index ∧ sub = 3

theorem SynthEntry.dieOf_eq {index sub : Nat} (h : SynthEntry index sub) : dieOf index sub = 1 := by
  obtain ⟨hindex, hsub⟩ := h
  unfold dieOf
  rcases hindex with rfl | ⟨hlow, hhigh⟩
  · rfl
  · repeat rw [if_neg (by omega)]
    split
    · rw [if_neg (by omega)]
    · rw [if_pos (by omega)]

theorem histMask_ramp {index : Nat} (h : 0x3508 ≤ index ∧ index < 0x3600) : histMask index = 0 := by
  unfold histMask
  repeat rw [if_neg (by omega)]
  rw [if_pos h.2]

theorem SynthEntry.applyWrite_eq {index sub : Nat} (h : SynthEntry index sub) (s : State) (via : Iface) (d : Datum) :
    applyWrite serveRemote s via index sub d = applySynth s index sub d.val := by
  obtain ⟨hindex, hsub⟩ := h
  have hhist : ¬(histMask index ≠ 0 ∧ (sub = 3 ∨ sub = 4)) := fun ⟨hmask, hs⟩ => hmask (histMask_ramp (by omega))
  unfold applyWrite
  dsimp only
  rw [if_neg (by omega), if_neg hhist]
  rcases hindex with rfl | ⟨hlow, hhigh⟩
  · rfl
  · repeat rw [if_neg (by omega)]
    rw [if_pos (by omega)]

/-- A row that is an accepted write of such an entry acts on the state in which the write arrives. -/
theorem exec_synth_write {s : State} {via : Iface} {base count i sub : Nat} {d : Datum} (c : Instr) (hlive : Live s) (hi : i < count)
    (he : SynthEntry (base + i) sub) (h : Accepts s via (base + i) sub d)
    (hc : exec c s = next (live s fun s => namedWrite s via base count i sub d)) :
    ∃ u, WriteArrives s u ∧ exec c s = .next (applySynth u (base + i) sub d.val) := by
  have hlow : 0x2311 ≤ base + i := by
    have := he.object
    omega
  obtain ⟨u, hu, hw⟩ := named_write_of_link (l := 6) (m := 8230) hi h hlow (by rw [he.dieOf_eq]; rfl) (by decide)
    (fun u => he.applyWrite_eq u via d) (fun u => applySynth_fits (by decide) (.refl _ u) ..) (by decide) (by decide)
  exact ⟨u, hu, (exec_of_live hc hlive).trans (congrArg _ hw)⟩

theorem apllAt_of_ap {s t : State} (j : Nat) (h : t.ap = s.ap) : t.apllAt j = s.apllAt j := by
  unfold State.apllAt
  rw [h]

theorem WriteArrives.apllAt {s u : State} (h : WriteArrives s u) (j : Nat) : u.apllAt j = s.apllAt j := apllAt_of_ap j h.ap

theorem WriteArrives.rampCfg {s u : State} (h : WriteArrives s u) (j : Nat) {sub : Nat} (hsub : sub < 256) :
    u.rampCfg j sub = s.rampCfg j sub := h.rd _ _ (by omega) hsub

theorem WriteArrives.apCfg {s u : State} (h : WriteArrives s u) (j : Nat) {sub : Nat} (hsub : sub < 256) :
    u.apCfg j sub = s.apCfg j sub := h.rd _ _ (by omega) hsub

/-! The records that S keeps (R237, R238). -/

section Records
variable (s : State) (j : Nat)

@[simp] theorem apHist_ap (i : Nat) : (apHist s j i).ap = s.ap := rfl
@[simp] theorem apHist_apllAt (i m : Nat) : (apHist s j i).apllAt m = s.apllAt m := rfl

@[simp] theorem bit_apHist_self (i : Nat) : bit ((apHist s j i).drd (key (0x3500 + j) 2)) i = true := by
  unfold apHist State.dhist
  rw [State.drd_dput_self]
  simp only [bit, setBits, Nat.testBit_or, Nat.testBit_two_pow_self, Bool.or_true]

theorem apHist_drd_of_ne {k : Key} (i : Nat) (h : k ≠ key (0x3500 + j) 2) : (apHist s j i).drd k = s.drd k := State.drd_dput_ne _ _ h

theorem apllPublish_frame : Fits 4 s (apllPublish s j) := apllPublish_fits (by decide) (.refl _ s) j

@[simp] theorem apllPublish_ap : (apllPublish s j).ap = s.ap := (apllPublish_frame s j).ap (by decide)
@[simp] theorem apllPublish_apllAt (m : Nat) : (apllPublish s j).apllAt m = s.apllAt m := apllAt_of_ap m (apllPublish_ap s j)
@[simp] theorem apllPublish_faultIn : (apllPublish s j).faultIn = s.faultIn := (apllPublish_frame s j).faultIn (by decide)
@[simp] theorem apllPublish_rd (k : Key) : (apllPublish s j).rd k = s.rd k := rd_of_od k ((apllPublish_frame s j).od (by decide))

theorem many_dput_drd_of_key_ne {index : Nat} {k : Key} (l : List (Nat × Nat)) (h : ∀ e ∈ l, k ≠ key index e.1) :
    (s.many l fun e s => s.dput (key index e.1) e.2).drd k = s.drd k := by
  induction l generalizing s with
  | nil => rfl
  | cons e l ih =>
    rw [List.forall_mem_cons] at h
    rw [many_cons, ih _ h.2, State.drd_dput_ne _ _ h.1]

/-- The record of an APLL leaves HISTORY, F_SOURCE and the other entries of S as they are. -/
theorem apllPublish_drd_of_ne {k : Key} (h : ∀ sub ∈ [0x13, 0x15, 0x16, 0x17, 0x18, 0x19], k ≠ key (0x3500 + j) sub) :
    (apllPublish s j).drd k = s.drd k := by
  unfold apllPublish
  refine many_dput_drd_of_key_ne s _ fun e he => h e.1 ?_
  exact List.mem_map_of_mem (f := Prod.fst) he

@[simp] theorem apllPublish_history : (apllPublish s j).drd (key (0x3500 + j) 2) = s.drd (key (0x3500 + j) 2) :=
  apllPublish_drd_of_ne s j fun sub hsub => by
    have : ∀ sub ∈ [0x13, 0x15, 0x16, 0x17, 0x18, 0x19], sub < 256 ∧ 2 ≠ sub := by decide
    exact fun h => (this sub hsub).2 ((key_inj (by decide) (this sub hsub).1).mp h).2

/-! STATE, LOCK_LOSSES and CHANGEOVERS as they are published. -/

@[simp] theorem apllPublish_state : (apllPublish s j).drd (key (0x3500 + j) 0x13) = (s.apllAt j).state.code := by
  simp [apllPublish, State.many, State.drd_dput]

@[simp] theorem apllPublish_lockLosses : (apllPublish s j).drd (key (0x3500 + j) 0x17) = cut 32 (s.apllAt j).lockLosses := by
  simp [apllPublish, State.many, State.drd_dput]

@[simp] theorem apllPublish_changeovers : (apllPublish s j).drd (key (0x3500 + j) 0x19) = cut 32 (s.apllAt j).changeovers := by
  simp [apllPublish, State.many]

end Records

@[simp] theorem length_aplls_setApll (s : State) (j : Nat) (f : Apll → Apll) : (s.setApll j f).ap.aplls.length = s.ap.aplls.length :=
  length_upd ..

end Sys2Proof.Machine
end

section
/-! PROOFS. Ramp profiles (R223 to R225, R238). -/

namespace Sys2Proof.Machine

section Ramp
variable {s : State} {j : Nat}

/-! The ramp record. -/

theorem rampPublish_apllAt (hj : j < s.ap.aplls.length) :
    (rampPublish s j).apllAt j = { s.apllAt j with sincePub := 0, publish := false } := State.apllAt_setApll _ hj

/-- STATE and SEGMENT as they are published. -/
theorem rampPublish_record :
    (rampPublish s j).drd (key (0x3508 + j) 4) = (s.apllAt j).ramp.code ∧
      (rampPublish s j).drd (key (0x3508 + j) 5) = (s.apllAt j).seg + at_ (s.apllAt j).reversed 7 := by
  simp [rampPublish, State.many, State.drd_dput]

theorem rampPublish_history : (rampPublish s j).drd (key (0x3500 + j) 2) = s.drd (key (0x3500 + j) 2) := by
  have hne : ∀ sub < 256, key (0x3500 + j) 2 ≠ key (0x3508 + j) sub := fun sub hsub h =>
    absurd ((key_inj (by decide) hsub).mp h).1 (by omega)
  simp only [rampPublish, State.many, List.foldl_cons, List.foldl_nil, State.setApll_drd]
  repeat rw [State.drd_dput_ne _ _ (hne _ (by decide))]

/-! The commands (R224, R225). -/

theorem applySynth_ramp (v : Nat) (hj : j < 8) : applySynth s (0x3508 + j) 3 v = rampCommand s j v := by
  unfold applySynth
  dsimp only
  repeat rw [if_neg (by omega)]
  rw [if_pos (by omega), Nat.add_sub_cancel_left]

theorem rampCommand_stop_once (hrun : (s.apllAt j).ramp = .running) (honce : s.rampCfg j 1 = 0) :
    rampCommand s j 2 = rampPublish (apHist (s.setApll j fun a => { a with ramp := .ended }) j 8) j := by
  simp only [rampCommand, hrun, honce, Nat.reduceEqDiff, if_true, if_false]

theorem rampCommand_stop_cycle (hrun : (s.apllAt j).ramp = .running) (hcycle : s.rampCfg j 1 ≠ 0) :
    rampCommand s j 2 = rampPublish (s.setApll j fun a => { a with ramp := .stopping }) j := by
  simp only [rampCommand, hrun, hcycle, Nat.reduceEqDiff, if_true, if_false]

/-! The end of a segment (R223). -/

/-- The end of a segment that runs forward: the next one, the reversed half, or the end of the cycle. -/
theorem rampSegmentEnd_of_forward (hrun : (s.apllAt j).ramp = .running ∨ (s.apllAt j).ramp = .stopping)
    (hlocked : (s.apllAt j).state = .locked) (hdue : s.rampCfg j (0x19 + (s.apllAt j).seg) ≤ (s.apllAt j).segTime)
    (hforward : (s.apllAt j).reversed = false) :
    rampSegmentEnd s j =
      if (s.apllAt j).seg + 1 < s.rampCfg j 2 then rampPublish (s.setApll j fun a => { a with seg := a.seg + 1, segTime := 0 }) j
      else if s.rampCfg j 1 = 2 then rampPublish (s.setApll j fun a => { a with reversed := true, segTime := 0 }) j
      else rampCycleEnd s j :=
  (if_pos ⟨hrun, hlocked, hdue⟩).trans (if_neg (by rw [hforward]; decide))

theorem rampCycleEnd_once (honce : s.rampCfg j 1 = 0) :
    rampCycleEnd s j = rampPublish (apHist (s.setApll j fun a =>
      { a with cycles := a.cycles + 1, segTime := 0, ramp := .ended, publish := true }) j 8) j := by
  simp only [rampCycleEnd, honce, BEq.rfl, Bool.or_true, if_true, State.when]

theorem rampCycleEnd_repeat (hrun : (s.apllAt j).ramp = .running) (hcycle : s.rampCfg j 1 ≠ 0) :
    rampCycleEnd s j = rampPublish (s.setApll j fun a =>
      { a with cycles := a.cycles + 1, segTime := 0, reversed := false, seg := 0, publish := true }) j := by
  have hstop : ((s.apllAt j).ramp == RState.stopping || s.rampCfg j 1 == 0) = false := by
    rw [hrun, Bool.or_eq_false_iff]
    exact ⟨rfl, beq_false_of_ne hcycle⟩
  simp only [rampCycleEnd, hstop, Bool.false_eq_true, if_false, State.when]

/-- A change to the APLL's state that the ramp record shows at once. -/
theorem rampPublish_setApll_apllAt (f : Apll → Apll) (hj : j < s.ap.aplls.length) :
    (rampPublish (s.setApll j f) j).apllAt j = { f (s.apllAt j) with sincePub := 0, publish := false } := by
  rw [rampPublish_apllAt ((length_aplls_setApll s j f).symm ▸ hj), State.apllAt_setApll f hj]

/-- The ramp ends: its state, RAMP_ENDED, and the record. -/
theorem rampPublish_ended (f : Apll → Apll) (hj : j < s.ap.aplls.length) (hend : ∀ a, (f a).ramp = .ended) :
    let t := rampPublish (apHist (s.setApll j f) j 8) j
    t.apllAt j = { f (s.apllAt j) with sincePub := 0, publish := false } ∧ t.drd (key (0x3508 + j) 4) = 3 ∧
      bit (t.drd (key (0x3500 + j) 2)) 8 = true := by
  have hat : (apHist (s.setApll j f) j 8).apllAt j = f (s.apllAt j) := State.apllAt_setApll f hj
  refine ⟨?_, ?_, ?_⟩
  · rw [rampPublish_apllAt ((length_aplls_setApll s j f).symm ▸ hj), hat]
  · rw [rampPublish_record.1, hat, hend]
    rfl
  · rw [rampPublish_history]
    exact bit_apHist_self ..

end Ramp

theorem rampEntry {j : Nat} (hj : j < 8) : SynthEntry (0x3508 + j) 3 := ⟨.inr (by omega), .inr (by omega)⟩

/-- A command of the ramp that is accepted acts on the state in which it arrives. -/
theorem exec_ramp_command {s : State} {via : Iface} {j v : Nat} (c : Instr) (hlive : Live s) (hj : j < 8)
    (h : Accepts s via (0x3508 + j) 3 ⟨1, v⟩) (hc : exec c s = next (live s fun s => namedCommand s via 0x3508 8 j 3 v)) :
    ∃ u, WriteArrives s u ∧ exec c s = .next (rampCommand u j v) := by
  obtain ⟨u, hu, hgo⟩ := exec_synth_write c hlive hj (rampEntry hj) h hc
  exact ⟨u, hu, hgo.trans (congrArg _ (applySynth_ramp v hj))⟩

/-- Settles O28: START and CLEAR only note the request; the end of a forward segment follows the profile; and each entry into ENDED sets
RAMP_ENDED. -/
theorem rampProfilesRun : Obligations.RampProfilesRun := by
  intro s via j hlive hs hj
  have hlen : j < s.ap.aplls.length := hs.aplls.symm ▸ hj
  have hseg : exec (.rampSegmentEnd j) s = .next (rampSegmentEnd s j) := exec_of_live (f := fun s => rampSegmentEnd s j) rfl hlive
  refine ⟨fun hacc => ?_, fun hacc honce hrun => ?_, fun hacc hcycle hrun => ?_, fun hacc => ?_, fun hrun hlocked hdue hfwd hnext => ?_,
    fun hrun hlocked hdue hfwd hlast htri => ?_, fun hrun hlocked hdue hfwd hlast honce => ?_,
    fun hrun hlocked hdue hfwd hlast hrep hrunning => ?_⟩
  · obtain ⟨u, hu, hgo⟩ := exec_ramp_command (.rampStart via j) hlive hj hacc rfl
    exact ⟨_, hgo, (State.apllAt_setApll _ (hu.ap ▸ hlen)).trans (by rw [hu.apllAt]), hu.dr⟩
  · obtain ⟨u, hu, hgo⟩ := exec_ramp_command (.rampStop via j) hlive hj hacc rfl
    rw [← hu.apllAt] at hrun
    rw [rampCommand_stop_once hrun ((hu.rampCfg j (by decide)).trans honce)] at hgo
    obtain ⟨hat, hstate, hhist⟩ := rampPublish_ended (s := u) (j := j) (fun a => { a with ramp := .ended }) (hu.ap ▸ hlen) fun _ => rfl
    exact ⟨_, hgo, by rw [hat], by rw [hat, hu.apllAt], hstate, hhist⟩
  · obtain ⟨u, hu, hgo⟩ := exec_ramp_command (.rampStop via j) hlive hj hacc rfl
    rw [← hu.apllAt] at hrun
    rw [rampCommand_stop_cycle hrun fun h => hcycle ((hu.rampCfg j (by decide)).symm.trans h)] at hgo
    have hlen' : j < u.ap.aplls.length := hu.ap ▸ hlen
    have hat := rampPublish_setApll_apllAt (s := u) (j := j) (fun a => { a with ramp := .stopping }) hlen'
    refine ⟨_, hgo, by rw [hat], by rw [hat, hu.apllAt], by rw [hat, hu.apllAt], ?_⟩
    rw [rampPublish_record.1, State.apllAt_setApll _ hlen']
    rfl
  · obtain ⟨u, hu, hgo⟩ := exec_ramp_command (.rampClear via j) hlive hj hacc rfl
    exact ⟨_, hgo, (State.apllAt_setApll _ (hu.ap ▸ hlen)).trans (by rw [hu.apllAt]), hu.dr⟩
  · rw [rampSegmentEnd_of_forward hrun hlocked hdue hfwd, if_pos hnext] at hseg
    have hat := rampPublish_setApll_apllAt (s := s) (j := j) (fun a => { a with seg := a.seg + 1, segTime := 0 }) hlen
    refine ⟨_, hseg, by rw [hat], by rw [hat], by rw [hat], ?_⟩
    rw [rampPublish_record.2, State.apllAt_setApll _ hlen]
    simp only [hfwd, at_, Bool.false_eq_true, if_false, Nat.add_zero]
  · rw [rampSegmentEnd_of_forward hrun hlocked hdue hfwd, if_neg (Nat.not_lt.mpr hlast), if_pos htri] at hseg
    have hat := rampPublish_setApll_apllAt (s := s) (j := j) (fun a => { a with reversed := true, segTime := 0 }) hlen
    exact ⟨_, hseg, by rw [hat], by rw [hat], by rw [hat], by rw [hat]⟩
  · rw [rampSegmentEnd_of_forward hrun hlocked hdue hfwd, if_neg (Nat.not_lt.mpr hlast), if_neg (by omega), rampCycleEnd_once honce] at hseg
    obtain ⟨hat, hstate, hhist⟩ := rampPublish_ended (s := s) (j := j)
      (fun a => { a with cycles := a.cycles + 1, segTime := 0, ramp := .ended, publish := true }) hlen fun _ => rfl
    exact ⟨_, hseg, by rw [hat], by rw [hat], by rw [hat], hstate, hhist⟩
  · rw [rampSegmentEnd_of_forward hrun hlocked hdue hfwd, if_neg (Nat.not_lt.mpr hlast), if_neg (by omega),
      rampCycleEnd_repeat hrunning (by omega)] at hseg
    have hat := rampPublish_setApll_apllAt (s := s) (j := j)
      (fun a => { a with cycles := a.cycles + 1, segTime := 0, reversed := false, seg := 0, publish := true }) hlen
    exact ⟨_, hseg, by rw [hat]; exact hrunning, by rw [hat], by rw [hat], by rw [hat]⟩

end Sys2Proof.Machine
end

section
/-! PROOFS. The states of an APLL, its lock counter and the change-over (R210, R216, R217, R219, R220). -/

namespace Sys2Proof.Machine

/-! Operations over a list of units. -/

/-- What every operation of a list keeps holds at the end. -/
theorem many_keeps {α : Type} {P : State → Prop} {f : α → State → State} {l : List α} {s : State} (hf : ∀ a ∈ l, ∀ t, P t → P (f a t))
    (h : P s) : P (s.many l f) := by
  induction l generalizing s with
  | nil => exact h
  | cons a l ih =>
    rw [List.forall_mem_cons] at hf
    exact ih hf.2 (hf.1 s h)

/-- The operation on unit `a` turns `P` into `Q`, and those on other units keep both: at the end of the list `Q` holds. -/
theorem many_reaches {α : Type} {P Q : State → Prop} {f : α → State → State} {l : List α} {s : State} {a : α} (ha : a ∈ l)
    (hnodup : l.Nodup) (hP : ∀ b, b ≠ a → ∀ t, P t → P (f b t)) (hPQ : ∀ t, P t → Q (f a t)) (hQ : ∀ b, b ≠ a → ∀ t, Q t → Q (f b t))
    (h : P s) : Q (s.many l f) := by
  induction l generalizing s with
  | nil => exact absurd ha List.not_mem_nil
  | cons b l ih =>
    rw [List.nodup_cons] at hnodup
    rw [many_cons]
    by_cases hb : b = a
    · subst hb
      exact many_keeps (fun c hc => hQ c fun e => hnodup.1 (e ▸ hc)) (hPQ s h)
    · exact ih ((List.mem_cons.mp ha).resolve_left (Ne.symm hb)) hnodup.2 (hP b hb s h)

section Apll
variable {s : State} {j : Nat}

/-! Entry into LOCKING, LOCKED and bypass. -/

theorem apllLocking_apllAt (hj : j < s.ap.aplls.length) (band : Bool) :
    (apllLocking s j band).apllAt j = { s.apllAt j with
      state := .locking, counting := !band, passes := 0, fails := 0, aligned := false,
      mash := { (s.apllAt j).mash with lfsr := ditherSeed s j }, nSum := {}, nFor := 0, nMark := s.now } := State.apllAt_setApll _ hj

theorem apllLocking_apllAt_ne {i : Nat} (band : Bool) (h : i ≠ j) : (apllLocking s i band).apllAt j = s.apllAt j :=
  State.apllAt_setApll_ne _ h

theorem length_aplls_apllLocking (i : Nat) (band : Bool) : (apllLocking s i band).ap.aplls.length = s.ap.aplls.length := length_upd ..

theorem apllLocking_rd (i : Nat) (band : Bool) (k : Key) : (apllLocking s i band).rd k = s.rd k := rfl

theorem apllLocking_drd (i : Nat) (band : Bool) (k : Key) : (apllLocking s i band).drd k = s.drd k := rfl

/-- LOCKED is entered aligned to the timeline, with no step outstanding, and before the outputs are back (R213, R217, R219; log entry 28). -/
theorem apllLocked_apllAt (hj : j < s.ap.aplls.length) :
    let a := (apllLocked s j).apllAt j
    a.state = .locked ∧ a.aligned = true ∧ a.step = 0 ∧ a.returned = false := by
  have h : (apllLocked s j).apllAt j = _ := State.apllAt_setApll _ hj
  dsimp only
  rw [h]
  exact ⟨rfl, rfl, rfl, rfl⟩

theorem toBypass_apllAt (hj : j < s.ap.aplls.length) (was : Bool) :
    (toBypass s j was).apllAt j = { s.apllAt j with
      returned := false, changeovers := if was then (s.apllAt j).changeovers + 1 else (s.apllAt j).changeovers } := by
  unfold toBypass
  cases was with
  | true => exact State.apllAt_setApll (fun a => { a with returned := false, changeovers := a.changeovers + 1 }) hj
  | false => exact State.apllAt_setApll (fun a => { a with returned := false }) hj

/-! The commands. -/

/-- ENABLE 1 on an APLL that is OFF, while its reference runs. -/
theorem apllEnable_of_off (hoff : s.apCfg j 5 = 0) (href : s.ap.relocking = false) :
    apllEnable s j 1 = apllPublish (apllLocking ((s.put (key (0x3500 + j) 5) 1).dput (key (0x3500 + j) 0x14)
      (fSource (s.put (key (0x3500 + j) 5) 1) j)) j true) j := by
  unfold apllEnable
  dsimp only
  rw [hoff, if_neg (by decide), if_neg (by decide)]
  exact if_neg fun h => Bool.false_ne_true (href.symm.trans h)

/-- F_SOURCE follows N_INT, N_FRAC and ODIV, not ENABLE (R211). -/
theorem fSource_put_enable (v : Nat) : fSource (s.put (key (0x3500 + j) 5) v) j = fSource s j := by
  have hcfg : ∀ sub, 5 < sub ∧ sub < 256 → (s.put (key (0x3500 + j) 5) v).apCfg j sub = s.apCfg j sub := fun sub hsub =>
    State.rd_put_ne _ _ fun h => absurd ((key_inj hsub.2 (by decide)).mp h).2 (by omega)
  unfold fSource apllN
  rw [hcfg 7 (by decide), hcfg 8 (by decide), hcfg 9 (by decide)]

theorem apllEnable_on (hj : j < s.ap.aplls.length) (hoff : s.apCfg j 5 = 0) (href : s.ap.relocking = false) :
    let t := apllEnable s j 1
    (t.apllAt j).state = .locking ∧ (t.apllAt j).counting = false ∧ (t.apllAt j).aligned = false ∧ t.drd (key (0x3500 + j) 0x13) = 1 ∧
      t.rd (key (0x3500 + j) 5) = 1 ∧ t.drd (key (0x3500 + j) 0x14) = fSource s j := by
  rw [apllEnable_of_off hoff href, fSource_put_enable]
  have hlen : j < ((s.put (key (0x3500 + j) 5) 1).dput (key (0x3500 + j) 0x14) (fSource s j)).ap.aplls.length := hj
  have hrd : ((s.put (key (0x3500 + j) 5) 1).dput (key (0x3500 + j) 0x14) (fSource s j)).rd (key (0x3500 + j) 5) = 1 := by
    rw [State.dput_rd, State.rd_put_self]
  have hdrd := State.drd_dput_self (s.put (key (0x3500 + j) 5) 1) (key (0x3500 + j) 0x14) (fSource s j)
  generalize (s.put (key (0x3500 + j) 5) 1).dput (key (0x3500 + j) 0x14) (fSource s j) = u at hlen hrd hdrd ⊢
  have hne : ∀ sub ∈ [0x13, 0x15, 0x16, 0x17, 0x18, 0x19], sub < 256 ∧ 0x14 ≠ sub := by decide
  have hsource : (apllPublish (apllLocking u j true) j).drd (key (0x3500 + j) 0x14) = u.drd (key (0x3500 + j) 0x14) :=
    apllPublish_drd_of_ne _ _ fun sub hsub h => (hne sub hsub).2 ((key_inj (by decide) (hne sub hsub).1).mp h).2
  dsimp only
  rw [apllPublish_state, apllPublish_apllAt, apllPublish_rd, hsource, apllLocking_apllAt hlen, apllLocking_rd]
  exact ⟨rfl, rfl, rfl, rfl, hrd, hdrd⟩

/-- ENABLE 0 has been written, and APLL j is OFF; its outputs have not been changed over. -/
def apllOff (s : State) (j : Nat) : State :=
  (s.put (key (0x3500 + j) 5) 0).setApll j fun a => { a with state := .off, counting := false, aligned := false, step := 0, limited := false }

theorem apllEnable_zero (s : State) (j : Nat) : apllEnable s j 0 = apllPublish (toBypass (apllOff s j) j (apllReturned s j)) j := rfl

theorem apllOff_apllAt (hj : j < s.ap.aplls.length) :
    (apllOff s j).apllAt j = { s.apllAt j with state := .off, counting := false, aligned := false, step := 0, limited := false } :=
  State.apllAt_setApll (s := s.put (key (0x3500 + j) 5) 0) _ hj

/-- ENABLE 0 takes an APLL whose outputs run on it to OFF, over to bypass. -/
theorem apllEnable_zero_returned (hj : j < s.ap.aplls.length) (hret : apllReturned s j = true) :
    let t := apllEnable s j 0
    (t.apllAt j).state = .off ∧ (t.apllAt j).aligned = false ∧ (t.apllAt j).returned = false ∧ t.drd (key (0x3500 + j) 0x13) = 0 ∧
      t.rd (key (0x3500 + j) 5) = 0 ∧ (t.apllAt j).changeovers = (s.apllAt j).changeovers + 1 ∧
      bit (t.drd (key (0x3500 + j) 2)) 4 = true := by
  have hat := toBypass_apllAt (s := apllOff s j) (j := j) ((length_aplls_setApll ..).symm ▸ hj) true
  rw [apllOff_apllAt hj] at hat
  rw [apllEnable_zero, hret]
  dsimp only
  rw [apllPublish_state, apllPublish_apllAt, apllPublish_rd, apllPublish_history, hat]
  exact ⟨rfl, rfl, rfl, rfl, State.rd_put_self .., rfl, bit_apHist_self ..⟩

theorem apllRelock_locked (hj : j < s.ap.aplls.length) (hlocked : (s.apllAt j).state = .locked) :
    let t := apllRelock s j
    (t.apllAt j).state = .locking ∧ (t.apllAt j).counting = false ∧ (t.apllAt j).aligned = false ∧ t.drd (key (0x3500 + j) 0x13) = 1 := by
  have hgo : apllRelock s j = apllPublish (toBypass (apllLocking s j true) j (apllReturned s j)) j := if_pos (.inl hlocked)
  have hat := toBypass_apllAt (s := apllLocking s j true) ((length_aplls_apllLocking j true).symm ▸ hj) (apllReturned s j)
  rw [apllLocking_apllAt hj] at hat
  rw [hgo]
  dsimp only
  rw [apllPublish_state, apllPublish_apllAt, hat]
  exact ⟨rfl, rfl, rfl, rfl⟩

theorem apllClear_counters (hj : j < s.ap.aplls.length) :
    let t := apllClear s j
    t.apllAt j = { s.apllAt j with lockLosses := 0, changeovers := 0 } ∧ t.drd (key (0x3500 + j) 0x17) = 0 ∧
      t.drd (key (0x3500 + j) 0x19) = 0 := by
  have hat := State.apllAt_setApll (s := s) (fun a => { a with lockLosses := 0, changeovers := 0 }) hj
  unfold apllClear
  dsimp only
  rw [apllPublish_lockLosses, apllPublish_changeovers, apllPublish_apllAt, hat]
  exact ⟨rfl, rfl, rfl⟩

/-! Band selection (R217). -/

theorem bandDone_locking (hj : j < s.ap.aplls.length) (hlocking : (s.apllAt j).state = .locking) :
    (bandDone s j).apllAt j = { s.apllAt j with counting := true, passes := 0, nSum := {}, nFor := 0, nMark := s.now } := by
  unfold bandDone
  rw [if_pos hlocking, State.apllAt_setApll _ hj]

theorem bandKept_locking (hj : j < s.ap.aplls.length) (band : Nat) (hlocking : (s.apllAt j).state = .locking) :
    (bandKept s j band).apllAt j = { s.apllAt j with counting := true, passes := 0, nSum := {}, nFor := 0, nMark := s.now } := by
  unfold bandKept
  rw [if_pos hlocking]
  exact bandDone_locking (s := (s.put _ _).dput _ _) hj hlocking

theorem lockingTimeout_locking (hj : j < s.ap.aplls.length) (hlocking : (s.apllAt j).state = .locking) :
    let a := (lockingTimeout s j).apllAt j
    a.state = .locking ∧ a.counting = false ∧ a.passes = 0 := by
  have hgo : lockingTimeout s j = apllPublish (apllLocking s j true) j := if_pos hlocking
  rw [hgo, apllPublish_apllAt, apllLocking_apllAt hj]
  exact ⟨rfl, rfl, rfl⟩

/-! The lock counter (R216, R217). -/

/-- Is a window's count within LOCK_LIMIT of the expected one? -/
def windowPasses (s : State) (j count : Nat) : Bool := ((qi count).sub (expectedCount s j)).abs.le (qi (s.apCfg j 0x0D : Nat))

/-- The window has been counted as one that passes or fails. -/
def windowCounted (s : State) (j count : Nat) : State :=
  s.setApll j fun a =>
    { a with lastCount := satI 32 ((((qi count).sub (expectedCount s j)).mul (qi 256)).round), nSum := {}, nFor := 0, nMark := s.now,
             passes := if windowPasses s j count then a.passes + 1 else 0, fails := if windowPasses s j count then 0 else a.fails + 1 }

theorem windowCounted_apllAt (hj : j < s.ap.aplls.length) (count : Nat) :
    let a := (windowCounted s j count).apllAt j
    a.state = (s.apllAt j).state ∧ a.lockLosses = (s.apllAt j).lockLosses ∧
      a.passes = (if windowPasses s j count then (s.apllAt j).passes + 1 else 0) ∧
      a.fails = (if windowPasses s j count then 0 else (s.apllAt j).fails + 1) := by
  simp only [windowCounted, State.apllAt_setApll _ hj, and_self]

/-- The lock is lost at a window: the loss counted, LOCKING without a new band, the outputs over to bypass, and HISTORY. -/
def lockLost (s : State) (j count : Nat) : State :=
  apHist (toBypass (apllLocking ((windowCounted s j count).setApll j fun a => { a with lockLosses := a.lockLosses + 1 }) j false) j
    (apllReturned s j)) j 1

theorem lockLost_frame (count : Nat) : Fits 8196 s (lockLost s j count) := by
  have hcounted : Fits 8196 s ((windowCounted s j count).setApll j fun a => { a with lockLosses := a.lockLosses + 1 }) :=
    State.setApll_fits (by decide) (State.setApll_fits (by decide) (.refl _ s) ..) ..
  exact apHist_fits (by decide) (toBypass_fits (by decide) (apllLocking_fits (by decide) hcounted ..) ..) ..

theorem lockLost_apllAt (hj : j < s.ap.aplls.length) (count : Nat) :
    let a := (lockLost s j count).apllAt j
    a.state = .locking ∧ a.counting = true ∧ a.aligned = false ∧ a.lockLosses = (s.apllAt j).lockLosses + 1 := by
  obtain ⟨-, hlosses, -⟩ := windowCounted_apllAt hj count
  have hj' : j < (windowCounted s j count).ap.aplls.length := (length_aplls_setApll ..).symm ▸ hj
  unfold lockLost
  rw [apHist_apllAt, toBypass_apllAt ((length_aplls_apllLocking j false).symm ▸ (length_aplls_setApll ..).symm ▸ hj'),
    apllLocking_apllAt ((length_aplls_setApll ..).symm ▸ hj'), State.apllAt_setApll _ hj']
  exact ⟨rfl, rfl, rfl, congrArg (· + 1) hlosses⟩

/-- A window that counts gives LOCKED, LOCKING or neither. -/
theorem lockWindow_of_counting {count : Nat}
    (h : ((s.apllAt j).state = .locking ∧ (s.apllAt j).counting) ∨ (s.apllAt j).state = .locked) :
    lockWindow s j count =
      let t := windowCounted s j count
      if (t.apllAt j).state = .locking ∧ s.apCfg j 0x0E ≤ (t.apllAt j).passes then apllPublish (apllLocked t j) j
      else if (t.apllAt j).state = .locked ∧ s.apCfg j 0x0F ≤ (t.apllAt j).fails then
        apllPublish ((lockLost s j count).raise 1 2 0x0F (0x10 + j)) j
      else apllPublish t j := if_pos h

theorem lockWindow_locks {count : Nat} (hj : j < s.ap.aplls.length) (hlocking : (s.apllAt j).state = .locking)
    (hcounting : (s.apllAt j).counting = true) (hpass : windowPasses s j count = true) (hlast : s.apCfg j 0x0E ≤ (s.apllAt j).passes + 1) :
    let t := lockWindow s j count
    (t.apllAt j).state = .locked ∧ (t.apllAt j).aligned = true ∧ (t.apllAt j).step = 0 ∧ (t.apllAt j).returned = false ∧
      t.drd (key (0x3500 + j) 0x13) = 2 ∧ bit (t.drd (key (0x3500 + j) 2)) 0 = true := by
  obtain ⟨hstate, -, hpasses, -⟩ := windowCounted_apllAt hj count
  have hlock : ((windowCounted s j count).apllAt j).state = .locking ∧ s.apCfg j 0x0E ≤ ((windowCounted s j count).apllAt j).passes := by
    rw [hstate, hpasses, hpass]
    exact ⟨hlocking, hlast⟩
  rw [lockWindow_of_counting (.inl ⟨hlocking, hcounting⟩)]
  dsimp only
  rw [if_pos hlock, apllPublish_state, apllPublish_apllAt, apllPublish_history]
  obtain ⟨hlocked, haligned, hstep, hreturned⟩ := apllLocked_apllAt (s := windowCounted s j count) ((length_aplls_setApll ..).symm ▸ hj)
  exact ⟨hlocked, haligned, hstep, hreturned, by rw [hlocked]; rfl, bit_apHist_self ..⟩

theorem lockWindow_unlocks {count : Nat} (hj : j < s.ap.aplls.length) (hlocked : (s.apllAt j).state = .locked)
    (hfail : windowPasses s j count = false) (hlast : s.apCfg j 0x0F ≤ (s.apllAt j).fails + 1) :
    let t := lockWindow s j count
    (t.apllAt j).state = .locking ∧ (t.apllAt j).counting = true ∧ (t.apllAt j).aligned = false ∧
      (t.apllAt j).lockLosses = (s.apllAt j).lockLosses + 1 ∧ t.drd (key (0x3500 + j) 0x13) = 1 ∧
      t.faultIn = s.faultIn ++ [⟨faultWord 1 2 0x0F (0x10 + j), s.now⟩] ∧ bit (t.drd (key (0x3500 + j) 2)) 1 = true := by
  obtain ⟨hstate, -, -, hfails⟩ := windowCounted_apllAt hj count
  have hunlock : ((windowCounted s j count).apllAt j).state = .locked ∧ s.apCfg j 0x0F ≤ ((windowCounted s j count).apllAt j).fails := by
    rw [hstate, hfails, hfail]
    exact ⟨hlocked, hlast⟩
  have hgo : lockWindow s j count = apllPublish ((lockLost s j count).raise 1 2 0x0F (0x10 + j)) j := by
    rw [lockWindow_of_counting (.inr hlocked)]
    dsimp only
    rw [if_neg (by rw [hunlock.1]; exact fun h => nomatch h.1), if_pos hunlock]
  have hat : ((lockLost s j count).raise 1 2 0x0F (0x10 + j)).apllAt j = (lockLost s j count).apllAt j := rfl
  have hfault : ((lockLost s j count).raise 1 2 0x0F (0x10 + j)).faultIn = s.faultIn ++ [⟨faultWord 1 2 0x0F (0x10 + j), s.now⟩] := by
    have hframe := lockLost_frame (s := s) (j := j) count
    rw [← hframe.faultIn (by decide), ← hframe.now (by decide)]
    rfl
  rw [hgo]
  dsimp only
  rw [apllPublish_state, apllPublish_apllAt, apllPublish_history, apllPublish_faultIn, hat]
  obtain ⟨hstate', hcounting, haligned, hlosses⟩ := lockLost_apllAt hj count
  exact ⟨hstate', hcounting, haligned, hlosses, by rw [hstate']; rfl, hfault, bit_apHist_self ..⟩

/-! The return of the reference (R210, R217). -/

/-- What the end of the relocking does at APLL j. -/
def refReturn (j : Nat) (s : State) : State :=
  if (s.apllAt j).state = .inputLost then apllPublish (apHist (apllLocking s j false) j 3) j else s

theorem refRelocked_of_relocking (h : s.ap.relocking = true) :
    refRelocked s = ({ s with ap := { s.ap with relocking := false } } : State).many (List.range 8) refReturn := if_pos h

theorem refReturn_ne {i : Nat} (h : i ≠ j) :
    (refReturn i s).apllAt j = s.apllAt j ∧ ∀ sub < 256, (refReturn i s).drd (key (0x3500 + j) sub) = s.drd (key (0x3500 + j) sub) := by
  unfold refReturn
  split
  · have hne : ∀ a < 256, ∀ b < 256, key (0x3500 + j) a ≠ key (0x3500 + i) b := fun a ha b hb hk =>
      h (by have := ((key_inj ha hb).mp hk).1; omega)
    have hsub : ∀ sub ∈ [0x13, 0x15, 0x16, 0x17, 0x18, 0x19], sub < 256 := by decide
    refine ⟨(apllPublish_apllAt ..).trans (apllLocking_apllAt_ne false h), fun sub hs => ?_⟩
    rw [apllPublish_drd_of_ne _ _ fun b hb => hne sub hs b (hsub b hb), apHist_drd_of_ne _ _ _ (hne sub hs 2 (by decide)), apllLocking_drd]
  · exact ⟨rfl, fun _ _ => rfl⟩

theorem refReturn_ap (i : Nat) : (refReturn i s).ap.aplls.length = s.ap.aplls.length ∧ (refReturn i s).ap.relocking = s.ap.relocking := by
  unfold refReturn
  split
  · rw [apllPublish_ap, apHist_ap]
    exact ⟨length_aplls_apllLocking i false, rfl⟩
  · exact ⟨rfl, rfl⟩

theorem refReturn_inputLost (hj : j < s.ap.aplls.length) (h : (s.apllAt j).state = .inputLost) :
    ((refReturn j s).apllAt j).state = .locking ∧ (refReturn j s).drd (key (0x3500 + j) 0x13) = 1 ∧
      bit ((refReturn j s).drd (key (0x3500 + j) 2)) 3 = true := by
  have hgo : refReturn j s = apllPublish (apHist (apllLocking s j false) j 3) j := if_pos h
  rw [hgo, apllPublish_state, apllPublish_apllAt, apllPublish_history, apHist_apllAt, apllLocking_apllAt hj]
  exact ⟨rfl, rfl, bit_apHist_self ..⟩

theorem refRelocked_inputLost (hlen : s.ap.aplls.length = 8) (hj : j < 8) (href : s.ap.relocking = true)
    (hlost : (s.apllAt j).state = .inputLost) :
    let t := refRelocked s
    t.ap.relocking = false ∧ (t.apllAt j).state = .locking ∧ t.drd (key (0x3500 + j) 0x13) = 1 ∧
      bit (t.drd (key (0x3500 + j) 2)) 3 = true := by
  rw [refRelocked_of_relocking href]
  refine many_reaches (a := j) (P := fun t => t.ap.aplls.length = 8 ∧ t.ap.relocking = false ∧ (t.apllAt j).state = .inputLost)
    (Q := fun t => t.ap.relocking = false ∧ (t.apllAt j).state = .locking ∧ t.drd (key (0x3500 + j) 0x13) = 1 ∧
      bit (t.drd (key (0x3500 + j) 2)) 3 = true)
    (List.mem_range.mpr hj) List.nodup_range (fun i hi t ⟨hl, hr, ht⟩ => ?_) (fun t ⟨hl, hr, ht⟩ => ?_) (fun i hi t ⟨hr, ht, hstate, hhist⟩ => ?_)
    ⟨hlen, rfl, hlost⟩
  · exact ⟨(refReturn_ap i).1.trans hl, (refReturn_ap i).2.trans hr, by rw [(refReturn_ne hi).1, ht]⟩
  · exact ⟨(refReturn_ap j).2.trans hr, refReturn_inputLost (hl.symm ▸ hj) ht⟩
  · obtain ⟨hat, hdrd⟩ := refReturn_ne (s := t) hi
    exact ⟨(refReturn_ap i).2.trans hr, by rw [hat, ht], (hdrd 0x13 (by decide)).trans hstate, by rw [hdrd 2 (by decide)]; exact hhist⟩

end Apll

end Sys2Proof.Machine
end

section
/-! PROOFS. Changes to the output paths alone (R219, R220, R234). -/

namespace Sys2Proof.Machine

/-- `t` comes from `s` by changes to the output paths alone. -/
def OutsChanged (s t : State) : Prop := ∃ outs, outs.length = s.ap.outs.length ∧ t = { s with ap := { s.ap with outs := outs } }

namespace OutsChanged
variable {s t u : State}

theorem refl (s : State) : OutsChanged s s := ⟨s.ap.outs, rfl, rfl⟩

theorem trans (h : OutsChanged s t) (k : OutsChanged t u) : OutsChanged s u := by
  obtain ⟨_, hl, rfl⟩ := h
  obtain ⟨_, kl, rfl⟩ := k
  exact ⟨_, kl.trans hl, rfl⟩

theorem setOut (s : State) (n : Nat) (f : OutPath → OutPath) : OutsChanged s (s.setOut n f) := ⟨_, length_upd .., rfl⟩

theorem many {α : Type} {f : α → State → State} (hf : ∀ a t, OutsChanged t (f a t)) (l : List α) : OutsChanged s (s.many l f) :=
  many_keeps (P := OutsChanged s) (fun a _ t h => h.trans (hf a t)) (.refl s)

theorem length_outs (h : OutsChanged s t) : t.ap.outs.length = s.ap.outs.length := by
  obtain ⟨_, hl, rfl⟩ := h
  exact hl

theorem dr (h : OutsChanged s t) : t.dr = s.dr := by obtain ⟨_, -, rfl⟩ := h; rfl
theorem od (h : OutsChanged s t) : t.od = s.od := by obtain ⟨_, -, rfl⟩ := h; rfl
theorem apllAt (h : OutsChanged s t) (j : Nat) : t.apllAt j = s.apllAt j := by obtain ⟨_, -, rfl⟩ := h; rfl
theorem drd (h : OutsChanged s t) (k : Key) : t.drd k = s.drd k := by obtain ⟨_, -, rfl⟩ := h; rfl
theorem chCfg (h : OutsChanged s t) (n sub : Nat) : t.chCfg n sub = s.chCfg n sub := by obtain ⟨_, -, rfl⟩ := h; rfl

end OutsChanged

/-- What a change to a path leaves of each, it leaves of this one. -/
theorem outAt_setOut_of_keeps {β : Type} {g : OutPath → β} {f : OutPath → OutPath} (s : State) (m n : Nat) (hg : ∀ o, g (f o) = g o) :
    g ((s.setOut m f).outAt n) = g (s.outAt n) := by
  by_cases h : m = n
  · subst h
    by_cases hm : m < s.ap.outs.length
    · rw [State.outAt_setOut f hm, hg]
    · rw [State.setOut, getD_upd_out f (Nat.not_lt.mp hm)]
  · rw [State.outAt_setOut_ne f h]

/-! The loss of alignment (R220, R227, R228). -/

theorem loseAlign_changes (s : State) (n : Nat) : OutsChanged s (loseAlign s n) := by
  unfold loseAlign
  split
  · exact .setOut ..
  · exact .refl s

section Path
variable {s : State} {n : Nat}

theorem loseAlign_unaligned (hn : n < s.ap.outs.length) :
    ((loseAlign s n).outAt n).unaligned = (decide (1 < s.chCfg n 0x0B) || (s.outAt n).unaligned) := by
  unfold loseAlign
  split
  · rename_i h
    rw [State.outAt_setOut _ hn, decide_eq_true h]
    rfl
  · rename_i h
    rw [decide_eq_false h]
    rfl

theorem loseAlign_running (m : Nat) : ((loseAlign s m).outAt n).running = (s.outAt n).running := by
  unfold loseAlign
  split
  · exact outAt_setOut_of_keeps (g := OutPath.running) s m n fun _ => rfl
  · rfl

theorem loseAlign_unaligned_ne {m : Nat} (h : m ≠ n) : ((loseAlign s m).outAt n).unaligned = (s.outAt n).unaligned := by
  unfold loseAlign
  split
  · rw [State.outAt_setOut_ne _ h]
  · rfl

/-! ALIGN at one output (R234). -/

/-- The path of an output with its divider to be reloaded. -/
def alignedPath (s : State) (n : Nat) : OutPath :=
  { s.outAt n with aligning := true, waiting := false, reached := false, lead := alignLead s n }

theorem alignOne_changes (s : State) (n : Nat) : OutsChanged s (alignOne s n) := by
  unfold alignOne
  split
  · exact .setOut ..
  · exact .refl s

theorem alignOne_outAt (hn : n < s.ap.outs.length) :
    (alignOne s n).outAt n = if 1 < s.chCfg n 0x0B ∧ alignEligible s n then alignedPath s n else s.outAt n := by
  unfold alignOne
  split
  · exact State.outAt_setOut _ hn
  · rfl

theorem alignOne_outAt_ne {m : Nat} (h : m ≠ n) : (alignOne s m).outAt n = s.outAt n := by
  unfold alignOne
  split
  · exact State.outAt_setOut_ne _ h
  · rfl

theorem alignOne_unaligned (m : Nat) : ((alignOne s m).outAt n).unaligned = (s.outAt n).unaligned := by
  unfold alignOne
  split
  · exact outAt_setOut_of_keeps (g := OutPath.unaligned) s m n fun _ => rfl
  · rfl

/-- Whether and where output n aligns does not depend on the other paths. -/
theorem OutsChanged.align {t : State} (h : OutsChanged s t) (hn : t.outAt n = s.outAt n) :
    alignEligible t n = alignEligible s n ∧ alignedPath t n = alignedPath s n := by
  unfold alignEligible alignedPath
  rw [hn]
  obtain ⟨_, -, rfl⟩ := h
  exact ⟨rfl, rfl⟩

end Path

/-! The outputs of an APLL are back on their source (R219, R220). -/

section Return
variable {s : State} {j : Nat}

/-- RETURN_HOLD is over at APLL j. -/
def sourceBack (s : State) (j : Nat) : State := apHist (s.setApll j fun a => { a with returned := true, changeovers := a.changeovers + 1 }) j 5

theorem sourceBack_apllAt (hj : j < s.ap.aplls.length) :
    (sourceBack s j).apllAt j = { s.apllAt j with returned := true, changeovers := (s.apllAt j).changeovers + 1 } :=
  State.apllAt_setApll _ hj

theorem returnHold_locked (hlocked : (s.apllAt j).state = .locked) (hret : (s.apllAt j).returned = false) :
    returnHold s j = apllPublish ((sourceBack s j).many (outsOf s j) fun n s => loseAlign s n) j := if_pos ⟨hlocked, hret⟩

/-- The boot ALIGN (R460) leaves the APLLs, their records and the alignment of the outputs as they are. -/
theorem returnHoldEnd_keeps (s : State) (j : Nat) :
    (∀ i, (returnHoldEnd s j).apllAt i = (returnHold s j).apllAt i) ∧ (∀ k, (returnHoldEnd s j).drd k = (returnHold s j).drd k) ∧
      ∀ n, ((returnHoldEnd s j).outAt n).unaligned = ((returnHold s j).outAt n).unaligned := by
  unfold returnHoldEnd
  dsimp only
  split
  · refine ⟨fun i => ?_, fun k => ?_, fun n => ?_⟩
    · exact (OutsChanged.many (fun n t => alignOne_changes t n) _).apllAt i
    · exact (OutsChanged.many (fun n t => alignOne_changes t n) _).drd k
    · exact many_keeps (P := fun t => (t.outAt n).unaligned = ((returnHold s j).outAt n).unaligned)
        (fun m _ t h => (alignOne_unaligned m).trans h) rfl
  · exact ⟨fun _ => rfl, fun _ => rfl, fun _ => rfl⟩

theorem mem_outsOf {n : Nat} (hn : n < 96) (h : s.chCfg n 0x0A = j) : n ∈ outsOf s j :=
  List.mem_filter.mpr ⟨List.mem_range.mpr hn, beq_iff_eq.mpr h⟩

theorem nodup_outsOf : (outsOf s j).Nodup := List.nodup_range.filter _

/-- The outputs of the list that divide are unaligned. -/
theorem many_loseAlign_unaligned {l : List Nat} {n : Nat} (hn : n < s.ap.outs.length) (hmem : n ∈ l) (hnodup : l.Nodup)
    (hdiv : 1 < s.chCfg n 0x0B) : ((s.many l fun n s => loseAlign s n).outAt n).unaligned = true := by
  refine many_reaches (P := OutsChanged s) (Q := fun t => (t.outAt n).unaligned = true) hmem hnodup
    (fun m _ t h => h.trans (loseAlign_changes t m)) (fun t h => ?_) (fun m hm t h => (loseAlign_unaligned_ne hm).trans h) (.refl s)
  rw [loseAlign_unaligned (h.length_outs.symm ▸ hn), h.chCfg, decide_eq_true hdiv]
  rfl

theorem returnHoldEnd_returned (hj : j < s.ap.aplls.length) (houts : s.ap.outs.length = 96) (hlocked : (s.apllAt j).state = .locked)
    (hret : (s.apllAt j).returned = false) :
    let t := returnHoldEnd s j
    (t.apllAt j).returned = true ∧ (t.apllAt j).changeovers = (s.apllAt j).changeovers + 1 ∧
      bit (t.drd (key (0x3500 + j) 2)) 5 = true ∧ ∀ n, n < 96 → s.chCfg n 0x0A = j → 1 < s.chCfg n 0x0B → (t.outAt n).unaligned = true := by
  obtain ⟨hat, hdrd, hout⟩ := returnHoldEnd_keeps s j
  have hlost : OutsChanged (sourceBack s j) ((sourceBack s j).many (outsOf s j) fun n s => loseAlign s n) :=
    .many (fun n t => loseAlign_changes t n) _
  have houtAt : ∀ n, (returnHold s j).outAt n = ((sourceBack s j).many (outsOf s j) fun n s => loseAlign s n).outAt n := fun n => by
    rw [returnHold_locked hlocked hret]
    unfold State.outAt
    rw [apllPublish_ap]
  dsimp only
  rw [hat, hdrd, returnHold_locked hlocked hret, apllPublish_apllAt, apllPublish_history, hlost.apllAt, hlost.drd, sourceBack_apllAt hj]
  refine ⟨rfl, rfl, bit_apHist_self .., fun n hn hsrc hdiv => ?_⟩
  rw [hout, houtAt]
  exact many_loseAlign_unaligned (houts.symm ▸ hn) (mem_outsOf hn hsrc) nodup_outsOf hdiv

end Return

end Sys2Proof.Machine
end

section
/-! PROOFS. The APLLs: every row of R217. -/

namespace Sys2Proof.Machine

theorem apllEntry {j sub : Nat} (hj : j < 8) (hsub : 4 < sub) : SynthEntry (0x3500 + j) sub := ⟨.inr (by omega), .inl hsub⟩

theorem applySynth_enable {s : State} {j : Nat} (v : Nat) (hj : j < 8) (hboot : bootPast s 5 = true) :
    applySynth s (0x3500 + j) 5 v = apllEnable s j v := by
  unfold applySynth
  dsimp only
  rw [if_neg (by omega), if_neg (by omega), if_pos (by omega), if_pos rfl, if_pos hboot, Nat.add_sub_cancel_left]

theorem applySynth_apllCommand (s : State) {j : Nat} (v : Nat) (hj : j < 8) : applySynth s (0x3500 + j) 0x12 v = apllCommand s j v := by
  unfold applySynth
  dsimp only
  rw [if_neg (by omega), if_neg (by omega), if_pos (by omega), if_neg (by decide), if_pos rfl, Nat.add_sub_cancel_left]

theorem WriteArrives.bootPast {s u : State} (h : WriteArrives s u) (i : Nat) : bootPast u i = bootPast s i := by
  unfold Machine.bootPast
  rw [h.boot]

theorem WriteArrives.apllReturned {s u : State} (h : WriteArrives s u) (j : Nat) : apllReturned u j = apllReturned s j := by
  unfold Machine.apllReturned
  rw [h.apllAt]

theorem WriteArrives.fSource {s u : State} (h : WriteArrives s u) (j : Nat) : fSource u j = fSource s j := by
  unfold Machine.fSource apllN
  rw [h.apCfg j (by decide), h.apCfg j (by decide), h.apCfg j (by decide)]

/-- An accepted write of ENABLE acts on the state in which it arrives, once the APLLs run. -/
theorem exec_apll_enable {s : State} {via : Iface} {j v : Nat} (hlive : Live s) (hj : j < 8) (hboot : bootPast s 5 = true)
    (h : Accepts s via (0x3500 + j) 5 ⟨1, v⟩) :
    ∃ u, WriteArrives s u ∧ exec (.apllEnableWrite via j ⟨1, v⟩) s = .next (apllEnable u j v) := by
  obtain ⟨u, hu, hgo⟩ := exec_synth_write (.apllEnableWrite via j ⟨1, v⟩) hlive hj (apllEntry hj (by decide)) h rfl
  exact ⟨u, hu, hgo.trans (congrArg _ (applySynth_enable v hj ((hu.bootPast 5).trans hboot)))⟩

/-- An accepted command of an APLL acts on the state in which it arrives. -/
theorem exec_apll_command {s : State} {via : Iface} {j v : Nat} (c : Instr) (hlive : Live s) (hj : j < 8)
    (h : Accepts s via (0x3500 + j) 0x12 ⟨1, v⟩) (hc : exec c s = next (live s fun s => namedCommand s via 0x3500 8 j 0x12 v)) :
    ∃ u, WriteArrives s u ∧ exec c s = .next (apllCommand u j v) := by
  obtain ⟨u, hu, hgo⟩ := exec_synth_write c hlive hj (apllEntry hj (by decide)) h hc
  exact ⟨u, hu, hgo.trans (congrArg _ (applySynth_apllCommand u v hj))⟩

theorem apllCommand_relock (s : State) (j : Nat) : apllCommand s j 1 = apllRelock s j := if_pos rfl

theorem apllCommand_clear (s : State) (j : Nat) : apllCommand s j 2 = apllClear s j := (if_neg (by decide)).trans (if_pos rfl)

/-- Settles O27: each row of R217 sets the state with its counters and publishes it; a write comes to S with the APLLs as they were. -/
theorem apllStatesFollowR217 : Obligations.ApllStatesFollowR217 := by
  intro s via j hlive hs hj
  have hlen : j < s.ap.aplls.length := hs.aplls.symm ▸ hj
  refine ⟨fun hacc hboot hoff href _ => ?_, fun hacc hboot hret => ?_, fun hacc hlocked => ?_, fun hacc => ?_, fun band hlocking => ?_,
    fun count hlocking hcounting hpass hlast => ?_, fun count hlocked hfail hlast => ?_, fun hlocking => ?_, fun href hlost => ?_,
    fun hlocked hret => ?_⟩
  · obtain ⟨u, hu, hgo⟩ := exec_apll_enable hlive hj hboot hacc
    rw [← hu.fSource j]
    exact ⟨_, hgo, apllEnable_on (hu.ap ▸ hlen) ((hu.apCfg j (by decide)).trans hoff) (hu.ap ▸ href)⟩
  · obtain ⟨u, hu, hgo⟩ := exec_apll_enable hlive hj hboot hacc
    rw [← hu.apllAt j]
    exact ⟨_, hgo, apllEnable_zero_returned (hu.ap ▸ hlen) ((hu.apllReturned j).trans hret)⟩
  · obtain ⟨u, hu, hgo⟩ := exec_apll_command (.apllRelock via j) hlive hj hacc rfl
    rw [apllCommand_relock] at hgo
    exact ⟨_, hgo, apllRelock_locked (hu.ap ▸ hlen) (by rw [hu.apllAt, hlocked])⟩
  · obtain ⟨u, hu, hgo⟩ := exec_apll_command (.apllClearCounters via j) hlive hj hacc rfl
    rw [apllCommand_clear] at hgo
    rw [← hu.apllAt j]
    exact ⟨_, hgo, apllClear_counters (hu.ap ▸ hlen)⟩
  · refine ⟨_, exec_of_live (f := fun s => bandKept s j band) rfl hlive, ?_⟩
    rw [bandKept_locking hlen band hlocking]
    exact ⟨rfl, rfl, hlocking⟩
  · exact ⟨_, exec_of_live (f := fun s => lockWindow s j count) rfl hlive, lockWindow_locks hlen hlocking hcounting hpass hlast⟩
  · exact ⟨_, exec_of_live (f := fun s => lockWindow s j count) rfl hlive, lockWindow_unlocks hlen hlocked hfail hlast⟩
  · exact ⟨_, exec_of_live (f := fun s => lockingTimeout s j) rfl hlive, lockingTimeout_locking hlen hlocking⟩
  · exact ⟨_, exec_of_live rfl hlive, refRelocked_inputLost hs.aplls hj href hlost⟩
  · exact ⟨_, exec_of_live (f := fun s => returnHoldEnd s j) rfl hlive, returnHoldEnd_returned hlen hs.outs hlocked hret⟩

end Sys2Proof.Machine
end

section
/-! PROOFS. The output paths: OUT_SOURCE, OUT_DIVIDER, OUT_ENABLE, ALIGN and the aligned edge (R227, R228, R230, R233, R234). -/

namespace Sys2Proof.Machine

/-! A write of an entry of an output (3000h+n). -/

theorem linkOfDie_chan {n sub : Nat} (hn : n < 96) : linkOfDie (dieOf (0x3000 + n) sub) = some (n / 16) := by
  have hdie : dieOf (0x3000 + n) sub = n / 16 + 2 := by
    unfold dieOf
    rw [if_pos (by omega), Nat.add_sub_cancel_left]
  unfold linkOfDie
  rw [hdie, if_neg (by omega), if_neg (by omega), Nat.add_sub_cancel]

theorem applyWrite_chan (s : State) (via : Iface) {n sub : Nat} (d : Datum) (hn : n < 96) (hsub : 4 < sub) :
    applyWrite serveRemote s via (0x3000 + n) sub d = applyChan s n sub d.val := by
  unfold applyWrite
  dsimp only
  repeat rw [if_neg (by omega)]
  rw [if_pos (by omega), Nat.add_sub_cancel_left]

/-- A row that is an accepted write of such an entry acts on the state in which the write arrives. -/
theorem exec_chan_write {s : State} {via : Iface} {n sub : Nat} {d : Datum} (c : Instr) (hlive : Live s) (hn : n < 96) (hsub : 4 < sub)
    (h : Accepts s via (0x3000 + n) sub d) (hc : exec c s = next (live s fun s => namedWrite s via 0x3000 96 n sub d)) :
    ∃ u, WriteArrives s u ∧ exec c s = .next (applyChan u n sub d.val) := by
  obtain ⟨u, hu, hw⟩ := named_write_of_link (l := n / 16) (m := 25436834) hn h (by omega) (linkOfDie_chan hn) (by omega)
    (fun u => applyWrite_chan u via d hn hsub) (fun u => applyChan_fits (by decide) (.refl _ u) ..) (by decide) (by decide)
  exact ⟨u, hu, (exec_of_live hc hlive).trans (congrArg _ hw)⟩

namespace WriteArrives
variable {s u : State} (h : WriteArrives s u)
include h

theorem outAt (n : Nat) : u.outAt n = s.outAt n := by
  unfold State.outAt
  rw [h.ap]

theorem chCfg (n : Nat) {sub : Nat} (hsub : sub < 256) : u.chCfg n sub = s.chCfg n sub := h.rd _ _ (by omega) hsub

theorem outApll (n : Nat) : outApll u n = outApll s n := by
  unfold Machine.outApll
  rw [h.chCfg n (by decide)]

theorem apllN (j : Nat) : apllN u j = apllN s j := by
  unfold Machine.apllN
  rw [h.apCfg j (by decide), h.apCfg j (by decide)]

theorem alignEligible (n : Nat) : alignEligible u n = alignEligible s n := by
  unfold Machine.alignEligible
  simp only [h.outAt, h.outApll, h.apllAt, h.chCfg n (show 0x0A < 256 by decide)]

theorem srcHalf (j : Nat) (x : Int) : srcHalf u j x = srcHalf s j x := by
  unfold Machine.srcHalf
  rw [h.apllN, h.apCfg j (by decide)]

theorem srcPos (a : Apll) : srcPos u a = srcPos s a := by
  unfold Machine.srcPos
  rw [h.now]

theorem tcNow (t : Nat) : tcNow u t = tcNow s t := by
  unfold Machine.tcNow State.tcAt
  rw [h.tcs]

theorem alignLead (n : Nat) : alignLead u n = alignLead s n := by
  unfold Machine.alignLead
  simp only [h.outApll, h.srcHalf, h.srcPos, h.apllAt, h.tcNow, h.chCfg n (show 0x0A < 256 by decide),
    h.rd 0x2630 7 (by decide) (by decide)]

theorem alignedPath (n : Nat) : alignedPath u n = alignedPath s n := by
  unfold Machine.alignedPath
  rw [h.outAt, h.alignLead]

end WriteArrives

/-! OUT_SOURCE, OUT_DIVIDER and OUT_ENABLE. -/

section Chan
variable {s : State} {n : Nat}

theorem chCfg_put_ne {a b : Nat} (v : Nat) (ha : a < 256) (hb : b < 256) (h : a ≠ b) :
    (s.put (key (0x3000 + n) b) v).chCfg n a = s.chCfg n a := State.rd_put_ne _ _ fun e => h ((key_inj ha hb).mp e).2

theorem applyChan_source (v : Nat) (hboot : bootPast s 5 = true) :
    applyChan s n 0x0A v = (s.put (key (0x3000 + n) 0x0A) v).when (s.chCfg n 0x0E == 1) fun s => loseAlign s n := by
  unfold applyChan
  rw [hboot]
  rfl

theorem applyChan_divider (v : Nat) (hboot : bootPast s 5 = true) :
    applyChan s n 0x0B v = loseAlign (s.put (key (0x3000 + n) 0x0B) v) n := by
  unfold applyChan
  rw [hboot]
  rfl

theorem applyChan_enable (v : Nat) (hboot : bootPast s 5 = true) : applyChan s n 0x0E v = outEnable s n v := by
  unfold applyChan
  rw [hboot]
  rfl

theorem loseAlign_rd (m : Nat) (k : Key) : (loseAlign s m).rd k = s.rd k := rd_of_od k (loseAlign_changes s m).od

theorem applyChan_source_effect (v : Nat) (hn : n < s.ap.outs.length) (hboot : bootPast s 5 = true) :
    let t := applyChan s n 0x0A v
    t.rd (key (0x3000 + n) 0x0A) = v ∧
      (t.outAt n).unaligned = (s.chCfg n 0x0E == 1 && decide (1 < s.chCfg n 0x0B) || (s.outAt n).unaligned) ∧
      (t.outAt n).running = (s.outAt n).running := by
  rw [applyChan_source v hboot]
  cases s.chCfg n 0x0E == 1 with
  | false => exact ⟨State.rd_put_self .., rfl, rfl⟩
  | true =>
    have hdiv : (s.put (key (0x3000 + n) 0x0A) v).chCfg n 0x0B = s.chCfg n 0x0B := chCfg_put_ne v (by decide) (by decide) (by decide)
    refine ⟨(loseAlign_rd ..).trans (State.rd_put_self ..), ?_, loseAlign_running n⟩
    rw [← hdiv]
    exact loseAlign_unaligned (s := s.put (key (0x3000 + n) 0x0A) v) hn

theorem applyChan_divider_effect (v : Nat) (hn : n < s.ap.outs.length) (hboot : bootPast s 5 = true) :
    let t := applyChan s n 0x0B v
    t.rd (key (0x3000 + n) 0x0B) = v ∧ (t.outAt n).unaligned = (decide (1 < v) || (s.outAt n).unaligned) := by
  have hdiv : (s.put (key (0x3000 + n) 0x0B) v).chCfg n 0x0B = v := State.rd_put_self ..
  have hlost := loseAlign_unaligned (s := s.put (key (0x3000 + n) 0x0B) v) hn
  rw [hdiv] at hlost
  rw [applyChan_divider v hboot]
  exact ⟨(loseAlign_rd ..).trans (State.rd_put_self ..), hlost⟩

theorem outEnable_effect (v : Nat) (hn : n < s.ap.outs.length) :
    let t := outEnable s n v
    t.rd (key (0x3000 + n) 0x0E) = v ∧ (t.outAt n).running = (v == 1) ∧ (t.outAt n).unaligned = (s.outAt n).unaligned ∧
      (t.outAt n).forced = (s.outAt n).forced := by
  have hat : (outEnable s n v).outAt n = _ := State.outAt_setOut (s := s.put (key (0x3000 + n) 0x0E) v) _ hn
  dsimp only
  rw [hat]
  exact ⟨State.rd_put_self .., rfl, rfl, rfl⟩

end Chan

/-! ALIGN (R234). -/

section Align
variable {s : State} {n : Nat}

theorem alignGroups_changes (s : State) (g : Nat) : OutsChanged s (alignGroups s g) := .many (fun n t => alignOne_changes t n) _

/-- ALIGN_GROUPS aligns the outputs of the groups that it names, and no other. -/
theorem alignGroups_outAt (g : Nat) (hlen : s.ap.outs.length = 96) (hn : n < 96) :
    (alignGroups s g).outAt n =
      if bit g (s.chCfg n 0x11) = true ∧ 1 < s.chCfg n 0x0B ∧ alignEligible s n = true then alignedPath s n else s.outAt n := by
  have hkeep : ∀ m, m ≠ n → ∀ t, OutsChanged s t ∧ t.outAt n = s.outAt n → OutsChanged s (alignOne t m) ∧ (alignOne t m).outAt n = s.outAt n :=
    fun m hm t h => ⟨h.1.trans (alignOne_changes t m), (alignOne_outAt_ne hm).trans h.2⟩
  by_cases hgroup : bit g (s.chCfg n 0x11) = true
  · simp only [hgroup, true_and]
    refine many_reaches (P := fun t => OutsChanged s t ∧ t.outAt n = s.outAt n)
      (Q := fun t => t.outAt n = if 1 < s.chCfg n 0x0B ∧ alignEligible s n = true then alignedPath s n else s.outAt n)
      (List.mem_filter.mpr ⟨List.mem_range.mpr hn, hgroup⟩) (List.nodup_range.filter _) hkeep (fun t ⟨hc, hat⟩ => ?_)
      (fun m hm t h => (alignOne_outAt_ne hm).trans h) ⟨.refl s, rfl⟩
    obtain ⟨helig, hpath⟩ := hc.align hat
    rw [alignOne_outAt (hc.length_outs.trans hlen ▸ hn), hc.chCfg, helig, hpath, hat]
  · rw [if_neg fun h => hgroup h.1]
    refine (many_keeps (P := fun t => OutsChanged s t ∧ t.outAt n = s.outAt n) (fun m hm => hkeep m fun e => ?_) ⟨.refl s, rfl⟩).2
    exact hgroup (e ▸ (List.mem_filter.mp hm).2)

end Align

/-! The aligned edge: until it, the sources run on (R233, R234). -/

section Edge
variable {s : State} {n : Nat}

/-- A half-period in the delay and the driver leaves the divider's ALIGN and the forcing as they are (R229, R230). -/
theorem outDelay_keeps (h : Int) (coarse fine : Nat) (edge : Bool) (o : OutPath) :
    (outDelay h coarse fine edge o).reached = o.reached ∧ (outDelay h coarse fine edge o).forced = o.forced := by
  have htake : ∀ o : OutPath, (coarseTake coarse o).reached = o.reached ∧ (coarseTake coarse o).forced = o.forced := fun o => by
    unfold coarseTake
    split <;> exact ⟨rfl, rfl⟩
  unfold outDelay
  dsimp only
  cases edge <;> split <;> exact htake _

/-- The divider counts on: an aligned edge that has come stays noted. -/
theorem outCount_keeps (rising : Bool) (h : Int) {o : OutPath} (hr : o.reached = true) :
    (outCount s n rising h o).reached = true ∧ (outCount s n rising h o).forced = o.forced := by
  have hline : ∀ edge o', o'.reached = true → o'.forced = o.forced →
      (outDelay h (s.chCfg n 0x0C) (s.chCfg n 0x0D) edge o').reached = true ∧
        (outDelay h (s.chCfg n 0x0C) (s.chCfg n 0x0D) edge o').forced = o.forced := fun edge o' hr' hf' => by
    obtain ⟨hdr, hdf⟩ := outDelay_keeps h (s.chCfg n 0x0C) (s.chCfg n 0x0D) edge o'
    exact ⟨hdr.trans hr', hdf.trans hf'⟩
  unfold outCount
  dsimp only
  split
  · split
    · exact hline _ _ rfl rfl
    · exact hline _ _ hr rfl
  · split
    · exact hline _ _ hr rfl
    · split
      · exact hline _ _ hr rfl
      · exact hline _ _ hr rfl

theorem outEdge_keeps (src : Nat) (rising : Bool) (h : Int) {o : OutPath} (hr : o.reached = true) :
    (outEdge s n src rising h o).reached = true ∧ (outEdge s n src rising h o).forced = o.forced := by
  unfold outEdge
  split
  · split
    · exact outCount_keeps (o := { o with high := rising }) rising h hr
    · exact ⟨hr, rfl⟩
  · split
    · dsimp only
      split
      · obtain ⟨hr', hf'⟩ := outCount_keeps (s := s) (n := n) false h hr
        obtain ⟨hr'', hf''⟩ := outCount_keeps (s := s) (n := n) (o := { outCount s n false h o with mux := src, high := true }) true h hr'
        exact ⟨hr'', hf''.trans hf'⟩
      · exact outCount_keeps (o := { o with mux := src, high := true }) true h hr
    · exact ⟨hr, rfl⟩

theorem sourceEdge_outAt (src : Nat) (rising : Bool) (h : Int) (hn : n < s.ap.outs.length) :
    (sourceEdge s src rising h).outAt n = outEdge s n src rising h (s.outAt n) := by
  simp [sourceEdge, State.outAt, List.getD_eq_getElem?_getD, hn]

/-- What the aligned edge of output n looks at, as the sources run. -/
structure EdgeStands (s : State) (n : Nat) (t : State) : Prop where
  od : t.od = s.od
  outs : t.ap.outs.length = s.ap.outs.length
  returned : ∀ j, apllReturned t j = apllReturned s j
  forced : (t.outAt n).forced = (s.outAt n).forced
  reached : (t.outAt n).reached = true

theorem EdgeStands.sourceEdge {t : State} (h : EdgeStands s n t) (hn : n < s.ap.outs.length) (src : Nat) (rising : Bool) (i : Int) :
    EdgeStands s n (sourceEdge t src rising i) := by
  have hat := sourceEdge_outAt src rising i (h.outs.symm ▸ hn)
  obtain ⟨hr, hf⟩ := outEdge_keeps (s := t) (n := n) src rising i h.reached
  refine ⟨h.od, ?_, h.returned, ?_, ?_⟩
  · rw [Machine.sourceEdge, List.length_map, List.length_zipIdx, h.outs]
  · rw [hat, hf, h.forced]
  · rw [hat, hr]

theorem apllReturned_setApll_half (s : State) (i j : Nat) (f : Apll → Int) :
    apllReturned (s.setApll i fun a => { a with half := f a }) j = apllReturned s j := by
  by_cases h : i = j
  · subst h
    by_cases hi : i < s.ap.aplls.length
    · unfold apllReturned
      rw [State.apllAt_setApll _ hi]
    · rw [State.setApll, getD_upd_out _ (Nat.not_lt.mp hi)]
  · unfold apllReturned
    rw [State.apllAt_setApll_ne _ h]

theorem EdgeStands.setHalf {t : State} (h : EdgeStands s n t) (i : Nat) (f : Apll → Int) :
    EdgeStands s n (t.setApll i fun a => { a with half := f a }) :=
  ⟨h.od, h.outs, fun j => (apllReturned_setApll_half t i j f).trans (h.returned j), h.forced, h.reached⟩

theorem EdgeStands.sourceRun {t : State} (h : EdgeStands s n t) (hn : n < s.ap.outs.length) (j : Nat) : EdgeStands s n (sourceRun t j) := by
  unfold Machine.sourceRun
  dsimp only
  split
  · exact (many_keeps (P := EdgeStands s n) (fun i _ t h => h.sourceEdge hn _ _ _) h).setHalf ..
  · exact h

theorem EdgeStands.onBypass {t : State} (h : EdgeStands s n t) : outOnBypass t n = outOnBypass s n := by
  have hcfg : ∀ sub, t.chCfg n sub = s.chCfg n sub := fun sub => rd_of_od _ h.od
  unfold outOnBypass outRole outApll
  simp only [hcfg, h.returned, h.forced]

theorem alignedEdge_reached (hn : n < s.ap.outs.length) (hr : (s.outAt n).reached = true) (hb : outOnBypass s n = false) :
    let t := alignedEdge s n
    (t.outAt n).unaligned = false ∧ (t.outAt n).reached = false ∧ t.od = s.od ∧ t.dr = s.dr := by
  have hrun : EdgeStands s n (sourcesRun s) :=
    many_keeps (P := EdgeStands s n) (fun j _ t h => h.sourceRun hn j) ⟨rfl, rfl, fun _ => rfl, rfl, hr⟩
  have hdr : (sourcesRun s).dr = s.dr := (sourcesRun_fits (fp := 8192) (by decide) (.refl _ s)).dr (by decide)
  unfold alignedEdge
  generalize sourcesRun s = u at hrun hdr ⊢
  dsimp only
  rw [if_pos ⟨hrun.reached, hrun.onBypass.trans hb⟩, State.outAt_setOut _ (hrun.outs.symm ▸ hn)]
  exact ⟨rfl, rfl, hrun.od, hdr⟩

end Edge

/-- Settles O29: a write comes to the path with the source, the APLLs and the counters as they were; ALIGN of one output leaves the paths of
the others; and no edge of a source takes back an aligned edge that has come. -/
theorem outputPathsAlign : Obligations.OutputPathsAlign := by
  intro s via n hlive hs hn
  have hlen : n < s.ap.outs.length := hs.outs.symm ▸ hn
  refine ⟨fun d hacc hboot => ?_, fun d hacc hboot => ?_, fun d hacc hboot => ?_, fun hacc hdiv helig => ?_, fun d hacc => ?_,
    fun hr hb => ?_⟩
  · obtain ⟨u, hu, hgo⟩ := exec_chan_write (.outSourceWrite via n d) hlive hn (by decide) hacc rfl
    rw [← hu.chCfg n (show 0x0E < 256 by decide), ← hu.chCfg n (show 0x0B < 256 by decide), ← hu.outAt n]
    exact ⟨_, hgo, applyChan_source_effect d.val (hu.ap ▸ hlen) ((hu.bootPast 5).trans hboot)⟩
  · obtain ⟨u, hu, hgo⟩ := exec_chan_write (.outDividerWrite via n d) hlive hn (by decide) hacc rfl
    rw [← hu.outAt n]
    exact ⟨_, hgo, applyChan_divider_effect d.val (hu.ap ▸ hlen) ((hu.bootPast 5).trans hboot)⟩
  · obtain ⟨u, hu, hgo⟩ := exec_chan_write (.outEnableWrite via n d) hlive hn (by decide) hacc rfl
    rw [applyChan_enable d.val ((hu.bootPast 5).trans hboot)] at hgo
    rw [← hu.outAt n]
    exact ⟨_, hgo, outEnable_effect d.val (hu.ap ▸ hlen)⟩
  · obtain ⟨u, hu, hgo⟩ := exec_synth_write (i := 0) (.alignOutput via ⟨1, n⟩) hlive (by decide) ⟨.inl rfl, .inl (by decide)⟩ hacc rfl
    refine ⟨alignOne u n, hgo, ?_, fun m hm => ?_, (alignOne_changes u n).dr.trans hu.dr⟩
    · rw [alignOne_outAt (hu.ap ▸ hlen), if_pos ⟨by rwa [hu.chCfg n (by decide)], (hu.alignEligible n).trans helig⟩]
      exact hu.alignedPath n
    · exact (alignOne_outAt_ne (Ne.symm hm)).trans (hu.outAt m)
  · obtain ⟨u, hu, hgo⟩ := exec_synth_write (i := 0) (.alignGroups via d) hlive (by decide) ⟨.inl rfl, .inl (by decide)⟩ hacc rfl
    refine ⟨alignGroups u d.val, hgo, ?_, (alignGroups_changes u d.val).dr.trans hu.dr⟩
    rw [alignGroups_outAt d.val (hu.ap ▸ hs.outs) hn, hu.chCfg n (show 0x11 < 256 by decide), hu.chCfg n (show 0x0B < 256 by decide), hu.alignEligible,
      hu.alignedPath, hu.outAt]
    rfl
  · exact ⟨_, exec_of_live (f := fun s => alignedEdge s n) rfl hlive, alignedEdge_reached hlen hr hb⟩

end Sys2Proof.Machine
end
